-- ==== Sys2Proof/Word.lean ====
section
/-! DEFINITION. The word types of the UL9484 model: a byte, a 16-bit field, and the 32-bit control word of R109. -/

namespace Sys2Proof

/-- One byte of a buffer, a packet or a memory (R109). -/
abbrev Byte := BitVec 8

/-- A 16-bit field of a message or table. -/
abbrev Half := BitVec 16

/-- A 32-bit control word or parameter VALUE (R109, R141). -/
abbrev Word := BitVec 32

/-- A 48-bit count of CK_AON ticks: device time (R7). -/
abbrev DevTime := BitVec 48

/-- The word that holds the natural number `n` modulo 2^32. -/
abbrev Word.of (n : Nat) : Word := BitVec.ofNat 32 n

/-- The byte that holds the natural number `n` modulo 2^8. -/
abbrev Byte.of (n : Nat) : Byte := BitVec.ofNat 8 n

end Sys2Proof
end

