-- ==== Sys2Proof/Kinds.lean ====
section
/-! DEFINITION. The named alternatives of the UL9484: mailboxes, ports, functions, stages, modes and the other enumerations that commands and state share. -/

namespace Sys2Proof

/-- The four mailboxes of R109 and R125. -/
inductive Mb | mb0 | mb1 | mb2 | mb3
deriving DecidableEq, Repr

/-- Where a request came from (MBn_STATUS.ORIGIN, R122), with the Tatting net of MB3 (R125). -/
inductive Origin | ctl | inBand | svc | peer
deriving DecidableEq, Repr

/-- The mailbox states of R124. -/
inductive MbState | idle | pending | busy | done
deriving DecidableEq, Repr

/-- The control ports of R109. -/
inductive Port | ctl | svc
deriving DecidableEq, Repr

/-- The seven functions of R132. -/
inductive Func | overdrive | pricking | applique | dither | hostLink | sensing | raster
deriving DecidableEq, Repr

/-- BOOT_STATUS.STAGE (R105). -/
inductive Stage
  | aonUp | romVerify | fwRunning | profileApplied | running | recovery | limp | unconfigured | shutdown
deriving DecidableEq, Repr

/-- BOOT_STATUS.SLOTn_RESULT (R105). -/
inductive SlotResult
  | notTried | passed | badHeader | badSignature | rollback | bootWatchdog | norReadError
deriving DecidableEq, Repr

/-- The strap levels of R45 and R46. -/
structure Straps where
  vioHigh : Bool
  svcAddr : BitVec 2
  tatRoot : Bool
  bootSlot : Bool
  pairRight : Bool
deriving DecidableEq, Repr

/-- Whether the CTL port or the table's own entry writes or reads an address (R109, R111, R114). -/
inductive RegAccess
  | write (addr : BitVec 16) (data : BitVec 32)
  | read (addr : BitVec 16)
  | badOpcode
deriving DecidableEq, Repr

/-- The timing modes of TIM.MODE (R237). -/
inductive Mode | source | fixed | lattice | hold
deriving DecidableEq, Repr

/-- The two Vorul lane groups (R171) and, for the drive side, the two halves (R16). -/
inductive Side | left | right
deriving DecidableEq, Repr

/-- The three Tatting ports (R410). -/
inductive TatPort | up | dn0 | dn1
deriving DecidableEq, Repr

/-- The wake sources, in the bit order of WAKE_CAUSE (R123, R512). -/
inductive WakeSource | hlActivity | hlWake | picot | ctl | svc | thermal | timer | pfw
deriving DecidableEq, Repr

/-- The fetch and write clients of the memory controller, numbered as in EV_MEM_ABORT with 6 the stress client (R291, R292). -/
inductive MemClient | hoopScan | attainedRead | pricking | layers | conceal | stress | hoopWrite | attainedWrite
deriving DecidableEq, Repr

/-- Severity of an event or log entry (R454). -/
inductive Severity | info | warning | error | fatal
deriving DecidableEq, Repr

/-- A 130-bit block of one Vorul lane, bit 0 sent first: the sync header, then 16 payload bytes, each least significant bit first (R173). -/
abbrev LinkBlock := BitVec 130

/-- The block sets that carry a packet on a stream, and the instant of the last of them (R173, R174). -/
structure LinkBurst where
  at_ : Nat
  sets : List (List LinkBlock)
deriving DecidableEq, Repr

/-- What DESKEW finds on a group's lanes: the delay in UI added to each, and the TS2 it shows (R175, R179). -/
structure DeskewLanes where
  delays : List (BitVec 5)
  ts2 : List LinkBlock
deriving DecidableEq, Repr

/-- An instant at which a frame may start, and the fill of the two groups' elastic FIFOs at it (R20). -/
structure FrameTick where
  at_ : Nat
  fifoA : BitVec 6
  fifoB : BitVec 6
deriving DecidableEq, Repr

/-- A GDDR7 burst: its bytes, and whether a read's error-detection code failed (R275). -/
structure Burst where
  bytes : Nat
  edcFail : Bool
deriving DecidableEq, Repr

/-- What EQUALIZE measures on one lane (R177): eye heights in mV at each bandwidth and peaking (index 16 × bandwidth + dB), and the final height and width. -/
structure LaneEye where
  heights : List (BitVec 10)
  height : BitVec 10
  width : BitVec 7
deriving DecidableEq, Repr

end Sys2Proof
end

