-- ==== Sys2Proof/Syntax.lean ====
section
/-! DEFINITION. The commands the UL9484 takes from outside and the events that change its state: one constructor per row of the opcode table. -/

namespace Sys2Proof

/-- The commands of spec/opcode_table.json, one constructor per row. Operands are what arrives with the command: a port, a mailbox, the 130-bit blocks that carry a Vorul packet, one list per block set, lane by lane, an instant in ticks of the 1.2 GHz raster reference (`at_`), a Tatting timestamp in 1/16 ns, or what only the outside can know (a measured voltage, the GDDR7 bursts granted, a driver reply). -/
inductive Instr
  /-- AON_POWER_UP (R82). -/
  | aonPowerUp (vinMv : BitVec 16)
  /-- STRAP_SAMPLE (R46). -/
  | strapSample (straps : Straps)
  /-- RESONATOR_CHECK (R103). -/
  | resonatorCheck (oscillates : Bool) (milliPercent : BitVec 32)
  /-- VIN_BOOT_MEASURE (R64). -/
  | vinBootMeasure (vinMv : BitVec 16)
  /-- ROOT_PLL_LOCK (R82). -/
  | rootPllLock
  /-- BOOT_ROM_CHECK_DONE (R87). -/
  | bootRomCheckDone (readError : Bool)
  /-- BOOT_WATCHDOG_EXPIRY (R88). -/
  | bootWatchdogExpiry
  /-- FIRMWARE_WATCHDOG_EXPIRY (R99). -/
  | firmwareWatchdogExpiry
  /-- SAMPLER_SCAN_DONE (R483). -/
  | samplerScanDone
  /-- MEM_READY (R82). -/
  | memReady
  /-- PERSISTED_TABLE_LOAD_DONE (R306). -/
  | persistedTableLoadDone (table : BitVec 16)
  /-- MAP_LOAD_DONE (R349). -/
  | mapLoadDone
  /-- MAP_WAIT_LIMIT_EXPIRY (R85). -/
  | mapWaitLimitExpiry
  /-- RASTER_START (R82). -/
  | rasterStart (tick : FrameTick)
  /-- STRESS_SNAPSHOT_LOAD_DONE (R349). -/
  | stressSnapshotLoadDone
  /-- CLIP_LOAD_DONE (R368). -/
  | clipLoadDone (inst : BitVec 8)
  /-- RESET_N_ASSERT (R99). -/
  | resetNAssert
  /-- RESET_N_RELEASE (R99). -/
  | resetNRelease (straps : Straps)
  /-- LOCKSTEP_RESET (R99). -/
  | lockstepReset
  /-- PLL_LOSS_OF_LOCK (R99). -/
  | pllLossOfLock
  /-- UNDERVOLTAGE_LOCKOUT (R63). -/
  | undervoltageLockout
  /-- HARDWARE_SAFE_STOP_END (R99). -/
  | hardwareSafeStopEnd
  /-- JTAG_TRST (R99). -/
  | jtagTrst
  /-- THERMAL_SAMPLE (R524). -/
  | thermalSample (die : List (BitVec 16)) (mem0 mem1 : BitVec 16)
  /-- THM_RELEASE_EXPIRY (R528). -/
  | thmReleaseExpiry
  /-- RISE_TRIGGER_REARM (R528). -/
  | riseTriggerRearm
  /-- THERMAL_REQUEST_REPEAT (R530). -/
  | thermalRequestRepeat
  /-- PFW_ASSERT (R520). -/
  | pfwAssert (vinMv : BitVec 16)
  /-- PFW_SAVE_DONE (R495). -/
  | pfwSaveDone
  /-- PFW_DEASSERT (R496). -/
  | pfwDeassert (vinMv : BitVec 16)
  /-- PFW_RECOVER_EXPIRY (R520). -/
  | pfwRecoverExpiry
  /-- CTL_READ_STATUS (R111). -/
  | ctlReadStatus
  /-- REG_WRITE (R118). -/
  | regWrite (port : Port) (access : RegAccess)
  /-- TIME_LO_READ (R118). -/
  | timeLoRead (port : Port)
  /-- RESET_KEY_WRITE (R101). -/
  | resetKeyWrite (port : Port) (data : Word)
  /-- IRQ_STATUS_CLEAR (R120). -/
  | irqStatusClear (port : Port) (data : Word)
  /-- FAULT_CAUSE_CLEAR (R104). -/
  | faultCauseClear (port : Port) (data : Word)
  /-- WAKE_CAUSE_CLEAR (R123). -/
  | wakeCauseClear (port : Port) (data : Word)
  /-- PORT_ERRORS_CLEAR (R118). -/
  | portErrorsClear (port : Port) (data : Word)
  /-- MB_DOORBELL (R124). -/
  | mbDoorbell (mb : Mb) (data : Word)
  /-- MB_RELEASE (R124). -/
  | mbRelease (mb : Mb) (data : Word)
  /-- CTL_PACKET (R117). -/
  | ctlPacket (side : Side) (burst : LinkBurst)
  /-- UNKNOWN_COMMAND (R128). -/
  | unknownCommand (mb : Mb)
  /-- IDENT (R132). -/
  | ident (mb : Mb)
  /-- PARAM_GET (R132). -/
  | paramGet (mb : Mb)
  /-- PARAM_SET (R143). -/
  | paramSet (mb : Mb)
  /-- PARAM_GET_MULTI (R132). -/
  | paramGetMulti (mb : Mb)
  /-- PARAM_SET_MULTI (R132). -/
  | paramSetMulti (mb : Mb)
  /-- LOG_CLEAR (R455). -/
  | logClear (mb : Mb)
  /-- LOG_FIRST_FAULT_CLEAR (R456). -/
  | logFirstFaultClear (mb : Mb)
  /-- PWR_RES_CLEAR (R521). -/
  | pwrResClear (mb : Mb)
  /-- COMMIT (R152). -/
  | commit (mb : Mb)
  /-- COMMIT_STATUS (R160). -/
  | commitStatus (mb : Mb)
  /-- DISCARD (R159). -/
  | discard (mb : Mb)
  /-- FUNC_STOP (R161). -/
  | funcStop (mb : Mb)
  /-- FUNC_START (R163). -/
  | funcStart (mb : Mb)
  /-- FUNC_STATE (R132). -/
  | funcState (mb : Mb)
  /-- MODE_CHANGE (R256). -/
  | modeChange (mb : Mb)
  /-- FUNC_RESET (R133). -/
  | funcReset (mb : Mb)
  /-- TABLE_LOAD (R169). -/
  | tableLoad (mb : Mb)
  /-- TABLE_READ (R170). -/
  | tableRead (mb : Mb)
  /-- PROFILE_APPLY (R138). -/
  | profileApply (mb : Mb)
  /-- VOTE (R510). -/
  | vote (mb : Mb)
  /-- PWR_STATE (R511). -/
  | pwrState (mb : Mb)
  /-- STANDBY_ENTRY (R511). -/
  | standbyEntry
  /-- LOG_READ (R455). -/
  | logRead (mb : Mb)
  /-- STATS_READ (R451). -/
  | statsRead (mb : Mb)
  /-- NV_READ (R489). -/
  | nvRead (mb : Mb) (pageFails : Bool)
  /-- NV_WRITE_RECORD (R481). -/
  | nvWriteRecord (mb : Mb)
  /-- NOR_PROGRAM_DONE (R479). -/
  | norProgramDone (mismatch : Bool)
  /-- NV_RAW_PROGRAM (R490). -/
  | nvRawProgram (mb : Mb)
  /-- NV_ERASE (R489). -/
  | nvErase (mb : Mb)
  /-- NV_ERASE_DONE (R489). -/
  | nvEraseDone (failed : List Nat)
  /-- SAMPLER_COMPACTION (R486). -/
  | samplerCompaction (bank1 : Bool)
  /-- NAND_STORE_DONE (R500). -/
  | nandStoreDone (object : Word) (failed : Bool)
  /-- CMP_RUN (R471). -/
  | cmpRun (mb : Mb)
  /-- CMP_CONTAINER_DONE (R468). -/
  | cmpContainerDone
  /-- SEC_SESSION (R212). -/
  | secSession (mb : Mb)
  /-- HELLO (R215). -/
  | hello (side : Side) (burst : LinkBurst)
  /-- FINISH (R215). -/
  | finish (side : Side) (burst : LinkBurst)
  /-- NONCE_EXPIRY (R232). -/
  | nonceExpiry
  /-- SEC_APPROVE (R231). -/
  | secApprove (mb : Mb)
  /-- APPROVAL_BUNDLE_CHECK_DONE (R233). -/
  | approvalBundleCheckDone
  /-- SEC_STATUS (R232). -/
  | secStatus (mb : Mb)
  /-- SEC_FW_UPDATE (R228). -/
  | secFwUpdate (mb : Mb)
  /-- FW_IMAGE_CHECK_DONE (R228). -/
  | fwImageCheckDone
  /-- TAT_ENUMERATE (R414). -/
  | tatEnumerate (mb : Mb)
  /-- TAT_STAGE (R425). -/
  | tatStage (mb : Mb)
  /-- TAT_ARM (R427). -/
  | tatArm (mb : Mb)
  /-- TAT_ABORT (R430). -/
  | tatAbort (mb : Mb)
  /-- TAT_STATUS (R426). -/
  | tatStatus (mb : Mb)
  /-- PANEL_ON (R401). -/
  | panelOn (mb : Mb)
  /-- PANEL_OFF (R402). -/
  | panelOff (mb : Mb)
  /-- PANEL_SAFE_STOP (R402). -/
  | panelSafeStop (mb : Mb)
  /-- EYE_SET (R442). -/
  | eyeSet (mb : Mb)
  /-- EYE_READ (R442). -/
  | eyeRead (mb : Mb)
  /-- HL_ACTIVITY_QUALIFIED (R205). -/
  | hlActivityQualified (side : Side)
  /-- HL_WAKE_PATTERN (R205). -/
  | hlWakePattern (side : Side)
  /-- HL_WAKE_GLITCH (R205). -/
  | hlWakeGlitch (side : Side)
  /-- HL_RECEIVE_PLL_LOCK (R179). -/
  | hlReceivePllLock (side : Side) (rate : BitVec 14)
  /-- HL_BLOCK_LOCK (R179). -/
  | hlBlockLock (side : Side) (phases : List (BitVec 6))
  /-- HL_EQUALIZE_DONE (R177). -/
  | hlEqualizeDone (side : Side) (eyes : List LaneEye)
  /-- HL_DESKEW_DONE (R179). -/
  | hlDeskewDone (side : Side) (skew : BitVec 16) (lanes : DeskewLanes)
  /-- HL_TRAIN_TIMEOUT (R181). -/
  | hlTrainTimeout (side : Side) (lane : BitVec 8)
  /-- HL_TRAIN_BACKOFF_EXPIRY (R181). -/
  | hlTrainBackoffExpiry
  /-- HL_CLOCK_LOST (R182). -/
  | hlClockLost (side : Side) (activity : Bool)
  /-- HL_BLOCK_ERROR (R182). -/
  | hlBlockError (side : Side) (lane : Fin 8) (incoming : Nat × LinkBlock)
  /-- HL_TS1_RETRAIN (R182). -/
  | hlTs1Retrain (incoming : Side × List LinkBlock)
  /-- HL_SOF (R175). -/
  | hlSof (incoming : Side × List LinkBlock)
  /-- HL_EIOS (R203). -/
  | hlEios
  /-- HL_FS (R244). -/
  | hlFs (side : Side) (at_ : Nat) (sets : List (List LinkBlock))
  /-- HL_ROW (R196). -/
  | hlRow (side : Side) (at_ : Nat) (first : List LinkBlock) (rest : List (List LinkBlock))
  /-- HL_FE (R222). -/
  | hlFe (side : Side) (at_ : Nat) (sets : List (List LinkBlock))
  /-- HL_SURF (R193). -/
  | hlSurf (side : Side) (at_ : Nat) (sets : List (List LinkBlock))
  /-- HL_SLEEP (R204). -/
  | hlSleep (side : Side) (burst : LinkBurst)
  /-- HL_KEEP (R194). -/
  | hlKeep (side : Side) (burst : LinkBurst)
  /-- PACKET_HEADER_CRC_FAIL (R185). -/
  | packetHeaderCrcFail (incoming : Side × LinkBurst)
  /-- HL_UNKNOWN_PKT (R186). -/
  | hlUnknownPkt (incoming : Side × LinkBurst)
  /-- BACK_CHANNEL_SEND (R201). -/
  | backChannelSend
  /-- STATUS_TIMER (R202). -/
  | statusTimer
  /-- FRAME_START (R238). -/
  | frameStart (at_ : Nat) (fifoA fifoB : BitVec 6)
  /-- ROW_SLOT_START (R26). -/
  | rowSlotStart (at_ : Nat) (bursts : List Burst) (blockFail nextFail : Bool)
  /-- VERTICAL_BLANK_START (R153). -/
  | verticalBlankStart (at_ : Nat)
  /-- REPEAT_DEADLINE (R246). -/
  | repeatDeadline (tick : FrameTick)
  /-- PREDICTIVE_REPEAT (R246). -/
  | predictiveRepeat (tick : FrameTick)
  /-- TIMING_GENERATOR_PERIOD (R247). -/
  | timingGeneratorPeriod (tick : FrameTick)
  /-- LADDER_DWELL_EXPIRY (R263). -/
  | ladderDwellExpiry (at_ : Nat)
  /-- CONTINUITY_DELAY_EXPIRY (R254). -/
  | continuityDelayExpiry (at_ : Nat)
  /-- CLIP_STEP_DUE (R370). -/
  | clipStepDue (at_ : Nat)
  /-- MEM_SLEEP_ENTRY (R278). -/
  | memSleepEntry (at_ : Nat) (bursts : List Burst)
  /-- MEM_SLEEP_EXIT (R278). -/
  | memSleepExit (at_ : Nat) (bursts : List Burst)
  /-- RESIDENCE_COMPRESS_DONE (R282). -/
  | residenceCompressDone
  /-- OD_TABLE_COPY_DONE (R305). -/
  | odTableCopyDone
  /-- SENSED_ROW (R396). -/
  | sensedRow (slot : Fin 4)
  /-- SENSE_RETURN_REPLY (R394). -/
  | senseReturnReply (lane : Fin 6) (codes : List (BitVec 10))
  /-- REPLY_TIMEOUT (R394). -/
  | replyTimeout (lane : Fin 6)
  /-- TEMP_POLL (R395). -/
  | tempPoll
  /-- UPDATE_PASS (R344). -/
  | updatePass
  /-- SNAPSHOT_START (R347). -/
  | snapshotStart
  /-- SNAPSHOT_COMPLETE (R346). -/
  | snapshotComplete (failed : Bool)
  /-- SNAPSHOT_OVERRUN (R347). -/
  | snapshotOverrun
  /-- MAP_STORE_DONE (R330). -/
  | mapStoreDone (table : BitVec 16) (failed : Bool)
  /-- REST_SWEEP_ROW (R339). -/
  | restSweepRow (results : List (BitVec 16))
  /-- REST_LIMIT_EXPIRY (R340). -/
  | restLimitExpiry
  /-- PANEL_POWER_ON_STEP (R401). -/
  | panelPowerOnStep
  /-- BOBBIN_TRAINING_PHASE_END (R388). -/
  | bobbinTrainingPhaseEnd
  /-- BOB_LOCK_N_FALL (R390). -/
  | bobLockNFall
  /-- BOB_LOCK_N_RISE (R390). -/
  | bobLockNRise
  /-- DISCHARGE_STEP_END (R403). -/
  | dischargeStepEnd
  /-- PANEL_POWER_OFF_STEP (R403). -/
  | panelPowerOffStep
  /-- TAT_PORT_UP (R411). -/
  | tatPortUp (port : TatPort)
  /-- TAT_CODE_ERROR (R411). -/
  | tatCodeError (port : TatPort) (at_ : Nat)
  /-- TAT_PORT_SILENCE (R411). -/
  | tatPortSilence (port : TatPort)
  /-- TAT_MSG_CRC_FAIL (R411). -/
  | tatMsgCrcFail (incoming : TatPort × List (BitVec 10))
  /-- DELAY_REQ_TIMER (R416). -/
  | delayReqTimer (sent : Nat)
  /-- DELAY_REQ (R416). -/
  | delayReq (port : TatPort) (arrived sent : Nat) (codes : List (BitVec 10))
  /-- DELAY_RESP (R416). -/
  | delayResp (arrived : Nat) (codes : List (BitVec 10))
  /-- DELAY_RESP_TIMEOUT (R416). -/
  | delayRespTimeout
  /-- BEACON_SEND (R419). -/
  | beaconSend
  /-- BEACON (R420). -/
  | beacon (port : TatPort) (arrived sent0 sent1 : Nat) (codes : List (BitVec 10))
  /-- BEACON_MISSING (R432). -/
  | beaconMissing
  /-- ENUM (R414). -/
  | enumerate (port : TatPort) (codes : List (BitVec 10))
  /-- ENUM_DONE (R414). -/
  | enumDone (port : TatPort) (codes : List (BitVec 10))
  /-- ENUM_TIMEOUT (R414). -/
  | enumTimeout (port : TatPort)
  /-- STAGE (R425). -/
  | stageFragment (port : TatPort) (codes : List (BitVec 10))
  /-- COUNT_UP (R426). -/
  | countUp (port : TatPort) (codes : List (BitVec 10))
  /-- TAT_STAGE_TIMEOUT (R425). -/
  | tatStageTimeout
  /-- SET_REQ (R429). -/
  | setReq (port : TatPort) (codes : List (BitVec 10))
  /-- ABORT (R430). -/
  | abortEpoch (port : TatPort) (codes : List (BitVec 10))
  /-- PEER (R437). -/
  | peer (port : TatPort) (codes : List (BitVec 10))
  /-- PAIR_FRAME (R435). -/
  | pairFrame (arrived : Nat) (codes : List (BitVec 10))
  /-- PAIR_STROBE (R435). -/
  | pairStrobe (arrived : Nat)
  /-- PAIR_EVENT (R436). -/
  | pairEvent (port : TatPort) (codes : List (BitVec 10))
  /-- PAIR_EVENT_REPEAT (R436). -/
  | pairEventRepeat
  /-- CTL_CS_WAKE (R512). -/
  | ctlCsWake
  /-- SVC_ADDRESS_MATCH (R512). -/
  | svcAddressMatch
  /-- PICOT_ACTIVITY (R512). -/
  | picotActivity
  /-- WAKE_TIMER_EXPIRY (R512). -/
  | wakeTimerExpiry
  /-- WAKE_VOTE_LAPSE (R512). -/
  | wakeVoteLapse
  /-- IDLE_TIMER_EXPIRY (R509). -/
  | idleTimerExpiry (d : Fin 19)
  /-- DOMAIN_ENTRY_DONE (R507). -/
  | domainEntryDone (d : Fin 19)
  /-- WAKE_GRANT (R516). -/
  | wakeGrant
  /-- DOMAIN_WAKE_DONE (R507). -/
  | domainWakeDone (d : Fin 19)
  /-- WAKE_FAILURE_TIMEOUT (R518). -/
  | wakeFailureTimeout (d : Fin 19) (clockLock : Bool)
  /-- RETRY_OFF_EXPIRY (R518). -/
  | retryOffExpiry (d : Fin 19)
  /-- STAT_MAX_TIME_EXPIRY (R449). -/
  | statMaxTimeExpiry
  /-- UPDATE_PASS_DONE (R345). -/
  | updatePassDone
  /-- SEC_KEY_AGREEMENT_DONE (R212). -/
  | secKeyAgreementDone
  /-- CTL_CS_N_RISE (R112). -/
  | ctlCsNRise (leftover : BitVec 5)
  /-- SVC_STOP (R114). -/
  | svcStop (leftover : BitVec 2)
deriving DecidableEq, Repr

end Sys2Proof
end

