-- ==== Sys2Proof/Decode.lean ====
section
/-! DEFINITION. The command a table word spells. Every row of spec/opcode_table.json has an empty list of fields, so no word spells a command: commands reach the block as packets, mailbox requests, pins and timers. -/

namespace Sys2Proof

/-- No row of the table gives bits, so no word spells a command. -/
def decodeTableWord (_nbits _w : Nat) : Option Instr := none

end Sys2Proof
end

