-- ==== Sys2Proof/Machine/Bytes.lean ====
section
/-! DEFINITION. Byte order, bit fields, sign extension and the three CRCs of the UL9484. -/

namespace Sys2Proof.Machine

/-- Byte `i` of a buffer; a byte never written reads 0x00 (R126, R170). -/
def byteAt (b : List Byte) (i : Nat) : Byte := b.getD i 0

/-- The little-endian number of `n` bytes at offset `o` (R126). -/
def leAt (b : List Byte) (o : Nat) : Nat → Nat
  | 0 => 0
  | n + 1 => (byteAt b o).toNat + 256 * leAt b (o + 1) n

/-- Little-endian 16-bit field. -/
def le2 (b : List Byte) (o : Nat) : Nat := leAt b o 2

/-- Little-endian 32-bit field. -/
def le4 (b : List Byte) (o : Nat) : Nat := leAt b o 4

/-- The `n` little-endian bytes of `v` modulo 256^n (R126). -/
def toLe : Nat → Nat → List Byte
  | 0, _ => []
  | n + 1, v => Byte.of (v % 256) :: toLe n (v / 256)

/-- The big-endian number of a byte list. -/
def beNat (b : List Byte) : Nat := b.foldl (fun a x => 256 * a + x.toNat) 0

/-- `n` bytes of a buffer from offset `o`, reading 0x00 past its end. -/
def slice (b : List Byte) (o n : Nat) : List Byte := (List.range n).map fun i => byteAt b (o + i)

/-- The buffer with the bytes `d` laid over it from offset `o`; it grows when they run past its end. -/
def overlay (b : List Byte) (o : Nat) (d : List Byte) : List Byte :=
  slice b 0 o ++ d ++ b.drop (o + d.length)

/-- `n` copies of 0x00. -/
def zeros (n : Nat) : List Byte := List.replicate n 0

/-- The ASCII bytes of a label. -/
def ascii (label : String) : List Byte := label.toList.map fun c => Byte.of c.toNat

/-- Bits [hi:lo] of a number. -/
def bits (v hi lo : Nat) : Nat := (v / 2 ^ lo) % 2 ^ (hi + 1 - lo)

/-- Bit `i` of a number. -/
def bit (v i : Nat) : Bool := v.testBit i

/-- 1 for true, 0 for false. -/
def b2n (b : Bool) : Nat := if b then 1 else 0

/-- The two's-complement reading of the low `w` bits of `v` (R141). -/
def signed (w v : Nat) : Int :=
  let u := v % 2 ^ w
  if 2 ^ (w - 1) ≤ u then (u : Int) - (2 ^ w : Nat) else (u : Int)

/-- The `w`-bit two's-complement code of `i`. -/
def unsigned (w : Nat) (i : Int) : Nat := (i % ((2 ^ w : Nat) : Int)).toNat

/-- `v` held at `m` when it would pass it. -/
def sat (m v : Nat) : Nat := min m v

/-- `i` held between `lo` and `hi`. -/
def clampInt (lo hi i : Int) : Int := max lo (min hi i)

/-- One bit of a reflected CRC register with polynomial `poly`. -/
def crcBit (poly : Nat) (r : Nat) : Nat := if r % 2 = 1 then (r / 2) ^^^ poly else r / 2

/-- One byte of a reflected CRC register. -/
def crcByte (poly : Nat) (r : Nat) (b : Byte) : Nat := Nat.repeat (crcBit poly) 8 (r ^^^ b.toNat)

/-- The running CRC-32C register after more bytes (R189); it starts at 0xFFFF_FFFF. -/
def crc32cRun (r : Nat) (bs : List Byte) : Nat := bs.foldl (crcByte 0x82F63B78) r

/-- CRC-32C of R189: reflected polynomial 0x1EDC6F41, initial and final XOR 0xFFFF_FFFF. -/
def crc32c (bs : List Byte) : Nat := crc32cRun 0xFFFFFFFF bs ^^^ 0xFFFFFFFF

/-- One byte of a left-shifting CRC register of `w` bits. -/
def crcLeft (w poly : Nat) (r : Nat) (b : Byte) : Nat :=
  Nat.repeat (fun x => if x.testBit (w - 1) then (2 * x % 2 ^ w) ^^^ poly else 2 * x % 2 ^ w) 8
    (r ^^^ (b.toNat * 2 ^ (w - 8)))

/-- CRC-8 of R184: polynomial x^8 + x^2 + x + 1, initial value 0xFF, no reflection, no final XOR. -/
def crc8 (bs : List Byte) : Nat := bs.foldl (crcLeft 8 0x07) 0xFF

/-- CRC-16 of R200: polynomial x^16 + x^12 + x^5 + 1, initial value 0xFFFF, no reflection. -/
def crc16 (bs : List Byte) : Nat := bs.foldl (crcLeft 16 0x1021) 0xFFFF

/-- A mask over `n` bits. -/
def maskOf (n : Nat) (f : Nat → Bool) : Nat := (List.range n).foldl (fun acc i => acc + 2 ^ i * b2n (f i)) 0

end Sys2Proof.Machine
end

