-- ==== Sys2Proof/Machine/EightTen.lean ====
section
/-! DEFINITION. The 8b/10b code of IEEE 802.3 Clause 36 that HL_BC, the Tatting ports and the sense-return lanes carry, and the framing of their messages (R200, R393, R410). The code's tables stand in the standard that the rule names, not in the spec (PRESUMED, assumption 81). -/

namespace Sys2Proof.Machine

/-- A character before coding: a data byte, or one of the control characters that R200 and R410 use. -/
inductive Char8 | data (b : Byte) | k27_7 | k28_0 | k28_5 | k29_7
deriving DecidableEq, Repr

/-- The 5b/6b sub-blocks of D0 to D31 at negative running disparity, bit a first, as a binary number abcdei. -/
def sixMinus : List Nat :=
  [0b100111, 0b011101, 0b101101, 0b110001, 0b110101, 0b101001, 0b011001, 0b111000,
   0b111001, 0b100101, 0b010101, 0b110100, 0b001101, 0b101100, 0b011100, 0b010111,
   0b011011, 0b100011, 0b010011, 0b110010, 0b001011, 0b101010, 0b011010, 0b111010,
   0b110011, 0b100110, 0b010110, 0b110110, 0b001110, 0b101110, 0b011110, 0b101011]

/-- The 3b/4b sub-blocks of D.x.0 to D.x.7 at negative running disparity, as a binary number fghj. -/
def fourMinus : List Nat := [0b1011, 0b1001, 0b0101, 0b1100, 0b1101, 0b1010, 0b0110, 0b1110]

/-- The ones among the low `n` bits. -/
def onesIn (n v : Nat) : Nat := ((List.range n).filter fun i => v.testBit i).length

/-- A sub-block of `n` bits, given as it stands at negative disparity, at the disparity in force: its complement at positive disparity, unless it is balanced and not one of the two kinds that alternate. -/
def subBlock (n alt v : Nat) (minus : Bool) : Nat :=
  if minus || (onesIn n v == n / 2 && v != alt) then v else 2 ^ n - 1 - v

/-- The running disparity after a sub-block: an unbalanced one changes its sign. -/
def disparity (n v : Nat) (minus : Bool) : Bool := if onesIn n v == n / 2 then minus else !minus

/-- The two sub-blocks of a character and the running disparity after it. -/
def encode810 (c : Char8) (minus : Bool) : Nat × Nat × Bool :=
  let six : Nat := match c with
    | .data b => sixMinus.getD (b.toNat % 32) 0
    | .k27_7 => 0b110110
    | .k28_0 => 0b001111
    | .k28_5 => 0b001111
    | .k29_7 => 0b101110
  let a := subBlock 6 0b111000 six minus
  let m := disparity 6 a minus
  let four : Nat := match c with
    | .data b =>
      let (x, y) := (b.toNat % 32, b.toNat / 32)
      let alternate := y == 7 && (if m then x == 17 || x == 18 || x == 20 else x == 11 || x == 13 || x == 14)
      if alternate then (if m then 0b0111 else 0b1000) else subBlock 4 0b1100 (fourMinus.getD y 0) m
    | .k28_0 => if m then 0b1011 else 0b0100
    | .k28_5 => if m then 0b0101 else 0b1010
    | _ => if m then 0b0111 else 0b1000
  (a, four, disparity 4 four m)

/-- Bits of a binary number of `n` digits in the order sent, the first as bit 0. -/
def sentBits : Nat → Nat → Nat
  | 0, _ => 0
  | n + 1, v => v / 2 ^ n % 2 + 2 * sentBits n (v % 2 ^ n)

/-- The code groups of a run of characters, bit a of each as bit 0, and the running disparity after it. -/
def encodeRun : List Char8 → Bool → List (BitVec 10) × Bool
  | [], m => ([], m)
  | c :: cs, m =>
    let (six, four, m1) := encode810 c m
    let (rest, m2) := encodeRun cs m1
    (BitVec.ofNat 10 (sentBits 10 (16 * six + four)) :: rest, m2)

/-- The running disparity after `n` characters K28.5, each of which changes it. -/
def afterIdle (n : Nat) (minus : Bool) : Bool := if n % 2 = 0 then minus else !minus

/-- The characters of a message: K27.7, TYPE, LENGTH, payload, CRC-16 over those three low byte first, K29.7 (R200). -/
def frameChars (type : Nat) (payload : List Byte) : List Char8 :=
  let body := [Byte.of type] ++ toLe 2 payload.length ++ payload
  [.k27_7] ++ (body ++ toLe 2 (crc16 body)).map .data ++ [.k29_7]

/-- Characters go out at instant `now` on a lane whose latest character ended at `last`, 20 ticks each, behind the K28.5 characters that filled it since: their code groups, the running disparity after them, and the instant the last one ends (R200, R410). -/
def transmit (chars : List Char8) (now last : Nat) (minus : Bool) : List (BitVec 10) × Bool × Nat :=
  let idle := (now - last) / 20
  let (wire, m) := encodeRun chars (afterIdle idle minus)
  (wire, m, last + 20 * (idle + chars.length))

/-! ## Receiving -/

/-- The character that a code group stands for at a running disparity, and the disparity after it; none for a code or disparity error. -/
def decode810 (w : BitVec 10) (minus : Bool) : Option (Char8 × Bool) :=
  let xs := (List.range 32).filter fun x => sentBits 6 (subBlock 6 0b111000 (sixMinus.getD x 0) minus) == w.toNat % 64
  let chars : List Char8 := [.k27_7, .k28_0, .k28_5, .k29_7] ++ xs.flatMap fun x => (List.range 8).map fun y => .data (Byte.of (32 * y + x))
  chars.findSome? fun c =>
    let (six, four, m) := encode810 c minus
    if sentBits 10 (16 * six + four) = w.toNat then some (c, m) else none

/-- The characters of a run of code groups; none where one of them is in error. -/
def decodeRun : List (BitVec 10) → Bool → Option (List Char8)
  | [], _ => some []
  | w :: ws, m => (decode810 w m).bind fun r => (decodeRun ws r.2).map (r.1 :: ·)

/-- The data bytes of a run of characters that holds nothing else. -/
def dataBytes : List Char8 → Option (List Byte)
  | [] => some []
  | .data b :: cs => (dataBytes cs).map (b :: ·)
  | _ :: _ => none

/-- What stands between K27.7 and K29.7, behind at least `pre` characters K28.5 (R200, R393); K28.0 is removed before decoding (R410). -/
def frameBody (pre : Nat) (cs : List Char8) : Option (List Byte) :=
  let cs := cs.filter (· != .k28_0)
  let rest := cs.dropWhile (· == .k28_5)
  if cs.length < rest.length + pre then none
  else match rest with
    | .k27_7 :: body => if body.getLast? = some .k29_7 then dataBytes body.dropLast else none
    | _ => none

/-- A message's TYPE and payload, when its LENGTH and CRC-16 are right (R200, R411). -/
def messageOf (b : List Byte) : Option (Nat × List Byte) :=
  let n := le2 b 1
  if b.length = n + 5 && le2 b (n + 3) == crc16 (b.take (n + 3)) then some ((byteAt b 0).toNat, slice b 3 n) else none

end Sys2Proof.Machine
end

