-- ==== Sys2Proof/Machine/Inflate.lean ====
section
/-! DEFINITION. The raw DEFLATE decoder of R463 (RFC 1951), with the failures R463 names. -/

namespace Sys2Proof.Machine

/-- The bits of a byte list, least significant bit of each byte first. -/
def bitsOf (bs : List Byte) : List Bool := bs.flatMap fun b => (List.range 8).map fun i => b.toNat.testBit i

/-- The number of the first `n` bits, least significant first, and the rest. -/
def takeBits : Nat → List Bool → Option (Nat × List Bool)
  | 0, bs => some (0, bs)
  | _ + 1, [] => none
  | n + 1, b :: bs =>
    match takeBits n bs with
    | none => none
    | some (v, r) => some (b2n b + 2 * v, r)

/-- A canonical Huffman code: how many codes of each length 1 to 15, and the symbols by length and then by value. -/
structure Huff where
  counts : List Nat
  syms : List Nat
deriving DecidableEq, Repr

/-- The canonical code of a list of code lengths. -/
def huffOf (lens : List Nat) : Huff :=
  let syms (n : Nat) : List Nat := (List.range lens.length).filter fun i => lens.getD i 0 == n
  { counts := (List.range 15).map fun i => (syms (i + 1)).length, syms := (List.range 15).flatMap fun i => syms (i + 1) }

/-- Codes left over at length 15, none if over-subscribed. -/
def huffLeft (counts : List Nat) : Option Nat :=
  counts.foldl (fun acc c =>
    match acc with
    | none => none
    | some l => if 2 * l < c then none else some (2 * l - c)) (some 1)

/-- A complete code. -/
def Huff.complete (h : Huff) : Bool := huffLeft h.counts == some 0

/-- A distance code: complete, or one code of one bit, or no code at all, as RFC 1951 permits. -/
def Huff.distOk (h : Huff) : Bool := h.complete || (h.syms.length == 1 && h.counts.headD 0 == 1) || h.syms.isEmpty

/-- Decode one symbol: `code`, `first` and `index` as the lengths grow. -/
def decodeGo (syms : List Nat) : List Nat → Nat → Nat → Nat → List Bool → Option (Nat × List Bool)
  | c :: cs, code, first, index, b :: bs =>
    let code := code + b2n b
    if code < first + c then some (syms.getD (index + (code - first)) 0, bs)
    else decodeGo syms cs (2 * code) (2 * (first + c)) (index + c) bs
  | _, _, _, _, _ => none

/-- Decode one symbol. -/
def Huff.decode (h : Huff) (bs : List Bool) : Option (Nat × List Bool) := decodeGo h.syms h.counts 0 0 0 bs

/-- Base and extra bits of length symbols 257 to 285. -/
def lenTable : List (Nat × Nat) :=
  [(3, 0), (4, 0), (5, 0), (6, 0), (7, 0), (8, 0), (9, 0), (10, 0), (11, 1), (13, 1), (15, 1), (17, 1), (19, 2), (23, 2), (27, 2),
   (31, 2), (35, 3), (43, 3), (51, 3), (59, 3), (67, 4), (83, 4), (99, 4), (115, 4), (131, 5), (163, 5), (195, 5), (227, 5), (258, 0)]

/-- Base and extra bits of distance symbols 0 to 29. -/
def distTable : List (Nat × Nat) :=
  [(1, 0), (2, 0), (3, 0), (4, 0), (5, 1), (7, 1), (9, 2), (13, 2), (17, 3), (25, 3), (33, 4), (49, 4), (65, 5), (97, 5), (129, 6),
   (193, 6), (257, 7), (385, 7), (513, 8), (769, 8), (1025, 9), (1537, 9), (2049, 10), (3073, 10), (4097, 11), (6145, 11),
   (8193, 12), (12289, 12), (16385, 13), (24577, 13)]

/-- `n` bytes copied from `d` back; `out` holds the output newest first. -/
def copyBack (out : List Byte) (d : Nat) : Nat → List Byte
  | 0 => out
  | n + 1 =>
    let o := copyBack out d n
    o.getD (d - 1) 0 :: o

/-- Symbols of one block until its end code; `n` counts the output bytes, at most `limit`. -/
def inflateSyms (lit dist : Huff) (limit : Nat) : Nat → List Bool → List Byte → Nat → Option (List Bool × List Byte × Nat)
  | 0, _, _, _ => none
  | fuel + 1, bs, out, n =>
    match lit.decode bs with
    | none => none
    | some (sym, r) =>
      if sym < 256 then
        if n < limit then inflateSyms lit dist limit fuel r (Byte.of sym :: out) (n + 1) else none
      else if sym = 256 then some (r, out, n)
      else
        match lenTable[sym - 257]? with
        | none => none
        | some (base, ext) =>
          match takeBits ext r with
          | none => none
          | some (x, r1) =>
            match dist.decode r1 with
            | none => none
            | some (ds, r2) =>
              match distTable[ds]? with
              | none => none
              | some (db, de) =>
                match takeBits de r2 with
                | none => none
                | some (y, r3) =>
                  let len := base + x
                  let d := db + y
                  if d ≤ n && n + len ≤ limit then inflateSyms lit dist limit fuel r3 (copyBack out d len) (n + len) else none

/-- Order in which code-length code lengths are sent. -/
def clOrder : List Nat := [16, 17, 18, 0, 8, 7, 9, 6, 10, 5, 11, 4, 12, 3, 13, 2, 14, 1, 15]

/-- Read `n` three-bit code lengths. -/
def readCl : Nat → List Bool → Option (List Nat × List Bool)
  | 0, bs => some ([], bs)
  | n + 1, bs =>
    match takeBits 3 bs with
    | none => none
    | some (v, r) =>
      match readCl n r with
      | none => none
      | some (vs, r1) => some (v :: vs, r1)

/-- Read literal and distance code lengths; `acc` holds them newest first. -/
def readLens (cl : Huff) (total : Nat) : Nat → List Bool → List Nat → Option (List Nat × List Bool)
  | 0, bs, acc => if acc.length = total then some (acc.reverse, bs) else none
  | fuel + 1, bs, acc =>
    if acc.length = total then some (acc.reverse, bs)
    else
      let rep (v base ext : Nat) (r : List Bool) : Option (List Nat × List Bool) :=
        match takeBits ext r with
        | none => none
        | some (x, r1) =>
          if acc.length + base + x ≤ total then some (List.replicate (base + x) v ++ acc, r1) else none
      let next : Option (List Nat × List Bool) :=
        match cl.decode bs with
        | none => none
        | some (sym, r) =>
          if sym < 16 then some (sym :: acc, r)
          else if sym = 16 then
            match acc with
            | [] => none
            | v :: _ => rep v 3 2 r
          else if sym = 17 then rep 0 3 3 r
          else rep 0 11 7 r
      match next with
      | none => none
      | some (acc1, r1) => readLens cl total fuel r1 acc1

/-- The fixed literal/length code. -/
def fixedLit : Huff := huffOf (List.replicate 144 8 ++ List.replicate 112 9 ++ List.replicate 24 7 ++ List.replicate 8 8)

/-- The fixed distance code. -/
def fixedDist : Huff := huffOf (List.replicate 32 5)

/-- The two codes of a dynamic block, and the bits after their description. -/
def dynCodes (bs : List Bool) : Option (Huff × Huff × List Bool) :=
  match takeBits 14 bs with
  | none => none
  | some (v, r) =>
    let nl := 257 + v % 32
    let nd := 1 + v / 32 % 32
    let nc := 4 + v / 1024
    if 286 < nl then none
    else
      match readCl nc r with
      | none => none
      | some (cls, r1) =>
        let cl := huffOf ((List.range 19).map fun i => (((clOrder.take nc).zip cls).find? fun p => p.1 == i).elim 0 Prod.snd)
        if !cl.complete then none
        else
          match readLens cl (nl + nd) (nl + nd) r1 [] with
          | none => none
          | some (lens, r2) =>
            let lit := huffOf (lens.take nl)
            let dist := huffOf (lens.drop nl)
            if lit.complete && dist.distOk then some (lit, dist, r2) else none

/-- Whole bytes of a bit list. -/
def takeBytes : Nat → List Bool → Option (List Byte × List Bool)
  | 0, bs => some ([], bs)
  | n + 1, bs =>
    match takeBits 8 bs with
    | none => none
    | some (v, r) =>
      match takeBytes n r with
      | none => none
      | some (vs, r1) => some (Byte.of v :: vs, r1)

/-- The blocks of a stream. -/
def inflateBlocks (limit : Nat) : Nat → List Bool → List Byte → Nat → Option (List Byte)
  | 0, _, _, _ => none
  | fuel + 1, bs, out, n =>
    match takeBits 3 bs with
    | none => none
    | some (h, r) =>
      let block : Option (List Bool × List Byte × Nat) :=
        if h / 2 = 0 then
          let r := r.drop (r.length % 8)
          match takeBits 32 r with
          | none => none
          | some (v, r1) =>
            let len := v % 65536
            if v / 65536 = 65535 - len && n + len ≤ limit then
              match takeBytes len r1 with
              | none => none
              | some (bytes, r2) => some (r2, bytes.reverse ++ out, n + len)
            else none
        else if h / 2 = 1 then inflateSyms fixedLit fixedDist limit (r.length + 1) r out n
        else if h / 2 = 2 then
          match dynCodes r with
          | none => none
          | some (lit, dist, r1) => inflateSyms lit dist limit (r1.length + 1) r1 out n
        else none
      match block with
      | none => none
      | some (r1, out1, n1) =>
        if h % 2 = 1 then (if r1.length < 8 then some out1.reverse else none)
        else inflateBlocks limit fuel r1 out1 n1

/-- The output of a raw DEFLATE stream of at most `limit` bytes, none where R463 says it fails. -/
def inflate (limit : Nat) (input : List Byte) : Option (List Byte) :=
  let bs := bitsOf input
  inflateBlocks limit (bs.length + 1) bs [] 0

end Sys2Proof.Machine
end

