-- ==== Sys2Proof/Machine/Codes.lean ====
section
/-! DEFINITION. The numeric codes the spec gives to the named alternatives of Kinds.lean. -/

namespace Sys2Proof

/-- Mailbox number as the spec writes it (R125). -/
def Mb.num : Mb → Nat
  | .mb0 => 0 | .mb1 => 1 | .mb2 => 2 | .mb3 => 3

/-- FUNC code of R132. -/
def Func.code : Func → Nat
  | .overdrive => 1 | .pricking => 2 | .applique => 3 | .dither => 4
  | .hostLink => 5 | .sensing => 6 | .raster => 7

/-- Mode code of TIM.MODE (R237). -/
def Mode.code : Mode → Nat
  | .source => 0 | .fixed => 1 | .lattice => 2 | .hold => 3

/-- WAKE_CAUSE bit number (R123). -/
def WakeSource.bit : WakeSource → Nat
  | .hlActivity => 0 | .hlWake => 1 | .picot => 2 | .ctl => 3
  | .svc => 4 | .thermal => 5 | .timer => 6 | .pfw => 7

/-- Client number of EV_MEM_ABORT (R291). -/
def MemClient.code : MemClient → Nat
  | .hoopScan => 1 | .attainedRead => 2 | .pricking => 3 | .layers => 4
  | .conceal => 5 | .stress => 6 | .hoopWrite => 7 | .attainedWrite => 8

/-- Severity code of SEV_FLAGS [7:6] (R454). -/
def Severity.code : Severity → Nat
  | .info => 0 | .warning => 1 | .error => 2 | .fatal => 3

/-- STAGE code of BOOT_STATUS (R105). -/
def Stage.code : Stage → Nat
  | .aonUp => 0x0 | .romVerify => 0x1 | .fwRunning => 0x2 | .profileApplied => 0x3 | .running => 0x4
  | .recovery => 0xC | .limp => 0xD | .unconfigured => 0xE | .shutdown => 0xF

/-- SLOTn_RESULT code of BOOT_STATUS (R105). -/
def SlotResult.code : SlotResult → Nat
  | .notTried => 0 | .passed => 1 | .badHeader => 2 | .badSignature => 3
  | .rollback => 4 | .bootWatchdog => 5 | .norReadError => 6

/-- Mailbox state code of MBn_STATUS (R122). -/
def MbState.code : MbState → Nat
  | .idle => 0 | .pending => 1 | .busy => 2 | .done => 3

/-- ORIGIN code of MBn_STATUS (R122); MB3 has no register, and its code here is only a tag. -/
def Origin.code : Origin → Nat
  | .ctl => 0 | .inBand => 1 | .svc => 2 | .peer => 3

/-- Underrun counter of a client; the stress client has that of its skipped rows (R290). -/
def MemClient.stat : MemClient → Nat
  | .hoopScan => 705 | .attainedRead => 706 | .pricking => 707 | .layers => 708 | .conceal => 709 | .stress => 711 | .hoopWrite => 710 | .attainedWrite => 710

/-- Whether a client writes back rather than fetches. -/
def MemClient.writes : MemClient → Bool
  | .hoopWrite => true | .attainedWrite => true
  | _ => false

/-- Traffic class of a client (R275). -/
def MemClient.cls : MemClient → Nat
  | .hoopWrite => 2 | .attainedWrite => 2 | .stress => 3
  | _ => 1

/-- Bytes of a client's buffer (R277). -/
def MemClient.bufBytes : MemClient → Nat
  | .hoopScan => 491520 | .attainedRead => 491520 | .pricking => 1474560 | .layers => 1966080 | .conceal => 8192 | .stress => 184320
  | .hoopWrite => 122880 | .attainedWrite => 122880

/-- SOURCE of a half or a lane group (R208, R291). -/
def Side.code : Side → Nat
  | .left => 0 | .right => 1

end Sys2Proof
end

