-- ==== Sys2Proof/Config.lean ====
section
/-! DEFINITION. What one unit fixes and what the spec leaves open: each is an opaque constant with no body, so nothing can be proved of its value. Cryptographic functions are published standards that the spec names without restating (R210 to R236). -/

namespace Sys2Proof.Config

/-- Free values: the `n`-th value the spec leaves open, taken through `State.free` (assumption 3). -/
opaque freeValue : Nat → BitVec 32

/-- Nonces and ephemeral keys come from the device's random generator (R213, R232): the 16-byte draw `n`. -/
opaque randomBytes : Nat → List Byte

/-- Whether the unit is grade E rather than C (R1). -/
opaque gradeE : Bool

/-- The 64-bit device serial (R211). -/
opaque serial : BitVec 64

/-- SHA-256 (R213). -/
opaque sha256 : List Byte → List Byte

/-- HMAC-SHA-256 of a key and a message (R127, R213, R233). -/
opaque hmac : List Byte → List Byte → List Byte

/-- HKDF-SHA-256 of IKM, salt, info and an output length (R214, R229, R230). -/
opaque hkdf : List Byte → List Byte → List Byte → Nat → List Byte

/-- ECDSA P-256 verification of a public key, a digest and a signature (R86, R229, R233). -/
opaque ecdsaVerify : List Byte → List Byte → List Byte → Bool

/-- The identity key's ECDSA P-256 signature over a digest (R210, R213). -/
opaque ecdsaSign : List Byte → List Byte

/-- Whether a public key lies on P-256 (R215). -/
opaque onCurve : List Byte → Bool

/-- The device's ephemeral public key of handshake `n` (R212). -/
opaque ephemeralPub : Nat → List Byte

/-- ECDH product X of ephemeral key `n` and a public key (R214). -/
opaque ecdhEphemeral : Nat → List Byte → List Byte

/-- ECDH product X of the identity key and a public key (R229). -/
opaque ecdhIdentity : List Byte → List Byte

/-- The fused device secret (R210). -/
opaque deviceSecret : List Byte

/-- USAGE of the device certificate and of the product CA certificate: three bits (R211). -/
opaque deviceUsage : BitVec 3
/-- See `deviceUsage`. -/
opaque caUsage : BitVec 3

/-- Identifiers of the product CA and of the root (R211). -/
opaque caId : BitVec 64
/-- See `caId`. -/
opaque rootId : BitVec 64

/-- The identity public key and the product CA's public key (R211). -/
opaque identityPub : List Byte
/-- See `identityPub`. -/
opaque caPub : List Byte

/-- The signatures on the device certificate and on the product CA certificate (R211). -/
opaque deviceCertSig : List Byte
/-- See `deviceCertSig`. -/
opaque caCertSig : List Byte

/-- AES-128 of a key and a 16-byte block (R217). -/
opaque aes128 : List Byte → List Byte → List Byte

/-- GMAC with AES-128 of a key, an IV and the additional data (R221). -/
opaque gmac : List Byte → List Byte → List Byte → List Byte

/-- AES-256-GCM encryption of key, IV, additional data and plaintext: ciphertext (R229, R230). -/
opaque gcmCipher : List Byte → List Byte → List Byte → List Byte → List Byte

/-- AES-256-GCM tag of key, IV, additional data and ciphertext (R229, R230). -/
opaque gcmTag : List Byte → List Byte → List Byte → List Byte → List Byte

/-- The fused signer hashes, slots 0 to 3 (R226). -/
opaque signerHash : Nat → List Byte

/-- The fused integrator (0 to 3) and panel-owner (4 to 7) key hashes of SEC.KEY_SLOTS (R229, R233). -/
opaque ownerHash : Nat → List Byte

/-- Steps of the anti-rollback fuse blown at manufacture, 0 to 64 (R226). -/
opaque fuseSteps : Nat

/-- The raw DEFLATE stream the compressor emits for one container at a level; deterministic, its search is not published (R465). -/
opaque deflate : Nat → List Byte → List Byte

/-- The built-in blue-noise thresholds by entry index (R306): not printed in the manual. -/
opaque blueNoise : Nat → BitVec 12

/-- Where the unpublished class K parameters of a group lie (R139): the place, among the indices still free, of the `i`-th one. -/
opaque unpublishedAt : Nat → Nat → Nat

/-- Which of the values that its group's chapter names an unpublished parameter mirrors, by ID (R139). -/
opaque mirrorOf : Nat → Nat

/-- What a class K readout holds before the device has a value for it, by ID: the spec states none, and it stays the same until there is one (R139). -/
opaque unsetReadout : Nat → BitVec 32

/-- The 58-bit scrambler register of a Bobbin lane, by instant, driver and lane: it runs on from the instant the lane leaves high impedance, and the spec gives no start value (R377). -/
opaque bobScrambler : Nat → Nat → Nat → BitVec 58

/-- The factory's table of bad NAND blocks (R497, R498). -/
opaque factoryBadBlocks : List Nat

end Sys2Proof.Config
end

