-- ==== Sys2Proof/Machine/ParamTable.lean ====
section
/-! DEFINITION. The parameters of the spec with their IDs, classes, ranges and defaults (R139 to R146 and the parameter table of each chapter). -/

namespace Sys2Proof.Machine

/-- Parameter classes of R143. -/
inductive PClass | l | f | s | p | k
deriving DecidableEq, Repr

/-- CLASS code of R132. -/
def PClass.code : PClass → Nat
  | .l => 0 | .f => 1 | .s => 2 | .p => 3 | .k => 4

/-- The ranges the parameter tables use (R141). -/
inductive PRange
  | upto (lo hi : Nat)
  | even (lo hi : Nat)
  | zeroOr (lo hi : Nat)
  | mult (lo hi step : Nat)
  | signed (lo hi : Int)
  | oneOf (vs : List Nat)
  | withBit0 (hi : Nat)
  | odClip
  | zoneGrid
  | senseLevels
  | eyeFlags
  | zoneSrc
  | bobInit
  | selFunc
  | keySlots
deriving DecidableEq, Repr

/-- Whether a 32-bit VALUE lies in a range (R141). -/
def PRange.ok : PRange → Nat → Bool
  | .upto lo hi, v => lo ≤ v && v ≤ hi
  | .even lo hi, v => lo ≤ v && v ≤ hi && v % 2 == 0
  | .zeroOr lo hi, v => v == 0 || (lo ≤ v && v ≤ hi)
  | .mult lo hi step, v => lo ≤ v && v ≤ hi && v % step == 0
  | .signed lo hi, v => lo ≤ Machine.signed 32 v && Machine.signed 32 v ≤ hi
  | .oneOf vs, v => vs.contains v
  | .withBit0 hi, v => v % 2 == 1 && v ≤ hi
  | .odClip, v => bits v 31 30 == 0 && bits v 15 14 == 0 && bits v 13 0 ≤ bits v 29 16
  | .zoneGrid, v =>
      let c := bits v 15 8
      let r := bits v 7 0
      v < 65536 && 1 ≤ c && c ≤ 24 && 1 ≤ r && r ≤ 24 && c * r ≤ 24
  | .senseLevels, v => bits v 31 30 == 0 && bits v 15 14 == 0 && bits v 13 0 < bits v 29 16
  | .eyeFlags, v => v ≤ 0x17 && bits v 4 3 != 3
  | .zoneSrc, v => v < 256 && !bit v 6 && bits v 4 0 ≤ 23
  | .bobInit, v => bits v 31 16 == 0 || 0x100 ≤ bits v 31 16
  | .selFunc, v => v < 512 && bits v 7 0 ≤ 0x21
  | .keySlots, v => 0x11 ≤ v && v ≤ 0xFF && bits v 7 4 != 0 && bits v 3 0 != 0

/-- A run of parameters of one shape: first ID, how many, their spacing, and the default of each. -/
structure PRow where
  first : Nat
  count : Nat
  stride : Nat
  cls : PClass
  range : PRange
  dflt : List Nat
deriving DecidableEq, Repr

/-- Whether an ID falls in a row. -/
def PRow.has (r : PRow) (id : Nat) : Bool :=
  r.first ≤ id && (id - r.first) % r.stride == 0 && (id - r.first) / r.stride < r.count

/-- The default of an ID of a row; a row with one default gives it to every index. -/
def PRow.default (r : PRow) (id : Nat) : Nat :=
  r.dflt.getD ((id - r.first) / r.stride) (r.dflt.headD 0)

/-- One parameter. -/
def one (id : Nat) (cls : PClass) (range : PRange) (d : Nat) : PRow := ⟨id, 1, 1, cls, range, [d]⟩

/-- A class K parameter, whose value is computed. -/
def kOne (id : Nat) : PRow := ⟨id, 1, 1, .k, .upto 0 0xFFFFFFFF, [0]⟩

/-- A run of class K parameters. -/
def kRun (id n : Nat) : PRow := ⟨id, n, 1, .k, .upto 0 0xFFFFFFFF, [0]⟩

/-- SYS (R95) and CLK (R20). -/
def rowsSys : List PRow :=
  [ one 0x0410 .l (.upto 0 1) 1, one 0x0411 .l (.upto 0 0x3FFFFFFF) 0, one 0x0412 .l (.upto 150 1000) 250,
    kRun 0x0800 10 ]

/-- PWR (R523), with the idle defaults of R506 and the wake sets of R512. -/
def rowsPwr : List PRow :=
  [ one 0x0C00 .l (.upto 12 64) 16, one 0x0C01 .l (.upto 0 0x7FFFF) 0x31FFF, one 0x0C02 .l (.withBit0 0x7FFFF) 0x5103F,
    one 0x0C03 .l (.upto 0 0xFF) 0xFF, one 0x0C04 .l (.upto 0 0xFF) 0x07, one 0x0C05 .l (.upto 0 86400000) 0,
    one 0x0C06 .l (.upto 10 1000) 10, one 0x0C07 .l (.upto 0 1) 0, one 0x0C08 .l (.upto 70 95) 85,
    one 0x0C09 .l (.upto 10 10000) 100, kRun 0x0C0A 3,
    ⟨0x0C10, 19, 1, .l, .upto 0 10000000,
      [100000, 1000, 1000, 1000, 100, 100, 100, 100, 100, 100, 100, 100, 10000, 1000, 1000, 1000, 10000, 10000, 5000]⟩,
    ⟨0x0C30, 8, 1, .l, .withBit0 0x7FFFF, [7, 7, 0x20001, 1, 1, 1, 1, 0x40001]⟩, kRun 0x0C40 114 ]

/-- THM (R536). -/
def rowsThm : List PRow :=
  [ one 0x1000 .l (.upto 1 100) 10, ⟨0x1001, 4, 1, .l, .upto 1360 1984, [1696, 1760, 1840, 1920]⟩,
    one 0x1005 .l (.upto 16 160) 48, one 0x1006 .l (.upto 100 60000) 2000, one 0x1007 .l (.upto 8 320) 64,
    one 0x1008 .l (.upto 50 1000) 250, one 0x1009 .l (.upto 0 1920) 1440, one 0x100A .l (.signed (-320) 320) 160,
    one 0x100B .l (.signed (-640) 2000) 400, one 0x100C .l (.upto 100 10000) 1000, one 0x100D .l (.upto 0 1) 1,
    one 0x100E .l (.upto 32 320) 128, kRun 0x1010 18 ]

/-- LOG (R459), SMP (R505), CMP (R474) and SEC (R234). -/
def rowsLog : List PRow :=
  [ one 0x1400 .l (.upto 1 65535) 240, one 0x1401 .l (.upto 10 60000) 5000, one 0x1402 .l (.upto 0 1) 0,
    one 0x1403 .l (.upto 0 3) 0, one 0x1404 .l (.upto 0 1) 0, one 0x1405 .l (.upto 0 1) 0, kRun 0x1410 2,
    one 0x1800 .l (.upto 0 1) 0, one 0x1801 .l (.upto 2 8) 3, kRun 0x1810 11,
    one 0x1C00 .l (.upto 1 9) 6, one 0x1C01 .l (.upto 0 1) 1, one 0x1C02 .l (.upto 0 1) 1, one 0x1C03 .l (.upto 1 9) 3,
    kRun 0x1C10 10,
    one 0x2000 .p (.upto 0 1) 0, one 0x2001 .p (.upto 0 1) 0, one 0x2002 .p .keySlots 0x11, one 0x2003 .p (.upto 1 15) 1,
    one 0x2004 .p (.upto 0 1) 1, one 0x2005 .p (.oneOf [0, 0x58, 0x59, 0x5A, 0x5B]) 0,
    one 0x2010 .l (.upto 10 3600) 600, kRun 0x2011 2 ]

/-- HL (R209). -/
def rowsHl : List PRow :=
  [ one 0x2400 .s (.upto 0 1) 0, one 0x2401 .s (.oneOf [4, 8, 16]) 16, one 0x2402 .s (.upto 25 120) 120,
    one 0x2403 .s (.upto 0 2) 1, one 0x2404 .l (.upto 0 4320) 16, one 0x2405 .l (.upto 0 1) 1, one 0x2406 .l (.upto 0 3) 3,
    one 0x2407 .l (.upto 1 20) 2, one 0x2408 .l (.upto 1 1000) 16, one 0x2409 .l (.upto 1 15) 3,
    one 0x240A .l (.upto 10 10000) 100, one 0x240B .l (.upto 10 1000) 100, one 0x240C .l (.upto 20 2000) 200,
    one 0x240D .l (.upto 100 5000) 1000, one 0x240E .l (.upto 10 1000) 100, one 0x240F .s (.upto 0 2) 0,
    kRun 0x2410 4, ⟨0x2420, 16, 1, .s, .upto 0 15, [8]⟩, ⟨0x2430, 16, 1, .s, .upto 0 1, [1]⟩, kRun 0x2440 80,
    kRun 0x2500 128 ]

/-- TIM (R237) and MEM (R292). -/
def rowsTim : List PRow :=
  [ one 0x2800 .s (.upto 0 3) 0, one 0x2801 .f (.even 64 7680) 3840, one 0x2802 .f (.upto 64 4320) 2160,
    one 0x2803 .f (.upto 16 1024) 16, one 0x2804 .f (.upto 1080 65535) 4595, one 0x2805 .f (.upto 1000 480000) 48000,
    one 0x2806 .f (.upto 1000 480000) 120000, one 0x2807 .f (.upto 0 1) 0, one 0x2808 .f (.upto 1000 480000) 60000,
    one 0x2809 .f (.upto 0 1) 0, one 0x280A .l (.upto 50 10000) 250, one 0x280B .f (.zeroOr 1000 480000) 0,
    one 0x280C .f (.upto 0 1) 0, one 0x280D .l (.upto 0 1) 1, one 0x280E .l (.upto 0 1) 1, one 0x280F .l (.upto 0 1000) 50,
    one 0x2810 .l (.upto 0 60000) 500, ⟨0x2818, 8, 1, .f, .zeroOr 1000 480000, [0]⟩, kRun 0x2820 7,
    one 0x2C00 .l (.upto 0 2) 2, one 0x2C01 .l (.upto 0 10000) 500, one 0x2C02 .l (.upto 0 10000) 20,
    one 0x2C03 .l (.upto 100 5000) 1000, one 0x2C04 .l (.upto 0 1) 1, one 0x2C05 .l (.upto 1 9) 1, one 0x2C06 .l (.upto 0 1) 1,
    one 0x2C07 .l (.upto 1 16) 3, one 0x2C08 .l (.upto 16 65535) 240, one 0x2C09 .l (.upto 0 1) 1, kRun 0x2C10 19 ]

/-- The parameters of one appliqué layer (R374), 0x10 apart. -/
def rowsApq : List PRow :=
  [ one 0x3000 .f (.upto 0 1) 1, one 0x3001 .f (.upto 0 255) 0, one 0x3002 .f (.upto 0 3) 3, one 0x3003 .l (.upto 0 1) 0,
    one 0x3004 .l (.upto 0 1) 1, ⟨0x3010, 4, 16, .f, .upto 0 1, [0]⟩, ⟨0x3011, 4, 16, .f, .upto 0 7679, [0]⟩,
    ⟨0x3012, 4, 16, .f, .upto 0 4319, [0]⟩, ⟨0x3013, 4, 16, .f, .upto 1 7680, [16]⟩, ⟨0x3014, 4, 16, .f, .upto 1 4320, [16]⟩,
    ⟨0x3015, 4, 16, .f, .upto 0 3, [0]⟩, ⟨0x3016, 4, 16, .f, .mult 0x44000000 0x83FFFFC0 64, [0x44000000]⟩,
    ⟨0x3017, 4, 16, .f, .mult 0x44000000 0x83FFFFF0 16, [0x44000000]⟩, ⟨0x3018, 4, 16, .f, .upto 0 255, [255]⟩,
    kRun 0x3060 11 ]

/-- PRK (R355), OD (R323) and DTH (R324). -/
def rowsPrk : List PRow :=
  [ one 0x3400 .s (.upto 0 0x3F) 0x1C, one 0x3401 .s (.upto 0 1) 0, one 0x3402 .s (.upto 0 1) 0, one 0x3403 .f (.upto 0 1) 1,
    one 0x3408 .f (.upto 0 4) 0, one 0x3409 .f (.upto 0 4319) 0, one 0x340A .f .senseLevels 0x30001000,
    one 0x340B .l (.upto 1 256) 64, one 0x340C .l (.upto 1 127) 4, one 0x340D .l (.upto 1 256) 128,
    one 0x340E .l (.upto 100 10000) 3000, one 0x3410 .l (.upto 0 1) 1, one 0x3411 .l (.upto 10 10000) 1000,
    one 0x3412 .l (.upto 10 3600) 60, one 0x3413 .l (.upto 60 3600) 900, one 0x3414 .l (.upto 10 600) 60,
    one 0x3415 .l (.upto 1 9) 3, kRun 0x3420 6,
    kOne 0x3800, one 0x3801 .f (.upto 0 1) 1, one 0x3802 .f (.upto 0 1) 0, one 0x3803 .f (.upto 0 512) 256,
    one 0x3804 .f .odClip 0x3FFF0000, one 0x3805 .f (.upto 0 255) 16, one 0x3806 .f .zoneGrid 0x0604,
    one 0x3807 .l (.upto 10 10000) 1000, ⟨0x3808, 4, 1, .f, .signed (-640) 2000, [0, 400, 720, 1040]⟩, kRun 0x3810 3,
    one 0x3C00 .f (.upto 0 2) 0, one 0x3C01 .f (.upto 0 1) 0, one 0x3C02 .f (.upto 0 1) 1, kRun 0x3C10 3 ]

/-- BOB (R407), SEL (R408) and PNL (R409). -/
def rowsBob : List PRow :=
  [ one 0x4000 .s (.upto 0 2) 2, one 0x4001 .s (.upto 1 12) 12, one 0x4002 .s (.upto 1 2) 2, one 0x4003 .s (.upto 1 3840) 160,
    one 0x4004 .s (.upto 0 0xFFFFFF) 0, one 0x4005 .l (.upto 200 10000) 500, one 0x4006 .l (.upto 100 10000) 500,
    one 0x4007 .l (.upto 1 8) 3, one 0x4008 .l (.upto 1 255) 8, one 0x4009 .l (.upto 100 5000) 1000,
    one 0x400A .l (.upto 10 10000) 100, ⟨0x4010, 48, 1, .s, .upto 4 12, [8]⟩, ⟨0x4040, 48, 1, .s, .upto 0 6, [2]⟩,
    ⟨0x4070, 24, 1, .l, .zoneSrc, [0]⟩, ⟨0x4090, 64, 1, .s, .bobInit, [0]⟩, kRun 0x40D0 3,
    one 0x4400 .s (.upto 0 15) 0, ⟨0x4401, 32, 1, .s, .selFunc, [0]⟩, one 0x4421 .l (.upto 100 100000) 25000,
    one 0x4422 .l (.upto 0 1000) 1000, one 0x4423 .l (.upto 0 1) 1, one 0x4424 .l (.upto 7 25) 10, kOne 0x4430,
    one 0x4800 .s (.upto 0 1) 0, one 0x4801 .s (.even 64 7680) 3840, one 0x4802 .s (.upto 64 4320) 2160,
    one 0x4803 .s (.oneOf [8, 10, 12]) 10, one 0x4804 .s (.upto 1000 480000) 48000, one 0x4805 .s (.upto 1000 480000) 120000,
    one 0x4806 .s (.upto 0 3) 1, one 0x4807 .s (.upto 0 15) 0, ⟨0x4808, 4, 1, .s, .upto 0 100000, [0]⟩,
    ⟨0x480C, 4, 1, .s, .upto 0 100000, [0]⟩, one 0x4810 .s (.upto 0 100000) 1000, one 0x4811 .l (.upto 0 16) 2, kOne 0x4812 ]

/-- EYE (R448) and TAT (R441). -/
def rowsEye : List PRow :=
  [ ⟨0x4C00, 16, 8, .l, .upto 0 7679, [0]⟩, ⟨0x4C01, 16, 8, .l, .upto 0 4319, [0]⟩, ⟨0x4C02, 16, 8, .l, .upto 1 7680, [16]⟩,
    ⟨0x4C03, 16, 8, .l, .upto 1 4320, [16]⟩, ⟨0x4C04, 16, 8, .l, .upto 0 3, [0]⟩, ⟨0x4C05, 16, 8, .l, .eyeFlags, [0]⟩,
    ⟨0x4C06, 16, 8, .l, .upto 0 0xFFFFFFFF, [0]⟩, ⟨0x4C07, 16, 8, .k, .upto 0 0xFFFFFFFF, [0]⟩, kRun 0x4C80 2,
    one 0x5000 .l (.upto 0 2) 0, one 0x5001 .l (.upto 0 7) 7, one 0x5002 .l (.upto 1 255) 16, one 0x5003 .l (.upto 1 64) 4,
    one 0x5004 .l (.upto 4 255) 8, one 0x5005 .l (.upto 100 1000) 200, one 0x5006 .l (.upto 250 10000) 1000,
    one 0x5007 .l (.upto 10 1000) 50, one 0x5008 .l (.upto 50 10000) 500, kRun 0x5010 15 ]

/-- The rows of the group an ID lies in (R140). -/
def groupRows (id : Nat) : List PRow :=
  match id / 1024 with
  | 1 => rowsSys | 2 => rowsSys | 3 => rowsPwr | 4 => rowsThm | 5 => rowsLog | 6 => rowsLog | 7 => rowsLog | 8 => rowsLog
  | 9 => rowsHl | 10 => rowsTim | 11 => rowsTim | 12 => rowsApq | 13 => rowsPrk | 14 => rowsPrk | 15 => rowsPrk
  | 16 => rowsBob | 17 => rowsBob | 18 => rowsBob | 19 => rowsEye | 20 => rowsEye
  | _ => []

/-- The row of a listed parameter. -/
def pRow? (id : Nat) : Option PRow := (groupRows id).find? fun r => r.has id

/-- The number of parameters of a group (R140). -/
def groupCount (g : Nat) : Nat :=
  [0, 60, 30, 170, 90, 120, 40, 30, 70, 260, 180, 140, 220, 200, 120, 40, 420, 160, 90, 130, 110].getD g 0

/-- How many of them the manual's tables list. -/
def groupListed (g : Nat) : Nat :=
  ((groupRows (1024 * g)).filter fun r => r.first / 1024 == g).foldl (fun n r => n + r.count) 0

/-- `n` different entries of a list, their places given by `pick`. -/
def pickFrom (pick : Nat → Nat) : Nat → List Nat → List Nat
  | 0, _ => []
  | n + 1, l =>
    let k := pick n % l.length
    l.getD k 0 :: pickFrom pick n (l.eraseIdx k)

/-- Whether an ID is one of the unpublished class K parameters of R139: in a group of R140, unlisted, and one of as many of the free indices as the group's count leaves. A group whose tables list them all has none. -/
def isUnpublished (id : Nat) : Bool :=
  let g := id / 1024
  let n := groupCount g - groupListed g
  (pRow? id).isNone && n != 0 &&
    (pickFrom (Config.unpublishedAt g) n ((List.range 1024).filter fun k => (pRow? (1024 * g + k)).isNone)).contains (id % 1024)

/-- The class of a defined parameter; an unpublished one is class K (R139). -/
def pClass? (id : Nat) : Option PClass :=
  match pRow? id with
  | some r => some r.cls
  | none => if isUnpublished id then some .k else none

/-- The Default of a parameter (R142). -/
def pDefault (id : Nat) : Nat :=
  match pRow? id with
  | some r => r.default id
  | none => 0

/-- Whether VALUE lies in the parameter's Range (R141). -/
def pInRange (id v : Nat) : Bool :=
  match pRow? id with
  | some r => r.range.ok v
  | none => true

/-- The function that owns a class S parameter (R140). -/
def pOwner (id : Nat) : Func :=
  match id / 1024 with
  | 9 => .hostLink
  | 13 => .pricking
  | _ => .raster

end Sys2Proof.Machine
end

