-- ==== Sys2Proof/Machine/State.lean ====
section
/-! DEFINITION. The state of the UL9484 as plain data, its faults and refusals, and the state right after AON power-up. -/

namespace Sys2Proof.Machine

/-- Why a step stops with a fault. -/
inductive Fault
  /-- Raised by the commands whose operand lists have a length that no sampler or port can deliver (WellFormed.lean). Safe: the machine is not given a meaning on data it cannot receive. -/
  | illFormed
deriving DecidableEq, Repr

/-- Why a command has no meaning. -/
inductive Refusal
  /-- Raised by an arm of Dispatch.lean that is not written yet. Safe: nothing is said of such a command. -/
  | notModelled (mnemonic : String)
deriving DecidableEq, Repr

/-! ## Boot, reset and supply (04_startup_and_reset.md, 03, 02) -/

/-- A reset that waits for a hardware safe stop or a power-fail save (R99, R102). -/
structure PendingReset where
  causes : BitVec 32
  safeStop : Bool
  earliest : BitVec 32
  tick : Nat
  coincide : Bool
deriving DecidableEq, Repr

/-- The RESET_KEY sequence of R101: armed by the first word, through which port and when. -/
structure KeyArm where
  port : Port
  at_ : Nat
  word : Word
deriving DecidableEq, Repr

/-- The instructions of the JTAG TAP (R236); `debug` stands for every debug instruction. -/
inductive TapInstr | bypass | idcode | sample | extest | debug
deriving DecidableEq, Repr

/-- Start-up, reset and fault state (R82 to R108). `resetFirst` is the earliest cause of the latest reset (R102); `tapIr` and `tdo` are the TAP's instruction and whether JTAG_TDO is driven (R47, R236). -/
structure Boot where
  powered : Bool
  startLead : Nat
  straps : Straps
  strapsDone : Bool
  vioHigh : Bool
  stage : Stage
  startAt : Nat
  stepMs : Nat
  slot : Bool
  fallback : Bool
  warm : Bool
  result0 : SlotResult
  result1 : SlotResult
  memReady : Bool
  mapReady : Bool
  panelReady : Bool
  compensated : Bool
  resetCause : BitVec 32
  faultCause : BitVec 32
  key : Option KeyArm
  failed0 : Bool
  failed1 : Bool
  swapOnce : Bool
  firstSlot : Bool
  checking : Option Bool
  bootWdog : Bool
  fwVersion : Word
  secVersion : Byte
  resetPin : Bool
  pendingReset : Option PendingReset
  thermalOff : Bool
  limp : Bool
  resonatorChecked : Bool
  resonatorPpm10 : Int
  rootLocked : Bool
  profileId : Word
  profileOk : Bool
  mapWaitOver : Bool
  mapLoaded : Bool
  tapReset : Bool
  updated : Bool
  resetAt : Option Nat
  resetFirst : BitVec 32
  tapIr : TapInstr
  tdo : Bool
deriving DecidableEq, Repr

/-- VIN as measured and the power-fail warning (R63, R64, R495, R520); voltages in mV. -/
structure Vin where
  boot : Nat
  bootDone : Bool
  latest : Nat
  pfw : Bool
  pfwAt : Nat
  saved : Bool
  recoverFrom : Option Nat
  recovering : Bool
deriving DecidableEq, Repr

/-! ## Control ports and mailboxes (05_control_and_mailboxes.md) -/

/-- The hardware register window's own storage (R118 to R123). `ctlDead` ignores the rest of a CTL transaction (R112); `ctlDrive` and `sdaHeld` say whether CTL_IO and SVC_SDA may be driven (R47). -/
structure Window where
  irqStatus : BitVec 32
  irqEnable : BitVec 32
  inbandEn : Bool
  quadEn : Bool
  quadNow : Bool
  csLow : Bool
  ctlFraming : Nat
  svcFraming : Nat
  refused : Nat
  dbOverrun : Nat
  timeHiCtl : BitVec 16
  timeHiSvc : BitVec 16
  scratch0 : Word
  scratch1 : Word
  wakeCause : BitVec 32
  peerServed : BitVec 16
  peerRefused : BitVec 16
  svcAddr : Nat
  ctlDead : Bool
  ctlDrive : Bool
  sdaHeld : Bool
deriving DecidableEq, Repr

/-- What a BUSY mailbox's held response waits for (R130, completion H). -/
inductive Wait
  | none
  | funcOp (f : Func)
  | nvWrite
  | secHandshake
  | frames
deriving DecidableEq, Repr

/-- One mailbox (R122, R124, R126); `rungAt` is the CK_CTRL cycle of its doorbell (R129). -/
structure Mailbox where
  st : MbState
  tag : BitVec 16
  overrun : Bool
  origin : Origin
  req : List Byte
  resp : List Byte
  fill : Bool
  wait : Wait
  rungAt : Nat
deriving DecidableEq, Repr

/-- A PEER request gathered or queued for MB3 (R437): the sender's TAT_ID, the message bytes so far, whether its LAST fragment has come, and whether this device's own net layer sent it (R425). -/
structure PeerReq where
  src : Nat
  body : List Byte
  complete : Bool
  here : Bool
deriving DecidableEq, Repr

/-- A running A job (R130). -/
structure Job where
  code : Nat
  mb : Mb
  tag : BitVec 16
deriving DecidableEq, Repr

/-- The four mailboxes, the doorbell order of R129, and the jobs in progress. -/
structure Boxes where
  mb0 : Mailbox
  mb1 : Mailbox
  mb2 : Mailbox
  mb3 : Mailbox
  order : List Mb
  peers : List PeerReq
  jobs : List Job
  mb1Rx : Nat
  mb1Tx : Nat
deriving DecidableEq, Repr

/-! ## Events, log and statistics (16_verification_statistics_log.md) -/

/-- One entry of the trouble log or the event queue (R136, R454). -/
structure LogEntry where
  time : BitVec 48
  frameLo : BitVec 16
  code : BitVec 16
  source : BitVec 8
  sevFlags : BitVec 8
  data : BitVec 32
deriving DecidableEq, Repr

/-- The event queue of R136, oldest entry first. -/
structure EventQueue where
  entries : List LogEntry
  overflow : Bool
  dropped : Nat
deriving DecidableEq, Repr

/-- The trouble log of R454 to R456, oldest entry first, and the twelve newest errors of R458, newest first. -/
structure TroubleLog where
  ring : List LogEntry
  next : BitVec 32
  lost : Nat
  errors : BitVec 32
  fatals : BitVec 32
  first : Option LogEntry
  recent : List LogEntry
deriving DecidableEq, Repr

/-- Live statistics counters and their copies (R449 to R452), by counter index. -/
structure Stats where
  live : List (Nat × Nat)
  copy : List (Nat × Nat)
  period : BitVec 32
  startAt : Nat
  frames : Nat
  endTime : BitVec 48
deriving DecidableEq, Repr

/-- A rectangle record of R442. -/
structure EyeRec where
  x : Nat
  y : Nat
  w : Nat
  h : Nat
  tap : Nat
  flags : BitVec 8
  expected : BitVec 32
deriving DecidableEq, Repr

/-- One Eyelet (R442 to R446): the record as written, the record this frame started with, and its results. -/
structure Eyelet where
  record : EyeRec
  cur : EyeRec
  crc : Nat
  rowsSeen : Nat
  concealed : Bool
  active : Bool
  lastCrc : BitVec 32
  lastFrame : BitVec 32
  result : Nat
  mismatched : Bool
deriving DecidableEq, Repr

/-- All Eyelets and the hold of R446. -/
structure Eyes where
  eye : Vector Eyelet 16
  holdDue : Bool
  holding : Bool
deriving DecidableEq, Repr

/-! ## Parameters, shadows and commits (06_parameters_and_commit.md) -/

/-- A commit accepted and waiting to apply (R152 to R158). -/
structure Commit where
  target : BitVec 32
  values : List (Nat × Word)
  viaTransition : Bool
deriving DecidableEq, Repr

/-- Active values that differ from their Default, the staged shadows, and the waiting commits. -/
structure Params where
  active : List (Nat × Word)
  staged : List (Nat × Word)
  waiting : List Commit
  lastTarget : BitVec 32
  applied : Bool
deriving DecidableEq, Repr

/-- The kinds of change a function waits for at a frame start (R133, R161, R163). -/
inductive FuncChange | stop | start | reset | restart
deriving DecidableEq, Repr

/-- A change of one function that takes effect at frame `target` (R161), and the mailbox it answers. -/
structure FuncPend where
  func : Func
  change : FuncChange
  target : BitVec 32
  mb : Option Mb
  live : Bool
deriving DecidableEq, Repr

/-- Run state and last profile of one function (R132). -/
structure FuncState where
  stopped : Bool
  profile : Nat
  inReset : Bool
deriving DecidableEq, Repr

/-- The seven functions and their pending changes. -/
structure Funcs where
  overdrive : FuncState
  pricking : FuncState
  applique : FuncState
  dither : FuncState
  hostLink : FuncState
  sensing : FuncState
  raster : FuncState
  pend : List FuncPend
deriving DecidableEq, Repr

/-- Instance states of R169. -/
inductive TabState | empty | loading | valid | invalid
deriving DecidableEq, Repr

/-- A table instance (R167 to R170), by table ID. -/
structure Table where
  id : Nat
  st : TabState
  nextOff : Nat
  bytes : List Byte
deriving DecidableEq, Repr

/-! ## Power domains (19_power_domains.md) -/

/-- Reported domain states (R123, R506). -/
inductive DomState | off | retention | on | failed
deriving DecidableEq, Repr

/-- What a domain is doing between states (R507, R514, R516, R518). -/
inductive DomPhase
  | settled
  | entering (low : DomState)
  | queued
  | waking (fromOff : Bool) (grantedAt : Nat)
  | retryOff
deriving DecidableEq, Repr

/-- One power domain (R506 to R521); residency is in device-time ticks. -/
structure Domain where
  st : DomState
  phase : DomPhase
  target : DomState
  latched : Bool
  idleFrom : Option Nat
  fails : Nat
  leftOff : Bool
  resOn : Nat
  resRet : Nat
  resOff : Nat
deriving DecidableEq, Repr

/-- A standby request in progress (R511). -/
structure Standby where
  deep : Bool
deriving DecidableEq, Repr

/-- Domains, votes, the wake sequencer and standby (R506 to R521). -/
structure Power where
  dom : Vector Domain 19
  hostOn : BitVec 32
  hostRet : BitVec 32
  runVote : Bool
  bootVote : Bool
  wakeVote : BitVec 32
  wakeLatched : BitVec 8
  window : Nat
  windowCost : Nat
  standby : Option Standby
  asleep : Bool
  deep : Bool
  resume : Bool
  wakeTimer : Option Nat
  resHi : List (Nat × Nat)
deriving DecidableEq, Repr

/-! ## Thermal management (20_thermal_management.md) -/

/-- The T4 scaling of R531 to R533. -/
inductive T4 | none | starting | inForce | leaving
deriving DecidableEq, Repr

/-- Sensors, throttle step and requests (R524 to R536); temperatures in 1/16 °C. -/
structure Thermal where
  die : Vector Int 12
  suspect : Vector Bool 12
  outRun : Vector Nat 12
  inRun : Vector Nat 12
  mem0 : Int
  mem1 : Int
  tc : Int
  rise : Int
  step : Nat
  hist : List (Nat × Int)
  riseDisarmed : Bool
  reqRate : Nat
  reqCause : Nat
  floor : Nat
  t4 : T4
  sampledAt : Option Nat
  coolFrom : Option Nat
  t4Refused : Bool
  risePend : Bool
deriving DecidableEq, Repr

/-! ## GDDR7, hoop and residence (10_hoop_and_memory.md) -/

/-- Role of a hoop frame (R272). -/
inductive Role | free | filling | marked
deriving DecidableEq, Repr

/-- A hoop frame's descriptor (R272). -/
structure HoopFrame where
  role : Role
  format : Nat
  scanning : Bool
  resident : Bool
  rows : Nat
  src : BitVec 32
deriving DecidableEq, Repr

/-- GDDR7 low states inside MEM on (R278). -/
inductive MemSleep | active | powerDown | selfRefresh
deriving DecidableEq, Repr

/-- SRAM residence (R280 to R283), MEM.RESIDENCE_STATE. -/
inductive Residence | none | compressing | ready | resident | refused
deriving DecidableEq, Repr

/-- One half of a client's fetching (R277): rows of the frame being scanned that it holds or has held (of a write-back client the rows in its buffer), rows of the next frame that it holds, bytes of the row in hand, and failed reads of that row. -/
structure Fetch where
  held : Nat
  ahead : Nat
  part : Nat
  fails : Nat
deriving DecidableEq, Repr

/-- A request of class 4, or of class 5 where `low` (R275): its direction and the bytes left. -/
structure MemAsk where
  low : Bool
  write : Bool
  left : Nat
deriving DecidableEq, Repr

/-- GDDR7 contents and the memory controller's state (R270 to R292): the clients' fetching in each half, the rest of a half-row being concealed and its failed reads, the waiting requests of classes 4 and 5, the bursts of the 64 in progress and the shares of classes 4 and 5 among them (R275), traffic not yet counted (R290), and the blocks of the residence partition (R281). -/
structure Mem where
  cells : List Host.Cell
  hoopFill : Word
  h0 : HoopFrame
  h1 : HoopFrame
  sleep : MemSleep
  fetchL : Vector Fetch 8
  fetchR : Vector Fetch 8
  restL : Nat
  restR : Nat
  restFails : Nat
  asks : List MemAsk
  won : Nat
  won4 : Nat
  won5 : Nat
  readRem : Nat
  writeRem : Nat
  resBlocks : List (List Byte)
  layerCarry : Bool
  residence : Residence
  resBytes : Nat
  resLevel : Nat
  resFails : Nat
  resOver : Bool
  degraded : List Func
  degradeDue : Bool
  consecAborts : Nat
  cleanFrames : Nat
  reseed : Bool
  restoreAll : Bool
  capRaised : Bool
  bandCarry : Nat
  bandRefused : Bool
deriving DecidableEq, Repr

/-! ## Compression engine (17_compression_engine.md) -/

/-- The directions of a host job (R470). -/
inductive CmpOp | compress | decompress | check
deriving DecidableEq, Repr

/-- A job of the compression engine (R468 to R472); `image` is the log image of R458 for SOURCE 1. -/
structure CmpJob where
  user : Nat
  op : CmpOp
  level : Nat
  store : Bool
  test : Bool
  verify : Bool
  index : Bool
  image : Option (List Byte)
  srcAddr : Nat
  srcBytes : Nat
  dstAddr : Nat
  dstBytes : Nat
  blockBytes : Nat
  inPos : Nat
  outPos : Nat
  block : Nat
  lastIndex : Option Nat
  blocks : Nat
  stored : Nat
  offsets : List Nat
  job : BitVec 32
  mb : Mb
  tag : BitVec 16
  startAt : Nat
deriving DecidableEq, Repr

/-- The engine's queue and its last-job readouts (R468, R472 to R474). -/
structure Cmp where
  jobs : List CmpJob
  nextJob : BitVec 32
  lastJob : BitVec 32
  lastStatus : Nat
  lastIn : Nat
  lastOut : Nat
  lastBlocks : Nat
  lastStored : Nat
  lastFail : Nat
  lastTime : Nat
  inRem : Nat
  outRem : Nat
deriving DecidableEq, Repr

/-! ## Flash (18_sampler_nv_storage.md) -/

/-- The Sampler's state (SMP.STATE, R505); a compaction is one step of the model, so 2 is never seen between commands. -/
inductive SmpState | notScanned | ready | saving
deriving DecidableEq, Repr

/-- An NV_WRITE_RECORD being served (R479, R481, R482): the bank, SEQUENCE and address in hand, whether its marker operation runs, whether it was retried, the copy still to write in the other bank, and the mailbox to answer. -/
structure NvWrite where
  key : Nat
  payload : List Byte
  bank : Bool
  seq : Nat
  addr : Nat
  marker : Bool
  retried : Bool
  second : Option Nat
  firstSeq : Nat
  mb : Mb
deriving DecidableEq, Repr

/-- An erase asked for by NV_ERASE (R489). -/
structure NvErase where
  nand : Bool
  addr : Nat
  count : Nat
  suspended : Bool
deriving DecidableEq, Repr

/-- A NAND store in progress (R499 to R502): its object, generation, run of blocks, containers and index page bytes. -/
structure NandStore where
  object : Nat
  gen : Nat
  firstBlock : Nat
  blocks : Nat
  data : List Byte
  planeGen : Nat
  containers : Nat
deriving DecidableEq, Repr

/-- A NAND directory entry in force (R502). -/
structure DirEntry where
  object : Nat
  gen : Nat
  planeGen : Nat
  firstBlock : Nat
  blocks : Nat
deriving DecidableEq, Repr

/-- NOR and NAND contents, the Sampler and the always-on values (R475 to R505). -/
structure Nv where
  nor : List Host.Cell
  nand : List Host.Cell
  st : SmpState
  write : Option NvWrite
  queue : List NvWrite
  erase : Option NvErase
  badSectors : List (Bool × Nat)
  stores : List NandStore
  ties : List Nat
  firstScan : Bool
  panelOn : Nat
  bootCount : Nat
  snapGen : Nat
  snapSlot : Nat
  saveCause : Nat
  snapPanelOn : Nat
  pfwCount : Nat
  lastSave : Nat
  storeGen : Nat
  nandBad : List Nat
  replaced : List (Nat × Nat)
deriving DecidableEq, Repr
/-! ## Raster (09_raster_timing.md) -/

/-- What the frame being displayed shows (R27, R239, R402). -/
inductive FrameKind | live | hoop | black
deriving DecidableEq, Repr

/-- How far a continuity transition has come (TIM.TRANSITION, R256). -/
inductive TransPhase | waiting | inHold | applied
deriving DecidableEq, Repr

/-- A continuity transition in progress (R256): its hold frame, target mode, and whether a MODE_CHANGE asked for it. -/
structure Transition where
  n0 : BitVec 32
  mode : Mode
  phase : TransPhase
  cmd : Bool
  cause : Nat
  thermal : Bool
deriving DecidableEq, Repr

/-- What the raster does next after the frame in progress, when something other than its mode decides it. -/
inductive HeldChange | sleepHold | idleHold | stopHold | sourceBack | island | beaconBack
deriving DecidableEq, Repr

/-- The raster (R237 to R269). Instants are raster-reference ticks. -/
structure Raster where
  running : Bool
  frame : BitVec 32
  start : Nat
  prevStart : Nat
  liveStart : Option Nat
  pIn : Option Nat
  base : Nat
  active : Mode
  kind : FrameKind
  sourceTimed : Bool
  rowsStarted : Nat
  rowEnd : Nat
  inBlank : Bool
  blankAt : Nat
  earliest : Nat
  aborted : Bool
  scan1 : Bool
  repeats : List Nat
  holdPeriod : Nat
  shortHold : Bool
  ladderStep : Nat
  dwellFrom : Nat
  pull : Option Nat
  absentFrom : Option Nat
  delayOver : Bool
  transition : Option Transition
  modeAt : Option (BitVec 32)
  heldChange : Option HeldChange
  latticePhase : Int
  pairSkew : Int
  framesOn : Nat
  tagHold : Bool
  repeatFrom : Option Nat
  abortAt : Option Nat
  timingApplied : Bool
  markMoved : Bool
  holdEntered : Bool
  rowTime : Nat
deriving DecidableEq, Repr

/-! ## Overdrive and dither (11_pipeline_overdrive_dither.md) -/

/-- One panel zone's last report (R308, R309). -/
structure Zone where
  temp : Int
  at_ : Option Nat
  missing : Bool
deriving DecidableEq, Repr

/-- The zone snapshot a frame uses (R308, R309). -/
structure ZoneSnap where
  taken : Bool
  cols : Nat
  rows : Nat
  temps : Vector Int 24
  ages : Vector Nat 24
  validCount : Nat
deriving DecidableEq, Repr

/-- Overdrive, zones, row write times and dither (R293 to R324). `sramOd` and `sramTile` are the eight instances and the tile copied into SRAM0 (R305); `lacking` says which pipeline functions the latest frame found degraded or neutral, and `rounding` that it was the first to find one so (R317). -/
structure Pipe where
  zones : Vector Zone 24
  snap : ZoneSnap
  writeTime : List (Nat × Nat)
  sramSet : Option Nat
  copyDue : Bool
  settled : Bool
  settledNow : Bool
  sramOd : List (List Byte)
  sramTile : List Byte
  lacking : Nat
  rounding : Bool
  phase : BitVec 8
  phaseUsed : BitVec 8
  lastUnsuspended : BitVec 8
  suspended : Bool
deriving DecidableEq, Repr

/-! ## Pricking, sensing and stress (12_panel_compensation.md) -/

/-- A valid sense pair of a subpixel (R336): pixel index, subpixel, LO and HI results. -/
structure SensePair where
  px : Nat
  c : Nat
  lo : Nat
  hi : Nat
deriving DecidableEq, Repr

/-- A pending fold of a subpixel (R338). -/
structure Fold where
  px : Nat
  c : Nat
  offset : Int
  gain : Int
deriving DecidableEq, Repr

/-- The results of one sensed blank (R335): its frame, rows, and each arrived result. -/
structure SenseBlank where
  frame : BitVec 32
  rows : List Nat
  results : List (Nat × Nat × Nat × Nat × Nat)
deriving DecidableEq, Repr

/-- Stress states (PRK.STRESS_STATE, R355). -/
inductive StressState | off | running | paused | restarted
deriving DecidableEq, Repr

/-- Progress of a stress snapshot (R346 to R348). -/
inductive SnapPhase | none | wanted | copying | compressing
deriving DecidableEq, Repr

/-- Pricking, sensing, stress accounting and snapshots (R325 to R355). `senseDue` and `senseLevels` are the rows and levels of the blank in progress, as they stood before its copy of shadows (R153); `sweepFresh` says that the copy restarted the sweep, `senseSkipped` that the blank counts as one without sensing, and `clearDue` that CLEAR is to be sent in it (R133); `stressEn` is PRK.STRESS_EN as the latest accumulation frame took it and `snapLevel` the level of the snapshot in progress (R355). -/
structure Prick where
  storePending : BitVec 6
  curvePending : Bool
  sweepK : Nat
  sweepCount : BitVec 32
  blank : SenseBlank
  latest : SenseBlank
  senseDue : List Nat
  senseLevels : Nat
  sweepFresh : Bool
  senseSkipped : Bool
  clearDue : Bool
  altBlank : Bool
  pairs : List SensePair
  folds : List Fold
  rest : Bool
  restRows : Nat
  stress : StressState
  accTime : List (Nat × Nat)
  accFrom : Nat
  passOn : Bool
  passHeld : Bool
  snap : SnapPhase
  snapData : List Byte
  snapGens : Vector Nat 3
  snapPanelOn : Nat
  snapFails : Nat
  snapOverrun : Bool
  snapWaitUntil : Option Nat
  dirty : Bool
  shutdownSnap : Bool
  planeGen : Vector Nat 6
  curveGen : Nat
  stressEn : Bool
  snapLevel : Nat
deriving DecidableEq, Repr

/-! ## Appliqué (13_layers_and_continuity.md) -/

/-- Clip playback (R369 to R371). -/
structure ClipPlay where
  inst : Nat
  time0 : Nat
  step : Nat
deriving DecidableEq, Repr

/-- A tile as fetched for the current band of a layer: its pixels, or transparent (R365, R366). -/
structure TileRow where
  layer : Nat
  tx : Nat
  ty : Nat
  pixels : Option (List Nat)
deriving DecidableEq, Repr

/-- Layers and continuity clips (R356 to R374); `hdrs` lists the (layer, tile) whose header entry the cache holds; `forced` is APQ.CLIP_FORCE as read at the latest frame start (R374). -/
structure Applique where
  clip : Option ClipPlay
  eligibleAt : Option Nat
  clipEnding : Bool
  forced : Bool
  notValidRaised : Bool
  clipRestart : Bool
  cached : Vector Bool 4
  hdrs : List (Nat × Nat)
  tiles : List TileRow
  faultRaised : Vector Bool 4
  retired : List (Nat × Bool × Nat)
deriving DecidableEq, Repr

/-! ## Bobbin links, selvedge outputs and panel power (14_column_and_row_drive.md) -/

/-- PNL.STATE (R400). -/
inductive PanelState | off | poweringOn | training | on | darkening | restSweep | poweringOff
deriving DecidableEq, Repr

/-- The step of the power sequence in progress (R401, R403). -/
inductive PowerStep | none | hold | enable (k : Nat) | settle | discharge | disable (k : Nat)
deriving DecidableEq, Repr

/-- Panel power (R400 to R404). -/
structure Panel where
  st : PanelState
  step : PowerStep
  stepAt : Nat
  enables : BitVec 4
  cause : Nat
  blackLeft : Nat
  blackDue : Bool
  hardware : Bool
  pfwStop : Bool
  restWanted : Bool
  blOn : Bool
deriving DecidableEq, Repr

/-- A row as sent on the Bobbin lanes (R381, R384): its POL and the panel-depth codes, red, green, blue per column. -/
structure SentRow where
  row : Nat
  pol : Bool
  codes : List Nat
deriving DecidableEq, Repr

/-- What a driver's lanes carry at one block time, before scrambling: a control or a data block, and the eight bytes of each lane (R377, R378). It is sent `reps` times in a row; SEQ of a TRAIN block advances by 1 at each (R379). -/
structure BobSet where
  control : Bool
  lanes : List (List Byte)
  reps : Nat
deriving DecidableEq, Repr

/-- A request outstanding on a sense-return lane (R394). -/
inductive LaneReq
  | readout (slot : Nat) (driver : Nat)
  | poll (driver : Nat)
  | caps (driver : Nat)
deriving DecidableEq, Repr

/-- The Bobbin links (R375 to R396). `out` holds what went out last: for each driver the block sets on its lanes, IDLE apart (R378 to R384), and `outAt` since when. -/
structure Bobbin where
  lockState : Nat
  driversOk : BitVec 24
  trainTime : Nat
  attempt : Nat
  phase : Nat
  attemptAt : Nat
  lineHigh : Bool
  lowBlanks : Nat
  lockFailRaised : Bool
  lowThisFrame : Bool
  lockLoss : Vector Nat 24
  crcErr : Vector Nat 24
  zoneSrc : Vector Nat 24
  lanes : Vector (List LaneReq) 6
  lossSeen : BitVec 24
  initList : List (Nat × Nat)
  sent : List SentRow
  rate : Nat
  out : List (Nat × List BobSet)
  outAt : Nat
deriving DecidableEq, Repr

/-- Selvedge outputs (R397 to R399): whether they are driven, the logical level of each function code, the row last shifted out on SADDR, the instant up to which edges have been placed, and the frame start whose early FRAME edges have been placed as far as they were due. -/
structure Selvedge where
  driven : Bool
  level : BitVec 64
  saddr : Nat
  upto : Nat
  knownFor : Option Nat
deriving DecidableEq, Repr
/-! ## Vorul host link (07_host_link.md) -/

/-- Lane group states of R179. -/
inductive LinkState | idle | clkDetect | phase | equalize | deskew | active
deriving DecidableEq, Repr

/-- One lane group (R171, R179 to R183, R205). `sofSeen` says that a SOF has come since the group became ACTIVE (R175). -/
structure LaneGroup where
  st : LinkState
  clockPresent : Bool
  idleSeen : Bool
  blockErrs : List Nat
  skipToSof : Bool
  sofSeen : Bool
  lastFs : Option Word
  lastRow : Option Nat
  fs : List Byte
  fe : Option (List Byte)
  pixels : List (Nat × List Byte)
deriving DecidableEq, Repr

/-- An input row held by a half's input buffer (R26): a good row's index and 14-bit codes. -/
structure BufRow where
  row : Nat
  codes : List Nat
deriving DecidableEq, Repr

/-- How an input frame is being received (R239 to R244). -/
inductive InputUse | live | captured | dropped | rejected | frozen
deriving DecidableEq, Repr

/-- The input frame between its FS and its FE (R187 to R199, R222). -/
structure InputFrame where
  src : Word
  flags : BitVec 8
  format : Nat
  use : InputUse
  slot1 : Bool
  bad : List Nat
  judged : Nat
  hoopRepeat : Bool
  started : Bool
  fsBytes : List Byte
  slotAt : Option Nat
  decided : Bool
  fsAt : Nat
deriving DecidableEq, Repr

/-- A message waiting on the back-channel (R200, R201); `last` names the mailbox its last CTL_RESP fragment releases. -/
structure BcMsg where
  kind : Nat
  payload : List Byte
  last : Option Mb
deriving DecidableEq, Repr

/-- The Vorul link, its input frame and the back-channel (R171 to R209): `scr` holds the scramblers of the link lanes (R176), `bcWire` the code groups of the latest message on HL_BC, `bcMinus` a negative running disparity, and `bcAt` the instant the lane's latest character ended (R200). -/
structure HostLink where
  a : LaneGroup
  b : LaneGroup
  attempts : Nat
  attemptsTotal : BitVec 32
  trainFrom : Nat
  backoff : Bool
  vote : Bool
  trainWanted : Bool
  lastFailState : Nat
  sleepIdle : Option Word
  sleepKeep : Bool
  skew : Int
  eq : Vector (Nat × Nat) 16
  adapted : Vector Bool 16
  eye : Vector (Nat × Nat) 16
  phaseSel : Vector Nat 16
  deskew : Vector Nat 16
  laneErr : Vector Nat 16
  scan : List (Nat × Nat)
  rateA : Nat
  rateB : Nat
  fifoA : Nat
  fifoB : Nat
  frame : Option InputFrame
  bufL : List BufRow
  bufR : List BufRow
  markShown : Bool
  rejecting : Bool
  lastSrc : Word
  lastBad : Nat
  tx : List BcMsg
  statusDue : Bool
  repeated : Bool
  fsLast : Option Word
  scr : Vector (BitVec 31) 16
  bcWire : List (BitVec 10)
  bcMinus : Bool
  bcAt : Nat
deriving DecidableEq, Repr

/-! ## Content protection (08_content_protection.md) -/

/-- Session keys of R214. -/
structure Keys where
  row : List Byte
  tag : List Byte
  ctl : List Byte
  hconf : List Byte
  dconf : List Byte
deriving DecidableEq, Repr

/-- An established session (R215, R538). -/
structure Session where
  id : BitVec 16
  keys : Keys
  switch : Word
deriving DecidableEq, Repr

/-- A handshake in progress (R212 to R215): the HELLO bytes, the mailbox its messages use (none for the link), which random draw it uses, DEVICE_HELLO, its SESSION_ID, keys and time once sent, and whether it is to renew a session established then. -/
structure Handshake where
  hello : List Byte
  path : Option Mb
  draw : Nat
  deviceHello : Option (List Byte)
  id : BitVec 16
  keys : Option Keys
  sentAt : Nat
  renew : Bool
deriving DecidableEq, Repr

/-- A fragmented object being received by SEC_APPROVE or SEC_FW_UPDATE (R228, R231). -/
structure Upload where
  open_ : Bool
  nextOff : Nat
  bytes : List Byte
  checking : Bool
deriving DecidableEq, Repr

/-- A session that has ended and whose event waits (R235): the cause, the SESSION_ID, and whether PROFILE_APPLIED is waited for rather than CTRL. -/
structure EndedSession where
  cause : Nat
  id : Nat
  atProfile : Bool
deriving DecidableEq, Repr

/-- Sessions, protected settings and updates (R210 to R236). Sessions stand newest first; `fuse` counts anti-rollback steps blown in the field; `unlocked` lasts from a debug unlock to the next reset (R236); `linkEnc` is SEC.LINK_ENC as the latest FS took it (R234). -/
structure Security where
  sessions : List Session
  handshake : Option Handshake
  idCounter : BitVec 16
  lastId : BitVec 16
  dropped : Bool
  tagFails : Nat
  lastPassed : Option Word
  nonce : Option (List Byte)
  fuse : Nat
  bundle : Upload
  image : Upload
  imageSlot : Bool
  endEvents : List EndedSession
  unlocked : Bool
  linkEnc : Bool
deriving DecidableEq, Repr

/-! ## Tatting net (15_tatting_net.md) -/

/-- Port states of R411; a port is DISABLED while TAT.PORT_EN or the root's role says so, which is no state of its own. -/
inductive PortState | down | measuring | up
deriving DecidableEq, Repr

/-- A message waiting on a port's transmitter (R412). -/
structure TatMsg where
  kind : Nat
  payload : List Byte
deriving DecidableEq, Repr

/-- One Tatting port: its errors, transmit queue, ID range, the last counts of its subtree, and whether they name a topology change. -/
structure TatPortState where
  st : PortState
  errs : List Nat
  tx : List TatMsg
  first : Nat
  last : Nat
  counts : List Nat
  topology : Bool
  rejoin : Bool
  wire : List (BitVec 10)
  minus : Bool
  txAt : Nat
deriving DecidableEq, Repr

/-- Enumeration in progress (R414, R415). -/
structure EnumRun where
  next : Nat
  limit : Nat
  depth : Nat
  dmax : Nat
  err : Nat
  port : TatPort
deriving DecidableEq, Repr

/-- Epoch states of R426. -/
inductive EpochState | staging | staged | failed | armed | applied | aborted
deriving DecidableEq, Repr

/-- An epoch set held by this device (R424 to R431). -/
structure Epoch where
  e : Nat
  bytes : List Byte
  nextOff : Nat
  st : EpochState
  f : Nat
deriving DecidableEq, Repr

/-- A frame start announced by a beacon or a pair's master, or predicted in holdover (R418 to R420, R432, R435): the instant in 1/16 ns and on the CK_PIPE grid, and the period in ns and in ticks of this device. `hoopOnly` marks a master's frame that no pair shows live (R239, R267). -/
structure BeaconTiming where
  frame : BitVec 32
  t16 : Nat
  start : Nat
  periodNs : Nat
  period : Nat
  rowTime : Nat
  flags : Nat
  armedE : Nat
  applyF : Nat
  appliedE : Nat
  hoopOnly : Bool
deriving DecidableEq, Repr

/-- Lock state reported by TAT.LOCK_STATE (R432, R433, R441). -/
inductive TatLock | none | locked | holdover | islanded | root | follower
deriving DecidableEq, Repr

/-- The Tatting net state of one device (R410 to R441). -/
structure Tatting where
  up : TatPortState
  dn0 : TatPortState
  dn1 : TatPortState
  seq : Nat
  reqAt : Option Nat
  hops : List Nat
  hopDelay : Nat
  rhos : List (Nat × Nat)
  id : Nat
  depth : Nat
  netSize : Nat
  netDepth : Nat
  topoChanged : Bool
  enum_ : Option EnumRun
  staged : Option Epoch
  applied : Option Epoch
  wantE : Nat
  reqE : Nat
  armE : Nat
  armF : Nat
  armTiming : Option (Nat × Nat)
  armUnfit : Bool
  lock : TatLock
  missed : Nat
  goodRun : Nat
  last : Option BeaconTiming
  next : Option BeaconTiming
  period : Nat
  rowTime : Nat
  islandCause : Nat
  countsDirty : Bool
  lastKind5 : Bool
  followerT4 : Bool
  skewWait : Bool
  pairTrans : Option (BitVec 32)
  pairHoop : Option Bool
  skewSeen : Bool
  role : Nat
deriving DecidableEq, Repr

/-! ## The whole machine -/

/-- The UL9484: every register, buffer, counter, mode and pin state of the spec, the model's free-value counter, and the commands waiting. -/
structure State where
  now : Nat
  boot : Boot
  vin : Vin
  win : Window
  box : Boxes
  evq : EventQueue
  log : TroubleLog
  stat : Stats
  eyes : Eyes
  par : Params
  fn : Funcs
  tab : List Table
  pwr : Power
  thm : Thermal
  mem : Mem
  cmp : Cmp
  nv : Nv
  ras : Raster
  pipe : Pipe
  prk : Prick
  apq : Applique
  pnl : Panel
  bob : Bobbin
  sel : Selvedge
  hl : HostLink
  sec : Security
  tat : Tatting
  free : Nat
  pending : List Instr
deriving DecidableEq, Repr

/-! ## The state right after AON power-up -/

/-- A mailbox at reset (R118, R122): IDLE, with buffers of 512 bytes; the buffer bytes are the model's choice 0x00. -/
def Mailbox.initial : Mailbox :=
  { st := .idle, tag := 0, overrun := false, origin := .ctl, req := List.replicate 512 0,
    resp := List.replicate 512 0, fill := false, wait := .none, rungAt := 0 }

/-- MB3 has no request buffer of its own (R109). -/
def Mailbox.peerInitial : Mailbox := { Mailbox.initial with origin := .peer, req := [], resp := [] }

/-- The mailboxes at reset. -/
def Boxes.initial : Boxes :=
  { mb0 := .initial, mb1 := .initial, mb2 := .initial, mb3 := .peerInitial, order := [], peers := [],
    jobs := [], mb1Rx := 0, mb1Tx := 0 }

/-- The register window at reset (R118). -/
def Window.initial : Window :=
  { irqStatus := 0, irqEnable := 0, inbandEn := true, quadEn := false, quadNow := false, csLow := false,
    ctlFraming := 0, svcFraming := 0, refused := 0, dbOverrun := 0, timeHiCtl := 0, timeHiSvc := 0,
    scratch0 := 0, scratch1 := 0, wakeCause := 0, peerServed := 0, peerRefused := 0, svcAddr := 0x58,
    ctlDead := false, ctlDrive := false, sdaHeld := false }

/-- Boot state at AON power-up (R82, R105 to R108): RESET_CAUSE is POWER_UP. -/
def Boot.initial : Boot :=
  { powered := true, startLead := 360000,
    straps := { vioHigh := false, svcAddr := 0, tatRoot := false, bootSlot := false, pairRight := false },
    strapsDone := false, vioHigh := false, stage := .aonUp, startAt := 0, stepMs := 0, slot := false, fallback := false,
    warm := false, result0 := .notTried, result1 := .notTried, memReady := false, mapReady := false,
    panelReady := false, compensated := false, resetCause := 1, faultCause := 0, key := none,
    failed0 := false, failed1 := false, swapOnce := false, firstSlot := false, checking := none,
    bootWdog := false, fwVersion := 0, secVersion := 0, resetPin := false, pendingReset := none,
    thermalOff := false, limp := false, resonatorChecked := false, resonatorPpm10 := 0, rootLocked := false,
    profileId := 0, profileOk := false, mapWaitOver := false, mapLoaded := false, tapReset := true, updated := false, resetAt := none,
    resetFirst := 1, tapIr := .idcode, tdo := false }

/-- A rectangle record at its parameter defaults (R448). -/
def EyeRec.initial : EyeRec := { x := 0, y := 0, w := 16, h := 16, tap := 0, flags := 0, expected := 0 }

/-- An Eyelet never checked (R442). -/
def Eyelet.initial : Eyelet :=
  { record := .initial, cur := .initial, crc := 0, rowsSeen := 0, concealed := false, active := false,
    lastCrc := 0, lastFrame := 0, result := 0, mismatched := false }

/-- A function after reset: running, with PROFILE 0xFF (R132). -/
def FuncState.initial : FuncState := { stopped := false, profile := 0xFF, inReset := false }

/-- The functions after reset; the raster is stopped until the panel is on (R400). -/
def Funcs.initial : Funcs :=
  { overdrive := .initial, pricking := .initial, applique := .initial, dither := .initial,
    hostLink := .initial, sensing := .initial, raster := .initial, pend := [] }

/-- A domain at AON power-up: off (R110, R506). Its target starts at its low state, so that only an *on* vote is a rise that wakes it (R82, R509). -/
def Domain.initial : Domain :=
  { st := .off, phase := .settled, target := .retention, latched := false, idleFrom := none, fails := 0,
    leftOff := true, resOn := 0, resRet := 0, resOff := 0 }

/-- Power management at AON power-up (R506 to R521). -/
def Power.initial : Power :=
  { dom := Vector.replicate 19 .initial, hostOn := 0, hostRet := 0, runVote := false, bootVote := false, wakeVote := 0,
    wakeLatched := 0, window := 0, windowCost := 0, standby := none, asleep := false,
    deep := false, resume := false, wakeTimer := none, resHi := [] }

/-- Thermal state at AON power-up, before the first sample (R524 to R536). -/
def Thermal.initial : Thermal :=
  { die := Vector.replicate 12 0, suspect := Vector.replicate 12 false, outRun := Vector.replicate 12 0,
    inRun := Vector.replicate 12 0, mem0 := 0, mem1 := 0, tc := 0, rise := 0, step := 0, hist := [],
    riseDisarmed := false, reqRate := 0, reqCause := 1, floor := 0, t4 := .none,
    sampledAt := none, coolFrom := none, t4Refused := false, risePend := false }

/-- A hoop frame's descriptor at reset (R272). -/
def HoopFrame.initial (r : Role) : HoopFrame :=
  { role := r, format := 1, scanning := false, resident := false, rows := 0, src := 0 }

/-- Nothing fetched. -/
def Fetch.empty : Fetch := { held := 0, ahead := 0, part := 0, fails := 0 }

/-- GDDR7 unpowered; the descriptors are at their reset values (R272). -/
def Mem.initial : Mem :=
  { cells := [], hoopFill := 0, h0 := .initial .marked, h1 := .initial .free, sleep := .active,
    fetchL := Vector.replicate 8 .empty, fetchR := Vector.replicate 8 .empty, restL := 0, restR := 0, restFails := 0,
    asks := [], won := 0, won4 := 0, won5 := 0, readRem := 0, writeRem := 0, resBlocks := [], layerCarry := true, residence := .none, resBytes := 0, resLevel := 1, resFails := 0, resOver := false,
    degraded := [], degradeDue := false, consecAborts := 0, cleanFrames := 0, reseed := false, restoreAll := false,
    capRaised := false, bandCarry := 0, bandRefused := false }

/-- The compression engine at reset: idle, no job ended yet (R474). -/
def Cmp.initial : Cmp :=
  { jobs := [], nextJob := 1, lastJob := 0, lastStatus := 0, lastIn := 0, lastOut := 0, lastBlocks := 0,
    lastStored := 0, lastFail := 0xFFFFFFFF, lastTime := 0, inRem := 0, outRem := 0 }

/-- Flash as shipped erased, and the always-on values at 0 until the first scan (R493). -/
def Nv.initial : Nv :=
  { nor := [], nand := [], st := .notScanned, write := none, queue := [], erase := none,
    badSectors := [], stores := [], ties := [], firstScan := true, panelOn := 0, bootCount := 0,
    snapGen := 0, snapSlot := 0, saveCause := 0, snapPanelOn := 0, pfwCount := 0, lastSave := 0, storeGen := 0,
    nandBad := [], replaced := [] }

/-- The raster stopped, with frame number 0 (R82). -/
def Raster.initial : Raster :=
  { running := false, frame := 0, start := 0, prevStart := 0, liveStart := none, pIn := none,
    base := 0, active := .source, kind := .hoop, sourceTimed := false, rowsStarted := 0, rowEnd := 0,
    inBlank := true, blankAt := 0, earliest := 0, aborted := false, scan1 := false, repeats := [],
    holdPeriod := 0, shortHold := false, ladderStep := 0, dwellFrom := 0, pull := none, absentFrom := none,
    delayOver := false, transition := none, modeAt := none, heldChange := none, latticePhase := 0, pairSkew := 0,
    framesOn := 0, tagHold := false, repeatFrom := none, abortAt := none, timingApplied := false, markMoved := false,
    holdEntered := false, rowTime := 4595 }

/-- Stage 4 and 5 state at reset: every zone missing, phase P 0 (R309, R319). -/
def Pipe.initial : Pipe :=
  { zones := Vector.replicate 24 { temp := 0, at_ := none, missing := true },
    snap := { taken := false, cols := 0, rows := 0, temps := Vector.replicate 24 0, ages := Vector.replicate 24 65535, validCount := 0 },
    writeTime := [], sramSet := none, copyDue := false, settled := false, settledNow := true, sramOd := [], sramTile := [],
    lacking := 0, rounding := false,
    phase := 0, phaseUsed := 0, lastUnsuspended := 0, suspended := false }

/-- Pricking and sensing at reset: no plane valid, sweep at k = 0 (R167, R334). -/
def Prick.initial : Prick :=
  { storePending := 0, curvePending := false, sweepK := 0,
    sweepCount := 0, blank := { frame := 0, rows := [], results := [] },
    latest := { frame := 0, rows := [], results := [] }, senseDue := [], senseLevels := 0x30001000, sweepFresh := false, senseSkipped := false,
    clearDue := false, stressEn := true, snapLevel := 3, altBlank := false,
    pairs := [], folds := [], rest := false, restRows := 0, stress := .off, accTime := [], accFrom := 0,
    passOn := false, passHeld := false, snap := .none, snapData := [],
    snapGens := Vector.replicate 3 0, snapPanelOn := 0, snapFails := 0, snapOverrun := false, snapWaitUntil := none,
    dirty := false, shutdownSnap := false, planeGen := Vector.replicate 6 0, curveGen := 0 }

/-- No layer cached and no clip playing at reset. -/
def Applique.initial : Applique :=
  { clip := none, eligibleAt := none, clipEnding := false, forced := false, notValidRaised := false, clipRestart := false,
    cached := Vector.replicate 4 false, hdrs := [], tiles := [], faultRaised := Vector.replicate 4 false, retired := [] }

/-- The panel unpowered, PNL.STATE 0 (R400). -/
def Panel.initial : Panel :=
  { st := .off, step := .none, stepAt := 0, enables := 0, cause := 0, blackLeft := 0, blackDue := false, hardware := false,
    pfwStop := false, restWanted := false, blOn := false }

/-- The Bobbin links off (R389); BOB_LOCK_N reads high from its pull-up. -/
def Bobbin.initial : Bobbin :=
  { lockState := 0, driversOk := 0, trainTime := 0, attempt := 0, phase := 0, attemptAt := 0, lineHigh := true,
    lowBlanks := 0, lockFailRaised := false, lowThisFrame := false, lockLoss := Vector.replicate 24 0,
    crcErr := Vector.replicate 24 0, zoneSrc := Vector.replicate 24 0, lanes := Vector.replicate 6 [], lossSeen := 0, initList := [], sent := [], rate := 48, out := [], outAt := 0 }

/-- A lane group IDLE (R179). -/
def LaneGroup.initial : LaneGroup :=
  { st := .idle, clockPresent := false, idleSeen := true, blockErrs := [], skipToSof := false, sofSeen := false,
    lastFs := none, lastRow := none, fs := [],
    fe := none, pixels := [] }

/-- The Vorul link IDLE with nothing received (R179). -/
def HostLink.initial : HostLink :=
  { a := .initial, b := .initial, attempts := 0, attemptsTotal := 0, trainFrom := 0, backoff := false, vote := false,
    trainWanted := false, lastFailState := 0, sleepIdle := none, sleepKeep := false, skew := 0, eq := Vector.replicate 16 (8, 1),
    adapted := Vector.replicate 16 false, eye := Vector.replicate 16 (0, 0), phaseSel := Vector.replicate 16 0,
    deskew := Vector.replicate 16 0, laneErr := Vector.replicate 16 0, scan := [], rateA := 0, rateB := 0,
    fifoA := 0, fifoB := 0, frame := none, bufL := [], bufR := [], markShown := true, rejecting := false,
    lastSrc := 0, lastBad := 0, tx := [], statusDue := false, repeated := false, fsLast := none,
    scr := Vector.ofFn fun n => 0x7FFFFFE0 + BitVec.ofNat 31 (n.val % 8), bcWire := [], bcMinus := true, bcAt := 0 }

/-- No upload open. -/
def Upload.initial : Upload := { open_ := false, nextOff := 0, bytes := [], checking := false }

/-- No session, no nonce (R122, R216, R232). -/
def Security.initial : Security :=
  { sessions := [], handshake := none, idCounter := 0, lastId := 0, dropped := false, tagFails := 0, lastPassed := none,
    nonce := none, fuse := 0, bundle := .initial, image := .initial, imageSlot := false, endEvents := [],
    unlocked := false, linkEnc := false }

/-- A Tatting port DOWN with an empty range (R411, R414). -/
def TatPortState.initial : TatPortState :=
  { st := .down, errs := [], tx := [], first := 1, last := 0, counts := [], topology := false, rejoin := false, wire := [], minus := true, txAt := 0 }

/-- The Tatting net with no ID and no beacon (R414). -/
def Tatting.initial : Tatting :=
  { up := .initial, dn0 := .initial, dn1 := .initial, seq := 0, reqAt := none, hops := [], hopDelay := 0, rhos := [],
    id := 0, depth := 0, netSize := 0, netDepth := 0, topoChanged := false, enum_ := none, staged := none,
    applied := none, wantE := 0, reqE := 0, armE := 0, armF := 0, armTiming := none,
    armUnfit := false, lock := .none, missed := 0, goodRun := 0, last := none, next := none, period := 0, rowTime := 0,
    islandCause := 0, countsDirty := false, lastKind5 := false, followerT4 := false, skewWait := false, pairTrans := none, pairHoop := none,
    skewSeen := false, role := 0 }

/-- The RESET entry of R457 that opens the cleared log after AON power-up. -/
def LogEntry.powerUp : LogEntry :=
  { time := 0, frameLo := 0, code := 0x0500, source := 3, sevFlags := 0, data := 1 }

/-- The machine right after AON power-up (R82, R99): AON up, STAGE AON_UP, every other domain off. -/
def State.reset : State :=
  { now := 0, boot := .initial,
    vin := { boot := 0, bootDone := false, latest := 0, pfw := false, pfwAt := 0, saved := false, recoverFrom := none, recovering := false },
    win := .initial, box := .initial, evq := { entries := [], overflow := false, dropped := 0 },
    log := { ring := [.powerUp], next := 1, lost := 0, errors := 0, fatals := 0, first := none, recent := [] },
    stat := { live := [(322, 1)], copy := [], period := 0, startAt := 0, frames := 0, endTime := 0 },
    eyes := { eye := Vector.replicate 16 .initial, holdDue := false, holding := false },
    par := { active := [], staged := [], waiting := [], lastTarget := 0, applied := false },
    fn := .initial, tab := [], pwr := .initial, thm := .initial, mem := .initial, cmp := .initial, nv := .initial,
    ras := .initial, pipe := .initial, prk := .initial, apq := .initial, pnl := .initial, bob := .initial,
    sel := { driven := false, level := 0, saddr := 0, upto := 0, knownFor := none }, hl := .initial, sec := .initial, tat := .initial,
    free := 0, pending := [] }

end Sys2Proof.Machine
end

