-- ==== Sys2Proof/Machine/Ops.lean ====
section
/-! DEFINITION. The named operations over the state: sorted lists, memory cells, time, free values, parameters, statistics, the trouble log, events, interrupts and votes. -/

namespace Sys2Proof.Machine

/-- The outcome type of every meaning. -/
abbrev Out := Host.Outcome State Fault Refusal

/-! ## Sorted association lists and memory cells -/

/-- The value at key `k`, or `d`. -/
def aget {α : Type} (l : List (Nat × α)) (k : Nat) (d : α) : α :=
  match l with
  | [] => d
  | (j, v) :: t => if j = k then v else aget t k d

/-- The value at key `k`, if any. -/
def aget? {α : Type} (l : List (Nat × α)) (k : Nat) : Option α :=
  match l with
  | [] => none
  | (j, v) :: t => if j = k then some v else aget? t k

/-- The list with `v` at key `k`, its keys kept rising. -/
def aset {α : Type} (l : List (Nat × α)) (k : Nat) (v : α) : List (Nat × α) :=
  match l with
  | [] => [(k, v)]
  | (j, w) :: t => if k < j then (k, v) :: (j, w) :: t else if k = j then (k, v) :: t else (j, w) :: aset t k v

/-- The list without key `k`. -/
def adel {α : Type} (l : List (Nat × α)) (k : Nat) : List (Nat × α) :=
  match l with
  | [] => []
  | (j, w) :: t => if j = k then t else (j, w) :: adel t k

/-- Read one byte of a memory whose unlisted addresses read as `bg`. -/
def cellRead (bg : Nat → Byte) (m : List Host.Cell) (a : Nat) : Byte := aget m a (bg a)

/-- Write one byte; writing what an unlisted address reads as removes the entry. -/
def cellWrite (bg : Nat → Byte) (m : List Host.Cell) (a : Nat) (v : Byte) : List Host.Cell :=
  if v = bg a then adel m a else aset m a v

/-- Write consecutive bytes from address `a`. -/
def cellWrites (bg : Nat → Byte) (m : List Host.Cell) (a : Nat) : List Byte → List Host.Cell
  | [] => m
  | v :: vs => cellWrites bg (cellWrite bg m a v) (a + 1) vs

/-- Read `n` consecutive bytes from address `a`. -/
def cellReads (bg : Nat → Byte) (m : List Host.Cell) (a n : Nat) : List Byte :=
  (List.range n).map fun i => cellRead bg m (a + i)

/-- The canonical form of a memory: addresses strictly rising, and no entry that an unlisted address would read as. -/
def cellsWf (bg : Nat → Byte) : List Host.Cell → Bool
  | [] => true
  | (a, v) :: t =>
      (match t with
        | [] => true
        | (b, _) :: _ => decide (a < b)) && decide (v ≠ bg a) && cellsWf bg t

/-- What an unlisted GDDR7 byte reads as: the fill word in the hoop (R82, R270), 0x00 elsewhere (assumption 6). -/
def memBg (fill : Word) (a : Nat) : Byte :=
  if a < 0x10000000 then Byte.of (fill.toNat / 256 ^ (a % 4) % 256) else 0

/-- What an unlisted flash byte reads as: erased (R475; assumption 7). -/
def flashBg (_ : Nat) : Byte := 0xFF

/-- Whether GDDR7 and both flash memories have their canonical form. -/
def Memory.wf (s : State) : Bool :=
  cellsWf (memBg s.mem.hoopFill) s.mem.cells && cellsWf flashBg s.nv.nor && cellsWf flashBg s.nv.nand

/-- One GDDR7 byte. -/
def State.ram (s : State) (a : Nat) : Byte := cellRead (memBg s.mem.hoopFill) s.mem.cells a

/-- `n` GDDR7 bytes. -/
def State.ramBytes (s : State) (a n : Nat) : List Byte := (List.range n).map fun i => s.ram (a + i)

/-- GDDR7 with bytes written from `a`. -/
def State.ramWrite (s : State) (a : Nat) (bs : List Byte) : State :=
  { s with mem := { s.mem with cells := cellWrites (memBg s.mem.hoopFill) s.mem.cells a bs } }

/-- One NOR byte. -/
def State.norByte (s : State) (a : Nat) : Byte := cellRead flashBg s.nv.nor a

/-- `n` NOR bytes. -/
def State.norBytes (s : State) (a n : Nat) : List Byte := (List.range n).map fun i => s.norByte (a + i)

/-- NOR programming: each byte becomes old AND new (R475). -/
def State.norProgram (s : State) (a : Nat) : List Byte → State
  | [] => s
  | v :: vs =>
    State.norProgram { s with nv := { s.nv with nor := cellWrite flashBg s.nv.nor a (s.norByte a &&& v) } } (a + 1) vs

/-- NOR with `n` bytes from `a` erased to 0xFF (R475). -/
def State.norErase (s : State) (a n : Nat) : State :=
  { s with nv := { s.nv with nor := s.nv.nor.filter fun c => c.1 < a || a + n ≤ c.1 } }

/-- One NAND data byte. -/
def State.nandByte (s : State) (a : Nat) : Byte := cellRead flashBg s.nv.nand a

/-- `n` NAND bytes. -/
def State.nandBytes (s : State) (a n : Nat) : List Byte := (List.range n).map fun i => s.nandByte (a + i)

/-- NAND with bytes written from `a`. -/
def State.nandWrite (s : State) (a : Nat) (bs : List Byte) : State :=
  { s with nv := { s.nv with nand := cellWrites flashBg s.nv.nand a bs } }

/-- NAND with `n` bytes from `a` erased. -/
def State.nandErase (s : State) (a n : Nat) : State :=
  { s with nv := { s.nv with nand := s.nv.nand.filter fun c => c.1 < a || a + n ≤ c.1 } }

/-! ## Time -/

/-- Raster-reference ticks of a microsecond (R532). -/
def us (n : Nat) : Nat := 1200 * n

/-- Raster-reference ticks of a millisecond. -/
def ms (n : Nat) : Nat := 1200000 * n

/-- Device time: 48-bit count of CK_AON ticks (R7). -/
def State.devTime (s : State) : Nat := s.now / 1000 % 2 ^ 48

/-- The microsecond counter of R297 at an instant. -/
def usCount (t : Nat) : Nat := t / 1200 % 2 ^ 32

/-! ## Domains -/

/-- The domain numbers of R123. -/
abbrev dCtrl : Fin 19 := 0
/-- HLA. -/
abbrev dHla : Fin 19 := 1
/-- HLB. -/
abbrev dHlb : Fin 19 := 2
/-- PIPE. -/
abbrev dPipe : Fin 19 := 3
/-- SRAM0. -/
abbrev dSram0 : Fin 19 := 4
/-- SRAM1. -/
abbrev dSram1 : Fin 19 := 5
/-- SRAM2. -/
abbrev dSram2 : Fin 19 := 6
/-- MEM. -/
abbrev dMem : Fin 19 := 12
/-- BOBL. -/
abbrev dBobl : Fin 19 := 13
/-- BOBR. -/
abbrev dBobr : Fin 19 := 14
/-- CODEC. -/
abbrev dCodec : Fin 19 := 15
/-- SEC. -/
abbrev dSec : Fin 19 := 16
/-- TAT. -/
abbrev dTat : Fin 19 := 17
/-- NVM. -/
abbrev dNvm : Fin 19 := 18

/-- Whether a domain is on. -/
def State.domOn (s : State) (d : Fin 19) : Bool := s.pwr.dom[d].st == .on

/-- Whether a domain is marked DOMAIN_FAILED. -/
def State.domFailed (s : State) (d : Fin 19) : Bool := s.pwr.dom[d].st == .failed

/-- The state with one domain changed. -/
def State.onDom (s : State) (d : Fin 19) (f : Domain → Domain) : State :=
  { s with pwr := { s.pwr with dom := s.pwr.dom.set d (f s.pwr.dom[d]) } }

/-! ## Free values -/

/-- The next free value and the state that has used it (assumption 3). -/
def State.takeFree (s : State) : BitVec 32 × State :=
  (Config.freeValue s.free, { s with free := s.free + 1 })

/-! ## Parameters -/

/-- The active value of a parameter (R143). -/
def State.param (s : State) (id : Nat) : Nat :=
  match aget? s.par.active id with
  | some v => v.toNat
  | none => pDefault id

/-- The active value read as two's complement (R141). -/
def State.paramInt (s : State) (id : Nat) : Int := signed 32 (s.param id)

/-- Write an active value; a value equal to the Default is not listed. -/
def Params.put (p : Params) (id : Nat) (v : Word) : Params :=
  { p with active := if v.toNat = pDefault id then adel p.active id else aset p.active id v }

/-- The state with an active value written. -/
def State.setParam (s : State) (id v : Nat) : State :=
  { s with par := s.par.put id (Word.of v) }

/-- Write several active values in order. -/
def State.setParams (s : State) (vs : List (Nat × Word)) : State :=
  { s with par := vs.foldl (fun p v => p.put v.1 v.2) s.par }

/-- Something changed in what is shown: the dwell of the static ladder starts again, and a stepped ladder returns to its base rate with the next frame start pulled to this instant (R262, R263). -/
def State.ladderChange (s : State) : State :=
  let r := s.ras
  { s with ras := { r with ladderStep := 0, dwellFrom := s.now, pull := if 0 < r.ladderStep then some s.now else r.pull } }

/-- Whether `n` bytes written from `a` touch the surface or the header table of an enabled layer (R262, R274). -/
def State.layerTouched (s : State) (a n : Nat) : Bool :=
  (List.range 4).any fun k =>
    let p (i : Nat) : Nat := s.param (0x3010 + 16 * k + i)
    let tiles := ((p 3 + 15) / 16) * ((p 4 + 15) / 16)
    let meets (b m : Nat) : Bool := a < b + m && b < a + n
    p 0 == 1 && (meets (p 6) (1024 * tiles) || meets (p 7) (8 * tiles))

/-- A request of class 4, or of class 5 where `low`, for `n` bytes of GDDR7 traffic (R275). -/
def State.memAsk (s : State) (low write : Bool) (n : Nat) : State :=
  { s with mem := { s.mem with asks := s.mem.asks ++ [{ low := low, write := write, left := n }] } }

/-- Surface-pool bytes written from `a`, as class 4 traffic or, by the compression engine, class 5 (R274, R275): header entries whose bytes are written leave the tile header cache (R274, R362), and a write to an enabled layer's surface is a change for the ladder (R262). -/
def State.poolWrite (s : State) (low : Bool) (a : Nat) (bs : List Byte) : State :=
  let s1 := (s.ramWrite a bs).memAsk low true bs.length
  let hit (e : Nat × Nat) : Bool :=
    let h := s.param (0x3017 + 16 * e.1) + 8 * e.2
    h < a + bs.length && a < h + 8
  let s2 := { s1 with apq := { s1.apq with hdrs := s1.apq.hdrs.filter fun e => !hit e } }
  if s.layerTouched a bs.length then s2.ladderChange else s2

/-! ## Statistics -/

/-- A live counter, saturating at 0xFFFF_FFFF (R450). -/
def State.count (s : State) (i n : Nat) : State :=
  if n = 0 then s
  else { s with stat := { s.stat with live := aset s.stat.live i (sat 0xFFFFFFFF (aget s.stat.live i 0 + n)) } }

/-! ## Interrupts, the trouble log and events -/

/-- Set a bit of IRQ_STATUS (R120). -/
def State.irq (s : State) (b : Nat) : State :=
  { s with win := { s.win with irqStatus := s.win.irqStatus ||| BitVec.ofNat 32 (2 ^ b) } }

/-- A log or event entry at this instant (R136, R454); SEV_FLAGS [5] marks limp mode. -/
def State.entry (s : State) (code : Nat) (sev : Severity) (other : Bool) (source data : Nat) : LogEntry :=
  { time := BitVec.ofNat 48 s.devTime, frameLo := BitVec.ofNat 16 s.ras.frame.toNat, code := BitVec.ofNat 16 code,
    source := BitVec.ofNat 8 source,
    sevFlags := BitVec.ofNat 8 (64 * sev.code + 32 * b2n s.boot.limp + b2n other), data := BitVec.ofNat 32 data }

/-- Severity of a stored entry. -/
def LogEntry.sev (e : LogEntry) : Nat := e.sevFlags.toNat / 64

/-- The log with an entry appended (R455, R456, R458). -/
def TroubleLog.push (l : TroubleLog) (e : LogEntry) : TroubleLog :=
  let full := l.ring.length ≥ 4096
  let serious := e.sev ≥ 2
  { ring := (if full then l.ring.drop 1 else l.ring) ++ [e], next := l.next + 1,
    lost := if full then sat 0xFFFFFFFF (l.lost + 1) else l.lost,
    errors := if e.sev = 2 then l.errors + 1 else l.errors,
    fatals := if e.sev = 3 then l.fatals + 1 else l.fatals,
    first := if serious && l.first.isNone then some e else l.first,
    recent := if serious then (e :: l.recent).take 12 else l.recent }

/-- Write an entry to the trouble log unless LOG.MIN_SEVERITY filters it (R454); LOG_ENTRIES and LOG_LOST count (R452). -/
def State.addLog (s : State) (e : LogEntry) : State :=
  if e.sev < s.param 0x1403 then s
  else
    let s' := { s with log := s.log.push e }
    (s'.count 322 1).count 323 (b2n (s.log.ring.length ≥ 4096))

/-- A log-only entry (R457). -/
def State.logOnly (s : State) (code : Nat) (sev : Severity) (source data : Nat) : State :=
  s.addLog (s.entry code sev false source data)

/-- Queue an event entry; a full queue drops it (R136). -/
def State.queueEvent (s : State) (e : LogEntry) : State :=
  if s.evq.entries.length ≥ 256 then
    (({ s with evq := { s.evq with overflow := true, dropped := sat 255 (s.evq.dropped + 1) } }).irq 4).count 324 1
  else ({ s with evq := { s.evq with entries := s.evq.entries ++ [e] } }).irq 3

/-- Raise an event; `logged` events are also written to the trouble log (R136, R537). -/
def State.event (s : State) (code : Nat) (sev : Severity) (logged : Bool) (source data : Nat) : State :=
  let willLog := logged && sev.code ≥ s.param 0x1403
  let queued := s.evq.entries.length < 256
  let s1 := s.queueEvent (s.entry code sev willLog source data)
  if logged then s1.addLog (s.entry code sev queued source data) else s1

/-- BOOT_STATUS.STAGE changes: STEP_MS is taken, counted from the start instant, and IRQ_STATUS.STAGE set (R105, R120). -/
def State.setStage (s : State) (g : Stage) : State :=
  if s.boot.stage = g then s
  else
    ({ s with boot := { s.boot with stage := g, stepMs := sat 4095 ((s.now + s.boot.startLead - s.boot.startAt) / ms 1) } }).irq 6

/-- A FAULT_CAUSE bit becomes set (R104, R120). -/
def State.faultBit (s : State) (b : Nat) : State :=
  if s.boot.faultCause.getLsbD b then s
  else ({ s with boot := { s.boot with faultCause := s.boot.faultCause ||| BitVec.ofNat 32 (2 ^ b) } }).irq 5

/-- A FAULT_CAUSE bit ends. -/
def State.faultClear (s : State) (b : Nat) : State :=
  { s with boot := { s.boot with faultCause := s.boot.faultCause &&& ~~~(BitVec.ofNat 32 (2 ^ b)) } }

/-- A PORT_ERRORS count rises: field 0 DB_OVERRUN, 1 REFUSED, 2 SVC_FRAMING, 3 CTL_FRAMING; each saturates at 255 and raises PORT_ERR (R120, R121). -/
def State.portError (s : State) (field : Nat) : State :=
  let w := s.win
  let w' := match field with
    | 0 => { w with dbOverrun := sat 255 (w.dbOverrun + 1) }
    | 1 => { w with refused := sat 255 (w.refused + 1) }
    | 2 => { w with svcFraming := sat 255 (w.svcFraming + 1) }
    | _ => { w with ctlFraming := sat 255 (w.ctlFraming + 1) }
  if w' = w then s else ({ s with win := w' }).irq 8

/-! ## Time passes -/

/-- `n` ticks of one domain's residency in the statistics of R521. -/
def State.countDomain (s : State) (d : DomState) (i n : Nat) : State :=
  match d with
  | .on => s.count (192 + 2 * i) n
  | .retention => s.count (193 + 2 * i) n
  | _ => s

/-- The state `n` device-time ticks later, in the counters that time alone drives: residency (R521), its per-period counts, throttle (R535), memory sleep (R290) and panel-on time (R493). -/
def State.passTicks (s : State) (n : Nat) : State :=
  if n = 0 then s
  else
    let dom := s.pwr.dom.map fun d =>
      match d.st with
      | .on => { d with resOn := (d.resOn + n) % 2 ^ 48 }
      | .retention => { d with resRet := (d.resRet + n) % 2 ^ 48 }
      | _ => { d with resOff := (d.resOff + n) % 2 ^ 48 }
    let s1 := { s with pwr := { s.pwr with dom := dom }, nv := { s.nv with panelOn := s.nv.panelOn + if s.ras.running then n else 0 } }
    let s2 := (List.range 19).foldl (fun t i => t.countDomain (s.pwr.dom.getD i Domain.initial).st i n) s1
    let s3 := (List.range 4).foldl (fun t i => if i + 1 ≤ s.thm.step then t.count (256 + i) n else t) s2
    match s.mem.sleep with
    | .active => s3
    | .powerDown => if s.domOn dMem then s3.count 715 n else s3
    | .selfRefresh => if s.domOn dMem then s3.count 716 n else s3

/-- Time moves on to instant `t`; an instant already past leaves it (assumption 2). -/
def State.elapse (s : State) (t : Nat) : State :=
  if t ≤ s.now then s
  else { s.passTicks (t / 1000 - s.now / 1000) with now := t }

/-! ## Votes and targets -/

/-- A mask with bits `lo` to `hi` set. -/
def maskRange (lo hi : Nat) : Nat := 2 ^ (hi + 1) - 2 ^ lo

/-- Whether the firmware holds CTRL on: a mailbox in use, a job, a power failure until its recovery (R520), or a boot stage that runs on CTRL without votes (R509). -/
def State.ctrlBusy (s : State) : Bool :=
  s.box.mb0.st != .idle || s.box.mb1.st != .idle || s.box.mb2.st != .idle || s.box.mb3.st != .idle ||
  !s.box.jobs.isEmpty || s.vin.pfw || s.vin.recovering ||
  (match s.boot.stage with
    | .romVerify | .fwRunning | .recovery | .limp => true
    | _ => false)

/-- Whether a flash operation is queued or running (R509). -/
def State.flashBusy (s : State) : Bool :=
  s.nv.write.isSome || !s.nv.queue.isEmpty || s.nv.erase.isSome || !s.nv.stores.isEmpty

/-- Whether the raster runs, as commits and functions see it: it does not before its first frame (R155, R161). -/
def State.framesRun (s : State) : Bool := s.ras.running && s.ras.framesOn != 0

/-- Whether a snapshot is in progress (R348). -/
def State.snapBusy (s : State) : Bool := s.prk.snap != .none

/-- Whether this device is the root of the Tatting tree (R413): TAT.ROLE as the latest frame start took it; a pair's follower ignores it (R434). -/
def State.isRoot (s : State) : Bool :=
  !(s.param 0x2807 == 1 && s.boot.straps.pairRight) && (match if s.ras.running then s.tat.role else s.param 0x5000 with
    | 0 => s.boot.straps.tatRoot
    | 1 => true
    | _ => false)

/-- Whether the firmware votes TAT on (R438). -/
def State.tatVote (s : State) : Bool :=
  s.tat.dn0.st == .up || s.tat.dn1.st == .up || s.param 0x2800 == 2 || s.param 0x2807 == 1

/-- The on votes of every client (R509, R510, R512). -/
def State.votesOn (s : State) : Nat :=
  let add (b : Bool) (m : Nat) (acc : Nat) : Nat := if b then acc ||| m else acc
  let lit := s.pnl.st != .off
  add s.pwr.runVote (s.param 0x0C02) <| add s.pwr.bootVote (s.param 0x0C02 ||| 0x8000) <| add s.ctrlBusy 1 <| add lit 0x1038 <| add lit 0x6000 <|
  add s.hl.vote 6 <|
  add (s.mem.residence == .compressing || s.mem.residence == .ready || s.mem.residence == .resident) (maskRange 6 11) <|
  add (!s.cmp.jobs.isEmpty || s.mem.residence == .compressing) 0x8000 <|
  add (!s.sec.sessions.isEmpty || s.sec.handshake.isSome) 0x10000 <| add s.tatVote 0x20000 <|
  add s.flashBusy 0x40000 <| add s.snapBusy 0x59000 <| s.pwr.hostOn.toNat ||| s.pwr.wakeVote.toNat

/-- The retention votes of every client (R509). -/
def State.votesRet (s : State) : Nat :=
  if s.ras.running && s.ras.active == .hold then s.pwr.hostRet.toNat ||| maskRange 6 11 else s.pwr.hostRet.toNat

/-- Order of the states for rises and falls of a target. -/
def DomState.rank : DomState → Nat
  | .off => 0 | .failed => 0 | .retention => 1 | .on => 2

/-- A domain meets its new target: a fall starts its idle timer, an idle timer of 0 begins the entry at once, a rise queues a wake or latches it (R509, R517). -/
def Domain.retarget (d : Domain) (t : DomState) (now idleUs : Nat) : Domain :=
  let rose := d.target.rank < t.rank
  let fell := t.rank < d.target.rank
  let d := { d with target := t }
  if rose then
    match d.phase with
    | .settled =>
      if d.st == .failed then d
      else if d.st.rank < t.rank then { d with phase := .queued, idleFrom := none, leftOff := d.st == .off }
      else { d with idleFrom := if t.rank < d.st.rank then some now else none }
    | .entering _ => { d with latched := true, idleFrom := none }
    | _ => { d with idleFrom := none }
  else if fell && t.rank < d.st.rank && d.st != .failed then
    match d.phase with
    | .settled => if idleUs = 0 then { d with phase := .entering t, idleFrom := none } else { d with idleFrom := some now }
    | _ => d
  else d

/-- Whether votes act: AON is up and neither RESET_N, a thermal shutdown, limp mode, a restart, a pending reset nor standby entry holds the domains (R98 to R103, R511). -/
def State.votesLive (s : State) : Bool :=
  s.boot.powered && !s.boot.resetPin && !s.boot.thermalOff && !s.boot.limp && s.boot.stage != .aonUp &&
  !(s.pwr.asleep && s.pwr.deep) && s.pwr.standby.isNone && s.boot.pendingReset.isNone

/-- The low state of domain `d`: *retention* by a vote, else PWR.LOW_STATE (R509). -/
def State.lowOf (s : State) (d : Nat) : DomState :=
  if s.votesRet.testBit d || (s.param 0x0C01).testBit d then .retention else .off

/-- The on votes that count now: in device standby with CTRL not running the firmware's own vote is gone (R511 to R513). -/
def State.votesNow (s : State) : Nat :=
  if s.pwr.asleep && s.pwr.dom[dCtrl].st != .on then
    s.pwr.hostOn.toNat ||| s.pwr.wakeVote.toNat ||| (if s.tatVote then 0x20000 else 0)
  else s.votesOn

/-- Every domain meets its target (R509). In device standby a domain that is down stays as standby left it until a vote raises it, and CTRL returns to *retention* (R511, R513). -/
def State.settle (s : State) : State :=
  if !s.votesLive then s
  else
    let on := s.votesNow
    let dom := s.pwr.dom.mapFinIdx fun i d _ =>
      let t := if on.testBit i then .on
        else if !s.pwr.asleep then s.lowOf i
        else if i = 0 then .retention
        else if d.target == .on then s.lowOf i else d.target
      d.retarget t s.now (s.param (0x0C10 + i))
    { s with pwr := { s.pwr with dom := dom } }

/-- The next state of a meaning, once the votes it changed have acted. -/
def done (s : State) : Out := .next s.settle

end Sys2Proof.Machine
end

