-- ==== Sys2Proof/Machine/Flags.lean ====
section
/-! DEFINITION. Every status and flag word the spec packs from the state: the hardware register window's readable words and the levels of HOST_IRQ_N and FAULT_N. -/

namespace Sys2Proof.Machine

/-- BOOT_STATUS (R105). -/
def State.bootStatus (s : State) : Nat :=
  let b := s.boot
  b.stage.code * 2 ^ 28 + b2n b.slot * 2 ^ 27 + b2n b.fallback * 2 ^ 26 + b2n b.warm * 2 ^ 25 +
  b.result0.code * 2 ^ 21 + b.result1.code * 2 ^ 18 + b2n b.memReady * 2 ^ 17 + b2n b.mapReady * 2 ^ 16 +
  b2n b.panelReady * 2 ^ 15 + b2n b.compensated * 2 ^ 14 + b.stepMs

/-- HOST_IRQ_N is asserted (low): an enabled bit is set and the board profile is applied (R120, R47). -/
def State.hostIrq (s : State) : Bool := s.boot.profileOk && (s.win.irqStatus &&& s.win.irqEnable) != 0

/-- FAULT_N is asserted (low): an AON cause in every state, a firmware cause only once the profile is applied (R104). -/
def State.faultN (s : State) : Bool :=
  s.boot.faultCause.toNat % 32 != 0 || (s.boot.profileOk && s.boot.faultCause.toNat / 32 != 0)

/-- PORT_STATUS: READY in [7], HOST_IRQ_N asserted in [6] (R111). -/
def State.portStatus (s : State) : Byte := Byte.of (128 * b2n (s.domOn dCtrl) + 64 * b2n s.hostIrq)

/-- EVQ_STATUS (R121). -/
def State.evqStatus (s : State) : Nat :=
  b2n s.evq.overflow * 2 ^ 31 + s.evq.dropped * 2 ^ 16 + s.evq.entries.length

/-- PORT_CONFIG (R121). -/
def State.portConfig (s : State) : Nat := 2 * b2n s.win.inbandEn + b2n s.win.quadEn

/-- PORT_ERRORS (R121). -/
def State.portErrors (s : State) : Nat :=
  s.win.ctlFraming * 2 ^ 24 + s.win.svcFraming * 2 ^ 16 + s.win.refused * 2 ^ 8 + s.win.dbOverrun

/-- MBn_STATUS of a mailbox (R122). -/
def Mailbox.status (m : Mailbox) : Nat :=
  m.tag.toNat * 2 ^ 16 + b2n m.overrun * 2 ^ 4 + m.origin.code * 4 + m.st.code

/-- The code of a domain in DOMAIN_STATEx (R123). -/
def DomState.code : DomState → Nat
  | .off => 0 | .retention => 1 | .on => 2 | .failed => 3

/-- The two-bit fields of domains `lo` to `lo + n - 1`, domain `lo` lowest (R123). -/
def State.domainField (s : State) (lo n : Nat) : Nat :=
  (List.range n).foldl (fun acc i => acc + (s.pwr.dom.toList.getD (lo + i) Domain.initial).st.code * 4 ^ i) 0

/-- DOMAIN_STATE0 (R123). -/
def State.domainState0 (s : State) : Nat := s.domainField 0 16

/-- DOMAIN_STATE1 (R123). -/
def State.domainState1 (s : State) : Nat := s.domainField 16 3

/-- The hottest die sensor that is not suspect, in 1/16 °C, if any (R118, R524, R525). -/
def State.hottest (s : State) : Option Int :=
  (List.range 12).foldl (fun acc i =>
    if s.thm.suspect.toList.getD i true then acc
    else
      let t := s.thm.die.toList.getD i 0
      match acc with
      | none => some t
      | some m => some (max m t)) none

/-- TEMP_MAX: the hottest valid sensor as 16-bit two's complement; 0 when no sensor is valid (R118). -/
def State.tempMax (s : State) : Nat := unsigned 16 (s.hottest.getD 0)

/-- VIN_MEAS (R118). -/
def State.vinMeas (s : State) : Nat := s.vin.boot % 65536 * 65536 + s.vin.latest % 65536

/-- FIRST_FAULT (R118, R456). -/
def State.firstFault (s : State) : Nat :=
  match s.log.first with
  | none => 0
  | some e => e.code.toNat * 65536 + e.source.toNat * 256 + e.sevFlags.toNat

/-- The handshake that MB1_SESSION shows: one begun with no session established. One begun to renew a session that has ended since leaves STATE at 3 (R216). -/
def State.shownHandshake (s : State) : Option Handshake := s.sec.handshake.filter fun h => !h.renew

/-- STATE of MB1_SESSION: 0 none, 1 handshake, 2 established, 3 dropped (R122, R216). -/
def State.sessionState (s : State) : Nat :=
  if !s.sec.sessions.isEmpty then 2 else if s.shownHandshake.isSome then 1 else if s.sec.dropped then 3 else 0

/-- SESSION_ID of MB1_SESSION: the newest session's, the handshake's, or that of the session that ended (R122). -/
def State.sessionId (s : State) : Nat :=
  match s.sec.sessions, s.shownHandshake with
  | e :: _, _ => e.id.toNat
  | [], some h => h.id.toNat
  | [], none => s.sec.lastId.toNat

/-- MB1_SESSION (R122). -/
def State.mb1Session (s : State) : Nat := s.sessionId * 65536 + s.sessionState

/-- MB3_STATUS (R118). -/
def State.mb3Status (s : State) : Nat := s.win.peerServed.toNat * 65536 + s.win.peerRefused.toNat

end Sys2Proof.Machine
end

