-- ==== Sys2Proof/Machine/Operands.lean ====
section
/-! DEFINITION. The operand forms of the commands: mailbox requests and responses (R126), the fragment prefix (R131, R169), in-band CTL fragments (R116), and the 16-byte entries of the log and the event queue (R136, R454). -/

namespace Sys2Proof.Machine

/-- COMMAND of a request (R126). -/
def reqCode (b : List Byte) : Nat := le2 b 0

/-- LENGTH of a request (R126). -/
def reqLen (b : List Byte) : Nat := le2 b 2

/-- TAG of a request (R126). -/
def reqTag (b : List Byte) : Nat := le2 b 4

/-- FLAGS of a request (R126). -/
def reqFlags (b : List Byte) : Nat := le2 b 6

/-- Payload of a request: LENGTH bytes from offset 8 (R126). -/
def reqPayload (b : List Byte) : List Byte := slice b 8 (reqLen b)

/-- The 8-byte header of a response (R126). -/
def respHeader (code len tag status : Nat) : List Byte := toLe 2 code ++ toLe 2 len ++ toLe 2 tag ++ toLe 2 status

/-- A list of bytes with 0x00 after it, 512 bytes long (R126). -/
def padBuf (b : List Byte) : List Byte := slice b 0 512

/-- Whether `n` bytes from offset `o` are 0x00 (R126). -/
def zeroAt (b : List Byte) (o n : Nat) : Bool := leAt b o n == 0

/-- The fragment prefix FRAG at offset `o` of a payload: FLAGS (2), reserved (2), OFFSET (4). -/
structure Frag where
  first : Bool
  last : Bool
  offset : Nat
  data : List Byte
deriving DecidableEq, Repr

/-- The fragment whose prefix stands at offset `o` of a payload. -/
def fragAt (p : List Byte) (o : Nat) : Frag :=
  { first := bit (le2 p o) 0, last := bit (le2 p o) 1, offset := le4 p (o + 4), data := p.drop (o + 8) }

/-- FRAG's unassigned bits and reserved bytes are 0 (R126). -/
def fragZero (p : List Byte) (o : Nat) : Bool := le2 p o < 4 && zeroAt p (o + 2) 2

/-- A payload that ends in fragment data: the prefix and a multiple of 4 data bytes after it (R131's fragment prefix). -/
def fragLen (len o : Nat) : Bool := o + 8 ≤ len && (len - o - 8) % 4 == 0

/-- A log or event entry as 16 bytes (R136, R454). -/
def LogEntry.bytes (e : LogEntry) : List Byte :=
  toLe 6 e.time.toNat ++ toLe 2 e.frameLo.toNat ++ toLe 2 e.code.toNat ++ [e.source, e.sevFlags] ++ toLe 4 e.data.toNat

/-- A function code of R132. -/
def funcOf? : Nat → Option Func
  | 1 => some .overdrive | 2 => some .pricking | 3 => some .applique | 4 => some .dither
  | 5 => some .hostLink | 6 => some .sensing | 7 => some .raster
  | _ => none

/-- A mode code of R132 and R237. -/
def modeOf? : Nat → Option Mode
  | 0 => some .source | 1 => some .fixed | 2 => some .lattice | 3 => some .hold
  | _ => none

/-- The status codes of R131. -/
abbrev stOk : Nat := 0x0000
/-- ACCEPTED. -/
abbrev stAccepted : Nat := 0x0001
/-- BAD_COMMAND. -/
abbrev stBadCommand : Nat := 0x0100
/-- BAD_LENGTH. -/
abbrev stBadLength : Nat := 0x0101
/-- BAD_PARAM_ID. -/
abbrev stBadParamId : Nat := 0x0102
/-- OUT_OF_RANGE. -/
abbrev stOutOfRange : Nat := 0x0103
/-- READ_ONLY. -/
abbrev stReadOnly : Nat := 0x0104
/-- NEEDS_STOP. -/
abbrev stNeedsStop : Nat := 0x0200
/-- MISMATCH. -/
abbrev stMismatch : Nat := 0x0201
/-- BUSY. -/
abbrev stBusy : Nat := 0x0202
/-- DEFERRED. -/
abbrev stDeferred : Nat := 0x0203
/-- DENIED. -/
abbrev stDenied : Nat := 0x0300
/-- APPROVAL_REQUIRED. -/
abbrev stApprovalRequired : Nat := 0x0301
/-- APPROVAL_INVALID. -/
abbrev stApprovalInvalid : Nat := 0x0302
/-- EXPANDS. -/
abbrev stExpands : Nat := 0x0400
/-- CHECK_FAILED. -/
abbrev stCheckFailed : Nat := 0x0401
/-- NV_FULL. -/
abbrev stNvFull : Nat := 0x0500
/-- NV_TORN. -/
abbrev stNvTorn : Nat := 0x0501
/-- DOMAIN_FAILED. -/
abbrev stDomainFailed : Nat := 0x0600
/-- NOT_STAGED. -/
abbrev stNotStaged : Nat := 0x0700
/-- SKEW. -/
abbrev stSkew : Nat := 0x0701

end Sys2Proof.Machine
end

