-- ==== Sys2Proof/Machine/Net.lean ====
section
/-! DEFINITION. The transmit sides of the back-channel (R201) and of the Tatting ports (R412): messages wait in priority order. -/

namespace Sys2Proof.Machine

/-- Order of the back-channel types: STATUS, PROT, CTL_RESP (R201). -/
def bcRank (kind : Nat) : Nat := if kind = 1 then 0 else if kind = 3 then 1 else 2

/-- A message joins the back-channel queue behind those that go no later (R201). -/
def bcInsert (m : BcMsg) : List BcMsg → List BcMsg
  | [] => [m]
  | x :: xs => if bcRank m.kind < bcRank x.kind then m :: x :: xs else x :: bcInsert m xs

/-- Whether HL_BC is driven: the board profile is applied, HLA is on and the link out of IDLE (R47, R93, R117). -/
def State.bcDriven (s : State) : Bool := s.boot.profileOk && s.domOn dHla && s.hl.a.st != .idle

/-- A message is made ready for the back-channel; a channel that is not driven loses it (R117). -/
def State.bcSend (s : State) (m : BcMsg) : State :=
  if s.bcDriven then { s with hl := { s.hl with tx := bcInsert m s.hl.tx } } else s

/-- Order of the Tatting message types when a port is free to send (R412). -/
def tatRank (kind : Nat) : Nat :=
  if kind = 0x100 ∨ kind = 0x10 ∨ kind = 0x50 ∨ kind = 0x51 then 0 else if kind = 0x11 ∨ kind = 0x12 then 1 else 2

/-- A message joins a port's transmit queue behind those that go no later (R412). -/
def tatInsert (m : TatMsg) : List TatMsg → List TatMsg
  | [] => [m]
  | x :: xs => if tatRank m.kind < tatRank x.kind then m :: x :: xs else x :: tatInsert m xs

/-- One Tatting port. -/
def Tatting.port (t : Tatting) : TatPort → TatPortState
  | .up => t.up | .dn0 => t.dn0 | .dn1 => t.dn1

/-- The net with one port replaced. -/
def Tatting.setPort (t : Tatting) (p : TatPort) (v : TatPortState) : Tatting :=
  match p with
  | .up => { t with up := v } | .dn0 => { t with dn0 := v } | .dn1 => { t with dn1 := v }

/-- TAT.PORT_EN's bit of a port. -/
def portBit : TatPort → Nat
  | .up => 0 | .dn0 => 1 | .dn1 => 2

/-- Whether a port is not DISABLED: TAT.PORT_EN enables it, and the root keeps TAT_UP disabled (R411, R413). -/
def State.portOn (s : State) (p : TatPort) : Bool := bit (s.param 0x5001) (portBit p) && !(p == .up && s.isRoot)

/-- EV_TAT_PORT: 1 up, 2 down, 3 beacon on a DN port (R440). -/
def State.portEvent (s : State) (p : TatPort) (cause : Nat) : State :=
  s.event 0x5003 (if cause = 1 then .info else .warning) true (portBit p) (cause * 2 ^ 24)

/-- A port returns to DOWN (R411); TAT_UP measures its delay afresh when it comes back (R416). -/
def State.portDown (s : State) (p : TatPort) : State :=
  let v := s.tat.port p
  if v.st = .down then s
  else
    let t := s.tat.setPort p { v with st := .down, errs := [], tx := [], rejoin := false }
    let t := if p = .up then { t with reqAt := none, hops := [] } else t
    ({ s with tat := t }).portEvent p 2

/-- Ports that are no longer enabled go down (R411, R413). -/
def State.portsCheck (s : State) : State :=
  [TatPort.up, .dn0, .dn1].foldl (fun t p => if t.portOn p then t else t.portDown p) s

/-- Whether the TAT_xx_TX outputs are driven: the board profile is applied and TAT is on (R47, R93). -/
def State.tatDriven (s : State) : Bool := s.boot.profileOk && s.domOn dTat

/-- The Tatting transmitters leave high-impedance: their running disparity starts negative (R410). -/
def State.tatLeave (s : State) : State :=
  let f (p : TatPortState) : TatPortState := { p with wire := [], minus := true, txAt := s.now }
  { s with tat := { s.tat with up := f s.tat.up, dn0 := f s.tat.dn0, dn1 := f s.tat.dn1 } }

/-- A message is queued on a port that is neither DISABLED nor DOWN (R411), and whose output is driven (R47). -/
def State.tatSend (s : State) (p : TatPort) (kind : Nat) (payload : List Byte) : State :=
  let v := s.tat.port p
  if v.st ≠ .down ∧ s.tatDriven = true then { s with tat := s.tat.setPort p { v with tx := tatInsert { kind := kind, payload := payload } v.tx } } else s

/-- Whether an ID lies in a port's range (R414); an empty range has `last` below `first`. -/
def TatPortState.hasId (v : TatPortState) (id : Nat) : Bool := v.first ≤ id && id ≤ v.last

/-- The port PEER leaves by for a destination that is not this device (R437); none at the root for an ID outside every range. -/
def State.peerRoute (s : State) (dest : Nat) : Option TatPort :=
  if s.tat.dn0.hasId dest then some .dn0
  else if s.tat.dn1.hasId dest then some .dn1
  else if s.isRoot then none else some .up

/-- A refused PEER counts in MB3_STATUS [15:0] (R118, R437). -/
def State.peerRefuse (s : State) : State := { s with win := { s.win with peerRefused := s.win.peerRefused + 1 } }

/-- A PEER payload: DEST, SRC, FRAG, reserved, OFFSET and data (R437). -/
def peerPayload (dest src : Nat) (first last : Bool) (off : Nat) (data : List Byte) : List Byte :=
  toLe 2 dest ++ toLe 2 src ++ [Byte.of (2 * b2n last + b2n first), 0] ++ toLe 2 off ++ data

/-- Send a mailbox message to a device as PEER fragments of at most 248 data bytes (R437). -/
def State.peerSend (s : State) (dest : Nat) (msg : List Byte) : State :=
  match s.peerRoute dest with
  | none => s.peerRefuse
  | some p =>
    let n := (msg.length + 247) / 248
    (List.range n).foldl (fun t i =>
      t.tatSend p 0x40 (peerPayload dest s.tat.id (i == 0) (i + 1 == n) (248 * i) (slice msg (248 * i) (min 248 (msg.length - 248 * i))))) s

end Sys2Proof.Machine
end

