-- ==== Sys2Proof/Machine/Mailbox.lean ====
section
/-! DEFINITION. The life of a mailbox request: which requests are taken, the six checks of R128, the response and its path back, and A jobs (R124 to R130). -/

namespace Sys2Proof.Machine

/-- One mailbox. -/
def Boxes.get (b : Boxes) : Mb → Mailbox
  | .mb0 => b.mb0 | .mb1 => b.mb1 | .mb2 => b.mb2 | .mb3 => b.mb3

/-- The mailboxes with one replaced. -/
def Boxes.set (b : Boxes) (i : Mb) (m : Mailbox) : Boxes :=
  match i with
  | .mb0 => { b with mb0 := m } | .mb1 => { b with mb1 := m } | .mb2 => { b with mb2 := m } | .mb3 => { b with mb3 := m }

/-- One mailbox of the state. -/
def State.mb (s : State) (i : Mb) : Mailbox := s.box.get i

/-- The state with one mailbox changed. -/
def State.onMb (s : State) (i : Mb) (f : Mailbox → Mailbox) : State :=
  { s with box := s.box.set i (f (s.box.get i)) }

/-- The CK_CTRL cycle of this instant: 600 MHz, two ticks of the raster reference (R17). -/
def State.ctrlCycle (s : State) : Nat := s.now / 2

/-- Order of doorbells in one CK_CTRL cycle (R129). -/
def mbRank : Mb → Nat
  | .mb2 => 0 | .mb1 => 1 | .mb0 => 2 | .mb3 => 3

/-- A mailbox joins the doorbell order: behind those of earlier cycles, and among those of its own cycle, for which `same` holds, by R129's order. -/
def placeRing (same : Mb → Bool) (i : Mb) : List Mb → List Mb
  | [] => [i]
  | j :: t => if same j && mbRank i < mbRank j then i :: j :: t else j :: placeRing same i t

/-- The doorbell order with a mailbox that is rung now (R129). -/
def State.ringOrder (s : State) (i : Mb) : List Mb := placeRing (fun j => (s.mb j).rungAt == s.ctrlCycle) i s.box.order

/-- MB3 takes the next complete PEER request when it is IDLE, behind the requests already rung (R129, R437). -/
def State.loadPeer (s : State) : State :=
  if s.box.mb3.st = .idle then
    match s.box.peers.find? (·.complete) with
    | none => s
    | some r =>
      let s1 := s.onMb .mb3 fun m =>
        { m with st := .pending, req := padBuf r.body, tag := BitVec.ofNat 16 (reqTag r.body), origin := .peer, rungAt := s.ctrlCycle }
      { s1 with box := { s1.box with order := s.ringOrder .mb3 } }
  else s

/-- RELEASE of a mailbox in DONE: back to IDLE, OVERRUN cleared (R122, R124). -/
def State.release (s : State) (i : Mb) : State :=
  if (s.mb i).st = .done then s.onMb i fun m => { m with st := .idle, overrun := false } else s

/-- A doorbell or FIRST fragment of a mailbox that is not IDLE is refused (R117, R122, R124). -/
def State.overrun (s : State) (i : Mb) : State := (s.onMb i fun m => { m with overrun := true }).portError 0

/-- A doorbell: an IDLE mailbox becomes PENDING in the order of R129; any other refuses it (R124). -/
def State.ring (s : State) (i : Mb) (origin : Origin) : State :=
  if (s.mb i).st = .idle then
    let s1 := s.onMb i fun m =>
      { m with st := .pending, tag := BitVec.ofNat 16 (reqTag m.req), origin := origin, fill := false, rungAt := s.ctrlCycle }
    { s1 with box := { s1.box with order := s.ringOrder i } }
  else s.overrun i

/-- MB3's answered request leaves its list and the next one is taken (R437). -/
def State.peerDone (s : State) : State :=
  let s1 := s.onMb .mb3 fun m => { m with st := .idle, overrun := false }
  ({ s1 with box := { s1.box with peers := s1.box.peers.eraseP (·.complete) } }).loadPeer

/-- One CTL_RESP fragment payload (R116). -/
def respFrag (mb : Mb) (bytes : List Byte) (off n : Nat) (first last : Bool) : List Byte :=
  [Byte.of mb.num, Byte.of (2 * b2n last + b2n first)] ++ toLe 2 off ++ toLe 2 n ++ zeros 10 ++
    slice (slice bytes off n) 0 ((n + 15) / 16 * 16)

/-- The response goes back by the way the request came: the interrupt for every mailbox of the window, fragments for an in-band request, PEER messages for MB3 (R117, R120, R437). -/
def State.answer (s : State) (i : Mb) (bytes : List Byte) : State :=
  match i with
  | .mb3 =>
    match s.box.peers.find? (·.complete) with
    | none => s.peerDone
    | some r => if r.here then s.peerDone else (s.peerSend r.src bytes).peerDone
  | _ =>
    let s1 := s.irq i.num
    if (s.mb i).origin = .inBand then
      if s1.bcDriven then
        let n := bytes.length
        if n ≤ 496 then s1.bcSend { kind := 2, payload := respFrag i bytes 0 n true true, last := some i }
        else (s1.bcSend { kind := 2, payload := respFrag i bytes 0 496 true false, last := none }).bcSend
          { kind := 2, payload := respFrag i bytes 496 (n - 496) false true, last := some i }
      else s1.release i
    else s1

/-- The newest session that is established, if any (R215, R216). -/
def State.session (s : State) : Option Session := s.sec.sessions.head?

/-- MB1's MAC under the control key: HMAC-SHA-256 cut to its first 16 bytes (R127, R214; assumption 8). -/
def ctlMac (k : Keys) (msg : List Byte) : List Byte := (Config.hmac k.ctl msg).take 16

/-- Post a response: the buffer is rewritten, the mailbox enters DONE, and the answer sets out (R124, R126). `trailer` asks for MB1's COUNTER and MAC (R127). -/
def State.postWith (s : State) (i : Mb) (trailer : Bool) (status : Nat) (payload : List Byte) : State :=
  let m := s.mb i
  let body := respHeader (reqCode m.req) payload.length m.tag.toNat status ++ payload
  let post (t : State) (bytes : List Byte) : State :=
    (t.onMb i fun m => { m with st := .done, resp := padBuf bytes, wait := .none }).answer i bytes
  match if trailer && i == .mb1 then s.session else none with
  | none => post s body
  | some e =>
    let msg := body ++ toLe 4 (s.box.mb1Tx + 1)
    post { s with box := { s.box with mb1Tx := s.box.mb1Tx + 1 } } (msg ++ ctlMac e.keys msg)

/-- Post a response, with MB1's trailer on MB1. -/
def State.post (s : State) (i : Mb) (status : Nat) (payload : List Byte) : State := s.postWith i true status payload

/-- R127 on MB1: a session, a MAC that agrees, and a COUNTER above the last accepted one. -/
def State.macOk (s : State) (req : List Byte) : Bool :=
  match s.session with
  | none => false
  | some e =>
    let n := 8 + reqLen req
    n + 20 ≤ 512 && slice req (n + 4) 16 == ctlMac e.keys (slice req 0 (n + 4)) && s.box.mb1Rx < le4 req n

/-- Whether a mailbox permits a command (R125). -/
def permits (i : Mb) (code : Nat) (payload : List Byte) : Bool :=
  match i with
  | .mb0 => code != 0x00B1 && code != 0x0092 && code != 0x0093
  | .mb1 => code != 0x0092 && code != 0x0093
  | .mb2 => true
  | .mb3 =>
    [0x0001, 0x0010, 0x0012, 0x0032, 0x0081, 0x00C1, 0x00C4].contains code ||
      (code == 0x0080 && byteAt payload 0 == 0)

/-- The command codes of R132 to R135. -/
def knownCodes : List Nat :=
  [0x0001, 0x0010, 0x0011, 0x0012, 0x0013, 0x0020, 0x0021, 0x0022, 0x0030, 0x0031, 0x0032, 0x0040, 0x00F0,
   0x0050, 0x0051, 0x0060, 0x0070, 0x0071, 0x0080, 0x0081, 0x0090, 0x0091, 0x0092, 0x0093, 0x00A0,
   0x00B0, 0x00B1, 0x00B2, 0x00B3, 0x00C0, 0x00C1, 0x00C2, 0x00C3, 0x00C4, 0x00D0, 0x00D1, 0x00D2, 0x00E0, 0x00E1]

/-- Whether a known code is served in a STAGE (R89, R93, R103). -/
def servedIn (g : Stage) (code : Nat) : Bool :=
  knownCodes.contains code &&
  match g with
  | .recovery => [0x0001, 0x00B2, 0x00B3, 0x0080].contains code
  | .limp => [0x0001, 0x0080].contains code
  | _ => true

/-- Whether requests of a mailbox are taken in this stage: from PROFILE_APPLIED or UNCONFIGURED, after a warm wake, and in the recovery service and limp mode (R82, R89, R93, R96, R103, R124). -/
def State.boxOpen (s : State) (i : Mb) : Bool :=
  s.domOn dCtrl &&
  match s.boot.stage with
  | .profileApplied | .running | .unconfigured => true
  | .fwRunning => s.boot.warm
  | .recovery => i == .mb0 || i == .mb2
  | .limp => i != .mb3
  | _ => false

/-- Whether the firmware's next request is the one in this mailbox (R129). -/
def State.takes (s : State) (i : Mb) : Bool :=
  (s.mb i).st == .pending && s.box.order.head? == some i && s.boxOpen i

/-- The mailbox enters BUSY (R124). -/
def State.take (s : State) (i : Mb) : State :=
  let s1 := s.onMb i fun m => { m with st := .busy }
  { s1 with box := { s1.box with order := s1.box.order.drop 1 } }

/-- Largest payload of a request (R126). -/
def maxPayload (i : Mb) : Nat := if i = .mb1 then 484 else 504

/-- Whether an A job of a code is running (R130). -/
def State.jobRuns (s : State) (code : Nat) : Bool := s.box.jobs.any fun j => j.code == code

/-- The job of a code ends: EV_CMD_DONE reports its status, and the job leaves the list (R130, R137). -/
def State.endJob (s : State) (code status : Nat) : State :=
  match s.box.jobs.find? (fun j => j.code == code) with
  | none => s
  | some j =>
    ({ s with box := { s.box with jobs := s.box.jobs.filter fun k => k.code != code } }).event 0x0401 .info false
      j.mb.num (j.tag.toNat * 65536 + status)

/-- How a request completes (R130). -/
inductive Reply
  /-- The response is posted at once. -/
  | reply (status : Nat) (payload : List Byte) (s : State)
  /-- ACCEPTED is posted and an A job starts; `after` is what the job does at once. -/
  | accept (payload : List Byte) (s : State) (after : State → State)
  /-- The response is held. -/
  | hold (w : Wait) (s : State)

/-- A refusal of a request: the status alone, and no state changed. -/
def Reply.refuse (status : Nat) (s : State) : Reply := .reply status [] s

/-- A command that needs a domain returns DOMAIN_FAILED while that domain is DOMAIN_FAILED, before its other checks (R131, R519). -/
def State.needing (s : State) (d : Fin 19) (r : Reply) : Reply := if s.domFailed d then .refuse stDomainFailed s else r

/-- The layout checks of one command: its code, check 3 and check 4 of R128 over the payload. -/
structure Cmd where
  code : Nat
  lenOk : List Byte → Bool
  zeroOk : List Byte → Bool

/-- Serve a taken request that has passed checks 1 and 2 (R128). -/
def State.serveBody (s : State) (i : Mb) (c : Cmd) (run : List Byte → State → Reply) (p : List Byte) : State :=
  if maxPayload i < p.length || !c.lenOk p then s.post i stBadLength []
  else if !c.zeroOk p then s.post i stOutOfRange []
  else
    let busy := s.jobRuns c.code
    match run p s with
    | .reply st pl t => if busy && (st == stOk || st == stDeferred) then s.post i stBusy [] else t.post i st pl
    | .hold w t => if busy then s.post i stBusy [] else t.onMb i fun m => { m with wait := w }
    | .accept pl t after =>
      if busy then s.post i stBusy []
      else
        let j : Job := { code := c.code, mb := i, tag := (s.mb i).tag }
        after (({ t with box := { t.box with jobs := t.box.jobs ++ [j] } }).post i stAccepted pl)

/-- Check 1 and check 2 of R128 on a taken request, then `serveBody`. -/
def State.serveTaken (s : State) (i : Mb) (c : Cmd) (run : List Byte → State → Reply) : State :=
  let req := (s.mb i).req
  let p := reqPayload req
  let mac := i != .mb1 || s.macOk req
  if !permits i (reqCode req) p || !mac then
    (if i = .mb3 then s.peerRefuse else s).postWith i mac stDenied []
  else
    let s1 := match i with
      | .mb1 => { s with box := { s.box with mb1Rx := le4 req (8 + reqLen req) } }
      | .mb3 => { s with win := { s.win with peerServed := s.win.peerServed + 1 } }
      | _ => s
    if !servedIn s1.boot.stage (reqCode req) || reqFlags req != 0 then s1.post i stBadCommand []
    else s1.serveBody i c run p

/-- The firmware serves the request of a mailbox, if it is the next one and carries this command; otherwise nothing happens (R128 to R130). -/
def State.serve (s : State) (i : Mb) (c : Cmd) (run : List Byte → State → Reply) : Out :=
  if s.takes i && reqCode (s.mb i).req == c.code then done ((s.take i).serveTaken i c run)
  else .next s

/-- A command with no payload. -/
def Cmd.bare (code : Nat) : Cmd := { code := code, lenOk := fun p => p.length == 0, zeroOk := fun _ => true }

/-- A command whose payload has one length. -/
def Cmd.fixed (code n : Nat) (zeroOk : List Byte → Bool) : Cmd :=
  { code := code, lenOk := fun p => p.length == n, zeroOk := zeroOk }

/-- The held response of a mailbox is posted, if it waits for `w` (R130). -/
def State.answerHeld (s : State) (i : Mb) (w : Wait) (status : Nat) (payload : List Byte) : State :=
  if (s.mb i).st = .busy && (s.mb i).wait = w then s.post i status payload else s

/-- UNKNOWN_COMMAND: the request carries a code of no command, or one the stage does not serve; DENIED by check 1, else BAD_COMMAND by check 2 (R128). -/
def execUnknownCommand (mb : Mb) (s : State) : Out :=
  let code := reqCode (s.mb mb).req
  if s.takes mb && !servedIn s.boot.stage code then
    done ((s.take mb).serveTaken mb (.bare code) fun _ t => .refuse stBadCommand t)
  else .next s

end Sys2Proof.Machine
end

