-- ==== Sys2Proof/Machine/Verify.lean ====
section
/-! DEFINITION. Eyelets, the statistics period and the trouble log's commands (16_verification_statistics_log.md). -/

namespace Sys2Proof.Machine

/-! ## Statistics -/

/-- A statistics boundary: every live counter moves to its copy, PERIOD advances, a new period begins, and EV_LOG_PERIOD may be raised (R449, R450, R453). -/
def State.statBoundary (s : State) : State :=
  let ticks := s.now / 1000 - s.stat.startAt / 1000
  let live := if ticks = 0 then s.stat.live else aset s.stat.live 321 (sat 0xFFFFFFFF ticks)
  let s1 : State := { s with
    stat := { live := [], copy := live, period := s.stat.period + 1, startAt := s.now, frames := 0, endTime := BitVec.ofNat 48 s.devTime } }
  if s.param 0x1402 = 1 then s1.event 0x1401 .info false 0 s1.stat.period.toNat else s1

/-- A frame start closes a period that holds LOG.STAT_PERIOD frames, and counts in the period it starts in (R449). -/
def State.statFrame (s : State) : State :=
  let s1 := if s.param 0x1400 ≤ s.stat.frames then s.statBoundary else s
  ({ s1 with stat := { s1.stat with frames := s1.stat.frames + 1 } }).count 320 1

/-- The time limit closes a period (R449). -/
def State.statTimeLimit (s : State) : State :=
  if s.stat.startAt + ms (s.param 0x1401) ≤ s.now then s.statBoundary else s

/-- STAT_MAX_TIME_EXPIRY (R449). -/
def execStatMaxTimeExpiry (s : State) : Out :=
  .next (s.elapse (s.stat.startAt + ms (s.param 0x1401))).statBoundary

/-- STATS_READ's layout: FIRST (2), COUNT (2) 1 to 116 (R134). -/
def cmdStatsRead : Cmd :=
  { code := 0x0081, lenOk := fun p => p.length == 4 && 1 ≤ le2 p 2 && le2 p 2 ≤ 116, zeroOk := fun _ => true }

/-- The copies of the indices asked for, with PERIOD and END_TIME (R134, R451). -/
def runStatsRead (p : List Byte) (s : State) : Reply :=
  let first := le2 p 0
  let n := le2 p 2
  if 1343 < first + n - 1 then .refuse stOutOfRange s
  else
    .reply stOk (toLe 4 s.stat.period.toNat ++ zeros 4 ++ toLe 8 s.stat.endTime.toNat ++
      (List.range n).flatMap fun i => toLe 4 (aget s.stat.copy (first + i) 0)) s

/-- STATS_READ (R451). -/
def execStatsRead (mb : Mb) (s : State) : Out := s.serve mb cmdStatsRead runStatsRead

/-! ## Trouble log -/

/-- LOG.CLEAR empties the ring and LOG_LOST, and LOG_CLEARED opens the emptied ring (R455, R457). -/
def State.logClear (s : State) (source : Nat) : State :=
  let n := s.log.ring.length
  ({ s with log := { s.log with ring := [], lost := 0 } }).logOnly 0x1500 .info source n

/-- LOG.FIRST_FAULT_CLEAR releases the first fault (R456). -/
def State.firstFaultClear (s : State) : State := { s with log := { s.log with first := none } }

/-- LOG_READ's layout: RING (1), COUNT (1) 1 to 29, reserved (2), FROM (4) (R134). -/
def cmdLogRead : Cmd :=
  { code := 0x0080, lenOk := fun p => p.length == 8 && 1 ≤ (byteAt p 1).toNat && (byteAt p 1).toNat ≤ 29,
    zeroOk := fun p => zeroAt p 2 2 }

/-- The response of LOG_READ (R134). -/
def logReadResp (next lost : Nat) (es : List LogEntry) : List Byte :=
  Byte.of es.length :: (zeros 3 ++ toLe 4 next ++ toLe 4 lost ++ es.flatMap LogEntry.bytes)

/-- Entries of the trouble log from index FROM upward: how many entries of the ring to pass over, how many were lost, and the index reading starts at (R455). A FROM whose distance to NEXT is 0, or 2^31 or more, lies beyond the newest entry. -/
def logFrom (l : TroubleLog) (from_ : Nat) : Nat × Nat × BitVec 32 :=
  let len := l.ring.length
  let f := BitVec.ofNat 32 from_
  let age := (l.next - f).toNat
  if from_ = 0xFFFFFFFF then (0, 0, l.next - BitVec.ofNat 32 len)
  else if age = 0 ∨ 2 ^ 31 ≤ age then (len, 0, f)
  else if age ≤ len then (len - age, 0, f)
  else (0, age - len, l.next - BitVec.ofNat 32 len)

/-- The ring or the event queue is read; a read of the queue removes what it returns (R121, R134, R455). -/
def runLogRead (mb : Mb) (p : List Byte) (s : State) : Reply :=
  let ring := (byteAt p 0).toNat
  let n := (byteAt p 1).toNat
  if 1 < ring then .refuse stOutOfRange s
  else if ring = 1 then
    if mb ≠ .mb0 then .refuse stDenied s
    else
      let es := s.evq.entries.take n
      let left := s.evq.entries.drop n
      let q := if left.isEmpty then { s.evq with entries := [], overflow := false, dropped := 0 } else { s.evq with entries := left }
      .reply stOk (logReadResp left.length s.evq.dropped es) { s with evq := q }
  else
    let (skip, lost, start) := logFrom s.log (le4 p 4)
    let es := (s.log.ring.drop skip).take n
    .reply stOk (logReadResp (start + BitVec.ofNat 32 es.length).toNat lost es) s

/-- LOG_READ (R455). -/
def execLogRead (mb : Mb) (s : State) : Out := s.serve mb cmdLogRead (runLogRead mb)

/-- The log summary of R458. -/
def State.logSummary (s : State) : List Byte :=
  let l := s.log
  let one (e : Option LogEntry) : List Byte := match e with
    | none => zeros 16
    | some e => e.bytes
  toLe 4 l.next.toNat ++ toLe 4 l.lost ++ toLe 4 l.errors.toNat ++ toLe 4 l.fatals.toNat ++ one l.first ++
    slice (l.recent.flatMap LogEntry.bytes) 0 192

/-- The trouble log exported as one image (R458). -/
def State.logImage (s : State) : List Byte :=
  let l := s.log
  toLe 2 0x4C47 ++ [1, 0] ++ toLe 4 (l.next - BitVec.ofNat 32 l.ring.length).toNat ++ toLe 4 l.next.toNat ++ toLe 4 l.lost ++
    (match l.first with
      | none => zeros 16
      | some e => e.bytes) ++ l.ring.flatMap LogEntry.bytes

/-! ## Eyelets -/

/-- The 16-byte rectangle record (R442). -/
def EyeRec.bytes (r : EyeRec) : List Byte :=
  toLe 2 r.x ++ toLe 2 r.y ++ toLe 2 r.w ++ toLe 2 r.h ++ [Byte.of r.tap, r.flags] ++ zeros 2 ++ toLe 4 r.expected.toNat

/-- The record held in 16 bytes at offset `o` (R442). -/
def eyeRecAt (p : List Byte) (o : Nat) : EyeRec :=
  { x := le2 p o, y := le2 p (o + 2), w := le2 p (o + 4), h := le2 p (o + 6), tap := (byteAt p (o + 8)).toNat,
    flags := byteAt p (o + 9), expected := Word.of (le4 p (o + 12)) }

/-- FRAMES of a record. -/
def EyeRec.frames (r : EyeRec) : Nat := bits r.flags.toNat 4 3

/-- LEARN, HOLD and ENABLE of a record. -/
def EyeRec.learn (r : EyeRec) : Bool := bit r.flags.toNat 2
/-- See `EyeRec.learn`. -/
def EyeRec.hold (r : EyeRec) : Bool := bit r.flags.toNat 1
/-- See `EyeRec.learn`. -/
def EyeRec.enabled (r : EyeRec) : Bool := bit r.flags.toNat 0

/-- Whether a rectangle fits the raster (R442, R443). -/
def State.eyeFits (s : State) (r : EyeRec) : Bool := r.x + r.w ≤ s.param 0x2801 && r.y + r.h ≤ s.param 0x2802

/-- One Eyelet. -/
def Eyes.get (e : Eyes) (i : Nat) : Eyelet := e.eye.toList.getD i .initial

/-- The Eyelets with one changed. -/
def Eyes.upd (e : Eyes) (i : Nat) (f : Eyelet → Eyelet) : Eyes := { e with eye := e.eye.mapFinIdx fun k x _ => if k = i then f x else x }

/-- A record is written: it takes effect at the next frame start, and its next mismatch is a first one (R443, R446). -/
def State.eyeWrite (s : State) (i : Nat) (r : EyeRec) : State :=
  { s with eyes := s.eyes.upd i fun e => { e with record := r, mismatched := false } }

/-- EYE_SET's layout: INDEX (1), reserved (3), record (16) (R135, R442). -/
def cmdEyeSet : Cmd :=
  .fixed 0x00E0 20 fun p => zeroAt p 1 3 && zeroAt p 14 2 && (byteAt p 13).toNat < 32

/-- EYE_SET's own checks and its write (R442, R443). -/
def runEyeSet (p : List Byte) (s : State) : Reply :=
  let r := eyeRecAt p 4
  if 15 < (byteAt p 0).toNat || r.w == 0 || r.h == 0 || !s.eyeFits r || 3 < r.tap || r.frames == 3 then .refuse stOutOfRange s
  else .reply stOk [] (s.eyeWrite (byteAt p 0).toNat r)

/-- EYE_SET (R442). -/
def execEyeSet (mb : Mb) (s : State) : Out := s.serve mb cmdEyeSet runEyeSet

/-- EYE_READ's layout: INDEX (1), reserved (3) (R135). -/
def cmdEyeRead : Cmd := .fixed 0x00E1 4 fun p => zeroAt p 1 3

/-- EYE_READ's response: the record, LAST_CRC, LAST_FRAME, RESULT (R442). -/
def runEyeRead (p : List Byte) (s : State) : Reply :=
  if 15 < (byteAt p 0).toNat then .refuse stOutOfRange s
  else
    let e := s.eyes.get (byteAt p 0).toNat
    .reply stOk (e.record.bytes ++ toLe 4 e.lastCrc.toNat ++ toLe 4 e.lastFrame.toNat ++ [Byte.of e.result] ++ zeros 3) s

/-- EYE_READ (R442). -/
def execEyeRead (mb : Mb) (s : State) : Out := s.serve mb cmdEyeRead runEyeRead

/-- At a frame start each Eyelet takes its record and is active when the frame can be checked under it (R443). -/
def State.eyeFrame (s : State) (live black : Bool) : State :=
  { s with eyes := { s.eyes with eye := s.eyes.eye.map fun e =>
    let r := e.record
    let kind := r.frames = 0 || (r.frames = 1 && live) || (r.frames = 2 && !live)
    { e with cur := r, crc := 0xFFFFFFFF, rowsSeen := 0, concealed := false,
             active := r.enabled && !black && kind && s.eyeFits r } } }

/-- One row passes a tap: its columns inside the rectangle enter the CRC, two bytes a subpixel (R444). -/
def State.eyeRow (s : State) (tap row : Nat) (vals : List Nat) (concealed : Bool) : State :=
  { s with eyes := { s.eyes with eye := s.eyes.eye.map fun e =>
    let r := e.cur
    if e.active && r.tap = tap && r.y ≤ row && row < r.y + r.h then
      let part := (vals.drop (3 * r.x)).take (3 * r.w)
      { e with crc := crc32cRun e.crc (part.flatMap (toLe 2)), rowsSeen := e.rowsSeen + 1, concealed := e.concealed || concealed }
    else e } }

/-- Whether a hold of R446 can start: the host link runs, is not held by R223 and has not failed, and MEM has not failed (R447). -/
def State.eyeHoldFree (s : State) : Bool :=
  !s.fn.hostLink.stopped && !s.ras.tagHold && !s.domFailed dHla && !s.domFailed dHlb && !s.domFailed dMem && !s.eyes.holdDue

/-- The check of one Eyelet at the end of the last active row (R445, R446). -/
def State.eyeCheckOne (s : State) (i : Nat) : State :=
  let e := s.eyes.get i
  if !e.active || e.rowsSeen ≠ e.cur.h then s
  else if e.cur.learn && e.concealed then { s with eyes := s.eyes.upd i fun e => { e with active := false } }
  else
    let crc := e.crc ^^^ 0xFFFFFFFF
    let s1 := s.count 1233 1
    let took (res : Nat) (mism : Bool) (f : EyeRec → EyeRec) (t : State) : State :=
      { t with eyes := t.eyes.upd i fun e =>
        { e with active := false, lastCrc := Word.of crc, lastFrame := s.ras.frame, result := res, mismatched := mism,
                 record := if e.record = e.cur then f e.record else e.record } }
    if e.cur.learn then took 3 false (fun r => { r with expected := Word.of crc, flags := r.flags &&& 0xFB }) s1
    else if crc = e.cur.expected.toNat then took 1 false id s1
    else
      let hold := e.cur.hold && !e.mismatched && s1.eyeHoldFree
      let s2 := (took 2 true id s1).count (1216 + i) 1
      let s3 := if hold then ({ s2 with eyes := { s2.eyes with holdDue := true } }).count 1232 1 else s2
      if e.mismatched then s3
      else s3.event 0x4C01 .warning true (i + 16 * b2n hold + 32 * b2n e.concealed) crc

/-- The checks of all Eyelets whose rectangle has passed (R445). -/
def State.eyeCheck (s : State) : State := (List.range 16).foldl State.eyeCheckOne s

end Sys2Proof.Machine
end

