-- ==== Sys2Proof/Machine/Codec.lean ====
section
/-! DEFINITION. Compression containers, the engine's host jobs, and the encrypted form of stored containers (17_compression_engine.md, R230). -/

namespace Sys2Proof.Machine

/-! ## Containers -/

/-- A container header (R460). -/
def containerHeader (level : Nat) (last flush : Bool) (index origLen compLen crc : Nat) : List Byte :=
  let h := toLe 2 0x5442 ++ [1, Byte.of level, Byte.of (2 * b2n last + b2n flush), 0] ++ toLe 2 index ++ toLe 4 origLen ++
    toLe 4 compLen ++ toLe 4 crc ++ toLe 2 0
  h ++ toLe 2 (crc16 h)

/-- One container of original bytes, and whether it expanded and so is stored (R460, R466). -/
def container (level : Nat) (last flush : Bool) (index : Nat) (orig : List Byte) : List Byte × Bool :=
  let z := Config.deflate level orig
  if z.length < orig.length then
    (containerHeader level last flush index orig.length z.length (crc32c orig) ++ z, false)
  else (containerHeader 0 last flush index orig.length orig.length (crc32c orig) ++ orig, true)

/-- A container's fields as decoded (R460). -/
structure Cont where
  level : Nat
  last : Bool
  flush : Bool
  index : Nat
  orig : List Byte
  total : Nat
deriving DecidableEq, Repr

/-- Checks 1 and 2 of R462: the header is sound; its original and compressed lengths. -/
def headerOk (h : List Byte) : Bool :=
  le2 h 0 == 0x5442 && byteAt h 2 == 1 && le2 h 22 == crc16 (h.take 22) && byteAt h 5 == 0 && zeroAt h 20 2 &&
  (byteAt h 4).toNat < 4 && (byteAt h 3).toNat ≤ 9 && 1 ≤ le4 h 8 && le4 h 8 ≤ 65536 &&
  (if byteAt h 3 = 0 then le4 h 12 == le4 h 8 else 1 ≤ le4 h 12 && le4 h 12 ≤ 65560)

/-- Decode the container at the front of `bs`, under the seven checks of R462. -/
def decodeContainer (bs : List Byte) (prev : Option Nat) (flushOk : Bool) : Option Cont :=
  let h := slice bs 0 24
  if bs.length < 24 || !headerOk h then none
  else
    let level := (byteAt h 3).toNat
    let last := bit (byteAt h 4).toNat 1
    let flush := bit (byteAt h 4).toNat 0
    let index := le2 h 6
    let n := le4 h 8
    let c := le4 h 12
    let data := (bs.drop 24).take c
    let order : Bool := match prev with
      | none => true
      | some p => index == (p + 1) % 65536
    if !order || (!flushOk && (flush || (!last && n < 65536))) || data.length < c then none
    else
      let out := if level = 0 then some data else inflate n data
      match out with
      | none => none
      | some o =>
        if o.length = n && crc32c o = le4 h 16 then
          some { level := level, last := last, flush := flush, index := index, orig := o, total := 24 + c }
        else none

/-- Split original bytes into container-sized pieces. -/
def chunks (size : Nat) : Nat → List Byte → List (List Byte)
  | 0, _ => []
  | fuel + 1, bs => if bs.isEmpty then [] else bs.take size :: chunks size fuel (bs.drop size)

/-- A whole stream of 65,536-byte containers under STORE, and how many are stored (R461, R466). -/
def stream (level : Nat) (bs : List Byte) : List (List Byte × Bool) :=
  let cs := chunks 65536 (bs.length / 65536 + 1) bs
  (List.range cs.length).map fun i => container level (i + 1 == cs.length) false i (cs.getD i [])

/-- What a decompress run over containers gave: its original bytes so far, the bytes read, and why it ended (0: at its LAST container). -/
structure Unpacked where
  orig : List Byte
  read : Nat
  why : Nat
deriving DecidableEq, Repr

/-- One container's worth before the rest of a run. -/
def Unpacked.after (c : Cont) (extra : Nat) (u : Unpacked) : Unpacked := { u with orig := c.orig ++ u.orig, read := c.total + extra + u.read }

/-- Decode a whole stream to its LAST container (R461, R462); `why` is 1 at the first container that fails. -/
def unstream (flushOk : Bool) : Nat → Option Nat → List Byte → Unpacked
  | 0, _, _ => { orig := [], read := 0, why := 1 }
  | fuel + 1, prev, bs =>
    match decodeContainer bs prev flushOk with
    | none => { orig := [], read := min bs.length (24 + le4 bs 12), why := 1 }
    | some c =>
      if c.last then { orig := c.orig, read := c.total, why := 0 }
      else (unstream flushOk fuel (some c.index) (bs.drop c.total)).after c 0

/-! ## Stored containers (R230) -/

/-- K_STORE (R230). -/
def storeKey : List Byte := Config.hkdf Config.deviceSecret [] (ascii "ul9484 store") 32

/-- IV and additional data of a stored block: OBJECT, BLOCK, GENERATION (R230). -/
def storeIv (object block gen : Nat) : List Byte := toLe 4 object ++ toLe 4 block ++ toLe 4 gen

/-- A block encrypted, with its tag after it (R230). -/
def sealBlock (object block gen : Nat) (plain : List Byte) : List Byte :=
  let iv := storeIv object block gen
  let c := Config.gcmCipher storeKey iv iv plain
  c ++ (Config.gcmTag storeKey iv iv c).take 16

/-- A stored block decrypted: none if its tag fails. GCM's cipher is its own inverse. -/
def openBlock (object block gen : Nat) (stored : List Byte) : Option (List Byte) :=
  let iv := storeIv object block gen
  let n := stored.length - 16
  let c := stored.take n
  if (Config.gcmTag storeKey iv iv c).take 16 = stored.drop n then some (Config.gcmCipher storeKey iv iv c) else none

/-! ## Accounting -/

/-- Bytes read and written by a job that ends, in KiB with the remainder carried (R473). -/
def State.cmpAccount (s : State) (bytesIn bytesOut : Nat) : State :=
  let i := s.cmp.inRem + bytesIn
  let o := s.cmp.outRem + bytesOut
  ((({ s with cmp := { s.cmp with inRem := i % 1024, outRem := o % 1024 } }).count 448 1).count 451 (i / 1024)).count 452 (o / 1024)

/-! ## Host jobs -/

/-- The surface pool (R30). -/
def poolBase : Nat := 0x44000000
/-- See `poolBase`. -/
def poolEnd : Nat := 0x84000000

/-- Address of a clip's instance in the clip library (R367). -/
def clipBase (i : Nat) : Nat := 0x84000000 + i * 1048576

/-- Whether a range lies in the surface pool. -/
def inPool (a n : Nat) : Bool := poolBase ≤ a && a + n ≤ poolEnd

/-- CMP_RUN's layout: the descriptor of R470; FLAGS [7:4] and bytes 24 to 31 are 0. -/
def cmdCmpRun : Cmd :=
  .fixed 0x00A0 32 fun p => (byteAt p 2).toNat < 16 && zeroAt p 24 8

/-- The fields of a descriptor within their ranges (R470, R471 step 2). -/
def cmpFieldsOk (p : List Byte) : Bool :=
  let op := (byteAt p 0).toNat
  let level := (byteAt p 1).toNat
  let src := (byteAt p 3).toNat
  let sa := le4 p 4
  let sn := le4 p 8
  let da := le4 p 12
  let dn := le4 p 16
  let bb := le4 p 20
  op ≤ 2 && (if op = 0 then level ≤ 9 else level == 0) && src ≤ 1 &&
  (if src = 1 then op == 0 && sa == 0 && sn == 0 else 1 ≤ sn && sn ≤ 1073741824 && inPool sa sn) &&
  (if op = 2 then da == 0 && dn == 0 else inPool da dn) &&
  (bb == 0 || (4096 ≤ bb && bb ≤ 61440 && bb % 4096 == 0)) &&
  (src == 1 || op == 2 || sa + sn ≤ da || da + dn ≤ sa)

/-- CMP_RUN's own checks, then a queued job (R471, R472). -/
def runCmpRun (mb : Mb) (p : List Byte) (s : State) : Reply :=
  let fl := (byteAt p 2).toNat
  let test := bit fl 1
  let bb := le4 p 20
  let special := (test && mb == .mb2) || s.boot.stage == .unconfigured
  if (test && mb != .mb2) || (bb != 0 && !special) || s.param 0x1C01 == 0 then .refuse stDenied s
  else if !cmpFieldsOk p then .refuse stOutOfRange s
  else if s.domFailed dCodec then .refuse stDomainFailed s
  else
    let image := if byteAt p 3 = 1 then some s.logImage else none
    let srcBytes := match image with
      | some i => i.length
      | none => le4 p 8
    let op := match (byteAt p 0).toNat with
      | 0 => CmpOp.compress
      | 1 => .decompress
      | _ => .check
    let j : CmpJob :=
      { user := 6, op := op, level := if byteAt p 1 = 0 then s.param 0x1C00 else (byteAt p 1).toNat, store := bit fl 0,
        test := test, verify := bit fl 2, index := bit fl 3, image := image, srcAddr := le4 p 4, srcBytes := srcBytes,
        dstAddr := le4 p 12, dstBytes := le4 p 16, blockBytes := if bb = 0 then 65536 else bb, inPos := 0, outPos := 0,
        block := 0, lastIndex := none, blocks := 0, stored := 0, offsets := [], job := s.cmp.nextJob, mb := mb,
        tag := (s.mb mb).tag, startAt := s.now }
    let next := if s.cmp.nextJob + 1 = 0 then 1 else s.cmp.nextJob + 1
    .accept (toLe 4 s.cmp.nextJob.toNat) { s with cmp := { s.cmp with jobs := s.cmp.jobs ++ [j], nextJob := next } } id

/-- CMP_RUN (R471). -/
def execCmpRun (mb : Mb) (s : State) : Out := s.serve mb cmdCmpRun (runCmpRun mb)

/-- A host job ends: the CMP.LAST_ readouts, the counters and EV_CMD_DONE (R472, R473). -/
def State.cmpEnd (s : State) (j : CmpJob) (status : Nat) : State :=
  let s1 : State := { s with cmp := { s.cmp with
    jobs := s.cmp.jobs.filter (fun k => k.job != j.job), lastJob := j.job, lastStatus := status, lastIn := j.inPos,
    lastOut := j.outPos, lastBlocks := j.blocks, lastStored := j.stored,
    lastFail := if status = stOk then 0xFFFFFFFF else j.block, lastTime := (s.now - j.startAt) / 1200 % 2 ^ 32 } }
  (s1.cmpAccount j.inPos j.outPos).endJob 0x00A0 status

/-- Source bytes of a job from its read position. -/
def State.cmpSource (s : State) (j : CmpJob) (n : Nat) : List Byte :=
  match j.image with
  | some i => (i.drop j.inPos).take n
  | none => s.ramBytes (j.srcAddr + j.inPos) n

/-- A job's progress is kept. -/
def State.cmpKeep (s : State) (j : CmpJob) : State :=
  { s with cmp := { s.cmp with jobs := s.cmp.jobs.map fun k => if k.job = j.job then j else k } }

/-- `n` free bytes (assumption 3). -/
def State.freeBytes (s : State) (n : Nat) : List Byte :=
  (List.range n).map fun i => Byte.of (Config.freeValue (s.free + i)).toNat

/-- The output range of a failed container holds unspecified bytes (R464). -/
def State.cmpSpoil (s : State) (a n : Nat) : State :=
  { s.poolWrite true a (s.freeBytes n) with free := s.free + n }

/-- A container's worth of a compress job (R466, R467, R472). -/
def State.cmpCompress (s : State) (j : CmpJob) : State :=
  let src := s.cmpSource j (min j.blockBytes (j.srcBytes - j.inPos))
  let last := j.srcBytes ≤ j.inPos + src.length
  let (bytes, expands) := container j.level last (j.blockBytes < 65536 && !last) j.block src
  let s1 := if expands then s.count 449 1 else s
  let j1 := { j with inPos := j.inPos + src.length }
  if expands && !j.store then s1.cmpEnd j1 stExpands
  else if j.dstBytes < j.outPos + bytes.length then s1.cmpEnd j1 stOutOfRange
  else
    let s2 := s1.poolWrite true (j.dstAddr + j.outPos) bytes
    let j2 := { j1 with
      outPos := j.outPos + bytes.length, blocks := j.blocks + 1, stored := j.stored + b2n expands, offsets := j.offsets ++ [j.outPos] }
    let good := !j.verify || (match decodeContainer bytes (if j.block = 0 then none else some (j.block - 1)) true with
      | some c => c.orig == src
      | none => false)
    if !good then (s2.count 450 1).cmpEnd { j2 with blocks := j.blocks } stCheckFailed
    else if last then
      let ix := if j.index then j2.offsets.flatMap (toLe 4) else []
      if j.dstBytes < j2.outPos + ix.length then s2.cmpEnd j2 stOutOfRange
      else
        (s2.poolWrite true (j.dstAddr + j2.outPos) ix).cmpEnd { j2 with outPos := j2.outPos + ix.length }
          (if 0 < j2.stored then stExpands else stOk)
    else s2.cmpKeep { j2 with block := j.block + 1 }

/-- A container's worth of a decompress or check job (R462, R464, R472). -/
def State.cmpDecompress (s : State) (j : CmpJob) : State :=
  let left := j.srcBytes - j.inPos
  let head := s.cmpSource j (min 24 left)
  let src := s.cmpSource j (min (24 + le4 head 12) left)
  match decodeContainer src j.lastIndex (j.test || s.boot.stage == .unconfigured) with
  | none =>
    let named := if 24 ≤ left then le2 head 6 else j.block
    let s1 := if j.op = .decompress && 24 ≤ left && headerOk head then
        s.cmpSpoil (j.dstAddr + j.outPos) (min (le4 head 8) (j.dstBytes - j.outPos)) else s
    (s1.count 450 1).cmpEnd { j with block := named } stCheckFailed
  | some c =>
    let j1 := { j with inPos := j.inPos + c.total, block := c.index, lastIndex := some c.index }
    if j.op = .decompress && j.dstBytes < j.outPos + c.orig.length then s.cmpEnd j1 stOutOfRange
    else
      let s1 := if j.op = .decompress then s.poolWrite true (j.dstAddr + j.outPos) c.orig else s
      let j2 := { j1 with
        outPos := if j.op = .decompress then j.outPos + c.orig.length else j.outPos, blocks := j.blocks + 1 }
      if c.last || j2.inPos = j.srcBytes then s1.cmpEnd j2 stOk else s1.cmpKeep j2

/-- Whether the four decompression lanes serve scan-out only: the active rows of a resident frame (R282, R468). -/
def State.lanesTaken (s : State) : Bool := s.mem.residence == .resident && s.ras.running && !s.ras.inBlank && s.ras.kind == FrameKind.hoop

/-- CMP_CONTAINER_DONE: the engine finishes the next container of the job at the head, but not in the active rows of a resident frame (R282, R468, R472). -/
def execCmpContainerDone (s : State) : Out :=
  match s.cmp.jobs with
  | [] => .next s
  | j :: _ =>
    if !s.domOn dCodec || s.lanesTaken then .next s
    else
      let s1 := s.memAsk true false (if j.image.isSome then 0 else min j.blockBytes (j.srcBytes - j.inPos))
      done (if j.op = .compress then s1.cmpCompress j else s1.cmpDecompress j)

/-- PFW ends every host job with BUSY (R469). -/
def State.cmpPfw (s : State) : State := s.cmp.jobs.foldl (fun t j => t.cmpEnd j stBusy) s

end Sys2Proof.Machine
end

