-- ==== Sys2Proof/Machine/Nv.lean ====
section
/-! DEFINITION. The Sampler, the NOR and NAND commands, the NAND directory and the power-fail save (18_sampler_nv_storage.md). -/

namespace Sys2Proof.Machine

/-! ## Sectors and records -/

/-- First address of sector `k` of a Sampler bank (R476). -/
def sectorBase (bank : Bool) (k : Nat) : Nat := 0x700000 + 0x10000 * b2n bank + 4096 * k

/-- The cells of a NOR range that are not erased. -/
def State.norSpan (s : State) (a n : Nat) : List Host.Cell := s.nv.nor.filter fun c => a ≤ c.1 && c.1 < a + n

/-- A sector whose 4096 bytes all read 0xFF (R477). -/
def State.sectorErased (s : State) (bank : Bool) (k : Nat) : Bool := (s.norSpan (sectorBase bank k) 4096).isEmpty

/-- Offset of the highest byte of a sector that is not 0xFF; 0 when erased. -/
def State.sectorTop (s : State) (bank : Bool) (k : Nat) : Nat :=
  (s.norSpan (sectorBase bank k) 4096).foldl (fun m c => max m (c.1 - sectorBase bank k)) 0

/-- A sector header that passes (R477). -/
def State.sectorHeaderOk (s : State) (bank : Bool) (k : Nat) : Bool :=
  let h := s.norBytes (sectorBase bank k) 16
  le2 h 0 == 0x534D && (byteAt h 2).toNat == b2n bank && byteAt h 3 == 1 && le4 h 8 == crc32c (h.take 8)

/-- A good sector: its header passes and STATE reads 0xFF (R477, R483). -/
def State.sectorInUse (s : State) (bank : Bool) (k : Nat) : Bool :=
  s.sectorHeaderOk bank k && s.norByte (sectorBase bank k + 15) == 0xFF

/-- GENERATION of a sector. -/
def State.sectorGen (s : State) (bank : Bool) (k : Nat) : Nat := le4 (s.norBytes (sectorBase bank k + 4) 4) 0

/-- Footprint of a record (R478). -/
def footprint (len : Nat) : Nat := 16 * ((13 + len + 15) / 16)

/-- One position a scan visits (R478, R483): `header` when its header check passes, `valid` as R481 defines. -/
structure SmpRec where
  bank : Bool
  sector : Nat
  gen : Nat
  off : Nat
  header : Bool
  valid : Bool
  key : Nat
  seq : Nat
  payload : List Byte
deriving DecidableEq, Repr

/-- Address of a record. -/
def SmpRec.addr (r : SmpRec) : Nat := sectorBase r.bank r.sector + r.off

/-- The positions a scan of a good sector visits from `p` to the highest non-0xFF byte (R483). -/
def State.scanFrom (s : State) (bank : Bool) (k gen top : Nat) : Nat → Nat → List SmpRec
  | 0, _ => []
  | fuel + 1, p =>
    if top < p then []
    else
      let base := sectorBase bank k
      let h := s.norBytes (base + p) 8
      let key := le2 h 0
      let len := (byteAt h 2).toNat
      if key = 0 || crc8 (h.take 3) != (byteAt h 3).toNat then
        { bank := bank, sector := k, gen := gen, off := p, header := false, valid := false, key := 0, seq := 0, payload := [] } ::
          State.scanFrom s bank k gen top fuel (p + 16)
      else
        let f := footprint len
        let crosses := 256 < p % 256 + f
        let body := s.norBytes (base + p) (8 + len)
        let good := !crosses && 1 ≤ len && len ≤ 232 && le4 (s.norBytes (base + p + 8 + len) 4) 0 == crc32c body &&
          s.norByte (base + p + 12 + len) == 0x5A
        { bank := bank, sector := k, gen := gen, off := p, header := true, valid := good, key := key, seq := le4 h 4,
          payload := body.drop 8 } :: State.scanFrom s bank k gen top fuel (if crosses then (p / 256 + 1) * 256 else p + f)

/-- The positions visited in one sector; none in a sector that is not good. -/
def State.scanSector (s : State) (bank : Bool) (k : Nat) : List SmpRec :=
  if s.sectorInUse bank k then s.scanFrom bank k (s.sectorGen bank k) (s.sectorTop bank k) 256 16 else []

/-- Every valid record of a bank. -/
def State.bankRecords (s : State) (bank : Bool) : List SmpRec :=
  (List.range 16).flatMap fun k => (s.scanSector bank k).filter (·.valid)

/-- Every valid record of both banks. -/
def State.records (s : State) : List SmpRec := s.bankRecords false ++ s.bankRecords true

/-- Whether `b` wins over `a` for one key: SEQUENCE, then GENERATION, then bank 0, then the later position (R482). -/
def SmpRec.beats (b a : SmpRec) : Bool :=
  if b.seq ≠ a.seq then a.seq < b.seq
  else if b.gen ≠ a.gen then a.gen < b.gen
  else if b.bank ≠ a.bank then a.bank
  else decide (a.addr < b.addr)

/-- The best record of a list for a key. -/
def bestOf (rs : List SmpRec) (key : Nat) : Option SmpRec :=
  rs.foldl (fun acc r =>
    if r.key ≠ key then acc
    else match acc with
      | none => some r
      | some a => if r.beats a then some r else acc) none

/-- The winning copy of a key (R482). -/
def State.winner (s : State) (key : Nat) : Option SmpRec := bestOf s.records key

/-- Payload of the winning copy. -/
def State.recPayload (s : State) (key : Nat) : Option (List Byte) := (s.winner key).map (·.payload)

/-- Distinct keys with a valid copy. -/
def State.liveKeys (s : State) : List Nat := (s.records.map (·.key)).eraseDups

/-- The live size (R487). -/
def State.liveBytes (s : State) : Nat :=
  let rs := s.records
  ((rs.map (·.key)).eraseDups.map fun k => (bestOf rs k).elim 0 fun r => footprint r.payload.length).foldl (· + ·) 0

/-- Erased sectors of a bank. -/
def State.erasedSectors (s : State) (bank : Bool) : List Nat := (List.range 16).filter fun k => s.sectorErased bank k

/-- The newest sector of a bank: in use, with the highest GENERATION. -/
def State.newestSector (s : State) (bank : Bool) : Option Nat :=
  (List.range 16).foldl (fun acc k =>
    if !s.sectorInUse bank k then acc
    else match acc with
      | none => some k
      | some j => if s.sectorGen bank j < s.sectorGen bank k then some k else acc) none

/-- The append point of a bank's newest sector: the sector and the offset (R479). -/
def State.appendPoint (s : State) (bank : Bool) : Option (Nat × Nat) :=
  (s.newestSector bank).map fun k => (k, max 16 ((s.sectorTop bank k + 16) / 16 * 16))

/-- The lowest erased sector becomes the newest (R477, R480). -/
def State.formatNext (s : State) (bank : Bool) : State :=
  match s.erasedSectors bank with
  | [] => s
  | k :: _ =>
    let gen := 1 + (List.range 16).foldl (fun m j => if s.sectorHeaderOk bank j then max m (s.sectorGen bank j) else m) 0
    let h := toLe 2 0x534D ++ [Byte.of (b2n bank), 1] ++ toLe 4 gen
    s.norProgram (sectorBase bank k) (h ++ toLe 4 (crc32c h))

/-- Fewer than 512 bytes left, or no sector yet: the next one is formatted (R480). -/
def State.ensureRoom (s : State) (bank : Bool) : State :=
  match s.appendPoint bank with
  | none => s.formatNext bank
  | some (_, off) => if 4096 < off + 512 then s.formatNext bank else s

/-- Where a record of footprint `f` goes in a bank (R479); none when the bank has no room. -/
def State.place (s : State) (bank : Bool) (f : Nat) : Option Nat :=
  match s.appendPoint bank with
  | none => none
  | some (k, off) =>
    let off := if 256 < off % 256 + f then (off / 256 + 1) * 256 else off
    if off + f ≤ 4096 then some (sectorBase bank k + off) else none

/-- Bytes 0 to 11 + LENGTH of a record (R478). -/
def recordBody (key seq : Nat) (payload : List Byte) : List Byte :=
  let h := toLe 2 key ++ [Byte.of payload.length]
  let b := h ++ [Byte.of (crc8 h)] ++ toLe 4 seq ++ payload
  b ++ toLe 4 (crc32c b)

/-- The copies an update writes: bank and SEQUENCE of each (R481, R482). -/
def State.updatePlan (s : State) (key : Nat) : List (Bool × Nat) :=
  let n0 := bestOf (s.bankRecords false) key
  let n1 := bestOf (s.bankRecords true) key
  match n0, n1 with
  | none, none => [(false, 1), (true, 2)]
  | none, some b => [(false, (b.seq + 1) % 2 ^ 32)]
  | some a, none => [(true, (a.seq + 1) % 2 ^ 32)]
  | some a, some b =>
    let newest := max a.seq b.seq
    if s.nv.ties.contains key then [(false, (newest + 2) % 2 ^ 32), (true, (newest + 2) % 2 ^ 32)]
    else [(b.beats a, (newest + 1) % 2 ^ 32)].map fun p => (!p.1, p.2)

/-- One committed copy, written at once: body and marker (R479). -/
def State.writeCopy (s : State) (bank : Bool) (key seq : Nat) (payload : List Byte) : State :=
  let s1 := s.ensureRoom bank
  match s1.place bank (footprint payload.length) with
  | none => s
  | some a =>
    (((s1.norProgram a (recordBody key seq payload)).norProgram (a + 12 + payload.length) [0x5A]).ensureRoom bank).count 384 1

/-- A record the firmware writes for itself, as one operation (R481; assumption 9); with NVM failed its flash is unpowered and nothing is written (R506, R519). -/
def State.recWrite (s : State) (key : Nat) (payload : List Byte) : State :=
  if s.domFailed dNvm then s
  else
  let s1 := (s.updatePlan key).foldl (fun t p => t.writeCopy p.1 key p.2 payload) s
  { s1 with nv := { s1.nv with ties := s1.nv.ties.filter (· != key) } }

/-! ## Scanning -/

/-- A torn record or header counts and is logged (R485, R504). -/
def State.tornLog (s : State) (bank : Bool) (sector key : Nat) : State :=
  (s.count 385 1).logOnly 0x1900 .info 3 (key * 65536 + b2n bank * 256 + sector)

/-- The last record of a bank is settled (R485). -/
def State.settleBank (s : State) (bank : Bool) : State :=
  match s.newestSector bank with
  | none => s
  | some k =>
    match (s.scanSector bank k).getLast? with
    | none => s
    | some r =>
      let a := r.addr
      if !r.header then (s.norProgram a (zeros 4)).tornLog bank k 0
      else
        let m := a + 12 + (byteAt (s.norBytes a 3) 2).toNat
        if r.valid then s.norProgram m [0x5A]
        else (s.norProgram m [0]).tornLog bank k r.key

/-- Sectors to erase: not erased, and with a failing header or a STATE that is not 0xFF (R483). -/
def State.badSectorsOf (s : State) (bank : Bool) : List (Bool × Nat) :=
  ((List.range 16).filter fun k => !s.sectorErased bank k && !s.sectorInUse bank k).map fun k => (bank, k)

/-- Keys whose highest SEQUENCE stands in copies with differing payloads (R482). -/
def State.tieKeys (s : State) : List Nat :=
  let rs := s.records
  (rs.map (·.key)).eraseDups.filter fun key =>
    match bestOf rs key with
    | none => false
    | some w => rs.any fun r => r.key == key && r.seq == w.seq && r.payload != w.payload

/-- EV_SMP_TIE for each tie (R482, R504). -/
def State.raiseTies (s : State) : State :=
  let ks := s.tieKeys
  let s1 := ks.foldl (fun t key =>
    (t.event 0x1801 .warning true 3 (key * 65536 + 256 * ((t.winner key).elim 0 fun r => b2n r.bank))).count 386 1) s
  { s1 with nv := { s1.nv with ties := ks } }

/-- Sectors scheduled for erase are erased (R483). -/
def State.eraseScheduled (s : State) : State :=
  let s1 := s.nv.badSectors.foldl (fun t p => t.norErase (sectorBase p.1 p.2) 4096) s
  { s1 with nv := { s1.nv with badSectors := [] } }

/-- Whether the boot has passed the point where scheduled erases run (R483). -/
def State.pastProfile (s : State) : Bool :=
  match s.boot.stage with
  | .profileApplied | .running | .unconfigured => true
  | _ => false

/-- The Sampler is ready: its banks' unreadable sectors are known, ties of equal sequence numbers are reported, and past the profile the scheduled erases run (R482, R483). -/
def State.scanned (s : State) (bad : List (Bool × Nat)) : State :=
  let s1 := ({ s with nv := { s.nv with badSectors := bad, st := .ready } } : State).raiseTies
  if s1.pastProfile then s1.eraseScheduled else s1

/-- A scan of both banks: bad sectors scheduled, last records settled, ties found (R482, R483, R485). -/
def State.samplerScan (s : State) : State :=
  let bad := s.badSectorsOf false ++ s.badSectorsOf true
  let s1 := bad.foldl (fun t p =>
    if t.sectorHeaderOk p.1 p.2 then t else t.logOnly 0x1903 .warning 3 (b2n p.1 * 256 + p.2)) s
  ((s1.settleBank false).settleBank true).scanned bad

/-- SAMPLER_COMPACTION of one sector of a bank (R486). A record write in progress keeps it waiting. -/
def execSamplerCompaction (bank1 : Bool) (s : State) : Out :=
  let few := (s.erasedSectors bank1).length < s.param 0x1801
  let oldest := (List.range 16).foldl (fun acc k =>
    if !s.sectorInUse bank1 k then acc
    else match acc with
      | none => some k
      | some j => if s.sectorGen bank1 k < s.sectorGen bank1 j then some k else acc) (none : Option Nat)
  match oldest with
  | none => .next s
  | some k =>
    if !few || s.nv.write.isSome || s.vin.pfw then .next s
    else
      let keep := ((s.scanSector bank1 k).filter (·.valid)).filter fun r => bestOf (s.bankRecords bank1) r.key == some r
      let s1 := keep.foldl (fun t r =>
        let t1 := t.ensureRoom bank1
        match t1.place bank1 (footprint r.payload.length) with
        | none => t
        | some a => ((t1.norProgram a (recordBody r.key r.seq r.payload)).norProgram (a + 12 + r.payload.length) [0x5A]).ensureRoom bank1) s
      done (((s1.norProgram (sectorBase bank1 k + 15) [0]).norErase (sectorBase bank1 k) 4096).count 387 1)

/-! ## NV_WRITE_RECORD -/

/-- Who may write a key with NV_WRITE_RECORD (R488). -/
inductive KeyUse | free | profile | device | unassigned
deriving DecidableEq, Repr

/-- The row of R488 a key lies in. -/
def keyUse (key : Nat) : KeyUse :=
  if 0x1000 ≤ key ∧ key ≤ 0x7FFF then .free
  else if 0x0100 ≤ key ∧ key ≤ 0x0108 then .profile
  else if [0x0010, 0x0020, 0x0030, 0x0180, 0x0200].contains key || (0x0400 ≤ key && key ≤ 0x0404) || (0x0410 ≤ key && key ≤ 0x0422) then .device
  else .unassigned

/-- The next copy of a write begins: its place is found and its body programmed (R479); without room the command ends with NV_FULL. -/
def State.beginCopy (s : State) (w : NvWrite) : State :=
  let s1 := s.ensureRoom w.bank
  match s1.place w.bank (footprint w.payload.length) with
  | none => ({ s with nv := { s.nv with write := none } }).answerHeld w.mb .nvWrite stNvFull []
  | some a =>
    let s2 := s1.norProgram a (recordBody w.key w.seq w.payload)
    { s2 with nv := { s2.nv with write := some { w with addr := a, marker := false } } }

/-- A write begins with the first copy of its plan (R481). -/
def State.beginWrite (s : State) (w : NvWrite) : State :=
  match s.updatePlan w.key with
  | [] => s
  | (bank, seq) :: rest => s.beginCopy { w with bank := bank, seq := seq, second := rest.head?.map Prod.snd, firstSeq := seq }

/-- The next queued write begins once none runs (R489). -/
def State.nextWrite (s : State) : State :=
  if s.nv.write.isSome then s
  else
    match s.nv.queue with
    | [] => s
    | w :: ws => ({ s with nv := { s.nv with queue := ws } }).beginWrite w

/-- A write ends and its response is posted (R489). -/
def State.endWrite (s : State) (w : NvWrite) (status : Nat) : State :=
  let s1 := { s with nv := { s.nv with write := none, ties := s.nv.ties.filter (· != w.key) } }
  (s1.answerHeld w.mb .nvWrite status (if status = stOk then toLe 4 w.firstSeq else [])).nextWrite

/-- NV_WRITE_RECORD's layout: KEY (2), LENGTH (2) up to 232, payload (R135). -/
def cmdNvWrite : Cmd :=
  { code := 0x0091, lenOk := fun p => 1 ≤ le2 p 2 && le2 p 2 ≤ 232 && p.length == 4 + le2 p 2, zeroOk := fun _ => true }

/-- NV_WRITE_RECORD's own checks, then a queued write (R487 to R489, R496). -/
def runNvWrite (mb : Mb) (p : List Byte) (s : State) : Reply :=
  let key := le2 p 0
  let payload := p.drop 4
  let denied := match keyUse key with
    | .free => false
    | .profile => mb != Mb.mb2 && s.boot.stage != Stage.unconfigured
    | _ => true
  let old := (s.winner key).elim 0 fun r => footprint r.payload.length
  if keyUse key = .unassigned then .refuse stOutOfRange s
  else if denied then .refuse stDenied s
  else if old < footprint payload.length && 24576 < s.liveBytes - old + footprint payload.length then .refuse stNvFull s
  else if s.vin.pfw then .refuse stBusy s
  else
    let w : NvWrite := { key := key, payload := payload, bank := false, seq := 0, addr := 0, marker := false, retried := false,
                         second := none, firstSeq := 0, mb := mb }
    .hold .nvWrite { s with nv := { s.nv with queue := s.nv.queue ++ [w] } }

/-- NV_WRITE_RECORD (R481). -/
def execNvWriteRecord (mb : Mb) (s : State) : Out :=
  match s.serve mb cmdNvWrite fun p t => t.needing dNvm (runNvWrite mb p t) with
  | .next t => done t.nextWrite
  | o => o

/-- The copy in hand is committed; the second copy begins or the write ends (R481, R482). -/
def State.copyDone (s : State) (w : NvWrite) : State :=
  let s1 := (s.ensureRoom w.bank).count 384 1
  match w.second with
  | some seq => s1.beginCopy { w with bank := !w.bank, seq := seq, second := none, retried := false }
  | none => s1.endWrite w stOk

/-- The copy in hand is voided after a read-back mismatch, and made once more at the next append point (R479, R485). -/
def State.copyBad (s : State) (w : NvWrite) : State :=
  let headerGood := crc8 (s.norBytes w.addr 3) == (s.norByte (w.addr + 3)).toNat && le2 (s.norBytes w.addr 2) 0 != 0
  let s1 := if headerGood then s.norProgram (w.addr + 12 + w.payload.length) [0] else s.norProgram w.addr (zeros 4)
  let s2 := s1.tornLog w.bank ((w.addr - sectorBase w.bank 0) / 4096) (if headerGood then w.key else 0)
  if w.retried then s2.endWrite w stCheckFailed else s2.beginCopy { w with retried := true }

/-- NOR_PROGRAM_DONE: the body or marker operation of the write in hand is read back (R479). -/
def execNorProgramDone (mismatch : Bool) (s : State) : Out :=
  match s.nv.write with
  | none => .next s
  | some w =>
    let body := recordBody w.key w.seq w.payload
    if !w.marker then
      if mismatch || s.norBytes w.addr body.length != body then done (s.copyBad w)
      else done { s with nv := { s.nv with write := some { w with marker := true } } }
    else
      let s1 := s.norProgram (w.addr + body.length) [0x5A]
      if mismatch || s1.norByte (w.addr + body.length) != 0x5A then done (s1.copyBad w) else done (s1.copyDone w)

/-! ## NV_READ and raw commands -/

/-- NV_READ's layout: AREA (1), reserved (1), LENGTH (2) up to 464, KEY or ADDRESS (4). -/
def cmdNvRead : Cmd :=
  { code := 0x0090, lenOk := fun p => p.length == 8 && le2 p 2 ≤ 464,
    zeroOk := fun p => byteAt p 1 == 0 && (byteAt p 0 != 0 || zeroAt p 6 2) }

/-- NV_READ of each area; `pageFails` says that the ECC cannot correct the NAND page it names (R489; assumption 10). -/
def runNvRead (pageFails : Bool) (p : List Byte) (s : State) : Reply :=
  let n := le2 p 2
  let a := le4 p 4
  match (byteAt p 0).toNat with
  | 0 =>
    if keyUse a = .unassigned then .refuse stOutOfRange s
    else
      match s.winner a with
      | none => .refuse stNvTorn s
      | some r =>
        .reply stOk (toLe 4 r.seq ++ toLe 2 r.payload.length ++ [Byte.of (b2n r.bank), 0] ++ r.payload.take n) s
  | 1 => if 0x800000 < a + n || 0x7FFFFF < a then .refuse stOutOfRange s else .reply stOk (s.norBytes a n) s
  | 2 =>
    if 0x20000000 ≤ a || 4096 < a % 4096 + n then .refuse stOutOfRange s
    else if pageFails then .refuse stCheckFailed s
    else .reply stOk (s.nandBytes a n) s
  | _ => .refuse stOutOfRange s

/-- NV_READ (R489). -/
def execNvRead (mb : Mb) (pageFails : Bool) (s : State) : Out := s.serve mb cmdNvRead fun p t => t.needing dNvm (runNvRead pageFails p t)

/-- Whether a NOR range lies in the Sampler banks or the user area, where raw commands are served (R491). -/
def rawArea (a n : Nat) : Bool := 0x700000 ≤ a && a + n ≤ 0x7F0000

/-- Whether a NOR range touches a Sampler bank (R492). -/
def touchesBank (a n : Nat) : Bool := a < 0x720000 && 0x700000 < a + n

/-- NV_RAW_PROGRAM's layout: ADDRESS (4), LENGTH (2) 1 to 256, reserved (2), data. -/
def cmdNvRaw : Cmd :=
  { code := 0x0092, lenOk := fun p => 1 ≤ le2 p 4 && le2 p 4 ≤ 256 && p.length == 8 + le2 p 4, zeroOk := fun p => zeroAt p 6 2 }

/-- Raw bytes into one page, wrapping within it (R490). -/
def State.rawProgram (s : State) (a : Nat) (data : List Byte) : State :=
  (List.range data.length).foldl (fun t i => t.norProgram (a / 256 * 256 + (a % 256 + i) % 256) [byteAt data i]) s

/-- NV_RAW_PROGRAM's checks and effect; a touched bank is rescanned (R490 to R492, R496). -/
def runNvRaw (p : List Byte) (s : State) : Reply :=
  let a := le4 p 0
  if s.param 0x1800 ≠ 1 || !rawArea (a / 256 * 256) 256 then .refuse stDenied s
  else if s.vin.pfw then .refuse stBusy s
  else
    let s1 := s.rawProgram a (p.drop 8)
    .reply stOk [] (if touchesBank (a / 256 * 256) 256 then s1.samplerScan else s1)

/-- NV_RAW_PROGRAM (R490). -/
def execNvRawProgram (mb : Mb) (s : State) : Out := s.serve mb cmdNvRaw fun p t => t.needing dNvm (runNvRaw p t)

/-- NV_ERASE's layout: DEVICE (1), reserved (1), COUNT (2), ADDRESS (4). -/
def cmdNvErase : Cmd := .fixed 0x0093 8 fun p => byteAt p 1 == 0

/-- NV_ERASE's checks, then a running erase (R489, R491, R496). -/
def runNvErase (p : List Byte) (s : State) : Reply :=
  let dev := (byteAt p 0).toNat
  let n := le2 p 2
  let a := le4 p 4
  let unit := if dev = 0 then 4096 else 262144
  let size := if dev = 0 then 0x800000 else 0x20000000
  if 1 < dev || a % unit ≠ 0 || size < a + n * unit then .refuse stOutOfRange s
  else if (dev = 0 && (s.param 0x1800 ≠ 1 || !rawArea a (n * unit))) || (dev = 1 && a < 4 * 262144) then .refuse stDenied s
  else if s.vin.pfw then .refuse stBusy s
  else
    .accept [] { s with nv := { s.nv with erase := some { nand := dev == 1, addr := a, count := n, suspended := false } } } id

/-- NV_ERASE (R489). -/
def execNvErase (mb : Mb) (s : State) : Out := s.serve mb cmdNvErase fun p t => t.needing dNvm (runNvErase p t)

/-- Spare blocks not used yet (R497, R498). -/
def State.sparesFree (s : State) : List Nat :=
  ((List.range 40).map (2008 + ·)).filter fun b => !(s.nv.replaced.any fun p => p.2 == b) && !s.nv.nandBad.contains b

/-- Record 0x0030: the replacements in force (R488, R498). -/
def State.saveReplaced (s : State) : State :=
  s.recWrite 0x0030 ((s.nv.replaced.take 58).flatMap fun p => toLe 2 p.1 ++ toLe 2 p.2)

/-- The physical block behind a logical one (R498). -/
def State.physBlock (s : State) (b : Nat) : Nat := (s.nv.replaced.find? fun p => p.1 == b).elim b Prod.snd

/-- A bad block, or the spare that stood in for it, is replaced by the lowest unused spare; the record says so first (R498). With no spare left it is skipped. -/
def State.replaceBlock (s : State) (b : Nat) : State :=
  let at_ := s.physBlock b
  let s1 : State := { s with nv := { s.nv with nandBad := (s.nv.nandBad ++ [b, at_]).eraseDups } }
  match s1.sparesFree with
  | [] => s1
  | sp :: _ =>
    let kept := s1.nv.replaced.filter fun (p : Nat × Nat) => p.1 != b
    ({ s1 with nv := { s1.nv with replaced := kept ++ (if at_ = b then [(b, sp)] else [(b, sp), (at_, sp)]) } }).saveReplaced

/-- A block whose erase fails is logged and replaced (R498, R504). -/
def State.badBlock (s : State) (b : Nat) : State := (s.logOnly 0x1902 .warning 3 b).replaceBlock b

/-- NV_ERASE_DONE: the erase asked for completes; failed NAND blocks are replaced (R489, R492, R498). -/
def execNvEraseDone (failed : List Nat) (s : State) : Out :=
  match s.nv.erase with
  | none => .next s
  | some e =>
    if e.suspended then .next s
    else
      let s1 := { s with nv := { s.nv with erase := none } }
      let s2 := if e.nand then s1.nandErase e.addr (e.count * 262144) else s1.norErase e.addr (e.count * 4096)
      let s3 := if e.nand then failed.foldl State.badBlock s2 else s2
      let s4 := if !e.nand && touchesBank e.addr (e.count * 4096) then s3.samplerScan else s3
      done (s4.endJob 0x0093 stOk)

/-! ## NAND objects -/

/-- Whether a logical block can be used: good, or replaced (R498). -/
def State.blockUsable (s : State) (b : Nat) : Bool := !s.nv.nandBad.contains b || s.nv.replaced.any fun p => p.1 == b

/-- Region code of an OBJECT (R499). -/
def objRegion (o : Nat) : Nat := o / 2 ^ 24

/-- First block and size of an object's region (R497, R499). -/
def objBlocks (o : Nat) : Nat × Nat :=
  match objRegion o with
  | 1 => (4 + 640 * (o % 256), 640)
  | 2 => (1860, 16)
  | 3 => (1284 + 288 * (o % 256), 288)
  | _ => (1876, 132)

/-- OBJECT of a plane instance or the curve in a map slot, of a persisted table, of a snapshot slot and of a clip (R499). -/
def objPlane (i slot : Nat) : Nat := 0x01040000 + 256 * i + slot
/-- See `objPlane`. -/
def objCurve (slot : Nat) : Nat := 0x01050000 + slot
/-- See `objPlane`. -/
def objTable (cls i : Nat) : Nat := 0x02000000 + 65536 * cls + 256 * i
/-- See `objPlane`. -/
def objSnap (slot : Nat) : Nat := 0x03000000 + slot
/-- See `objPlane`. -/
def objClip (i : Nat) : Nat := 0x04070000 + 256 * i

/-- Directory record and entry of an object, and how many entries that record holds (R502). -/
def dirPlace (o : Nat) : Nat × Nat × Nat :=
  let cls := bits o 23 16
  let i := bits o 15 8
  match objRegion o with
  | 1 => (0x0400 + o % 256, if cls = 5 then 6 else i, 7)
  | 2 => if cls = 1 then (0x0402, i, 10) else if cls = 3 then (0x0402, 8 + i, 10) else (0x0403, i, 8)
  | 3 => (0x0404, o % 256, 2)
  | _ => (0x0410 + i / 14, i % 14, if i / 14 = 18 then 4 else 14)

/-- A directory entry at offset `o` of a record payload; OBJECT 0 marks an empty one (R502). -/
def dirEntryAt (p : List Byte) (o : Nat) : Option DirEntry :=
  if le4 p o = 0 then none
  else some { object := le4 p o, gen := le4 p (o + 4), planeGen := le4 p (o + 8), firstBlock := le2 p (o + 12), blocks := le2 p (o + 14) }

/-- The directory entry in force for an object. -/
def State.dirEntry (s : State) (o : Nat) : Option DirEntry :=
  let (key, i, _) := dirPlace o
  match s.recPayload key with
  | none => none
  | some p => (dirEntryAt p (16 * i)).filter fun e => e.object == o

/-- Every directory entry in force (R502). -/
def State.directory (s : State) : List DirEntry :=
  ((List.range 5).map (0x0400 + ·) ++ (List.range 19).map (0x0410 + ·)).flatMap fun key =>
    match s.recPayload key with
    | none => []
    | some p => (List.range (p.length / 16)).filterMap fun i => dirEntryAt p (16 * i)

/-- A directory entry is committed (R500, R502). -/
def State.dirCommit (s : State) (e : DirEntry) : State :=
  let (key, i, n) := dirPlace e.object
  let old := slice ((s.recPayload key).getD []) 0 (16 * n)
  s.recWrite key (overlay old (16 * i) (toLe 4 e.object ++ toLe 4 e.gen ++ toLe 4 e.planeGen ++ toLe 2 e.firstBlock ++ toLe 2 e.blocks))

/-- The next store generation is taken; record 0x0010 is kept above it (R499). -/
def State.takeGen (s : State) : Nat × State :=
  let g := s.nv.storeGen
  let held := ((s.recPayload 0x0010).map fun p => le4 p 0).getD 0
  let s1 := if held ≤ g then s.recWrite 0x0010 (toLe 4 (g + 256)) else s
  (g, { s1 with nv := { s1.nv with storeGen := g + 1 } })

/-- The lowest run of `n` blocks of a region that holds no directory entry's version (R500). -/
def State.freeRun (s : State) (o n : Nat) : Option Nat :=
  let (first, size) := objBlocks o
  let dir := s.directory.filter fun e => !(objRegion o == 3 && e.object == o)
  ((List.range (size + 1 - n)).map (first + ·)).find? fun b =>
    (dir.all fun e => b + n ≤ e.firstBlock || e.firstBlock + e.blocks ≤ b) && ((List.range n).all fun i => s.blockUsable (b + i))

/-- Bytes written over a run of logical blocks from its first page. -/
def State.writeRun (s : State) (first : Nat) (bytes : List Byte) : State :=
  (List.range (bytes.length / 262144 + 1)).foldl (fun t i =>
    t.nandWrite (262144 * s.physBlock (first + i)) (slice bytes (262144 * i) (min 262144 (bytes.length - 262144 * i)))) s

/-- Bytes read from a run of logical blocks at byte offset `o`. -/
def State.readRun (s : State) (first o n : Nat) : List Byte :=
  (List.range n).map fun i => s.nandByte (262144 * s.physBlock (first + (o + i) / 262144) + (o + i) % 262144)

/-- What an index page says beyond its object (R501). -/
structure IndexExtra where
  planeGen : Nat
  snapPlaneGens : List Nat
  snapPanelOn : Nat
deriving DecidableEq, Repr

/-- The 48 index bytes (R501). -/
def indexBytes (o gen containers length : Nat) (x : IndexExtra) : List Byte :=
  toLe 2 0x4E49 ++ [1, 0] ++ toLe 4 o ++ toLe 4 gen ++ toLe 4 containers ++ toLe 4 length ++ toLe 4 x.planeGen ++
    slice (x.snapPlaneGens.flatMap (toLe 4)) 0 12 ++ toLe 4 x.snapPanelOn ++ zeros 8

/-- A store's containers sealed back to back (R230, R500), with the plain stream's length and how many blocks were stored plain. -/
def sealedStream (o gen level : Nat) (data : List Byte) : List Byte × Nat × Nat :=
  let cs := stream level data
  ((List.range cs.length).flatMap fun i => sealBlock o i gen (cs.getD i ([], false)).1, cs.length, (cs.filter (·.2)).length)

/-- With CMP.VERIFY_INTERNAL at 1 each container of a store is decoded back (R468): how many do not give what went in. -/
def verifyFails (level : Nat) (data : List Byte) : Nat :=
  let cs := stream level data
  ((List.range cs.length).filter fun i =>
    match decodeContainer (cs.getD i ([], false)).1 (if i = 0 then none else some (i - 1)) false with
    | some c => c.orig != slice data (65536 * i) (min 65536 (data.length - 65536 * i))
    | none => true).length

/-- A whole store: erase a run, write the containers and the index page, commit the directory entry (R500); SMP_STORE_FAILED where a container does not decode back (R468) or no run is large enough. The version occupies its containers' pages and one index page. -/
def State.nandStore (s : State) (o gen level : Nat) (x : IndexExtra) (data : List Byte) : State × Bool :=
  let (bytes, n, plain) := sealedStream o gen level data
  let s0 := (s.count 449 plain).cmpAccount data.length (bytes.length - 16 * n)
  let ix := sealBlock o 0xFFFFFFFF gen (indexBytes o gen n bytes.length x)
  let at_ := (bytes.length + 4095) / 4096 * 4096
  let bad := if s.param 0x1C02 = 1 then verifyFails level data else 0
  let blocks := if objRegion o = 3 then 288 else (at_ + 4096 + 262143) / 262144
  if 0 < bad then ((s0.count 450 bad).logOnly 0x1901 .error 3 o, false)
  else
  match s0.freeRun o blocks with
  | none => (s0.logOnly 0x1901 .error 3 o, false)
  | some b =>
    let s1 := (List.range blocks).foldl (fun t i => t.nandErase (262144 * s.physBlock (b + i)) 262144) s0
    let s2 := s1.writeRun b (bytes ++ List.replicate (at_ - bytes.length) 0xFF ++ ix)
    (s2.dirCommit { object := o, gen := gen, planeGen := x.planeGen, firstBlock := b, blocks := blocks }, true)

/-- A store that fails is logged (R500, R504). -/
def State.storeFailed (s : State) (o : Nat) : State := s.logOnly 0x1901 .error 3 o

/-- Offset of the index page of a version: the last page of its run that is not erased (R500, R501). -/
def State.indexPage (s : State) (e : DirEntry) : Option Nat :=
  let offs := (List.range e.blocks).filterMap fun i =>
    let base := 262144 * s.physBlock (e.firstBlock + i)
    let top := s.nv.nand.foldl (fun m c => if base ≤ c.1 && c.1 < base + 262144 then max m (c.1 - base + 1) else m) 0
    if top = 0 then none else some (262144 * i + (top - 1) / 4096 * 4096)
  offs.getLast?

/-- Why a stored version cannot be loaded, in the codes of EV_PRK_MAP_FAIL: missing, tag, container check (R354). -/
abbrev lfMissing : Nat := 1
/-- See `lfMissing`. -/
abbrev lfTag : Nat := 2
/-- See `lfMissing`. -/
abbrev lfContainer : Nat := 3

/-- Read the containers of a version in order and decode them (R230, R462, R467, R501); `why` is a code of `lfMissing`, or 0. -/
def State.readContainers (s : State) (e : DirEntry) : Nat → Nat → Nat → Option Nat → Unpacked
  | 0, _, _, _ => { orig := [], read := 0, why := 0 }
  | n + 1, off, block, prev =>
    let iv := storeIv e.object block e.gen
    let head := Config.gcmCipher storeKey iv iv (s.readRun e.firstBlock off 24)
    let total := 24 + le4 head 12
    if 65584 < total then { orig := [], read := 24, why := lfContainer }
    else
      match openBlock e.object block e.gen (s.readRun e.firstBlock off (total + 16)) with
      | none => { orig := [], read := 0, why := lfTag }
      | some plain =>
        match decodeContainer plain prev true with
        | none => { orig := [], read := total, why := lfContainer }
        | some c => (State.readContainers s e n (off + total + 16) (block + 1) (some c.index)).after c 0

/-- The index of an object's version in force, checked against the directory (R501), or why there is none. -/
def State.storedIndex (s : State) (o : Nat) : Except Nat (DirEntry × List Byte) :=
  match s.dirEntry o with
  | none => .error lfMissing
  | some e =>
    match s.indexPage e with
    | none => .error lfTag
    | some off =>
      match openBlock o 0xFFFFFFFF e.gen (s.readRun e.firstBlock off 64) with
      | none => .error lfTag
      | some ix => if le2 ix 0 = 0x4E49 && byteAt ix 2 = 1 && le4 ix 4 = o && le4 ix 8 = e.gen then .ok (e, ix) else .error lfTag

/-- The containers of an object's version in force, run through SEC and CODEC. -/
def State.unpacked (s : State) (o : Nat) : Option Unpacked :=
  match s.storedIndex o with
  | .error _ => none
  | .ok (e, ix) => some (s.readContainers e (le4 ix 12) 0 0 none)

/-- A version as loaded at start-up: its content, its index's fields and its store generation, or why it fails (R501). -/
def State.nandLoad (s : State) (o : Nat) : Except Nat (List Byte × IndexExtra × Nat) :=
  match s.storedIndex o with
  | .error w => .error w
  | .ok (e, ix) =>
    let u := s.readContainers e (le4 ix 12) 0 0 none
    if u.why ≠ 0 then .error u.why
    else .ok (u.orig, { planeGen := le4 ix 20, snapPlaneGens := [le4 ix 24, le4 ix 28, le4 ix 32], snapPanelOn := le4 ix 36 }, e.gen)

/-- The engine's account of loading an object: one job, its bytes and a container that failed (R468, R473). -/
def State.loadJob (s : State) (o : Nat) : State :=
  match s.unpacked o with
  | none => s
  | some u => (s.count 450 (b2n (u.why == lfContainer))).cmpAccount u.read u.orig.length

/-- A background store of a table or clip is queued under a fresh generation (R306, R368, R499). -/
def State.queueStore (s : State) (o : Nat) (planeGen : Nat) (data : List Byte) : State :=
  let (g, s1) := s.takeGen
  { s1 with nv := { s1.nv with stores := s1.nv.stores ++
    [{ object := o, gen := g, firstBlock := 0, blocks := 0, data := data, planeGen := planeGen, containers := 0 }] } }

/-- A part that stores and loads of NAND objects rely on is unavailable for good (R28, R469, R519). -/
def State.storeLacks (s : State) : Bool := s.domFailed dCodec || s.domFailed dSec || s.domFailed dNvm

/-- The queued store of an object ends, written or failed; it fails while CODEC, SEC or NVM is failed (R469, R500, R519). -/
def State.endStore (s : State) (o : Nat) (failed : Bool) : State × Bool :=
  match s.nv.stores.find? fun x => x.object == o with
  | none => (s, false)
  | some x =>
    let s1 := { s with nv := { s.nv with stores := s.nv.stores.filter fun y => y.gen != x.gen } }
    if failed || s.storeLacks then (s1.storeFailed o, false)
    else s1.nandStore o x.gen (s.param 0x1C03) { planeGen := x.planeGen, snapPlaneGens := [0, 0, 0], snapPanelOn := 0 } x.data

/-- NAND_STORE_DONE: a store of a persisted table or a clip ends (R500). -/
def execNandStoreDone (object : Word) (failed : Bool) (s : State) : Out := done (s.endStore object.toNat failed).1

/-! ## Always-on values and saves -/

/-- Panel-on time in seconds (R493). -/
def State.panelOnS (s : State) : Nat := s.nv.panelOn / 1200000 % 2 ^ 32

/-- Record 0x0020 (R493). -/
def State.alwaysOn (s : State) (cause : Nat) : List Byte :=
  toLe 4 s.panelOnS ++ toLe 4 s.nv.bootCount ++ toLe 4 s.nv.snapGen ++ [Byte.of s.nv.snapSlot, Byte.of cause] ++ zeros 2 ++
    toLe 4 s.nv.snapPanelOn ++ toLe 4 s.nv.pfwCount ++ zeros 8

/-- Records 0x0020 and 0x0200 are written (R494, R495). -/
def State.saveAlwaysOn (s : State) (cause : Nat) : State :=
  let s1 := { s with nv := { s.nv with saveCause := cause, lastSave := cause } }
  let s2 := s1.recWrite 0x0020 (s1.alwaysOn cause)
  s2.recWrite 0x0200 s2.logSummary

/-- The first scan after AON power-up loads record 0x0020, record 0x0030 and the store generation (R493, R498, R499). What BOOT_COUNT and PFW_COUNT counted since power-up is added to the stored counts. -/
def State.loadAlwaysOn (s : State) : State :=
  let p := (s.recPayload 0x0020).getD []
  let r := (s.recPayload 0x0030).getD []
  let pairs := (List.range (r.length / 4)).map fun i => (le2 r (4 * i), le2 r (4 * i + 2))
  { s with nv := { s.nv with
    panelOn := le4 p 0 * 1200000, bootCount := le4 p 4 + s.nv.bootCount, snapGen := le4 p 8, snapSlot := (byteAt p 12).toNat,
    saveCause := (byteAt p 13).toNat, snapPanelOn := le4 p 16, pfwCount := le4 p 20 + s.nv.pfwCount, replaced := pairs,
    nandBad := (Config.factoryBadBlocks ++ pairs.map Prod.fst).eraseDups,
    storeGen := ((s.recPayload 0x0010).map fun p => le4 p 0).getD 0, firstScan := false } }

/-- Blocks of the factory's bad-block table that nothing replaces yet are replaced (R498). -/
def State.replaceFactory (s : State) : State :=
  (Config.factoryBadBlocks.filter fun b => 4 ≤ b && b < 2008 && !(s.nv.replaced.any fun p => p.1 == b)).foldl State.replaceBlock s

/-- Flash work when PFW asserts: the NOR program in hand completes with its marker, queued writes end with BUSY, an erase is suspended, and NAND stores are abandoned (R495, R496). -/
def State.nvPfw (s : State) : State :=
  let s1 := match s.nv.write with
    | none => s
    | some w =>
      let t := (s.norProgram (w.addr + 12 + w.payload.length) [0x5A]).count 384 1
      ({ t with nv := { t.nv with write := none } }).answerHeld w.mb .nvWrite stOk (toLe 4 w.firstSeq)
  let s2 := s1.nv.queue.foldl (fun t w => t.answerHeld w.mb .nvWrite stBusy []) s1
  { s2 with nv := { s2.nv with queue := [], stores := [], erase := s2.nv.erase.map fun e => { e with suspended := !e.nand } } }

end Sys2Proof.Machine
end

