-- ==== Sys2Proof/Machine/Security.lean ====
section
/-! DEFINITION. Sessions, protected settings, firmware images and the anti-rollback count (08_content_protection.md). -/

namespace Sys2Proof.Machine

/-! ## Sessions -/

/-- Whether `b` is at or after `a` in the wrapping order of R538. -/
def srcFrom (a b : Word) : Bool := (b - a).toNat < 2 ^ 31

/-- Whether `b` follows `a` in the wrapping order of R538. -/
def srcAfter (a b : Word) : Bool := a != b && srcFrom a b && (b - a).toNat < 2 ^ 31

/-- The established session that covers an SRC_FRAME (R215, R538). -/
def State.sessionFor (s : State) (src : Word) : Option Session := s.sec.sessions.find? fun e => srcFrom e.switch src

/-- EV_PROT_SESSION for a session ended (R235). -/
def State.sessionEndEvent (s : State) (cause id : Nat) : State :=
  s.event 0x2002 .warning true 0 (2 * 2 ^ 24 + cause * 2 ^ 16 + id)

/-- When the event of an ended session is raised (R235). -/
inductive EndWhen
  /-- At once. -/
  | now
  /-- As soon as CTRL is *on*. -/
  | atCtrl
  /-- When STAGE next reaches PROFILE_APPLIED. -/
  | atProfile
deriving DecidableEq, Repr

/-- Every session ends: MB1_SESSION is dropped, and EV_PROT_SESSION is raised when R235 says (R216). -/
def State.endSessions (s : State) (cause : Nat) (at_ : EndWhen) : State :=
  match s.sec.sessions with
  | [] => s
  | e :: _ =>
    let ids := s.sec.sessions.map fun e => e.id.toNat
    let s1 := { s with sec := { s.sec with sessions := [], dropped := true, lastId := e.id } }
    let s2 := s1.count 514 ids.length
    if at_ = .now then ids.foldl (fun t i => t.sessionEndEvent cause i) s2
    else { s2 with sec := { s2.sec with endEvents := s2.sec.endEvents ++ ids.map fun i => ⟨cause, i, at_ == .atProfile⟩ } }

/-- Session-end events kept for later are raised: all of them at PROFILE_APPLIED, else those that waited only for CTRL (R235). -/
def State.raiseEndEvents (s : State) (atProfile : Bool) : State :=
  let es := s.sec.endEvents.filter fun e => atProfile || !e.atProfile
  es.foldl (fun t e => t.sessionEndEvent e.cause e.id)
    { s with sec := { s.sec with endEvents := s.sec.endEvents.filter fun e => !(atProfile || !e.atProfile) } }

/-- Whether an SRC_FRAME uses up a session's space (R216, R538). -/
def Session.spaceUsed (e : Session) (src : Word) : Bool := src - e.switch == 0x80000000

/-- Whether an SRC_FRAME uses up the space of some session, the newest or an older one (R216, R538). -/
def State.spaceUsed (s : State) (src : Word) : Bool := s.sec.sessions.any fun e => e.spaceUsed src

/-- Sessions whose space an SRC_FRAME uses up end. With the newest one every session ends, since older ones only govern frames that precede it; an older one ends alone, and MB1 goes on under the newest (R216, R235, R538). -/
def State.endSpace (s : State) (src : Word) : State :=
  if s.sec.sessions.head?.any fun e => e.spaceUsed src then s.endSessions 5 .now
  else
    let old := s.sec.sessions.filter fun e => e.spaceUsed src
    let s1 : State := { s with sec := { s.sec with sessions := s.sec.sessions.filter fun e => !e.spaceUsed src } }
    old.foldl (fun t e => t.sessionEndEvent 5 e.id.toNat) (s1.count 514 old.length)

/-- An ALERT message (R212). -/
def alertMsg (code : Nat) : List Byte := [0x0F, 1] ++ toLe 2 16 ++ toLe 2 code ++ zeros 10

/-- A handshake message the device sends: by the mailbox, whose SEC_SESSION response it is, or as PROT on the back-channel (R212). -/
def State.sendHandshake (s : State) (path : Option Mb) (msg : List Byte) : State :=
  match path with
  | none => s.bcSend { kind := 3, payload := msg, last := none }
  | some i => s.answerHeld i .secHandshake stOk msg

/-- A handshake in progress is discarded; a mailbox that waits for it is answered with ALERT CODE 1 (R215; assumption 11). -/
def State.dropHandshake (s : State) : State :=
  match s.sec.handshake with
  | none => s
  | some h =>
    let s1 := { s with sec := { s.sec with handshake := none } }
    if h.deviceHello.isNone && h.path.isSome then s1.sendHandshake h.path (alertMsg 1) else s1

/-- A well-formed HELLO (R212). -/
def helloOk (m : List Byte) : Bool :=
  m.length == 88 && byteAt m 0 == 1 && byteAt m 1 == 1 && le2 m 2 == 88 && byteAt m 4 == 0 && zeroAt m 5 3

/-- A HELLO arrives: a new handshake whose key agreement starts, or ALERT. From a debug unlock to the next reset every HELLO is refused, locked again or not (R215, R236). -/
def State.helloIn (s : State) (path : Option Mb) (m : List Byte) : State :=
  if s.param 0x2001 = 1 || s.sec.unlocked then s.sendHandshake path (alertMsg 5)
  else if !helloOk m then s.sendHandshake path (alertMsg 1)
  else
    let s1 := s.dropHandshake
    if !Config.onCurve (slice m 24 64) then s1.sendHandshake path (alertMsg 6)
    else
      let h : Handshake := { hello := m, path := path, draw := s1.free, deviceHello := none, id := 0, keys := none, sentAt := 0,
                                renew := !s1.sec.sessions.isEmpty }
      { s1 with free := s1.free + 1, sec := { s1.sec with handshake := some h } }

/-- The keys of R214. -/
def sessionKeys (ikm salt th1 : List Byte) : Keys :=
  let k (label : String) (n : Nat) : List Byte := Config.hkdf ikm salt (ascii label ++ th1) n
  { row := k "ul9484 row" 16, tag := k "ul9484 tag" 16, ctl := k "ul9484 ctl" 32, hconf := k "ul9484 hconf" 32, dconf := k "ul9484 dconf" 32 }

/-- The SESSION_ID after one (R213). -/
def nextSessionId (i : BitVec 16) : BitVec 16 := if i + 1 = 0 then 1 else i + 1

/-- A certificate in the compact format of R211, its fields in their order. -/
def certificate (kind : Byte) (usage : BitVec 3) (subject issuer : BitVec 64) (pub sig : List Byte) : List Byte :=
  [0x01, kind] ++ toLe 2 usage.toNat ++ toLe 8 subject.toNat ++ toLe 8 issuer.toNat ++ toLe 2 0x9484 ++ zeros 10 ++ slice pub 0 64 ++ slice sig 0 64

/-- The device certificate, issued by the product CA (R211). -/
def deviceCert : List Byte :=
  certificate 0x01 Config.deviceUsage Config.serial Config.caId Config.identityPub Config.deviceCertSig

/-- The product CA certificate, issued by the root (R211). -/
def caCert : List Byte := certificate 0x02 Config.caUsage Config.caId Config.rootId Config.caPub Config.caCertSig

/-- DEVICE_HELLO bytes 0 to 471 (R212, R213). -/
def deviceHello (id : BitVec 16) (draw : Nat) (hello : List Byte) : List Byte :=
  let b := [0x02, 1] ++ toLe 2 472 ++ toLe 2 id.toNat ++ zeros 2 ++ slice (Config.randomBytes draw) 0 16 ++
    slice (Config.ephemeralPub draw) 0 64 ++ deviceCert ++ caCert
  b ++ slice (Config.ecdsaSign (Config.sha256 (hello ++ b))) 0 64

/-- SEC_KEY_AGREEMENT_DONE: DEVICE_HELLO goes out (R212 to R214). -/
def execSecKeyAgreementDone (s : State) : Out :=
  match s.sec.handshake with
  | none => .next s
  | some h =>
    if h.deviceHello.isSome then .next s
    else
      let id := nextSessionId s.sec.idCounter
      let dh := deviceHello id h.draw h.hello
      let keys := sessionKeys (Config.ecdhEphemeral h.draw (slice h.hello 24 64)) (slice h.hello 8 16 ++ slice dh 8 16)
        (Config.sha256 (h.hello ++ dh))
      let h1 := { h with deviceHello := some dh, id := id, keys := some keys, sentAt := s.now }
      done (({ s with sec := { s.sec with handshake := some h1, idCounter := id } }).sendHandshake h.path dh)

/-- DEVICE_FINISH (R212, R213). -/
def deviceFinish (h : Handshake) (k : Keys) (dh finish : List Byte) : List Byte :=
  let b := [0x04, 1] ++ toLe 2 48 ++ toLe 2 h.id.toNat ++ zeros 2 ++ slice finish 4 4 ++ zeros 4
  b ++ slice (Config.hmac k.dconf (Config.sha256 (h.hello ++ dh ++ finish ++ b))) 0 32

/-- A well-formed FINISH (R212). -/
def finishOk (m : List Byte) : Bool :=
  m.length == 48 && byteAt m 0 == 3 && byteAt m 1 == 1 && le2 m 2 == 48 && zeroAt m 8 8

/-- A session is established at DEVICE_FINISH (R215, R222): MB1's counters restart and the failure count returns to 0. Every session it follows is kept, since the frames before its SWITCH_FRAME still use the keys of those (R538). -/
def State.establish (s : State) (h : Handshake) (k : Keys) (switch : Word) : State :=
  let e : Session := { id := h.id, keys := k, switch := switch }
  let s1 : State := { s with
    sec := { s.sec with sessions := e :: s.sec.sessions, handshake := none, tagFails := 0, lastId := h.id },
    box := { s.box with mb1Rx := 0, mb1Tx := 0 } }
  s1.event 0x2002 .info true 0 (2 ^ 24 + h.id.toNat)

/-- A FINISH arrives (R215). One that comes after HELLO and before DEVICE_HELLO has no CODE of its own: it is answered with CODE 1, and the handshake goes on (DESIGN CHOICE, assumption 70). -/
def State.finishIn (s : State) (path : Option Mb) (m : List Byte) : State :=
  let alert (c : Nat) : State := s.sendHandshake path (alertMsg c)
  match s.sec.handshake with
  | none => alert 1
  | some h =>
    match h.deviceHello, h.keys with
    | some dh, some k =>
      let switch := Word.of (le4 m 4)
      let follows := match s.hl.fsLast with
        | none => true
        | some f => srcAfter f switch
      if !finishOk m then alert 1
      else if h.sentAt + ms 1000 < s.now then alert 4
      else if slice m 16 32 ≠ slice (Config.hmac k.hconf (Config.sha256 (h.hello ++ dh ++ m.take 16))) 0 32 then alert 2
      else if !follows then alert 3
      else (s.sendHandshake path (deviceFinish h k dh m)).establish h k switch
    | _, _ => alert 1

/-- SEC_SESSION's layout: a handshake message whose LENGTH is the payload's. -/
def cmdSecSession : Cmd :=
  { code := 0x00B0, lenOk := fun p => 4 ≤ p.length, zeroOk := fun _ => true }

/-- SEC_SESSION: the message is handled once the response is held (R212). -/
def runSecSession (_ : List Byte) (s : State) : Reply :=
  if s.domFailed dSec then .refuse stDomainFailed s else .hold .secHandshake s

/-- A source message that came through a mailbox (R212). -/
def State.handshakeIn (s : State) (path : Option Mb) (m : List Byte) : State :=
  if byteAt m 0 = 1 then s.helloIn path m
  else if byteAt m 0 = 3 then s.finishIn path m
  else s.sendHandshake path (alertMsg 1)

/-- SEC_SESSION (R212). -/
def execSecSession (mb : Mb) (s : State) : Out :=
  match s.serve mb cmdSecSession runSecSession with
  | .next t =>
    if (s.mb mb).st = .pending && (t.mb mb).st = .busy && (t.mb mb).wait = .secHandshake then
      done (t.handshakeIn (some mb) (reqPayload (t.mb mb).req))
    else .next t
  | o => o

/-- A PROT packet's message without its pad: LENGTH bytes, the rest 0x00 (R194, R212). -/
def protMessage (p : List Byte) : Option (List Byte) :=
  let n := le2 p 2
  if 4 ≤ n && n ≤ p.length && p.length == (n + 15) / 16 * 16 && (p.drop n).all (· == 0) then some (p.take n) else none

/-- A handshake message in a PROT packet on group A (R194, R212, R215). -/
def State.protIn (s : State) (payload : List Byte) : State :=
  match protMessage payload with
  | none => s.sendHandshake none (alertMsg 1)
  | some m =>
    if byteAt m 0 = 1 then s.helloIn none m else if byteAt m 0 = 3 then s.finishIn none m else s.sendHandshake none (alertMsg 1)

/-! ## Protected settings -/

/-- Blown steps of the anti-rollback fuse (R226, R227). -/
def State.fuseSteps (s : State) : Nat := max Config.fuseSteps s.sec.fuse

/-- SEC_STATUS: a fresh nonce and the security state (R232). -/
def runSecStatus (_ : List Byte) (s : State) : Reply :=
  let nonce := slice (Config.randomBytes s.free) 0 16
  .reply stOk (toLe 8 Config.serial.toNat ++ nonce ++ toLe 4 (s.param 0x2010) ++
    [Byte.of s.fuseSteps, Byte.of s.sessionState] ++ toLe 2 s.sessionId ++
    [Byte.of s.sec.tagFails, Byte.of (s.param 0x2001), Byte.of (s.param 0x2002), 0])
    { s with free := s.free + 1, sec := { s.sec with nonce := some nonce } }

/-- SEC_STATUS (R232). -/
def execSecStatus (mb : Mb) (s : State) : Out := s.serve mb (.bare 0x00B2) runSecStatus

/-- NONCE_EXPIRY (R232). -/
def execNonceExpiry (s : State) : Out := .next { s with sec := { s.sec with nonce := none } }

/-- One fragment of an upload under R169's OFFSET rules; `limit` bounds the object. None: OUT_OF_RANGE, with the upload as left. -/
def Upload.take (u : Upload) (f : Frag) (limit : Nat) : Option Upload × Upload :=
  if f.first then
    if f.offset ≠ 0 || limit < f.data.length then (none, u)
    else (some { open_ := !f.last, nextOff := f.data.length, bytes := f.data, checking := f.last }, u)
  else if !u.open_ then (none, u)
  else if f.offset ≠ u.nextOff || limit < u.nextOff + f.data.length then (none, { u with open_ := false })
  else (some { open_ := !f.last, nextOff := u.nextOff + f.data.length, bytes := u.bytes ++ f.data, checking := f.last }, u)

/-- SEC_APPROVE's layout: FRAG (8) and data. -/
def cmdSecApprove : Cmd := { code := 0x00B1, lenOk := fun p => fragLen p.length 0, zeroOk := fun p => fragZero p 0 }

/-- SEC_APPROVE: one fragment of the bundle; LAST starts the check, which also judges the length (R231, R233). The spec gives no OFFSET rules for bundles: those of R169 are taken, with OUT_OF_RANGE (DESIGN CHOICE, assumption 71). -/
def runSecApprove (p : List Byte) (s : State) : Reply :=
  let f := fragAt p 0
  match s.sec.bundle.take f (2 ^ 32) with
  | (none, u) => .reply stOutOfRange [] { s with sec := { s.sec with bundle := u } }
  | (some u, _) =>
    let s1 := { s with sec := { s.sec with bundle := u } }
    if f.last then .accept [] s1 id else .reply stOk [] s1

/-- SEC_APPROVE (R231). -/
def execSecApprove (mb : Mb) (s : State) : Out := s.serve mb cmdSecApprove runSecApprove

/-- The changes of a bundle: ID and VALUE (R231). -/
def bundleChanges (b : List Byte) : List (Nat × Nat) :=
  (List.range (byteAt b 3).toNat).map fun i => (le2 b (32 + 8 * i), le4 b (36 + 8 * i))

/-- Whether a key's hash stands in an enabled slot of SEC.KEY_SLOTS, slots `lo` to `lo + 3` (R233). -/
def State.keyEnabled (s : State) (lo : Nat) (key : List Byte) : Bool :=
  (List.range 4).any fun i => bit (s.param 0x2002) (lo + i) && Config.ownerHash (lo + i) == Config.sha256 key

/-- The first step of R233 a bundle fails, or 0. -/
def State.bundleFails (s : State) (b : List Byte) : Nat :=
  let n := (byteAt b 3).toNat
  let o := 8 * n
  let dig := Config.sha256 (b.take (160 + o))
  let ik := slice b (32 + o) 64
  let ok := slice b (96 + o) 64
  if le2 b 0 ≠ 0x4142 || byteAt b 2 ≠ 1 || n = 0 || 16 < n || b.length ≠ 288 + o then 1
  else if leAt b 4 8 ≠ Config.serial.toNat then 2
  else if s.sec.nonce ≠ some (slice b 12 16) then 3
  else if !s.keyEnabled 0 ik || !s.keyEnabled 4 ok then 4
  else if !Config.ecdsaVerify ik dig (slice b (160 + o) 64) || !Config.ecdsaVerify ok dig (slice b (224 + o) 64) then 5
  else if (bundleChanges b).all fun c => pClass? c.1 == some .p && pInRange c.1 c.2 then 0
  else 6

/-- The class P parameters the protected-settings record holds: all but SEC.DEBUG_UNLOCK (R233). -/
def psrIds : List Nat := [0x2000, 0x2002, 0x2003, 0x2004, 0x2005]

/-- The key of the protected-settings record (R233). -/
def psrKey : List Byte := Config.hkdf Config.deviceSecret [] (ascii "ul9484 psr") 32

/-- Payload of record 0x0180: the values of `psrIds`, then their HMAC (R233; assumption 12 for the layout). -/
def State.psrPayload (s : State) : List Byte :=
  let b := psrIds.flatMap fun i => toLe 4 (s.param i)
  b ++ slice (Config.hmac psrKey b) 0 32

/-- Values of a protected-settings record: none when its HMAC fails. -/
def psrValues (p : List Byte) : Option (List (Nat × Word)) :=
  if p.length = 52 && slice (Config.hmac psrKey (p.take 20)) 0 32 = p.drop 20 then
    some ((List.range 5).map fun i => (psrIds.getD i 0, Word.of (le4 p (4 * i))))
  else none

/-- The protected-settings record replaces the defaults at start-up; one that fails is logged (R233). -/
def State.loadPsr (s : State) : State :=
  match s.recPayload 0x0180 with
  | none => s
  | some p =>
    match psrValues p with
    | none => s.logOnly 0x2101 .error 0 1
    | some vs =>
      let s1 := s.setParams vs
      { s1 with sec := { s1.sec with linkEnc := s1.param 0x2000 == 1 } }

/-- SEC.DEBUG_UNLOCK becomes 1: sessions end, handshakes are refused until the next reset, and the unlocking is logged (R216, R236). -/
def State.debugUnlocked (s : State) (source : Nat) : State :=
  let id := s.sec.sessions.head?.elim 0 fun e => e.id.toNat
  (State.endSessions { s with sec := { s.sec with unlocked := true } } 4 .now).dropHandshake.logOnly 0x2100 .warning source id

/-- APPROVAL_BUNDLE_CHECK_DONE (R233). -/
def execApprovalBundleCheckDone (s : State) : Out :=
  if !s.sec.bundle.checking then .next s
  else
    let b := s.sec.bundle.bytes
    let source := ((s.box.jobs.find? fun j => j.code == 0x00B1).elim 0xFF fun j => j.mb.num)
    let step := s.bundleFails b
    let nonce := if step = 1 ∨ step = 2 then s.sec.nonce else none
    let s1 := { s with sec := { s.sec with bundle := .initial, nonce := nonce } }
    if step ≠ 0 then
      done (((s1.count 515 1).logOnly 0x2102 .warning source step).endJob 0x00B1 stApprovalInvalid)
    else
      let vs := (bundleChanges b).map fun c => (c.1, Word.of c.2)
      let s2 := s1.setParams vs
      let s3 := { (s1.recWrite 0x0180 s2.psrPayload) with par := s2.par }
      let s4 := if s.param 0x2001 = 0 && s3.param 0x2001 = 1 then s3.debugUnlocked source else s3
      done ((s4.event 0x2003 .info true source (byteAt b 3).toNat).endJob 0x00B1 stOk)

/-! ## Firmware images -/

/-- First address of a firmware slot (R476). -/
def slotBase (slot : Bool) : Nat := if slot then 0x380000 else 0

/-- 3.5 MiB (R86). -/
def slotSize : Nat := 0x380000

/-- SEC.FW_SIGNERS as the boot ROM reads it: from the protected-settings record, or 0x1 (R226). -/
def State.bootSigners (s : State) : Nat :=
  match s.recPayload 0x0180 with
  | none => 1
  | some p =>
    match psrValues p with
    | none => 1
    | some vs => (aget vs 0x2003 1).toNat

/-- The boot ROM's check of a slot (R86, R225, R226); `readError` when NOR does not read. -/
def State.checkSlot (s : State) (slot readError : Bool) : SlotResult :=
  let h := s.norBytes (slotBase slot) 256
  let len := le4 h 4
  let signer := (byteAt h 8).toNat
  let key := slice h 64 64
  if readError then .norReadError
  else if le2 h 0 ≠ 0x4657 || byteAt h 2 ≠ 1 || 64 < (byteAt h 3).toNat || !zeroAt h 9 3 || !zeroAt h 20 44 || !zeroAt h 192 64 || le4 h 12 ≠ crc32c (h.take 12 ++ h.drop 16) || slotSize < 256 + len then .badHeader
  else if 3 < signer || !bit s.bootSigners signer || Config.sha256 key ≠ Config.signerHash signer ||
      !Config.ecdsaVerify key (Config.sha256 (h.take 128 ++ s.norBytes (slotBase slot + 256) len)) (slice h 128 64) then .badSignature
  else if (byteAt h 3).toNat < s.fuseSteps then .rollback
  else .passed

/-- SEC_VERSION and FW_VERSION of a slot's header. -/
def State.slotVersions (s : State) (slot : Bool) : Byte × Word :=
  (s.norByte (slotBase slot + 3), Word.of (le4 (s.norBytes (slotBase slot + 16) 4) 0))

/-- The anti-rollback count rises to the lower SEC_VERSION once RUNNING is reached and both slots pass (R227). -/
def State.raiseFuse (s : State) : State :=
  let lower := min (s.slotVersions false).1.toNat (s.slotVersions true).1.toNat
  if s.boot.stage = .running && s.checkSlot false false = .passed && s.checkSlot true false = .passed && s.fuseSteps < lower then
    { s with sec := { s.sec with fuse := lower } }
  else s

/-- The slot R87 starts from. -/
def State.firstSlot (s : State) : Bool :=
  let strap := s.boot.straps.bootSlot
  if s.boot.swapOnce then !strap
  else if (if strap then s.boot.failed1 else s.boot.failed0) then !strap else strap

/-- The slot R87 tries first: it passes over one whose failure flag is set, also after a swap. -/
def State.slotTried (s : State) : Bool :=
  let f := s.firstSlot
  if (if f then s.boot.failed1 else s.boot.failed0) then !f else f

/-- SEC_FW_UPDATE's layout: FRAG (8) and data. -/
def cmdFwUpdate : Cmd := { code := 0x00B3, lenOk := fun p => fragLen p.length 0, zeroOk := fun p => fragZero p 0 }

/-- SEC_FW_UPDATE: a fragment is programmed into the slot not running, or in the recovery service the slot R87 tries first; FIRST erases it, LAST starts the check (R228). -/
def runFwUpdate (p : List Byte) (s : State) : Reply :=
  let f := fragAt p 0
  if s.vin.pfw then .refuse stBusy s
  else
    match s.sec.image.take f slotSize with
    | (none, u) => .reply stOutOfRange [] { s with sec := { s.sec with image := u } }
    | (some u, _) =>
      let slot := if f.first then (if s.boot.stage = .recovery then s.firstSlot else !s.boot.slot) else s.sec.imageSlot
      let s1 := { s with sec := { s.sec with image := { u with bytes := [] }, imageSlot := slot } }
      let s2 := if f.first then s1.norErase (slotBase slot) slotSize else s1
      let s3 := s2.norProgram (slotBase slot + f.offset) f.data
      if f.last then .accept (toLe 4 u.nextOff) s3 id else .reply stOk (toLe 4 u.nextOff) s3

/-- SEC_FW_UPDATE (R228). -/
def execSecFwUpdate (mb : Mb) (s : State) : Out := s.serve mb cmdFwUpdate runFwUpdate

/-- FW_IMAGE_CHECK_DONE: a pass clears the slot's failure flag (R228). -/
def execFwImageCheckDone (s : State) : Out :=
  if !s.sec.image.checking then .next s
  else
    let ok := s.checkSlot s.sec.imageSlot false == .passed
    let s1 := { s with sec := { s.sec with image := .initial } }
    let s2 : State := if ok then { s1 with boot := { s1.boot with
      failed0 := s1.boot.failed0 && s.sec.imageSlot, failed1 := s1.boot.failed1 && !s.sec.imageSlot, updated := true } } else s1
    done ((s2.endJob 0x00B3 (if ok then stOk else stCheckFailed)).raiseFuse)

/-- SEC loses power: the session ends with cause 3. The event comes at once where CTRL is *on*, else as soon as it is; a deep standby, whose wake is a restart, leaves it to PROFILE_APPLIED (R98, R216, R235). -/
def State.secOff (s : State) : State :=
  let at_ : EndWhen := if s.pwr.standby.any (·.deep) then .atProfile else if s.domOn dCtrl then .now else .atCtrl
  (s.endSessions 3 at_).dropHandshake

end Sys2Proof.Machine
end

