-- ==== Sys2Proof/Machine/Tiles.lean ====
section
/-! DEFINITION. Filet tiles: header entries, RAW, SOLID and PACKED data, the faults of R366, and continuity clips as tables (R356 to R370). -/

namespace Sys2Proof.Machine

/-- Number of 16-pixel units that cover `n` pixels. -/
def tilesOf (n : Nat) : Nat := (n + 15) / 16

/-- Whether a pixel format is ARGB2101010 (R358). -/
def fmtWide (fmt : Nat) : Bool := fmt % 2 == 1

/-- Widths of A, R, G and B in a pixel format (R359). -/
def chanWidths (fmt : Nat) : List Nat := if fmtWide fmt then [2, 10, 10, 10] else [8, 8, 8, 8]

/-- Lowest bit of A, R, G and B in a pixel word (R359). -/
def chanShifts (fmt : Nat) : List Nat := if fmtWide fmt then [30, 20, 10, 0] else [24, 16, 8, 0]

/-- Channel `k` of a pixel word: 0 A, 1 R, 2 G, 3 B (R359). -/
def chan (fmt w k : Nat) : Nat :=
  w / 2 ^ ((chanShifts fmt).getD k 0) % 2 ^ ((chanWidths fmt).getD k 1)

/-- A tile header entry (R360). -/
structure TileHdr where
  mode : Nat
  reserved : Bool
  size : Nat
  value : Nat
deriving DecidableEq, Repr

/-- The entry held in a 64-bit value (R360). -/
def tileHdr (v : Nat) : TileHdr :=
  { mode := bits v 63 62, reserved := bits v 61 55 != 0 || bits v 47 32 != 0, size := bits v 54 48, value := bits v 31 0 }

/-- Data bytes a tile reads (R362). -/
def TileHdr.cost (h : TileHdr) : Nat := if h.mode = 0 then 1024 else if h.mode = 2 then 16 * h.size else 0

/-- Causes 1 to 4 of R366 for a surface of `t` tiles. -/
def TileHdr.cause (h : TileHdr) (t : Nat) : Option Nat :=
  if h.mode = 3 || h.reserved then some 1
  else if h.mode = 0 && h.size != 64 then some 2
  else if h.mode = 1 && h.size != 0 then some 3
  else if h.mode != 1 && (h.value % 16 != 0 || 1024 * t < h.value + 16 * h.size) then some 4
  else none

/-- The `n` bits of a byte list from bit `k`, bit 0 of byte 0 first (R190). -/
def bitField (d : List Byte) (k n : Nat) : Nat :=
  leAt d (k / 8) ((k % 8 + n + 7) / 8) / 2 ^ (k % 8) % 2 ^ n

/-- One pixel of a block record: each channel is BASE plus its residual, modulo its width (R361). -/
def packedPixel (fmt base : Nat) (ws : List Nat) (res : List Byte) (p : Nat) : Nat :=
  let perPx := ws.foldl (· + ·) 0
  (List.range 4).foldl (fun acc k =>
    let w := ws.getD k 0
    let off := p * perPx + (ws.take k).foldl (· + ·) 0
    let r := if w = 0 then (0 : Int) else signed w (bitField res off w)
    acc + unsigned ((chanWidths fmt).getD k 1) ((chan fmt base k : Int) + r) * 2 ^ ((chanShifts fmt).getD k 0)) 0

/-- Read the block records of PACKED data one after another (R361): the 16 pixels of each, and the bytes used; `inr` is a cause of R366. -/
def packedBlocks (fmt : Nat) : Nat → List Byte → Nat → List (List Nat) → Except Nat (List (List Nat) × Nat)
  | 0, _, used, acc => .ok (acc, used)
  | n + 1, d, used, acc =>
    if d.length < 6 then .error 6
    else
      let wd := le2 d 4
      let ws := [bits wd 15 12, bits wd 11 8, bits wd 7 4, bits wd 3 0]
      if (List.range 4).any fun k => (chanWidths fmt).getD k 0 < ws.getD k 0 then .error 5
      else
        let len := (16 * ws.foldl (· + ·) 0 + 7) / 8
        if d.length < 6 + len then .error 6
        else
          let res := (d.drop 6).take len
          packedBlocks fmt n (d.drop (6 + len)) (used + 6 + len)
            (acc ++ [(List.range 16).map (packedPixel fmt (le4 d 0) ws res)])

/-- The 256 pixels of a tile in row-major order, or its fault (R359 to R361, R366). `data off n` reads the surface. -/
def tilePixels (fmt t : Nat) (h : TileHdr) (data : Nat → Nat → List Byte) : Except Nat (List Nat) :=
  match h.cause t with
  | some c => .error c
  | none =>
    if h.mode = 1 then .ok (List.replicate 256 h.value)
    else
      let d := data h.value (16 * h.size)
      if h.mode = 0 then .ok ((List.range 256).map fun i => le4 d (4 * i))
      else
        match packedBlocks fmt 16 d 0 [] with
        | .error c => .error c
        | .ok (bs, used) =>
          if 16 * ((used + 15) / 16) ≠ 16 * h.size then .error 6
          else .ok ((List.range 256).map fun i =>
            (bs.getD (4 * (i / 64) + i % 16 / 4) []).getD (4 * (i / 16 % 4) + i % 4) 0)

/-! ## Continuity clips (R367, R368) -/

/-- The fixed fields of a clip. -/
structure ClipHead where
  w : Nat
  h : Nat
  x : Nat
  y : Nat
  fmt : Nat
  flags : Nat
  steps : Nat
deriving DecidableEq, Repr

/-- The fields at the head of a clip's bytes (R367). -/
def clipHead (b : List Byte) : ClipHead :=
  { w := le2 b 16, h := le2 b 18, x := le2 b 20, y := le2 b 22, fmt := (byteAt b 24).toNat, flags := (byteAt b 25).toNat,
    steps := le2 b 26 }

/-- Whether the clip loops. -/
def ClipHead.loops (c : ClipHead) : Bool := bit c.flags 0

/-- Tiles of each step. -/
def ClipHead.tiles (c : ClipHead) : Nat := tilesOf c.w * tilesOf c.h

/-- One step of a clip (R367). -/
structure ClipStep where
  surface : Nat
  header : Nat
  duration : Nat
  alpha : Nat
deriving DecidableEq, Repr

/-- Step `i` of a clip. -/
def clipStep (b : List Byte) (i : Nat) : ClipStep :=
  let o := 32 + 16 * i
  { surface := le4 b o, header := le4 b (o + 4), duration := le2 b (o + 8), alpha := (byteAt b (o + 10)).toNat }

/-- Whether every tile of one step is sound and inside the clip (R368). -/
def clipStepOk (b : List Byte) (c : ClipHead) (i : Nat) : Bool :=
  let s := clipStep b i
  s.surface % 64 == 0 && s.header % 16 == 0 && 1 ≤ s.duration && s.duration ≤ 60000 && leAt b (32 + 16 * i + 11) 5 == 0 &&
  s.header + 8 * c.tiles ≤ b.length &&
  (List.range c.tiles).all fun k =>
    let h := tileHdr (leAt b (s.header + 8 * k) 8)
    (h.mode == 1 || s.surface + h.value + h.cost ≤ b.length) &&
    (match tilePixels c.fmt c.tiles h (fun o n => slice b (s.surface + o) n) with
      | .ok _ => true
      | .error _ => false)

/-- The checks of R368 over a clip's bytes, header included. -/
def clipOk (b : List Byte) : Bool :=
  let c := clipHead b
  32 ≤ b.length && b.length ≤ 1048576 && 1 ≤ c.w && c.w ≤ 7680 && 1 ≤ c.h && c.h ≤ 4320 && c.x + c.w ≤ 7680 && c.y + c.h ≤ 4320 &&
  c.fmt ≤ 3 && c.flags ≤ 1 && 1 ≤ c.steps && c.steps ≤ 256 && leAt b 28 4 == 0 && 32 + 16 * c.steps ≤ b.length &&
  (List.range c.steps).all (clipStepOk b c)

/-- Total duration of a clip, in ms. -/
def clipTotal (b : List Byte) : Nat := (List.range (clipHead b).steps).foldl (fun a i => a + (clipStep b i).duration) 0

/-- The step whose duration covers `ms` milliseconds from the first step `i`, searching at most `fuel` steps. -/
def clipStepFrom (b : List Byte) : Nat → Nat → Nat → Nat
  | 0, i, _ => i
  | fuel + 1, i, ticks =>
    let d := 1200000 * (clipStep b i).duration
    if ticks < d then i else clipStepFrom b fuel (i + 1) (ticks - d)

/-- The step shown `ticks` raster-reference ticks after clip time 0 (R370). -/
def clipStepAt (b : List Byte) (ticks : Nat) : Nat :=
  let c := clipHead b
  let total := 1200000 * clipTotal b
  let t := if c.loops && total != 0 then ticks % total else ticks
  clipStepFrom b (c.steps - 1) 0 t

end Sys2Proof.Machine
end

