-- ==== Sys2Proof/Machine/Tables.lean ====
section
/-! DEFINITION. Table instances: which exist, which are in use, loading, the checks on LAST, reading, and the pricking records that class 0x04 tables stand for (R167 to R170, R303, R304, R318, R325, R326, R329 to R331, R367, R398). -/

namespace Sys2Proof.Machine

/-! ## Values of waiting commits and shadows -/

/-- The value a waiting commit gives a parameter: the last one to apply counts (R154). -/
def State.waitVal? (s : State) (id : Nat) : Option Word :=
  s.par.waiting.foldl (fun acc c => (aget? c.values id).orElse fun _ => acc) none

/-- The value that counts as active in a check: that of a waiting commit, else the active one (R147). -/
def State.soon (s : State) (id : Nat) : Nat := (s.waitVal? id).elim (s.param id) (·.toNat)

/-- The shadow of a parameter: staged, else committed and waiting, else active (R143, R153). -/
def State.shadow (s : State) (id : Nat) : Nat := (aget? s.par.staged id).elim (s.soon id) (·.toNat)

/-- A parameter seen with some values laid over those that count as active. -/
def State.over (s : State) (vs : List (Nat × Word)) (id : Nat) : Nat := (aget? vs id).elim (s.soon id) (·.toNat)

/-! ## Instances -/

/-- Whether a table class and instance exist (R167). -/
def tableKnown (id : Nat) : Bool :=
  match id / 256 with
  | 1 => id % 256 < 8 | 2 => id % 256 < 8 | 3 => id % 256 < 2 | 4 => id % 256 < 6 | 5 => id % 256 < 1
  | 6 => id % 256 < 16 | 7 => true | 0x20 => id % 256 < 6 | 0x21 => id % 256 < 1 | 0xFF => id % 256 < 1
  | _ => false

/-- An instance; one never loaded is EMPTY (R169). -/
def State.table (s : State) (id : Nat) : Table :=
  (s.tab.find? fun t => t.id == id).getD { id := id, st := .empty, nextOff := 0, bytes := [] }

/-- An instance joins the list, kept in rising ID. -/
def tableInsert (t : Table) : List Table → List Table
  | [] => [t]
  | x :: xs => if t.id < x.id then t :: x :: xs else if t.id = x.id then t :: xs else x :: tableInsert t xs

/-- The state with one instance replaced. -/
def State.setTable (s : State) (t : Table) : State := { s with tab := tableInsert t s.tab }

/-- Whether an instance is VALID. -/
def State.tableValid (s : State) (id : Nat) : Bool := (s.table id).st == .valid

/-- Whether every enabled pricking plane is VALID. -/
def State.planesValid (s : State) : Bool := (List.range 6).all fun i => !bit (s.param 0x3400) i || s.tableValid (0x400 + i)

/-- The IDs of a set's eight instances: drive banks 0 to 3, then attained banks 0 to 3 (R303). -/
def odIds (set : Nat) : List Nat := (List.range 8).map fun i => 0x100 + 256 * (i / 4) + 4 * set + i % 4

/-- The eight instances of the selected set are VALID (R307). -/
def State.odValid (s : State) : Bool := (odIds (s.param 0x3802)).all s.tableValid

/-- EV_OD_TABLES, as the raster starts or a commit applies, while the selected set has an instance that is not VALID (R307, R322). -/
def State.odTablesEvent (s : State) : State :=
  let set := s.param 0x3802
  match (odIds set).find? fun id => !s.tableValid id with
  | none => s
  | some id => s.event 0x3802 .warning true 2 (set % 256 * 256 + id % 256)

/-- MAP_READY comes when every enabled plane is VALID, also where TABLE_LOAD makes good what the start-up load could not bring (R349). -/
def State.mapCheck (s : State) : State :=
  if s.boot.mapLoaded && s.planesValid then { s with boot := { s.boot with mapReady := true } } else s

/-- PAIR_TAG of an instance (R168). -/
def Table.pairTag (t : Table) : Nat := le4 t.bytes 8

/-- Whether a function is stopped; the raster is stopped while it does not run (R155, R400). -/
def State.funcStopped (s : State) : Func → Bool
  | .overdrive => s.fn.overdrive.stopped | .pricking => s.fn.pricking.stopped | .applique => s.fn.applique.stopped
  | .dither => s.fn.dither.stopped | .hostLink => s.fn.hostLink.stopped | .sensing => s.fn.sensing.stopped
  | .raster => !s.ras.running

/-- Whether an instance is in use (R167): selected by an active value or by one that waits to apply, or always for classes 0x04 and 0x05. -/
def State.tableInUse (s : State) (id : Nat) : Bool :=
  let sel (p k : Nat) : Bool := s.param p == k || (s.par.waiting.any fun c => (aget? c.values p).any fun v => v.toNat == k)
  let i := id % 256
  match id / 256 with
  | 1 => sel 0x3802 (i / 4) | 2 => sel 0x3802 (i / 4) | 3 => sel 0x3C01 i | 4 => true | 5 => true | 6 => sel 0x4400 i
  | 7 => sel 0x3001 i || (match s.apq.clip with
      | none => false
      | some c => c.inst == i)
  | _ => false

/-- Whether an owner of an instance runs (R167, R169); planes 0x00 and 0x01 have sensing as a second owner. -/
def State.tableOwnerRuns (s : State) (id : Nat) : Bool :=
  match id / 256 with
  | 1 => !s.funcStopped .overdrive | 2 => !s.funcStopped .overdrive | 3 => !s.funcStopped .dither
  | 4 => !s.funcStopped .pricking || (id % 256 < 2 && !s.funcStopped .sensing)
  | 5 => !s.funcStopped .pricking | 6 => !s.funcStopped .raster | 7 => !s.funcStopped .applique
  | _ => false

/-! ## Pricking records (R325, R326) -/

/-- Lowest bit and width of a plane's field within a subpixel (R325). -/
def planeField : Nat → Nat × Nat
  | 0 => (0, 8) | 1 => (8, 8) | 2 => (16, 6) | 3 => (22, 6) | 4 => (28, 6) | _ => (34, 8)

/-- Bytes from one row of records to the next (R326). -/
def State.prkStride (s : State) : Nat := 2048 * ((16 * s.param 0x2801 + 2047) / 2048)

/-- Address of a pixel's record (R326). -/
def State.prkAddr (s : State) (x y : Nat) : Nat := 0x18000000 + y * s.prkStride + 16 * x

/-- A pixel's record as a 128-bit value (R325). -/
def State.prkRec (s : State) (x y : Nat) : Nat := leAt (s.ramBytes (s.prkAddr x y) 16) 0 16

/-- The raw field of a plane in a record, subpixel `c` (R325). -/
def recField (r plane c : Nat) : Nat := r / 2 ^ (42 * c + (planeField plane).1) % 2 ^ (planeField plane).2

/-- A field as a number: signed, but for AGEING (R325). -/
def recInt (r plane c : Nat) : Int :=
  if plane = 5 then (recField r plane c : Int) else signed (planeField plane).2 (recField r plane c)

/-- A record with one field replaced. -/
def recSet (r plane c v : Nat) : Nat :=
  let lo := 42 * c + (planeField plane).1
  let w := (planeField plane).2
  r - recField r plane c * 2 ^ lo + v % 2 ^ w * 2 ^ lo

/-- The record of a pixel with one field replaced. -/
def State.prkSet (s : State) (x y plane c v : Nat) : State :=
  s.ramWrite (s.prkAddr x y) (toLe 16 (recSet (s.prkRec x y) plane c v))

/-- The values of a plane's body written into the field of every record (R329). -/
def State.writePlane (s : State) (plane cols rows : Nat) (vals : List Byte) : State :=
  (List.range (3 * cols * rows)).foldl (fun t i =>
    t.prkSet (i / 3 % cols) (i / 3 / cols) plane (i % 3) (byteAt vals i).toNat) s

/-- The values of a plane's body rebuilt from the records (R329). -/
def State.readPlane (s : State) (plane cols rows : Nat) : List Byte :=
  (List.range (3 * cols * rows)).map fun i =>
    Byte.of (unsigned 8 (recInt (s.prkRec (i / 3 % cols) (i / 3 / cols)) plane (i % 3)))

/-! ## Checks on LAST -/

/-- Whether each value of a list is above the one before. -/
def ascends : List Int → Bool
  | a :: b :: t => decide (a < b) && ascends (b :: t)
  | _ => true

/-- Whether no value of a list is below the one before. -/
def neverFalls : List Nat → Bool
  | a :: b :: t => decide (a ≤ b) && neverFalls (b :: t)
  | _ => true

/-- A drive or attained table (R303, R304). -/
def odOk (cls inst : Nat) (b : List Byte) : Bool :=
  let bins := (List.range 8).map fun i => le4 b (16 + 4 * i)
  b.length == 13920 &&
  (cls != 1 || inst % 4 != 0 || (ascends (bins.map Int.ofNat) && bins.all fun t => 100 ≤ t && t ≤ 10000000)) &&
  (cls != 2 || (List.range 6936).all fun i => le2 b (48 + 2 * i) ≤ 16383)

/-- A dither tile (R318). -/
def tileOk (b : List Byte) : Bool := b.length == 24592 && (List.range 12288).all fun i => le2 b (16 + 2 * i) ≤ 4095

/-- A pricking plane (R329). -/
def planeOk (inst cols rows : Nat) (b : List Byte) : Bool :=
  32 ≤ b.length && le2 b 16 == cols && le2 b 18 == rows && b.length == 32 + 3 * cols * rows &&
  (!(2 ≤ inst && inst ≤ 4) || (b.drop 32).all fun v => decide (-32 ≤ signed 8 v.toNat) && decide (signed 8 v.toNat ≤ 31))

/-- The ageing curve and stress-rate model (R331). -/
def curveOk (b : List Byte) : Bool :=
  b.length == 2022 && ascends ((List.range 8).map fun i => signed 16 (le2 b (16 + 2 * i))) &&
  (List.range 3).all fun c =>
    le2 b (32 + 4 * c) < le2 b (34 + 4 * c) && neverFalls ((List.range 65).map fun k => le2 b (1632 + 2 * (65 * c + k)))

/-- One edge of a selvedge waveform (R398). -/
structure Edge where
  segment : Nat
  func : Nat
  level : Nat
  offset : Int
deriving DecidableEq, Repr

/-- EDGE_COUNT of a waveform (R398). -/
def edgeCount (b : List Byte) : Nat := le2 b 32

/-- Edge `i` of a waveform. -/
def edgeAt (b : List Byte) (i : Nat) : Edge :=
  let o := 48 + 8 * i
  { segment := (byteAt b o).toNat, func := (byteAt b (o + 1)).toNat, level := (byteAt b (o + 2)).toNat,
    offset := signed 32 (le4 b (o + 4)) }

/-- The edges of a waveform. -/
def edgesOf (b : List Byte) : List Edge := (List.range (edgeCount b)).map (edgeAt b)

/-- What R398 checks of an edge whatever the timing. -/
def Edge.ok (e : Edge) : Bool :=
  e.segment ≤ 4 && e.func ≤ 0x21 && e.level ≤ 1 && !(2 ≤ e.func && e.func ≤ 0x10) && !(0x18 ≤ e.func && e.func ≤ 0x1A) &&
  (e.segment != 3 || (decide (0 ≤ e.offset) && decide (e.offset ≤ 35999))) &&
  (e.segment != 4 || (decide (0 ≤ e.offset) && decide (e.offset ≤ 12000000)))

/-- The OFFSET ranges that depend on the TIM values (R398). -/
def Edge.fits (e : Edge) (k rowTime blank rows : Nat) : Bool :=
  match e.segment with
  | 0 => decide (0 ≤ e.offset) && decide (e.offset ≤ (k * rowTime : Nat) - 1)
  | 1 => decide (-((blank * rowTime : Nat) : Int) ≤ e.offset) && decide (e.offset ≤ (rows * rowTime : Nat))
  | 2 => decide (0 ≤ e.offset) && decide (e.offset ≤ (blank * rowTime : Nat))
  | _ => true

/-- A selvedge waveform (R398). -/
def waveOk (b : List Byte) : Bool :=
  let n := edgeCount b
  48 ≤ b.length && 1 ≤ n && n ≤ 512 && b.length == 48 + 8 * n && 1 ≤ (byteAt b 16).toNat && (byteAt b 16).toNat ≤ 16 &&
  (byteAt b 17).toNat ≤ 4 && (edgesOf b).all Edge.ok

/-- The content checks of the owning chapter over a whole plain table. -/
def State.contentOk (s : State) (id : Nat) (b : List Byte) : Bool :=
  let inst := id % 256
  match id / 256 with
  | 1 => odOk 1 inst b | 2 => odOk 2 inst b | 3 => tileOk b
  | 4 => planeOk inst (s.param 0x4801) (s.param 0x4802) b
  | 5 => curveOk b | 6 => waveOk b | 7 => clipOk b
  | _ => false

/-- The containers of a delivery package that passes the checks of R229, run through CODEC; FLUSH is accepted in recovery only (R467). -/
def State.openPackage (s : State) (b : List Byte) : Option Unpacked :=
  let n := b.length
  if n < 264 then none
  else
    let tag := b.drop (n - 16)
    let cipher := slice b 232 (n - 248)
    let owner := slice b 104 64
    let aad := b.take 232
    let key := Config.hkdf (Config.ecdhIdentity (slice b 24 64)) (slice b 16 8) (ascii "ul9484 map") 32
    if leAt b 16 8 ≠ Config.serial.toNat then none
    else if !s.keyEnabled 4 owner then none
    else if !Config.ecdsaVerify owner (Config.sha256 (b.take 168 ++ cipher ++ tag)) (slice b 168 64) then none
    else if (Config.gcmTag key (slice b 88 12) aad cipher).take 16 ≠ tag then none
    else
      some (unstream (s.boot.stage == .unconfigured) (cipher.length / 24 + 1) none (Config.gcmCipher key (slice b 88 12) aad cipher))

/-- Whether a load is a delivery package (R229). -/
def isPackage (id : Nat) (b : List Byte) : Bool := byteAt b 2 == 2 && (id / 256 == 4 || id / 256 == 5 || id / 256 == 7)

/-- The plain table of a load: the load itself, or what a package holds under its header (R168, R229). -/
def State.plainOf (s : State) (id : Nat) (b : List Byte) : Option (List Byte) :=
  if !isPackage id b then some b
  else
    match s.openPackage b with
    | none => none
    | some u => if u.why = 0 then some (b.take 16 ++ u.orig) else none

/-- The header checks of R169 on LAST: TABLE_ID, FORMAT, LENGTH, CRC and FLAGS. -/
def tableHeadOk (id : Nat) (b : List Byte) : Bool :=
  let flags := (byteAt b 3).toNat
  16 ≤ b.length && le2 b 0 == id && (byteAt b 2 == 1 || isPackage id b) && le4 b 4 == b.length && le4 b 12 == crc32c (b.drop 16) &&
    (flags == 0 || (flags == 1 && 1 ≤ id / 256 && id / 256 ≤ 3))

/-- The engine's account of a package whose containers it ran (R468, R473). -/
def State.packageJob (s : State) (id : Nat) (b : List Byte) : State :=
  match if tableHeadOk id b && isPackage id b then s.openPackage b else none with
  | none => s
  | some u => (s.count 450 (b2n (u.why != 0))).cmpAccount u.read u.orig.length

/-- The checks of R169 on LAST: TABLE_ID, FORMAT, LENGTH, CRC and FLAGS, then the owning chapter's; the plain table if all pass. -/
def State.tableCheck (s : State) (id : Nat) (b : List Byte) : Option (List Byte) :=
  if tableHeadOk id b then
    match s.plainOf id b with
    | none => none
    | some plain => if s.contentOk id plain then some plain else none
  else none

/-! ## Loading -/

/-- The highest stored generation of a plane in either map slot (R330). -/
def State.topPlaneGen (s : State) (plane : Nat) : Nat :=
  [0, 1].foldl (fun m slot => max m ((s.dirEntry (objPlane plane slot)).elim 0 (·.planeGen))) 0

/-- The node data of the selected set and the selected dither tile are copied from scratch into SRAM0 (R305); with MEM lost there is nothing to copy. -/
def State.sramCopied (s : State) : State :=
  if s.domFailed dMem then { s with pipe := { s.pipe with copyDue := false } }
  else
    let nodes := (odIds (s.param 0x3802)).map fun id => (s.table id).bytes
    { s with pipe := { s.pipe with copyDue := false, sramSet := some (s.param 0x3802), sramOd := nodes, sramTile := (s.table (0x300 + s.param 0x3C01)).bytes } }

/-- Overdrive or dither starts: tables loaded meanwhile into what is selected are copied in this blank, if the raster runs (R305). -/
def State.sramWanted (s : State) : State :=
  if s.pipe.sramSet = some (s.param 0x3802) then s
  else if s.ras.running then { s with pipe := { s.pipe with copyDue := true } } else s.sramCopied

/-- A load into the selected overdrive set or dither tile: SRAM0 no longer holds it (R305). -/
def State.sramStale (s : State) (id : Nat) : State :=
  if ((id / 256 = 1 || id / 256 = 2) && id % 256 / 4 = s.param 0x3802) || id = 0x0300 + s.param 0x3C01 then
    { s with pipe := { s.pipe with sramSet := none } }
  else s

/-- A plain table becomes the VALID content of its instance; a plane's values go into the records, a clip into its megabyte of the clip library (R169, R329, R367). -/
def State.install (s : State) (id : Nat) (plain : List Byte) : State :=
  let t : Table := { id := id, st := .valid, nextOff := plain.length, bytes := if id / 256 = 4 then plain.take 32 else plain }
  let s1 := ((s.setTable t).sramStale id).memAsk true true plain.length
  match id / 256 with
  | 4 => s1.writePlane (id % 256) (le2 plain 16) (le2 plain 18) (plain.drop 32)
  | 7 =>
    let s2 := s1.ramWrite (clipBase (id % 256)) plain
    { s2 with apq := { s1.apq with notValidRaised := s.apq.notValidRaised && s.param 0x3001 != id % 256 } }
  | _ => s1

/-- A load has changed OFFSET, GAIN or AGEING fields since state `old`: the next orderly shutdown has something to record (R346, R348). -/
def State.fieldsChanged (s old : State) (id : Nat) : State :=
  if (id = 0x400 || id = 0x401 || id = 0x405) && s.mem.cells != old.mem.cells then { s with prk := { s.prk with dirty := true } } else s

/-- What follows a load that passes: the store in NAND, and for offset and gain planes the loss of sense results and folds (R306, R330, R368). -/
def State.afterLoad (s : State) (id : Nat) (plain : List Byte) : State :=
  let i := id % 256
  let slot := s.shadow 0x3401
  match id / 256 with
  | 4 =>
    let g := s.topPlaneGen i + 1
    let s1 := s.queueStore (objPlane i slot) g plain
    let p := s1.prk
    let prk := { p with storePending := p.storePending ||| BitVec.ofNat 6 (2 ^ i), planeGen := p.planeGen.setIfInBounds i g,
                        pairs := if i < 2 then [] else p.pairs, folds := if i < 2 then [] else p.folds }
    State.mapCheck { s1 with prk := prk }
  | 5 =>
    let g := ([0, 1].foldl (fun m k => max m ((s.dirEntry (objCurve k)).elim 0 (·.planeGen))) 0) + 1
    let s1 := s.queueStore (objCurve slot) g plain
    { s1 with prk := { s1.prk with curvePending := true, curveGen := g } }
  | 7 => s.queueStore (objClip i) 0 plain
  | c => if c ≤ 3 && bit (byteAt plain 3).toNat 0 then s.queueStore (objTable c i) 0 plain else s

/-- Surface-pool fragment (R134, R363): written at its own offset. -/
def State.poolLoad (s : State) (f : Frag) : Reply :=
  if f.offset % 4 != 0 || 0x40000000 < f.offset + f.data.length then .refuse stOutOfRange s
  else .reply stOk (toLe 4 (f.offset + f.data.length)) (s.poolWrite false (poolBase + f.offset) f.data)

/-- TABLE_LOAD's layout: TABLE_ID (2), reserved (2), FRAG (8), data (R134). -/
def cmdTableLoad : Cmd :=
  { code := 0x0050, lenOk := fun p => fragLen p.length 4, zeroOk := fun p => zeroAt p 2 2 && fragZero p 4 }

/-- A fragment joins an instance in LOADING; on LAST it is checked (R169). -/
def State.loadOn (s : State) (t : Table) (f : Frag) : Reply :=
  let bytes := t.bytes ++ f.data
  let next := t.nextOff + f.data.length
  if !f.last then .reply stOk (toLe 4 next) (s.setTable { t with st := .loading, bytes := bytes, nextOff := next })
  else
    match s.tableCheck t.id bytes with
    | none => .refuse stCheckFailed ((s.packageJob t.id bytes).setTable { t with st := .invalid, bytes := bytes, nextOff := next })
    | some plain => .reply stOk (toLe 4 next) ((((s.packageJob t.id bytes).install t.id plain).fieldsChanged s t.id).afterLoad t.id plain)

/-- TABLE_LOAD's checks in the order of R169. -/
def runTableLoad (p : List Byte) (s : State) : Reply :=
  let id := le2 p 0
  let f := fragAt p 4
  let cls := id / 256
  let t := s.table id
  if !tableKnown id then .refuse stOutOfRange s
  else if cls = 0x20 || cls = 0x21 then .refuse stReadOnly s
  else if id = 0xFF00 then s.poolLoad f
  else if f.first && byteAt f.data 2 == 1 && (cls = 4 || cls = 5 || cls = 7) && s.param 0x2004 = 1 then .refuse stDenied s
  else if s.tableInUse id && s.tableOwnerRuns id then .refuse stNeedsStop s
  else if f.first then
    if f.offset ≠ 0 || (cls = 7 && 8 ≤ f.data.length && 1048576 < le4 f.data 4) then .refuse stOutOfRange s
    else s.loadOn { t with bytes := [], nextOff := 0 } f
  else if t.st ≠ .loading then .refuse stOutOfRange s
  else if f.offset ≠ t.nextOff then .refuse stOutOfRange (s.setTable { t with st := .invalid })
  else s.loadOn t f

/-- TABLE_LOAD (R169). -/
def execTableLoad (mb : Mb) (s : State) : Out := s.serve mb cmdTableLoad runTableLoad

end Sys2Proof.Machine
end

