-- ==== Sys2Proof/Machine/Params.lean ====
section
/-! DEFINITION. Agreement sets, the writing of parameters, and the accepting and applying of commits (R143 to R166, R364). -/

namespace Sys2Proof.Machine

/-! ## Agreement sets (R147 to R149) -/

/-- Members of a set and the parameters outside it that its rule reads (R148). -/
def setReads (k : Nat) : List Nat × List Nat :=
  match k with
  | 1 => ([0x2801, 0x2802, 0x2803, 0x2804, 0x2805, 0x2806, 0x2807], [0x4801, 0x4802, 0x4804, 0x4805])
  | 2 => ([0x2400, 0x2401, 0x2402, 0x2403], [0x2801, 0x2804])
  | 3 => ([0x3802, 0x3808, 0x3809, 0x380A, 0x380B], [])
  | 4 => ([0x3C00, 0x3C01], [])
  | 5 => (apq 0, [0x2801, 0x2802]) | 6 => (apq 1, [0x2801, 0x2802]) | 7 => (apq 2, [0x2801, 0x2802]) | 8 => (apq 3, [0x2801, 0x2802])
  | 9 => ([0x3400, 0x3401, 0x3402], [0x4800])
  | 10 => ([0x3408, 0x3409], [0x4800, 0x2803, 0x2804])
  | 11 => ([0x4000, 0x4001, 0x4002, 0x4003], [0x2801, 0x2804, 0x4803])
  | 12 => ([0x4800, 0x4801, 0x4802, 0x4803, 0x4804, 0x4805], [])
  | _ => (0x4400 :: (List.range 32).map (0x4401 + ·), [0x2802, 0x2803, 0x2804])
where
  /-- Members of APQ_An. -/
  apq (n : Nat) : List Nat := (List.range 8).map (0x3010 + 16 * n + ·)

/-- Payload of a ROW_DATA packet in 8-byte units (R381). -/
def rowDataLen (depth cols : Nat) : Nat := ((3 * depth * cols + 7) / 8 + 4 + 7) / 8

/-- Half-ticks of the raster reference in one Bobbin block time (R377). -/
def blockHalfTicks (rate : Nat) : Nat := match rate with | 0 => 132 | 1 => 66 | _ => 33

/-- Payload units of a ROW packet (R189). -/
def rowPacketLen (b px : Nat) : Nat := (20 + (3 * b * px + 7) / 8 + 15) / 16

/-- Bits per component of a FORMAT (R190). -/
def formatBits (f : Nat) : Nat := match f with | 0 => 8 | 1 => 10 | _ => 12

/-- Whether a selvedge function is a row-timing function (R397). -/
def rowTiming (f : Nat) : Bool := (1 ≤ f && f ≤ 0x14) || (0x17 ≤ f && f ≤ 0x1A) || (0x1F ≤ f && f ≤ 0x21)

/-- Whether no row-timing function stands on two outputs of one half (R148). -/
def selUnique (v : Nat → Nat) (half : Nat) : Bool :=
  let fs := ((List.range 16).map fun i => v (0x4401 + 16 * half + i) % 256).filter rowTiming
  fs.eraseDups.length == fs.length

/-- The rule of one set over prospective values; `tab` takes in the clauses that ask for VALID instances (R148). -/
def State.setRule (s : State) (tab : Bool) (v : Nat → Nat) (k : Nat) : Bool :=
  match k with
  | 1 =>
    v 0x2801 % 2 == 0 && v 0x2801 == v 0x4801 && v 0x2802 == v 0x4802 && 1080 ≤ v 0x2804 && 16 ≤ v 0x2803 &&
    v 0x2801 * v 0x2802 * v 0x2806 ≤ 4050000000000 && (v 0x2802 + v 0x2803) * v 0x2804 * v 0x2806 ≤ 1200000000000 &&
    v 0x4804 ≤ v 0x2805 && v 0x2805 ≤ v 0x2806 && v 0x2806 ≤ v 0x4805
  | 2 =>
    let wide := v 0x2400 == 1
    let px := if wide then v 0x2801 else v 0x2801 / 2
    let lanes := if wide then 16 else v 0x2401 / 2
    let sets := (4 + 16 * rowPacketLen (formatBits (v 0x2403)) px + 16 * lanes - 1) / (16 * lanes)
    (v 0x2401 == 4 || v 0x2401 == 8 || v 0x2401 == 16) && (!wide || v 0x2401 == 16) && sets * 1560 ≤ v 0x2804 * v 0x2402
  | 3 =>
    let ids := odIds (v 0x3802)
    (!tab || (ids.all s.tableValid && ids.all fun i => (s.table i).pairTag == (s.table (ids.headD 0)).pairTag)) &&
    ascends ((List.range 4).map fun i => signed 32 (v (0x3808 + i)))
  | 4 => v 0x3C00 != 0 || !tab || s.tableValid (0x300 + v 0x3C01)
  | 9 =>
    (v 0x3400 &&& 0x23 == 0 || v 0x4800 == 1) &&
    (!tab || (List.range 6).all fun i => !bit (v 0x3400) i || s.tableValid (0x400 + i))
  | 10 => (v 0x3408 == 0 || v 0x4800 == 1) && v 0x3408 * 36000 + 2 * v 0x2804 ≤ v 0x2803 * v 0x2804
  | 11 =>
    let tb := blockHalfTicks (v 0x4000)
    let sets := 1 + (rowDataLen (v 0x4803) (v 0x4003) + v 0x4002 - 1) / v 0x4002
    v 0x4001 ≤ 12 && v 0x4001 * v 0x4002 ≤ 24 && v 0x4001 * v 0x4003 == v 0x2801 / 2 &&
    max (sets * tb) (v 0x2801 / 2) + 2 * tb ≤ 2 * v 0x2804
  | 12 =>
    v 0x4801 ≤ 7680 && v 0x4802 ≤ 4320 && (v 0x4803 == 8 || v 0x4803 == 10 || v 0x4803 == 12) && v 0x4804 ≤ v 0x4805
  | 13 =>
    let w := s.table (0x600 + v 0x4400)
    (!tab || (w.st == .valid && (edgesOf w.bytes).all fun e => e.fits (byteAt w.bytes 16).toNat (v 0x2804) (v 0x2803) (v 0x2802))) &&
    selUnique v 0 && selUnique v 1
  | k =>
    let b := 0x3010 + 16 * (k - 5)
    let t := tilesOf (v (b + 3)) * tilesOf (v (b + 4))
    v b == 0 || (v (b + 1) + v (b + 3) ≤ v 0x2801 && v (b + 2) + v (b + 4) ≤ v 0x2802 &&
      inPool (v (b + 6)) (1024 * t) && inPool (v (b + 7)) (8 * t))

/-- The first set, in ascending SET_ID, that an operation examines and that fails (R149). Without `tab`, clauses on VALID instances are set aside but for DTH_PATTERN's, whose built-in tile is VALID from the start (R306). -/
def State.failingSet (s : State) (tab every : Bool) (taken : List (Nat × Word)) : Option Nat :=
  ((List.range 13).map (· + 1)).find? fun k =>
    let (mem, reads) := setReads k
    (every || taken.any fun t => mem.contains t.1 || reads.contains t.1) && !s.setRule (tab || k == 4) (s.over taken) k

/-! ## Staged values -/

/-- Staged values of class F. -/
def State.stagedF (s : State) : List (Nat × Word) := s.par.staged.filter fun v => pClass? v.1 == some .f

/-- A list of shadows without those of class F. -/
def dropF (l : List (Nat × Word)) : List (Nat × Word) := l.filter fun v => pClass? v.1 != some PClass.f

/-- Staged values of class S owned by a function (R147). -/
def State.stagedS (s : State) (f : Func) : List (Nat × Word) :=
  s.par.staged.filter fun v => pClass? v.1 == some .s && pOwner v.1 == f

/-- The members of TIM_RASTER (R148). -/
def timRaster : List Nat := (setReads 1).1

/-- Whether values change a member of TIM_RASTER (R157). -/
def State.changesTiming (s : State) (vs : List (Nat × Word)) : Bool :=
  vs.any fun v => timRaster.contains v.1 && v.2.toNat != s.soon v.1

/-! ## Writing -/

/-- A function's record in Funcs. -/
def Funcs.get (f : Funcs) : Func → FuncState
  | .overdrive => f.overdrive | .pricking => f.pricking | .applique => f.applique | .dither => f.dither
  | .hostLink => f.hostLink | .sensing => f.sensing | .raster => f.raster

/-- The functions with one record replaced. -/
def Funcs.set (f : Funcs) (i : Func) (v : FuncState) : Funcs :=
  match i with
  | .overdrive => { f with overdrive := v } | .pricking => { f with pricking := v } | .applique => { f with applique := v }
  | .dither => { f with dither := v } | .hostLink => { f with hostLink := v } | .sensing => { f with sensing := v }
  | .raster => { f with raster := v }

/-- The state with one function changed. -/
def State.onFunc (s : State) (i : Func) (g : FuncState → FuncState) : State := { s with fn := s.fn.set i (g (s.fn.get i)) }

/-- The function whose PROFILE a direct write of a parameter makes CUSTOM (R132, R265, R315, R352). -/
def profileOwner (id : Nat) : Option Func :=
  if id / 1024 = 14 then some .overdrive
  else if id / 1024 = 15 then some .dither
  else if 0x3408 ≤ id && id ≤ 0x340E then some .sensing
  else if id = 0x2809 || id = 0x280A || id = 0x280B || id = 0x280C then some .raster
  else none

/-- The PROFILE of a parameter's function becomes CUSTOM (R132). -/
def State.customise (s : State) (id : Nat) : State :=
  match profileOwner id with
  | none => s
  | some f => s.onFunc f fun x => { x with profile := 0xFF }

/-- Whether THM.T1_ENTER to THM.T4_ENTER ascend strictly (R529). -/
def enterAscends (v : Nat → Nat) : Bool := v 0x1001 < v 0x1002 && v 0x1002 < v 0x1003 && v 0x1003 < v 0x1004

/-- Residency counters return to 0 (R521). -/
def State.resClear (s : State) : State :=
  { s with pwr := { s.pwr with dom := s.pwr.dom.map fun d => { d with resOn := 0, resRet := 0, resOff := 0 }, resHi := [] } }

/-- The record of an Eyelet with one of its parameters written (R448). -/
def eyePut (r : EyeRec) (k v : Nat) : EyeRec :=
  match k with
  | 0 => { r with x := v } | 1 => { r with y := v } | 2 => { r with w := v } | 3 => { r with h := v } | 4 => { r with tap := v }
  | 5 => { r with flags := Byte.of v } | 6 => { r with expected := Word.of v }
  | _ => r

/-- A field of an Eyelet's record as its parameter reads (R448). -/
def eyeField (r : EyeRec) (k : Nat) : Nat :=
  match k with
  | 0 => r.x | 1 => r.y | 2 => r.w | 3 => r.h | 4 => r.tap | 5 => r.flags.toNat | _ => r.expected.toNat

/-- TAT.ROLE is in force: a change clears the root's arming, and the root's TAT_UP is disabled (R413, R441). -/
def State.roleTaken (s : State) (change : Bool) : State :=
  (if change then { s with tat := { s.tat with armE := 0, armF := 0, armTiming := none } } else s).portsCheck

/-- A class L write and what it does besides (R143, R289, R449, R455, R456, R459, R521, R448): LOG.CLEAR, LOG.FIRST_FAULT_CLEAR and PWR.RES_CLEAR act and read 0. `source` is the mailbox, or 0xFF. -/
def State.writeL (s : State) (id v source : Nat) : State :=
  if id = 0x1405 then if v = 1 then s.logClear source else s
  else if id = 0x1404 then if v = 1 then s.firstFaultClear else s
  else if id = 0x0C07 then if v = 1 then s.resClear else s
  else if id / 128 = 0x4C00 / 128 then
    let i := id % 128 / 8
    s.eyeWrite i (eyePut (s.eyes.get i).record (id % 8) v)
  else
    let s1 := s.setParam id v
    if id = 0x1401 then s1.statTimeLimit
    else if id = 0x5001 then s1.portsCheck
    else if id = 0x5000 ∧ !s.ras.running then s1.roleTaken (v != s.param id)
    else if id = 0x2C06 ∧ v = 0 then { s1 with mem := { s1.mem with restoreAll := true } }
    else s1

/-- What a PARAM_SET of an ID and VALUE answers, in the order of R143; R529 adds to the ranges. -/
def State.setStatus (s : State) (id v : Nat) : Nat :=
  match pClass? id with
  | none => stBadParamId
  | some .k => stReadOnly
  | some .p => stApprovalRequired
  | some c =>
    if !pInRange id v || (0x1001 ≤ id && id ≤ 0x1004 && !enterAscends fun i => if i = id then v else s.param i) then stOutOfRange
    else if c = .s && !s.funcStopped (pOwner id) then stNeedsStop
    else stOk

/-- A checked PARAM_SET: class L acts at once, class F and S are staged (R143, R160). -/
def State.writeParam (s : State) (id v source : Nat) : State :=
  let s1 := s.customise id
  if pClass? id = some .l then s1.writeL id v source
  else { s1 with par := { s1.par with staged := aset s1.par.staged id (Word.of v), applied := false } }

/-! ## Applying values -/

/-- A region leaves a layer: it waits for EV_SURF_RETIRED (R364). -/
def State.retireOf (s : State) (vs : List (Nat × Word)) (n : Nat) : List (Nat × Bool × Nat) :=
  let b := 0x3010 + 16 * n
  let new (id : Nat) : Nat := (aget? vs id).elim (s.param id) (·.toNat)
  let off := s.param b = 1 && new b = 0
  (if off || new (b + 6) != s.param (b + 6) then [(n, false, s.param (b + 6))] else []) ++
  (if off || new (b + 7) != s.param (b + 7) then [(n, true, s.param (b + 7))] else [])

/-- EV_SURF_RETIRED for every waiting region (R364, R373). -/
def State.raiseRetired (s : State) : State :=
  let s1 := s.apq.retired.foldl (fun t r =>
    (t.count 774 1).event 0x3001 .info false r.1 (2 ^ 30 * b2n r.2.1 + (r.2.2 - 0x44000000) / 16)) s
  { s1 with apq := { s1.apq with retired := [] } }

/-- Values become active together: what depends on a change besides the value itself (R262, R305, R334, R362, R364, R370). -/
def State.applyValues (s : State) (vs : List (Nat × Word)) : State :=
  let diff (id : Nat) : Bool := (aget? vs id).any fun v => v.toNat != s.param id
  let ret := (List.range 4).flatMap (s.retireOf vs)
  let drop (n : Nat) : Bool := diff (0x3010 + 16 * n) || diff (0x3017 + 16 * n)
  let s1 := s.setParams vs
  let a := s1.apq
  let apq := { a with retired := a.retired ++ ret, hdrs := a.hdrs.filter fun e => !drop e.1,
                      cached := Vector.ofFn fun i => a.cached[i] && !drop i,
                      eligibleAt := if diff 0x3001 then none else a.eligibleAt,
                      clipRestart := a.clipRestart || diff 0x3001,
                      notValidRaised := a.notValidRaised && !diff 0x3001 }
  let prk := if diff 0x3409 then { s1.prk with sweepK := 0, sweepFresh := s.ras.running && s.ras.inBlank } else s1.prk
  let timing := timRaster.any diff
  ({ s1 with apq := apq, prk := prk, pipe := { s1.pipe with copyDue := s1.pipe.copyDue || (s1.ras.running && (diff 0x3802 || diff 0x3C01)) },
             ras := { s1.ras with timingApplied := s1.ras.timingApplied || timing } }).ladderChange

/-- A commit applies: its values become active, COMMIT_STATUS reports 3, and an overdrive set that is not VALID is reported (R153, R160, R307). -/
def State.applyCommit (s : State) (c : Commit) : State :=
  let s1 := s.applyValues c.values
  State.odTablesEvent { s1 with par := { s1.par with applied := true } }

/-- Every waiting commit for a frame applies; a commit of a continuity transition waits for its own (R153, R156, R157). -/
def State.applyDue (s : State) (frame : BitVec 32) : State :=
  let due := s.par.waiting.filter fun c => c.target == frame && !c.viaTransition
  let s1 := { s with par := { s.par with waiting := s.par.waiting.filter fun c => !(c.target == frame && !c.viaTransition) } }
  due.foldl State.applyCommit s1

/-! ## Deadlines (R152, R156, R161) -/

/-- Whether this instant is no later than the deadline of the frame being scanned: active row V_ACTIVE − 64 has not started, and the frame's blank has not begun. -/
def State.beforeDeadline (s : State) : Bool := !s.ras.inBlank && s.ras.rowsStarted + 64 ≤ s.param 0x2802

/-- Frames ahead of the one being scanned at which a change asked for now takes effect (R152, R161). -/
def State.ahead (s : State) : Nat := if s.beforeDeadline then 1 else 2

/-- Apply frame of an epoch armed on this device (R158). -/
def State.armedFrame (s : State) : Option Nat :=
  match s.tat.staged with
  | none => none
  | some e => if e.st = .armed then some e.f else none

/-- Whether this device is the follower of a pair (R267). -/
def State.isFollower (s : State) : Bool := s.param 0x2807 == 1 && s.boot.straps.pairRight

/-- Whether this device is a pair's follower with its frame starts from the master (R267, R435, R436). -/
def State.tethered (s : State) : Bool := s.isFollower && s.tat.lock != .islanded

/-- Whether hoop frames can be shown at all (R29). -/
def State.memLost (s : State) : Bool := s.domFailed dMem

/-! ## Accepting a commit -/

/-- What a commit of some values answers and does. -/
structure CommitResult where
  status : Nat
  target : Nat
  set : Nat
  state : State

/-- A continuity transition towards a mode begins, with hold frame `n0` (R256). -/
def State.beginTransitionAt (s : State) (n0 : BitVec 32) (mode : Mode) (cmd : Bool) (cause : Nat) (thermal : Bool) : State :=
  let t : Transition := { n0 := n0, mode := mode, phase := .waiting, cmd := cmd, cause := cause, thermal := thermal }
  { s with ras := { s.ras with transition := some t } }

/-- A continuity transition begins now: its hold frame is the next frame before the deadline, the one after it later (R256). -/
def State.beginTransition (s : State) (mode : Mode) (cmd : Bool) (cause : Nat) (thermal : Bool) : State :=
  s.beginTransitionAt (s.ras.frame + BitVec.ofNat 32 s.ahead) mode cmd cause thermal

/-- Staged F values are frozen into a commit that waits for its frame (R153, R154, R263). -/
def State.commitWait (s : State) (vs : List (Nat × Word)) (target : BitVec 32) (via : Bool) : State :=
  let p := s.par
  let par := { p with staged := dropF p.staged, waiting := p.waiting ++ [⟨target, vs, via⟩],
                      lastTarget := target, applied := false }
  let s1 := { s with par := par }
  if 0 < s.ras.ladderStep then s1.ladderChange else s1

/-- The hold frame of a transition that would start now, and whether it or its target is an armed epoch's apply frame (R258). -/
def State.transitionMeetsEpoch (s : State) : Bool :=
  let n0 := (s.ras.frame + BitVec.ofNat 32 s.ahead).toNat
  match s.armedFrame with
  | none => false
  | some f => f == n0 || f == n0 + 1

/-- COMMIT over every staged F value (R152 to R158, R267). A value that changes TIM_RASTER goes through a continuity transition; one whose TARGET_FRAME would be an armed epoch's apply frame has it one frame later. -/
def State.commit (s : State) : CommitResult :=
  let vs := s.stagedF
  match s.failingSet true false vs with
  | some k => ⟨stMismatch, 0, k, s⟩
  | none =>
    let next := s.ras.frame + 1
    let timing := s.changesTiming vs
    if timing && s.isFollower then ⟨stDenied, 0, 0, s⟩
    else if !s.framesRun then
      let s1 := { s with par := { s.par with staged := dropF s.par.staged, lastTarget := next } }
      ⟨stOk, next.toNat, 0, (s1.applyCommit ⟨next, vs, false⟩).raiseRetired⟩
    else if (timing || (s.isRoot && vs.any fun v => v.1 == 0x2808 && v.2.toNat != s.soon 0x2808)) && s.param 0x2800 = 2 then ⟨stDenied, 0, 0, s⟩
    else if timing && s.ras.transition.isSome then ⟨stBusy, 0, 0, s⟩
    else
      let status := if s.beforeDeadline then stOk else stDeferred
      let at_ := s.ras.frame + BitVec.ofNat 32 s.ahead
      if timing && !s.memLost then
        let met := s.armedFrame = some (at_ + 1).toNat
        let n0 := if met then at_ + 1 else at_
        ⟨if met then stDeferred else status, (n0 + 1).toNat, 0, (s.commitWait vs (n0 + 1) true).beginTransitionAt n0 s.ras.active false 0 false⟩
      else if s.armedFrame = some at_.toNat then ⟨stDeferred, (at_ + 1).toNat, 0, s.commitWait vs (at_ + 1) false⟩
      else ⟨status, at_.toNat, 0, s.commitWait vs at_ false⟩

end Sys2Proof.Machine
end

