-- ==== Sys2Proof/Machine/Pipeline.lean ====
section
/-! DEFINITION. The half-pipes' arithmetic: input expansion, the hoop's words, layers and their fetch, pricking, overdrive, dither and stress accumulation (R270, R271, R279, R293 to R322, R325 to R327, R341 to R343, R356 to R366). A row is a list of subpixels: red, green, blue of column 0, then column 1 and so on. -/

namespace Sys2Proof.Machine

/-! ## Rounding and expansion (R293, R294) -/

/-- Division rounded to nearest, ties toward positive (R293). -/
def rnd (x : Int) (d : Nat) : Int := (2 * x + d) / (2 * d : Nat)

/-- A component of `b` bits expanded to 14 bits by replication (R294). -/
def expand (b v : Nat) : Nat := (v * 2 ^ (14 - b)) ||| (v / 2 ^ (2 * b - 14))

/-- Saturation to 0 to 16,383. -/
def sat14 (i : Int) : Nat := (clampInt 0 16383 i).toNat

/-! ## The hoop (R270, R271) -/

/-- Bytes from one row of the hoop or the attained-state plane to the next (R270, R296). -/
def State.hoopStride (s : State) : Nat := 2048 * ((4 * s.param 0x2801 + 2047) / 2048)

/-- Base of a hoop frame. -/
def hoopBase (slot1 : Bool) : Nat := if slot1 then 0x08000000 else 0

/-- A pixel's hoop word from its components as received (R270). -/
def hoopWord (fmt r g b : Nat) : Nat :=
  if fmt = 2 then r / 2 * 2 ^ 21 + g / 2 * 2 ^ 10 + b / 4 else r * 2 ^ 20 + g * 2 ^ 10 + b

/-- The three 14-bit subpixels of a hoop word (R271, R294). -/
def hoopExpand (fmt w : Nat) : List Nat :=
  if fmt = 2 then [expand 11 (bits w 31 21), expand 11 (bits w 20 10), expand 10 (bits w 9 0)]
  else
    let b := formatBits fmt
    [expand b (bits w (19 + b) 20), expand b (bits w (9 + b) 10), expand b (bits w (b - 1) 0)]

/-- A hoop frame's descriptor. -/
def State.hoopFrame (s : State) (slot1 : Bool) : HoopFrame := if slot1 then s.mem.h1 else s.mem.h0

/-- The state with a hoop frame's descriptor changed. -/
def State.onHoop (s : State) (slot1 : Bool) (f : HoopFrame → HoopFrame) : State :=
  if slot1 then { s with mem := { s.mem with h1 := f s.mem.h1 } } else { s with mem := { s.mem with h0 := f s.mem.h0 } }

/-- Which hoop frame is marked (R272). -/
def State.marked (s : State) : Bool := s.mem.h1.role == .marked

/-- One row of a hoop frame as 14-bit subpixels. -/
def State.hoopRow (s : State) (slot1 : Bool) (y : Nat) : List Nat :=
  (List.range (s.param 0x2801)).flatMap fun x =>
    hoopExpand (s.hoopFrame slot1).format (leAt (s.ramBytes (hoopBase slot1 + y * s.hoopStride + 4 * x) 4) 0 4)

/-- A row of components as received is written to a hoop frame (R270). -/
def State.hoopWrite (s : State) (slot1 : Bool) (fmt y : Nat) (raw : List Nat) (x0 : Nat) : State :=
  s.ramWrite (hoopBase slot1 + y * s.hoopStride + 4 * x0)
    ((List.range (raw.length / 3)).flatMap fun i =>
      toLe 4 (hoopWord fmt (raw.getD (3 * i) 0) (raw.getD (3 * i + 1) 0) (raw.getD (3 * i + 2) 0)))

/-- Words of one row copied from a hoop frame into the other: the concealed form of a bad row (R27, R196). -/
def State.hoopCopy (s : State) (src dst : Bool) (y x0 n : Nat) : State :=
  s.ramWrite (hoopBase dst + y * s.hoopStride + 4 * x0) (s.ramBytes (hoopBase src + y * s.hoopStride + 4 * x0) (4 * n))

/-! ## Function states (R28, R132, R162, R314, R351) -/

/-- Whether a function is degraded (R287). -/
def State.isDegraded (s : State) (f : Func) : Bool := s.mem.degraded.contains f

/-- Stage 3 is neutral: stopped, in its reset frame, degraded, or without its map or its memory (R28, R85, R351). -/
def State.prkNeutral (s : State) : Bool :=
  s.fn.pricking.stopped || s.fn.pricking.inReset || s.isDegraded .pricking || s.memLost || !s.boot.compensated || !s.planesValid

/-- What stage 4 does in a frame (R314). -/
inductive OdState | run | pass | degraded | reseed | memLost
deriving DecidableEq, Repr

/-- The state of stage 4 (R314): without a VALID set it writes the target as a re-seed frame does. -/
def State.odState (s : State) : OdState :=
  if s.memLost then .memLost
  else if s.isDegraded .overdrive then .degraded
  else if s.fn.overdrive.inReset || s.mem.reseed || !s.odValid then .reseed
  else if s.fn.overdrive.stopped || s.param 0x3801 == 0 then .pass
  else .run

/-- Layers and clips are transparent (R28, R162). -/
def State.apqNeutral (s : State) : Bool := s.fn.applique.stopped || s.fn.applique.inReset || s.memLost

/-! ## Layers (R279, R356 to R366) -/

/-- A layer as it is drawn in this frame: its own values, or those of the clip that replaces it, whose addresses count from its instance (R367, R369). -/
structure LayerView where
  on : Bool
  x : Nat
  y : Nat
  w : Nat
  h : Nat
  fmt : Nat
  surface : Nat
  header : Nat
  alpha : Nat
  clip : Option Nat

/-- Layer `n` (R356, R369). -/
def State.layer (s : State) (n : Nat) : LayerView :=
  match s.apq.clip with
  | some c =>
    if s.param 0x3002 = n then
      let b := (s.table (0x700 + c.inst)).bytes
      let h := clipHead b
      let st := clipStep b c.step
      ⟨true, h.x, h.y, h.w, h.h, h.fmt, st.surface, st.header, st.alpha, some (clipBase c.inst)⟩
    else own
  | none => own
where
  /-- The layer's own values. -/
  own : LayerView :=
    let p (k : Nat) : Nat := s.param (0x3010 + 16 * n + k)
    ⟨p 0 == 1, p 1, p 2, p 3, p 4, p 5, p 6, p 7, p 8, none⟩

/-- Bytes a layer's fetch reads in GDDR7: from the surface pool, or for a clip from its instance on (R357, R367). -/
def State.layerBytes (s : State) (l : LayerView) (a n : Nat) : List Byte := s.ramBytes (l.clip.elim a (· + a)) n

/-- Bytes of the cap of R32 for one band (R279). -/
def State.bandBudget (s : State) : Nat := 128 * s.param 0x2801

/-- What the fetch of a band carries from tile to tile: the count so far and the budget. -/
structure BandFetch where
  used : Nat
  budget : Nat
  refused : Nat
  state : State

/-- Fetch one tile of a band (R279, R362, R366). -/
def BandFetch.tile (f : BandFetch) (n : Nat) (l : LayerView) (tx ty : Nat) : BandFetch :=
  let s := f.state
  let add (t : State) (px : Option (List Nat)) : State :=
    { t with apq := { t.apq with tiles := t.apq.tiles ++ [{ layer := n, tx := tx, ty := ty, pixels := px }] } }
  if 0 < f.refused then { f with refused := f.refused + 1, state := add s none }
  else
    let idx := ty * tilesOf l.w + tx
    let cached := l.clip.isNone && (s.apq.cached.toList.getD n false)
    let hit := cached && s.apq.hdrs.contains (n, idx)
    let h := tileHdr (leAt (s.layerBytes l (l.header + 8 * idx) 8) 0 8)
    let tiles := tilesOf l.w * tilesOf l.h
    let head := if hit then 0 else 8
    if f.budget < f.used + head + h.cost then
      { f with refused := 1, used := min f.budget (f.used + head), state := add s none }
    else
      let s1 := if cached && !hit then { s with apq := { s.apq with hdrs := s.apq.hdrs ++ [(n, idx)] } } else s
      let s2 := (s1.count 773 (b2n hit)).count 772 1
      let used := f.used + head + h.cost
      match tilePixels l.fmt tiles h (fun o k => s.layerBytes l (l.surface + o) k) with
      | .ok px => { f with used := used, state := add s2 (some px) }
      | .error c =>
        let s3 := s2.count (768 + n) 1
        let s4 :=
          if s.apq.faultRaised.toList.getD n true then s3
          else
            ({ s3 with apq := { s3.apq with faultRaised := s3.apq.faultRaised.setIfInBounds n true } }).event 0x3002 .warning true n
              (c * 2 ^ 24 + idx)
        { f with used := used, state := add s4 none }

/-- The tiles of one layer whose first row lies in the band at `y0`. -/
def BandFetch.layer (f : BandFetch) (n : Nat) (l : LayerView) (y0 : Nat) : BandFetch :=
  if !l.on then f
  else
    let tys := (List.range (tilesOf l.h)).filter fun ty => y0 ≤ l.y + 16 * ty && l.y + 16 * ty < y0 + 16
    tys.foldl (fun f ty => (List.range (tilesOf l.w)).foldl (fun f tx => f.tile n l tx ty) f) f

/-- The band that starts at raster row `y0` is fetched: every enabled layer's tiles whose first row lies in it, A0 first and left to right (R279). -/
def State.fetchBand (s : State) (y0 : Nat) : State :=
  let kept := { s with apq := { s.apq with tiles := s.apq.tiles.filter fun t => y0 ≤ (s.layer t.layer).y + 16 * t.ty + 15 } }
  if s.apqNeutral then kept
  else
    let carry := if s.mem.layerCarry then min s.mem.bandCarry s.bandBudget else 0
    let start : BandFetch := ⟨0, s.bandBudget + carry, 0, kept⟩
    let f := (List.range 4).foldl (fun f n => f.layer n (s.layer n) y0) start
    let s1 := { f.state with mem := { f.state.mem with bandCarry := f.budget - f.used } }
    if f.refused = 0 then s1
    else
      let s2 := s1.count 712 f.refused
      if s2.mem.capRaised then s2
      else ({ s2 with mem := { s2.mem with capRaised := true } }).event 0x2C05 .warning true 2 (y0 / 16)

/-- One component blended (R358). -/
def blendOne (pre : Bool) (sc alpha a g : Nat) : Nat :=
  sat14 (rnd (((if pre then sc * alpha else sc * a) + g * (255 - a) : Nat) : Int) 255)

/-- A layer pixel over the three subpixels beneath it (R358). -/
def blendPixel (fmt alpha w : Nat) (g : List Nat) : List Nat :=
  let a8 := if fmtWide fmt then chan fmt w 0 * 85 else chan fmt w 0
  let a := (rnd ((a8 * alpha : Nat) : Int) 255).toNat
  if a = 0 then g
  else
    let b := if fmtWide fmt then 10 else 8
    (List.range 3).map fun k => blendOne (2 ≤ fmt) (expand b (chan fmt w (k + 1))) alpha a (g.getD k 0)

/-- Stage 2 over one row (R356, R358). -/
def State.stage2 (s : State) (y : Nat) (row : List Nat) : List Nat :=
  if s.apqNeutral then row
  else
    (List.range 4).foldl (fun acc n =>
      let l := s.layer n
      if !l.on || y < l.y || l.y + l.h ≤ y then acc
      else
        (List.range (s.param 0x2801)).flatMap fun x =>
          let g := (acc.drop (3 * x)).take 3
          if x < l.x || l.x + l.w ≤ x then g
          else
            let lx := x - l.x
            let ly := y - l.y
            match s.apq.tiles.find? fun t => t.layer == n && t.tx == lx / 16 && t.ty == ly / 16 with
            | some { pixels := some px, .. } => blendPixel l.fmt l.alpha (px.getD (16 * (ly % 16) + lx % 16) 0) g
            | _ => g) row

/-! ## Pricking (R327) -/

/-- Stage 3 of one subpixel: input and the six fields OFFSET, GAIN, GREY48, GREY128, GREY208, AGEING (R327). -/
def prick (black : Bool) (t : Nat) (f : Nat → Int) : Nat :=
  if t = 0 && black then 0
  else
    let g : Int :=
      if t ≤ 3084 then 16 * f 2
      else if 13364 ≤ t then 16 * f 4
      else if t ≤ 8224 then 16 * f 2 + rnd (16 * (f 3 - f 2) * ((t : Int) - 3084)) 5140
      else 16 * f 3 + rnd (16 * (f 4 - f 3) * ((t : Int) - 8224)) 5140
    sat14 (rnd (((t : Int) + g) * (1024 + f 1) * (512 + f 5)) 524288 + 8 * f 0)

/-- Stage 3 over one row (R327). -/
def State.stage3 (s : State) (y : Nat) (row : List Nat) : List Nat :=
  if s.prkNeutral then row
  else
    let en := s.param 0x3400
    let black := s.param 0x3403 == 1
    (List.range (s.param 0x2801)).flatMap fun x =>
      let r := s.prkRec x y
      (List.range 3).map fun c => prick black (row.getD (3 * x + c) 0) fun p => if bit en p then recInt r p c else 0

/-! ## Panel-zone temperature (R308 to R311) -/

/-- Zone columns and rows of OD.ZONE_GRID. -/
def State.zoneGrid (s : State) : Nat × Nat := (bits (s.param 0x3806) 15 8, bits (s.param 0x3806) 7 0)

/-- THM.PANEL_DEFAULT_TEMP in 1/16 °C (R309). -/
def State.panelDefault (s : State) : Int := s.paramInt 0x100B

/-- A zone is missing: not reported since PANEL_ON, or too long ago (R309). -/
def State.zoneMissing (s : State) (z : Zone) : Bool :=
  match z.at_ with
  | none => true
  | some t => ms (s.param 0x3807) < s.now - t

/-- The snapshot of all zones, with EV_OD_ZONE for each that became missing or returned (R309, R322). -/
def State.zoneSnapshot (s : State) : State :=
  let (c, r) := s.zoneGrid
  let n := c * r
  let z (i : Nat) : Zone := s.pipe.zones.toList.getD i { temp := 0, at_ := none, missing := true }
  let temp (i : Nat) : Int := if n ≤ i then 0 else if s.zoneMissing (z i) then s.panelDefault else (z i).temp
  let age (i : Nat) : Nat := if n ≤ i then 0 else (z i).at_.elim 65535 fun t => sat 65535 ((s.now - t) / ms 1)
  let valid := ((List.range n).filter fun i => !s.zoneMissing (z i)).length
  let snap : ZoneSnap :=
    { taken := true, cols := c, rows := r, temps := Vector.ofFn fun i => temp i, ages := Vector.ofFn fun i => age i, validCount := valid }
  (List.range 24).foldl (fun t i =>
    let m := s.zoneMissing (z i)
    if i < n && m != (z i).missing then
      let t1 := { t with pipe := { t.pipe with zones := t.pipe.zones.setIfInBounds i { z i with missing := m } } }
      t1.event 0x3801 (if m then .warning else .info) true 2 ((if m then 1 else 2) * 2 ^ 24 + i)
    else t) { s with pipe := { s.pipe with snap := snap } }

/-- Temperature at a pixel from a snapshot, in 1/16 °C (R310). -/
def ZoneSnap.tempAt (z : ZoneSnap) (w h x y : Nat) : Int :=
  let axis (p n size : Nat) : Nat × Nat :=
    let f := (clampInt 0 ((n - 1) * (2 * size) : Nat) (((2 * p + 1) * n : Nat) - (size : Int))).toNat
    (f / (2 * size), f % (2 * size))
  let (i, rx) := axis x z.cols w
  let (j, ry) := axis y z.rows h
  let t (a b : Nat) : Int := z.temps.toList.getD (min (z.rows - 1) b * z.cols + min (z.cols - 1) a) 0
  rnd (t i j * ((2 * w - rx) * (2 * h - ry) : Nat) + t (i + 1) j * (rx * (2 * h - ry) : Nat) +
    t i (j + 1) * ((2 * w - rx) * ry : Nat) + t (i + 1) (j + 1) * (rx * ry : Nat)) (4 * w * h)

/-- Temperature point `i` (R311). -/
def State.tempPoint (s : State) (i : Nat) : Int := s.paramInt (0x3808 + i)

/-- Bank and weight of a temperature (R311). -/
def State.bankOf (s : State) (tp : Int) : Nat × Nat :=
  let b := if s.tempPoint 2 ≤ tp then 2 else if s.tempPoint 1 ≤ tp then 1 else 0
  let lo := s.tempPoint b
  let span := (s.tempPoint (b + 1) - lo).toNat
  (b, (clampInt 0 256 (rnd (256 * (tp - lo)) span)).toNat)

/-! ## Overdrive (R296 to R304) -/

/-- Elapsed-time node `i` of the set in SRAM0 (R299, R304, R305). -/
def State.binTime (s : State) (i : Nat) : Nat := le4 (s.pipe.sramOd.headD []) (16 + 4 * i)

/-- Node index and weight of an elapsed time in µs (R299). -/
def State.timeNode (s : State) (e : Nat) : Nat × Nat :=
  if e ≤ s.binTime 0 then (0, 0)
  else if s.binTime 7 ≤ e then (6, 1024)
  else
    let k := ((List.range 7).filter fun i => s.binTime i ≤ e).length - 1
    (k, 1024 * (e - s.binTime k) / (s.binTime (k + 1) - s.binTime k))

/-- Node N[c][k][j][i] of a table; drive nodes are signed (R303). -/
def odNode (drive : Bool) (b : List Byte) (c k j i : Nat) : Int :=
  let v := le2 b (48 + 2 * (((c * 8 + k) * 17 + j) * 17 + i))
  if drive then signed 16 v else (v : Int)

/-- Trilinear interpolation of R300. -/
def tri (drive : Bool) (b : List Byte) (c k w a x : Nat) : Int :=
  let i := a / 1024
  let fa := a % 1024
  let j := x / 1024
  let fx := x % 1024
  let term (ia jx kc : Nat) : Int :=
    odNode drive b c (k + kc) (j + jx) (i + ia) * ((if ia = 1 then fa else 1024 - fa) * (if jx = 1 then fx else 1024 - fx) *
      (if kc = 1 then w else 1024 - w) : Nat)
  rnd (term 0 0 0 + term 1 0 0 + term 0 1 0 + term 1 1 0 + term 0 0 1 + term 1 0 1 + term 0 1 1 + term 1 1 1) (2 ^ 30)

/-- blend of R301. -/
def odBlend (u : Nat) (p q : Int) : Int := rnd (p * (256 - u : Nat) + q * u) 256

/-- What stage 4 gives for one subpixel: the drive, the new attained state, and −1, 1 or 0 where the clip lowered, raised or left it. -/
structure OdOut where
  d : Nat
  a : Nat
  clip : Int
deriving DecidableEq, Repr

/-- The node bytes of the banks a pixel uses: drive b, drive b + 1, attained b, attained b + 1. -/
structure OdBanks where
  d0 : List Byte
  d1 : List Byte
  a0 : List Byte
  a1 : List Byte

/-- The banks of the set in SRAM0 (R305, R311). -/
def State.odBanks (s : State) (b : Nat) : OdBanks :=
  let t (i : Nat) : List Byte := s.pipe.sramOd.getD i []
  ⟨t b, t (b + 1), t (4 + b), t (5 + b)⟩

/-- Attained state predicted for a drive (R301). -/
def OdBanks.attained (n : OdBanks) (u c k w a d : Nat) : Nat := sat14 (odBlend u (tri false n.a0 c k w a d) (tri false n.a1 c k w a d))

/-- R301 while overdrive runs: target `t`, attained `a`. -/
def OdBanks.run (n : OdBanks) (u c k w gain lo hi tol a t : Nat) : OdOut :=
  if ((a : Int) - t).natAbs ≤ tol then ⟨t, t, 0⟩
  else
    let dt := odBlend u (tri true n.d0 c k w a t) (tri true n.d1 c k w a t)
    let raw := (t : Int) + rnd ((gain : Int) * (dt - t)) 256
    let d := (clampInt lo hi raw).toNat
    ⟨d, n.attained u c k w a d, if raw < lo then 1 else if (hi : Int) < raw then -1 else 0⟩

/-- Address of a pixel's attained-state word (R296). -/
def State.attAddr (s : State) (x y : Nat) : Nat := 0x10000000 + y * s.hoopStride + 4 * x

/-- The attained word of three 14-bit values (R296). -/
def attWord (r g b : Nat) : Nat :=
  let q (m d v : Nat) : Nat := (clampInt 0 m (rnd (v : Int) d)).toNat
  q 2047 8 r * 2 ^ 21 + q 2047 8 g * 2 ^ 10 + q 1023 16 b

/-- The three 14-bit values read back from an attained word (R296). -/
def attExpand (w : Nat) : List Nat := [expand 11 (bits w 31 21), expand 11 (bits w 20 10), expand 10 (bits w 9 0)]

/-- Stage 4 over one row at its elapsed time: an output per subpixel (R301, R314). -/
def State.stage4 (s : State) (y e : Nat) (row : List Nat) : List OdOut :=
  match s.odState with
  | .memLost => row.map fun t => ⟨t, 0, 0⟩
  | .degraded => row.map fun t => ⟨t, 0, 0⟩
  | .reseed => row.map fun t => ⟨t, t, 0⟩
  | st =>
    let (k, w) := s.timeNode e
    let clip := s.param 0x3804
    (List.range (s.param 0x2801)).flatMap fun x =>
      let (b, u) := s.bankOf (s.pipe.snap.tempAt (s.param 0x2801) (s.param 0x2802) x y)
      let n := s.odBanks b
      let att := attExpand (leAt (s.ramBytes (s.attAddr x y) 4) 0 4)
      (List.range 3).map fun c =>
        let t := row.getD (3 * x + c) 0
        let a := att.getD c 0
        if st == .run then n.run u c k w (s.param 0x3803) (bits clip 13 0) (bits clip 29 16) (s.param 0x3805) a t
        else ⟨t, n.attained u c k w a t, 0⟩

/-- The attained states of a row are written, where the state of stage 4 writes them (R296, R314). -/
def State.attWrite (s : State) (y : Nat) (o : List OdOut) : State :=
  if s.odState == .memLost || s.odState == .degraded then s
  else
    let a (i : Nat) : Nat := (o.getD i ⟨0, 0, 0⟩).a
    s.ramWrite (s.attAddr 0 y) ((List.range (o.length / 3)).flatMap fun x => toLe 4 (attWord (a (3 * x)) (a (3 * x + 1)) (a (3 * x + 2))))

/-! ## Dither (R317 to R320) -/

/-- The ordered matrix of R319. -/
def orderedMatrix : List Nat := [0, 8, 2, 10, 12, 4, 14, 6, 3, 11, 1, 9, 15, 7, 13, 5]

/-- The mode of stage 5: rounding while dither is stopped or in its reset frame, and in the first frame of a degraded or neutral pipeline (R162, R317). -/
def State.ditherMode (s : State) : Nat := if s.fn.dither.stopped || s.fn.dither.inReset || s.pipe.rounding then 2 else s.param 0x3C00

/-- Stage 5 of one subpixel (R317, R319); `q` is the frame's phase. -/
def ditherOne (mode depth q : Nat) (tile : List Byte) (v x y c : Nat) : Nat :=
  let sh := 14 - depth
  let top := 2 ^ depth - 1
  match mode with
  | 0 =>
    let th := le2 tile (16 + 2 * (4096 * c + 64 * ((y + 47 * q) % 64) + (x + 29 * q) % 64)) % 4096
    min top ((v + th / 2 ^ (12 - sh)) / 2 ^ sh)
  | 1 =>
    let dx := if q % 4 = 1 || q % 4 = 2 then 2 else 0
    let dy := if q % 4 = 1 || q % 4 = 3 then 2 else 0
    let b := orderedMatrix.getD (4 * ((y + dy) % 4) + (x + c + dx) % 4) 0
    min top ((v + b * 2 ^ sh / 16) / 2 ^ sh)
  | _ => min top ((v + 2 ^ (sh - 1)) / 2 ^ sh)

/-- Stage 5 over one row. -/
def State.stage5 (s : State) (y : Nat) (row : List Nat) : List Nat :=
  let tile := s.pipe.sramTile
  (List.range row.length).map fun i =>
    ditherOne s.ditherMode (s.param 0x4803) s.pipe.phaseUsed.toNat tile (row.getD i 0) (i / 3) y (i % 3)

/-! ## Stress accumulation (R341 to R343) -/

/-- The stress a counter stands for (R341). -/
def stressOf (v : Nat) : Nat := if v / 2048 = 0 then v else (2048 + v % 2048) * 2 ^ (v / 2048 - 1)

/-- The largest counter whose stress is at most `n` (R341). -/
def stressCode (n : Nat) : Nat :=
  if n < 2048 then n
  else
    let e := n.log2 - 11
    if 31 ≤ e then 0xFFFF else (e + 1) * 2048 + (n / 2 ^ e - 2048)

/-- Address of a subpixel's stress counter (R341). -/
def State.stressAddr (s : State) (x y c : Nat) : Nat :=
  0x38000000 + y * (256 * ((6 * s.param 0x2801 + 255) / 256)) + 6 * x + 2 * c

/-- The increment of R342 as a fraction of units: rate at drive `v` and temperature `tp` over `us` microseconds. -/
def stressStep (curve : List Byte) (c v us : Nat) (tp : Int) : Nat × Nat :=
  let node (n : Nat) : Int := signed 16 (le2 curve (16 + 2 * n))
  let t := clampInt (node 0) (node 7) tp
  let n := min 6 ((List.range 8).filter (fun i => decide (node i ≤ t))).length.pred
  let span := (node (n + 1) - node n).toNat
  let ft := (t - node n).toNat
  let m := v / 512
  let fv := v % 512
  let r (i j : Nat) : Nat := le2 curve (48 + 2 * ((8 * c + n + i) * 33 + m + j))
  let rate := (r 0 0 * (512 - fv) + r 0 1 * fv) * (span - ft) + (r 1 0 * (512 - fv) + r 1 1 * fv) * ft
  (rate * us, 256 * 512 * span * 1000)

/-- A counter after an increment of `num / den` units: one of the two neighbouring values, the free bit choosing between them (R342). -/
def stressAdd (old num den : Nat) (up : Bool) : Nat :=
  let total := stressOf old * den + num
  let lo := stressCode (total / den)
  if 0xFFFF ≤ lo then 0xFFFF
  else if stressOf lo * den = total then lo
  else if up then min 0xFFFF (lo + 1) else lo

/-- Whether stress can be accumulated: an OLED panel, a VALID curve, the stress plane in place and no snapshot copy (R328, R342, R346, R350, R351). -/
def State.stressReady (s : State) : Bool :=
  s.param 0x4800 == 1 && s.tableValid 0x500 && s.prk.stress != .off && s.prk.snap != .copying && !s.memLost

/-- Whether the stress state is running: PRK.STRESS_EN besides (R355). -/
def State.stressRuns (s : State) : Bool := s.param 0x3410 == 1 && s.stressReady

/-- One row accumulates: level is the stage 3 output (R342). -/
def State.accumulate (s : State) (y : Nat) (levels : List Nat) : State :=
  let entry := aget s.prk.accTime y s.prk.accFrom
  let now := usCount s.now
  let dt := min ((now + 2 ^ 32 - entry) % 2 ^ 32) (1000 * s.param 0x3411)
  let curve := (s.table 0x500).bytes
  let w := s.param 0x2801
  let old := s.ramBytes (s.stressAddr 0 y 0) (2 * levels.length)
  let new := (List.range levels.length).flatMap fun i =>
    let tp := s.pipe.snap.tempAt w (s.param 0x2802) (i / 3) y
    let (num, den) := stressStep curve (i % 3) (levels.getD i 0) dt tp
    toLe 2 (stressAdd (le2 old (2 * i)) num den ((Config.freeValue (s.free + i)).getLsbD 0))
  let s1 := s.ramWrite (s.stressAddr 0 y 0) new
  { s1 with free := s.free + levels.length, prk := { s1.prk with accTime := aset s1.prk.accTime y now, dirty := true } }

end Sys2Proof.Machine
end

