-- ==== Sys2Proof/Machine/Memory.lean ====
section
/-! DEFINITION. Automatic degrade and restore, SRAM residence, and the clients' fetching (R277, R280 to R283, R287 to R291). -/

namespace Sys2Proof.Machine

/-! ## Degrade and restore (R287 to R289) -/

/-- The functions in the order they are degraded (R287). -/
def degradeOrder : List Func := [.overdrive, .sensing, .pricking]

/-- Whether degrade passes over a function: stopped, neutral by dependency or already degraded (R287). -/
def State.degradeSkips (s : State) (f : Func) : Bool :=
  s.isDegraded f || s.funcStopped f || s.memLost ||
  (match f with
    | .overdrive => !s.odValid
    | .pricking => !s.planesValid || !s.boot.compensated
    | .sensing => s.domFailed dBobl || s.domFailed dBobr
    | _ => false)

/-- The next step of R287 at the frame start that ends the abort blank. -/
def State.degradeStep (s : State) : State :=
  match degradeOrder.find? fun f => !s.degradeSkips f with
  | none => s
  | some f =>
    let s1 := { s with mem := { s.mem with degraded := s.mem.degraded ++ [f] } }
    s1.event 0x2C02 .warning true 2 (f.code * 256 + s1.mem.degraded.length)

/-- One function is restored; overdrive comes back through a re-seed frame (R288). -/
def State.restore (s : State) (f : Func) : State :=
  let s1 := { s with mem := { s.mem with degraded := s.mem.degraded.filter (· != f), cleanFrames := 0,
                                         reseed := s.mem.reseed || f == Func.overdrive } }
  s1.event 0x2C03 .info true 2 (f.code * 256 + s1.mem.degraded.length)

/-- What the memory controller does at a frame start (R287 to R290, R292): the re-seed frame ends, MEM.LAYER_CARRY is taken, and a due step, restore or restore of all is taken. -/
def State.memFrame (s : State) : State :=
  let s0 := { s with mem := { s.mem with reseed := false, capRaised := false, bandCarry := 0, layerCarry := s.param 0x2C09 == 1 } }
  let s1 :=
    if s0.mem.restoreAll then
      let t := s0.mem.degraded.reverse.foldl State.restore s0
      { t with mem := { t.mem with restoreAll := false, degradeDue := false } }
    else if s0.mem.degradeDue then
      let t := { s0 with mem := { s0.mem with degradeDue := false } }
      if t.param 0x2C06 = 1 then t.degradeStep else t
    else
      match s0.mem.degraded.reverse with
      | [] => s0
      | f :: _ => if s0.param 0x2C08 ≤ s0.mem.cleanFrames then s0.restore f else s0
  s1.count 719 (b2n (!s1.mem.degraded.isEmpty))

/-- A frame ends without an abort (R287, R288). -/
def State.memFrameEnd (s : State) : State :=
  { s with mem := { s.mem with consecAborts := 0, cleanFrames := sat 65535 (s.mem.cleanFrames + 1) } }

/-! ## The clients' fetching (R277) -/

/-- The clients in the order of their codes. -/
def memClients : List MemClient := [.hoopScan, .attainedRead, .pricking, .layers, .conceal, .stress, .hoopWrite, .attainedWrite]

/-- One half's fetching of a client. -/
def Mem.fetch (m : Mem) (i : Side) (c : MemClient) : Fetch :=
  (match i with | .left => m.fetchL | .right => m.fetchR).toList.getD (c.code - 1) Fetch.empty

/-- One half's fetching of a client replaced. -/
def Mem.setFetch (m : Mem) (i : Side) (c : MemClient) (f : Fetch) : Mem :=
  match i with
  | .left => { m with fetchL := m.fetchL.setIfInBounds (c.code - 1) f }
  | .right => { m with fetchR := m.fetchR.setIfInBounds (c.code - 1) f }

/-- The fetching of every client changed in both halves. -/
def Mem.mapFetch (m : Mem) (g : MemClient → Fetch → Fetch) : Mem :=
  let f (i : Side) : Vector Fetch 8 := Vector.ofFn fun (k : Fin 8) =>
    let c := memClients.getD k .hoopScan
    g c (m.fetch i c)
  { m with fetchL := f .left, fetchR := f .right }

/-- What is left of a half-row being concealed. -/
def Mem.rest (m : Mem) : Side → Nat
  | .left => m.restL | .right => m.restR

/-- The mark moves: what the hoop's readers fetched ahead is not the next frame's content any more (R277). -/
def State.fetchMoved (s : State) : State :=
  let turn (c : MemClient) (f : Fetch) : Fetch := if c == .hoopScan || c == .conceal then { f with ahead := 0, part := 0 } else f
  { s with mem := s.mem.mapFetch turn }

/-- A row of one half joins a write-back buffer (R277). -/
def State.writeBack (s : State) (i : Side) (c : MemClient) : State :=
  let f := s.mem.fetch i c
  { s with mem := s.mem.setFetch i c { f with held := f.held + 1 } }

/-- A half-row that is shown from the hoop in a live frame, or that replaces a resident block: what the lookahead does not hold of it is fetched as an urgent request (R273, R283). -/
def State.askRest (s : State) (i : Side) (lookahead : Bool) : State :=
  let n := 2 * s.param 0x2801 - if lookahead then 2048 else 0
  match i with
  | .left => { s with mem := { s.mem with restL := n } }
  | .right => { s with mem := { s.mem with restR := n } }

/-! ## SRAM residence (R280 to R283) -/

/-- The bytes of the marked frame in raster order (R281). -/
def State.markedBytes (s : State) : List Byte :=
  (List.range (s.param 0x2802)).flatMap fun y => s.ramBytes (hoopBase s.marked + y * s.hoopStride) (4 * s.param 0x2801)

/-- Whether the decompressor keeps pace with the scan (R280); from T1 on it runs at half rate (R527). -/
def State.residencePace (s : State) : Bool :=
  12 * s.param 0x2801 * s.param 0x2802 ≤ (if 1 ≤ s.thm.step then 20 else 40) * s.param 0x2802 * s.ras.rowTime + 3 * 524288

/-- Whether an attempt may be made (R280). -/
def State.residenceMay (s : State) : Bool :=
  s.param 0x2C04 == 1 && s.ras.active == .hold && !s.domFailed dCodec &&
  ((List.range 6).all fun i => (s.pwr.dom.toList.getD (6 + i) Domain.initial).st != .failed) &&
  s.residencePace

/-- An attempt starts, at HOLD entry or with a new marked frame in HOLD (R280). -/
def State.residenceTry (s : State) : State :=
  if s.residenceMay then
    State.memAsk { s with mem := { s.mem with residence := .compressing, resLevel := s.param 0x2C05 } } true false (4 * s.param 0x2801 * s.param 0x2802)
  else { s with mem := { s.mem with residence := .none } }

/-- EV_MEM_RESIDENCE (R291). -/
def State.residenceEvent (s : State) (what : Nat) : State :=
  s.event 0x2C04 (if what = 4 then .warning else .info) true 2 (what * 2 ^ 24 + s.mem.resBytes / 1024)

/-- The end of the compression: the size test of R281, the blocks in the partition, and readiness for the next frame start (R282). -/
def execResidenceCompressDone (s : State) : Out :=
  if s.mem.residence ≠ .compressing then .next s
  else
    let cs := chunks 65536 (s.param 0x2801 * s.param 0x2802 / 16384 + 1) s.markedBytes
    let blocks := (List.range cs.length).map fun i => container s.mem.resLevel (i + 1 == cs.length) false i (cs.getD i [])
    let expands := blocks.any (·.2)
    let total : Nat := blocks.foldl (fun a b => a + b.1.length) 0
    let s0 := (s.count 449 (b2n expands)).cmpAccount s.markedBytes.length total
    let s1 := { s0 with mem := { s.mem with resBytes := min total 23986176 } }
    if expands then done (({ s1 with mem := { s1.mem with residence := .refused } }.count 718 1).residenceEvent 2)
    else if 23986176 < total then done (({ s1 with mem := { s1.mem with residence := .refused } }.count 718 1).residenceEvent 3)
    else done { s1 with mem := { s1.mem with residence := .ready, resBlocks := blocks.map (·.1) } }

/-- A resident block that fails its CRC-32C during scan-out: its rows come from the GDDR7 copy, residence is over at the next frame start, and the failure counts (R283, R291). -/
def State.residentFail (s : State) : State :=
  if s.mem.residence == .resident && s.ras.kind == .hoop then
    let s1 : State := { s with mem := { s.mem with sleep := .active, resFails := s.mem.resFails + 1, resOver := true } }
    (((s1.askRest .left false).askRest .right false).count 718 1).residenceEvent 4
  else s

/-- Residence as a frame starts (R280 to R283): `entered` at a HOLD entry, `moved` when the marked frame changed, `timing` when a TIM_RASTER value applied. An attempt is made at a HOLD entry, with a new marked frame in HOLD, and once more after a block failed its check. -/
def State.residenceFrame (s : State) (entered moved timing : Bool) : State :=
  let inHold := s.ras.active == .hold
  let shown := s.mem.residence == .resident || s.mem.residence == .ready
  let gone := !inHold || moved || entered
  let onHoopRes (v : Bool) (t : State) : State := (t.onHoop t.marked fun h => { h with resident := v })
  let s1 :=
    if (s.mem.residence == .compressing && gone) || (shown && (gone || timing || s.mem.resOver || !s.residencePace)) then
      let was := s.mem.residence
      let t := { s with mem := { s.mem with residence := .none, resBlocks := [], h0 := { s.mem.h0 with resident := false },
                                            h1 := { s.mem.h1 with resident := false } } }
      if was == .resident then t.residenceEvent 5 else t.count 718 1
    else if s.mem.residence == .ready then (onHoopRes true { s with mem := { s.mem with residence := .resident } }).residenceEvent 1
    else s
  let fails := if entered then 0 else s1.mem.resFails
  let s3 : State := { s1 with mem := { s1.mem with resFails := fails, resOver := false } }
  let s2 := if inHold && (entered || moved || s.mem.resOver) then
      if fails < 2 then s3.residenceTry else { s3 with mem := { s3.mem with residence := .refused } }
    else if !inHold && s3.mem.residence == .refused then { s3 with mem := { s3.mem with residence := .none } } else s3
  s2.count 717 (b2n (s2.mem.residence == .resident))

end Sys2Proof.Machine
end

