-- ==== Sys2Proof/Machine/Bobbin.lean ====
section
/-! DEFINITION. The Bobbin lanes: which driver serves what, block sets, packets, the rows and commands sent to the driver ICs (R375 to R384, R388, R396). -/

namespace Sys2Proof.Machine

/-! ## Which driver serves what (R375, R376) -/

/-- Driver ICs per half. -/
def State.drivers (s : State) : Nat := s.param 0x4001

/-- Drivers on a sense-return lane, by reply position (R375). -/
def State.laneDrivers (s : State) (lane : Nat) : List Nat :=
  let h := lane / 3
  ((List.range 4).map fun p => 4 * (lane % 3) + p).filterMap fun d => if d < s.drivers then some (12 * h + d) else none

/-- First raster column of driver `g` (R375). -/
def State.driverCol (s : State) (g : Nat) : Nat := g / 12 * (s.param 0x2801 / 2) + s.param 0x4003 * (g % 12)

/-- Raster column of payload pixel `i` of driver `g` (R376). -/
def State.driverPixel (s : State) (g i : Nat) : Nat :=
  let c := s.param 0x4003
  if bit (s.param 0x4004) g then s.driverCol g + c - 1 - i else s.driverCol g + i

/-- Every driver of the device. -/
def State.allDrivers (s : State) : List Nat := (List.range 6).flatMap s.laneDrivers

/-! ## Block sets (R377 to R379) -/

/-- A control block set: the same eight bytes on each of L lanes (R378). -/
def controlSet (l : Nat) (bytes : List Byte) : BobSet := { control := true, lanes := List.replicate l bytes, reps := 1 }

/-- The data block sets of a driver's byte stream, `n` of them: stream byte j of a set goes to lane j mod L as byte j / L (R378). Past its end the stream is padded with 0x00 (R380). -/
def dataSets (l : Nat) (bs : List Byte) (n : Nat) : List BobSet :=
  (List.range n).map fun k =>
    { control := false, lanes := (List.range l).map fun i => (List.range 8).map fun m => byteAt bs (8 * l * k + l * m + i), reps := 1 }

/-- A control block with its CRC-8 (R379, R380). -/
def withCrc8 (b : List Byte) : List Byte := b ++ [Byte.of (crc8 b)]

/-- LATCH of a row (R379). -/
def latchBlock (row : Nat) (sense : Bool) : List Byte := withCrc8 ([0xB4] ++ toLe 2 row ++ [Byte.of (b2n sense), 0, 0, 0])

/-- TRAIN on one lane of driver `g` (R379). -/
def trainBlock (phase lane g rate seq : Nat) : List Byte :=
  [0x2D, Byte.of phase, Byte.of lane, Byte.of g, Byte.of rate] ++ toLe 2 seq ++ [0]

/-! ## Packets (R380 to R383) -/

/-- A packet before its framing: PTYPE, the three type fields of START, and the payload before its pad and CRC. -/
structure BobPacket where
  ptype : Nat
  fields : List Byte
  payload : List Byte
deriving DecidableEq, Repr

/-- A packet's payload with 0x00 pad to a multiple of 8 bytes, the last four of them the CRC-32C (R380, R381). -/
def BobPacket.body (p : BobPacket) : List Byte :=
  let n := (p.payload.length + 4 + 7) / 8 * 8
  let b := p.payload ++ zeros (n - 4 - p.payload.length)
  b ++ toLe 4 (crc32c b)

/-- The START block of a packet (R380). -/
def BobPacket.start (p : BobPacket) : List Byte := withCrc8 ([0x78, Byte.of p.ptype] ++ toLe 2 (p.body.length / 8) ++ p.fields)

/-- A packet on L lanes: the START control block set, then the data block sets of its payload (R380). -/
def BobPacket.sets (p : BobPacket) (l : Nat) : List BobSet :=
  controlSet l p.start :: dataSets l p.body ((p.body.length + 8 * l - 1) / (8 * l))

/-- Values of `b` bits each as a bit stream, the first lowest (R190, R381). -/
def packBits (b : Nat) (vs : List Nat) : List Byte :=
  toLe ((b * vs.length + 7) / 8) (vs.foldr (fun v acc => v % 2 ^ b + 2 ^ b * acc) 0)

/-- ROW_DATA over the pixels' components (R380, R381). -/
def rowPacket (depth row : Nat) (pol fill : Bool) (comps : List Nat) : BobPacket :=
  { ptype := 1, fields := toLe 2 row ++ [Byte.of (128 * b2n pol + (depth - 8) / 2 * 32 + 16 * b2n fill)], payload := packBits depth comps }

/-- CFG_WR of 16-bit values from an address upward (R380). -/
def cfgWrite (addr : Nat) (vs : List Nat) : BobPacket :=
  { ptype := 2, fields := toLe 2 addr ++ [Byte.of vs.length], payload := vs.flatMap (toLe 2) }

/-- CFG_RD of `n` values (R380). -/
def cfgRead (addr n : Nat) : BobPacket := { ptype := 3, fields := toLe 2 addr ++ [Byte.of n], payload := zeros 4 }

/-- SENSE_CMD (R380, R383). -/
def senseCmd (op arg slot : Nat) : BobPacket := { ptype := 4, fields := [Byte.of op, Byte.of arg, Byte.of slot], payload := zeros 4 }

/-! ## Bits on a lane (R377) -/

/-- The self-synchronising scrambler x^58 + x^39 + 1 over `n` payload bits, the first lowest: the bits sent, and the register of the last 58 of them, the latest lowest. -/
def selfScramble : Nat → Nat → Nat → Nat × Nat
  | 0, x, _ => (0, x)
  | n + 1, x, w =>
    let k := (w + x / 2 ^ 38 + x / 2 ^ 57) % 2
    let (rest, y) := selfScramble n ((2 * x + k) % 2 ^ 58) (w / 2)
    (k + 2 * rest, y)

/-- What a driver IC does: the payload bits, from those received. -/
def selfDescramble : Nat → Nat → Nat → Nat
  | 0, _, _ => 0
  | n + 1, x, w => (w + x / 2 ^ 38 + x / 2 ^ 57) % 2 + 2 * selfDescramble n ((2 * x + w % 2) % 2 ^ 58) (w / 2)

/-- The payloads of one lane under a block set, one per block time; SEQ of a TRAIN block advances by 1 (R378, R379). -/
def BobSet.payloads (b : BobSet) (lane : Nat) : List (List Byte) :=
  let p := b.lanes.getD lane []
  (List.range b.reps).map fun k => if b.control && byteAt p 0 == 0x2D then p.take 5 ++ toLe 2 (le2 p 5 + k) ++ p.drop 7 else p

/-- The 66-bit blocks of one lane, the first bit sent lowest: sync header 01 for data and 10 for control, then the scrambled payload (R377). -/
def laneBlocks (x : Nat) : List (Bool × List Byte) → List (BitVec 66)
  | [] => []
  | (control, p) :: rest =>
    let (w, y) := selfScramble 64 x (leAt p 0 8)
    BitVec.ofNat 66 (4 * w + if control then 1 else 2) :: laneBlocks y rest

/-- What went out last on a lane of driver `g`, bit for bit (R377). -/
def State.bobWire (s : State) (g lane : Nat) : List (BitVec 66) :=
  let sets := ((s.bob.out.find? fun e => e.1 == g).map (·.2)).getD []
  laneBlocks (Config.bobScrambler s.bob.outAt g lane).toNat (sets.flatMap fun b => (b.payloads lane).map fun p => (b.control, p))

/-! ## What goes out -/

/-- Whether driver `g`'s lanes are driven: a board profile is applied, the half's domain is on, and the links have been started (R47, R388). -/
def State.bobDriven (s : State) (g : Nat) : Bool :=
  s.boot.profileOk && s.domOn (if g < 12 then dBobl else dBobr) && s.bob.lockState != 0

/-- Block sets go out to drivers, each its own; a lane that is not driven carries nothing. What went out before is past. -/
def State.sendSets (s : State) (f : Nat → List BobSet) (to_ : List Nat) : State :=
  { s with bob := { s.bob with out := (to_.filter s.bobDriven).map fun g => (g, f g), outAt := s.now } }

/-- Packets go out to drivers. -/
def State.sendPackets (s : State) (f : Nat → List BobPacket) (to_ : List Nat) : State :=
  s.sendSets (fun g => (f g).flatMap fun p => p.sets (s.param 0x4002)) to_

/-- TRAIN block sets of a phase for driver `g`, the first with sequence number `seq` (R379). -/
def State.trainSet (s : State) (phase seq n g : Nat) : BobSet :=
  { control := true, lanes := (List.range (s.param 0x4002)).map fun l => trainBlock phase l g s.bob.rate seq, reps := n }

/-- TRAIN of a phase goes out on every lane; the spec gives SEQ no first value (R379, R388; assumption 89). -/
def State.sendTrain (s : State) (phase : Nat) : State :=
  let (v, s1) := s.takeFree
  s1.sendSets (fun g => [s1.trainSet phase v.toNat 1 g]) s1.allDrivers

/-- IDLE block sets, sent as TRAIN of PHASE 3 while BOB_LOCK_N is low in operation (R379, R390). -/
def State.fillSet (s : State) (seq n g : Nat) : BobSet :=
  if s.bob.lockState = 3 then s.trainSet 3 seq n g else { controlSet (s.param 0x4002) (0x1E :: zeros 7) with reps := n }

/-- Every lane is idle (R379, R384, R389, R390). -/
def State.sendFill (s : State) : State :=
  let (v, s1) := s.takeFree
  s1.sendSets (fun g => [s1.fillSet v.toNat 1 g]) s1.allDrivers

/-- Block times in a row time, the row's slot starting on the block grid: tr / tb with tb = 66 / BOB.LANE_RATE (R377, R384; the grid's phase is DESIGN CHOICE, assumption 94). -/
def State.rowBlocks (s : State) : Nat := s.ras.rowTime * s.bob.rate / 792

/-- Inversion polarity of a row (R382). -/
def polOf (inversion f r : Nat) : Bool :=
  match inversion with
  | 0 => f % 2 == 1
  | 1 => (f + r) % 2 == 1
  | 2 => (f + r / 2) % 2 == 1
  | _ => false

/-- The components that driver `g` takes of a row, in its own column order (R376, R381). -/
def State.driverComps (s : State) (g : Nat) (codes : List Nat) : List Nat :=
  (List.range (3 * s.param 0x4003)).map fun i => codes.getD (3 * s.driverPixel g (i / 3) + i % 3) 0

/-- A row's ROW_DATA and LATCH for driver `g`, with idle block sets between them up to `blocks` in all (R384). -/
def State.rowSets (s : State) (row : SentRow) (fill : Option (List Nat)) (sense : Bool) (blocks seq g : Nat) : List BobSet :=
  let l := s.param 0x4002
  let data := (rowPacket (s.param 0x4803) row.row row.pol fill.isSome (fill.getD (s.driverComps g row.codes))).sets l
  let idle := blocks - (data.length + 1)
  data ++ (if idle = 0 then [] else [s.fillSet seq idle g]) ++ [controlSet l (latchBlock row.row sense)]

/-- A row of the frame goes out to every driver; in a black frame as FILL of code 0 (R381, R382, R384, R402). -/
def State.sendCodes (s : State) (r : Nat) (codes : List Nat) (fill : Bool) : State :=
  let row : SentRow := { row := r, pol := polOf (s.param 0x4806) s.ras.frame.toNat r, codes := codes }
  let (v, s1) := State.takeFree { s with bob := { s.bob with sent := s.bob.sent ++ [row] } }
  s1.sendSets (s.rowSets row (if fill then some [0, 0, 0] else none) false s.rowBlocks v.toNat) s.allDrivers

/-- A sense level at panel depth, rounded as in R317's mode 2 (R396). -/
def State.senseLevel (s : State) (v : Nat) (hi : Bool) : Nat :=
  ditherOne 2 (s.param 0x4803) 0 [] (if hi then bits v 29 16 else bits v 13 0) 0 0 0

/-- A sensed row on the lanes: at LO and at HI of `levels` the fill, its LATCH and MEASURE, then the rewrite, each LATCH with SENSE_WINDOW (R332, R383, R396); `dark` rewrites with FILL of code 0, as the rest sweep and a black frame do (R339, R402). -/
def State.sendSensed (s : State) (row : SentRow) (slot levels : Nat) (dark : Bool) : State :=
  let l := s.param 0x4002
  let fill (v : Nat) : Option (List Nat) := some [v, v, v]
  let measure (level : Nat) : List BobSet := (senseCmd 1 level slot).sets l
  s.sendSets (fun g =>
    s.rowSets row (fill (s.senseLevel levels false)) true 0 0 g ++ measure 0 ++ s.rowSets row (fill (s.senseLevel levels true)) true 0 0 g ++ measure 1 ++
    s.rowSets row (if dark then fill 0 else none) true 0 0 g) s.allDrivers

/-- A row as it was sent in the frame just ended (R332, R382). -/
def State.sentRow (s : State) (r : Nat) : SentRow :=
  (s.bob.sent.find? fun x => x.row == r).getD { row := r, pol := polOf (s.param 0x4806) s.ras.frame.toNat r, codes := [] }

/-! ## Requests on a sense-return lane (R394, R395) -/

/-- The requests of a lane, the first one outstanding. -/
def Bobbin.lane (b : Bobbin) (l : Nat) : List LaneReq := b.lanes.toList.getD l []

/-- The requests of a lane replaced. -/
def Bobbin.setLane (b : Bobbin) (l : Nat) (rs : List LaneReq) : Bobbin := { b with lanes := b.lanes.setIfInBounds l rs }

/-- The driver a request is for, and the packet that makes it (R380, R383, R388, R394, R395). -/
def LaneReq.packet : LaneReq → Nat × BobPacket
  | .readout slot g => (g, senseCmd 2 0 slot)
  | .poll g => (g, cfgRead 0x0020 3)
  | .caps g => (g, cfgRead 0x0000 4)

/-- The requests that have become outstanding on lanes `ls` go out to their drivers (R394). -/
def State.sendRequests (s : State) (ls : List Nat) : State :=
  let heads := ls.filterMap fun l => (s.bob.lane l).head?.map LaneReq.packet
  s.sendPackets (fun g => (heads.filter fun e => e.1 == g).map (·.2)) (heads.map (·.1))

/-- The lanes with nothing outstanding. -/
def State.freeLanes (s : State) : List Nat := (List.range 6).filter fun l => (s.bob.lane l).isEmpty

end Sys2Proof.Machine
end

