-- ==== Sys2Proof/Machine/Sense.lean ====
section
/-! DEFINITION. The sense-return lanes, sensing in the vertical blank, folds, update passes, the rest sweep's arithmetic and stress snapshots (R332 to R348, R375, R376, R383, R393 to R396). -/

namespace Sys2Proof.Machine

/-! ## Requests on a lane (R394, R395) -/

/-- A status poll. -/
def LaneReq.isPoll : LaneReq → Bool
  | .poll _ => true
  | _ => false

/-- A sense readout. -/
def LaneReq.isReadout : LaneReq → Bool
  | .readout _ _ => true
  | _ => false

/-- Readouts join a lane before the polls that are due, behind the outstanding request (R395). -/
def queueReadouts (rs : List LaneReq) : List LaneReq → List LaneReq
  | [] => rs
  | x :: xs => x :: (xs.filter (!·.isPoll) ++ rs ++ xs.filter (·.isPoll))

/-- The readouts of the rows just sensed, slot by slot and position by position (R394). -/
def State.askResults (s : State) (rows : Nat) : State :=
  State.sendRequests { s with bob := (List.range 6).foldl (fun b l =>
    b.setLane l (queueReadouts ((List.range rows).flatMap fun r => (s.laneDrivers l).map fun g => .readout r g) (b.lane l))) s.bob } s.freeLanes

/-- Readouts not yet answered when the next blank starts are given up (R335). -/
def State.dropReadouts (s : State) : State :=
  { s with bob := (List.range 6).foldl (fun b l => b.setLane l ((b.lane l).filter (!·.isReadout))) s.bob }

/-- Whether any readout is still to come. -/
def State.readoutsLeft (s : State) : Bool := (List.range 6).any fun l => (s.bob.lane l).any (·.isReadout)

/-- TEMP_POLL: STATUS, TEMP0 and TEMP1 are asked of every driver, behind what waits; BOB.ZONE_SRC is taken for this poll (R395, R407). -/
def execTempPoll (s : State) : Out :=
  if s.bob.lockState ≠ 2 && s.bob.lockState ≠ 3 then .next s
  else
    let b := { s.bob with zoneSrc := Vector.ofFn fun (i : Fin 24) => s.param (0x4070 + i) }
    .next (State.sendRequests { s with bob := (List.range 6).foldl (fun b l => b.setLane l (b.lane l ++ (s.laneDrivers l).map .poll)) b } s.freeLanes)

/-! ## Retained pairs and folds (R336 to R338) -/

/-- The retained pairs of a subpixel, newest first. -/
def State.pairsOf (s : State) (px c : Nat) : List SensePair := s.prk.pairs.filter fun p => p.px == px && p.c == c

/-- The median of three numbers. -/
def median3 (a b c : Nat) : Nat := max (min a b) (min (max a b) c)

/-- REF_LO and REF_HI of a channel (R331). -/
def State.refLevels (s : State) (c : Nat) : Nat × Nat :=
  let b := (s.table 0x500).bytes
  (le2 b (32 + 4 * c), le2 b (34 + 4 * c))

/-- One field's bounded step towards its estimate (R337). -/
def foldStep (old est : Int) (alpha stepMax : Nat) : Int :=
  old + clampInt (-(stepMax : Int)) stepMax (rnd ((est - old) * alpha) 256)

/-- The fold of a subpixel from three pairs: new OFFSET and GAIN; none when no estimate is formed (R337). -/
def State.foldOf (s : State) (px c alpha : Nat) (ps : List SensePair) : Option Fold :=
  match ps with
  | [p, q, r] =>
    let ml := median3 p.lo q.lo r.lo
    let mh := median3 p.hi q.hi r.hi
    if mh ≤ ml then none
    else
      let (rl, rh) := s.refLevels c
      let lv := s.param 0x340A
      let gain := clampInt (-128) 127 (rnd (1024 * ((rh : Int) - rl)) (mh - ml) - 1024)
      let off := clampInt (-128) 127 (rnd (((rl : Int) - ml) * ((bits lv 29 16 : Int) - bits lv 13 0)) (8 * (mh - ml)))
      let w := s.param 0x2801
      let rec_ := s.prkRec (px % w) (px / w)
      let step := s.param 0x340C
      some { px := px, c := c, offset := foldStep (recInt rec_ 0 c) off alpha step, gain := foldStep (recInt rec_ 1 c) gain alpha step }
  | _ => none

/-- A pair joins a subpixel's retained ones: the three latest are kept. -/
def State.retain (s : State) (p : SensePair) : State :=
  let mine := (p :: s.pairsOf p.px p.c).take 3
  { s with prk := { s.prk with pairs := mine ++ s.prk.pairs.filter fun q => !(q.px == p.px && q.c == p.c) } }

/-- A fold becomes the subpixel's pending one (R338). -/
def State.pend (s : State) (f : Fold) : State :=
  { s with prk := { s.prk with folds := f :: s.prk.folds.filter fun q => !(q.px == f.px && q.c == f.c) } }

/-- Whether results of both levels make a valid pair (R336). -/
def pairValid (lo hi : Option Nat) : Bool :=
  match lo, hi with
  | some a, some b => 1 ≤ a && a ≤ 4094 && 1 ≤ b && b ≤ 4094
  | _, _ => false

/-- One subpixel of a completed blank (R336, R337). -/
def State.takePair (s : State) (px c : Nat) (lo hi : Option Nat) : State :=
  if !pairValid lo hi then s.count 834 1
  else
    let s1 := s.retain { px := px, c := c, lo := lo.getD 0, hi := hi.getD 0 }
    let ps := s1.pairsOf px c
    if ps.length < 3 || !s.tableValid 0x500 then s1
    else
      match s1.foldOf px c (s.param 0x340B) ps with
      | none => s1.count 834 1
      | some f => s1.pend f

/-- A sensed blank is complete: its results become the class 0x20 instances, and its pairs are taken (R335 to R337). -/
def State.blankComplete (s : State) : State :=
  let b := s.prk.blank
  if b.rows.isEmpty then s
  else
    let s1 := { s with prk := { s.prk with latest := b, blank := { frame := 0, rows := [], results := [] } } }
    let w := s.param 0x2801
    let res (r x c l : Nat) : Option Nat :=
      (b.results.find? fun e => e.1 == r && e.2.1 == x && e.2.2.1 == c && e.2.2.2.1 == l).map (·.2.2.2.2)
    (List.range b.rows.length).foldl (fun t r =>
      let y := b.rows.getD r 0
      (List.range (3 * w)).foldl (fun t i => t.takePair (y * w + i / 3) (i % 3) (res r (i / 3) (i % 3) 0) (res r (i / 3) (i % 3) 1)) t) s1

/-! ## Replies (R393 to R395) -/

/-- A message with its CRC-16: TYPE, DRIVER and payload, when all is in order (R393). -/
def replyParse (m : List Byte) : Option (Nat × Nat × List Byte) :=
  let n := le2 m 2
  if m.length = n + 6 && le2 m (n + 4) == crc16 (m.take (n + 4)) then some ((byteAt m 0).toNat, (byteAt m 1).toNat, slice m 4 n) else none

/-- The 12-bit results of a driver placed by raster column, subpixel and level (R393, R376). -/
def State.placeResults (s : State) (slot g : Nat) (p : List Byte) : List (Nat × Nat × Nat × Nat × Nat) :=
  (List.range (6 * s.param 0x4003)).map fun i => (slot, s.driverPixel g (i / 6), i / 2 % 3, i % 2, bitField (p.drop 4) (12 * i) 12)

/-- Zones that a poll of driver `g` updates (R395). -/
def State.takeTemps (s : State) (g t0 t1 : Nat) : State :=
  let zs := Vector.ofFn fun (i : Fin 24) =>
    let z := s.pipe.zones[i]
    let src := s.bob.zoneSrc[i]
    let t := if bit src 5 then t1 else t0
    if bit src 7 && bits src 4 0 == g && !(bit src 5 && t == 0x8000) then { z with temp := signed 16 t, at_ := some s.now } else z
  { s with pipe := { s.pipe with zones := zs } }

/-- STATUS of driver `g` as a poll reads it: CRC_ERR's increase counts, and an advance of LOCK_LOSS is noted (R390, R405). -/
def State.takeStatus (s : State) (g v : Nat) : State :=
  let loss := bits v 15 8
  let crc := bits v 7 0
  let b := s.bob
  let oldLoss := b.lockLoss.toList.getD g 0
  let oldCrc := b.crcErr.toList.getD g 0
  let seen := if loss = oldLoss then b.lossSeen else b.lossSeen ||| BitVec.ofNat 24 (2 ^ g)
  ({ s with bob := { b with lockLoss := b.lockLoss.setIfInBounds g loss, crcErr := b.crcErr.setIfInBounds g crc, lossSeen := seen } }).count
    1024 ((crc + 256 - oldCrc) % 256)

/-- After the last poll of a round, EV_BOB_LOCK_LOSS names the drivers that lost lock, once the links are locked again (R390). -/
def State.pollRoundEnd (s : State) : State :=
  if ((List.range 6).any fun l => (s.bob.lane l).any (·.isPoll)) || s.bob.lossSeen = 0 || s.bob.lockState ≠ 2 then s
  else ({ s with bob := { s.bob with lossSeen := 0 } }).event 0x4002 .warning true 2 s.bob.lossSeen.toNat

/-- A blank whose readouts have all been answered is complete (R335). -/
def State.readoutEnd (s : State) : State := if s.readoutsLeft then s else s.blankComplete

/-- The outstanding request of a lane ends with a good payload, or with none (R394, R395). -/
def State.laneReply (s : State) (l : Nat) (p : Option (Nat × Nat × List Byte)) : State :=
  match s.bob.lane l with
  | [] => s
  | r :: rest =>
    let s1 := State.sendRequests { s with bob := s.bob.setLane l rest } [l]
    let bad := s1.count 1027 1
    match r with
    | .readout slot g =>
      match p with
      | some (1, d, pl) =>
        if d = g && (byteAt pl 0).toNat = slot && le2 pl 2 = s.param 0x4003 && pl.length = 4 + 9 * s.param 0x4003 then
          ({ s1 with prk := { s1.prk with blank := { s1.prk.blank with results := s1.prk.blank.results ++ s.placeResults slot g pl } } }).readoutEnd
        else bad.readoutEnd
      | _ => bad.readoutEnd
    | .poll g =>
      match p with
      | some (2, d, pl) =>
        if d = g && le2 pl 0 = 0x0020 && byteAt pl 2 = 3 && pl.length = 10 then
          ((s1.takeStatus g (le2 pl 4)).takeTemps g (le2 pl 6) (le2 pl 8)).pollRoundEnd
        else bad.pollRoundEnd
      | _ => bad.pollRoundEnd
    | .caps g =>
      match p with
      | some (2, d, pl) =>
        let caps := le2 pl 10
        if d = g && le2 pl 0 = 0 && byteAt pl 2 = 4 && pl.length = 12 && s.param 0x4002 ≤ bits caps 15 12 && s.param 0x4003 ≤ bits caps 11 0 then
          { s1 with bob := { s1.bob with driversOk := s1.bob.driversOk ||| BitVec.ofNat 24 (2 ^ g) } }
        else s1
      | _ => s1

/-- What a sense-return lane carried: TYPE, DRIVER and payload of a reply that starts at negative disparity with at least four K28.5 (R393). -/
def senseHear (codes : List (BitVec 10)) : Option (Nat × Nat × List Byte) :=
  ((decodeRun codes true).bind (frameBody 4)).bind replyParse

/-- SENSE_RETURN_REPLY: the code groups of a reply on a lane (R393, R394). -/
def execSenseReturnReply (lane : Fin 6) (codes : List (BitVec 10)) (s : State) : Out := done (s.laneReply lane (senseHear codes))

/-- REPLY_TIMEOUT: no reply came to the outstanding request (R394). -/
def execReplyTimeout (lane : Fin 6) (s : State) : Out := done (s.laneReply lane none)

/-! ## The sweep and the sensed row (R332 to R334, R396) -/

/-- The step D of the sweep: the smallest integer at or above V / 8 without a common factor with V (R334). -/
def sweepStep (v : Nat) : Nat :=
  ((List.range (v + 1)).find? fun d => (v + 7) / 8 ≤ d && Nat.gcd d v == 1).getD 1

/-- Row r_k of the sweep (R334). -/
def State.sweepRow (s : State) (k : Nat) : Nat :=
  let v := s.param 0x2802
  (s.param 0x3409 + k * sweepStep v) % v

/-- Whether a blank senses rows (R328, R333); `plain` is false in an abort blank, after a preempted frame and in a blank that stops the panel. -/
def State.blankSenses (s : State) (plain : Bool) : Bool :=
  plain && s.param 0x4800 == 1 && s.param 0x3408 != 0 && !s.fn.sensing.stopped && !s.fn.sensing.inReset && !s.isDegraded .sensing &&
  !s.domFailed dBobl && !s.domFailed dBobr && !s.memLost

/-- CLEAR goes to every driver in the reset frame's vertical blank (R133, R383). -/
def State.senseClear (s : State) : State :=
  if s.prk.clearDue then State.sendPackets { s with prk := { s.prk with clearDue := false } } (fun _ => [senseCmd 3 0 0]) s.allDrivers else s

/-- The sensing of a blank begins: the rows due, or a skipped blank (R333). From T2 on only every second blank that would sense does so (R527). The rows and the levels are those before the blank's copy of shadows (R153). -/
def State.senseBlank (s : State) (plain : Bool) : State :=
  let s1 := s.dropReadouts.blankComplete
  let half := 2 ≤ s.thm.step
  let can := s.blankSenses plain
  let go := can && !(half && s.prk.altBlank)
  let due := (List.range (s.param 0x3408)).map fun i => s.sweepRow ((s.prk.sweepK + i) % s.param 0x2802)
  let p := { s1.prk with blank := { frame := s.ras.frame, rows := [], results := [] }, senseDue := if go then due else [],
                         senseLevels := s.param 0x340A, sweepFresh := false, senseSkipped := !can,
                         altBlank := if can then go && half else s.prk.altBlank }
  (({ s1 with prk := p }).count 833 (b2n !can)).senseClear

/-- A stop of the panel begins inside a blank: it senses no more rows and counts as a blank without sensing (R333). -/
def State.senseCut (s : State) : State :=
  if !s.ras.running || !s.ras.inBlank || s.prk.senseSkipped then s
  else ({ s with prk := { s.prk with senseDue := [], senseSkipped := true } }).count 833 1

/-- At a frame start the results of the blank just ended are asked for (R335, R394). -/
def State.senseFrame (s : State) : State :=
  if s.prk.blank.rows.isEmpty then s else s.askResults s.prk.blank.rows.length

/-- FUNC_RESET of sensing: results and folds are discarded and the sweep restarts (R133). -/
def State.senseReset (s : State) : State :=
  let p := { s.prk with pairs := [], folds := [], sweepK := 0, blank := { frame := 0, rows := [], results := [] }, senseDue := [], clearDue := s.framesRun }
  { s.dropReadouts with prk := p }

/-! ## The rest sweep (R339) -/

/-- A fold is written to its record, and no older one of the subpixel stays pending (R338, R339, R344). -/
def State.writeFold (s : State) (f : Fold) : State :=
  let w := s.param 0x2801
  let a := f.px % w
  let b := f.px / w
  let s1 := (s.prkSet a b 0 f.c (unsigned 8 f.offset)).prkSet a b 1 f.c (unsigned 8 f.gain)
  { s1.count 835 1 with prk := { s1.prk with dirty := true, folds := s1.prk.folds.filter fun q => !(q.px == f.px && q.c == f.c) } }

/-- One subpixel's rest pair (R339). -/
def State.restPair (s : State) (px c : Nat) (lo hi : Nat) : State :=
  let opt (v : Nat) : Option Nat := if bit v 15 then some (v % 4096) else none
  if !pairValid (opt lo) (opt hi) then s.count 834 1
  else
    let p : SensePair := { px := px, c := c, lo := lo % 4096, hi := hi % 4096 }
    let ps := s.pairsOf px c
    if ps.length < 2 then s.retain p
    else if !s.tableValid 0x500 then s
    else
      match s.foldOf px c (s.param 0x340D) (p :: ps.take 2) with
      | none => s.count 834 1
      | some f => s.writeFold f

/-- One row of the rest sweep: sensed dark and written with code 0, then folded from its results in the order of R335 over the device's columns (R339, R396). -/
def State.restRow (s : State) (results : List (BitVec 16)) : State :=
  let w := s.param 0x2801
  let y := s.sweepRow s.prk.restRows
  let v (i : Nat) : Nat := (results.getD i 0).toNat
  let s0 := s.sendSensed (s.sentRow y) 0 (s.param 0x340A) true
  let s1 := (List.range (3 * w)).foldl (fun t i => t.restPair (y * w + i / 3) (i % 3) (v (2 * i)) (v (2 * i + 1))) s0
  ({ s1 with prk := { s1.prk with restRows := s.prk.restRows + 1 }, sel := { s1.sel with saddr := y } }).count 832 1

/-! ## Update passes (R344, R345) -/

/-- Whether ageing conversion acts in a pass (R344). -/
def State.ageingActs (s : State) : Bool := s.param 0x3402 == 1 && s.stressRuns && bit (s.param 0x3400) 5 && s.tableValid 0x500

/-- AGEING of a stress counter by the curve (R344). -/
def ageingOf (curve : List Byte) (c v : Nat) : Nat :=
  let a (k : Nat) : Nat := le2 curve (1632 + 2 * (65 * c + k))
  let lo := a (v / 1024)
  (rnd (((lo * 1024 : Nat) : Int) + ((a (v / 1024 + 1) : Int) - lo) * (v % 1024 : Nat)) 1024).toNat

/-- One subpixel of an update pass: its AGEING (R344). -/
def State.ageOne (s : State) (x y c : Nat) : State :=
  let a := ageingOf (s.table 0x500).bytes c (le2 (s.ramBytes (s.stressAddr x y c) 2) 0)
  let old := recField (s.prkRec x y) 5 c
  let s1 := s.count 837 (b2n (255 < a))
  let new := max old (min 255 a)
  if new = old then s1
  else
    let s2 := s1.prkSet x y 5 c new
    { s2 with prk := { s2.prk with dirty := true } }

/-- UPDATE_PASS: one pass begins, or waits for a snapshot's copy (R344, R346). -/
def execUpdatePass (s : State) : Out :=
  if !s.ras.running || s.prkNeutral || s.param 0x4800 ≠ 1 || s.param 0x3410 ≠ 1 || s.prk.passOn then .next s
  else if s.prk.snap = .copying then .next { s with prk := { s.prk with passHeld := true } }
  else .next { s with prk := { s.prk with passOn := true } }

/-- UPDATE_PASS_DONE: the records hold the new AGEING, OFFSET and GAIN (R344, R345). The model writes them all here. A pass that pricking's stop, degrade or loss has overtaken writes nothing, and folds stay pending (R351). -/
def execUpdatePassDone (s : State) : Out :=
  if !s.prk.passOn then .next s
  else if s.prkNeutral then .next { s with prk := { s.prk with passOn := false } }
  else
    let w := s.param 0x2801
    let s1 : State := if s.ageingActs then
        (List.range (3 * w * s.param 0x2802)).foldl (fun t i => t.ageOne (i / 3 % w) (i / 3 / w) (i % 3)) s
      else s
    let s2 : State := s.prk.folds.foldl State.writeFold s1
    let s3 : State := { s2 with prk := { s2.prk with folds := [], passOn := false } }
    if s3.mem.cells = s.mem.cells then done s3 else done ((s3.count 836 1).ladderChange)

/-! ## Snapshots (R346 to R348) -/

/-- Whether an update pass runs once a snapshot lets a held one begin (R346, R351). -/
def State.passAfter (s : State) : Bool := s.prk.passOn || (s.prk.passHeld && !s.prkNeutral)

/-- What a snapshot holds: the stress plane, then OFFSET, GAIN and AGEING of every subpixel in raster order (R346). -/
def State.snapshotBytes (s : State) : List Byte :=
  let w := s.param 0x2801
  let px := List.range (w * s.param 0x2802)
  (px.flatMap fun i => s.ramBytes (s.stressAddr (i % w) (i / w) 0) 6) ++
  px.flatMap fun i =>
    let r := s.prkRec (i % w) (i / w)
    (List.range 3).flatMap fun c => [Byte.of (recField r 0 c), Byte.of (recField r 1 c), Byte.of (recField r 5 c)]

/-- The instant of a snapshot: everything it holds is taken (R346). -/
def State.snapInstant (s : State) : State :=
  let g (i : Nat) : Nat := s.prk.planeGen.toList.getD i 0
  let n := 19 * s.param 0x2801 * s.param 0x2802
  let s := (s.memAsk true false n).memAsk true true n
  { s with prk := { s.prk with snap := .copying, snapData := s.snapshotBytes, snapGens := #v[g 0, g 1, g 5], snapPanelOn := s.panelOnS,
                               dirty := false, snapLevel := s.param 0x3415 } }

/-- Snapshots at a frame start: a wanted one takes its instant when no pass runs, and is deferred while CODEC, SEC or NVM is unavailable (R28); whether a copy has ended is a free value (assumption 14). -/
def State.snapFrame (s : State) : State :=
  match s.prk.snap with
  | .wanted => if s.prk.passOn || s.storeLacks then s else s.snapInstant
  | .copying =>
    let (v, s1) := s.takeFree
    if v.getLsbD 0 then
      { s1 with prk := { s1.prk with snap := .compressing, passOn := s.passAfter, passHeld := false } }
    else s1
  | _ => s

/-- A snapshot is asked for: at the next frame start, or at once while the raster does not run (R346, R348). -/
def State.snapWant (s : State) : State :=
  let s1 := { s with prk := { s.prk with snap := .wanted, snapOverrun := false } }
  if s.ras.running || s.storeLacks then s1 else s1.snapInstant

/-- SNAPSHOT_START: the panel-on time since the newest complete snapshot reached its limit; without CODEC, SEC or NVM it is deferred to the next opportunity (R28, R347). -/
def execSnapshotStart (s : State) : Out :=
  let waits := s.prk.snapWaitUntil.any fun t => s.panelOnS < t
  if s.prk.snap ≠ .none || s.param 0x4800 ≠ 1 || s.param 0x3410 ≠ 1 || !s.ras.running || waits || s.memLost || s.storeLacks then .next s
  else done ({ s with prk := { s.prk with snapWaitUntil := none } }).snapWant

/-- SNAPSHOT_OVERRUN: still incomplete when PRK.SNAPSHOT_PERIOD has passed (R347). -/
def execSnapshotOverrun (s : State) : Out :=
  if s.prk.snap = .none || s.prk.snapOverrun then .next s
  else
    .next (({ s with prk := { s.prk with snapOverrun := true } }).event 0x3402 .warning true 2 (2 * 2 ^ 24 + s.nv.snapGen % 2 ^ 24))

/-- Lead of R347, in seconds. -/
def State.snapLead (s : State) : Nat := min (s.param 0x3414) (s.param 0x3413 / 2)

/-- An orderly shutdown has its snapshot behind it: the always-on values are saved (R494). -/
def State.shutdownSaved (s : State) : State :=
  ({ s with prk := { s.prk with shutdownSnap := false, snap := .none } }).saveAlwaysOn 1

/-- A snapshot in progress is abandoned (R348). -/
def State.snapAbandon (s : State) : State :=
  if s.prk.snap = .none then s
  else
    ({ s with prk := { s.prk with snap := .none, snapData := [], shutdownSnap := false, dirty := true, passOn := s.passAfter,
                                  passHeld := false } }).count 839 1

/-- The orderly shutdown of R348: a snapshot if anything changed while PRK.STRESS_EN is 1, else the save of R494 at once (R328). -/
def State.orderlyShutdown (s : State) : State :=
  let need := s.param 0x4800 == 1 && s.param 0x3410 == 1 && s.prk.dirty && !s.memLost
  if s.storeLacks then s.snapAbandon.shutdownSaved
  else if s.prk.snap ≠ .none then
    let t := { s with prk := { s.prk with shutdownSnap := true } }
    if s.prk.snap = .wanted then t.snapInstant else t
  else if need then ({ s with prk := { s.prk with shutdownSnap := true } }).snapWant
  else s.shutdownSaved

/-- A snapshot fails: tried again at once, and after a second failure one lead later (R347). -/
def State.snapFail (s : State) : State :=
  let s1 := s.count 839 1
  if s.prk.snapFails = 0 then ({ s1 with prk := { s1.prk with snapFails := 1, snap := .none, dirty := true } }).snapWant
  else
    let t := ({ s1 with prk := { s1.prk with snapFails := 0, snap := .none, dirty := true, snapWaitUntil := some (s.panelOnS + s.snapLead) } }).event
      0x3402 .error true 2 (3 * 2 ^ 24 + s.nv.snapGen % 2 ^ 24)
    if s.prk.shutdownSnap then t.shutdownSaved else t

/-- SNAPSHOT_COMPLETE: the last block and the index are written into the slot that does not hold the newest snapshot, or the store failed (R346, R347). -/
def execSnapshotComplete (failed : Bool) (s : State) : Out :=
  if s.prk.snap ≠ .copying && s.prk.snap ≠ .compressing then .next s
  else
    let slot := 1 - s.nv.snapSlot % 2
    let (g, s0) := s.takeGen
    if failed || s.storeLacks then done s0.snapFail
    else
      let (s1, ok) := s0.nandStore (objSnap slot) g s.prk.snapLevel
        { planeGen := 0, snapPlaneGens := s.prk.snapGens.toList, snapPanelOn := s.prk.snapPanelOn } s.prk.snapData
      if !ok then done s1.snapFail
      else
        let p := { s1.prk with snap := .none, snapData := [], snapFails := 0, snapOverrun := false, passOn := s.passAfter, passHeld := false }
        let s2 := { s1 with prk := p, nv := { s1.nv with snapGen := g, snapSlot := slot, snapPanelOn := s.prk.snapPanelOn } }
        let s3 := (s2.count 838 1).event 0x3402 .info true 2 (2 ^ 24 + g % 2 ^ 24)
        if !s.prk.shutdownSnap then done s3 else if s3.prk.dirty then done s3.snapWant else done s3.shutdownSaved

/-! ## Class 0x20 tables (R335) -/

/-- A read-only table: its body under the header of R168. -/
def wrapTable (id : Nat) (body : List Byte) : List Byte :=
  toLe 2 id ++ [1, 0] ++ toLe 4 (16 + body.length) ++ zeros 4 ++ toLe 4 (crc32c body) ++ body

/-- The class 0x20 instance of a lane: the latest completed blank (R335). -/
def State.senseTable (s : State) (lane : Nat) : List Byte :=
  let b := s.prk.latest
  let gs := s.laneDrivers lane
  let c := s.param 0x4003
  let cols := gs.length * c
  let x0 := s.driverCol (gs.headD 0)
  let val (r x k l : Nat) : Nat :=
    (b.results.find? fun e => e.1 == r && e.2.1 == x0 + x && e.2.2.1 == k && e.2.2.2.1 == l).elim 0 fun e => 0x8000 + e.2.2.2.2
  wrapTable (0x2000 + lane) (toLe 4 b.frame.toNat ++ [Byte.of b.rows.length] ++ zeros 3 ++
    ((List.range 4).flatMap fun i => toLe 2 (b.rows.getD i 0xFFFF)) ++ [Byte.of gs.length, 0] ++ toLe 2 cols ++ zeros 12 ++
    (List.range (24 * cols)).flatMap fun i => toLe 2 (val (i / (6 * cols)) (i / 6 % cols) (i / 2 % 3) (i % 2)))

/-- Table 0x2100: the latest zone snapshot (R308, R309); before the first one after PANEL_ON, and while the panel is off, every zone is missing. -/
def State.zoneTable (s : State) : List Byte :=
  let z := s.pipe.snap
  let (c, r) := if z.taken then (z.cols, z.rows) else s.zoneGrid
  let n := c * r
  let temp (i : Nat) : Int := if n ≤ i then 0 else if z.taken then z.temps.toList.getD i 0 else s.panelDefault
  let age (i : Nat) : Nat := if n ≤ i then 0 else if z.taken then z.ages.toList.getD i 65535 else 65535
  wrapTable 0x2100 ([Byte.of c, Byte.of r, Byte.of z.validCount, 0] ++ ((List.range 24).flatMap fun i => toLe 2 (unsigned 16 (temp i))) ++
    (List.range 24).flatMap fun i => toLe 2 (age i))

/-- The bytes of any instance (R170, R329). -/
def State.tableBytes (s : State) (id : Nat) : List Byte :=
  let t := s.table id
  match id / 256 with
  | 0x20 => s.senseTable (id % 256)
  | 0x21 => s.zoneTable
  | 4 => if t.st = .valid then t.bytes ++ s.readPlane (id % 256) (le2 t.bytes 16) (le2 t.bytes 18) else t.bytes
  | _ => t.bytes

/-- TABLE_READ's layout: TABLE_ID (2), LENGTH (2) 1 to 464, OFFSET (4) (R134). -/
def cmdTableRead : Cmd :=
  { code := 0x0051, lenOk := fun p => p.length == 8 && 1 ≤ le2 p 2 && le2 p 2 ≤ 464, zeroOk := fun _ => true }

/-- TABLE_READ (R134, R170): bytes never loaded read 0x00. -/
def runTableRead (p : List Byte) (s : State) : Reply :=
  let id := le2 p 0
  let n := le2 p 2
  let o := le4 p 4
  if !tableKnown id then .refuse stOutOfRange s
  else if id = 0xFF00 then if 0x40000000 < o + n then .refuse stOutOfRange s else .reply stOk (s.ramBytes (poolBase + o) n) s
  else .reply stOk (slice (s.tableBytes id) o n) s

/-- TABLE_READ (R170). -/
def execTableRead (mb : Mb) (s : State) : Out := s.serve mb cmdTableRead runTableRead

end Sys2Proof.Machine
end

