-- ==== Sys2Proof/Machine/Timing.lean ====
section
/-! DEFINITION. Raster timing: row time and periods, the T4 scaling, the static ladder, the change of the active mode, and the entry and end of HOLD (R237 to R265, R531, R532). -/

namespace Sys2Proof.Machine

/-! ## Rates and periods (R237, R247, R531) -/

/-- Ticks of the period of a rate in 0.001 Hz, rounded to nearest (R247). -/
def period (mhz : Nat) : Nat := (2400000000000 + mhz) / (2 * mhz)

/-- Whether CK_PIPE runs divided and the halving of R531 is in force. -/
def State.scaled (s : State) : Bool := s.thm.t4 == .inForce || s.thm.t4 == .leaving

/-- A rate as T4 leaves it: halved, but not below PNL.MIN_REFRESH (R531). -/
def State.rate (s : State) (mhz : Nat) : Nat := if s.scaled then max (mhz / 2) (s.param 0x4804) else mhz

/-- TIM.VRR_MIN in force. -/
def State.vrrMin (s : State) : Nat := s.rate (s.param 0x2805)

/-- TIM.VRR_MAX in force. -/
def State.vrrMax (s : State) : Nat := s.rate (s.param 0x2806)

/-- TIM.FIXED_RATE in force, clamped (R237, R247). -/
def State.fixedRate (s : State) : Nat :=
  max s.vrrMin (min s.vrrMax (s.rate (s.param 0x2808)))

/-- The deadline interval 1 / TIM.VRR_MIN (R246). -/
def State.deadlineTicks (s : State) : Nat := period s.vrrMin

/-- Whether FIXED runs on the beacon's last timing: islanded, or under T4 with TIM.MODE LATTICE (R432, R531). -/
def State.netTimed (s : State) : Bool := (s.param 0x2800 == 2 || s.isFollower) && !s.isRoot && s.tat.period != 0

/-- Row time of a frame that starts under a mode (R26, R420, R432, R531). -/
def State.rowTimeFor (s : State) (m : Mode) : Nat :=
  let k := if s.scaled then 2 else 1
  if s.netTimed && m != .source && m != .hold then (if m == .lattice then s.tat.rowTime else k * s.tat.rowTime)
  else k * s.param 0x2804

/-- Slot start after t_in: 180 pipe cycles (R25, R532). -/
def State.slotDelay (s : State) : Nat := if s.scaled then 360 else 180

/-- Arrival slack: 56 pipe cycles (R26, R532). -/
def State.slack (s : State) : Nat := if s.scaled then 112 else 56

/-- The base period of a mode's generator (R247, R250, R261, R419, R432). In SOURCE it is the P_in of frames that the ladder let through at its base rate (DEDUCED, assumption 82). -/
def State.basePeriod (s : State) (m : Mode) : Nat :=
  match m with
  | .fixed => if s.netTimed then (if s.scaled then 2 else 1) * s.tat.period else period s.fixedRate
  | .lattice => if s.isRoot then period s.fixedRate else s.tat.period
  | .hold => s.ras.holdPeriod
  | .source => s.ras.base

/-! ## The static ladder (R261 to R263) -/

/-- A rate put in its place in a descending list. -/
def insertRate (v : Nat) : List Nat → List Nat
  | [] => [v]
  | x :: xs => if x < v then v :: x :: xs else x :: insertRate v xs

/-- The ladder's rates in descending order (R261). -/
def State.ladderRates (s : State) : List Nat :=
  if s.param 0x280C = 1 then
    (((List.range 8).map fun i => s.param (0x2818 + i)).filter (· != 0)).foldr insertRate []
  else if s.param 0x4800 = 0 then [240000, 120000, 60000, 48000]
  else [240000, 120000, 60000, 30000, 10000]

/-- The ladder's floor (R261). -/
def State.ladderFloor (s : State) (m : Mode) : Nat :=
  let f := max (s.rate (s.param 0x280B)) (s.param 0x4804)
  if m == .source then max f s.vrrMin else f

/-- The periods of the steps below the base rate (R261). -/
def State.ladderSteps (s : State) (m : Mode) : List Nat :=
  let rates := ((s.ladderRates.map s.rate).eraseDups).filter (s.ladderFloor m ≤ ·)
  if s.basePeriod m = 0 then [] else (rates.map period).filter (s.basePeriod m < ·)

/-- Whether the ladder may step: never in LATTICE or on a beacon's timing, in SOURCE only with TIM.STATIC_SKIP_EN, and not in a short HOLD (R251, R261, R432). -/
def State.ladderRuns (s : State) : Bool :=
  match s.ras.active with
  | .lattice => false
  | .source => s.param 0x2809 == 1
  | .fixed => !s.netTimed
  | .hold => !s.ras.shortHold

/-- The period of the step the ladder stands at (R261). -/
def State.stepPeriod (s : State) (m : Mode) : Nat :=
  if s.ras.ladderStep = 0 then s.basePeriod m
  else (s.ladderSteps m).getD (s.ras.ladderStep - 1) (s.basePeriod m)

/-- LADDER_DWELL_EXPIRY: TIM.LADDER_DWELL of unchanged frames has passed at this step; the next lower step is taken (R263). -/
def execLadderDwellExpiry (at_ : Nat) (s : State) : Out :=
  let s := s.elapse at_
  let r := s.ras
  if !r.running || !s.ladderRuns || r.transition.isSome || s.now < r.dwellFrom + ms (s.param 0x280A) ||
      (s.ladderSteps r.active).length ≤ r.ladderStep then .next s
  else .next { s with ras := { r with ladderStep := r.ladderStep + 1, dwellFrom := s.now } }

/-! ## The active mode (R237, R269) -/

/-- TIM.ACTIVE_MODE changes: the ladder starts at the base rate, and EV_TIM_MODE is raised (R269). -/
def State.setActive (s : State) (m : Mode) (cause : Nat) : State :=
  let old := s.ras.active
  if old = m then s
  else
    let r := { s.ras with active := m, ladderStep := 0, dwellFrom := s.now, pull := none, shortHold := s.ras.shortHold && m == .hold,
                          repeats := if m = .source then s.ras.repeats else [], holdEntered := s.ras.holdEntered || m == .hold }
    ({ s with ras := r }).event 0x2801 .info true 0 (m.code * 2 ^ 24 + old.code * 2 ^ 16 + cause)

/-- The mode the next frame starts under: the new one once a transition's values have applied (R256). -/
def State.nextMode (s : State) : Mode :=
  match s.ras.transition with
  | some t => if t.phase = .applied then t.mode else s.ras.active
  | none => s.ras.active

/-- The instant at which an accepted FS that is to end an automatic HOLD, or start-up's FIXED, came, while its row 0 is still awaited (R252). -/
def State.fsWaits (s : State) : Option Nat :=
  match s.hl.frame with
  | none => none
  | some f =>
    if f.use == .captured && !f.decided && (s.ras.active == .hold || s.ras.active == .fixed) && (s.param 0x2800 == 0) && s.ras.transition.isNone then some f.fsAt
    else none

/-- The instant the generator of FIXED or HOLD starts its next frame: a period after the last start, or the change that pulled it (R247, R250, R256, R263). Once an FS has ended an automatic HOLD the next frame is the live one, and the generator gives it 1/TIM.VRR_MIN from the FS (R252; the limit is a DESIGN CHOICE, assumption 85). -/
def State.genDue (s : State) : Nat :=
  let t := s.ras.pull.getD (s.ras.start + s.stepPeriod s.nextMode)
  s.fsWaits.elim t fun f => max t (f + s.deadlineTicks)

/-- The configured mode. -/
def State.timMode (s : State) : Mode := (modeOf? (s.param 0x2800)).getD .source

/-- Whether the marked frame is frozen: TIM.MODE is HOLD and the raster runs in HOLD (R253). -/
def State.frozen (s : State) : Bool := s.ras.active == .hold && s.timMode == .hold

/-! ## When the next frame starts (R240) -/

/-- Whether an input frame was decided live and has not started; its slot start. -/
def State.liveSlot (s : State) : Option Nat :=
  match s.hl.frame with
  | some f => if f.use = .live && !f.started then f.slotAt else none
  | none => none

/-- Whether the next frame start is a beacon's or a master's. -/
def State.netNext (s : State) : Bool :=
  s.tethered || (!s.isRoot && !s.isFollower && (s.nextMode == .lattice ||
    (s.ras.heldChange == some .beaconBack && s.ras.transition.isNone && s.timMode == .lattice)))

/-- The earliest next start E (R238), also while the rows it follows are still being scanned. -/
def State.earliestNext (s : State) : Nat :=
  if s.ras.inBlank then s.ras.earliest else s.ras.start + (s.ras.rowEnd + s.param 0x2803) * s.ras.rowTime

/-- The root's next frame start in LATTICE: how many of its periods after the latest start, and the instant (R419). -/
def State.rootNext (s : State) : Nat × Nat :=
  let p := if s.ras.active = .lattice && s.tat.period ≠ 0 then s.tat.period else s.basePeriod .lattice
  let k := max 1 ((s.earliestNext - s.ras.start + p - 1) / p)
  (k, s.ras.start + k * p)

/-- The next frame start where it is known: a black frame's, a beacon's or a master's, the restart after an abort, the generator's, a scheduled repeat's, or that of an input frame whose row 0 has come (R244 to R250, R276, R286, R399, R402). -/
def State.nextStart? (s : State) : Option Nat :=
  let e := s.earliestNext
  let or_ (t : Nat) : Option Nat := some (s.liveSlot.elim (max t e) fun l => if e ≤ l && l ≤ t then l else max t e)
  if !s.ras.running then none
  else if s.pnl.st = .darkening then if s.pnl.blackLeft = 0 then none else some e
  else if s.netNext then s.tat.next.map (·.start)
  else if s.ras.aborted && s.nextMode != .lattice then some e
  else
    match s.nextMode with
    | .lattice => some s.rootNext.2
    | .source =>
      if s.ras.pull.isSome then or_ s.genDue
      else match s.ras.repeats with
        | h :: _ => or_ h
        | [] => s.liveSlot.bind fun l => if e ≤ l then some l else none
    | _ => or_ s.genDue

/-! ## Automatic HOLD (R250 to R252) -/

/-- P_hold is taken: P_in clamped to 1/TIM.VRR_MAX to 1/TIM.VRR_MIN; with no P_in yet, a free value clamped (R250). -/
def State.takeHoldPeriod (s : State) : State :=
  let (v, s1) := match s.ras.pIn with
    | some p => (p, s)
    | none => let (v, t) := s.takeFree; (v.toNat, t)
  { s1 with ras := { s1.ras with holdPeriod := max (period s.vrrMax) (min (period s.vrrMin) v) } }

/-- The source goes idle or stops: an automatic HOLD, entered at once as the frame-start source; during a transition it waits (R250, R251, R259). In an automatic HOLD already entered, the latest idle says whether the ladder may step. -/
def State.sourceIdle (s : State) (why : HeldChange) (short : Bool) : State :=
  if !s.ras.running then s
  else if s.ras.transition.isSome then { s with ras := { s.ras with heldChange := some why, shortHold := short } }
  else if s.param 0x280E ≠ 1 || s.timMode ≠ .source then s
  else if s.ras.active = .hold then
    if s.ras.shortHold = short then s
    else { s with ras := { s.ras with shortHold := short, dwellFrom := s.now, ladderStep := if short then 0 else s.ras.ladderStep } }
  else
    let s1 := s.takeHoldPeriod
    let cause := match why with
      | .sleepHold => 2 | .stopHold => 7 | .sourceBack => 4 | .island => 5 | .beaconBack => 5 | .idleHold => 3
    let s2 : State := { s1 with ras := { s1.ras with shortHold := short } }
    s2.setActive .hold cause

end Sys2Proof.Machine
end

