-- ==== Sys2Proof/Machine/Epoch.lean ====
section
/-! DEFINITION. Epochs on one device: the check of a set, its apply in a vertical blank, late devices, and the counts of COUNT_UP (R424 to R431). -/

namespace Sys2Proof.Machine

/-- EV_TAT_EPOCH (R440). -/
def State.epochEvent (s : State) (cause e : Nat) : State :=
  s.event 0x5002 (if cause = 3 ∨ cause = 4 then .warning else if cause = 5 then .error else .info) true 3 (cause * 2 ^ 24 + e % 2 ^ 24)

/-- This device's entries of a set: a later entry for a parameter replaces an earlier one (R424). -/
def epochEntries (id : Nat) (b : List Byte) : List (Nat × Word) :=
  (List.range (le2 b 4)).foldl (fun acc i =>
    let o := 16 + 12 * i
    if le2 b o ≤ id && id ≤ le2 b (o + 2) then aset acc (le2 b (o + 4)) (Word.of (le4 b (o + 8))) else acc) []

/-- The set's own form (R424). -/
def epochForm (b : List Byte) : Bool :=
  let n := le2 b 4
  16 ≤ b.length && le2 b 0 == 0x5445 && byteAt b 2 == 1 && 1 ≤ n && n ≤ 1364 && le4 b 8 == b.length && b.length == 16 + 12 * n &&
  le4 b 12 == crc32c (b.drop 16)

/-- Each entry names a known class L or F parameter with a value in range, and the agreement sets hold over the active values, those of commits that wait to apply among them (R147, R425, R428). -/
def State.epochEntriesOk (s : State) (vs : List (Nat × Word)) : Bool :=
  enterAscends (fun id => (aget? vs id).elim (s.param id) (·.toNat)) && (vs.all fun v => (pClass? v.1 == some .l || pClass? v.1 == some PClass.f) && pInRange v.1 v.2.toNat) &&
  ((List.range 13).map (· + 1)).all fun k =>
    let (mem, reads) := setReads k
    !(vs.any fun t => mem.contains t.1 || reads.contains t.1) || s.setRule true (s.over vs) k

/-- The check of R425 on LAST. -/
def State.epochOk (s : State) (b : List Byte) : Bool := epochForm b && s.epochEntriesOk (epochEntries s.tat.id b)

/-- Whether an epoch is held complete and passed its check. -/
def Epoch.held (e : Epoch) : Bool := e.st == .staged || e.st == .armed || e.st == .applied

/-- The record this device has of an epoch. -/
def State.epochRec (s : State) (e : Nat) : Option Epoch :=
  match s.tat.staged, s.tat.applied with
  | some x, some y => if x.e = e then some x else if y.e = e then some y else none
  | some x, none => if x.e = e then some x else none
  | none, some y => if y.e = e then some y else none
  | none, none => none

/-- The newest epoch applied here; 0 for none. -/
def State.appliedE (s : State) : Nat := s.tat.applied.elim 0 (·.e)

/-- The newest epoch staged here; 0 for none. -/
def State.stagedE (s : State) : Nat := s.tat.staged.elim 0 (·.e)

/-! ## Counts (R426) -/

/-- Counts of one epoch: reported, staged, applied, skewed, failed, lowest skewed ID, lowest failed ID. -/
structure Counts where
  reported : Nat
  staged : Nat
  applied : Nat
  skewed : Nat
  failed : Nat
  firstSkewed : Nat
  firstFailed : Nat
deriving DecidableEq, Repr

/-- The lower of two IDs, where 0 is none. -/
def lowId (a b : Nat) : Nat := if a = 0 then b else if b = 0 then a else min a b

/-- Two subtrees' counts together. -/
def Counts.add (a b : Counts) : Counts :=
  ⟨a.reported + b.reported, a.staged + b.staged, a.applied + b.applied, a.skewed + b.skewed, a.failed + b.failed,
   lowId a.firstSkewed b.firstSkewed, lowId a.firstFailed b.firstFailed⟩

/-- This device's own counts. -/
def State.ownCounts (s : State) (e : Nat) : Counts :=
  let r := s.epochRec e
  let skew := s.tat.wantE == e && e != 0
  let fail := r.any fun x => x.st == .failed
  ⟨1, b2n (r.any Epoch.held), b2n (r.any fun x => x.st == .applied), b2n skew, b2n fail,
   if skew then s.tat.id else 0, if fail then s.tat.id else 0⟩

/-- A child subtree's last counts, where they are of this epoch. -/
def TatPortState.countsOf (p : TatPortState) (e : Nat) : Counts :=
  match p.counts with
  | [pe, a, b, c, d, f, g, h] => if pe = e then ⟨a, b, c, d, f, g, h⟩ else ⟨0, 0, 0, 0, 0, 0, 0⟩
  | _ => ⟨0, 0, 0, 0, 0, 0, 0⟩

/-- The counts of this device's subtree. -/
def State.counts (s : State) (e : Nat) : Counts :=
  ((s.ownCounts e).add (s.tat.dn0.countsOf e)).add (s.tat.dn1.countsOf e)

/-- STATE of R426 as this device holds the epoch; a set that failed its check is not staged. -/
def State.epochState (s : State) (e : Nat) : Nat :=
  match s.epochRec e with
  | none => 0
  | some r => match r.st with
    | .staging => 1 | .failed => 1 | .staged => 2 | .armed => 3 | .applied => 4 | .aborted => 5

/-- Devices of this subtree by the ranges of the last enumeration. -/
def State.subtreeSize (s : State) : Nat :=
  let n (p : TatPortState) : Nat := p.last + 1 - p.first
  if s.isRoot then s.tat.netSize else 1 + n s.tat.dn0 + n s.tat.dn1

/-- The payload of COUNT_UP and TAT_STATUS (R426). -/
def State.countBytes (s : State) (e : Nat) : List Byte :=
  let c := s.counts e
  let topo := s.tat.topoChanged || s.tat.dn0.topology || s.tat.dn1.topology
  let f := (s.epochRec e).elim 0 fun r => if r.st = .armed ∨ r.st = .applied then r.f else 0
  toLe 4 e ++ [Byte.of (s.epochState e), Byte.of (b2n topo)] ++ toLe 2 s.subtreeSize ++ toLe 4 f ++ toLe 2 c.reported ++
    toLe 2 c.staged ++ toLe 2 c.applied ++ toLe 2 c.skewed ++ toLe 2 c.failed ++ toLe 2 c.firstSkewed ++ toLe 2 c.firstFailed ++ zeros 2

/-- The epoch COUNT_UP reports on: the newest one here. -/
def State.countEpoch (s : State) : Nat := max (max s.stagedE s.appliedE) s.tat.wantE

/-- COUNT_UP leaves TAT_UP (R426). -/
def State.sendCounts (s : State) : State :=
  if s.isRoot then s else s.tatSend .up 0x31 (s.countBytes s.countEpoch)

/-- The root ends TAT_STAGE once every device has reported (R425). -/
def State.stageEnd (s : State) (timeout : Bool) : State :=
  let c := s.counts s.stagedE
  if c.reported = s.tat.netSize ∨ timeout then
    s.endJob 0x00C1 (if 0 < c.failed then stMismatch else if c.staged = s.tat.netSize then stOk else stNotStaged)
  else s

/-- The root's events for skew across the net (R440; the events are the root's, from the counts it holds). -/
def State.skewWatch (s : State) : State :=
  let e := s.countEpoch
  let n := (s.counts e).skewed
  if 0 < n && !s.tat.skewSeen then ({ s with tat := { s.tat with skewSeen := true } }).epochEvent 3 e
  else if n = 0 && s.tat.skewSeen then ({ s with tat := { s.tat with skewSeen := false } }).epochEvent 7 e
  else s

/-- A count changed: COUNT_UP goes out at the next frame start, or at once while no frames run; the root looks at the totals (R425, R426). -/
def State.countsChanged (s : State) : State :=
  if s.isRoot then (s.stageEnd false).skewWatch
  else if s.ras.running then { s with tat := { s.tat with countsDirty := true } }
  else s.sendCounts

/-- At a frame start the waiting COUNT_UP is sent (R426). -/
def State.countsFrame (s : State) : State :=
  if s.tat.countsDirty then ({ s with tat := { s.tat with countsDirty := false } }).sendCounts else s

/-! ## Applying (R428, R429) -/

/-- The entries of an epoch become active values in one step; class L ones with all that their writes do (R428). -/
def State.epochWrite (s : State) (vs : List (Nat × Word)) : State :=
  let f := vs.filter fun v => pClass? v.1 == some PClass.f
  let l := vs.filter fun v => pClass? v.1 == some .l
  l.foldl (fun t v => t.writeL v.1 v.2.toNat 3) (s.applyValues f)

/-- The held epoch is checked again and applied; a failure applies nothing (R428). -/
def State.epochApply (s : State) (ep : Epoch) (f : Nat) : State :=
  let vs := epochEntries s.tat.id ep.bytes
  if s.epochEntriesOk vs then
    let s1 := s.epochWrite vs
    let skipped := ep.e - s.appliedE - 1
    let t := { s1.tat with staged := none, applied := some { ep with st := .applied, f := f },
                           wantE := if s.tat.wantE ≤ ep.e then 0 else s.tat.wantE,
                           armE := if s.tat.armE = ep.e then 0 else s.tat.armE, armF := if s.tat.armE = ep.e then 0 else s.tat.armF,
                           armTiming := if s.tat.armE = ep.e then none else s.tat.armTiming }
    (((({ s1 with tat := t }).count 1287 1).count 1289 (if s.tat.wantE = ep.e then skipped else 0)).epochEvent 2 ep.e).countsChanged
  else
    let t := { s.tat with staged := some { ep with st := .failed, f := f } }
    (({ s with tat := t }).epochEvent 5 ep.e).countsChanged

/-- SET_REQ for an epoch goes to the parent, once for each epoch (R429). -/
def State.askSet (s : State) (e : Nat) : State :=
  if s.tat.reqE = e then s
  else ({ s with tat := { s.tat with reqE := e } }).tatSend .up 0x32 (toLe 4 e ++ zeros 4)

/-- The device holds an epoch and has missed its frame: it counts as SKEWED, and waits for a beacon that names the epoch as applied (R429). -/
def State.skewMissed (s : State) (e : Nat) : State :=
  if e = s.appliedE ∨ s.tat.wantE = e then s
  else (({ s with tat := { s.tat with wantE := e, skewWait := true } }).count 1288 1).countsChanged

/-- The device is past F without having applied: it counts as SKEWED and catches up (R429). -/
def State.skewOn (s : State) (e : Nat) : State :=
  if e = s.appliedE then s
  else if s.tat.wantE = e then { s with tat := { s.tat with skewWait := false } }
  else
    let s1 := ({ s with tat := { s.tat with wantE := e, skewWait := false } }).count 1288 1
    let held := s1.tat.staged.any fun x => x.e == e && x.held
    (if held then s1 else s1.askSet e).countsChanged

/-- The epoch that is to be applied in the blank before frame `n`: armed for it by the beacon accepted for it (at the root, by its own arming), or wanted by a device that is late (R428, R429). -/
def State.epochDue (s : State) (n : BitVec 32) : Option Epoch :=
  match s.tat.staged with
  | none => none
  | some ep =>
    let byBeacon := s.tat.last.any fun b => b.frame == n && b.flags == 1 && b.armedE == ep.e && b.applyF == n.toNat
    let byRoot := s.isRoot && s.tat.armE == ep.e && s.tat.armF == n.toNat
    if ep.held && (byBeacon || byRoot || (s.tat.wantE == ep.e && !s.tat.skewWait)) then some ep else none

/-- The vertical blank before frame `n` begins, or a beacon is accepted in it: the due epoch applies (R428, R429). -/
def State.epochBlank (s : State) (n : BitVec 32) : State :=
  match s.epochDue n with
  | none => s
  | some ep => s.epochApply ep n.toNat

end Sys2Proof.Machine
end

