-- ==== Sys2Proof/Machine/Input.lean ====
section
/-! DEFINITION. An input frame from its FS to its end: bad rows, concealment in the hoop, the frame tag, and what becomes of the frame (R196 to R198, R217 to R224, R241, R253). -/

namespace Sys2Proof.Machine

/-! ## Lane groups and halves -/

/-- One lane group. -/
def HostLink.group (h : HostLink) : Side → LaneGroup
  | .left => h.a | .right => h.b

/-- The link with one lane group changed. -/
def State.onGroup (s : State) (i : Side) (f : LaneGroup → LaneGroup) : State :=
  match i with
  | .left => { s with hl := { s.hl with a := f s.hl.a } }
  | .right => { s with hl := { s.hl with b := f s.hl.b } }

/-- WIDE16: whole rows on one link (R171). -/
def State.wide (s : State) : Bool := s.param 0x2400 == 1

/-- The groups that carry frames of their own: both halves, or the whole link counted as group A (R187). -/
def State.carriers (s : State) : List Side := if s.wide then [.left] else [.left, .right]

/-- First column and number of columns that a group's rows hold (R189). -/
def State.halfCols (s : State) (i : Side) : Nat × Nat :=
  let w := s.param 0x2801
  if s.wide then (0, w) else match i with
    | .left => (0, w / 2)
    | .right => (w / 2, w / 2)

/-- The link is ACTIVE when both groups are (R179). -/
def State.linkActive (s : State) : Bool := s.hl.a.st == .active && s.hl.b.st == .active

/-- The state with the input frame changed. -/
def State.onFrame (s : State) (f : InputFrame → InputFrame) : State := { s with hl := { s.hl with frame := s.hl.frame.map f } }

/-- Whether an input frame is received into a hoop frame: not one dropped by R242 or rejected by R199. -/
def InputFrame.fills (f : InputFrame) : Bool := f.use != .dropped && f.use != .rejected

/-- A frame's PROTECTED and SOURCE_REPEAT flags (R188). -/
def InputFrame.prot (f : InputFrame) : Bool := bit f.flags.toNat 2
/-- See `InputFrame.prot`. -/
def InputFrame.srcRepeat (f : InputFrame) : Bool := bit f.flags.toNat 1

/-! ## Pair events (R436) -/

/-- The port joined to the other side of a pair (R434). -/
def State.pairPort (s : State) : TatPort := if s.boot.straps.pairRight then .up else .dn1

/-- The first row slot at least 2 tr after now, in the frame being scanned (R436). -/
def State.pairRow (s : State) : Nat := s.ras.rowsStarted + 2

/-- PAIR_EVENT to the other device of a pair (R436). -/
def State.pairEvent (s : State) (kind row : Nat) : State :=
  if s.param 0x2807 = 1 then
    s.tatSend s.pairPort 0x51 (toLe 4 s.ras.frame.toNat ++ [Byte.of kind, 0] ++ toLe 2 row ++ zeros 8)
  else s

/-! ## Bad rows (R196, R197) -/

/-- A row of the input frame is bad; past HL.ROW_ERR_LIMIT the frame becomes a repeat (R197). -/
def State.badRow (s : State) (r : Nat) : State :=
  match s.hl.frame with
  | none => s
  | some f =>
    if f.bad.contains r then s
    else
      let tooMany := s.param 0x2404 < f.bad.length + 1 && !f.hoopRepeat
      let s1 := s.onFrame fun f => { f with bad := r :: f.bad, hoopRepeat := f.hoopRepeat || tooMany }
      if !tooMany then s1
      else
        let s2 := ((s1.count 583 1).event 0x2404 .warning true 2 f.src.toNat).pairEvent 3 s.pairRow
        if f.use = .live && f.started then
          ({ s2 with ras := { s2.ras with repeatFrom := some (if s2.param 0x2807 = 1 then s2.pairRow else s2.ras.rowsStarted) } }).onHoop s2.ras.scan1 fun h => { h with scanning := true }
        else s2

/-- One half's words of a bad row are written in concealed form: the same row of the hoop's previous frame (R27, R196). -/
def State.concealInHoop (s : State) (f : InputFrame) (i : Side) (r : Nat) : State :=
  let (x0, n) := s.halfCols i
  if s.memLost then s else s.hoopCopy (!f.slot1) f.slot1 r x0 n

/-- A row of one half that will not come (R196). -/
def State.missRow (s : State) (f : InputFrame) (i : Side) (r : Nat) : State :=
  ((s.count 581 1).concealInHoop f i r).badRow r

/-- Rows of one half passed over up to `r` are missing, those whose slot has already started among them (R196). -/
def State.missUpTo (s : State) (f : InputFrame) (i : Side) (r : Nat) : State :=
  let from_ := (s.hl.group i).lastRow.elim 0 (· + 1)
  (List.range r).foldl (fun t k => if from_ ≤ k then t.missRow f i k else t) s

/-- Rows of this frame written in both halves so far (R272). -/
def State.noteRows (s : State) (f : InputFrame) : State :=
  let n := s.carriers.foldl (fun m i => min m ((s.hl.group i).lastRow.elim 0 (· + 1))) 4320
  s.onHoop f.slot1 fun h => { h with rows := n }

/-! ## The end of an input frame (R198, R221 to R224, R241, R253) -/

/-- PIXEL_DATA of a row as one group sent it. -/
def LaneGroup.row (g : LaneGroup) (r : Nat) : List Byte := (aget? g.pixels r).getD []

/-- The additional data of the frame's GMAC (R221). -/
def State.tagData (s : State) (f : InputFrame) (fe : List Byte) : List Byte :=
  f.fsBytes ++
  ((List.range (s.param 0x2802)).flatMap fun r => s.carriers.flatMap fun i => (s.hl.group i).row r) ++ slice fe 0 16

/-- The tag the device computes (R221). -/
def State.tagOf (s : State) (f : InputFrame) (k : Keys) (fe : List Byte) : List Byte :=
  Config.gmac k.tag ((toLe 4 f.src.toNat).reverse ++ zeros 8) (s.tagData f fe)

/-- The first cause of R224 that a protected frame meets; `cut` is 3 or 4 for a frame that did not reach its FE. R216 lets the frame at SWITCH_FRAME + 2^31 fail and R224 names no cause for it: it is reported with cause 5, and counted (DESIGN CHOICE, assumption 72). -/
def State.failCause (s : State) (f : InputFrame) (cut : Option Nat) (fe : List Byte) : Option Nat :=
  if s.spaceUsed f.src then some 5
  else
    match s.sessionFor f.src with
    | none => some 6
    | some e =>
      if s.sec.lastPassed.any fun l => !srcAfter l f.src then some 5
      else
        match cut with
        | some c => some c
        | none =>
          if !f.bad.isEmpty then some 2
          else if (s.tagOf f e.keys fe).take 16 == slice fe 16 16 then none else some 1

/-- A protected frame fails: EV_PROT_TAG, the tag hold from the next frame start, and after two in a row the end of the sessions (R222 to R224). No count is kept without a session, and DATA then shows a count of 0 (DESIGN CHOICE, assumption 73). -/
def State.frameFails (s : State) (f : InputFrame) (cause : Nat) : State :=
  let n := if cause = 6 then s.sec.tagFails else min 2 (s.sec.tagFails + 1)
  let s1 : State := { s with sec := { s.sec with tagFails := n }, ras := { s.ras with tagHold := true } }
  let shown := if cause = 6 then 0 else n
  let s2 := ((s1.count 513 1).event 0x2001 .warning true 0 (shown * 65536 + cause)).pairEvent 4 s.pairRow
  let s2 : State := if s.param 0x2807 = 1 then { s2 with ras := { s2.ras with repeatFrom := some (s.ras.repeatFrom.elim s.pairRow (min s.pairRow)) } } else s2
  if cause ≠ 6 && 2 ≤ n then (s2.endSpace f.src).endSessions 1 .now else s2.endSpace f.src

/-- The filled hoop frame becomes the marked one, and the old marked frame free (R222, R272). In FIXED and HOLD that is a change for the ladder (R247, R262). -/
def State.promote (s : State) (f : InputFrame) : State :=
  let s1 := (s.onHoop (!f.slot1) fun h => { h with role := .free }).onHoop f.slot1 fun h => { h with role := .marked, src := f.src }
  let s2 : State := { s1 with ras := { s1.ras with markMoved := true }, hl := { s1.hl with markShown := f.use == .live && f.started } }
  if s.ras.active = .fixed ∨ s.ras.active = .hold then s2.fetchMoved.ladderChange else s2.fetchMoved

/-- A frame passes: the count of failures and the hold end, and the frame is marked unless the marked frame is frozen (R222, R223, R253). -/
def State.framePasses (s : State) (f : InputFrame) : State :=
  let sec := { s.sec with tagFails := 0, lastPassed := if f.prot then some f.src else s.sec.lastPassed }
  let s1 : State := { s with sec := sec, ras := { s.ras with tagHold := false } }
  let s2 := s1.count 512 (b2n f.prot)
  if s.frozen then s2.onHoop f.slot1 fun h => { h with role := .free } else s2.promote f

/-- A frame that does not pass leaves its hoop frame free (R272). -/
def State.frameDropped (s : State) (f : InputFrame) : State := s.onHoop f.slot1 fun h => { h with role := .free }

/-- The groups hold no frame. -/
def State.clearGroups (s : State) : State :=
  let f (g : LaneGroup) : LaneGroup := { g with lastRow := none, fs := [], fe := none, pixels := [] }
  { s with hl := { s.hl with a := f s.hl.a, b := f s.hl.b, frame := none } }

/-- The input frame ends: at its last FE (`cut` none), with its FE missing (3) or cut short (4). -/
def State.inputEnd (s : State) (cut : Option Nat) : State :=
  match s.hl.frame with
  | none => s
  | some f =>
    if !f.fills then s.clearGroups
    else
      let s0 : State := if cut.isSome then
          let v := s.param 0x2802
          s.carriers.foldl (fun t i => t.missUpTo f i v) s
        else s
      let f := s0.hl.frame.getD f
      let s1 := (s0.count 646 (b2n s0.frozen)).count 644 (b2n (f.use == .captured && f.slotAt.isSome))
      let fe := s0.hl.a.fe.getD []
      let s2 : State :=
        if f.prot then
          match s1.failCause f cut fe with
          | none => s1.framePasses f
          | some c => (s1.frameDropped f).frameFails f c
        else if cut.isSome || !f.bad.isEmpty then s1.frameDropped f
        else s1.framePasses f
      s2.clearGroups

end Sys2Proof.Machine
end

