-- ==== Sys2Proof/Machine/Lanes.lean ====
section
/-! DEFINITION. The lanes of the Vorul link: 130-bit blocks, block sets, ordered sets, the per-lane scramblers, and the packet headers in the byte stream they carry (R173 to R176, R184 to R186), with the source's side of the same rules. -/

namespace Sys2Proof.Machine

/-! ## Blocks (R173) -/

/-- Sync header 01: a data block. The first bit sent is bit 0. -/
def blockData (b : LinkBlock) : Bool := !b.getLsbD 0 && b.getLsbD 1

/-- Sync header 10: an ordered-set block. -/
def blockOrdered (b : LinkBlock) : Bool := b.getLsbD 0 && !b.getLsbD 1

/-- The 128 payload bits of a block as a number, the first bit sent lowest. -/
def blockBits (b : LinkBlock) : Nat := b.toNat / 4

/-- A data block of 128 payload bits. -/
def dataBlock (bits : Nat) : LinkBlock := BitVec.ofNat 130 (4 * (bits % 2 ^ 128) + 2)

/-- An ordered-set block of 16 bytes. -/
def orderedBlock (bytes : List Byte) : LinkBlock := BitVec.ofNat 130 (4 * leAt bytes 0 16 + 1)

/-! ## Ordered sets (R175) -/

/-- The ordered sets of R175. -/
inductive OrderedSet | ts1 | ts2 | sof | eios
deriving DecidableEq, Repr

/-- The ordered set of a type byte. -/
def orderedOf (type : Nat) : Option OrderedSet :=
  if type = 0x1E then some .ts1 else if type = 0x2D then some .ts2
  else if type = 0x4B then some .sof else if type = 0x66 then some .eios else none

/-- The ordered set a block is, by its type byte. -/
def blockSetOf (b : LinkBlock) : Option OrderedSet :=
  if blockOrdered b then orderedOf (blockBits b % 256) else none

/-- The bytes of a TS1 or TS2: type, lane in the group, group, lane rate in 100 Mbit/s, and twelve fill bytes. -/
def tsBytes (type fill lane group rate : Nat) : List Byte :=
  [Byte.of type, Byte.of lane, Byte.of group, Byte.of rate] ++ List.replicate 12 (Byte.of fill)

/-- A lane's TS2. -/
def ts2Bytes (i : Side) (lane rate : Nat) : List Byte := tsBytes 0x2D 0x45 lane i.code rate

/-- A block that counts as an error in ACTIVE: a sync header of 00 or 11, an ordered set of another type, or a TS2 after the first SOF (R173, R175). -/
def LaneGroup.blockWrong (g : LaneGroup) (b : LinkBlock) : Bool :=
  if blockData b then false
  else if !blockOrdered b then true
  else match blockSetOf b with
    | none => true
    | some .ts2 => g.sofSeen
    | some _ => false

/-! ## Lanes and scramblers (R171, R174, R176) -/

/-- Lanes of one group in use, D0 upward (R171). -/
def State.groupLanes (s : State) : Nat := s.param 0x2401 / 2

/-- Link lane of a group's D0 (R209). -/
def laneBase (i : Side) : Nat := match i with | .left => 0 | .right => 8

/-- The link lanes that carry a stream, in the order of its bytes: a group's, or in WIDE16 all sixteen (R174). -/
def State.streamLanes (s : State) (i : Side) : List Nat :=
  let own (k : Side) : List Nat := (List.range s.groupLanes).map (laneBase k + ·)
  if s.wide then own .left ++ own .right else own i

/-- The scrambler seed of a link lane: its number in the group, or in WIDE16 in the link (R176). -/
def State.laneSeed (s : State) (n : Nat) : BitVec 31 := 0x7FFFFFE0 + BitVec.ofNat 31 (if s.wide then n else n % 8)

/-- A scrambler over `n` payload bits, the first bit lowest: the bits on the other side, and the register after them (R176). Scrambling and descrambling are the same. -/
def scramble : Nat → Nat → Nat → Nat × Nat
  | 0, x, _ => (0, x)
  | n + 1, x, w =>
    let k := (x / 2 ^ 30 + x / 2 ^ 27) % 2
    let (rest, y) := scramble n ((2 * x + k) % 2 ^ 31) (w / 2)
    ((w + k) % 2 + 2 * rest, y)

/-- The blocks of one block set through their lanes' scramblers: 16 clear bytes of each lane, and the registers after them. -/
def descrambleSet : List LinkBlock → List (BitVec 31) → List (List Byte) × List (BitVec 31)
  | _, [] => ([], [])
  | bs, x :: xs =>
    let (w, y) := scramble 128 x.toNat (blockBits (bs.headD 0))
    let (lanes, ys) := descrambleSet bs.tail xs
    (toLe 16 w :: lanes, BitVec.ofNat 31 y :: ys)

/-- The stream bytes of a block set of N lanes: byte j is byte j / N of lane j mod N (R174). -/
def setBytes (lanes : List (List Byte)) : List Byte :=
  let n := lanes.length
  (List.range (16 * n)).map fun j => byteAt (lanes.getD (j % n) []) (j / n)

/-- The byte stream of successive data block sets, and the registers after it. -/
def descrambleSets (xs : List (BitVec 31)) : List (List LinkBlock) → List Byte × List (BitVec 31)
  | [] => ([], xs)
  | b :: rest =>
    let (lanes, ys) := descrambleSet b xs
    let (tail, zs) := descrambleSets ys rest
    (setBytes lanes ++ tail, zs)

/-- The lanes' registers of a stream. -/
def State.streamRegs (s : State) (i : Side) : List (BitVec 31) := (s.streamLanes i).map fun n => s.hl.scr.toList.getD n 0

/-- Registers put in place of a list of lanes'. -/
def putRegs (v : Vector (BitVec 31) 16) (lanes : List Nat) (xs : List (BitVec 31)) : Vector (BitVec 31) 16 :=
  (lanes.zip xs).foldl (fun v e => v.setIfInBounds e.1 e.2) v

/-- The byte stream that block sets carry, and the state with their lanes' scramblers moved on (R174, R176). -/
def State.descramble (s : State) (i : Side) (sets : List (List LinkBlock)) : List Byte × State :=
  let (bytes, ys) := descrambleSets (s.streamRegs i) sets
  (bytes, { s with hl := { s.hl with scr := putRegs s.hl.scr (s.streamLanes i) ys } })

/-- The scramblers of a stream are at their seeds, as from a SOF on (R176). -/
def State.seedLanes (s : State) (i : Side) : State :=
  { s with hl := { s.hl with scr := putRegs s.hl.scr (s.streamLanes i) ((s.streamLanes i).map s.laneSeed) } }

/-! ## Packet headers (R184, R186) -/

/-- The fields of a packet header and whether its CRC8 holds. -/
structure PacketHeader where
  type : Nat
  length : Nat
  enc : Bool
  reserved : Nat
  good : Bool
deriving DecidableEq, Repr

/-- The header at the start of a packet's bytes, [31:24] first (R184). -/
def headerOf (bs : List Byte) : PacketHeader :=
  let w := beNat (slice bs 0 3)
  { type := w / 2 ^ 20, length := w / 256 % 4096, enc := bit w 7, reserved := w % 128,
    good := crc8 (slice bs 0 3) == (byteAt bs 3).toNat }

/-- The limit each type sets on LENGTH, in units of 16 bytes; none for a type that does not exist (R186). A ROW has at least the two units that its fields and CRC take (R189). -/
def lengthLimit (type : Nat) : Option (Nat × Nat) :=
  match type with
  | 1 => some (1, 1)
  | 2 => some (2, 4095)
  | 3 => some (2, 2)
  | 4 => some (2, 32)
  | 5 => some (2, 4095)
  | 6 => some (1, 1)
  | 7 => some (0, 4095)
  | 8 => some (1, 32)
  | _ => none

/-- Whether a header with a good CRC8 names a packet: a known type, LENGTH within its limit, the reserved bits 0, and ENC only on ROW and SURF (R184, R186). -/
def PacketHeader.known (h : PacketHeader) : Bool :=
  (lengthLimit h.type).any (fun l => decide (l.1 ≤ h.length) && decide (h.length ≤ l.2)) && h.reserved == 0 && (!h.enc || h.type == 2 || h.type == 5)

/-- What the bytes of a packet's block sets are: a header whose CRC8 fails, a packet to be skipped, one whose end has not come, or a packet with its payload. -/
inductive Heard
  | badHeader
  | unknown
  | cut
  | packet (type : Nat) (enc : Bool) (payload : List Byte)
deriving DecidableEq, Repr

/-- A packet read from the byte stream (R184 to R186). What follows its payload is pad. -/
def hear (bs : List Byte) : Heard :=
  let h := headerOf bs
  if !h.good then .badHeader
  else if !h.known then .unknown
  else if bs.length < 4 + 16 * h.length then .cut
  else .packet h.type h.enc (slice bs 4 (16 * h.length))

/-! ## The source's side (R174, R176, R184, R185) -/

/-- The header of a packet: type, LENGTH and ENC with their CRC8. -/
def headerBytes (type length : Nat) (enc : Bool) : List Byte :=
  let b := (toLe 3 (type * 2 ^ 20 + length % 4096 * 256 + 128 * b2n enc)).reverse
  b ++ [Byte.of (crc8 b)]

/-- A packet's bytes. -/
def packetBytes (type : Nat) (enc : Bool) (payload : List Byte) : List Byte :=
  headerBytes type (payload.length / 16) enc ++ payload

/-- One block set that carries the first 16 N bytes of `bs`, filled with 0x00, through the lanes' scramblers. -/
def laneSet (bs : List Byte) (n : Nat) : List (BitVec 31) → Nat → List LinkBlock × List (BitVec 31)
  | [], _ => ([], [])
  | x :: xs, l =>
    let (w, y) := scramble 128 x.toNat (leAt ((List.range 16).map fun k => byteAt bs (n * k + l)) 0 16)
    let (rest, ys) := laneSet bs n xs (l + 1)
    (dataBlock w :: rest, BitVec.ofNat 31 y :: ys)

/-- `k` block sets that carry `bs`. -/
def laneSets (bs : List Byte) : Nat → List (BitVec 31) → List (List LinkBlock)
  | 0, _ => []
  | k + 1, xs =>
    let n := xs.length
    let (set, ys) := laneSet bs n xs 0
    set :: laneSets (bs.drop (16 * n)) k ys

/-- The block sets in which a source whose scramblers stand as the device's do sends a packet. -/
def State.wire (s : State) (i : Side) (type : Nat) (enc : Bool) (payload : List Byte) : List (List LinkBlock) :=
  let bs := packetBytes type enc payload
  let xs := s.streamRegs i
  laneSets bs ((bs.length + 16 * xs.length - 1) / (16 * xs.length)) xs

end Sys2Proof.Machine
end

