-- ==== Sys2Proof/Machine/Link.lean ====
section
/-! DEFINITION. The Vorul link as a whole: training attempts and series, entering and leaving ACTIVE and IDLE, and the votes of the host link (R179 to R183, R203 to R206). -/

namespace Sys2Proof.Machine

/-- State code of a lane group (R179). -/
def LinkState.code : LinkState → Nat
  | .idle => 0 | .clkDetect => 1 | .phase => 2 | .equalize => 3 | .deskew => 4 | .active => 5

/-- SOURCE of a host-link event of one group: 2 in WIDE16 (R208). -/
def State.hlSource (s : State) (i : Side) : Nat := if s.wide then 2 else i.code

/-- A group enters a state with nothing received (R179, R182). -/
def LaneGroup.enter (g : LaneGroup) (st : LinkState) : LaneGroup :=
  { g with st := st, blockErrs := [], skipToSof := false, sofSeen := false, lastFs := none }

/-- The groups that `p` names enter a state, and a state field of STATUS changes (R202). As group A leaves IDLE the back-channel leaves high impedance, with negative running disparity (R179, R200). -/
def State.enterLink (s : State) (p : Side → Bool) (st : LinkState) : State :=
  let go (i : Side) (g : LaneGroup) : LaneGroup := if p i then g.enter st else g
  let h := { s.hl with a := go .left s.hl.a, b := go .right s.hl.b, statusDue := true }
  { s with hl := if s.hl.a.st == .idle then { h with bcMinus := true, bcAt := s.now } else h }

/-- A training attempt of some groups begins (R181, R209). -/
def State.newAttempt (s : State) (p : Side → Bool) (st : LinkState) : State :=
  let s1 := s.enterLink p st
  { s1 with hl := { s1.hl with attempts := s1.hl.attempts + 1, attemptsTotal := s1.hl.attemptsTotal + 1 } }

/-- A series of attempts begins at once (R181, R182). -/
def State.startSeries (s : State) (p : Side → Bool) (st : LinkState) : State :=
  ({ s with hl := { s.hl with attempts := 0, trainFrom := s.now, backoff := false, trainWanted := false } }).newAttempt p st

/-- Whether a group is in a state. -/
def State.groupIs (s : State) (st : LinkState) (i : Side) : Bool := (s.hl.group i).st == st

/-- The groups that are in none of IDLE and ACTIVE. -/
def State.groupTrains (s : State) (i : Side) : Bool := !s.groupIs .idle i && !s.groupIs .active i

/-- A forwarded clock is present on some group. -/
def State.clockPresent (s : State) : Bool := s.hl.a.clockPresent || s.hl.b.clockPresent

/-- Training that is wanted begins once the function runs: an IDLE group enters CLK_DETECT as soon as its own domain is on, and one that comes later joins the attempt (R205, R206). -/
def State.tryTrain (s : State) : State :=
  let p (i : Side) : Bool := s.groupIs .idle i && s.domOn (match i with | .left => dHla | .right => dHlb)
  if !s.hl.trainWanted || s.fn.hostLink.stopped || !(p .left || p .right) then s
  else
    let s1 := if s.groupIs .idle .left && s.groupIs .idle .right then s.startSeries p .clkDetect else s.enterLink p .clkDetect
    { s1 with hl := { s1.hl with trainWanted := s1.groupIs .idle .left || s1.groupIs .idle .right } }

/-- HL_BC goes high-impedance: what waits is never sent, and the mailboxes whose last fragment waits are released (R117, R201). -/
def State.bcLost (s : State) : State :=
  s.hl.tx.foldl (fun t m => m.last.elim t t.release) { s with hl := { s.hl with tx := [] } }

/-- Both groups go IDLE (R179). A clock that still runs is no activity until it has stopped once (R205). -/
def State.linkIdle (s : State) : State :=
  let s1 := s.enterLink (fun _ => true) .idle
  let h := s1.hl
  ({ s1 with hl := { h with statusDue := false, trainWanted := false, a := { h.a with idleSeen := !h.a.clockPresent }, b := { h.b with idleSeen := !h.b.clockPresent } } }).bcLost

/-- Partial in-band requests are discarded (R117, R183). R207 does not say whether one discarded because the link left ACTIVE counts in HL_UNKNOWN_PKT: it does not (DESIGN CHOICE, assumption 77). -/
def State.dropPartial (s : State) : State :=
  (s.onMb .mb0 fun m => { m with fill := false }).onMb .mb1 fun m => { m with fill := false }

/-- The HLA and HLB votes are withdrawn (R203, R204). -/
def State.dropLinkVote (s : State) : State := { s with hl := { s.hl with vote := false, backoff := false, trainWanted := false } }

/-- The groups leave ACTIVE (R182, R183): EV_HL_LINK_DOWN, the partial request and the input frame in progress end, and the next state is entered: both groups go to IDLE, or the ACTIVE ones back to training. Two groups that leave together are one exit in HL_RETRAIN (DESIGN CHOICE, assumption 76). -/
def State.linkDown (s : State) (cause : Nat) (next : LinkState) : State :=
  let planned := cause == 1 || cause == 7
  let source := if s.wide || (s.groupIs .active .left && s.groupIs .active .right) then 2 else b2n (s.groupIs .active .right)
  let s1 := ((s.event 0x2403 (if planned || cause == 8 then .info else .warning) true source cause).count 589
    (b2n (!planned && cause != 2))).count 591 (b2n (cause == 2))
  let s2 := (s1.dropPartial.inputEnd (some 4)).clearGroups
  let s2 : State := { s2 with hl := { s2.hl with sleepIdle := none } }
  if next = .idle then s2.linkIdle.dropLinkVote else s2.startSeries (s.groupIs .active) next

/-- An attempt fails: the groups that train go on with the next one of the series, or the device returns to IDLE with EV_HL_TRAIN_FAIL (R181). A group that is ACTIVE stays so through the other's next attempt, and one that trains restarts with it (DESIGN CHOICE, assumption 75). -/
def State.attemptFailed (s : State) (i : Side) (lane : Nat) : State :=
  let st := (s.hl.group i).st.code
  let s1 := s.count 590 1
  if s.hl.attempts < s.param 0x2409 then s1.newAttempt s.groupTrains .clkDetect
  else
    let s2 := ((s1.dropPartial.inputEnd (some 4)).clearGroups).linkIdle
    ({ s2 with hl := { s2.hl with backoff := true, lastFailState := st } }).event 0x2401 .error true (s.hlSource i)
      (st * 2 ^ 24 + lane * 65536 + sat 65535 s.hl.attempts)

/-- A group reaches ACTIVE; with both there, the link is up (R179, R208). -/
def State.groupActive (s : State) (i : Side) : State :=
  let s1 := s.onGroup i fun g => { g.enter .active with skipToSof := true }
  let s2 : State := { s1 with hl := { s1.hl with statusDue := true } }
  if !s2.linkActive then s2
  else
    ({ s2 with hl := { s2.hl with laneErr := Vector.replicate 16 0 } }).event 0x2402 .info true 2
      (sat 65535 s2.hl.attempts * 65536 + sat 65535 ((s2.now - s2.hl.trainFrom) / us 1))

/-- A qualified wake of the host link (R205, R206): the votes, the clock seen, and training as soon as it can run. -/
def State.linkWake (s : State) (i : Side) : State :=
  let s1 := s.onGroup i fun g => { g with clockPresent := true }
  ({ s1 with hl := { s1.hl with vote := s1.hl.vote || !s1.fn.hostLink.stopped, trainWanted := true } }).tryTrain

/-- The host link stops: the link goes IDLE and the raster passes into HOLD (R162, R182, R250). -/
def State.linkStop (s : State) : State :=
  let s1 :=
    if s.groupIs .active .left || s.groupIs .active .right then s.linkDown 7 .idle
    else s.linkIdle.dropLinkVote
  s1.sourceIdle .stopHold false

/-- The host link starts: its domains are voted on, and training begins where a forwarded clock is present (R163, R179). -/
def State.linkStart (s : State) : State :=
  ({ s with hl := { s.hl with vote := true, trainWanted := s.clockPresent } }).tryTrain

/-- FUNC_RESET of the host link: a running link retrains, a stopped one only loses its partial requests (R133). -/
def State.linkReset (s : State) : State :=
  if s.fn.hostLink.stopped then s.dropPartial
  else if s.groupIs .active .left || s.groupIs .active .right then s.linkDown 8 .clkDetect
  else if s.groupTrains .left || s.groupTrains .right then s.dropPartial.startSeries s.groupTrains .clkDetect
  else s.dropPartial

end Sys2Proof.Machine
end

