-- ==== Sys2Proof/Machine/Funcs.lean ====
section
/-! DEFINITION. Stopping, starting and resetting functions at frame starts, and FUNC_STATE (R132, R133, R161 to R163, R289). -/

namespace Sys2Proof.Machine

/-- Some of the listed domains are DOMAIN_FAILED. -/
def State.anyFailed (s : State) (ds : List (Fin 19)) : Bool := ds.any s.domFailed

/-- A domain that a function runs in is DOMAIN_FAILED (R519). -/
def State.funcFailed (s : State) : Func → Bool
  | .hostLink => s.anyFailed [dHla, dHlb]
  | .sensing => s.anyFailed [dBobl, dBobr, dPipe]
  | .raster => s.anyFailed [dPipe, dSram0, dSram1, dBobl, dBobr]
  | _ => s.anyFailed [dPipe, dSram0, dSram1]

/-- A function is neutral because a part it relies on is unavailable (R28). -/
def State.funcLacks (s : State) : Func → Bool
  | .overdrive => s.memLost || !s.odValid
  | .pricking => s.memLost || !s.boot.compensated || !s.planesValid
  | .applique => s.memLost
  | .sensing => s.memLost
  | _ => false

/-- STATE of FUNC_STATE (R132). -/
def State.funcStateCode (s : State) (f : Func) : Nat :=
  if s.funcFailed f then 4 else if s.funcStopped f then 1 else if s.isDegraded f then 2 else if s.funcLacks f then 3 else 0

/-- The held response of a function change: OK and FRAME (R161, R163). -/
def State.answerFunc (s : State) (mb : Option Mb) (f : Func) (frame : BitVec 32) : State :=
  mb.elim s fun i => s.answerHeld i (.funcOp f) stOk (toLe 4 frame.toNat)

/-- FUNC_STARTs of the host link that still wait for a live frame: answered BUSY when the link stops (R163). -/
def State.cutStarts (s : State) : State :=
  let (live, rest) := s.fn.pend.partition (·.live)
  live.foldl (fun t p => p.mb.elim t fun i => t.answerHeld i (.funcOp p.func) stBusy []) { s with fn := { s.fn with pend := rest } }

/-- FUNC_STARTs of the host link are answered with frame `n`: the first live frame, or the next frame where none is waited for any more (R161, R163). -/
def State.liveStarts (s : State) (n : BitVec 32) : State :=
  let (live, rest) := s.fn.pend.partition (·.live)
  live.foldl (fun t p => t.answerFunc p.mb p.func n) { s with fn := { s.fn with pend := rest } }

/-- What the reset frame of FUNC_RESET clears (R133). -/
def State.funcClear (s : State) (f : Func) : State :=
  match f with
  | .pricking => { s with prk := { s.prk with folds := [], passOn := false, passHeld := false } }
  | .applique => { s with apq := { s.apq with hdrs := [], tiles := [], cached := Vector.replicate 4 false, clipRestart := s.apq.clipRestart || s.apq.clip.isSome } }
  | .hostLink => s.linkReset
  | .sensing => s.senseReset
  | _ => s

/-- A function runs again after its reset frame (R133): the dither phase is 0 and a clip's time 0 in this frame. -/
def State.funcResume (s : State) (f : Func) : State :=
  let s1 := s.onFunc f fun x => { x with inReset := false }
  match f with
  | .dither => { s1 with pipe := { s1.pipe with phase := 0xFF } }
  | .applique => { s1 with apq := { s1.apq with clip := s1.apq.clip.map fun c => { c with time0 := s1.now, step := 0 } } }
  | _ => s1

/-- A change of a function takes effect, in frame `n` (R133, R161, R163). -/
def State.funcTake (s : State) (p : FuncPend) (n : BitVec 32) : State :=
  match p.change with
  | .stop =>
    let s1 := s.onFunc p.func fun x => { x with stopped := true, inReset := false }
    let s2 := if p.func = .hostLink then s1.cutStarts.linkStop else s1
    s2.answerFunc p.mb p.func n
  | .start =>
    let s1 := s.onFunc p.func fun x => { x with stopped := false }
    let s2 := if p.func == .overdrive || p.func == .dither then s1.sramWanted else s1
    s2.answerFunc p.mb p.func n
  | .reset =>
    let s1 := (s.onFunc p.func fun x => { x with inReset := p.func != .hostLink }).funcClear p.func
    let atOnce := p.func == .hostLink || (s1.fn.get p.func).stopped
    let s2 := if atOnce then s1.answerFunc p.mb p.func n else s1
    let back : FuncPend := { func := p.func, change := .restart, target := n + 1, mb := if atOnce then none else p.mb, live := false }
    if p.func = .hostLink then s2 else { s2 with fn := { s2.fn with pend := s2.fn.pend ++ [back] } }
  | .restart => (s.funcResume p.func).answerFunc p.mb p.func n

/-- The changes due at the start of frame `n` (R161). -/
def State.funcFrame (s : State) (n : BitVec 32) : State :=
  let due (p : FuncPend) : Bool := !p.live && p.target == n
  let ps := s.fn.pend.filter due
  ps.foldl (fun t p => t.funcTake p n) { s with fn := { s.fn with pend := s.fn.pend.filter fun p => !due p } }

/-- While no frames run a change takes effect at once, and FRAME names the next frame (R161); a reset frame is over with it. -/
def State.funcNow (s : State) (p : FuncPend) : State :=
  let n := s.ras.frame + 1
  let s1 := s.funcTake p n
  let backs := s1.fn.pend.filter fun q => q.func == p.func && q.change == .restart
  let s2 := { s1 with fn := { s1.fn with pend := s1.fn.pend.filter fun q => !(q.func == p.func && q.change == .restart) } }
  backs.foldl (fun t q => t.funcTake q n) s2

/-- The raster has stopped: the changes that waited for a frame take effect (R161). -/
def State.funcFlush (s : State) : State :=
  let ps := s.fn.pend.filter fun p => !p.live
  let s1 := ps.foldl (fun t p => t.funcNow p) { s with fn := { s.fn with pend := s.fn.pend.filter (·.live) } }
  s1.liveStarts (s.ras.frame + 1)

/-- A change of a function other than the raster is asked for by a mailbox (R161, R163). -/
def State.funcAsk (s : State) (f : Func) (c : FuncChange) (i : Mb) : Reply :=
  let p : FuncPend := { func := f, change := c, target := s.ras.frame + BitVec.ofNat 32 s.ahead, mb := some i, live := false }
  if s.framesRun then .hold (.funcOp f) { s with fn := { s.fn with pend := s.fn.pend ++ [p] } }
  else .reply stOk (toLe 4 (s.ras.frame + 1).toNat) (s.funcNow { p with mb := none })

/-- FUNC_STATE's layout: FUNC (1), reserved (3) (R132). -/
def funcLayout (code : Nat) : Cmd := .fixed code 4 fun p => zeroAt p 1 3

/-- One entry of FUNC_STATE's response. -/
def State.funcEntry (s : State) (f : Func) : List Byte :=
  [Byte.of f.code, Byte.of (s.funcStateCode f), Byte.of (s.fn.get f).profile, 0]

/-- FUNC_STATE of one function or of all (R132). -/
def runFuncState (p : List Byte) (s : State) : Reply :=
  let c := (byteAt p 0).toNat
  if c = 0xFF then .reply stOk (((List.range 7).filterMap fun k => funcOf? (k + 1)).flatMap s.funcEntry) s
  else
    match funcOf? c with
    | none => .refuse stOutOfRange s
    | some f => .reply stOk (s.funcEntry f) s

/-- FUNC_STATE (R132). -/
def execFuncState (mb : Mb) (s : State) : Out := s.serve mb (funcLayout 0x0032) runFuncState

/-- FUNC_RESET of a function (R133). -/
def runFuncReset (mb : Mb) (p : List Byte) (s : State) : Reply :=
  match funcOf? (byteAt p 0).toNat with
  | none => .refuse stOutOfRange s
  | some f =>
    if f = .raster then .refuse stDenied s
    else if s.isDegraded f then .refuse stBusy s
    else if s.funcFailed f then .refuse stDomainFailed s
    else s.funcAsk f .reset mb

/-- FUNC_RESET (R133). -/
def execFuncReset (mb : Mb) (s : State) : Out := s.serve mb (funcLayout 0x00F0) (runFuncReset mb)

end Sys2Proof.Machine
end

