-- ==== Sys2Proof/Machine/Arbiter.lean ====
section
/-! DEFINITION. The memory controller: the clients' buffers in SRAM0 and SRAM1, what each has still to fetch or to write back, the tolerance it publishes, which request the next burst serves, underruns, and the sleep of GDDR7 (R273, R275 to R278, R284, R290). -/

namespace Sys2Proof.Machine

/-! ## The buffers (R277) -/

/-- Bytes a client moves for one half-row: of a layer row its share of the cap of R32, of a row to be concealed the first 2 KiB (R31, R273; the share is a DESIGN CHOICE, assumption 91). -/
def State.halfBytes (s : State) (c : MemClient) : Nat :=
  let w := s.param 0x2801 / 2
  match c with
  | .pricking => 16 * w
  | .layers => 8 * w
  | .stress => 6 * w
  | .conceal => min 2048 (4 * w)
  | _ => 4 * w

/-- Rows a client's buffer holds: at most 64, and two rows of concealment lookahead (R273, R277). -/
def State.bufRows (s : State) (c : MemClient) : Nat :=
  match c with
  | .conceal => 2
  | _ => min 64 (c.bufBytes / (2 * s.halfBytes c))

/-! ## What a client works for (R276, R277, R314, R342) -/

/-- Whether a change of a function takes effect at the next frame start (R133, R161). -/
def State.dueNext (s : State) (f : Func) (c : FuncChange) : Bool :=
  s.fn.pend.any fun p => p.func == f && p.change == c && p.target == s.ras.frame + 1 && !p.live

/-- Whether the next frame is a reset frame of a function (R133). -/
def State.resetNext (s : State) (f : Func) : Bool := s.dueNext f .reset || ((s.fn.get f).inReset && !s.dueNext f .restart)

/-- Whether a function is neutral in the next frame, by what is known of it now (R133, R161, R287, R288). -/
def State.outNext (s : State) (f : Func) : Bool :=
  let back := s.mem.restoreAll || (s.mem.degraded.reverse.head? == some f && s.param 0x2C08 ≤ s.mem.cleanFrames)
  s.dueNext f .stop || ((s.fn.get f).stopped && !s.dueNext f .start) || s.resetNext f || (s.isDegraded f && !back)

/-- Whether the next frame is a resident one (R282). -/
def State.residentNext (s : State) : Bool :=
  (s.mem.residence == .resident || s.mem.residence == .ready) && s.ras.active == .hold && !s.ras.markMoved && !s.ras.timingApplied && !s.mem.resOver

/-- Whether a frame number is an accumulation frame's; from T2 on every sixteenth is (R342, R527). -/
def State.accNumber (s : State) (n : BitVec 32) : Bool := n.toNat % (if 2 ≤ s.thm.step then 16 else 8) == 0

/-- Whether this frame accumulates stress (R342). PRK.STRESS_EN counts as the accumulation frame took it (R355). -/
def State.accFrame (s : State) : Bool := s.accNumber s.ras.frame && s.prk.stressEn && s.stressReady

/-- Whether stage 4 reads, and whether it writes, the attained-state plane (R314). -/
def OdState.reads : OdState → Bool
  | .run => true | .pass => true
  | _ => false
/-- See `OdState.reads`. -/
def OdState.writes : OdState → Bool
  | .memLost => false | .degraded => false
  | _ => true

/-- Whether some layer is drawn. -/
def State.anyLayer (s : State) : Bool := (List.range 4).any fun n => (s.layer n).on

/-- Whether the rows of the frame being scanned are a client's to bring. -/
def State.scans (s : State) (c : MemClient) : Bool :=
  s.ras.running && !s.ras.inBlank && !s.memLost && s.ras.kind != .black &&
  (match c with
    | .hoopScan => s.ras.kind == .hoop && s.mem.residence != .resident
    | .attainedRead => s.odState.reads
    | .pricking => !s.prkNeutral
    | .layers => !s.apqNeutral && s.anyLayer
    | .conceal => s.ras.kind == .live
    | .stress => s.accFrame
    | _ => false)

/-- Whether the next frame's rows are a client's to bring, by what is known of that frame now. -/
def State.awaits (s : State) (c : MemClient) : Bool :=
  s.ras.running && !s.memLost && s.pnl.st != .darkening &&
  (match c with
    | .hoopScan => s.liveSlot.isNone && !s.residentNext
    | .attainedRead => s.odValid && !s.isDegraded .overdrive && !s.resetNext .overdrive
    | .pricking => !s.outNext .pricking && (s.boot.compensated || s.boot.mapReady) && s.planesValid
    | .layers => !s.outNext .applique && s.anyLayer
    | .conceal => s.liveSlot.isSome
    | .stress => s.accNumber (s.ras.frame + 1) && s.stressRuns
    | _ => false)

/-- Whether a write-back client works at all. -/
def State.writesBack (s : State) (c : MemClient) : Bool :=
  !s.memLost &&
  (match c with
    | .hoopWrite => s.hl.frame.any fun f => f.use != .dropped && f.use != .rejected
    | .attainedWrite => s.ras.running && s.odState.writes
    | _ => false)

/-- Whether the row a client has in hand is one of the frame being scanned. -/
def State.inFrame (s : State) (i : Side) (c : MemClient) : Bool := s.scans c && (s.mem.fetch i c).held < s.ras.rowEnd

/-- Whether a client publishes a tolerance: not while it is idle (R276). -/
def State.publishes (s : State) (i : Side) (c : MemClient) : Bool := if c.writes then s.writesBack c || 0 < (s.mem.fetch i c).held else s.inFrame i c || s.awaits c

/-- Bytes a client has still to move of the row in hand; 0 where it asks for nothing. A fetch whose retry failed as well asks no more (R275). -/
def State.wants (s : State) (i : Side) (c : MemClient) : Nat :=
  let f := s.mem.fetch i c
  let left := s.halfBytes c - f.part
  if c.writes then if 0 < f.held then left else 0
  else
    let inBuf := (if s.scans c then f.held - s.ras.rowsStarted else 0) + f.ahead
    if 2 ≤ f.fails || s.bufRows c ≤ inBuf then 0
    else if s.inFrame i c || (s.awaits c && f.ahead < s.param 0x2802) then left else 0

/-! ## Tolerances (R276) -/

/-- A lower bound on the next frame start: the start where it is known; in SOURCE from the FS that has come, or from the repeat deadline and the FS lead (R243, R276). -/
def State.startBound (s : State) : Nat :=
  let e := s.earliestNext
  let lead := (s.param 0x2803 + 2) * s.ras.rowTime
  match s.nextStart? with
  | some t => t
  | none =>
    match s.hl.frame with
    | some f => if f.use == .captured && !f.decided then max e (f.fsAt + lead) else min (s.ras.start + s.deadlineTicks) (max e (s.now + lead))
    | none => min (s.ras.start + s.deadlineTicks) (max e (s.now + lead))

/-- The instant t_need of a client (R276). -/
def State.tNeed (s : State) (i : Side) (c : MemClient) : Nat :=
  let f := s.mem.fetch i c
  let tr := s.ras.rowTime
  if c.writes then s.now + (s.bufRows c - f.held) * tr
  else if s.inFrame i c then s.ras.start + f.held * tr
  else s.startBound + f.ahead * tr

/-- The tolerance in ns that one half of a client publishes, as of the last of its updates every 16 CK_PIPE cycles (R276). -/
def State.tolerance (s : State) (i : Side) (c : MemClient) : Option Nat :=
  let grid := if s.scaled then 32 else 16
  if s.publishes i c then some (sat 0xFFFFFFFF ((s.tNeed i c - s.now / grid * grid) * 5 / 6)) else none

/-- The smaller of two tolerances. -/
def minTol : Option Nat → Option Nat → Option Nat
  | some a, some b => some (min a b)
  | some a, none => some a
  | none, b => b

/-- MEM.TOL_CLIENTn (R276, R292). -/
def State.clientTol (s : State) (c : MemClient) : Option Nat := minTol (s.tolerance .left c) (s.tolerance .right c)

/-- MEM.TOL_MIN (R276); none when no client publishes one. -/
def State.tolMin (s : State) : Option Nat := memClients.foldl (fun m c => minTol m (s.clientTol c)) none

/-! ## Which request a burst serves (R275) -/

/-- A request that waits: a client's row, the rest of a row being concealed, or the oldest of class 4 or 5. -/
inductive MemTask
  | row (i : Side) (c : MemClient)
  | rest (i : Side)
  | ask (low : Bool)
deriving DecidableEq, Repr

/-- The place of a request of classes 1 to 3: first those below MEM.URGENT and concealment, then by class, tolerance and half (R275). -/
def taskKey (urgent : Bool) (cls tol : Nat) (i : Side) : Nat := ((b2n (!urgent) * 8 + cls) * 2 ^ 32 + tol) * 2 + i.code

/-- The requests of classes 1 to 3 with their places. -/
def State.rowTasks (s : State) : List (Nat × MemTask) :=
  let u := s.param 0x2C03
  [Side.left, .right].flatMap fun i =>
    (memClients.filterMap fun c =>
      if s.wants i c = 0 then none else (s.tolerance i c).map fun t => (taskKey (t < u) c.cls t i, MemTask.row i c)) ++
    (if 0 < s.mem.rest i && s.mem.restFails < 2 then
      [(taskKey true 1 (sat 0xFFFFFFFF ((s.ras.start + s.ras.rowsStarted * s.ras.rowTime - s.now) * 5 / 6)) i, MemTask.rest i)] else [])

/-- The first of some requests by place. -/
def firstTask : List (Nat × MemTask) → Option (Nat × MemTask)
  | [] => none
  | x :: xs =>
    match firstTask xs with
    | none => some x
    | some y => if x.1 ≤ y.1 then some x else some y

/-- Whether a request of class 4, or of class 5 (`low`), waits. -/
def State.asked (s : State) (low : Bool) : Bool := s.mem.asks.any fun a => a.low == low

/-- The request that the next burst serves (R275): classes 4 and 5 get what remains of their shares of 64 bursts at the latest when only that many are left, unless a client is below MEM.URGENT. -/
def State.nextTask (s : State) : Option MemTask :=
  let u := s.param 0x2C03
  let starved := memClients.any fun c => (s.clientTol c).any (· < u)
  let due4 := if s.asked false then 2 - s.mem.won4 else 0
  let due5 := if s.asked true then 1 - s.mem.won5 else 0
  if !starved && 0 < due4 + due5 && 64 ≤ s.mem.won + due4 + due5 then some (.ask (due4 == 0))
  else
    match firstTask s.rowTasks with
    | some t => some t.2
    | none => if s.asked false then some (.ask false) else if s.asked true then some (.ask true) else none

/-- GDDR7 traffic in units of 4 KiB, with the remainder carried (R290). -/
def State.traffic (s : State) (write : Bool) (n : Nat) : State :=
  if write then
    let k := s.mem.writeRem + n
    ({ s with mem := { s.mem with writeRem := k % 4096 } }).count 714 (k / 4096)
  else
    let k := s.mem.readRem + n
    ({ s with mem := { s.mem with readRem := k % 4096 } }).count 713 (k / 4096)

/-- The oldest request of a class moves `n` bytes, and is gone when all are moved. -/
def serveAsk (low : Bool) (n : Nat) : List MemAsk → List MemAsk
  | [] => []
  | a :: as => if a.low ≠ low then a :: serveAsk low n as else if a.left ≤ n then as else { a with left := a.left - n } :: as

/-- A burst for a request: its bytes arrive, unless a read's error-detection code failed; that is retried once (R275). -/
def State.serveTask (s : State) (t : MemTask) (b : Burst) : State :=
  match t with
  | .row i c =>
    let f := s.mem.fetch i c
    let n := min b.bytes (s.wants i c)
    let s1 := s.traffic c.writes n
    let s2 := if c = .stress then s1.traffic true n else s1
    let g : Fetch :=
      if b.edcFail && !c.writes then { f with fails := f.fails + 1 }
      else if f.part + n < s.halfBytes c then { f with part := f.part + n, fails := 0 }
      else if c.writes then { f with held := f.held - 1, part := 0 }
      else if s.inFrame i c then { f with held := f.held + 1, part := 0, fails := 0 }
      else { f with ahead := f.ahead + 1, part := 0, fails := 0 }
    { s2 with mem := s2.mem.setFetch i c g }
  | .rest i =>
    let n := min b.bytes (s.mem.rest i)
    let s1 := s.traffic false n
    if b.edcFail then { s1 with mem := { s1.mem with restFails := s1.mem.restFails + 1 } }
    else
      match i with
      | .left => { s1 with mem := { s1.mem with restL := s1.mem.restL - n, restFails := 0 } }
      | .right => { s1 with mem := { s1.mem with restR := s1.mem.restR - n, restFails := 0 } }
  | .ask low =>
    match s.mem.asks.find? fun a => a.low == low with
    | none => s
    | some a =>
      let n := min b.bytes a.left
      let s1 := s.traffic a.write n
      if b.edcFail && !a.write then s1 else { s1 with mem := { s1.mem with asks := serveAsk low n s1.mem.asks } }

/-- One burst is granted, where GDDR7 is awake and a request waits (R275). -/
def State.grantBurst (s : State) (b : Burst) : State :=
  if !s.domOn dMem || s.mem.sleep ≠ .active then s
  else
    match s.nextTask with
    | none => s
    | some t =>
      let s1 := s.serveTask t b
      let full := s.mem.won = 63
      let w4 := s.mem.won4 + b2n (t == .ask false)
      let w5 := s.mem.won5 + b2n (t == .ask true)
      { s1 with mem := { s1.mem with won := if full then 0 else s.mem.won + 1, won4 := if full then 0 else w4, won5 := if full then 0 else w5 } }

/-- The bursts granted since the last event, in order. -/
def State.grantBursts (s : State) (bs : List Burst) : State := bs.foldl State.grantBurst s

/-! ## Frames pass -/

/-- The vertical blank begins: a row of the frame just ended is in hand no more (R245, R277). -/
def State.fetchBlank (s : State) : State :=
  let turn (c : MemClient) (f : Fetch) : Fetch := if s.scans c && f.held < s.ras.rowEnd then { f with part := 0, fails := 0 } else f
  { s with mem := s.mem.mapFetch turn }

/-- A frame starts: the rows fetched ahead are now its own (R277). -/
def State.fetchTurn (s : State) : State :=
  let turn (c : MemClient) (f : Fetch) : Fetch := if c.writes then f else { f with held := f.ahead, ahead := 0 }
  { s with mem := { s.mem.mapFetch turn with restL := 0, restR := 0, restFails := 0 } }

/-- An abort discards every prefetch buffer (R285). -/
def State.fetchDrop (s : State) : State :=
  { s with mem := { s.mem.mapFetch (fun c f => if c.writes then f else Fetch.empty) with restL := 0, restR := 0, restFails := 0 } }

/-! ## Underruns (R284) -/

/-- One half's input buffer (R26). -/
def HostLink.buf (h : HostLink) : Side → List BufRow
  | .left => h.bufL | .right => h.bufR

/-- Whether a half's part of live row `n` comes from the hoop: it has not been received, or the frame has become a repeat (R27, R197). -/
def State.fromHoop (s : State) (i : Side) (n : Nat) : Bool :=
  s.ras.kind == .live && (s.ras.repeatFrom.any (· ≤ n) || !((s.hl.buf (if s.wide then .left else i)).any fun b => b.row == n))

/-- The clients of one half that have missed row `n`: a fetch of class 1 that does not hold its data, the rest of an earlier row that has not come, or a write-back buffer that cannot accept it (R284). A copy of the selected set still running at row 0 is the attained-state read's miss (R305). -/
def State.missing (s : State) (i : Side) (n : Nat) : List MemClient :=
  if s.memLost || s.ras.kind == .black then []
  else
    let restOf : MemClient := if s.ras.kind = .live then .conceal else .hoopScan
    memClients.filter fun c =>
      (c.cls == 1 && s.inFrame i c && (s.mem.fetch i c).held ≤ n && (c != .conceal || s.fromHoop i n)) ||
      (c == restOf && 0 < s.mem.rest i) || (c == .attainedRead && s.pipe.copyDue && n == 0) ||
      (c.writes && s.writesBack c && s.bufRows c ≤ (s.mem.fetch i c).held)

/-- Whether the stress client is late for row `n`: the row's accumulation is skipped (R284). -/
def State.stressLate (s : State) (n : Nat) : Bool :=
  [Side.left, .right].any fun i => s.inFrame i .stress && (s.mem.fetch i .stress).held ≤ n

/-- The counts and the event of an abort at row `n`, and the degrade step it may bring (R285, R287, R291). Every client that missed is counted; the event names the first by number (DESIGN CHOICE, assumption 92), on the half or halves where it missed. -/
def State.countAbort (s : State) (n : Nat) (l r : List MemClient) : State :=
  let k := s.mem.consecAborts + 1
  match memClients.filter fun c => l.contains c || r.contains c with
  | [] => s
  | c :: cs =>
    let source := if !r.contains c then 0 else if !l.contains c then 1 else 2
    let s0 := (c :: cs).foldl (fun t x => t.count x.stat 1) (s.count 704 1)
    let s1 := s0.event 0x2C01 .warning true source (n * 65536 + c.code * 256 + sat 16 k)
    let due := s.param 0x2C06 = 1 && s.param 0x2C07 ≤ k
    { s1 with mem := { s1.mem with consecAborts := if due then 0 else sat 16 k, cleanFrames := 0, degradeDue := s1.mem.degradeDue || due } }

/-! ## Sleep of GDDR7 (R278) -/

/-- Whether any request is queued. -/
def State.memQueued (s : State) : Bool := !s.mem.asks.isEmpty || !s.rowTasks.isEmpty

/-- MEM_SLEEP_ENTRY: with no request queued, self-refresh where its condition holds, else power-down where its does (R278). -/
def execMemSleepEntry (at_ : Nat) (bursts : List Burst) (s : State) : Out :=
  let s1 := (s.elapse at_).grantBursts bursts
  let above (n : Nat) : Bool := s1.tolMin.elim true fun t => n < t
  if !s1.domOn dMem || s1.memQueued || s1.mem.sleep = .selfRefresh then .next s1
  else if s1.param 0x2C00 = 2 && above (3000 + s1.param 0x2C01 + 1000 * s1.param 0x2C02) then
    .next { s1 with mem := { s1.mem with sleep := .selfRefresh } }
  else if s1.mem.sleep = .active && 1 ≤ s1.param 0x2C00 && above (40 + s1.param 0x2C01) then
    .next { s1 with mem := { s1.mem with sleep := .powerDown } }
  else .next s1

/-- Exit time of a low state in ns (R278). -/
def MemSleep.exitNs : MemSleep → Nat
  | .active => 0 | .powerDown => 40 | .selfRefresh => 3000

/-- MEM_SLEEP_EXIT: after the bursts granted since the last event the exit begins when TOL_MIN has fallen to the exit time and margin, or a class 4 or 5 request waits (R278). -/
def execMemSleepExit (at_ : Nat) (bursts : List Burst) (s : State) : Out :=
  let s1 := (s.elapse at_).grantBursts bursts
  let due := s1.tolMin.elim false fun t => t ≤ s1.mem.sleep.exitNs + s1.param 0x2C01
  if !s1.mem.asks.isEmpty || due then .next { s1 with mem := { s1.mem with sleep := .active } } else .next s1

end Sys2Proof.Machine
end

