-- ==== Sys2Proof/Machine/Panel.lean ====
section
/-! DEFINITION. Selvedge outputs, panel power, darkening, discharge, the rest sweep, Bobbin training and lock (R387 to R404, R339, R340). -/

namespace Sys2Proof.Machine

/-! ## Selvedge levels (R397 to R399) -/

/-- The selected waveform instance (R398). -/
def State.wave (s : State) : List Byte := (s.table (0x600 + s.param 0x4400)).bytes

/-- The logical level of a function. -/
def State.selPut (s : State) (f : Nat) (v : Bool) : State :=
  let l := s.sel.level
  { s with sel := { s.sel with level := if v then l ||| BitVec.ofNat 64 (2 ^ f) else l &&& ~~~(BitVec.ofNat 64 (2 ^ f)) } }

/-- An edge with the instant it falls on. -/
structure Placed where
  at_ : Int
  func : Nat
  level : Bool
deriving DecidableEq, Repr

/-- An edge put into a list that rises in time, behind those of its own instant. -/
def placeEdge (e : Placed) : List Placed → List Placed
  | [] => [e]
  | x :: xs => if e.at_ < x.at_ then e :: x :: xs else x :: placeEdge e xs

/-- Edges take effect in the order of their instants; emission and backlight stay at 0 while they are held off (R401, R402). -/
def State.runEdges (s : State) (es : List Placed) : State :=
  (es.foldl (fun l e => placeEdge e l) []).foldl (fun t e =>
    if 0x17 ≤ e.func && e.func ≤ 0x1A && !s.pnl.blOn then t else t.selPut e.func e.level) s

/-- An OFFSET as it is placed: with CK_PIPE divided it is rounded down to an even number of ticks (R532). -/
def State.edgeOffset (s : State) (o : Int) : Int := if s.scaled then 2 * (o / 2) else o

/-- The edges of a segment, their reference instant at `base`. -/
def State.segEdges (s : State) (seg : Nat) (base : Nat) : List Placed :=
  ((edgesOf s.wave).filter (·.segment == seg)).map fun e =>
    { at_ := (base : Int) + s.edgeOffset e.offset, func := e.func, level := e.level == 1 }

/-- The ROW edges of row `r`: GCK0's pulse goes to GCK(r mod K), EM0's to EM(r mod EM_PHASES) (R398). -/
def State.rowEdges (s : State) (r : Nat) : List Placed :=
  let k := (byteAt s.wave 16).toNat
  let em := (byteAt s.wave 17).toNat
  (s.segEdges 0 (s.ras.start + r * s.ras.rowTime)).map fun e =>
    if e.func = 1 then { e with func := 1 + r % k } else if e.func = 0x17 && 0 < em then { e with func := 0x17 + r % em } else e

/-- ROW edges of the rows that may still have some due. -/
def State.openRows (s : State) : List Placed :=
  let n := s.ras.rowsStarted
  let k := (byteAt s.wave 16).toNat
  ((List.range (min n (k + 1))).map fun i => n - 1 - i).flatMap s.rowEdges

/-- FRAME edges that come before a frame start (R398). -/
def State.earlyEdges (s : State) (start : Nat) : List Placed := (s.segEdges 1 start).filter fun e => e.at_ < start

/-- Edges of the frame that fall after what is already placed and no later than now: ROW and FRAME edges, BLANK edges in its vertical blank, the early FRAME edges of the next frame once its start is known, and `sense`, the edges of a sensed row (R399). One that was due before the start was known is placed behind what is already placed. -/
def State.selPlace (s : State) (sense : List Placed) : State :=
  if !s.sel.driven then s
  else
    let blank := if s.ras.inBlank && !s.ras.aborted then s.segEdges 2 s.ras.blankAt else []
    let rows := if s.ras.aborted then [] else s.openRows
    let next := if s.ras.inBlank then s.nextStart? else none
    let early := next.elim [] s.earlyEdges
    let late : List Placed := if s.sel.knownFor = next then []
      else (early.filter fun e => decide (e.at_ ≤ (s.sel.upto : Int))).map fun e => { e with at_ := s.sel.upto }
    let es : List Placed := rows ++ s.segEdges 1 s.ras.start ++ blank ++ early
    let es := es.filter fun e => decide ((s.sel.upto : Int) < e.at_) && decide (e.at_ ≤ (s.now : Int))
    let s1 := s.runEdges (late ++ es ++ sense)
    { s1 with sel := { s1.sel with upto := s.now, knownFor := next } }

/-- The frame's edges as far as now. -/
def State.selAdvance (s : State) : State := s.selPlace []

/-- A frame starts: FRAME edges and those of row 0 that fall on this instant are placed now, and early ones of a start that was not known before (R399). -/
def State.selFrame (s : State) : State :=
  if !s.sel.driven then s
  else
    let known := s.sel.knownFor = some s.ras.start
    let s1 := s.runEdges ((s.rowEdges 0 ++ s.segEdges 1 s.ras.start).filter fun e =>
      decide (e.at_ ≤ (s.now : Int)) && (!known || decide ((s.now : Int) ≤ e.at_)))
    { s1 with sel := { s1.sel with upto := s.now, knownFor := none } }

/-- A vertical blank begins: row-timing functions take their BLANK_LEVELS, but for those with ROW edges still due (R399). An abort blank drops those edges. -/
def State.selBlank (s : State) : State :=
  if !s.sel.driven then s
  else
    let due := if s.ras.aborted then [] else (s.openRows.filter fun e => decide ((s.now : Int) < e.at_)).map (·.func)
    (List.range 0x22).foldl (fun t f => if rowTiming f && !due.contains f then t.selPut f (bit (leAt s.wave 20 8) f) else t) s

/-- BL_EN and EM0 to EM3 are held at 0 (R401 to R403). -/
def State.emitOff (s : State) : State :=
  let s1 := [0x15, 0x17, 0x18, 0x19, 0x1A].foldl (fun t f => t.selPut f false) s
  { s1 with pnl := { s1.pnl with blOn := false } }

/-- BL_EN is asserted (R401). -/
def State.emitOn (s : State) : State :=
  let s1 := s.selPut 0x15 true
  { s1 with pnl := { s1.pnl with blOn := true } }

/-! ## PNL.STATE (R400) -/

/-- Code of PNL.STATE (R400). -/
def PanelState.code : PanelState → Nat
  | .off => 0 | .poweringOn => 1 | .training => 2 | .on => 3 | .darkening => 4 | .restSweep => 5 | .poweringOff => 6

/-- PNL.STATE changes: PANEL_READY is set in state 3 only, and EV_PNL_STATE is raised (R400, R406). -/
def State.panelState (s : State) (st : PanelState) (cause : Nat) : State :=
  if s.pnl.st = st then s
  else
    ({ s with pnl := { s.pnl with st := st, cause := cause }, boot := { s.boot with panelReady := st == PanelState.on } }).event 0x4801
      (if cause = 4 ∨ cause = 5 ∨ cause = 6 then .warning else .info) true 2 (st.code * 2 ^ 24 + cause)

/-- The power sequence reaches a step now. -/
def State.panelStep (s : State) (p : PowerStep) : State := { s with pnl := { s.pnl with step := p, stepAt := s.now } }

/-! ## The raster stops (R259, R403) -/

/-- A continuity transition is abandoned: before its apply nothing applies and its values stay staged; after it they stand (R259). -/
def State.dropTransition (s : State) : State :=
  match s.ras.transition with
  | none => s
  | some t =>
    let s1 : State := { s with ras := { s.ras with transition := none } }
    if t.phase = .applied then if t.cmd then s1.endJob 0x0040 stOk else s1
    else
      let via := s.par.waiting.filter (·.viaTransition)
      let back := via.flatMap (·.values)
      let staged := back.foldl (fun l v => if (aget? l v.1).isSome then l else aset l v.1 v.2) s.par.staged
      let t4 : T4 := match s.thm.t4 with
        | .starting => .none
        | .leaving => .inForce
        | x => x
      let s2 : State := { s1 with par := { s1.par with staged := staged, waiting := s.par.waiting.filter fun c => !c.viaTransition },
                                  thm := { s1.thm with t4 := t4 } }
      if t.cmd then s2.endJob 0x0040 stBusy else s2

/-- The raster stops: what waited for a frame applies at once, as R155 and R161 say of a stopped raster. -/
def State.rasterStop (s : State) : State :=
  if !s.ras.running then s
  else
    let s0 := s.dropTransition
    let ws := s0.par.waiting
    let s1 := ws.foldl State.applyCommit { s0 with par := { s0.par with waiting := [] } }
    let s2 := if s1.ras.modeAt.isSome then s1.endJob 0x0040 stOk else s1
    let r := { s2.ras with running := false, inBlank := true, liveStart := none, repeats := [], pull := none,
                           ladderStep := 0, modeAt := none, heldChange := none, tagHold := s2.ras.tagHold }
    (({ s2 with ras := r, prk := { s2.prk with clearDue := false, senseDue := [] } }).funcFlush).raiseRetired

/-! ## Stopping the panel (R402 to R404, R340) -/

/-- The rest sweep ends (R340): EV_PRK_REST. -/
def State.restEnd (s : State) (how : Nat) : State :=
  if !s.prk.rest then s
  else
    ({ s with prk := { s.prk with rest := false } }).event 0x3403 (if how = 1 then .info else .warning) true 2
      (how * 2 ^ 24 + s.prk.restRows)

/-- The discharge step begins (R403). -/
def State.discharge (s : State) (cause : Nat) : State := ((s.rasterStop.emitOff).panelState .poweringOff cause).panelStep .discharge

/-- Whether a rest sweep runs (R339). -/
def State.restRuns (s : State) : Bool :=
  s.pnl.restWanted && s.param 0x4800 == 1 && !s.fn.sensing.stopped && !s.funcFailed .sensing && !s.memLost

/-- Darkening is over: the rest sweep, or the discharge step (R339, R403). -/
def State.afterDark (s : State) : State :=
  if s.restRuns then
    let s1 := (s.rasterStop.emitOff).panelState .restSweep s.pnl.cause
    { s1 with prk := { s1.prk with rest := true, restRows := 0 } }
  else s.discharge s.pnl.cause

/-- An input frame that was shown live is received on without row slots (R241). -/
def State.unshow (s : State) : State :=
  s.onFrame fun f => if f.use = .live then { f with use := .captured } else f

/-- A PANEL_ON or a FUNC_START of the raster still running ends (R404). -/
def State.endPanelOn (s : State) (status : Nat) : State := (s.endJob 0x00D0 status).endJob 0x0031 status

/-- Darkening begins (R402): after the frame in progress for PANEL_OFF, after the row whose slot has started for a safe stop. -/
def State.darken (s : State) (cause : Nat) (rest : Bool) : State :=
  let s1 := (s.endPanelOn stBusy).dropTransition.panelState .darkening cause
  let p := { s1.pnl with blackLeft := s1.param 0x4811, blackDue := true, restWanted := rest }
  let s2 : State := { s1 with pnl := p }
  if !s2.ras.running then s2.afterDark
  else if cause = 2 || s2.ras.inBlank then s2
  else ({ s2 with ras := { s2.ras with rowEnd := max 1 s2.ras.rowsStarted } }).unshow

/-- PANEL_OFF (cause 2), PANEL_SAFE_STOP (3) or the hardware safe stop (4) in each state (R402 to R404); a blank in which one begins senses no rows (R333). -/
def State.panelStop (s : State) (cause : Nat) (rest : Bool) : State :=
  match s.pnl.st with
  | .off => s
  | .poweringOff => s
  | .poweringOn => (s.endPanelOn stBusy).discharge cause
  | .training => (s.endPanelOn stBusy).discharge cause
  | .on => s.senseCut.darken cause rest
  | .darkening => if cause = 2 then s else State.senseCut { s with pnl := { s.pnl with restWanted := false } }
  | .restSweep => if cause = 2 then s else (s.restEnd 3).discharge cause

/-- The hardware safe stop of R99, skipped in state 0. -/
def State.hardStop (s : State) : State :=
  if s.pnl.st = .off then s
  else
    let s1 := (s.count 1028 1).panelStop 4 false
    { s1 with pnl := { s1.pnl with hardware := true } }

/-- PFW in any state but 0: the sequence of R403 for PFW from the step reached (R403, R404). -/
def State.panelPfw (s : State) : State :=
  match s.pnl.st with
  | .off => s
  | .poweringOff => { s with pnl := { s.pnl with pfwStop := true } }
  | _ =>
    let s1 := ((s.endPanelOn stBusy).restEnd 3).discharge 5
    { s1 with pnl := { s1.pnl with pfwStop := true } }

/-- MEM is lost and no source sends: the panel-safe stop of R29. -/
def State.idleSafeStop (s : State) : State :=
  if s.memLost && s.ras.running && s.pnl.st == .on && !s.linkActive then (s.count 1028 1).panelStop 3 false else s

/-- The panel is off (R403): the outputs are released, the commands complete, every zone is missing (R308), and the orderly shutdown follows PANEL_OFF and PANEL_SAFE_STOP unless a hardware safe stop joined them (R348). -/
def State.panelOffDone (s : State) : State :=
  let cause := s.pnl.cause
  let z : Zone := { temp := 0, at_ := none, missing := true }
  let s1 := (s.panelState .off cause).panelStep .none
  let s2 : State := { s1 with
    pnl := { s1.pnl with enables := 0, pfwStop := false, restWanted := false, blackLeft := 0, blackDue := false, blOn := false },
    sel := { s1.sel with driven := false, level := 0 },
    pipe := { s1.pipe with zones := Vector.replicate 24 z, snap := { s1.pipe.snap with taken := false, validCount := 0 } },
    bob := { s1.bob with lockState := 0, phase := 0, lanes := Vector.replicate 6 [], lossSeen := 0 } }
  let s3 := (((s2.endPanelOn stCheckFailed).endJob 0x00D1 stOk).endJob 0x00D2 stOk).endJob 0x0030 stOk
  if (cause = 2 ∨ cause = 3) ∧ !s.pnl.hardware then s3.orderlyShutdown else s3

/-- DISCHARGE_STEP_END: the SAFE edges have run (R403). -/
def execDischargeStepEnd (s : State) : Out :=
  if s.pnl.step ≠ .discharge then .next s
  else
    let es := s.segEdges 4 s.pnl.stepAt
    let last : Nat := es.foldl (fun m e => max m (Int.toNat (e.at_ - (s.pnl.stepAt : Int)))) 0 + us 10
    let len := if s.pnl.pfwStop then min last (us 200) else last
    let s1 := (s.elapse (s.pnl.stepAt + len)).runEdges (es.filter fun e => decide (e.at_ ≤ (s.pnl.stepAt + len : Nat)))
    match (List.range 4).reverse.find? fun k => bit (s1.param 0x4807) k with
    | some k => done (s1.panelStep (.disable k))
    | none => done s1.panelOffDone

/-- PANEL_POWER_OFF_STEP: a PNL.PWR_OFF_DELAY ends, and its enable drops; after the last one the panel is off (R403). -/
def execPanelPowerOffStep (s : State) : Out :=
  match s.pnl.step with
  | .disable k =>
    let d := us (s.param (0x480C + k))
    let s1 := (s.elapse (s.pnl.stepAt + if s.pnl.pfwStop then min d (us 100) else d)).selPut (0x1B + k) false
    let s2 : State := { s1 with pnl := { s1.pnl with enables := s1.pnl.enables &&& ~~~(BitVec.ofNat 4 (2 ^ k)) } }
    match (List.range k).reverse.find? fun j => bit (s2.param 0x4807) j with
    | some j => done (s2.panelStep (.disable j))
    | none => done s2.panelOffDone
  | _ => .next s

/-! ## Powering on (R401) -/

/-- The first of BOB_MAP, PNL_PANEL and SEL_MAP that fails over active values; `tab` takes in the clause on the waveform instance. -/
def State.panelSetFails (s : State) (tab : Bool) : Option Nat := [11, 12, 13].find? fun k => !s.setRule tab s.param k

/-- PANEL_ON's sequence begins: every used output at logical 0, every zone unreported, and drivers with their STATUS at reset (R309, R392, R401). -/
def State.panelStart (s : State) : State :=
  let z : Zone := { temp := 0, at_ := none, missing := true }
  let s1 := (s.panelState .poweringOn 1).panelStep .hold
  { s1 with
    pnl := { s1.pnl with enables := 0, hardware := false, pfwStop := false, restWanted := false, blackLeft := 0, blackDue := false, blOn := false },
    sel := { s1.sel with driven := true, level := 0, upto := s1.now },
    pipe := { s1.pipe with zones := Vector.replicate 24 z, snap := { s1.pipe.snap with taken := false, validCount := 0 } },
    bob := { s1.bob with lockLoss := Vector.replicate 24 0, crcErr := Vector.replicate 24 0, lossSeen := 0 } }

/-- Rate code of a TRAIN block, in 100 Mbit/s (R379). -/
def laneRateCode (r : Nat) : Nat := match r with | 0 => 12 | 1 => 24 | _ => 48

/-- A training attempt begins: BOB_LOCK_N is pulled low, unless no board profile is applied and the ball stays high-impedance (R47, R93, R387, R388, R405). -/
def State.trainAttempt (s : State) (n : Nat) : State :=
  let b := { s.bob with lockState := 1, attempt := n, phase := 1, attemptAt := s.now, driversOk := 0,
                        lineHigh := s.bob.lineHigh && !s.boot.profileOk, lanes := Vector.replicate 6 [], rate := laneRateCode (s.param 0x4000) }
  (({ s with bob := b }).sendTrain 1).count 1026 1

/-- Training begins (R401). -/
def State.beginTraining (s : State) : State := ((s.panelState .training 1).panelStep .none).trainAttempt 1

/-- The first enabled PWR_EN at or above `k`. -/
def State.enableFrom (s : State) (k : Nat) : Option Nat := (List.range 4).find? fun j => k ≤ j && bit (s.param 0x4807) j

/-- PWR_EN `k` is asserted (R401). -/
def State.assertEnable (s : State) (k : Nat) : State :=
  let s1 := s.selPut (0x1B + k) true
  let s2 : State := { s1 with pnl := { s1.pnl with enables := s1.pnl.enables ||| BitVec.ofNat 4 (2 ^ k) } }
  s2.panelStep (if (s2.enableFrom (k + 1)).isSome then .enable k else .settle)

/-- A delay ends, and the next enable at or above `k` is asserted after PWR_ON_DELAY; with none left, training begins. -/
def State.powerNext (s : State) (hold k : Nat) : State :=
  match s.enableFrom k with
  | some j => (s.elapse (s.pnl.stepAt + hold + us (s.param (0x4808 + j)))).assertEnable j
  | none => (s.elapse (s.pnl.stepAt + hold)).beginTraining

/-- PANEL_POWER_ON_STEP: one interval of the power-on sequence ends (R94, R401). -/
def execPanelPowerOnStep (s : State) : Out :=
  if s.pnl.st ≠ .poweringOn || !s.domOn dBobl || !s.domOn dBobr then .next s
  else
    match s.pnl.step with
    | .hold => done (s.powerNext (us 10) 0)
    | .enable k => done (s.powerNext 0 (k + 1))
    | .settle => done (s.elapse (s.pnl.stepAt + us (s.param 0x4810))).beginTraining
    | _ => .next s

/-! ## Bobbin training (R388, R389) -/

/-- The drivers that have not passed. -/
def State.driversLeft (s : State) : List Nat := s.allDrivers.filter fun g => !s.bob.driversOk.getLsbD g

/-- The BOB.INIT list as sent: it ends at the first entry with address 0 (R388). -/
def State.bobInit (s : State) : List (Nat × Nat) :=
  (((List.range 64).map fun i => s.param (0x4090 + i)).takeWhile (fun v => v / 65536 != 0)).map fun v => (v / 65536, v % 65536)

/-- What phase 4 writes to driver `g`: DRIVER_INDEX, COLUMNS, DEPTH and SENSE_POS, then the BOB.INIT list in order (R388, R392). -/
def State.configWrites (s : State) (g : Nat) : List BobPacket :=
  cfgWrite 0x0010 [g, s.param 0x4003, s.param 0x4803, g % 12 % 4] :: s.bobInit.map fun e => cfgWrite e.1 [e.2]

/-- Phase 4: the writes go out and CAPS is asked of every driver, one at a time on each sense-return lane (R388, R394). -/
def State.configDrivers (s : State) : State :=
  let b := { s.bob with phase := 4, initList := s.bobInit }
  let b := (List.range 6).foldl (fun b l => b.setLane l ((s.laneDrivers l).map .caps)) b
  let heads := (List.range 6).filterMap fun l => (b.lane l).head?.map LaneReq.packet
  State.sendPackets { s with bob := b } (fun g => s.configWrites g ++ (heads.filter fun e => e.1 == g).map (·.2)) s.allDrivers

/-- Every driver has passed (R389): LOCK_STATE 2, or 3 while the line reads low; the lanes are idle. -/
def State.trained (s : State) : State :=
  let b := { s.bob with phase := 0, lockState := if s.bob.lineHigh then 2 else 3, trainTime := sat 65535 ((s.now - s.bob.attemptAt) / us 1),
                        lowBlanks := 0, lockFailRaised := false, lowThisFrame := !s.bob.lineHigh }
  (({ s with bob := b }).sendFill).panelState .on 7

/-- An attempt fails: another one, or EV_BOB_TRAIN_FAIL and the power-off without black frames (R389). -/
def State.trainFailed (s : State) : State :=
  if s.bob.attempt < s.param 0x4007 then s.trainAttempt (s.bob.attempt + 1)
  else
    let mask := s.driversLeft.foldl (fun m g => m + 2 ^ g) 0
    (s.event 0x4001 .error true 2 (s.bob.attempt * 2 ^ 24 + mask)).discharge 6

/-- BOBBIN_TRAINING_PHASE_END (R388, R389). -/
def execBobbinTrainingPhaseEnd (s : State) : Out :=
  if s.pnl.st ≠ .training then .next s
  else
    let at_ (n : Nat) : State := s.elapse (s.bob.attemptAt + us n)
    match s.bob.phase with
    | 1 => let t := at_ 100; .next (State.sendTrain { t with bob := { t.bob with phase := 2 } } 2)
    | 2 => let t := at_ 150; .next (State.sendTrain { t with bob := { t.bob with phase := 3 } } 3)
    | 3 => .next (if s.bob.lineHigh then s else at_ (s.param 0x4005)).configDrivers
    | 4 =>
      if s.driversLeft.isEmpty then done s.trained
      else done (at_ (s.param 0x4005 + s.param 0x4006)).trainFailed
    | _ => .next s

/-- BOB_LOCK_N_FALL: in operation the lock is lost (R390); while the panel darkens that is only counted (R404). -/
def execBobLockNFall (s : State) : Out :=
  let s1 : State := { s with bob := { s.bob with lineHigh := false } }
  if s.bob.lockState ≠ 2 then .next s1
  else if s.pnl.st = .darkening then .next { s1 with bob := { s1.bob with lowThisFrame := true } }
  else .next { s1 with bob := { s1.bob with lockState := 3, lowBlanks := 0, lockFailRaised := false, lowThisFrame := true } }

/-- BOB_LOCK_N_RISE: LOCK_STATE returns to 2 (R390). -/
def execBobLockNRise (s : State) : Out :=
  let s1 : State := { s with bob := { s.bob with lineHigh := true } }
  .next (if s.bob.lockState = 3 then { s1 with bob := { s1.bob with lockState := 2 } } else s1)

/-- A vertical blank while the line is low: after BOB.LOCK_BLANKS of them EV_BOB_LOCK_FAIL is raised once (R390); while the panel darkens none is (R404). -/
def State.lockBlank (s : State) : State :=
  if s.bob.lockState ≠ 3 || s.pnl.st = .darkening then s
  else
    let n := s.bob.lowBlanks + 1
    let s1 : State := { s with bob := { s.bob with lowBlanks := n } }
    if s.param 0x4008 ≤ n && !s.bob.lockFailRaised then
      ({ s1 with bob := { s1.bob with lockFailRaised := true } }).event 0x4003 .error true 2 (sat 255 n)
    else s1

/-- A frame in which BOB_LOCK_N fell or stayed low is counted as it ends (R390). -/
def State.lockFrame (s : State) : State :=
  let down := (s.bob.lockState == 2 || s.bob.lockState == 3) && !s.bob.lineHigh
  ({ s with bob := { s.bob with lowThisFrame := down } }).count 1025 (b2n (s.bob.lowThisFrame || down))

/-! ## Sensed rows (R332, R339, R340, R396) -/

/-- SENSED_ROW: in its 30 µs the row slot's row is measured at LO and HI and rewritten with what it carried in the frame just ended; its index goes out on SADDR, and the SENSE edges select it (R332, R334, R396, R398). -/
def execSensedRow (slot : Fin 4) (s : State) : Out :=
  let b := s.prk.blank
  match s.prk.senseDue[slot.val]? with
  | none => .next s
  | some r =>
    if !s.ras.inBlank || slot.val ≠ b.rows.length then .next s
    else
      let from_ := s.ras.blankAt + s.ras.rowTime + us (30 * slot.val)
      let s1 := (s.elapse (from_ + us 30)).selPlace (s.segEdges 3 from_)
      let k := s.prk.sweepK + 1
      let wrap := s.param 0x2802 ≤ k
      let p := { s.prk with blank := { b with rows := b.rows ++ [r] }, sweepK := if s.prk.sweepFresh then s.prk.sweepK else if wrap then 0 else k,
                            sweepCount := if wrap && !s.prk.sweepFresh then s.prk.sweepCount + 1 else s.prk.sweepCount }
      let s2 := State.sendSensed { s1 with prk := p, sel := { s1.sel with saddr := r } } (s.sentRow r) slot.val s.prk.senseLevels (s.ras.kind == .black)
      .next (s2.count 832 1)

/-- REST_SWEEP_ROW: one row is sensed dark and folded; after the last the sweep is complete (R339). -/
def execRestSweepRow (results : List (BitVec 16)) (s : State) : Out :=
  if s.pnl.st ≠ .restSweep then .next s
  else
    let s1 := (s.restRow results).runEdges (s.segEdges 3 s.now)
    if s1.prk.restRows < s1.param 0x2802 then done s1 else done ((s1.restEnd 1).discharge s1.pnl.cause)

/-- REST_LIMIT_EXPIRY: the sweep ends and PANEL_OFF continues (R340). -/
def execRestLimitExpiry (s : State) : Out :=
  if s.pnl.st ≠ .restSweep then .next s else done ((s.restEnd 2).discharge s.pnl.cause)

/-- MAP_STORE_DONE: the stored copy of a plane or of the curve is complete or has failed, and its pending bit clears (R330). -/
def execMapStoreDone (table : BitVec 16) (failed : Bool) (s : State) : Out :=
  let id := table.toNat
  let i := id % 256
  let objs := if id / 256 = 4 then [objPlane i 0, objPlane i 1] else if id = 0x0500 then [objCurve 0, objCurve 1] else []
  match s.nv.stores.find? fun x => objs.contains x.object with
  | none => .next s
  | some x =>
    let s1 := (s.endStore x.object failed).1
    if s1.nv.stores.any fun y => objs.contains y.object then done s1
    else if id = 0x0500 then done { s1 with prk := { s1.prk with curvePending := false } }
    else done { s1 with prk := { s1.prk with storePending := s1.prk.storePending &&& ~~~(BitVec.ofNat 6 (2 ^ i)) } }

/-! ## Commands -/

/-- What PANEL_ON answers and does (R401). -/
def State.panelOnReply (s : State) (payload : List Byte) : Reply :=
  match s.pnl.st with
  | .on => .reply stOk payload s
  | .off =>
    if s.anyFailed [dPipe, dSram0, dSram1, dBobl, dBobr] then .refuse stDomainFailed s
    else if (s.panelSetFails true).isSome then .refuse stMismatch s
    else .accept payload s State.panelStart
  | _ => .refuse stBusy s

/-- PANEL_ON (R401). -/
def execPanelOn (mb : Mb) (s : State) : Out := s.serve mb (.bare 0x00D0) fun _ t => t.panelOnReply []

/-- PANEL_OFF with its OPTIONS (R402, R404). -/
def runPanelOff (p : List Byte) (s : State) : Reply :=
  if s.pnl.st = .off then .reply stOk [] s else .accept [] s fun t => t.panelStop 2 (bit (le4 p 0) 0)

/-- PANEL_OFF (R402). -/
def execPanelOff (mb : Mb) (s : State) : Out := s.serve mb (.fixed 0x00D1 4 fun p => le4 p 0 < 2) runPanelOff

/-- PANEL_SAFE_STOP (R402, R404). -/
def State.safeStopReply (s : State) (payload : List Byte) : Reply :=
  if s.pnl.st = .off then .reply stOk payload s else .accept payload s fun t => (t.count 1028 1).panelStop 3 false

/-- PANEL_SAFE_STOP (R402). -/
def execPanelSafeStop (mb : Mb) (s : State) : Out := s.serve mb (.bare 0x00D2) fun _ t => t.safeStopReply []

/-- FUNC_STOP of a function (R161, R162, R289); of the raster it performs PANEL_SAFE_STOP. -/
def runFuncStop (mb : Mb) (p : List Byte) (s : State) : Reply :=
  let now := toLe 4 s.ras.frame.toNat
  match funcOf? (byteAt p 0).toNat with
  | none => .refuse stOutOfRange s
  | some f =>
    if s.funcFailed f then .refuse stDomainFailed s
    else if f = .raster then if s.pnl.st = .off then .reply stOk now s else s.safeStopReply (toLe 4 (s.ras.frame + 1).toNat)
    else if s.isDegraded f then
      .reply stOk now (({ s with mem := { s.mem with degraded := s.mem.degraded.filter (· != f) } }).onFunc f fun x => { x with stopped := true })
    else if s.funcStopped f then .reply stOk now s
    else s.funcAsk f .stop mb

/-- FUNC_STOP (R161). -/
def execFuncStop (mb : Mb) (s : State) : Out := s.serve mb (funcLayout 0x0030) (runFuncStop mb)

/-- The staged S values of a function become active together (R163). -/
def State.takeStaged (s : State) (f : Func) : State :=
  let vs := s.stagedS f
  let s1 := s.applyValues vs
  State.mapCheck { s1 with par := { s1.par with staged := s1.par.staged.filter fun v => !(pClass? v.1 == some .s && pOwner v.1 == f) } }

/-- FUNC_START of the host link: training starts, and the answer waits for the first live frame unless no frames run (R161, R163). -/
def State.startLink (s : State) (mb : Mb) : Reply :=
  let s0 : State := { s with eyes := { s.eyes with holding := false } }
  let s1 := (s0.onFunc .hostLink fun x => { x with stopped := false }).linkStart
  if !s.framesRun then .reply stOk (toLe 4 (s.ras.frame + 1).toNat) s1
  else
    let p : FuncPend := { func := .hostLink, change := .start, target := 0, mb := some mb, live := true }
    .hold (.funcOp .hostLink) { s1 with fn := { s1.fn with pend := s1.fn.pend ++ [p] } }

/-- FUNC_START of a function (R163). -/
def runFuncStart (mb : Mb) (p : List Byte) (s : State) : Reply :=
  let now := toLe 4 s.ras.frame.toNat
  match funcOf? (byteAt p 0).toNat with
  | none => .refuse stOutOfRange s
  | some f =>
    if s.isDegraded f then .refuse stBusy s
    else if !s.funcStopped f then .reply stOk now s
    else if f = .raster && s.pnl.st != .off then s.panelOnReply now
    else
      let own := s.failingSet true false (s.stagedS f)
      match if f = .raster then own.or ((s.takeStaged f).panelSetFails true) else own with
      | some k => .refuse stMismatch (s.logOnly 0x0505 .warning mb.num (f.code * 2 ^ 24 + k))
      | none =>
        if s.funcFailed f then .refuse stDomainFailed s
        else if f = .raster then (s.takeStaged f).panelOnReply (toLe 4 (s.ras.frame + 1).toNat)
        else if f = .hostLink then (s.takeStaged f).startLink mb
        else (s.takeStaged f).funcAsk f .start mb

/-- FUNC_START (R163). -/
def execFuncStart (mb : Mb) (s : State) : Out := s.serve mb (funcLayout 0x0031) (runFuncStart mb)

end Sys2Proof.Machine
end

