-- ==== Sys2Proof/Machine/Reset.lean ====
section
/-! DEFINITION. What a reset, the loss of the domains' power and limp mode do to the state, and the start of a restart (R98 to R106, R118, R142, R450). -/

namespace Sys2Proof.Machine

/-! ## Causes (R106) -/

/-- RESET_CAUSE bits of R106. -/
abbrev rcPin : Nat := 2
/-- KEYED. -/
abbrev rcKeyed : Nat := 4
/-- LOCKSTEP. -/
abbrev rcLockstep : Nat := 8
/-- FW_WDOG. -/
abbrev rcFwWdog : Nat := 16
/-- BOOT_WDOG. -/
abbrev rcBootWdog : Nat := 32
/-- THERMAL. -/
abbrev rcThermal : Nat := 64
/-- PLL_LOSS. -/
abbrev rcPll : Nat := 128

/-! ## Losing every domain -/

/-- A domain goes *off* at once; its residency counters and nothing else stay (R99, R521). -/
def Domain.cut (d : Domain) : Domain :=
  { Domain.initial with resOn := d.resOn, resRet := d.resRet, resOff := d.resOff }

/-- Boot state when every domain but AON has lost its power: a slot that hung keeps its result (R87, R88, R105). -/
def Boot.cut (b : Boot) (now : Nat) : Boot :=
  { b with startAt := now, startLead := 0, slot := false, fallback := false, warm := false,
           result0 := if b.failed0 then .bootWatchdog else .notTried, result1 := if b.failed1 then .bootWatchdog else .notTried,
           memReady := false, mapReady := false, panelReady := false, compensated := false, checking := none, bootWdog := false,
           fwVersion := 0, secVersion := 0, pendingReset := none, rootLocked := false, profileId := 0, profileOk := false,
           mapWaitOver := false, mapLoaded := false }

/-- Flash work in hand is lost with CTRL and NVM; flash contents and the values in AON SRAM stay (R99, R493). -/
def Nv.cut (n : Nv) : Nv :=
  { n with st := .notScanned, write := none, queue := [], erase := none, badSectors := [], stores := [], ties := [] }

/-- A lane group keeps only what AON's detectors see (R506). -/
def LaneGroup.cut (g : LaneGroup) : LaneGroup :=
  { LaneGroup.initial with clockPresent := g.clockPresent, idleSeen := g.idleSeen }

/-- A port keeps its ID range, which AON SRAM holds (R414). -/
def TatPortState.cut (p : TatPortState) : TatPortState := { TatPortState.initial with first := p.first, last := p.last }

/-- The net state that survives: the ID, depth and ranges of the last enumeration (R414). -/
def Tatting.cut (t : Tatting) : Tatting :=
  { Tatting.initial with up := t.up.cut, dn0 := t.dn0.cut, dn1 := t.dn1.cut, id := t.id, depth := t.depth, netSize := t.netSize,
                         netDepth := t.netDepth }

/-- Every domain except AON loses its power, and with it all it held; sessions end with a cause, reported later (R99, R216, R235). -/
def State.wipe (s : State) (sessionCause : Nat) : State :=
  let s1 := s.endSessions sessionCause .atProfile
  { s1 with
    boot := s1.boot.cut s1.now, box := .initial, eyes := State.reset.eyes, par := State.reset.par, fn := .initial, tab := [],
    pwr := { Power.initial with dom := s1.pwr.dom.map Domain.cut, wakeVote := s1.pwr.wakeVote },
    thm := { s1.thm with step := 0, reqRate := 0, reqCause := 1, floor := 0, t4 := .none, coolFrom := none, t4Refused := false, risePend := false },
    mem := .initial, cmp := .initial, nv := s1.nv.cut, ras := { Raster.initial with frame := s1.ras.frame },
    pipe := .initial, prk := .initial, apq := .initial, pnl := .initial, bob := .initial,
    sel := State.reset.sel, hl := { HostLink.initial with a := s1.hl.a.cut, b := s1.hl.b.cut },
    sec := { Security.initial with fuse := s1.sec.fuse, idCounter := s1.sec.idCounter, endEvents := s1.sec.endEvents, unlocked := s1.sec.unlocked },
    tat := s1.tat.cut }

/-- A mailbox that was rung while CTRL was not *on*: it stays PENDING; its buffers were in CTRL memory, which has lost them (R110, R124). -/
def Mailbox.kept (m : Mailbox) : Mailbox :=
  if m.st = .pending then { Mailbox.initial with st := .pending, tag := m.tag, origin := m.origin, overrun := m.overrun, rungAt := m.rungAt } else .initial

/-- The mailboxes of the window as CTRL comes *on* from *off*: doorbells stay in their order; MB3's requests, held in CTRL memory, are gone (R124). -/
def Boxes.kept (b : Boxes) : Boxes :=
  { Boxes.initial with mb0 := b.mb0.kept, mb1 := b.mb1.kept, mb2 := b.mb2.kept, order := b.order.filter (· != .mb3) }

/-- A restart that is no reset of R99 (a wake from *off*, deep standby): everything is lost but the doorbells rung before it (R98, R124). -/
def State.restart (s : State) (sessionCause : Nat) : State := { s.wipe sessionCause with box := s.box.kept }

/-- CTRL stands *on* at once, as the boot ROM starts (R82, R103, R110). IRQ_STATUS.WAKE is set here too, though a start is no wake of R507 or R512 (DESIGN CHOICE, assumption 68). -/
def State.ctrlStarts (s : State) : State :=
  let s1 := s.onDom dCtrl fun d => { d with st := .on, phase := .settled, target := .on, latched := false, idleFrom := none, fails := 0, leftOff := false }
  s1.irq 7

/-- The recovery service: no slot passes, or both have hung (R89, R104). -/
def State.enterRecovery (s : State) : State :=
  (State.setStage { s with boot := { s.boot with checking := none } } .recovery).faultBit 1

/-- The boot ROM starts, with the root PLL locked: STAGE ROM_VERIFY, and the slot R87 tries first; SWAP_ONCE is used up. -/
def State.romStart (s : State) : State :=
  let s1 := (State.ctrlStarts { s with boot := { s.boot with rootLocked := true } }).setStage .romVerify
  if s1.boot.failed0 && s1.boot.failed1 then s1.enterRecovery
  else
    let f := s1.slotTried
    { s1 with boot := { s1.boot with firstSlot := f, checking := some f, swapOnce := false } }

/-! ## Limp mode (R103) -/

/-- Limp mode holds from now on: FAULT_N by LIMP, the root PLL off, and the log names why. -/
def State.limpMark (s : State) (why : Nat) : State :=
  (State.faultBit { s with boot := { s.boot with limp := true, rootLocked := false } } 0).logOnly 0x0506 .fatal 3 why

/-- The boot ROM of limp mode runs on CTRL from the ring oscillator. -/
def State.limpRuns (s : State) : State := s.ctrlStarts.setStage .limp

/-- Limp mode is entered, and its boot ROM starts. -/
def State.enterLimp (s : State) (why : Nat) : State := (s.limpMark why).limpRuns

/-! ## A reset takes effect (R99 to R106) -/

/-- FAULT_CAUSE after a reset: LIMP, THERMAL and LOCKSTEP stay, NO_FIRMWARE until an update has passed (R104). -/
def State.faultAfter (s : State) : BitVec 32 :=
  s.boot.faultCause &&& BitVec.ofNat 32 (if s.boot.updated then 0x0D else 0x0F)

/-- The window registers that a reset returns to their reset values (R118). -/
def Window.afterReset (w : Window) : Window :=
  { Window.initial with scratch0 := w.scratch0, scratch1 := w.scratch1, wakeCause := w.wakeCause, svcAddr := w.svcAddr,
                        csLow := w.csLow, ctlDead := w.ctlDead, ctlDrive := w.ctlDrive, sdaHeld := w.sdaHeld }

/-- Severity of the RESET entry (R457). -/
def resetSeverity (causes : Nat) : Severity :=
  if causes = 1 then .info else if bit causes 3 || bit causes 6 then .fatal else .warning

/-- A reset of R99 takes effect: domains off, window and statistics restarted, RESET_CAUSE rewritten, RESET logged. A cause of the same CK_AON tick as the reset before is recorded with it, and the earliest of them stays the first (R102, R106). IRQ_STATUS.EVQ is set again at once while the event queue, which the reset keeps, is not empty (R120). -/
def State.resetCore (s : State) (causes earliest : BitVec 32) (coincide : Bool) : State :=
  let again := s.boot.resetAt.any fun t => t / 1000 == s.now / 1000
  let all := if again then s.boot.resetCause ||| causes else causes
  let first : BitVec 32 := if again then s.boot.resetFirst else earliest
  let s1 := s.wipe 2
  let s2 : State := { s1 with
    win := { s1.win.afterReset with irqStatus := if s1.evq.entries.isEmpty then 0 else 8 },
    stat := { live := [], copy := [], period := 0, startAt := s1.now, frames := 0, endTime := 0 },
    pwr := { s1.pwr with wakeVote := 0 },
    boot := { s1.boot with resetCause := all, faultCause := s.faultAfter, updated := false, key := none, resetAt := some s.now, resetFirst := first },
    sec := { s1.sec with unlocked := false } }
  let s3 := s2.logOnly 0x0500 (resetSeverity all.toNat) 3 all.toNat
  let held := if (coincide || again) && s.log.first.isNone && s3.log.first.isNone then
      some (s2.entry 0x0500 (resetSeverity first.toNat) false 3 first.toNat) else s3.log.first
  let s4 : State := { s3 with log := { s3.log with first := held } }
  if causes.getLsbD 3 then s4.faultBit 3 else s4

/-- What follows the reset. A thermal shutdown comes first, in limp mode and with any other cause joined: every domain stays *off* until R100's restart. Else limp mode after a PLL loss or in limp mode, its boot ROM waiting for the release of RESET_N, and otherwise AON_UP until the root PLL has locked (R79, R98 to R104). -/
def State.resetTakes (s : State) (causes earliest : BitVec 32) (coincide : Bool) : State :=
  let s1 := s.resetCore causes earliest coincide
  let s2 := if causes.getLsbD 6 then State.faultBit { s1 with boot := { s1.boot with thermalOff := true } } 2 else s1
  let s3 := if causes.getLsbD 7 && !s2.boot.limp then s2.limpMark 3 else s2
  if s3.boot.thermalOff then s3.setStage .shutdown
  else if s3.boot.resetPin then s3.setStage .aonUp
  else if s3.boot.limp then s3.limpRuns
  else s3.setStage .aonUp

/-- The pending reset is due: a PFW that is asserted is served first (R102). -/
def State.resetDue (s : State) : State :=
  match s.boot.pendingReset with
  | none => s
  | some p =>
    if s.vin.pfw && !s.vin.saved then { s with boot := { s.boot with pendingReset := some { p with safeStop := false } } }
    else s.resetTakes p.causes p.earliest p.coincide

/-- A cause of reset arises: it joins a pending one, or waits for the hardware safe stop of a powered panel and for a power-fail save (R99, R102). -/
def State.resetCause (s : State) (cause : Nat) : State :=
  let c := BitVec.ofNat 32 cause
  match s.boot.pendingReset with
  | some p =>
    { s with boot := { s.boot with pendingReset := some { p with causes := p.causes ||| c, coincide := p.coincide || p.tick == s.now / 1000 } } }
  | none =>
    let stop := s.pnl.st != .off
    let p : PendingReset := { causes := c, safeStop := stop, earliest := c, tick := s.now / 1000, coincide := false }
    let s1 : State := { s with boot := { s.boot with pendingReset := some p } }
    if stop then s1.hardStop else s1.resetDue

/-- Every pending cause with one more, for a reset that does not wait (R102). -/
def State.causesWith (s : State) (cause : Nat) : BitVec 32 :=
  (s.boot.pendingReset.elim 0 fun p => p.causes) ||| BitVec.ofNat 32 cause

/-- The earliest of the pending causes. -/
def State.earliestCause (s : State) (cause : Nat) : BitVec 32 :=
  s.boot.pendingReset.elim (BitVec.ofNat 32 cause) fun p => p.earliest

/-- Whether a cause arising now falls into the tick of the pending one. -/
def State.coincides (s : State) : Bool := s.boot.pendingReset.any fun p => p.coincide || p.tick == s.now / 1000

/-! ## The rows -/

/-- RESET_N_ASSERT: RESET_N has been low for 1 µs; it overrides a hardware safe stop and never waits (R99, R102). -/
def execResetNAssert (s : State) : Out :=
  if !s.boot.powered || s.boot.resetPin then .next s
  else
    let s1 : State := { s with boot := { s.boot with resetPin := true } }
    done (s1.resetTakes (s.causesWith rcPin) (s.earliestCause rcPin) s.coincides)

/-- Every valid die sensor reads below 95 °C (R100). -/
def State.coolEnough (s : State) : Bool := s.hottest.all fun t => decide (t < 1520)

/-- RESET_N_RELEASE: the straps but VIO_SEL are sampled again, and the device restarts, stays in limp mode, or stays off after a thermal shutdown while it is hot (R46, R98 to R100). -/
def execResetNRelease (straps : Straps) (s : State) : Out :=
  if !s.boot.powered || !s.boot.resetPin then .next s
  else
    let b := { s.boot with resetPin := false, startAt := s.now, straps := { straps with vioHigh := s.boot.straps.vioHigh },
                           thermalOff := s.boot.thermalOff && !s.coolEnough }
    let s1 : State := { s with boot := b, win := { s.win with svcAddr := 0x58 + straps.svcAddr.toNat } }
    if s1.boot.thermalOff then done (s1.setStage .shutdown)
    else if s1.boot.limp then done s1.limpRuns
    else done (s1.setStage .aonUp)

/-- LOCKSTEP_RESET: the Atgon cores disagree (R99). -/
def execLockstepReset (s : State) : Out :=
  if !s.domOn dCtrl then .next s else done (s.resetCause rcLockstep)

/-- Whether firmware runs, rather than the boot ROM. -/
def State.firmwareRuns (s : State) : Bool :=
  s.domOn dCtrl && (match s.boot.stage with
    | .fwRunning | .profileApplied | .running | .unconfigured => true
    | _ => false)

/-- FIRMWARE_WATCHDOG_EXPIRY (R99). -/
def execFirmwareWatchdogExpiry (s : State) : Out :=
  if !s.firmwareRuns then .next s else done (s.resetCause rcFwWdog)

/-- BOOT_WATCHDOG_EXPIRY: the running slot is marked as hung and logged, and the device resets (R88, R457). -/
def execBootWatchdogExpiry (s : State) : Out :=
  if !s.boot.bootWdog then .next s
  else
    let b := s.boot
    let b1 := if b.slot then { b with failed1 := true, result1 := .bootWatchdog } else { b with failed0 := true, result0 := .bootWatchdog }
    let s1 := State.logOnly { s with boot := { b1 with bootWdog := false } } 0x0501 .error (b2n b.slot) 5
    done (s1.resetCause rcBootWdog)

/-- PLL_LOSS_OF_LOCK: the outputs go high-impedance at once and the reset leads to limp mode; a power-fail save is served first (R99, R102, R103). -/
def execPllLossOfLock (s : State) : Out :=
  if !s.boot.powered || s.boot.resetPin || s.boot.limp || !s.boot.rootLocked then .next s
  else
    let s1 : State := { s with pnl := .initial, sel := State.reset.sel, boot := { s.boot with panelReady := false } }
    done (s1.resetCause rcPll).resetDue

/-- UNDERVOLTAGE_LOCKOUT: every domain and AON lose their power; flash and fuses keep theirs (R63, R99). -/
def execUndervoltageLockout (s : State) : Out :=
  let r := State.reset
  .next { r with
    boot := { r.boot with powered := false, resetCause := 0 }, log := { r.log with ring := [], next := 0 }, stat := { r.stat with live := [] },
    nv := { r.nv with nor := s.nv.nor, nand := s.nv.nand }, sec := { r.sec with fuse := s.sec.fuse }, free := s.free, pending := s.pending }

/-- HARDWARE_SAFE_STOP_END: the sequence has ended, or 200 ms have passed, and the pending reset is due (R99). -/
def execHardwareSafeStopEnd (s : State) : Out :=
  match s.boot.pendingReset with
  | none => .next s
  | some p => if p.safeStop then done s.resetDue else .next s

/-- What the TAP connects between JTAG_TDI and JTAG_TDO (R236). -/
inductive TapReg | bypass | idcode | boundary | debug
deriving DecidableEq, Repr

/-- The 32 bits of IDCODE: version 0x1, part 0x9484, manufacturer code 0x4D7 and a last bit of 1 (R236). -/
def tapIdcode : Nat := 1 * 2 ^ 28 + 0x9484 * 2 ^ 12 + 0x4D7 * 2 + 1

/-- The register an instruction selects: a debug instruction selects BYPASS while SEC.DEBUG_UNLOCK is 0 (R236). -/
def State.tapReg (s : State) (i : TapInstr) : TapReg :=
  match i with
  | .bypass => .bypass
  | .idcode => .idcode
  | .sample => .boundary
  | .extest => .boundary
  | .debug => if s.param 0x2001 = 0 then .bypass else .debug

/-- JTAG_TRST: only the TAP is reset; IEEE 1149.1 puts IDCODE in its instruction register, and JTAG_TDO is released (R47, R99, R236). -/
def execJtagTrst (s : State) : Out := .next { s with boot := { s.boot with tapReset := true, tapIr := .idcode, tdo := false } }

/-- THERMAL_RESTART_REFUSED is logged for a keyed reset that comes too early (R100). -/
def State.keyedReset (s : State) (swap : Bool) : State :=
  if s.boot.thermalOff then
    if s.coolEnough then
      ({ s with boot := { s.boot with thermalOff := false, swapOnce := s.boot.swapOnce || swap } }).resetCause rcKeyed
    else s.logOnly 0x0504 .warning 3 (unsigned 32 (s.hottest.getD 0))
  else ({ s with boot := { s.boot with swapOnce := s.boot.swapOnce || swap } }).resetCause rcKeyed

/-- RESET_KEY_WRITE: the first word arms the key, the second within 1 ms resets; any other write disarms and is logged (R101, R108, R457). -/
def execResetKeyWrite (port : Port) (data : Word) (s : State) : Out :=
  let src (p : Port) : Nat := match p with
    | .ctl => 0
    | .svc => 2
  if !s.boot.powered || (port == .ctl && s.win.ctlDead) then .next s
  else
    match s.boot.key with
    | none =>
      if data = 0x0000C3A5 then .next { s with boot := { s.boot with key := some { port := port, at_ := s.now, word := data } } }
      else done (s.logOnly 0x0503 .warning (src port) data.toNat)
    | some k =>
      let s1 : State := { s with boot := { s.boot with key := none } }
      let inTime := s.now ≤ k.at_ + ms 1
      if inTime ∧ data = 0x5A000001 then done (s1.keyedReset false)
      else if inTime ∧ data = 0x5A000002 then done (s1.keyedReset true)
      else done (s1.logOnly 0x0503 .warning (src port) k.word.toNat)

end Sys2Proof.Machine
end

