-- ==== Sys2Proof/Machine/Power.lean ====
section
/-! DEFINITION. Power domains: entry, wake, grants, failures, wake sources, votes and standby (R96 to R98, R507 to R521). -/

namespace Sys2Proof.Machine

/-! ## Figures of R514 -/

/-- Inrush cost of a grant from *retention* and from *off*. -/
def domCost (d : Fin 19) (fromOff : Bool) : Nat :=
  let (r, o) := match d.val with
    | 0 => (2, 6) | 1 => (4, 10) | 2 => (4, 10) | 3 => (4, 12) | 12 => (6, 12) | 13 => (3, 8) | 14 => (3, 8) | 15 => (2, 6) | 16 => (1, 4)
    | _ => (1, 2)
  if fromOff then o else r

/-- Ramp from *off* to power-good, in µs. -/
def rampUs (d : Fin 19) : Nat :=
  match d.val with
  | 0 => 50 | 1 => 40 | 2 => 40 | 3 => 100 | 12 => 150 | 13 => 60 | 14 => 60 | 15 => 40 | 16 => 40 | 17 => 20 | 18 => 30
  | _ => 8

/-- Wake time in µs. -/
def domWakeUs (d : Fin 19) (fromOff : Bool) : Nat :=
  let (r, o) := match d.val with
    | 0 => (20, 30000) | 1 => (40, 60) | 2 => (40, 60) | 3 => (15, 120) | 12 => (3, 12000) | 13 => (30, 200) | 14 => (30, 200)
    | 15 => (5, 50) | 16 => (10, 2000) | 17 => (10, 100) | 18 => (10, 500)
    | _ => (2, 10)
  if fromOff then o else r

/-- Ticks of an inrush window: 12 CK_AON ticks (R515). -/
def windowTicks : Nat := 12000

/-- The queue order of R516. -/
def wakeOrder : List (Fin 19) := [0, 12, 3, 1, 2, 13, 14, 4, 5, 6, 7, 8, 9, 10, 11, 15, 16, 17, 18]

/-- Whether a domain's dependencies are met; from PFW to the resume only CTRL and NVM are granted (R516, R520). -/
def State.depsMet (s : State) (d : Fin 19) : Bool :=
  let needsPipe := d == dHla || d == dHlb || d == dBobl || d == dBobr || d == dCodec
  d == dCtrl || (s.domOn dCtrl && (!needsPipe || s.domOn dPipe) && (!(s.vin.pfw || s.vin.recovering) || d == dNvm))

/-- Units in use in the window of this instant: its own grants, and earlier grants from *off* not yet at power-good (R515). -/
def State.inrushUsed (s : State) : Nat :=
  let w := s.now / windowTicks
  let own := if s.pwr.window = w then s.pwr.windowCost else 0
  wakeOrder.foldl (fun n d =>
    match s.pwr.dom[d].phase with
    | .waking true t => if t / windowTicks < w && w ≤ (t + us (rampUs d)) / windowTicks then n + domCost d true else n
    | _ => n) own

/-- A domain is granted its wake. -/
def State.grant (s : State) (d : Fin 19) : State :=
  let w := s.now / windowTicks
  let fromOff := s.pwr.dom[d].st == .off
  let own := if s.pwr.window = w then s.pwr.windowCost else 0
  let s1 := s.onDom d fun x => { x with phase := .waking fromOff s.now, leftOff := fromOff }
  { s1 with pwr := { s1.pwr with window := w, windowCost := own + domCost d fromOff } }

/-- One walk of the queue (R516). -/
def State.grantWalk (s : State) : List (Fin 19) → State
  | [] => s
  | d :: ds =>
    if s.pwr.dom[d].phase ≠ .queued || !s.depsMet d then s.grantWalk ds
    else if s.inrushUsed + domCost d (s.pwr.dom[d].st == .off) ≤ s.param 0x0C00 then (s.grant d).grantWalk ds
    else s

/-- WAKE_GRANT: the sequencer walks the queue at this CK_AON tick (R515, R516). -/
def execWakeGrant (s : State) : Out := .next (s.grantWalk wakeOrder)

/-! ## What a domain's lower state takes away (R506) -/

/-- The lanes stop: a group that was not IDLE goes IDLE, and what was in progress on it ends. -/
def State.linkHalt (s : State) : State :=
  if s.groupIs .idle .left && s.groupIs .idle .right then s else ((s.dropPartial.inputEnd (some 4)).clearGroups).linkIdle

/-- GDDR7 contents are lost, and with them every instance kept in its partitions (R305, R506, R514). -/
def State.memGone (s : State) : State :=
  let s := if s.prk.shutdownSnap then s.snapAbandon.shutdownSaved else s.snapAbandon
  let keep (t : Table) : Bool := t.id / 256 == 6
  { s with
    mem := { Mem.initial with degraded := s.mem.degraded, readRem := s.mem.readRem, writeRem := s.mem.writeRem }, tab := s.tab.filter keep,
    boot := { s.boot with memReady := false, mapReady := false, mapLoaded := false, compensated := false },
    prk := { s.prk with stress := .off, pairs := [], folds := [], passOn := false, passHeld := false, snap := .none, snapData := [] },
    apq := { s.apq with eligibleAt := none, clipEnding := s.apq.clipEnding || s.apq.clip.isSome, cached := Vector.replicate 4 false, hdrs := [], tiles := [] } }

/-- A domain has reached a lower state (R506, R508). -/
def State.domLost (s : State) (d : Fin 19) (low : DomState) : State :=
  let isOff := low == .off || low == .failed
  if d = dHla ∨ d = dHlb then
    let t := s.linkHalt
    if isOff then { t with hl := { t.hl with adapted := Vector.ofFn fun k => t.hl.adapted[k] && k.val / 8 != d.val - 1 } } else t
  else if d = dSram0 ∨ d = dSram1 then
    if !isOff then s
    else
      let a := { s.apq with cached := Vector.replicate 4 false, hdrs := [] }
      let p := if d = dSram0 then { s.pipe with sramSet := none, sramOd := [], sramTile := [] } else s.pipe
      { s with apq := a, pipe := p }
  else if 6 ≤ d.val ∧ d.val ≤ 11 then
    if isOff && s.mem.residence != .refused then { s with mem := { s.mem with residence := .none } } else s
  else if d = dMem then
    if isOff then s.memGone else { s with mem := { s.mem with sleep := .active } }
  else if d = dSec then if isOff then s.secOff else s
  else if d = dTat then
    if isOff then
      let f (p : TatPortState) : TatPortState := { p with st := .down, errs := [], tx := [] }
      { s with tat := { s.tat with up := f s.tat.up, dn0 := f s.tat.dn0, dn1 := f s.tat.dn1 } }
    else s
  else s

/-! ## Entry (R507, R509, R517) -/

/-- IDLE_TIMER_EXPIRY: the idle timer of a domain runs out with its target lower still, and entry begins (R509). -/
def execIdleTimerExpiry (d : Fin 19) (s : State) : Out :=
  let x := s.pwr.dom[d]
  match x.phase, x.idleFrom with
  | .settled, some t =>
    if x.target.rank < x.st.rank then
      done ((s.elapse (t + us (s.param (0x0C10 + d)))).onDom d fun y => { y with phase := .entering x.target, idleFrom := none })
    else .next s
  | _, _ => .next s

/-- DOMAIN_ENTRY_DONE: the entry completes to its new state; a wake latched meanwhile is queued at once (R507, R517). -/
def execDomainEntryDone (d : Fin 19) (s : State) : Out :=
  match s.pwr.dom[d].phase with
  | .entering low =>
    let s1 := s.onDom d fun x =>
      { x with st := low, phase := if x.latched then .queued else .settled, latched := false, leftOff := low == .off,
               idleFrom := if !x.latched && x.target.rank < low.rank then some s.now else none }
    done (s1.domLost d low)
  | _ => .next s

/-! ## Wake (R96, R507, R512, R513) -/

/-- Wake votes are withdrawn by the running firmware for every domain that has come *on* (R512). -/
def State.withdrawWakes (s : State) : State :=
  if !s.domOn dCtrl then s
  else
    let mask := wakeOrder.foldl (fun m d => if s.domOn d then m + 2 ^ d.val else m) 0
    { s with pwr := { s.pwr with wakeVote := s.pwr.wakeVote &&& ~~~(BitVec.ofNat 32 mask) } }

/-- Job PWR_STATE 1 ends once every domain of PWR.RUN_SET is *on*, or one has failed (R511). -/
def State.runCheck (s : State) : State :=
  if s.pwr.standby.isSome then s
  else
    let set := wakeOrder.filter fun d => (s.param 0x0C02).testBit d.val
    if set.any s.domFailed then s.endJob 0x0071 stDomainFailed
    else if set.all s.domOn then s.endJob 0x0071 stOk
    else s

/-- The panel power sequence starts by itself (R82, R96); a failing set is logged as FUNC_START of the raster would log it (R457). At a cold start no waveform instance can be VALID, since none is kept in NAND, and yet the sequence starts at 20 ms: there SEL_MAP's clause on the instance is set aside, as R92 does with the profile (DEDUCED, assumption 69). -/
def State.autoPanel (s : State) : State :=
  if s.param 0x0410 ≠ 1 || s.pnl.st ≠ .off || s.vin.pfw then s
  else if s.anyFailed [dPipe, dSram0, dSram1, dBobl, dBobr] then s
  else
    match s.panelSetFails (s.boot.warm || (s.table (0x600 + s.param 0x4400)).st != .empty) with
    | some k => s.logOnly 0x0505 .warning 0xFF (7 * 2 ^ 24 + k)
    | none => s.panelStart

/-- A resume of R96 begins: STAGE FW_RUNNING and WARM, PANEL_READY and COMPENSATED cleared; BOOT_COUNT counts it (R493). -/
def State.beginResume (s : State) : State :=
  let b := { s.boot with startAt := s.now, startLead := 0, warm := true, panelReady := false, compensated := false }
  let n := { s.nv with bootCount := s.nv.bootCount + 1 }
  ({ s with boot := b, nv := n, pwr := { s.pwr with resume := true } }).setStage .fwRunning

/-- The firmware runs again in a resume: the PWR_STATE 1 vote, and the panel where SYS.AUTO_PANEL_ON asks for it; without a profile the stage is UNCONFIGURED again (R93, R96, R513). -/
def State.resumed (s : State) : State :=
  let s1 : State := { s with
    pwr := { s.pwr with resume := false, asleep := false, runVote := true }, hl := { s.hl with vote := !s.fn.hostLink.stopped } }
  if s.boot.profileOk then s1.autoPanel else s1.setStage .unconfigured

/-- With SYS.AUTO_PANEL_ON at 0 a warm start is over when PIPE, SRAM0, SRAM1, HLA and HLB are *on* (R96). -/
def State.warmStage (s : State) : State :=
  if s.boot.stage = .fwRunning && s.boot.warm && s.param 0x0410 = 0 && !s.pwr.asleep && [dPipe, dSram0, dSram1, dHla, dHlb].all s.domOn then
    s.setStage .profileApplied
  else s

/-- CTRL comes *on* (R96, R98, R120, R235): from *off* it boots again, from *retention* the firmware goes on. -/
def State.ctrlOn (s : State) (fromOff : Bool) : State :=
  if fromOff then
    (s.restart 3).romStart
  else
    let s1 := (s.irq 7).raiseEndEvents false
    if s.pwr.resume then s1.resumed else s1

/-- A half's drive domain comes *on*: its outputs are driven from now, so the 10 µs at logical 0 that open the power sequence start again (R47, R94, R401). -/
def State.holdAgain (s : State) (d : Fin 19) : State :=
  if (d = dBobl ∨ d = dBobr) ∧ s.pnl.step = .hold then s.panelStep .hold else s

/-- DOMAIN_WAKE_DONE: the clamps release, and the domain is *on* (R507). -/
def execDomainWakeDone (d : Fin 19) (s : State) : Out :=
  match s.pwr.dom[d].phase with
  | .waking fromOff _ =>
    let s1 := s.onDom d fun x =>
      { x with st := .on, phase := .settled, fails := 0, leftOff := false, idleFrom := if x.target.rank < 2 then some s.now else none }
    let s2 : State := if d = dCtrl then s1.ctrlOn fromOff
      else if d = dHla ∨ d = dHlb then
        ({ s1 with hl := { s1.hl with trainWanted := s1.hl.trainWanted || (s1.clockPresent && s1.hl.vote) } }).tryTrain
      else if d = dTat then s1.tatLeave else s1.holdAgain d
    done s2.withdrawWakes.warmStage.runCheck
  | _ => .next s

/-- A wake has been qualified: what it sets off in standby (R98, R513). Deep standby restarts, and PFW does not qualify there. -/
def State.wakeServe (s : State) (w : WakeSource) : State :=
  if !s.pwr.asleep then s.withdrawWakes
  else if s.pwr.deep then
    (s.restart 3).setStage .aonUp
  else if bit (s.param 0x0C04) w.bit && !s.pwr.resume && !s.vin.pfw && !s.vin.recovering then
    let t := s.beginResume
    if s.domOn dCtrl then t.resumed else t
  else s.withdrawWakes

/-- Whether a wake source counts at all in this state (R512, R513). -/
def State.wakeCounts (s : State) (w : WakeSource) : Bool :=
  s.boot.powered && !s.boot.resetPin && !s.boot.thermalOff && !s.boot.limp && s.boot.stage != .aonUp && s.boot.pendingReset.isNone &&
  bit (s.param 0x0C03) w.bit && (w != WakeSource.pfw || s.domOn dCtrl || s.pwr.dom[dCtrl].st == .retention)

/-- A wake source qualifies: WAKE_CAUSE, the wake votes and PWR_WAKES (R512); one that comes during standby entry is served after it (R517). -/
def State.qualify (s : State) (w : WakeSource) : State :=
  if !s.wakeCounts w then s
  else
    let s1 : State := { s with
      win := { s.win with wakeCause := s.win.wakeCause ||| BitVec.ofNat 32 (2 ^ w.bit) },
      pwr := { s.pwr with wakeVote := s.pwr.wakeVote ||| BitVec.ofNat 32 (s.param (0x0C30 + w.bit)) } }
    let s2 := s1.count 230 1
    if s.pwr.standby.isSome then { s2 with pwr := { s2.pwr with wakeLatched := s2.pwr.wakeLatched ||| BitVec.ofNat 8 (2 ^ w.bit) } }
    else s2.wakeServe w

/-- CTL_CS_WAKE: CTL_CS_N falls (R512); QUAD as written takes effect for this transaction (R112). -/
def execCtlCsWake (s : State) : Out :=
  if !s.boot.powered then .next s
  else done (({ s with win := { s.win with csLow := true, ctlDead := false, ctlDrive := false, quadNow := s.win.quadEn && !s.boot.limp } }).qualify .ctl)

/-- SVC_ADDRESS_MATCH: the transfer is this device's, and SVC_SDA may be pulled low until it ends (R47, R512). -/
def execSvcAddressMatch (s : State) : Out :=
  done (State.qualify { s with win := { s.win with sdaHeld := s.boot.powered } } .svc)

/-- PICOT_ACTIVITY: valid characters on TAT_UP for 10 µs (R512). -/
def execPicotActivity (s : State) : Out := done (s.qualify .picot)

/-- WAKE_TIMER_EXPIRY: the one-shot timer armed at standby entry (R511, R512). -/
def execWakeTimerExpiry (s : State) : Out :=
  match s.pwr.wakeTimer with
  | none => .next s
  | some t => done (({ (s.elapse t) with pwr := { (s.elapse t).pwr with wakeTimer := none } }).qualify .timer)

/-- WAKE_VOTE_LAPSE: the wake votes left 10 ms after CTRL came *on* end (R512). -/
def execWakeVoteLapse (s : State) : Out :=
  if !s.domOn dCtrl then .next s else done { s with pwr := { s.pwr with wakeVote := 0 } }

/-! ## Wake failure (R518, R519) -/

/-- Every domain that a failure takes with it goes *off* for good. -/
def State.markFailed (s : State) (d : Fin 19) : State :=
  (s.onDom d fun x => { x with st := .failed, phase := .settled, latched := false, idleFrom := none }).domLost d .failed

/-- The device's answer to a failed domain (R519). -/
def State.failedResponse (s : State) (d : Fin 19) : State :=
  if d = dCtrl then (s.faultBit 4).hardStop
  else if d = dPipe ∨ d = dSram0 ∨ d = dSram1 then
    let t := if d = dPipe then s else s.markFailed dPipe
    (t.faultBit 6).hardStop
  else if d = dMem then (s.faultBit 5).idleSafeStop
  else if d = dHla ∨ d = dHlb then (s.linkHalt.sourceIdle .stopHold false).idleSafeStop
  else if d = dBobl ∨ d = dBobr then s.hardStop
  else if d = dSram2 ∨ d = dCodec then s.cmp.jobs.foldl (fun t j => t.cmpEnd j stDomainFailed) s
  else if d = dSec then s.secOff
  else s

/-- WAKE_FAILURE_TIMEOUT: no power-good, or no clock lock, within twice the wake time. The first failure is retried from *off*, the second marks the domain DOMAIN_FAILED (R518). -/
def execWakeFailureTimeout (d : Fin 19) (clockLock : Bool) (s : State) : Out :=
  match s.pwr.dom[d].phase with
  | .waking fromOff t =>
    let s1 := s.elapse (t + us (2 * domWakeUs d fromOff))
    let data := (if clockLock then 2 else 1) * 2 ^ 24 + (if fromOff then 0 else 65536) + d.val
    if s.pwr.dom[d].fails = 0 then
      let s2 := (s1.onDom d fun x => { x with st := .off, phase := .retryOff, fails := 1, idleFrom := some s1.now }).domLost d .off
      done (s2.logOnly 0x0D02 .warning 3 data)
    else
      let s2 := ((s1.markFailed d).count 231 1).event 0x0C01 (if d = dCtrl then .fatal else .error) true 3 data
      done (s2.failedResponse d).runCheck
  | _ => .next s

/-- RETRY_OFF_EXPIRY: the domain has been *off* for PWR.RETRY_OFF_TIME, and its wake is queued again (R518). -/
def execRetryOffExpiry (d : Fin 19) (s : State) : Out :=
  match s.pwr.dom[d].phase, s.pwr.dom[d].idleFrom with
  | .retryOff, some t =>
    done ((s.elapse (t + us (s.param 0x0C06))).onDom d fun x => { x with phase := .queued, idleFrom := none, leftOff := true })
  | _, _ => .next s

/-! ## Votes and standby (R510, R511) -/

/-- VOTE's layout and meaning (R510). -/
def runVote (p : List Byte) (s : State) : Reply :=
  let mask := le4 p 0
  let act := (byteAt p 4).toNat
  if 0x7FFFF < mask || 2 < act then .refuse stOutOfRange s
  else
    let m := BitVec.ofNat 32 mask
    let on := (s.pwr.hostOn &&& ~~~m) ||| (if act = 1 then m else 0)
    let ret := (s.pwr.hostRet &&& ~~~m) ||| (if act = 2 then m else 0)
    .reply stOk (toLe 4 on.toNat ++ toLe 4 ret.toNat) { s with pwr := { s.pwr with hostOn := on, hostRet := ret } }

/-- VOTE (R510). -/
def execVote (mb : Mb) (s : State) : Out := s.serve mb (.fixed 0x0070 8 fun p => zeroAt p 5 3) runVote

/-- A standby request drops the host votes and the PWR_STATE 1 vote (R510, R511). -/
def State.askStandby (s : State) (deep : Bool) : State :=
  { s with pwr := { s.pwr with standby := some { deep := deep }, hostOn := 0, hostRet := 0, runVote := false, bootVote := false } }

/-- PWR_STATE's meaning (R511). -/
def runPwrState (p : List Byte) (s : State) : Reply :=
  let state := toLe 4 s.domainState0 ++ toLe 4 s.domainState1
  match (byteAt p 0).toNat with
  | 0 => .reply stOk state s
  | 1 =>
    if (wakeOrder.filter fun d => (s.param 0x0C02).testBit d.val).any s.domFailed then .refuse stDomainFailed s
    else .accept state s fun t =>
      let t1 : State := { t with pwr := { t.pwr with runVote := true } }
      (if t1.pwr.asleep && !t1.pwr.resume && !t1.vin.pfw && !t1.vin.recovering then t1.beginResume.resumed else t1).runCheck
  | 2 => if s.pnl.st ≠ .off then .refuse stBusy s else .accept state s fun t => t.askStandby false
  | 3 => if s.pnl.st ≠ .off then .refuse stBusy s else .accept state s fun t => t.askStandby true
  | _ => .refuse stOutOfRange s

/-- PWR_STATE (R511). -/
def execPwrState (mb : Mb) (s : State) : Out := s.serve mb (.fixed 0x0071 4 fun p => zeroAt p 1 3) runPwrState

/-- Where standby puts a domain (R511). -/
def State.standbyState (s : State) (deep : Bool) (d : Fin 19) : DomState :=
  let st := s.pwr.dom[d].st
  if st == .failed then .failed
  else if d = dCtrl then (if deep then .off else .retention)
  else if d = dMem then (if !deep && st != .off then .retention else .off)
  else if d = dTat && !deep && s.tatVote then st
  else .off

/-- One domain is put into its standby state; with its target low, only an *on* vote wakes it again (R509, R511). -/
def State.standbyPut (s : State) (deep : Bool) (d : Fin 19) : State :=
  let low := s.standbyState deep d
  if low = s.pwr.dom[d].st then s.onDom d fun x => { x with target := .retention, idleFrom := none }
  else (s.onDom d fun x => { x with st := low, phase := .settled, target := .retention, latched := false, idleFrom := none, leftOff := low == .off }).domLost d low

/-- STANDBY_ENTRY: once no snapshot votes are held and flash work is over (R507), the domains go to their standby states, CTRL last, and the job ends just before it (R511). Wakes latched meanwhile are served after it (R517). -/
def execStandbyEntry (s : State) : Out :=
  match s.pwr.standby with
  | none => .next s
  | some sb =>
    if s.snapBusy || s.flashBusy then .next s
    else
      let s0 := if sb.deep then s.saveAlwaysOn 1 else s
      let s1 := (wakeOrder.drop 1).foldl (fun t d => t.standbyPut sb.deep d) s0
      let s2 := (s1.endJob 0x0071 stOk).standbyPut sb.deep dCtrl
      let timer := s.param 0x0C05
      let p := { s2.pwr with standby := none, asleep := true, deep := sb.deep, wakeLatched := 0,
                             wakeTimer := if timer = 0 then none else some (s.now + ms timer) }
      let s3 : State := { s2 with pwr := p, hl := { s2.hl with vote := false, trainWanted := false, backoff := false } }
      let late := [WakeSource.hlActivity, .hlWake, .picot, .ctl, .svc, .thermal, .timer, .pfw].filter fun w => s.pwr.wakeLatched.getLsbD w.bit
      done (late.foldl (fun t w => t.wakeServe w) s3)

end Sys2Proof.Machine
end

