-- ==== Sys2Proof/Machine/Frame.lean ====
section
/-! DEFINITION. What happens at a frame start: the frame's number and kind, the mode and function changes that take effect with it, clips, dither phase, and everything else the spec ties to a frame start (R238 to R264, R298, R319, R320, R369 to R371, R531). -/

namespace Sys2Proof.Machine

/-! ## Continuity clips (R369 to R371) -/

/-- The instance APQ.CLIP_SELECT names. -/
def State.clipInst (s : State) : Nat := s.param 0x3001

/-- Whether a clip is asked for: CLIP_EN, appliqué running, and CLIP_FORCE, which is read at each frame start, or the absence (R369, R374; DEDUCED, assumption 93). -/
def State.clipWanted (s : State) : Bool :=
  s.param 0x3000 == 1 && !s.fn.applique.stopped && !s.memLost && (s.apq.forced || s.ras.delayOver)

/-- Whether the selected instance is VALID and fits the raster (R369). -/
def State.clipFits (s : State) : Bool :=
  let h := clipHead (s.table (0x700 + s.clipInst)).bytes
  s.tableValid (0x700 + s.clipInst) && h.x + h.w ≤ s.param 0x2801 && h.y + h.h ≤ s.param 0x2802

/-- The instant a clip becomes eligible is a change for the ladder; one that stops being eligible ends at the next frame start (R369, R370). -/
def State.clipWatch (s : State) : State :=
  let ok := s.clipWanted && s.clipFits
  if ok && s.apq.eligibleAt.isNone then ({ s with apq := { s.apq with eligibleAt := some s.now } }).ladderChange
  else if !ok then { s with apq := { s.apq with eligibleAt := none, clipEnding := s.apq.clipEnding || s.apq.clip.isSome } }
  else s

/-- EV_APQ_CLIP (R373). -/
def State.clipEvent (s : State) (cause inst : Nat) : State :=
  s.event 0x3003 (if cause = 3 then .warning else .info) true (s.param 0x3002) (cause * 2 ^ 24 + inst)

/-- A clip starts with clip time 0 at `t0`. -/
def State.clipBegin (s : State) (t0 : Nat) : State :=
  let c : ClipPlay := { inst := s.clipInst, time0 := t0, step := 0 }
  (({ s with apq := { s.apq with clip := some c } }).count 775 1).clipEvent 1 s.clipInst

/-- The playing clip ends. -/
def State.clipStop (s : State) (c : ClipPlay) : State :=
  ({ s with apq := { s.apq with clip := none } }).clipEvent 2 c.inst

/-- The clip of a frame: started, ended, changed, or at the step due at the frame's start (R369 to R371). -/
def State.clipFrame (s : State) : State :=
  let s1 := ({ s with apq := { s.apq with forced := s.param 0x3003 == 1 } }).clipWatch
  let ok := s1.clipWanted && s1.clipFits
  let s2 : State := match s1.apq.clip with
    | none => s1
    | some c =>
      if !ok || s1.apq.clipEnding then s1.clipStop c
      else if s1.apq.clipRestart && c.inst != s1.clipInst then (s1.clipStop c).clipBegin s1.now
      else s1
  let s3 : State := if ok && s2.apq.clip.isNone then s2.clipBegin (s2.apq.eligibleAt.getD s2.now) else s2
  let s4 : State := if s3.clipWanted && !ok && !s3.apq.notValidRaised then
      ({ s3 with apq := { s3.apq with notValidRaised := true } }).clipEvent 3 s3.clipInst
    else s3
  let step (c : ClipPlay) : ClipPlay := { c with step := clipStepAt (s4.table (0x700 + c.inst)).bytes (s4.now - c.time0) }
  let a := { s4.apq with clipEnding := false, clipRestart := false, clip := s4.apq.clip.map step }
  ({ s4 with apq := a }).count 776 (b2n a.clip.isSome)

/-- CLIP_STEP_DUE: the instant at which a step begins is a change for the ladder (R370). -/
def execClipStepDue (at_ : Nat) (s : State) : Out :=
  let s := s.elapse at_
  match s.apq.clip with
  | none => .next s
  | some c => if clipStepAt (s.table (0x700 + c.inst)).bytes (s.now - c.time0) = c.step then .next s else .next s.ladderChange

/-- The absence of the source as a frame starts (R254). -/
def State.absence (s : State) (live : Bool) : State :=
  if live || (s.ras.active == .fixed && s.timMode == .fixed) then { s with ras := { s.ras with absentFrom := none, delayOver := false } }
  else
    let from_ := s.ras.absentFrom.getD s.now
    { s with ras := { s.ras with absentFrom := some from_, delayOver := decide (from_ + ms (s.param 0x2810) ≤ s.now) } }

/-- CONTINUITY_DELAY_EXPIRY: the source has been absent for TIM.CONTINUITY_DELAY (R254). -/
def execContinuityDelayExpiry (at_ : Nat) (s : State) : Out :=
  let s := s.elapse at_
  if s.ras.absentFrom.any fun t => t + ms (s.param 0x2810) ≤ s.now then .next ({ s with ras := { s.ras with delayOver := true } }).clipWatch
  else .next s

/-! ## Layers and dither at a frame start -/

/-- The tile header cache keeps the tables it holds while they fit, then takes those of enabled layers that fit beside them, A0 first in both; switched off it holds none (R362). -/
def State.cacheFrame (s : State) : State :=
  if s.param 0x3004 = 0 then { s with apq := { s.apq with cached := Vector.replicate 4 false, hdrs := [] } }
  else
    let p (n k : Nat) : Nat := s.param (0x3010 + 16 * n + k)
    let size (n : Nat) : Nat := 8 * (tilesOf (p n 3) * tilesOf (p n 4))
    let held (l : List Nat) : Nat := l.foldl (fun a n => a + size n) 0
    let add (want : Nat → Bool) (l : List Nat) : List Nat :=
      (List.range 4).foldl (fun l n => if !l.contains n && want n && held l + size n ≤ 262144 then l ++ [n] else l) l
    let kept := add (fun n => s.apq.cached.toList.getD n false) []
    let all := add (fun n => p n 0 == 1) kept
    { s with apq := { s.apq with cached := Vector.ofFn fun i => all.contains i.val,
                                 hdrs := s.apq.hdrs.filter fun e => kept.contains e.1 && 8 * e.2 < size e.1 } }

/-- The phase of temporal dither: P advances; a frame more than 1/60 s after the last keeps the phase of the latest unsuspended one (R319, R320). -/
def State.ditherFrame (s : State) : State :=
  let p := s.pipe.phase + 1
  let late := decide (1 < s.ras.framesOn) && decide (s.ras.prevStart + 20000000 < s.ras.start)
  let q := if s.param 0x3C02 = 0 then 0 else if late then s.pipe.lastUnsuspended else p
  ({ s with pipe := { s.pipe with phase := p, phaseUsed := q, suspended := late,
                                  lastUnsuspended := if late then s.pipe.lastUnsuspended else q } }).count 960 (b2n late)

/-- Whether the frame is the first in which overdrive, pricking or appliqué is degraded or neutral by dependency (R317: "the first frame of a degraded or neutral pipeline", read function by function; DEDUCED, assumption 90), and whether its zone snapshot misses a zone (R321). -/
def State.pipeFrame (s : State) : State :=
  let fs : List Func := [.overdrive, .pricking, .applique]
  let m := maskOf 3 fun i => (fs[i]?).any fun f => s.isDegraded f || s.funcLacks f
  let z := s.pipe.snap
  ({ s with pipe := { s.pipe with lacking := m, rounding := m &&& (m ^^^ s.pipe.lacking) != 0 } }).count 900 (b2n (z.taken && z.validCount < z.cols * z.rows))

/-! ## Mode changes that take effect with a frame (R252, R256, R259, R432) -/

/-- The device islands: it goes on with the last beacon's timing in FIXED (R432). -/
def State.goIsland (s : State) : State :=
  let s1 : State := { s with ras := { s.ras with heldChange := none }, tat := { s.tat with lock := .islanded } }
  (s1.event 0x5001 .warning true 3 (s.tat.islandCause * 2 ^ 24 + sat 65535 s.tat.missed)).setActive .fixed 5

/-- What a transition held back is done under the new mode: there is no islanding outside LATTICE (R259). -/
def State.heldFrame (s : State) : State :=
  match s.ras.heldChange with
  | none => s
  | some .island =>
    if s.ras.active == .lattice || s.isFollower then s.goIsland
    else { s with ras := { s.ras with heldChange := none }, tat := { s.tat with lock := .none } }
  | some .beaconBack => s
  | some .sourceBack => { s with ras := { s.ras with heldChange := none } }
  | some h => ({ s with ras := { s.ras with heldChange := none } }).sourceIdle h s.ras.shortHold

/-- A frame of a continuity transition: N0 begins the hold, TARGET_FRAME ends the transition (R256). Outside one, what waits for a frame start is done. -/
def State.transitionFrame (s : State) : State :=
  match s.ras.transition with
  | none => s.heldFrame
  | some t =>
    match t.phase with
    | .waiting => if t.n0 = s.ras.frame then { s with ras := { s.ras with transition := some { t with phase := .inHold } } } else s
    | .inHold => s
    | .applied =>
      let s1 := (({ s with ras := { s.ras with transition := none } }).setActive t.mode t.cause).count 647 1
      (if t.cmd then s1.endJob 0x0040 stOk else s1).heldFrame

/-- Whether the T4 scaling is asked for: by this device's step, or on a master by its follower's. A follower leaves it to its master (R531, R436). -/
def State.wantT4 (s : State) : Bool :=
  !s.isFollower && s.param 0x100D == 1 && (s.thm.step == 4 || (s.param 0x2807 == 1 && s.tat.followerT4))

/-- Whether beacons come at all: also to an islanded device that accepts them again (R258, R260). -/
def State.beaconsCome (s : State) : Bool :=
  s.tat.lock == .locked || s.tat.lock == .holdover || (s.tat.lock == .islanded && s.tat.goodRun != 0)

/-- The transition into T4, or back, starts as soon as nothing stands in its way (R531, R533). In LATTICE the new mode is FIXED, and the way back leads to LATTICE where beacons come. -/
def State.t4Check (s : State) : State :=
  if !s.ras.running || s.ras.transition.isSome || s.memLost || s.transitionMeetsEpoch then s
  else
    let begin_ (m : Mode) (x : T4) : State := { s.beginTransition m false 6 true with thm := { s.thm with t4 := x } }
    match s.thm.t4 with
    | .none => if s.wantT4 then begin_ (if s.ras.active = .lattice then .fixed else s.ras.active) .starting else s
    | .inForce =>
      if s.wantT4 then s
      else begin_ (if s.timMode = .lattice && (s.isRoot || s.beaconsCome) then .lattice else s.ras.active) .leaving
    | _ => s

/-! ## What the frame shows (R239, R240, R223) -/

/-- A live-timed start: S_live, P_in, the predictive repeats of R246, and the return of an automatic HOLD or of start-up's FIXED to SOURCE, by FUNC_START of the host link or by the source (R163, R252, R269). -/
def State.liveTimed (s : State) : State :=
  let s1 := if s.timMode = .source && s.ras.transition.isNone && (s.ras.active = .hold ∨ s.ras.active = .fixed) then
    s.setActive .source (if s.fn.pend.any (·.live) then 7 else 4) else s
  let pIn := s1.ras.liveStart.map fun l => s1.now - l
  let d := s1.deadlineTicks
  let reps := match pIn with
    | none => []
    | some p =>
      if s1.param 0x280D = 1 && s1.ras.active = .source && d < p then
        let k := (p + d - 1) / d
        (List.range (k - 1)).map fun j => s1.now + (j + 1) * p / k
      else []
  let base := if s1.ras.ladderStep = 0 then pIn.getD s1.ras.base else s1.ras.base
  { s1 with ras := { s1.ras with liveStart := some s1.now, pIn := pIn, base := base, repeats := reps } }

/-- An input frame that was decided live goes on as a capture, and its rows leave the input buffer (R241). -/
def State.captureInput (s : State) : State :=
  let s1 := s.onFrame fun f => if f.use = .live then { f with use := .captured, slotAt := none, decided := true } else f
  { s1 with hl := { s1.hl with bufL := [], bufR := [] } }

/-- The frame's kind: a live frame whose bad rows passed the limit before its start shows the hoop from row 0 on (R197). Live only where an input frame is there to be shown and neither a tag hold nor N0 puts the marked frame in its place (R223, R239, R256). -/
def State.frameKind (s : State) (want : FrameKind) : State :=
  let timed := want == .live && s.liveSlot.isSome
  let n0 := !s.memLost && s.ras.transition.any fun t => t.phase == .inHold
  let live := timed && !s.ras.tagHold && !n0
  let s1 : State := if timed && (live || s.ras.tagHold) then s.liveTimed else s
  if live then
    let s2 := (s1.onFrame fun f => { f with started := true }).absence true
    let spoilt := s2.hl.frame.any (·.hoopRepeat)
    let r := { s2.ras with kind := .live, sourceTimed := false, repeatFrom := if spoilt then some 0 else none }
    let s3 := (({ s2 with ras := r, hl := { s2.hl with repeated := false } }).count 640 1).liveStarts s2.ras.frame
    if spoilt then s3.onHoop r.scan1 fun h => { h with scanning := true } else s3
  else
    let k : FrameKind := if want = .black then .black else .hoop
    let s2 := (if timed then s1.captureInput else s1).absence false
    let r := { s2.ras with kind := k, sourceTimed := timed }
    let s3 : State := { s2 with ras := r, hl := { s2.hl with repeated := s2.hl.markShown, markShown := true } }
    if k = .black || s3.memLost then s3 else s3.onHoop r.scan1 fun h => { h with scanning := true }

/-! ## The frame start -/

/-- Frame numbers that wait for a frame move with the numbering when LATTICE or a master replaces it (R7, R256). -/
def State.renumber (s : State) (d : BitVec 32) : State :=
  if d = 0 then s
  else
    let w := s.par.waiting.map fun c => { c with target := c.target + d }
    let p := s.fn.pend.map fun x => { x with target := x.target + d }
    let t := s.ras.transition.map fun x => { x with n0 := x.n0 + d }
    { s with par := { s.par with waiting := w, lastTarget := s.par.lastTarget + d }, fn := { s.fn with pend := p },
             ras := { s.ras with transition := t, modeAt := s.ras.modeAt.map (· + d) } }

/-- The raster's own registers at a frame start. -/
def State.frameAdvance (s : State) (num : BitVec 32) (rowTime : Nat) : State :=
  let r := s.ras
  let r := { r with frame := num, prevStart := r.start, start := s.now, rowsStarted := 0, rowEnd := s.param 0x2802, inBlank := false,
                    aborted := false, scan1 := s.marked, framesOn := r.framesOn + 1, pull := none, repeatFrom := none, abortAt := none, rowTime := rowTime,
                    repeats := r.repeats.filter (s.now < ·) }
  { s with ras := r, pipe := { s.pipe with settledNow := true }, bob := { s.bob with sent := [] },
           prk := { s.prk with stressEn := if num.toNat % 8 = 0 then s.param 0x3410 == 1 else s.prk.stressEn },
           apq := { s.apq with faultRaised := Vector.replicate 4 false, tiles := [] } }

/-- The first frame of the raster: PANEL_ON and FUNC_START complete, STAGE is RUNNING, and what RUNNING brings (R82, R226, R343, R401). -/
def State.firstFrame (s : State) : State :=
  if s.ras.framesOn ≠ 1 then s
  else
    let s1 : State := { s with pwr := { s.pwr with bootVote := false },
                               prk := { s.prk with accFrom := usCount s.now, accTime := [] } }
    let s2 := s1.endPanelOn stOk
    if s2.boot.stage = .unconfigured then s2 else (s2.setStage .running).raiseFuse

/-- TAT.ROLE is taken at a frame start (R441). -/
def State.roleFrame (s : State) : State :=
  let v := s.param 0x5000
  if v = s.tat.role then s
  else if s.ras.framesOn = 1 then { s with tat := { s.tat with role := v } }
  else ({ s with tat := { s.tat with role := v } }).roleTaken true

/-- What the net layer does as a frame starts: holdover and island frames are counted, the root's period is taken, an epoch whose frame this is and that was not applied leaves the device SKEWED, and a pair shown half live is counted (R267, R419, R429, R432). -/
def State.netFrame (s : State) : State :=
  let t := s.tat
  let s1 := (s.count 1283 (b2n (t.lock == .holdover && s.ras.active == .lattice))).count 1284 (b2n (t.lock == .islanded))
  let s2 : State := if s.isRoot then { s1 with tat := { s1.tat with period := s1.basePeriod .lattice } } else s1
  let split := s.tethered && t.pairHoop.any fun h => h == (s.ras.kind == .live)
  let s3 : State := { s2.count 649 (b2n split) with tat := { (s2.count 649 (b2n split)).tat with pairHoop := none } }
  if s.isRoot then s3
  else match t.staged with
    | none => s3
    | some ep => if ep.st = .armed && ep.f = s.ras.frame.toNat then s3.skewMissed ep.e else s3

/-- An Eyelet's hold stops the host link at this frame start (R446). -/
def State.eyeHoldFrame (s : State) : State :=
  if !s.eyes.holdDue then s
  else
    let s1 : State := { s with eyes := { s.eyes with holdDue := false } }
    if s1.fn.hostLink.stopped then s1
    else
      let s2 : State := { s1 with eyes := { s1.eyes with holding := true } }
      s2.funcTake { func := .hostLink, change := .stop, target := s1.ras.frame, mb := none, live := false } s1.ras.frame

/-- The pricking map applies at the first frame boundary after it is ready (R85). -/
def State.mapFrame (s : State) : State :=
  if s.boot.mapReady && !s.boot.compensated && s.planesValid then { s with boot := { s.boot with compensated := true } } else s

/-- A MODE_CHANGE that acted as a COMMIT is done at the start of its TARGET_FRAME (R258). -/
def State.modeFrame (s : State) : State :=
  if s.ras.modeAt = some s.ras.frame then ({ s with ras := { s.ras with modeAt := none } }).endJob 0x0040 stOk else s

/-- Residence at a frame start, and the flags it is told by (R280, R282). -/
def State.residenceStart (s : State) : State :=
  let r := s.ras
  ({ s with ras := { r with holdEntered := false, markMoved := false, timingApplied := false } }).residenceFrame r.holdEntered r.markMoved r.timingApplied

/-- Emission comes on at the start of the second frame; the first black frame puts it out (R401, R402). -/
def State.emitFrame (s : State) : State :=
  if s.ras.kind = .black then
    if s.pnl.blackDue then ({ s with pnl := { s.pnl with blackDue := false } }).emitOff else s
  else if 2 ≤ s.ras.framesOn && s.pnl.st == .on && !s.pnl.blOn then s.emitOn else s

/-- The master of a pair tells its follower of the frame: K28.0 for a live one, and PAIR_FRAME (R435). The model gives OFFSET as seen at the frame start, 0. -/
def State.pairSend (s : State) : State :=
  if s.param 0x2807 ≠ 1 || s.boot.straps.pairRight then s
  else
    let live := s.ras.kind == .live
    let s1 := if live then s.tatSend .dn1 0x100 [] else s
    let flags := 4 * b2n (s.ras.transition.any fun t => t.phase == .inHold) + 2 * b2n s.apq.clip.isSome + b2n (!live)
    s1.tatSend .dn1 0x50 (toLe 4 s.ras.frame.toNat ++ zeros 4 ++ toLe 2 s.ras.rowTime ++
      [Byte.of s.ras.active.code, Byte.of flags, Byte.of s.pipe.phase.toNat] ++ zeros 3)

/-- A host link that has stopped with this frame (it ran before unless `before`) sends no more: with MEM lost the panel stops (R29, R162). -/
def State.linkGone (s : State) (before : Bool) : State :=
  if s.fn.hostLink.stopped && !before then s.idleSafeStop else s

/-- A frame starts at instant `t` with number `num`: everything that happens at a frame start, in order. `want` is what its start was asked for as. -/
def State.beginFrame (s : State) (t : Nat) (want : FrameKind) (num : BitVec 32) (rowTime : Nat) : State :=
  let late := want != .live && s.liveSlot.isSome
  let s0 := if late then s.captureInput else s
  let s1 := (((((s0.elapse t).selAdvance.fetchTurn).renumber (num - (s.ras.frame + 1))).frameAdvance num rowTime).statFrame.roleFrame).firstFrame
  let s2 := (((s1.eyeHoldFrame.funcFrame num).linkGone s1.fn.hostLink.stopped).transitionFrame).frameKind want
  let s3 := (s2.memFrame.residenceStart).raiseRetired.mapFrame
  let s4 := ((s3.clipFrame.cacheFrame).ditherFrame.pipeFrame).senseFrame.snapFrame
  let s4 := s4.netFrame
  let s5 := ((s4.eyeFrame (s4.ras.kind == .live) (s4.ras.kind == .black)).emitFrame.modeFrame).lockFrame.countsFrame
  let s6 := ((s5.count 648 (b2n (s5.ras.active == .hold))).count 901 (b2n (s5.mem.reseed || s5.fn.overdrive.inReset))).count 644
    (b2n (late && s.ras.transition.isNone))
  ({ s6 with hl := { s6.hl with statusDue := s6.hl.statusDue || s6.linkActive } }).selFrame.pairSend.t4Check

end Sys2Proof.Machine
end

