-- ==== Sys2Proof/Machine/Raster.lean ====
section
/-! DEFINITION. The raster's commands: frame starts of each mode, row slots, vertical blanks, aborts, the raster's start, and MODE_CHANGE (R22 to R29, R84, R85, R153, R156, R238 to R260, R284 to R286, R295 to R298, R381 to R384). -/

namespace Sys2Proof.Machine

/-! ## Frame starts (R240, R244 to R250) -/

/-- Whether a frame of the raster's own making may start now: in a vertical blank that is neither an abort blank nor part of a stop. -/
def State.mayStart (s : State) : Bool := s.ras.running && s.ras.inBlank && !s.ras.aborted && s.pnl.st != .darkening && !s.tethered

/-- Whether an input frame decided live starts at or before `t`. -/
def State.liveBefore (s : State) (t : Nat) : Bool := s.liveSlot.any (· ≤ t)

/-- The elastic FIFO levels are sampled at a frame start (R20). -/
def State.sampleFifo (s : State) (a b : BitVec 6) : State := { s with hl := { s.hl with fifoA := a.toNat, fifoB := b.toNat } }

/-- A frame of the mode's own timing, shown from the hoop. -/
def State.hoopStart (s : State) (t : Nat) : State := s.beginFrame t .hoop (s.ras.frame + 1) (s.rowTimeFor s.nextMode)

/-- A frame at a beacon frame start T_F, or at a master's: live where row 0 of an accepted input frame is in phase and the frame may be live at all (R248, R267). -/
def State.netStart (s : State) (t : Nat) (num : BitVec 32) (rowTime : Nat) (mayLive : Bool) : State :=
  match s.hl.frame with
  | none => s.beginFrame t .hoop num rowTime
  | some f =>
    match f.use, f.slotAt with
    | .captured, some q =>
      let s1 : State := { s with ras := { s.ras with latticePhase := clampInt (-65535) 65535 ((q : Int) - t) } }
      if mayLive && t ≤ q + rowTime && q ≤ t + s.slack then (s1.onFrame fun f => { f with use := .live, slotAt := some t }).beginFrame t .live num rowTime
      else (((s1.onFrame fun f => { f with use := .live }).captureInput).beginFrame t .hoop num rowTime).count 644 1
    | _, _ => s.beginFrame t .hoop num rowTime

/-- A frame at the start a beacon announced, or one a pair's master gave; a device that returns to LATTICE does so here (R420, R433, R435). -/
def State.beaconStart (s : State) (b : BeaconTiming) : State :=
  let t := { s.tat with next := none, period := b.period, rowTime := b.rowTime }
  let s1 : State := { s with tat := t }
  let back := s.ras.heldChange = some .beaconBack && s.ras.transition.isNone && s.timMode == .lattice
  let joins := back || (t.lock == .islanded && s.nextMode == .lattice)
  let s2 : State := if !joins then s1
    else
      let s2 : State := { s1 with ras := { s1.ras with heldChange := none }, tat := { t with lock := .locked } }
      let s3 := if t.lock = .islanded then s2.event 0x5001 .info true 3 (4 * 2 ^ 24 + sat 65535 t.goodRun) else s2
      if back then s3.setActive .lattice 5 else s3
  s2.netStart b.start b.frame b.rowTime (!b.hoopOnly)

/-- A black frame, or the end of darkening (R402). -/
def State.blackStart (s : State) : State :=
  let e := s.ras.earliest
  if s.pnl.blackLeft = 0 then (s.elapse e).afterDark
  else
    let s1 : State := { s with pnl := { s.pnl with blackLeft := s.pnl.blackLeft - 1 } }
    s1.beginFrame e .black (s.ras.frame + 1) (s.rowTimeFor s.nextMode)

/-- FRAME_START: the frame start that is due by `at_`: a black frame, a beacon's, the live frame of an input frame's row 0, or the restart after an abort (R238, R244, R248, R286, R402). The elastic FIFO levels are sampled with it. -/
def execFrameStart (at_ : Nat) (fifoA fifoB : BitVec 6) (s : State) : Out :=
  let e := s.ras.earliest
  let due (t : Nat) : Bool := e ≤ t && t ≤ at_
  if !s.ras.running || !s.ras.inBlank then .next s
  else
    let s1 := s.sampleFifo fifoA fifoB
    if s.pnl.st = .darkening then if e ≤ at_ then done s1.blackStart else .next s
    else if s.netNext then
      match s.tat.next with
      | some b => if due b.start then done (s1.beaconStart b) else .next s
      | none => .next s
    else if s.ras.aborted && s.nextMode != .lattice then if e ≤ at_ then done (s1.hoopStart e) else .next s
    else
      match s.liveSlot with
      | some t => if due t then done (s1.beginFrame t .live (s.ras.frame + 1) (s.rowTimeFor s.nextMode)) else .next s
      | none => .next s

/-- TIMING_GENERATOR_PERIOD: the generator's start in FIXED and HOLD, at the root in LATTICE, and the start that a change pulled forward in SOURCE (R247, R250, R263, R286, R419). -/
def execTimingGeneratorPeriod (tick : FrameTick) (s : State) : Out :=
  let e := s.ras.earliest
  let s1 := s.sampleFifo tick.fifoA tick.fifoB
  let go (t : Nat) : Out := if tick.at_ < t || s.liveBefore t then .next s else done (s1.hoopStart t)
  match s.nextMode with
  | .lattice =>
    if !(s.ras.running && s.ras.inBlank && s.pnl.st != .darkening && s.isRoot) then .next s
    else
      let (k, t) := s.rootNext
      if tick.at_ < t then .next s else done (s1.netStart t (s.ras.frame + BitVec.ofNat 32 k) (s.rowTimeFor .lattice) true)
  | .source => if s.mayStart && s.ras.pull.isSome then go (max s.genDue e) else .next s
  | _ => if s.mayStart then go (max s.genDue e) else .next s

/-- REPEAT_DEADLINE: no live frame has started 1/TIM.VRR_MIN after the latest start (R246, R256). With MEM lost there is nothing to repeat, and the panel stops (R29). -/
def execRepeatDeadline (tick : FrameTick) (s : State) : Out :=
  let t := max (s.ras.start + s.deadlineTicks) s.ras.earliest
  if !s.mayStart || s.nextMode != .source || tick.at_ < t || s.liveBefore t then .next s
  else if s.memLost then done (((s.elapse t).count 1028 1).panelStop 3 false)
  else done (((s.sampleFifo tick.fifoA tick.fifoB).hoopStart t).count 641 1)

/-- PREDICTIVE_REPEAT: the next scheduled repeat is due (R246). -/
def execPredictiveRepeat (tick : FrameTick) (s : State) : Out :=
  match s.ras.repeats with
  | [] => .next s
  | h :: _ =>
    let t := max h s.ras.earliest
    if !s.mayStart || s.nextMode != .source || s.memLost || tick.at_ < t || s.liveBefore t then .next s
    else done (((s.sampleFifo tick.fifoA tick.fifoB).hoopStart t).count 642 1)

/-! ## Blanks (R153, R156, R256) -/

/-- The values of a continuity transition apply: at N0's vertical blank, or at the abort blank that stands in for it (R256, R259, R531). R157 lets the other values of a TIM_RASTER commit apply at TARGET_FRAME's start and R256 step 4 in N0's blank: here all apply in N0's blank (DESIGN CHOICE, assumption 87). -/
def State.transitionApply (s : State) : State :=
  match s.ras.transition with
  | none => s
  | some t =>
    if t.phase ≠ .inHold then s
    else
      let s1 := (s.par.waiting.filter (·.viaTransition)).foldl State.applyCommit
        { s with par := { s.par with waiting := s.par.waiting.filter fun c => !c.viaTransition } }
      let s2 := if t.cmd then s1.setParam 0x2800 t.mode.code else s1
      let p := s2.ras.holdPeriod
      let (x, hold) := match s2.thm.t4 with
        | .starting => (T4.inForce, min (period (s2.param 0x4804)) (2 * p))
        | .leaving => (T4.none, p / 2)
        | y => (y, p)
      let r := { s2.ras with transition := some { t with phase := .applied }, ladderStep := 0, dwellFrom := s.now, pull := none, holdPeriod := hold }
      let s3 : State := { s2 with ras := r, thm := { s2.thm with t4 := x } }
      if t.mode = .hold && s3.ras.active ≠ .hold then s3.takeHoldPeriod else s3

/-- With MEM lost the T4 scaling changes at a vertical blank with no hold frame (R533). -/
def State.t4Blank (s : State) : State :=
  if !s.memLost || s.ras.transition.isSome || s.scaled = s.wantT4 then s
  else { s with thm := { s.thm with t4 := if s.wantT4 then .inForce else .none } }

/-- A follower's staged TIM_RASTER values apply with its master's, in the blank of the master's hold frame (R256, R267, R435). -/
def State.pairApply (s : State) : State :=
  if s.tat.pairTrans ≠ some s.ras.frame then s
  else
    let vs := s.stagedF.filter fun v => timRaster.contains v.1
    let s1 : State := { s with tat := { s.tat with pairTrans := none } }
    if vs.isEmpty then s1
    else { s1.applyValues vs with par := { (s1.applyValues vs).par with staged := s1.par.staged.filter fun v => !timRaster.contains v.1, applied := true } }

/-- What applies at the start of a vertical blank or abort blank (R153, R156, R256, R428). -/
def State.blankApply (s : State) : State :=
  let n := s.ras.frame + 1
  let e := if s.netNext then s.tat.next.elim n (·.frame) else n
  (((((s.applyDue n).epochBlank e).transitionApply).pairApply).t4Blank).clipWatch

/-- The scan of a hoop frame is over (R242). -/
def State.scanOver (s : State) : State :=
  { s with mem := { s.mem with h0 := { s.mem.h0 with scanning := false }, h1 := { s.mem.h1 with scanning := false } } }

/-- The ladder and OD_SETTLED_FRAMES take the frame's report of overdrive (R262, R321). -/
def State.settledBlank (s : State) : State :=
  let ok := s.pipe.settledNow
  let s1 := ({ s with pipe := { s.pipe with settled := ok } }).count 898 (b2n ok)
  if ok then s1 else s1.ladderChange

/-- VERTICAL_BLANK_START: the last row scanned has ended (R238). -/
def execVerticalBlankStart (at_ : Nat) (s : State) : Out :=
  let r := s.ras
  let due := r.start + r.rowEnd * r.rowTime
  if !r.running || r.inBlank || r.rowsStarted < r.rowEnd || at_ < due then .next s
  else
    let s1 := (s.elapse due).selAdvance
    let r1 := { s1.ras with inBlank := true, blankAt := s1.now, earliest := s1.now + s1.param 0x2803 * r.rowTime }
    let plain := r.rowEnd == s.param 0x2802 && (s.pnl.st == .on || r.kind == .black)
    let s2 := ({ s1.fetchBlank with ras := r1 }).scanOver.memFrameEnd.zoneSnapshot.settledBlank
    let s3 := (((s2.eyeCheck.sendFill).senseBlank plain).blankApply).selBlank
    done s3.lockBlank

/-- An underrun at row `n`, or a pair's abort: the frame is aborted, and its abort blank begins (R285, R286); OD.SETTLED is that of the rows sent (R302), and a rectangle whose rows have all passed is checked (R443). -/
def State.abortFrame (s : State) (n : Nat) : State :=
  let r := { s.ras with inBlank := true, aborted := true, blankAt := s.now, rowEnd := n,
                        earliest := s.now + max 16 (s.param 0x2803) * s.ras.rowTime }
  let s1 := (({ s.fetchDrop with ras := r, apq := { s.apq with tiles := [] } }).scanOver.captureInput).zoneSnapshot.settledBlank
  ((((s1.eyeCheck.sendFill).senseBlank false).blankApply).selBlank).lockBlank

/-! ## Rows (R22 to R27, R295, R297, R384) -/

/-- Stages 2 to 6 on a row's ground picture, the taps, the write-time entry, the attained state and stress (R23, R295 to R297, R299, R342): an entry that holds 0xFFFF_FFFF is NEVER. -/
def State.sendRow (s : State) (r : Nat) (ground : List Nat) (concealed : Bool) : State :=
  let t1 := s.stage2 r ground
  let t2 := s.stage3 r t1
  let entry := (aget? s.pipe.writeTime r).filter (· != 0xFFFFFFFF)
  let t := usCount s.now
  let od := s.stage4 r (entry.elim (s.binTime 7) fun w => (t + 2 ^ 32 - w) % 2 ^ 32) t2
  let drive := od.map (·.d)
  let out := s.stage5 r drive
  let s1 := (((s.eyeRow 0 r ground concealed).eyeRow 1 r t1 concealed).eyeRow 2 r t2 concealed).eyeRow 3 r out concealed
  let s2 := ((s1.count 896 (od.filter (·.clip == 1)).length).count 897 (od.filter (·.clip == -1)).length).count 899 (b2n entry.isNone)
  let p := s2.pipe
  let s3 : State := if s.memLost then s2
    else { s2 with pipe := { p with writeTime := aset p.writeTime r t, settledNow := p.settledNow && drive == t2 } }
  let s4 := (s3.attWrite r od).sendCodes r out false
  let s5 := if s.odState.writes then (s4.writeBack .left .attainedWrite).writeBack .right .attainedWrite else s4
  if !s.accFrame then s5 else if s.stressLate r then s5.count 711 1 else s5.accumulate r t2

/-- One half's part of a live row, and whether it is concealed: as received, or the same row of the hoop's previous frame; zero drive with MEM lost (R27, R29). -/
def State.halfGround (s : State) (i : Side) (r : Nat) : List Nat × Bool :=
  let (x0, n) := s.halfCols i
  match (s.hl.buf i).find? fun b => b.row == r with
  | some b => (b.codes, false)
  | none => (if s.memLost then List.replicate (3 * n) 0 else ((s.hoopRow s.ras.scan1 r).drop (3 * x0)).take (3 * n), true)

/-- A row that a half has not received by its slot is concealed and bad (R26, R196). It is counted when its lateness or loss is known: as late when it comes, as missing when it is passed over. -/
def State.judgeHalf (s : State) (i : Side) (r : Nat) : State :=
  match s.hl.frame with
  | none => s
  | some f =>
    if f.use ≠ .live || !f.started || (s.hl.group i).lastRow.any (r ≤ ·) then s
    else (s.concealInHoop f i r).badRow r

/-- A hoop row (R27, priority 3); with MEM lost, zero drive. -/
def State.hoopGround (s : State) (r : Nat) : List Nat :=
  if s.memLost then List.replicate (3 * s.param 0x2801) 0 else s.hoopRow s.ras.scan1 r

/-- A row slot of a live frame: both halves are judged, and their rows leave the input buffer (R25 to R27). From the slot that a repeat of R197 or a pair's event names on, the row shown is the hoop's. The hoop frame that concealment or the repeat reads is SCANNING (R272), and what its lookahead does not hold is fetched (R273). -/
def State.liveRow (s : State) (r : Nat) : State :=
  let s1 := s.carriers.foldl (fun t i => t.judgeHalf i r) s
  let parts := if s.ras.repeatFrom.any (· ≤ r) then [(s.hoopGround r, false)] else s.carriers.map fun i => s.halfGround i r
  let s2 := s1.onFrame fun f => if f.use = .live then { f with judged := max f.judged (r + 1) } else f
  let free (l : List BufRow) : List BufRow := l.filter (r < ·.row)
  let s3 : State := { s2 with hl := { s2.hl with bufL := free s2.hl.bufL, bufR := free s2.hl.bufR } }
  let halves := [Side.left, .right].filter fun i => s.fromHoop i r
  let s4 := (halves.foldl (fun t i => t.askRest i true) s3).onHoop s.ras.scan1 fun h => { h with scanning := !halves.isEmpty || s1.ras.repeatFrom.isSome }
  (if s.memLost then s3 else s4).sendRow r (parts.flatMap (·.1)) (parts.any (·.2))

/-- A row whose slot starts (R27). -/
def State.startRow (s : State) (r : Nat) : State :=
  let s1 := if r % 16 = 0 && s.ras.kind != .black then s.fetchBand r else s
  match s.ras.kind with
  | .black => s.sendCodes r (List.replicate (3 * s.param 0x2801) 0) true
  | .hoop => s1.sendRow r (s.hoopGround r) false
  | .live => s1.liveRow r

/-- The slot of row `n` passes with its row sent; from its start the POL outputs carry its polarity (R382, R397). -/
def State.rowGo (s : State) (n : Nat) : State :=
  let s0 := s.startRow n
  let s1 := if s0.sel.driven then s0.selPut 0x13 (polOf (s0.param 0x4806) s0.ras.frame.toNat n) else s0
  ({ s1 with ras := { s1.ras with rowsStarted := n + 1 } }).selAdvance

/-- An underrun at row `n`, `l` and `r` the clients that missed it in each half: counted, and the frame is aborted there; a pair aborts both its devices from the first row slot at least 2 tr later, and counts once (R285, R286, R436). -/
def State.underrunAt (s : State) (n : Nat) (l r : List MemClient) : State :=
  if s.param 0x2807 = 1 then
    if s.ras.abortAt.isSome then s.rowGo n
    else
      let row := s.pairRow
      let s2 := (s.countAbort n l r).pairEvent 2 row
      ({ s2 with ras := { s2.ras with abortAt := some row } }).rowGo n
  else (s.countAbort n l r).abortFrame n

/-- ROW_SLOT_START: after the bursts granted since the last event the slot of the next row starts. A class 1 client that lacks its data, a full write-back buffer, or node data still being copied when row 0 starts, aborts the frame; `blockFail` and `nextFail` say that the resident block in which the row begins, and the next one if the row runs into it, failed its check (R26, R275, R283, R284, R305). -/
def execRowSlotStart (at_ : Nat) (bursts : List Burst) (blockFail nextFail : Bool) (s : State) : Out :=
  let n := s.ras.rowsStarted
  let due := s.ras.start + n * s.ras.rowTime
  if !s.ras.running || s.ras.inBlank || s.ras.rowEnd ≤ n || at_ < due then .next s
  else
    let s1 := (s.grantBursts bursts).elapse due
    let l := s1.missing .left n
    let r := s1.missing .right n
    if s.ras.abortAt.any (· ≤ n) then done (s1.abortFrame n)
    else
      let fail (b : Bool) (t : State) : State := if b then t.residentFail else t
      let s2 := fail nextFail (fail blockFail s1)
      if l.isEmpty && r.isEmpty then done (s2.rowGo n) else done (s2.underrunAt n l r)

/-- OD_TABLE_COPY_DONE: the node data and tile of the selected set are in SRAM0 (R305). -/
def execOdTableCopyDone (s : State) : Out := .next s.sramCopied

/-! ## The raster starts (R84, R85, R260, R298) -/

/-- The attained-state plane over the active raster holds 0 and every write time is NEVER (R298). -/
def State.clearAttained (s : State) : State :=
  let w := 4 * s.param 0x2801
  let n := s.hoopStride * s.param 0x2802
  let inside (a : Nat) : Bool := 0x10000000 ≤ a && a < 0x10000000 + n && (a - 0x10000000) % s.hoopStride < w
  { s with mem := { s.mem with cells := s.mem.cells.filter fun c => !inside c.1 }, pipe := { s.pipe with writeTime := [] } }

/-- The mode the raster starts in, and whether its first frame starts at once (R84, R260). -/
def State.startMode (s : State) : Mode × Bool :=
  match s.timMode with
  | .source => if s.linkActive && s.hl.frame.any InputFrame.fills then (.source, false) else (.fixed, true)
  | .lattice => if s.isRoot then (.lattice, true) else if s.beaconsCome then (.lattice, false) else (.fixed, true)
  | m => (m, true)

/-- The raster starts (R84, R260, R298, R307, R309, R533): with its first frame from the hoop, or waiting for the row 0, beacon or master that starts it. R269 names no cause for the EV_TIM_MODE of a start in another mode than the last: free (assumption 52). -/
def State.rasterGo (s : State) : State :=
  let (m, now) := s.startMode
  let r := { Raster.initial with running := true, frame := s.ras.frame, start := s.now, prevStart := s.now, blankAt := s.now, earliest := s.now,
                                 dwellFrom := s.now, active := s.ras.active, tagHold := s.ras.tagHold, holdEntered := m == .hold,
                                 absentFrom := s.ras.absentFrom, delayOver := s.ras.delayOver }
  let s0 : State := { s.sramCopied with pipe := { s.sramCopied.pipe with lacking := 0 } }
  let s1 : State := { s0 with ras := r, tat := { s.tat with period := 0, rowTime := 0, role := s.param 0x5000, pairTrans := none, pairHoop := none },
                              thm := { s.thm with t4 := if s.wantT4 then .inForce else .none } }
  let (v, s1) := if m = s1.ras.active then (0, s1) else s1.takeFree
  let s2 := ((s1.setActive m (v.toNat % 65536)).fetchDrop).clearAttained.zoneSnapshot.odTablesEvent
  let s3 := if m = .hold then s2.takeHoldPeriod else s2
  if !now || s.isFollower then s3 else s3.hoopStart s3.now

/-- RASTER_START: the panel is on, and the hoop and the map are there or are not waited for (R82, R85). -/
def execRasterStart (tick : FrameTick) (s : State) : Out :=
  let ready := s.memLost || (s.boot.memReady && (s.boot.mapReady || s.boot.mapWaitOver))
  if s.pnl.st ≠ .on || s.ras.running || !ready then .next s
  else done ((s.elapse tick.at_).sampleFifo tick.fifoA tick.fifoB).rasterGo

/-! ## MODE_CHANGE (R256 to R258) -/

/-- A commit-like response: TARGET_FRAME, SET_ID (R132). -/
def commitResp (target set : Nat) : List Byte := toLe 4 target ++ toLe 2 set ++ zeros 2

/-- With the raster stopped MODE_CHANGE applies at once (R258); a raster that waits for its first frame waits for it, or starts it, in the new mode (R260), with FIFO levels that only the outside knows. -/
def State.modeNow (s : State) (m : Mode) : State :=
  let s1 := s.setParam 0x2800 m.code
  let s2 : State := { s1 with par := { s1.par with staged := adel s1.par.staged 0x2800 } }
  let s3 := s2.commit.state
  let s4 := if !s3.ras.running then s3
    else
      let (a, s4) := s3.takeFree
      let (b, s5) := s4.takeFree
      (s5.sampleFifo (a.setWidth 6) (b.setWidth 6)).rasterGo
  s4.endJob 0x0040 stOk

/-- The transition of MODE_CHANGE begins, its staged values frozen (R256). With MEM lost it has no hold frame, and N0 is the frame whose blank applies it (R29, R258). -/
def State.modeBegin (s : State) (m : Mode) : State :=
  let vs := s.stagedF
  let target := s.ras.frame + BitVec.ofNat 32 s.ahead + 1
  let s1 := if vs.isEmpty then s else s.commitWait vs target true
  let s2 := s1.beginTransition m true 1 false
  if !s.memLost then s2
  else
    let back (t : Transition) : Transition := { t with n0 := t.n0 - 1, phase := if s.ahead = 1 then .inHold else .waiting }
    { s2 with ras := { s2.ras with transition := s2.ras.transition.map back } }

/-- MODE_CHANGE as a COMMIT: its job ends at the start of TARGET_FRAME; a refusal has no payload but MISMATCH's (R126, R132, R258). -/
def State.modeCommit (s : State) (mb : Mb) : Reply :=
  let r := s.commit
  if r.status = stOk || r.status = stDeferred then
    let j : Job := { code := 0x0040, mb := mb, tag := (s.mb mb).tag }
    .reply r.status (commitResp r.target 0)
      { r.state with box := { r.state.box with jobs := r.state.box.jobs ++ [j] }, ras := { r.state.ras with modeAt := some (BitVec.ofNat 32 r.target) } }
  else if r.status = stMismatch then .reply stMismatch (commitResp 0 r.set) s
  else .refuse r.status s

/-- MODE_CHANGE's checks (R256, R258). -/
def runModeChange (mb : Mb) (p : List Byte) (s : State) : Reply :=
  match modeOf? (byteAt p 0).toNat with
  | none => .refuse stOutOfRange s
  | some m =>
    if (m = .lattice && !s.isRoot && !s.beaconsCome) || (s.memLost && m ≠ .source) then .refuse stOutOfRange s
    else
      match s.failingSet true false s.stagedF with
      | some k => .reply stMismatch (commitResp 0 k) s
      | none =>
        if s.isFollower then .refuse stDenied s
        else if s.ras.transition.isSome then .refuse stBusy s
        else if !s.framesRun then .accept (commitResp (s.ras.frame + 1).toNat 0) s fun t => t.modeNow m
        else if m = s.timMode && !(s.stagedF.any fun v => timRaster.contains v.1) then s.modeCommit mb
        else if s.transitionMeetsEpoch then .refuse stBusy s
        else
          let n0 := s.ras.frame + BitVec.ofNat 32 (s.ahead - b2n s.memLost)
          .accept (commitResp (n0 + 1).toNat 0) s fun t => t.modeBegin m

/-- MODE_CHANGE (R256). -/
def execModeChange (mb : Mb) (s : State) : Out := s.serve mb (.fixed 0x0040 4 fun p => zeroAt p 1 3) (runModeChange mb)

end Sys2Proof.Machine
end

