-- ==== Sys2Proof/Machine/Training.lean ====
section
/-! DEFINITION. Training of the Vorul link: wakes, the receive PLL, block lock, the equaliser, deskew, and what makes a group leave ACTIVE (R171 to R183, R203 to R206). -/

namespace Sys2Proof

/-! ## EQUALIZE's choice on one lane (R177) -/

/-- Eye height at a bandwidth and a peaking in dB. -/
def LaneEye.at_ (e : LaneEye) (bw db : Nat) : Nat := (e.heights.getD (16 * bw + db) 0).toNat

/-- The best of some peakings at a bandwidth: the greatest height, the lower peaking on a tie (R177). -/
def LaneEye.best (e : LaneEye) (bw : Nat) : List Nat → Nat
  | [] => 0
  | [x] => x
  | x :: xs =>
    let y := e.best bw xs
    if e.at_ bw y < e.at_ bw x ∨ (e.at_ bw y = e.at_ bw x ∧ x ≤ y) then x else y

/-- The peaking kept at a bandwidth: the best coarse point, then the best of it and the points 1 dB either side (R177). -/
def LaneEye.kept (e : LaneEye) (bw : Nat) : Nat :=
  let c := e.best bw ((List.range 8).map (2 * ·))
  e.best bw ((List.range 16).filter fun d => c ≤ d + 1 && d ≤ c + 1)

/-- The setting ADAPT keeps: peaking and bandwidth. Height decides, then the lower peaking; between two bandwidths equal in both, `free` (R177). -/
def LaneEye.adapt (e : LaneEye) (free : Bool) : Nat × Nat :=
  let (p0, p1) := (e.kept 0, e.kept 1)
  let (h0, h1) := (e.at_ 0 p0, e.at_ 1 p1)
  if h1 < h0 then (p0, 0)
  else if h0 < h1 then (p1, 1)
  else if p0 < p1 then (p0, 0)
  else if p1 < p0 then (p1, 1)
  else (p0, if free then 1 else 0)

end Sys2Proof

namespace Sys2Proof.Machine

/-- A per-lane vector with a group's lanes taken from `f`, and 0 on its unused lanes (R209). -/
def State.groupVec (s : State) (i : Side) (v : Vector Nat 16) (f : Nat → Nat) : Vector Nat 16 :=
  Vector.ofFn fun k =>
    if k.val / 8 = laneBase i / 8 then (if k.val % 8 < s.groupLanes then f (k.val % 8) else 0) else v[k]

/-- Whether a group is in one of the training states. -/
def LinkState.trains (st : LinkState) : Bool := st != .idle && st != .active

/-! ## Wakes (R205, R206, R512) -/

/-- HL_ACTIVITY_QUALIFIED: the clock lane of a group has been active for HL.WAKE_QUAL; it wakes an IDLE link whose clock lane has been idle since (R205). -/
def execHlActivityQualified (side : Side) (s : State) : Out :=
  let g := s.hl.group side
  let s1 := s.onGroup side fun g => { g with clockPresent := true }
  if g.st != .idle || !g.idleSeen || !bit (s.param 0x2406) 0 || !s.wakeCounts .hlActivity then done s1
  else done ((s1.linkWake side).qualify .hlActivity)

/-- HL_WAKE_PATTERN: an IDLE link wakes; any other restarts training at CLK_DETECT (R182, R205, R206). -/
def execHlWakePattern (side : Side) (s : State) : Out :=
  let st := (s.hl.group side).st
  if st == .active then done (s.linkDown 6 .clkDetect)
  else if st != .idle then done (s.startSeries s.groupTrains .clkDetect)
  else if !bit (s.param 0x2406) 1 || !s.wakeCounts .hlWake then .next s
  else done ((s.linkWake side).qualify .hlWake)

/-- HL_WAKE_GLITCH: activity that stopped before it qualified wakes nothing (R205). -/
def execHlWakeGlitch (side : Side) (s : State) : Out :=
  if (s.hl.group side).st != .idle then .next s
  else .next ((s.onGroup side fun g => { g with clockPresent := false, idleSeen := true }).count 592 1)

/-! ## CLK_DETECT and PHASE (R179) -/

/-- HL_RECEIVE_PLL_LOCK: the receive PLL locks to the forwarded clock, whose lane rate is `rate` Mbit/s; within ±300 ppm of HL.LANE_RATE the group goes on to PHASE (R179). -/
def execHlReceivePllLock (side : Side) (rate : BitVec 14) (s : State) : Out :=
  if (s.hl.group side).st != .clkDetect then .next s
  else
    let want : Nat := 100 * s.param 0x2402
    let off := ((rate.toNat : Int) - want).natAbs
    let ok := decide (off * 1000000 ≤ 300 * want)
    let s1 := s.onGroup side fun g => { g with clockPresent := true, st := if ok then .phase else g.st }
    let h := s1.hl
    let h1 : HostLink := match side with
      | .left => { h with rateA := rate.toNat }
      | .right => { h with rateB := rate.toNat }
    .next { s1 with hl := { h1 with statusDue := true } }

/-- HL_BLOCK_LOCK: every lane has its sampling phase and block lock (R179). -/
def execHlBlockLock (side : Side) (phases : List (BitVec 6)) (s : State) : Out :=
  if phases.length ≠ 8 then .fault .illFormed
  else if (s.hl.group side).st != .phase then .next s
  else
    let s1 := s.onGroup side fun g => { g with st := .equalize }
    let v := s1.groupVec side s1.hl.phaseSel fun k => (phases.getD k 0).toNat
    .next { s1 with hl := { s1.hl with phaseSel := v, statusDue := true } }

/-! ## EQUALIZE (R177, R178) -/

/-- A lane adapts: its setting and the coarse heights at the kept bandwidth (R177). -/
def State.adaptLane (s : State) (n : Nat) (e : LaneEye) : State :=
  let (v, s1) := s.takeFree
  let (p, bw) := e.adapt (v.getLsbD 0)
  let scan := (List.range 8).foldl (fun l k => aset l (8 * n + k) (e.at_ bw (2 * k))) s1.hl.scan
  { s1 with hl := { s1.hl with eq := s1.hl.eq.setIfInBounds n (p, bw), adapted := s1.hl.adapted.setIfInBounds n true, scan := scan } }

/-- The settings in use become the active values of HL.EQ_PEAKn and HL.EQ_BWn (R177). -/
def State.eqActive (s : State) (n : Nat) : State :=
  let (p, bw) := s.hl.eq.toList.getD n (8, 1)
  (s.setParam (0x2420 + n) p).setParam (0x2430 + n) bw

/-- HL_EQUALIZE_DONE: the equaliser's settings and the final eye of each lane; below 30 mV or 0.30 UI the attempt fails (R177, R178). -/
def execHlEqualizeDone (side : Side) (eyes : List LaneEye) (s : State) : Out :=
  if eyes.length ≠ 8 then .fault .illFormed
  else if (s.hl.group side).st != .equalize then .next s
  else
    let mode := s.param 0x240F
    let lanes := (List.range s.groupLanes).map fun k => (laneBase side + k, eyes.getD k { heights := [], height := 0, width := 0 })
    let fresh (n : Nat) : Bool := mode == 0 || (mode == 1 && !s.hl.adapted.toList.getD n false)
    let s1 : State := lanes.foldl (fun t l => if fresh l.1 then t.adaptLane l.1 l.2 else t) s
    let s2 : State := if mode = 2 then s1 else lanes.foldl (fun t l => t.eqActive l.1) s1
    let eye := lanes.foldl (fun v l => v.setIfInBounds l.1 (l.2.height.toNat, l.2.width.toNat)) s2.hl.eye
    let s3 : State := { s2 with hl := { s2.hl with eye := eye, statusDue := true } }
    match lanes.find? fun l => l.2.height.toNat < 30 || l.2.width.toNat < 20 with
    | some l => done (s3.attemptFailed side l.1)
    | none => done (s3.onGroup side fun g => { g with st := .deskew })

/-! ## DESKEW (R172, R179) -/

/-- The first lane of a group whose TS2 differs from what its place and HL.LANE_RATE ask for, of one block a lane (R175, R179). -/
def State.ts2Wrong (s : State) (i : Side) (ts2 : List LinkBlock) : Option Nat :=
  (List.range s.groupLanes).find? fun n => ts2.getD n 0 != orderedBlock (ts2Bytes i n (s.param 0x2402))

/-- HL_DESKEW_DONE: every lane has been aligned and has shown its TS2, with its delay added and, in WIDE16, group B `skew` ps after group A. Within 16 UI and ±4 ns, and with every TS2 field right, the group becomes ACTIVE (R172, R175, R179, R181). -/
def execHlDeskewDone (side : Side) (skew : BitVec 16) (lanes : DeskewLanes) (s : State) : Out :=
  if lanes.delays.length ≠ 8 then .fault .illFormed
  else if (s.hl.group side).st != .deskew then .next s
  else
    let k := skew.toInt
    let v := s.groupVec side s.hl.deskew fun n => (lanes.delays.getD n 0).toNat
    let s1 : State := { s with hl := { s.hl with deskew := v, skew := if s.wide then k else s.hl.skew } }
    if s.wide && 4000 < k.natAbs then done (s1.attemptFailed side 0xFF)
    else
      match (List.range s.groupLanes).find? fun n => 16 < (lanes.delays.getD n 0).toNat with
      | some n => done (s1.attemptFailed side (laneBase side + n))
      | none => match s.ts2Wrong side lanes.ts2 with
        | some n => done (s1.attemptFailed side (laneBase side + n))
        | none => done (s1.groupActive side)

/-! ## Failed attempts (R181) -/

/-- HL_TRAIN_TIMEOUT: a training state has lasted its timeout; `lane` is the lane it waited for, 0xFF for none (R181, R208). -/
def execHlTrainTimeout (side : Side) (lane : BitVec 8) (s : State) : Out :=
  if (s.hl.group side).st.trains then done (s.attemptFailed side lane.toNat) else .next s

/-- HL_TRAIN_BACKOFF_EXPIRY: with a forwarded clock still present, a new series starts (R181). -/
def execHlTrainBackoffExpiry (s : State) : Out :=
  if !s.hl.backoff || !s.clockPresent || s.hl.a.st != .idle then .next s
  else done ({ s with hl := { s.hl with trainWanted := true } }).tryTrain

/-- HL_CLOCK_LOST: the receive PLL of a group loses lock, or its clock stops; `activity` is what the AON detector reports (R181, R182, R204). -/
def execHlClockLost (side : Side) (activity : Bool) (s : State) : Out :=
  let st := (s.hl.group side).st
  let s1 := s.onGroup side fun g => { g with clockPresent := activity, idleSeen := g.idleSeen || !activity }
  if st == .active then
    if activity then done (s1.linkDown 3 .clkDetect)
    else done (((s1.linkDown 2 .idle).sourceIdle .idleHold false).idleSafeStop)
  else if st != .idle then
    if activity then done (s1.attemptFailed side 0xFF)
    else done ((s1.count 590 1).linkIdle.dropLinkVote)
  else done s1

/-! ## Leaving ACTIVE (R175, R182, R203) -/

/-- A block error on a lane of an ACTIVE group: counted, and more than HL.BLOCK_ERR_LIMIT within the 1 ms that ends here make the group leave ACTIVE for PHASE (R182). -/
def State.blockError (s : State) (i : Side) (lane : Nat) : State :=
  if !s.groupIs .active i then s
  else
    let s1 := s.count 576 1
    let n := laneBase i + lane
    let errs := s1.hl.laneErr.setIfInBounds n (sat 0xFFFFFFFF (s1.hl.laneErr.toList.getD n 0 + 1))
    let s2 := ({ s1 with hl := { s1.hl with laneErr := errs } }).onGroup i fun g =>
      { g with blockErrs := g.blockErrs.filter (fun t => s1.now < t + ms 1) ++ [s1.now] }
    if s.param 0x2408 < (s2.hl.group i).blockErrs.length then s2.linkDown 4 .phase else s2

/-- The group of a link lane. -/
def laneSide (n : Nat) : Side := if n < 8 then .left else .right

/-- The blocks of one block set that are errors are counted, lane by lane (R175, R182). A lane without a block is heard as 0s, which is an invalid header. -/
def State.setErrors (s : State) (i : Side) (wrong : LaneGroup → LinkBlock → Bool) (set : List LinkBlock) : State :=
  let lanes := s.streamLanes i
  (List.range lanes.length).foldl (fun t k =>
    let n := lanes.getD k 0
    if wrong (t.hl.group (laneSide n)) (set.getD k 0) then t.blockError (laneSide n) (n % 8) else t) s

/-- HL_BLOCK_ERROR: a block on a lane; one with an invalid sync header, or an ordered set that has no place in ACTIVE, is an error (R173, R175, R182). -/
def execHlBlockError (side : Side) (lane : Fin 8) (incoming : Nat × LinkBlock) (s : State) : Out :=
  if !s.groupIs .active side || s.groupLanes ≤ lane.val || !(s.hl.group side).blockWrong incoming.2 then .next s
  else done ((s.elapse incoming.1).blockError side lane.val)

/-- A side as the receiver counts it: WIDE16 is one stream on group A (R174, R187). -/
def State.stream (s : State) (side : Side) : Side := if s.wide then .left else side

/-- Whether every active lane of a stream shows an ordered set in this block set (R174). -/
def State.setIs (s : State) (i : Side) (o : OrderedSet) (blocks : List LinkBlock) : Bool :=
  (List.range (s.streamLanes i).length).all fun k => blockSetOf (blocks.getD k 0) == some o

/-- HL_TS1_RETRAIN: TS1 on every active lane of an ACTIVE group asks for retraining; on fewer lanes it asks for nothing (R175, R182). -/
def execHlTs1Retrain (incoming : Side × List LinkBlock) (s : State) : Out :=
  let i := s.stream incoming.1
  if !s.groupIs .active i then .next s
  else if s.setIs i .ts1 incoming.2 then done (s.linkDown 5 .phase)
  else done (s.setErrors i LaneGroup.blockWrong incoming.2)

/-- HL_SOF: a SOF block set seeds the scramblers of its lanes; what follows it is parsed again (R174 to R176, R185). Without SOF on every lane it is none. -/
def execHlSof (incoming : Side × List LinkBlock) (s : State) : Out :=
  let i := s.stream incoming.1
  if !s.groupIs .active i then .next s
  else if !s.setIs i .sof incoming.2 then done (s.setErrors i LaneGroup.blockWrong incoming.2)
  else
    let on (t : State) (k : Side) : State := t.onGroup k fun g => { g with skipToSof := false, sofSeen := true }
    .next ((if s.wide then on (on s .left) .right else on s i).seedLanes i)

/-- HL_EIOS: after a SLEEP both groups go IDLE, EV_HL_SLEEP reports IDLE_TIME, and the raster passes into HOLD (R203, R250, R251). The spec is silent on an EIOS with no SLEEP before it: it is ignored (DESIGN CHOICE, assumption 78). -/
def execHlEios (s : State) : Out :=
  match s.hl.sleepIdle with
  | none => .next s
  | some idle =>
    if !s.linkActive then .next s
    else
      let keep := s.hl.sleepKeep
      let clk (g : LaneGroup) : LaneGroup := { g with clockPresent := keep }
      let s1 : State := { s with hl := { s.hl with a := clk s.hl.a, b := clk s.hl.b } }
      let s2 := (s1.linkDown 1 .idle).event 0x2406 .info true 2 idle.toNat
      let short := decide (1 ≤ idle.toNat) && decide (idle.toNat ≤ s.param 0x280F)
      done ((s2.sourceIdle .sleepHold short).idleSafeStop)

/-! ## The back-channel (R200 to R202) -/

/-- The rest of a live frame is shown from the hoop (R27, priority 3, R197). -/
def State.restRepeats (s : State) : Bool := s.ras.kind == .live && s.ras.repeatFrom.any (· < max 1 s.ras.rowsStarted)

/-- The STATUS payload of R202. -/
def State.statusMsg (s : State) : List Byte :=
  let flags := 8 * b2n s.hl.repeated + 4 * b2n (s.ras.running && (s.ras.kind == .hoop || s.restRepeats)) + 2 * b2n (!s.sec.sessions.isEmpty) + b2n s.hl.rejecting
  [Byte.of s.hl.a.st.code, Byte.of (if s.wide then 0 else s.hl.b.st.code), Byte.of flags, 0] ++
    toLe 4 s.ras.frame.toNat ++ toLe 4 s.hl.lastSrc.toNat ++ toLe 2 (sat 65535 s.hl.lastBad) ++ zeros 2

/-- STATUS_TIMER: a STATUS is ready, every 10 µs while a group trains, and in ACTIVE after a frame start or a change of state (R202). -/
def execStatusTimer (s : State) : Out :=
  let trains := s.hl.a.st.trains || s.hl.b.st.trains
  if !s.bcDriven || !(trains || s.hl.statusDue) then .next s
  else .next (({ s with hl := { s.hl with statusDue := false } }).bcSend { kind := 1, payload := s.statusMsg, last := none })

/-- A message goes out on HL_BC, framed and coded (R200). -/
def State.bcTransmit (s : State) (m : BcMsg) : State :=
  let (wire, minus, ends) := transmit (frameChars m.kind m.payload) s.now s.hl.bcAt s.hl.bcMinus
  { s with hl := { s.hl with bcWire := wire, bcMinus := minus, bcAt := ends } }

/-- BACK_CHANNEL_SEND: HL_BC is free and sends the next message; the last fragment of a response releases its mailbox (R117, R200, R201). -/
def execBackChannelSend (s : State) : Out :=
  match s.hl.tx with
  | [] => .next s
  | m :: rest =>
    if !s.bcDriven then .next s
    else
      let s1 := State.bcTransmit { s with hl := { s.hl with tx := rest } } m
      done (m.last.elim s1 s1.release)

end Sys2Proof.Machine
end

