-- ==== Sys2Proof/Machine/HostLink.lean ====
section
/-! DEFINITION. The packets of the Vorul link: frame starts, rows, frame ends, surface writes, in-band fragments, SLEEP and what is skipped (R116, R117, R184 to R199, R203, R204, R217 to R220, R241 to R248). -/

namespace Sys2Proof.Machine

/-- Whether packets of a stream are parsed: its group is ACTIVE and a SOF has come since the last lost header (R179, R185). -/
def State.receives (s : State) (i : Side) : Bool := (s.hl.group i).st == .active && !(s.hl.group i).skipToSof

/-- HL_UNKNOWN_PKT counts a packet skipped (R186). -/
def State.unknownPkt (s : State) : State := s.count 578 1

/-! ## FS (R188, R198, R199, R242, R245) -/

/-- The frame's FS disagrees with the active values, or is plain while link encryption is required, or the two groups' FS disagree (R199, R220). -/
def State.fsRejected (s : State) (p : List Byte) : Bool :=
  (byteAt p 5).toNat != s.param 0x2403 || le2 p 6 != s.param 0x2801 || le2 p 8 != s.param 0x2802 ||
  (s.param 0x2000 == 1 && !bit (byteAt p 4).toNat 2) || (!s.wide && !s.hl.b.fs.isEmpty && s.hl.b.fs != p)

/-- An input frame at its FS, accepted or not at instant `t`. -/
def newFrame (p : List Byte) (use : InputUse) (slot1 : Bool) (t : Nat) : InputFrame :=
  { src := Word.of (le4 p 0), flags := byteAt p 4, format := (byteAt p 5).toNat, use := use, slot1 := slot1, bad := [], judged := 0,
    hoopRepeat := false, started := false, fsBytes := p, slotAt := none, decided := use != .captured, fsAt := t }

/-- HL_FRAME_REJECT, and EV_HL_FORMAT_MISMATCH on the first rejection after an accepted frame, or since reset (R199; the latter a DESIGN CHOICE, assumption 83). -/
def State.countReject (s : State) (p : List Byte) : State :=
  let s1 := s.count 586 1
  let s2 := if s.hl.rejecting then s1 else s1.event 0x2405 .warning true 2 (le2 p 6 * 65536 + le2 p 8)
  { s2 with hl := { s2.hl with rejecting := true } }

/-- Whether an accepted FS ends the hoop frame being scanned (R245, R263): never a live frame, a frame timed by the source or the beacon, or N0; nor while a transition holds the source's return (R259); nor for a repeat of the source in SOURCE while the ladder has stepped. -/
def State.preempts (s : State) (srcRepeat : Bool) : Bool :=
  s.ras.running && !s.ras.inBlank && s.ras.kind == .hoop && !s.ras.sourceTimed && s.pnl.st == .on && s.timMode == .source && !s.isFollower &&
  !(s.ras.transition.any fun t => t.phase == .inHold || s.ras.active != .source) &&
  !(srcRepeat && s.ras.active == .source && decide (0 < s.ras.ladderStep))

/-- Preemption: the frame ends with the row whose slot has started, or in a pair at the row both devices can act on (R245, R436). -/
def State.preempt (s : State) : State :=
  let paired := s.param 0x2807 == 1
  let row := if paired then min (s.param 0x2802) s.pairRow else max 1 s.ras.rowsStarted
  let s1 := (({ s with ras := { s.ras with rowEnd := min s.ras.rowEnd row } }).scanOver).count 643 1
  s1.pairEvent 1 row

/-- An FS that is accepted: preemption first, then R242's drop, then the hoop frame opens for filling (R242, R245, R253, R263, R272). -/
def State.fsAccept (s : State) (p : List Byte) : State :=
  let s1 : State := { s with hl := { s.hl with rejecting := false } }
  let srcRepeat := bit (byteAt p 4).toNat 1
  let s2 := if s1.preempts srcRepeat then s1.preempt else s1
  let slot1 := !s2.marked
  let s3 : State := if s2.ras.active = .source && !srcRepeat then { s2 with ras := { s2.ras with ladderStep := 0, dwellFrom := s2.now } } else s2
  if !s2.memLost && (s2.hoopFrame slot1).scanning then
    ({ s2 with hl := { s2.hl with frame := some (newFrame p .dropped slot1 s2.now) } }).count 646 1
  else
    let f := newFrame p (if s3.frozen then .frozen else .captured) slot1 s3.now
    ({ s3 with hl := { s3.hl with frame := some f } }).onHoop slot1 fun h =>
      { h with role := .filling, format := f.format, rows := 0, src := f.src, resident := false }

/-- The FS of the frame is judged (R199). -/
def State.fsJudge (s : State) (p : List Byte) : State :=
  if s.fsRejected p then
    ({ s with hl := { s.hl with frame := some (newFrame p .rejected (!s.marked) s.now) } }).countReject p
  else s.fsAccept p

/-- Group B's FS with a frame already open: one that differs rejects the frame (R187, R199). -/
def State.fsOther (s : State) (p : List Byte) : State :=
  match s.hl.frame with
  | none => s
  | some f =>
    if f.fsBytes == p || !f.fills then s
    else ((s.onFrame fun f => { f with use := .rejected }).onHoop f.slot1 fun h => { h with role := .free }).countReject f.fsBytes

/-- Group A's FS is judged as soon as the frame's fate can be known: in the split configurations with group B's beside it, unless group A's own is enough to reject it (R187, R199). -/
def State.fsTry (s : State) : State :=
  let p := s.hl.a.fs
  if p.isEmpty || !(s.wide || !s.hl.b.fs.isEmpty || s.fsRejected p) then s else s.fsJudge p

/-- A frame whose group A has gone on without group B's FS opens on group A's alone (DESIGN CHOICE, assumption 84). -/
def State.openPending (s : State) : State :=
  if s.hl.frame.isSome || s.hl.a.fs.isEmpty then s else s.fsJudge s.hl.a.fs

/-- An FS on a stream (R187, R188, R198, R218, R234). -/
def State.fsIn (s : State) (i : Side) (p : List Byte) : State :=
  let src := Word.of (le4 p 0)
  let s1 := s.onGroup i fun g => { g with lastFs := some src }
  let s2 : State := { s1 with hl := { s1.hl with fsLast := if i = .left then some src else s1.hl.fsLast },
                              sec := { s1.sec with linkEnc := s1.param 0x2000 == 1 } }
  let s3 := if (s2.hl.group i).fs.isEmpty then s2 else ((s2.openPending).count 585 1).inputEnd (some 3)
  let s4 := s3.onGroup i fun g => { g with fs := p }
  if s4.hl.frame.isSome then s4.fsOther p else s4.fsTry

/-! ## Row 0 (R172, R244, R248, R263) -/

/-- The input frame goes on as a capture: no row of it waits for a slot, and `n` is counted in TIM_CAPTURE. -/
def State.capture (s : State) (n : Nat) : State :=
  ((s.onFrame fun f => { f with use := .live }).captureInput).count 644 n

/-- Whether a live frame may start in SOURCE now: TIM.MODE is SOURCE and no transition holds input, or the source's return, back (R239, R244, R252, R256, R259). -/
def State.sourceLive (s : State) : Bool :=
  match s.ras.transition with
  | none => s.timMode == .source
  | some t => match t.phase with
    | .waiting => s.timMode == .source && s.ras.active == .source
    | .inHold => false
    | .applied => t.mode == .source

/-- Row 0 of both halves has arrived: the frame is decided live or captured (R244, R248, R256, R263, R267). -/
def State.rowZero (s : State) : State :=
  let slot := s.now + s.slotDelay
  let whole := s.carriers.all fun i => (s.hl.group i).lastRow == some 0
  let held := s.ras.transition.any fun t => t.phase != .waiting
  if !s.ras.running || s.pnl.st != .on then s.capture 0
  else if s.tethered || s.nextMode == .lattice || s.netNext then
    if held && !s.tethered then s.capture 0
    else if !whole then s.capture 1
    else if s.ras.inBlank then s.onFrame fun f => { f with slotAt := some slot }
    else
      ({ s with ras := { s.ras with latticePhase := clampInt (-65535) 65535 ((slot : Int) - s.ras.start) } }).capture 1
  else if !s.sourceLive || s.isFollower then s.capture 0
  else
    let r := s.ras
    let skip := r.active == .source && decide (0 < r.ladderStep) && (s.hl.frame.any InputFrame.srcRepeat) && decide (slot < s.genDue)
    if skip then (s.capture 0).count 645 1
    else if whole && r.inBlank && !r.aborted && decide (r.earliest ≤ slot) then
      s.onFrame fun f => { f with use := .live, slotAt := some slot, decided := true }
    else s.capture 1

/-! ## ROW (R189, R190, R196, R217) -/

/-- A big-endian byte list of `v` in `n` bytes. -/
def toBe (n v : Nat) : List Byte := (toLe n v).reverse

/-- Counter block j of R217. -/
def counterBlock (src kind half row j : Nat) : List Byte :=
  toBe 4 src ++ [Byte.of kind, Byte.of half] ++ toBe 2 row ++ zeros 4 ++ toBe 4 j

/-- A byte string XORed with the AES-128 keystream whose first counter block is number `j0` (R217). -/
def cipherXor (key : List Byte) (src kind half row j0 : Nat) (bs : List Byte) : List Byte :=
  let n := (bs.length + 15) / 16
  let ks := (List.range n).flatMap fun k => slice (Config.aes128 key (counterBlock src kind half row (j0 + k))) 0 16
  List.zipWith (· ^^^ ·) bs ks

/-- K_ROW of the session that covers an SRC_FRAME; without one the keystream is what the opaque cipher gives for no key (R215, R217; assumption 3). -/
def State.rowKey (s : State) (src : Word) : List Byte := (s.sessionFor src).elim [] fun e => e.keys.row

/-- The components of a pixel stream of `b` bits each (R190). -/
def components (b n : Nat) (bs : List Byte) : List Nat :=
  (List.range n).map fun k =>
    let o := b * k
    (leAt bs (o / 8) 3 / 2 ^ (o % 8)) % 2 ^ b

/-- The layout of a frame's ROW packets on a stream (R189). -/
def State.rowShape (s : State) (i : Side) (f : InputFrame) : Nat × Nat × Nat :=
  let p := (s.halfCols i).2
  let b := (3 * formatBits f.format * p + 7) / 8
  (p, b, (b + 20 + 15) / 16 * 16)

/-- HALF of a stream's ROW packets (R189). -/
def State.halfCode (s : State) (i : Side) : Nat := if s.wide then 3 else i.code

/-- Whether a ROW's fields are those of the frame and the group (R196). -/
def State.rowFits (s : State) (i : Side) (f : InputFrame) (p : List Byte) : Bool :=
  let (n, _, len) := s.rowShape i f
  (byteAt p 2).toNat == s.halfCode i && (byteAt p 3).toNat == f.format && le2 p 4 == f.src.toNat % 65536 && le2 p 6 == n && p.length == len

/-- A group has accepted a row, or what stands in its place. -/
def State.rowSeen (s : State) (i : Side) (r : Nat) : State := s.onGroup i fun g => { g with lastRow := some r }

/-- A row that came but cannot be used: rows before it that did not come are missing, and it is bad (R196). -/
def State.rowUnusable (s : State) (i : Side) (f : InputFrame) (r : Nat) : State :=
  ((((s.missUpTo f i r).rowSeen i r).concealInHoop f i r).badRow r)

/-- A good row: it is decrypted, written to the hoop, and held for its slot while its frame is live or may still become so (R22, R26, R190, R217, R270). -/
def State.rowGood (s : State) (i : Side) (f : InputFrame) (r : Nat) (enc : Bool) (p : List Byte) : State :=
  let (n, b, _) := s.rowShape i f
  let data := slice p 16 b
  let clear := if enc then cipherXor (s.rowKey f.src) f.src.toNat 1 (s.halfCode i) r 0 data else data
  let bitsN := formatBits f.format
  let comps := components bitsN (3 * n) clear
  let s1 := (s.missUpTo f i r).rowSeen i r
  let s2 := s1.onGroup i fun g => { g with pixels := aset g.pixels r data }
  let halves := if s.wide then [Side.left, .right] else [i]
  let held := halves.foldl (fun t k => t.writeBack k .hoopWrite) s2
  let s3 := (if s.memLost then s2 else held.hoopWrite f.slot1 f.format r comps (s.halfCols i).1).noteRows f
  let entry : BufRow := { row := r, codes := comps.map (expand bitsN) }
  let hold := f.use == .live || (!f.decided && s.ras.running && s.ras.inBlank && (s.hl.buf i).length < 2)
  if !hold then s3
  else match i with
    | .left => { s3 with hl := { s3.hl with bufL := s3.hl.bufL ++ [entry] } }
    | .right => { s3 with hl := { s3.hl with bufR := s3.hl.bufR ++ [entry] } }

/-- Whether row `r` of a live frame has come more than 56 cycles behind its anchored pace, or after its slot started (R26). -/
def State.rowLate (s : State) (f : InputFrame) (r : Nat) : Bool :=
  let tr := if f.started then s.ras.rowTime else s.rowTimeFor s.nextMode
  f.use == .live && ((f.slotAt.any fun t => t + r * tr + s.slack < s.now + s.slotDelay) || (f.started && decide (r < f.judged)))

/-- A ROW packet inside its frame (R196). -/
def State.rowIn (s : State) (i : Side) (f : InputFrame) (enc : Bool) (p : List Byte) : State :=
  let r := le2 p 0
  let v := s.param 0x2802
  let above := (s.hl.group i).lastRow.all (· < r)
  if crc32c (p.take (p.length - 4)) ≠ le4 p (p.length - 4) then
    let s1 := s.count 579 1
    if above && decide (r < v) then s1.rowUnusable i f r else s1
  else if !above || decide (v ≤ r) then s.count 582 1
  else if !s.rowFits i f p then (s.count 582 1).rowUnusable i f r
  else if s.rowLate f r then (s.count 580 1).rowUnusable i f r
  else if f.use = .live && decide (2 ≤ (s.hl.buf i).length) then (s.count 581 1).rowUnusable i f r
  else s.rowGood i f r enc p

/-- A ROW packet on a stream (R189, R196). The first row of the last half decides the frame. -/
def State.rowPacket (s : State) (i : Side) (enc : Bool) (p : List Byte) : State :=
  let s1 := if i = .left then s.openPending else s
  match s1.hl.frame with
  | none => s1.count 582 1
  | some f =>
    if !f.fills then s1
    else
      let g := s1.hl.group i
      if g.fs.isEmpty || g.fe.isSome then s1.count 582 1
      else
        let began (t : State) : Bool := t.carriers.all fun k => (t.hl.group k).lastRow.isSome
        let s2 := s1.rowIn i f enc p
        if !began s1 && began s2 && f.use = .captured then s2.rowZero else s2

/-! ## FE (R191, R198, R222) -/

/-- HL_FRAME_CRC: a group's FRAME_CRC differs from the CRC over the PIXEL_DATA received (R198). -/
def State.crcDiffers (s : State) (i : Side) : Nat :=
  let g := s.hl.group i
  b2n (crc32c (g.pixels.flatMap (·.2)) != le4 (g.fe.getD []) 8)

/-- Every group has its FE: FRAME_CRC is compared where no row was bad, STATUS takes the frame, and its outcome is decided (R198, R202, R222). -/
def State.frameWhole (s : State) : State :=
  match s.hl.frame with
  | none => s
  | some f =>
    if !f.fills then s.clearGroups
    else
      let s1 := if f.bad.isEmpty then s.count 584 ((s.carriers.map s.crcDiffers).foldl (· + ·) 0) else s
      ({ s1 with hl := { s1.hl with lastSrc := f.src, lastBad := sat 65535 f.bad.length } }).inputEnd none

/-- An FE packet ends the frame on its stream; one whose SRC_FRAME is not its FS's counts as missing (R191, R198). -/
def State.fePacket (s : State) (i : Side) (p : List Byte) : State :=
  let s1 := if i = .left then s.openPending else s
  let g := s1.hl.group i
  match s1.hl.frame with
  | none => s1.onGroup i fun g => { g with fs := [] }
  | some f =>
    if g.fs.isEmpty then s1
    else if f.fills && le4 p 0 ≠ le4 g.fs 0 then (s1.count 585 1).inputEnd (some 3)
    else
      let s2 := if f.fills then s1.missUpTo f i (s1.param 0x2802) else s1
      let s3 := s2.onGroup i fun g => { g with fe := some p }
      if s3.carriers.all fun k => (s3.hl.group k).fe.isSome then s3.frameWhole else s3

/-! ## SURF (R193, R218, R220) -/

/-- A SURF packet whose CRC passes and that nothing refuses is written into the surface pool (R193, R218, R220). The spec names no outcome for BYTES of 0 or past the packet's data: such a packet is refused too (DESIGN CHOICE, assumption 79). -/
def State.surfPacket (s : State) (i : Side) (enc : Bool) (p : List Byte) : State :=
  let n := p.length
  if crc32c (p.take (n - 4)) ≠ le4 p (n - 4) then s.count 588 1
  else
    let a := le4 p 0
    let len := le4 p 4
    let gov := (s.hl.group i).lastFs
    let keyed := gov.any fun src => (s.sessionFor src).isSome
    let refused := s.param 0x2405 == 0 || a % 16 != 0 || len == 0 || decide (n < len + 20) || decide (a < 0x44000000) || decide (0x84000000 < a + len) ||
      (s.sec.linkEnc && !enc) || (enc && !keyed)
    if refused then s.count 587 1
    else
      let src := gov.getD 0
      let data := slice p 16 len
      let clear := if enc then cipherXor (s.rowKey src) src.toNat 2 0 0 (a / 16) data else data
      if s.memLost then s else s.poolWrite false a clear

/-! ## CTL (R116, R117, R192) -/

/-- Whether a CTL fragment is malformed (R117). -/
def ctlMalformed (p : List Byte) : Bool :=
  let n := le2 p 4
  decide (4 ≤ (byteAt p 1).toNat) || le2 p 2 % 16 != 0 || n == 0 || decide (496 < n) || p.length != 16 * (1 + (n + 15) / 16) || !zeroAt p 6 10

/-- A partial in-band request is discarded, and counted in HL_UNKNOWN_PKT (R117, R207). -/
def State.discardPartial (s : State) (mb : Mb) : State := (s.onMb mb fun m => { m with fill := false }).unknownPkt

/-- A well-formed fragment for a mailbox (R117). -/
def State.ctlFragment (s : State) (mb : Mb) (p : List Byte) : State :=
  let frag := (byteAt p 1).toNat
  let off := le2 p 2
  let n := le2 p 4
  let m := s.mb mb
  if !s.domOn dCtrl then s.portError 1
  else if bit frag 0 && m.st != .idle then s.overrun mb
  else if !bit frag 0 && !m.fill then s.unknownPkt
  else if 512 < off + n then s.discardPartial mb
  else
    let s1 := s.onMb mb fun m => { m with fill := true, req := overlay m.req off (slice p 16 n) }
    if bit frag 1 then s1.ring mb .inBand else s1

/-- One in-band fragment of a request for MB0 or MB1 (R116, R117). -/
def State.ctlIn (s : State) (p : List Byte) : State :=
  if !s.win.inbandEn then s
  else
    let box : Option Mb := if byteAt p 0 = 0 then some .mb0 else if byteAt p 0 = 1 then some .mb1 else none
    match box with
    | none => s.unknownPkt
    | some mb => if ctlMalformed p then s.discardPartial mb else s.ctlFragment mb p

/-! ## SLEEP (R194, R203, R204) -/

/-- A SLEEP packet announces an idle; before the FE of a frame in progress it cuts that frame short (R194, R203, R204). -/
def State.sleepPacket (s : State) (i : Side) (p : List Byte) : State :=
  let s0 := s.openPending
  let early := s0.hl.frame.isSome && (s0.hl.group i).fe.isNone
  let s1 := if early then (s0.unknownPkt).inputEnd (some 4) else s0
  { s1 with hl := { s1.hl with sleepIdle := some (Word.of (le4 p 0)), sleepKeep := bit (byteAt p 4).toNat 0 } }

/-! ## Packets as they arrive (R173 to R176, R183 to R186) -/

/-- A packet's effect, by its type (R186, R194). -/
def State.packet (s : State) (i : Side) (type : Nat) (enc : Bool) (p : List Byte) : State :=
  match type with
  | 1 => s.fsIn i p
  | 2 => s.rowPacket i enc p
  | 3 => s.fePacket i p
  | 4 => s.ctlIn p
  | 5 => s.surfPacket i enc p
  | 6 => s.sleepPacket i p
  | 8 => if i = .right then s.unknownPkt else s.protIn p
  | _ => s

/-- A header whose CRC8 fails: everything up to the next SOF is discarded (R185). -/
def State.headerLost (s : State) (i : Side) : State := (s.onGroup i fun g => { g with skipToSof := true }).count 577 1

/-- What the block sets of one packet do, once their bytes are read (R183 to R186). A packet whose end has not come has no effect. -/
def State.heard (s : State) (i : Side) (a : Heard) : State :=
  match a with
  | .badHeader => s.headerLost i
  | .unknown => s.unknownPkt
  | .cut => s
  | .packet type enc p => s.packet i type enc p

/-- The sync headers of data block sets are judged set by set (R173, R182). -/
def State.judgeSets (s : State) (i : Side) (sets : List (List LinkBlock)) : State :=
  sets.foldl (fun t set => t.setErrors i (fun _ b => !blockData b) set) s

/-- A packet's block sets arrive on a side's stream, the last at instant `at_`: blocks without the data sync header are block errors, the lanes are descrambled, the header is judged, and the packet has its effect (R173 to R176, R182 to R186). A group that is not ACTIVE, or that waits for a SOF, hears nothing. A block with a wrong sync header still gives its 128 bits to the stream (DESIGN CHOICE, assumption 80). -/
def State.packetIn (s : State) (side : Side) (at_ : Nat) (sets : List (List LinkBlock)) : State :=
  let i := s.stream side
  if !s.receives i then s
  else
    let s1 := (s.elapse at_).judgeSets i sets
    if !s1.receives i then s1
    else
      let (bytes, s2) := s1.descramble i sets
      s2.heard i (hear bytes)

/-! The commands that bring a packet all do what the blocks on the lanes say; each is named after the packet it brings (assumption 86). -/

/-- HL_FS: the block sets of an FS packet (R187, R188, R244). -/
def execHlFs (side : Side) (at_ : Nat) (sets : List (List LinkBlock)) (s : State) : Out := done (s.packetIn side at_ sets)

/-- HL_ROW: the block sets of a ROW packet, the first the one that holds its header (R184, R189, R196). -/
def execHlRow (side : Side) (at_ : Nat) (first : List LinkBlock) (rest : List (List LinkBlock)) (s : State) : Out :=
  done (s.packetIn side at_ (first :: rest))

/-- HL_FE: the block sets of an FE packet (R191, R222). -/
def execHlFe (side : Side) (at_ : Nat) (sets : List (List LinkBlock)) (s : State) : Out := done (s.packetIn side at_ sets)

/-- HL_SURF: the block sets of a SURF packet (R193). -/
def execHlSurf (side : Side) (at_ : Nat) (sets : List (List LinkBlock)) (s : State) : Out := done (s.packetIn side at_ sets)

/-- HL_SLEEP: the block sets of a SLEEP packet (R194, R204). -/
def execHlSleep (side : Side) (burst : LinkBurst) (s : State) : Out := done (s.packetIn side burst.at_ burst.sets)

/-- HL_KEEP: the block sets of a KEEP packet, idle fill of any length with no meaning (R194). -/
def execHlKeep (side : Side) (burst : LinkBurst) (s : State) : Out := done (s.packetIn side burst.at_ burst.sets)

/-- CTL_PACKET: the block sets of a CTL packet (R116, R117). -/
def execCtlPacket (side : Side) (burst : LinkBurst) (s : State) : Out := done (s.packetIn side burst.at_ burst.sets)

/-- HELLO: the block sets of a PROT packet with a HELLO (R194, R215). -/
def execHello (side : Side) (burst : LinkBurst) (s : State) : Out := done (s.packetIn side burst.at_ burst.sets)

/-- FINISH: the block sets of a PROT packet with a FINISH (R194, R215). -/
def execFinish (side : Side) (burst : LinkBurst) (s : State) : Out := done (s.packetIn side burst.at_ burst.sets)

/-- PACKET_HEADER_CRC_FAIL: the block sets of a packet whose header fails its CRC8 (R185). -/
def execPacketHeaderCrcFail (incoming : Side × LinkBurst) (s : State) : Out := done (s.packetIn incoming.1 incoming.2.at_ incoming.2.sets)

/-- HL_UNKNOWN_PKT: the block sets of a packet that R186 skips. -/
def execHlUnknownPkt (incoming : Side × LinkBurst) (s : State) : Out := done (s.packetIn incoming.1 incoming.2.at_ incoming.2.sets)

end Sys2Proof.Machine
end

