-- ==== Sys2Proof/Machine/Tatting.lean ====
section
/-! DEFINITION. The Tatting net: ports, enumeration, hop delay, beacons, holdover and islanding, epochs across the net, and peer traffic (R410 to R433, R437, R438). -/

namespace Sys2Proof.Machine

/-- Division of a nonnegative number rounded to nearest. -/
def roundDiv (x : Int) (d : Nat) : Nat := ((2 * x + d) / (2 * d : Nat)).toNat

/-- Raster-reference ticks of a timestamp in 1/16 ns: 3 ticks are 40 units (R410, R420). -/
def ticksOf16 (t : Nat) : Nat := roundDiv (3 * (t : Int)) 40

/-- The DN ports, DN0 first. -/
def dnPorts : List TatPort := [.dn0, .dn1]

/-- A message queued on every DN port that is UP. -/
def State.tatDown (s : State) (kind : Nat) (payload : List Byte) : State := dnPorts.foldl (fun t p => t.tatSend p kind payload) s

/-! ## Messages received (R410 to R412) -/

/-- The message TYPEs of R412. -/
def tatTypes : List Nat := [0x10, 0x11, 0x12, 0x20, 0x21, 0x30, 0x31, 0x32, 0x33, 0x40, 0x50, 0x51]

/-- TYPE and payload of the message that a run of code groups carries; none for one that R411 discards. The running disparity before its first character may be either. -/
def tatHear (codes : List (BitVec 10)) : Option (Nat × List Byte) :=
  ((((decodeRun codes true).or (decodeRun codes false)).bind (frameBody 0)).bind messageOf).filter fun m => tatTypes.contains m.1

/-- A message arrives on a port: one with a bad CRC-16 or of unknown TYPE is discarded and counted (R411), one of TYPE `kind` has its effect. A row that names another message than the codes carry brings nothing (assumption 24). -/
def State.tatTake (s : State) (port : TatPort) (kind : Nat) (codes : List (BitVec 10)) (f : List Byte → State → Out) : Out :=
  if (s.tat.port port).st = .down then .next s
  else match tatHear codes with
    | none => .next (s.count 1286 1)
    | some (k, p) => if k = kind then f p s else .next s

/-! ## Ports (R411, R415, R416) -/

/-- A DN port that came up after enumeration is given its IDs again (R415). -/
def State.rejoin (s : State) (p : TatPort) : State :=
  let v := s.tat.port p
  if s.tat.id = 0 || v.last < v.first || s.tat.enum_.isSome then s
  else
    ({ s with tat := s.tat.setPort p { v with rejoin := true } }).tatSend p 0x20
      (toLe 2 v.first ++ toLe 2 v.last ++ [Byte.of (s.tat.depth + 1)] ++ zeros 3)

/-- TAT_PORT_UP: a port's receiver holds comma alignment (R411). TAT_UP measures its delay first; DN ports are UP at once. -/
def execTatPortUp (port : TatPort) (s : State) : Out :=
  let v := s.tat.port port
  if v.st != .down || !s.portOn port || !s.domOn dTat then .next s
  else if port = .up then done { s with tat := s.tat.setPort port { v with st := .measuring, errs := [] } }
  else done ((({ s with tat := s.tat.setPort port { v with st := .up, errs := [] } }).portEvent port 1).rejoin port)

/-- TAT_CODE_ERROR: a code or disparity error; 16 within the 1 ms that ends here take the port DOWN (R411). -/
def execTatCodeError (port : TatPort) (at_ : Nat) (s : State) : Out :=
  let v := s.tat.port port
  if v.st = .down then .next s
  else
    let s1 := (s.elapse at_).count 1285 1
    let errs := v.errs.filter (fun t => s1.now < t + ms 1) ++ [s1.now]
    let s2 : State := { s1 with tat := s1.tat.setPort port { s1.tat.port port with errs := errs } }
    if 16 ≤ errs.length then done (s2.portDown port) else done s2

/-- TAT_PORT_SILENCE: 100 µs without a valid character (R411). -/
def execTatPortSilence (port : TatPort) (s : State) : Out := done (s.portDown port)

/-- TAT_MSG_CRC_FAIL: a message with a bad CRC-16 or of unknown TYPE is discarded (R411). -/
def execTatMsgCrcFail (incoming : TatPort × List (BitVec 10)) (s : State) : Out := s.tatTake incoming.1 0 incoming.2 fun _ t => .next t

/-! ## Hop delay and rate (R416, R417) -/

/-- DELAY_REQ_TIMER: a non-root device sends DELAY_REQ, whose K27.7 leaves at `sent` (R416). -/
def execDelayReqTimer (sent : Nat) (s : State) : Out :=
  if s.isRoot || s.tat.up.st = .down then .next s
  else
    let q := (s.tat.seq + 1) % 65536
    .next (({ s with tat := { s.tat with seq := q, reqAt := some sent } }).tatSend .up 0x11 (toLe 2 q ++ zeros 14))

/-- The payload of the message that `execDelayReq` takes. -/
def runDelayReq (port : TatPort) (arrived sent : Nat) (payload : List Byte) (s : State) : Out :=
  if port = .up || payload.length ≠ 16 then .next s
  else .next (s.tatSend port 0x12 (slice payload 0 2 ++ zeros 2 ++ toLe 4 (sent - arrived) ++ zeros 8))

/-- DELAY_REQ: a parent answers with its residence time (R416). -/
def execDelayReq (port : TatPort) (arrived sent : Nat) (codes : List (BitVec 10)) (s : State) : Out :=
  s.tatTake port 0x11 codes (runDelayReq port arrived sent)

/-- A number put in its place in a rising list. -/
def insertNat (v : Nat) : List Nat → List Nat
  | [] => [v]
  | x :: xs => if v ≤ x then v :: x :: xs else x :: insertNat v xs

/-- The median of some values; of an even number, the mean of the middle two, rounded down (R416). -/
def median (l : List Nat) : Nat :=
  let o := l.foldr insertNat []
  let n := o.length
  if n % 2 = 1 then o.getD (n / 2) 0 else (o.getD (n / 2 - 1) 0 + o.getD (n / 2) 0) / 2

/-- The payload of the message that `execDelayResp` takes. -/
def runDelayResp (arrived : Nat) (payload : List Byte) (s : State) : Out :=
  match s.tat.reqAt with
  | none => .next s
  | some t1 =>
    if payload.length ≠ 16 || le2 payload 0 ≠ s.tat.seq || s.tat.up.st = .down then .next s
    else
      let d := (arrived - t1 - le4 payload 4) / 2
      let hops := (s.tat.hops ++ [d]).drop (s.tat.hops.length - 15)
      let s1 : State := { s with tat := { s.tat with reqAt := none, hops := hops, hopDelay := median hops } }
      if s.tat.up.st = .measuring && 16 ≤ hops.length then
        done (({ s1 with tat := { s1.tat with up := { s1.tat.up with st := .up } } }).portEvent .up 1)
      else done s1

/-- DELAY_RESP: one more hop delay; with 16 of them TAT_UP is UP (R416). -/
def execDelayResp (arrived : Nat) (codes : List (BitVec 10)) (s : State) : Out :=
  s.tatTake .up 0x12 codes (runDelayResp arrived)

/-- DELAY_RESP_TIMEOUT: the exchange is skipped (R416). -/
def execDelayRespTimeout (s : State) : Out := .next { s with tat := { s.tat with reqAt := none } }

/-- The ratio ρ of this device's clock to root time, as a fraction: 1 until eight beacons have given a ratio (R417). -/
def Tatting.rho (t : Tatting) : Nat × Nat :=
  if t.rhos.length < 8 then (1, 1)
  else
    let (n, d) := t.rhos.foldl (fun (a : Nat × Nat) r => (a.1 * (16 * r.2) + r.1 * a.2, a.2 * (16 * r.2))) (0, 1)
    (n, 8 * d)

/-! ## Enumeration (R414, R415) -/

/-- A step of enumeration's end: the root takes the totals and completes its job, any other device answers its parent (R414). -/
def State.enumEnd (s : State) (r : EnumRun) : State :=
  let s1 : State := { s with tat := { s.tat with enum_ := none } }
  if s.isRoot then
    ({ s1 with tat := { s1.tat with netSize := r.next - 1, netDepth := r.dmax } }).endJob 0x00C0 (if r.err = 0 then stOk else stOutOfRange)
  else s1.tatSend .up 0x21 (toLe 2 r.next ++ [Byte.of r.dmax, Byte.of r.err] ++ zeros 4)

/-- ENUM on the next DN port that is UP, or the end (R414). -/
def State.enumPorts (s : State) (r : EnumRun) : List TatPort → State
  | [] => s.enumEnd r
  | p :: ps =>
    if (s.tat.port p).st = .up then
      ({ s with tat := { s.tat with enum_ := some { r with port := p } } }).tatSend p 0x20
        (toLe 2 r.next ++ toLe 2 r.limit ++ [Byte.of (r.depth + 1)] ++ zeros 3)
    else s.enumPorts r ps

/-- on enum(next, limit, depth) of R414. A new enumeration ends TOPOLOGY_CHANGED (R415). -/
def State.enumStart (s : State) (next limit depth : Nat) : State :=
  let clear (v : TatPortState) : TatPortState := { v with topology := false, rejoin := false }
  let t := { s.tat with topoChanged := false, dn0 := clear s.tat.dn0, dn1 := clear s.tat.dn1, enum_ := none }
  if 16 < depth || limit < next then
    ({ s with tat := { t with id := 0 } }).tatSend .up 0x21 (toLe 2 next ++ [Byte.of (depth - 1), 1] ++ zeros 4)
  else
    let r : EnumRun := { next := next + 1, limit := limit, depth := depth, dmax := depth, err := 0, port := .dn0 }
    ({ s with tat := { t with id := next, depth := depth } }).enumPorts r dnPorts

/-- What is left of enumeration after a port. -/
def portsAfter : TatPort → List TatPort
  | .dn0 => [.dn1]
  | _ => []

/-- Whether an epoch is staged or armed here (R414). -/
def State.epochOpen (s : State) : Bool := s.tat.staged.any fun e => e.st == .staging || e.st == .staged || e.st == .armed

/-- TAT_ENUMERATE's checks (R135, R414). -/
def runTatEnumerate (_ : List Byte) (s : State) : Reply :=
  if !s.isRoot then .refuse stDenied s
  else if s.epochOpen then .refuse stBusy s
  else .accept [] s fun t => t.enumStart 1 16383 0

/-- TAT_ENUMERATE (R414). -/
def execTatEnumerate (mb : Mb) (s : State) : Out := s.serve mb (.bare 0x00C0) fun p t => t.needing dTat (runTatEnumerate p t)

/-- The payload of the message that `execEnumerate` takes. -/
def runEnumerate (port : TatPort) (payload : List Byte) (s : State) : Out :=
  if port != .up || payload.length != 8 || s.isRoot then .next s
  else done (s.enumStart (le2 payload 0) (le2 payload 2) (byteAt payload 4).toNat)

/-- ENUM from the parent (R414). -/
def execEnumerate (port : TatPort) (codes : List (BitVec 10)) (s : State) : Out :=
  s.tatTake port 0x20 codes (runEnumerate port)

/-- A tile that took the place of another did not take its IDs: EV_TAT_TOPOLOGY, and TOPOLOGY_CHANGED from now on (R415). -/
def State.topologyChanged (s : State) (p : TatPort) : State :=
  let v := s.tat.port p
  (({ s with tat := { s.tat.setPort p { v with rejoin := false } with topoChanged := true } }).event 0x5004 .warning true (portBit p)
    (v.first % 2 ^ 14)).countsChanged

/-- The payload of the message that `execEnumDone` takes. -/
def runEnumDone (port : TatPort) (payload : List Byte) (s : State) : Out :=
  if port = .up || payload.length ≠ 8 then .next s
  else
    let n := le2 payload 0
    let d := (byteAt payload 2).toNat
    let e := (byteAt payload 3).toNat
    let v := s.tat.port port
    match s.tat.enum_ with
    | some r =>
      if r.port != port then .next s
      else
        let s1 : State := { s with tat := s.tat.setPort port { v with first := r.next, last := n - 1 } }
        done (s1.enumPorts { r with next := n, dmax := max r.dmax d, err := r.err ||| e } (portsAfter port))
    | none =>
      if !v.rejoin then .next s
      else if n ≠ v.last + 1 || e ≠ 0 then done (s.topologyChanged port)
      else .next { s with tat := s.tat.setPort port { v with rejoin := false } }

/-- ENUM_DONE: a child's range is recorded and enumeration goes on, or a rejoined child's IDs are judged (R414, R415). -/
def execEnumDone (port : TatPort) (codes : List (BitVec 10)) (s : State) : Out :=
  s.tatTake port 0x21 codes (runEnumDone port)

/-- ENUM_TIMEOUT: TAT.ENUM_TIMEOUT without ENUM_DONE (R414). -/
def execEnumTimeout (port : TatPort) (s : State) : Out :=
  let v := s.tat.port port
  match s.tat.enum_ with
  | some r => if r.port != port then .next s else done (s.enumPorts { r with err := r.err ||| 2 } (portsAfter port))
  | none => .next { s with tat := s.tat.setPort port { v with rejoin := false } }

/-! ## Beacons sent (R418, R419, R432) -/

/-- A BEACON payload (R418). -/
def beaconBytes (frame : Nat) (offset : Int) (periodNs rowTime depth flags armedE applyF appliedE nextPeriod nextRow : Nat) : List Byte :=
  toLe 4 frame ++ toLe 4 (unsigned 32 offset) ++ toLe 4 periodNs ++ toLe 2 rowTime ++ [Byte.of depth, Byte.of flags] ++ toLe 4 armedE ++
    toLe 4 applyF ++ toLe 4 appliedE ++ toLe 4 nextPeriod ++ toLe 2 nextRow ++ zeros 14

/-- PERIOD in ns of a period in ticks (R419). -/
def nsOfTicks (p : Nat) : Nat := (5 * p + 3) / 6

/-- The root's beacon for its next frame, with the arming in force (R419, R427). -/
def State.rootBeacon (s : State) : State :=
  let n := s.ras.frame + 1
  let start := s.ras.start + s.tat.period
  let armed := s.tat.armE != 0
  let plain := (nsOfTicks (s.basePeriod .lattice), s.param 0x2804)
  let next := s.tat.armTiming.getD plain
  let (p, row) := if armed && s.tat.armF = n.toNat then next else plain
  let b : BeaconTiming := { frame := n, t16 := 0, start := start, periodNs := p, period := s.tat.period, rowTime := row, flags := b2n armed,
                            armedE := s.tat.armE, applyF := s.tat.armF, appliedE := s.appliedE, hoopOnly := false }
  let bytes := beaconBytes n.toNat (16000 * s.param 0x5005 : Nat) p row 0 (b2n armed) (if armed then s.tat.armE else 0)
    (if armed then s.tat.armF else 0) s.appliedE (if armed then next.1 else 0) (if armed then next.2 else 0)
  ({ s with tat := { s.tat with last := some b } }).tatDown 0x10 bytes

/-- An islanded device's beacon from its own generator (R432). -/
def State.islandBeacon (s : State) : State :=
  s.tatDown 0x10 (beaconBytes (s.ras.frame + 1).toNat (16000 * s.param 0x5005 : Nat) (nsOfTicks s.tat.period) s.ras.rowTime s.tat.depth 4
    0 0 s.appliedE 0 0)

/-- BEACON_SEND: TAT.BEACON_LEAD before the next frame start, the root in LATTICE, or an islanded device, sends its beacon on every DN port that is UP (R413, R419, R432). -/
def execBeaconSend (s : State) : Out :=
  if !s.ras.running then .next s
  else if s.isRoot then (if s.ras.active = .lattice then .next s.rootBeacon else .next s)
  else if s.tat.lock = .islanded then .next s.islandBeacon
  else .next s

/-! ## Beacons received (R420 to R422) -/

/-- Whether a beacon's or an arming's timing fits this device's panel (R422). -/
def State.timingFits (s : State) (periodNs rowTime : Nat) : Bool :=
  let h := s.param 0x2801
  let v := s.param 0x2802
  decide (1080 ≤ rowTime) && decide ((v + s.param 0x2803) * rowTime * 10 ≤ 12 * periodNs) && decide (h * v * 100 ≤ 405 * periodNs) &&
  decide (s.param 0x4804 * periodNs ≤ 1000000000000) && decide (1000000000000 ≤ s.param 0x4805 * periodNs)

/-- The held epoch applies now where no raster runs, which also retires surfaces at once, or in a blank that already stands before frame `n` (R364, R428, R429). -/
def State.epochNow (s : State) (n : BitVec 32) : State :=
  if !s.framesRun then (s.epochBlank n).raiseRetired else if s.ras.inBlank then s.epochBlank n else s

/-- A staged record's state changed. -/
def State.onStaged (s : State) (f : Epoch → Epoch) : State := { s with tat := { s.tat with staged := s.tat.staged.map f } }

/-- An arming heard in a beacon for frame `n` (R422, R428, R429). -/
def State.hearArming (s : State) (n : BitVec 32) (e f : Nat) (fits : Bool) : State :=
  let fresh := s.tat.armE != e
  let s1 : State := { s with tat := { s.tat with armE := e, armF := f, armUnfit := !fits } }
  let s2 := if !fits && (fresh || !s.tat.armUnfit) then s1.epochEvent 4 e else s1
  let s3 := s2.onStaged fun x => if x.e == e && x.st == EpochState.staged then { x with st := .armed, f := f } else x
  let have_ := (s3.epochRec e).any Epoch.held
  let ahead := (BitVec.ofNat 32 f - n).toNat
  if have_ then (if ahead = 0 then s3.epochNow n else s3)
  else if ahead = 0 then s3.skewOn e
  else if ahead < 2 ^ 31 then s3.askSet e
  else s3

/-- A beacon without ARMED: no arming stands (R430). -/
def State.hearNoArming (s : State) : State :=
  if s.tat.armE = 0 then s
  else ({ s with tat := { s.tat with armE := 0, armF := 0, armUnfit := false } }).onStaged fun x => if x.st == EpochState.armed then { x with st := .staged } else x

/-- APPLIED_E of a beacon: a device that has not applied it catches up (R429). -/
def State.hearApplied (s : State) (n : BitVec 32) (a : Nat) : State :=
  let failed := (s.epochRec a).any fun x => x.st == .failed
  if a ≤ s.appliedE || failed then s else (s.skewOn a).epochNow n

/-- What a beacon says of epochs; nothing is taken from one with HOLDOVER or ISLAND (R428, R429, R432). -/
def State.hearEpochs (s : State) (b : BeaconTiming) (p : List Byte) : State :=
  if 2 ≤ b.flags % 8 then s
  else
    let s1 := if bit b.flags 0 then s.hearArming b.frame b.armedE b.applyF (s.timingFits (le4 p 28) (le2 p 32)) else s.hearNoArming
    s1.hearApplied b.frame b.appliedE

/-- The frame that follows a timing when no beacon announces it (R432). -/
def State.predict (s : State) (b : BeaconTiming) : BeaconTiming :=
  let (n, d) := s.tat.rho
  let t := if b.periodNs = 0 then b.t16 + 40 * b.period / 3 else b.t16 + roundDiv (16 * b.periodNs * n : Nat) d
  { b with frame := b.frame + 1, t16 := t, start := if b.periodNs = 0 then b.start + b.period else ticksOf16 t, flags := 2, armedE := 0, applyF := 0, hoopOnly := false }

/-- Whether the raster takes, or would take, its frame starts from the net now. -/
def State.onNet (s : State) : Bool := s.ras.running && (s.tethered || s.ras.active == .lattice)

/-- The device islands at the next frame start, with its last timing (R422, R432). -/
def State.islandNext (s : State) (cause : Nat) (b : BeaconTiming) : State :=
  { s with tat := { s.tat with islandCause := cause, next := some b }, ras := { s.ras with heldChange := some .island } }

/-- An accepted beacon times the next frame: lock, rejoin, or islanding when its timing does not fit (R420, R422, R432, R433). -/
def State.beaconTimes (s : State) (b : BeaconTiming) (prev : Option BeaconTiming) (fits : Bool) : State :=
  let t := s.tat
  if !fits then
    if t.lock = .islanded then { s with tat := { t with goodRun := 0 } }
    else match prev with
      | some q => if s.onNet then s.islandNext 2 (s.predict q) else { s with tat := { t with lock := .none, next := none } }
      | none => { s with tat := { t with lock := .none, next := none } }
  else if t.lock = .islanded then
    let run := if 2 ≤ b.flags % 8 then 0 else if prev.any fun q => q.frame + 1 = b.frame then t.goodRun + 1 else 1
    let back := decide (s.param 0x5003 ≤ run) && s.timMode == .lattice
    { s with tat := { t with next := some b, goodRun := run }, ras := { s.ras with heldChange := if back then some .beaconBack else s.ras.heldChange } }
  else
    let calm := if s.ras.heldChange = some .island then none else s.ras.heldChange
    let first := s.ras.running && s.timMode == .lattice && s.ras.active == .fixed && s.thm.t4 == .none
    { s with tat := { t with lock := .locked, next := some b }, ras := { s.ras with heldChange := if first then some .beaconBack else calm } }

/-- A beacon goes on to the DN ports as it came, but for DEPTH and OFFSET (R421). -/
def State.forwardBeacon (s : State) (p : List Byte) (arrived sent0 sent1 : Nat) : State :=
  let (n, d) := s.tat.rho
  let off (sent : Nat) : Int :=
    let x := ((s.tat.hopDelay + sent - arrived : Nat) : Int)
    signed 32 (le4 p 4) - (2 * (x * d) + n) / (2 * n : Nat)
  let bytes (sent : Nat) : List Byte := slice p 0 4 ++ toLe 4 (unsigned 32 (off sent)) ++ slice p 8 6 ++ [Byte.of s.tat.depth] ++ slice p 15 33
  (s.tatSend .dn0 0x10 (bytes sent0)).tatSend .dn1 0x10 (bytes sent1)

/-- The timing a beacon gives this device, and whether it comes at least 20 µs ahead (R417, R420). -/
def State.beaconTiming (s : State) (arrived : Nat) (p : List Byte) : BeaconTiming × Bool :=
  let (n, d) := s.tat.rho
  let lead : Int := s.tat.hopDelay * d + signed 32 (le4 p 4) * n
  let t : Int := arrived * d + lead
  let per := le4 p 8
  ({ frame := BitVec.ofNat 32 (le4 p 0), t16 := roundDiv t d, start := roundDiv (3 * t) (40 * d), periodNs := per,
     period := roundDiv (12 * per * n : Nat) (10 * d), rowTime := le2 p 12, flags := (byteAt p 15).toNat, armedE := le4 p 16,
     applyF := le4 p 20, appliedE := le4 p 24, hoopOnly := false }, decide ((320000 * d : Nat) ≤ lead))

/-- A beacon is accepted (R417, R420 to R422, R428, R429, R432, R433). A pair's follower takes only epochs from it (R434, R435). A timing that does not fit is not kept, so that nothing is predicted from it (R3, R422). -/
def State.beaconAccept (s : State) (b : BeaconTiming) (p : List Byte) (arrived sent0 sent1 : Nat) : State :=
  let prev := s.tat.last
  let ratio := prev.bind fun q => if q.frame + 1 = b.frame && q.periodNs ≠ 0 then some (b.t16 - q.t16, q.periodNs) else none
  let rhos := ratio.elim s.tat.rhos fun r => (s.tat.rhos ++ [r]).drop (s.tat.rhos.length - 7)
  let fits := s.timingFits b.periodNs b.rowTime && !(s.tat.armUnfit && b.frame.toNat == s.tat.armF)
  let s1 := s.count 1280 1
  let s2 : State := { s1 with tat := { s1.tat with depth := (byteAt p 14).toNat + 1, missed := 0, last := if fits then some b else prev, rhos := rhos } }
  let s3 := s2.forwardBeacon p arrived sent0 sent1
  let s4 := if s.isFollower then s3 else s3.beaconTimes b prev fits
  s4.hearEpochs b p

/-- The payload of the message that `execBeacon` takes. -/
def runBeacon (port : TatPort) (arrived sent0 sent1 : Nat) (payload : List Byte) (s : State) : Out :=
  if (s.tat.port port).st = .down then .next s
  else if port ≠ .up then done (s.portEvent port 3)
  else if payload.length ≠ 48 || s.tat.up.st ≠ .up || 15 < (byteAt payload 14).toNat then .next s
  else
    let (b, inTime) := s.beaconTiming arrived payload
    if !inTime then done (s.count 1282 1) else done (s.beaconAccept b payload arrived sent0 sent1)

/-- BEACON: a beacon arrives; on TAT_UP it is accepted or not (R413, R420). -/
def execBeacon (port : TatPort) (arrived sent0 sent1 : Nat) (codes : List (BitVec 10)) (s : State) : Out :=
  s.tatTake port 0x10 codes (runBeacon port arrived sent0 sent1)

/-- The HOLDOVER beacon of a device that goes on by itself (R432). The send instant is taken as now. -/
def State.holdoverBeacon (s : State) (b : BeaconTiming) : State :=
  s.tatDown 0x10 (beaconBytes b.frame.toNat (((b.start : Int) - s.now) * 40 / 3) b.periodNs b.rowTime s.tat.depth 2 0 0 s.appliedE 0 0)

/-- What a missing beacon's frame is counted on from: the last beacon, or for a pair's follower the frame being displayed (R432, R435). -/
def State.netBase (s : State) : Option BeaconTiming :=
  if !s.isFollower then s.tat.last
  else if s.ras.running && s.tat.period != 0 then
    some { frame := s.ras.frame, t16 := 40 * s.ras.start / 3, start := s.ras.start, periodNs := 0, period := s.tat.period, rowTime := s.ras.rowTime,
           flags := 2, armedE := 0, applyF := 0, appliedE := 0, hoopOnly := false }
  else none

/-- BEACON_MISSING: no beacon was accepted for the expected frame, which starts in holdover; after TAT.HOLDOVER of them the device islands (R432, R435), and at the apply frame of an arming whose timing does not fit (R422). While islanded it breaks the run of R433. -/
def execBeaconMissing (s : State) : Out :=
  match s.netBase with
  | none => .next s
  | some q =>
    if s.isRoot || (s.onNet && s.tat.lock ≠ .islanded && s.tat.next.isSome) then .next s
    else if s.tat.lock = .islanded then .next { s.count 1281 1 with tat := { (s.count 1281 1).tat with goodRun := 0 } }
    else
      let b := s.predict q
      let missed := sat 255 (s.tat.missed + 1)
      let out := decide (s.param 0x5002 ≤ missed)
      let s1 : State := { s.count 1281 1 with tat := { (s.count 1281 1).tat with missed := missed, lock := .holdover, last := if s.isFollower then s.tat.last else some b } }
      let s2 := s1.holdoverBeacon b
      if !s.onNet then
        .next (if out then { s2 with tat := { s2.tat with lock := .none, last := none, next := none } } else s2)
      else if s.tat.armUnfit && b.frame.toNat = s.tat.armF then done (s2.islandNext 2 b)
      else if out then done (s2.islandNext (if s.isFollower then 3 else 1) b)
      else done { s2 with tat := { s2.tat with next := some b } }

/-! ## Epoch sets over the net (R425 to R430) -/

/-- An epoch set as STAGE messages of at most 248 bytes on one port (R425). -/
def State.sendSet (s : State) (p : TatPort) (e : Nat) (bytes : List Byte) : State :=
  let n := (bytes.length + 247) / 248
  (List.range n).foldl (fun t i =>
    t.tatSend p 0x30 (toLe 4 e ++ toLe 2 (248 * i) ++ [Byte.of (b2n (i + 1 == n)), 0] ++ slice bytes (248 * i) (min 248 (bytes.length - 248 * i)))) s

/-- Whether an E is not above every epoch staged or applied here (R425). A set that is still coming or failed its check is not staged. -/
def State.epochOld (s : State) (e : Nat) : Bool :=
  decide (e ≤ s.appliedE) || s.tat.staged.any fun x => decide (e < x.e) || (e == x.e && x.st != .staging && x.st != .failed)

/-- The set has come whole: it is checked, and at the root it goes down the tree (R425, R429). -/
def State.stageDone (s : State) (here : Bool) : State :=
  match s.tat.staged with
  | none => s
  | some ep =>
    let ok := s.epochOk ep.bytes
    let s1 := (s.onStaged fun x => { x with st := if ok then .staged else .failed }).epochEvent (if ok then 1 else 5) ep.e
    if here then (dnPorts.foldl (fun t p => t.sendSet p ep.e ep.bytes) s1).stageEnd false |>.skewWatch
    else
      let s2 := (s1.endJob 0x00C1 (if ok then stOk else stMismatch)).countsChanged
      if ok && s2.tat.wantE == ep.e && !s2.framesRun then (s2.epochBlank (s2.ras.frame + 1)).raiseRetired else s2

/-- TAT_STAGE's layout: E, FRAG and data (R135). -/
def cmdTatStage : Cmd := { code := 0x00C1, lenOk := fun p => fragLen p.length 4, zeroOk := fun p => fragZero p 4 }

/-- TAT_STAGE: one fragment of an epoch set (R425). On MB3 every device takes it, and a set that was asked for by SET_REQ may be older than the one staged (R429). -/
def runTatStage (mb : Mb) (p : List Byte) (s : State) : Reply :=
  let e := le4 p 0
  let f := fragAt p 4
  let asked := mb == .mb3 && e == s.tat.reqE && decide (s.appliedE < e) && !((s.epochRec e).any Epoch.held)
  let armed := s.tat.staged.any fun x => x.st == .armed
  if mb ≠ .mb3 && !s.isRoot then .refuse stDenied s
  else if s.epochOld e && !asked then .refuse stOutOfRange s
  else if armed && !asked then .refuse stBusy s
  else
    let cur := s.tat.staged.bind fun x => if x.e = e && x.st = .staging && !f.first then some x else none
    let fits := match cur with
      | some x => f.offset = x.nextOff
      | none => f.first && f.offset = 0
    let bytes := (cur.elim [] (·.bytes)) ++ f.data
    if !fits || 16384 < bytes.length then
      .reply stOutOfRange [] (if cur.isSome then { s with tat := { s.tat with staged := none } } else s)
    else
      let ep : Epoch := { e := e, bytes := bytes, nextOff := bytes.length, st := .staging, f := 0 }
      let s1 : State := { s with tat := { s.tat with staged := some ep } }
      if f.last then .accept [] s1 fun t => t.stageDone (mb != .mb3) else .reply stOk [] s1

/-- TAT_STAGE (R425). -/
def execTatStage (mb : Mb) (s : State) : Out := s.serve mb cmdTatStage fun p t => t.needing dTat (runTatStage mb p t)

/-- The NEXT timing of an arming: the set's own values of TIM.FIXED_RATE and TIM.ROW_TIME where it has them (R424, R427). -/
def State.nextTiming (s : State) (bytes : List Byte) : Nat × Nat :=
  let vs := epochEntries s.tat.id bytes
  let rate := (aget? vs 0x2808).elim (s.param 0x2808) (·.toNat)
  let lo := (aget? vs 0x2805).elim (s.param 0x2805) (·.toNat)
  let hi := (aget? vs 0x2806).elim (s.param 0x2806) (·.toNat)
  (nsOfTicks (period (max lo (min hi rate))), (aget? vs 0x2804).elim (s.param 0x2804) (·.toNat))

/-- TAT_ARM's checks and effect (R427). -/
def runTatArm (p : List Byte) (s : State) : Reply :=
  let e := le4 p 0
  let earliest := (s.ras.frame + BitVec.ofNat 32 (2 * s.tat.netDepth + s.param 0x5004)).toNat
  let f := if le4 p 4 = 0 then earliest else le4 p 4
  match s.tat.staged with
  | some ep =>
    if !s.isRoot then .refuse stDenied s
    else if ep.st = .armed then .refuse stBusy s
    else if ep.e ≠ e || ep.st ≠ .staged then .refuse stNotStaged s
    else if 2 ^ 31 ≤ (BitVec.ofNat 32 f - BitVec.ofNat 32 earliest).toNat then .refuse stOutOfRange s
    else
      let t := { s.tat with staged := some { ep with st := .armed, f := f }, armE := e, armF := f, armTiming := some (s.nextTiming ep.bytes) }
      .reply stOk (toLe 4 f) { s with tat := t }
  | none => .refuse (if s.isRoot then stNotStaged else stDenied) s

/-- TAT_ARM (R427). -/
def execTatArm (mb : Mb) (s : State) : Out := s.serve mb (.fixed 0x00C2 8 fun _ => true) fun p t => t.needing dTat (runTatArm p t)

/-- A staged or armed epoch is discarded (R430). -/
def State.epochDrop (s : State) (e : Nat) : State :=
  if s.tat.staged.any fun x => x.e == e && x.st != .aborted then
    let s1 := s.onStaged fun x => { x with st := .aborted, bytes := [] }
    let t := s1.tat
    (({ s1 with tat := { t with armE := if t.armE = e then 0 else t.armE, armF := if t.armE = e then 0 else t.armF,
                                armTiming := if t.armE = e then none else t.armTiming } }).epochEvent 6 e).countsChanged
  else s

/-- TAT_ABORT's checks and effect (R430). -/
def runTatAbort (p : List Byte) (s : State) : Reply :=
  let e := le4 p 0
  if !s.isRoot then .refuse stDenied s
  else match s.epochRec e with
    | none => .refuse stNotStaged s
    | some x =>
      let sent := x.st == .armed && s.tat.last.any fun b => decide ((b.frame - BitVec.ofNat 32 x.f).toNat < 2 ^ 31)
      if x.st = .applied || sent then .refuse stDenied s
      else if x.st = .aborted then .refuse stNotStaged s
      else .reply stOk [] ((s.epochDrop e).tatDown 0x33 (toLe 4 e ++ zeros 4))

/-- TAT_ABORT (R430). -/
def execTatAbort (mb : Mb) (s : State) : Out := s.serve mb (.fixed 0x00C3 4 fun _ => true) fun p t => t.needing dTat (runTatAbort p t)

/-- TAT_STATUS: the counts, with SKEW while any device is skewed (R426). -/
def runTatStatus (p : List Byte) (s : State) : Reply :=
  let e := le4 p 0
  let known := (s.epochRec e).isSome || (e == s.tat.wantE && e != 0)
  if !known then .refuse stNotStaged s
  else .reply (if 0 < (s.counts e).skewed then stSkew else stOk) (s.countBytes e) s

/-- TAT_STATUS (R426). -/
def execTatStatus (mb : Mb) (s : State) : Out := s.serve mb (.fixed 0x00C4 4 fun _ => true) runTatStatus

/-- The payload of the message that `execStageFragment` takes. -/
def runStageFragment (port : TatPort) (payload : List Byte) (s : State) : Out :=
  if port != .up || payload.length < 8 || 256 < payload.length || s.isRoot then .next s
  else
    let off := le2 payload 4
    let body := slice payload 0 4 ++ toLe 2 (2 * b2n (bit (byteAt payload 6).toNat 0) + b2n (off == 0)) ++ zeros 2 ++ toLe 4 off ++ payload.drop 8
    let req : PeerReq := { src := s.tat.id, body := toLe 2 0x00C1 ++ toLe 2 body.length ++ zeros 4 ++ body, complete := true, here := true }
    let s1 := s.tatDown 0x30 payload
    done ({ s1 with box := { s1.box with peers := s1.box.peers ++ [req] } }).loadPeer

/-- STAGE from the parent: the fragment goes on down the tree and to this device's own MB3 as TAT_STAGE (R425). -/
def execStageFragment (port : TatPort) (codes : List (BitVec 10)) (s : State) : Out :=
  s.tatTake port 0x30 codes (runStageFragment port)

/-- The payload of the message that `execCountUp` takes. -/
def runCountUp (port : TatPort) (payload : List Byte) (s : State) : Out :=
  if port = .up || payload.length ≠ 28 then .next s
  else
    let v := s.tat.port port
    let l := [le4 payload 0, le2 payload 12, le2 payload 14, le2 payload 16, le2 payload 18, le2 payload 20, le2 payload 22, le2 payload 24]
    let v1 := { v with counts := l, topology := bit (byteAt payload 5).toNat 0 }
    if v1 = v then .next s else done ({ s with tat := s.tat.setPort port v1 }).countsChanged

/-- COUNT_UP from a child: the last counts of its subtree (R426). -/
def execCountUp (port : TatPort) (codes : List (BitVec 10)) (s : State) : Out :=
  s.tatTake port 0x31 codes (runCountUp port)

/-- TAT_STAGE_TIMEOUT: the root completes TAT_STAGE with what it knows (R425). -/
def execTatStageTimeout (s : State) : Out := if s.isRoot then done (s.stageEnd true) else .next s

/-- The payload of the message that `execSetReq` takes. -/
def runSetReq (port : TatPort) (payload : List Byte) (s : State) : Out :=
  if port = .up || payload.length ≠ 8 then .next s
  else
    let e := le4 payload 0
    match s.epochRec e with
    | some x => if x.held then done (s.sendSet port e x.bytes) else done (s.askSet e)
    | none => if s.isRoot then .next s else done (s.askSet e)

/-- SET_REQ from a child: its set, or the request goes on to the parent (R429). -/
def execSetReq (port : TatPort) (codes : List (BitVec 10)) (s : State) : Out :=
  s.tatTake port 0x32 codes (runSetReq port)

/-- The payload of the message that `execAbortEpoch` takes. -/
def runAbortEpoch (port : TatPort) (payload : List Byte) (s : State) : Out :=
  if port != .up || payload.length != 8 || s.isRoot then .next s
  else done ((s.tatDown 0x33 payload).epochDrop (le4 payload 0))

/-- ABORT from the parent: the epoch is discarded here and below (R430). -/
def execAbortEpoch (port : TatPort) (codes : List (BitVec 10)) (s : State) : Out :=
  s.tatTake port 0x33 codes (runAbortEpoch port)

/-! ## Peer traffic (R437) -/

/-- A PEER fragment for this device joins its sender's request; LAST completes it for MB3. -/
def State.peerGather (s : State) (p : List Byte) : State :=
  let src := le2 p 2
  let frag := (byteAt p 4).toNat
  let off := le2 p 6
  let data := p.drop 8
  let mine (r : PeerReq) : Bool := r.src == src && !r.complete && !r.here
  let open_ := s.box.peers.find? mine
  let rest := s.box.peers.filter fun r => !mine r
  let last := bit frag 1
  let next : Option PeerReq :=
    if bit frag 0 then (if off = 0 then some { src := src, body := data, complete := last, here := false } else none)
    else open_.bind fun r => if r.body.length = off then some { r with body := r.body ++ data, complete := last } else none
  ({ s with box := { s.box with peers := rest ++ next.toList } }).loadPeer

/-- The payload of the message that `execPeer` takes. -/
def runPeer (port : TatPort) (payload : List Byte) (s : State) : Out :=
  if (s.tat.port port).st = .down || payload.length < 8 || 256 < payload.length then .next s
  else
    let dest := le2 payload 0
    let s1 := s.count 1290 1
    if dest = s.tat.id && dest ≠ 0 then done (s1.peerGather payload)
    else match s1.peerRoute dest with
      | some p => done (s1.tatSend p 0x40 payload)
      | none => done s1.peerRefuse

/-- PEER: routed to MB3, a DN port or TAT_UP (R437). -/
def execPeer (port : TatPort) (codes : List (BitVec 10)) (s : State) : Out :=
  s.tatTake port 0x40 codes (runPeer port)

end Sys2Proof.Machine
end

