-- ==== Sys2Proof/Machine/Pair.lean ====
section
/-! DEFINITION. Paired panels: the follower's frame starts and the events both devices act on (R267, R434 to R436). -/

namespace Sys2Proof.Machine

/-- Whether the pair link carries messages to this device. -/
def State.pairOpen (s : State) (p : TatPort) : Bool := s.param 0x2807 == 1 && p == s.pairPort && (s.tat.port p).st == .up

/-- The follower hears its master: the lock returns, and an islanded follower rejoins (R432, R435). -/
def State.pairHeard (s : State) : State :=
  let s1 := if s.tat.lock = .islanded then s.event 0x5001 .info true 3 (4 * 2 ^ 24 + 1) else s
  { s1 with tat := { s1.tat with lock := .follower, missed := 0 },
            ras := { s1.ras with heldChange := if s1.ras.heldChange = some .island then none else s1.ras.heldChange } }

/-- A frame start the master gave, in 1/16 ns as a fraction, is placed on the CK_PIPE grid; TIM.PAIR_SKEW takes the difference in ps (R267, R423, R435). `hoopOnly`: the master's frame is one of FIXED, HOLD or a transition's hold, which the follower shows from its hoop too. -/
def State.pairStart (s : State) (frame : BitVec 32) (t : Int) (d extra rowTime : Nat) (hoopOnly : Bool) : State :=
  let start := roundDiv (3 * t) (40 * d) + extra
  let exact : Int := (125 * t) / (2 * d : Nat) + (2500 * extra / 3 : Nat)
  let per := if frame = s.ras.frame + 1 && s.ras.start < start then start - s.ras.start else s.tat.period
  let b : BeaconTiming := { frame := frame, t16 := roundDiv t d, start := start, periodNs := 0, period := per, rowTime := rowTime, flags := 2,
                            armedE := 0, applyF := 0, appliedE := 0, hoopOnly := hoopOnly }
  { s with tat := { s.tat with next := some b },
           ras := { s.ras with pairSkew := clampInt (-4000) 4000 ((2500 * start / 3 : Nat) - exact) } }

/-- The follower's TIM.ACTIVE_MODE is its master's; the manual gives its EV_TIM_MODE no cause (R267, R435; assumption 3). -/
def State.pairMode (s : State) (m : Nat) : State :=
  match modeOf? m with
  | none => s
  | some m =>
    if s.ras.active = m then s
    else
      let (v, s1) := s.takeFree
      s1.setActive m (v.toNat % 65536)

/-- The follower's CK_PIPE runs divided with its master's: a row time of twice its own says so (R435, R531, R532). -/
def State.pairScale (s : State) (mode rowTime : Nat) : State :=
  let own := s.tat.last.elim (s.param 0x2804) (·.rowTime)
  let half := mode != 2 && (rowTime == 2 * s.param 0x2804 || rowTime == 2 * own)
  { s with thm := { s.thm with t4 := if half then .inForce else .none } }

/-- The payload of the message that `execPairFrame` takes. -/
def runPairFrame (arrived : Nat) (payload : List Byte) (s : State) : Out :=
  if !s.isFollower || !s.pairOpen .up || payload.length ≠ 16 then .next s
  else
    let frame := BitVec.ofNat 32 (le4 payload 0)
    let row := le2 payload 8
    let mode := (byteAt payload 10).toNat
    let flags := (byteAt payload 11).toNat
    let phase := byteAt payload 12
    let hoop := bit flags 0
    let s1 := ((s.pairHeard).pairMode mode).pairScale mode row
    let s2 : State := if bit flags 2 then { s1 with tat := { s1.tat with pairTrans := some frame } } else s1
    if frame = s2.ras.frame then
      let q := if s2.pipe.suspended || s2.param 0x3C02 = 0 then s2.pipe.phaseUsed else phase
      let s3 : State := { s2 with pipe := { s2.pipe with phase := phase, phaseUsed := q } }
      done (s3.count 649 (b2n (s2.ras.running && hoop == (s2.ras.kind == .live))))
    else
      let (n, d) := s2.tat.rho
      let t : Int := (arrived + s2.tat.hopDelay) * d + signed 32 (le4 payload 4) * n
      let s3 : State := { s2 with tat := { s2.tat with pairHoop := some hoop }, pipe := { s2.pipe with phase := phase - 1 } }
      done (s3.pairStart frame t d 0 row (bit flags 2 || mode == 1 || mode == 3))

/-- PAIR_FRAME: the follower takes a frame start, or the facts of a live frame already started, from its master (R435). -/
def execPairFrame (arrived : Nat) (codes : List (BitVec 10)) (s : State) : Out :=
  s.tatTake .up 0x50 codes (runPairFrame arrived)

/-- PAIR_STROBE: K28.0 gives the follower the start of its master's live frame (R435). -/
def execPairStrobe (arrived : Nat) (s : State) : Out :=
  if !s.isFollower || !s.pairOpen .up then .next s
  else
    let s1 := s.pairHeard
    let s2 : State := { s1 with tat := { s1.tat with pairHoop := some false } }
    done (s2.pairStart (s2.ras.frame + 1) ((arrived : Int) - s2.tat.hopDelay) 1 s2.slotDelay s2.ras.rowTime false)

/-- The rows of the frame being scanned are the hoop's from a row on (R436). -/
def State.repeatRows (s : State) (row : Nat) : State :=
  if s.ras.kind = .live then
    ({ s with ras := { s.ras with repeatFrom := some (s.ras.repeatFrom.elim row (min row)) } }).onHoop s.ras.scan1 fun h => { h with scanning := true }
  else s

/-- What the other device of the pair reports about the frame being scanned (R436). -/
def State.pairActs (s : State) (kind row : Nat) : State :=
  let r := s.ras
  match kind with
  | 1 =>
    if s.isFollower && r.kind == .hoop then
      (({ s with ras := { r with rowEnd := min r.rowEnd (max row r.rowsStarted) } }).scanOver).count 643 1
    else s
  | 2 => { s with ras := { r with abortAt := some (r.abortAt.elim row (min row)) } }
  | 3 => s.repeatRows row
  | 4 => ({ s with ras := { r with tagHold := true } }).repeatRows row
  | _ => s

/-- The payload of the message that `execPairEvent` takes. -/
def runPairEvent (port : TatPort) (payload : List Byte) (s : State) : Out :=
  if !s.pairOpen port || payload.length ≠ 16 then .next s
  else
    let kind := (byteAt payload 4).toNat
    let row := le2 payload 6
    if kind = 5 then
      if s.isFollower then .next s
      else done ({ s with tat := { s.tat with followerT4 := bit row 0 } }).t4Check
    else if s.ras.running && !s.ras.inBlank && s.ras.frame.toNat = le4 payload 0 then done (s.pairActs kind row)
    else if kind = 4 then done { s with ras := { s.ras with tagHold := true } }
    else .next s

/-- PAIR_EVENT: preemption, abort, repeat or tag hold from a row, or the follower's T4 state (R436, R531). -/
def execPairEvent (port : TatPort) (codes : List (BitVec 10)) (s : State) : Out :=
  s.tatTake port 0x51 codes (runPairEvent port)

/-- The follower reports its own T4 state (R436, R531). -/
def State.kind5 (s : State) (at4 : Bool) : State :=
  ({ s with tat := { s.tat with lastKind5 := at4 } }).pairEvent 5 (b2n at4)

/-- PAIR_EVENT_REPEAT: KIND 5 again, while the pair's timing does not match the state last sent (R436). -/
def execPairEventRepeat (s : State) : Out :=
  if s.isFollower && s.scaled != s.tat.lastKind5 then .next (s.kind5 s.tat.lastKind5) else .next s

end Sys2Proof.Machine
end

