-- ==== Sys2Proof/Machine/Thermal.lean ====
section
/-! DEFINITION. Thermal sensing and throttling: the samples and their cross-check, the controlling temperature, the throttle steps, the request to the host and the shutdown (R79, R524 to R536). -/

namespace Sys2Proof.Machine

/-! ## Sensors (R524 to R526) -/

/-- The sensors above, below, left and right of a die sensor in the grid of 3 rows by 4 columns (R524). -/
def dieNeighbours (i : Nat) : List Nat :=
  (if 4 ≤ i then [i - 4] else []) ++ (if i < 8 then [i + 4] else []) ++ (if i % 4 = 0 then [] else [i - 1]) ++
  (if i % 4 = 3 then [] else [i + 1])

/-- A temperature put in its place in a rising list. -/
def insertTemp (v : Int) : List Int → List Int
  | [] => [v]
  | x :: xs => if v ≤ x then v :: x :: xs else x :: insertTemp v xs

/-- Twice the median of readings: with an even count the sum of the middle two (R525). -/
def median2 (l : List Int) : Int :=
  let m := l.foldr insertTemp []
  let n := m.length
  if n % 2 = 1 then 2 * m.getD (n / 2) 0 else m.getD (n / 2 - 1) 0 + m.getD (n / 2) 0

/-- What a die sensor is compared with, doubled: its valid neighbours' median, or with fewer than two that of all the other valid sensors; none when there is none (R525). -/
def Thermal.reference2 (t : Thermal) (i : Nat) : Option Int :=
  let ok (j : Nat) : Bool := j != i && !t.suspect.toList.getD j true
  let near := (dieNeighbours i).filter ok
  let use := if 2 ≤ near.length then near else (List.range 12).filter ok
  if use.isEmpty then none else some (median2 (use.map fun j => t.die.toList.getD j 0))

/-- One sensor's verdict after a sample: whether it is suspect, and its runs outside and inside the limits (R525). -/
def Thermal.judge (t : Thermal) (limit : Int) (i : Fin 12) : Bool × Nat × Nat :=
  match t.reference2 i.val with
  | none => (t.suspect[i], t.outRun[i], t.inRun[i])
  | some m =>
    let gap := (2 * t.die[i] - m).natAbs
    if t.suspect[i] then
      let run := if gap ≤ limit.toNat then t.inRun[i] + 1 else 0
      if 100 ≤ run then (false, 0, 0) else (true, 0, run)
    else
      let run := if 2 * limit.toNat < gap then t.outRun[i] + 1 else 0
      if 3 ≤ run then (true, 0, 0) else (false, run, 0)

/-- Every sensor is cross-checked against the validity before this sample; each marking and clearing raises EV_THM_SENSOR (R525, R535). -/
def State.crossCheck (s : State) : State :=
  let old := s.thm
  let v := Vector.ofFn fun i => old.judge (s.paramInt 0x100E) i
  let thm : Thermal := { old with suspect := v.map (·.1), outRun := v.map (·.2.1), inRun := v.map (·.2.2) }
  let s1 : State := ({ s with thm := thm }).count 260 (old.suspect.toList.filter id).length
  (List.range 12).foldl (fun t i =>
    let was := old.suspect.toList.getD i false
    let is_ : Bool := thm.suspect.toList.getD i false
    if was == is_ then t
    else if is_ then t.event 0x1003 .warning true 3 (2 ^ 24 + i * 256)
    else t.event 0x1003 .info true 3 (2 * 2 ^ 24 + i * 256)) s1

/-- Valid die sensors. -/
def State.validDies (s : State) : Nat := (s.thm.suspect.toList.filter fun b => !b).length

/-- Tc: the hottest valid die sensor or the hottest GDDR7 sensor with its offset; with neither the last value stays (R526). -/
def State.controlTemp (s : State) : Int :=
  let mem : Option Int := if s.domOn dMem then some (max s.thm.mem0 s.thm.mem1 + s.paramInt 0x100A) else none
  match s.hottest, mem with
  | some d, some m => max d m
  | some d, none => d
  | none, some m => m
  | none, none => s.thm.tc

/-- The step floor by the count of valid die sensors (R526). -/
def floorOf (valid : Nat) : Nat := if 4 ≤ valid then 0 else if 1 ≤ valid then 2 else 3

/-- THM_SENSOR_FLOOR is logged when a floor begins (R526, R535). -/
def State.floorWatch (s : State) : State :=
  let n := s.validDies
  let f := floorOf n
  let s1 : State := { s with thm := { s.thm with floor := f } }
  if f ≠ s.thm.floor ∧ f ≠ 0 then s1.logOnly 0x1100 .warning 3 n else s1

/-! ## Rate of rise (R528) -/

/-- Tc one THM.RISE_WINDOW earlier: the latest sample at or before that instant. -/
def State.tcBefore (s : State) : Option Int :=
  let t := ms (s.param 0x1008)
  (s.thm.hist.find? fun e => e.1 + t ≤ s.now).map (·.2)

/-- The new Tc joins the history, which keeps what the longest window can ask for (R528). -/
def State.tcRecord (s : State) : State :=
  { s with thm := { s.thm with hist := (s.now, s.thm.tc) :: s.thm.hist.filter fun e => s.now ≤ e.1 + ms 1200 } }

/-- The last rate of rise, in 1/16 °C per second (R528, R536). -/
def State.riseUpdate (s : State) : State :=
  match s.tcBefore with
  | none => s
  | some old => { s with thm := { s.thm with rise := clampInt (-32768) 32767 ((s.thm.tc - old) * 1000 / (s.param 0x1008 : Int)) } }

/-- Whether the rise trigger fires at this sample (R528). -/
def State.riseFires (s : State) : Bool :=
  !s.thm.riseDisarmed && decide (s.paramInt 0x1009 ≤ s.thm.tc) &&
  (match s.tcBefore with
    | none => false
    | some old => decide (s.paramInt 0x1007 * (s.param 0x1008 : Int) < (s.thm.tc - old) * 1000))

/-! ## Steps (R527 to R531) -/

/-- THM.Tn_ENTER. -/
def State.enterTemp (s : State) (n : Nat) : Int := s.paramInt (0x1000 + n)

/-- The highest step whose threshold Tc has reached; 0 for none (R528). -/
def State.thresholdStep (s : State) : Nat :=
  (List.range 4).foldl (fun m k => if s.enterTemp (k + 1) ≤ s.thm.tc then k + 1 else m) 0

/-- Whether doubled row time would break the frame-length rule of TIM_RASTER at the rate floor (R531). -/
def State.t4Unfit (s : State) : Bool :=
  let rate := max (s.param 0x2806 / 2) (s.param 0x4804)
  decide (1200000000000 < (s.param 0x2802 + s.param 0x2803) * (2 * s.param 0x2804) * rate)

/-- Whether Tc stands low enough for a release of the step in force (R528). -/
def State.coolNow (s : State) : Bool := s.thm.step != 0 && decide (s.thm.tc < s.enterTemp s.thm.step - s.paramInt 0x1005)

/-- Rate of the frame being displayed, in 0.001 Hz: by the last full period, or the period the mode gives before there is one; 0 with the raster stopped (R530). -/
def State.shownRate (s : State) : Nat :=
  if !s.ras.running then 0
  else
    let p := if 1 < s.ras.framesOn then s.ras.start - s.ras.prevStart else s.basePeriod s.ras.active
    if p = 0 then 0 else 1200000000000 / p

/-- EV_THERMAL_REQUEST, and the rate it was raised at (R530). -/
def State.thermalRequest (s : State) (cause : Nat) : State :=
  let rate := s.shownRate
  let hz := max (rate / 2000) ((s.param 0x4804 + 999) / 1000)
  let s1 : State := { s with thm := { s.thm with reqRate := rate, reqCause := cause } }
  s1.event 0x1001 .warning true 3 (hz % 65536 * 65536 + s.thm.step * 256 + cause)

/-- The throttle step changes: EV_THM_STEP, the request on entry to T3, and T4's transition or the follower's report of it (R528 to R531, R535). A Tc below 0 °C has no stated code in the event. -/
def State.stepTo (s : State) (new cause : Nat) : State :=
  let old := s.thm.step
  if new = old then s
  else
    let (code, s0) : Nat × State := if s.thm.tc < 0 then
        let (v, t) := s.takeFree
        (v.toNat % 4096, t)
      else (min 4095 s.thm.tc.toNat, s)
    let s1 : State := { s0 with thm := { s0.thm with step := new } }
    let s2 : State := { s1 with thm := { s1.thm with coolFrom := if s1.coolNow then some s1.now else none } }
    let s3 := s2.event 0x1002 (if old < new then .warning else .info) true 3 (new * 2 ^ 24 + old * 2 ^ 16 + cause * 4096 + code)
    let s4 := if old < 3 ∧ 3 ≤ new then s3.thermalRequest cause else s3
    let at4 (n : Nat) : Bool := n == 4 && s.param 0x100D == 1
    let s5 := if s4.isFollower && at4 old != at4 new then s4.kind5 (at4 new) else s4
    s5.t4Check

/-- The step that a sample asks for and why: 1 threshold, 2 rate of rise, 3 sensor floor (R528, R530). -/
def State.stepWanted (s : State) (rise : Bool) : Nat × Nat :=
  let t := s.thresholdStep
  let r := if rise then min 4 (s.thm.step + 1) else 0
  let f := s.thm.floor
  if r ≤ t && f ≤ t then (t, 1) else if f ≤ r then (r, 2) else (f, 3)

/-- The device steps up while CTRL runs; a T4 whose row time cannot be doubled stays T3 (R528, R531, R534). -/
def State.stepUp (s : State) (rise : Bool) : State :=
  let (n, cause) := s.stepWanted rise
  let want4 := n == 4 && s.thm.step < 4 && s.param 0x100D == 1
  let refused := want4 && s.t4Unfit
  let s1 := if refused && !s.thm.t4Refused then s.logOnly 0x1101 .warning 3 (unsigned 32 s.thm.tc) else s
  let s2 : State := { s1 with thm := { s1.thm with t4Refused := refused, risePend := false } }
  let m := if refused then 3 else n
  if s.thm.step < m then s2.stepTo m cause else s2

/-- What a sample's Tc does to the steps: the rise trigger, the release timer, and the step or, with CTRL not *on*, the THERMAL wake (R528, R534). -/
def State.throttle (s : State) : State :=
  let fires := s.riseFires
  let s1 := s.riseUpdate.tcRecord
  let s2 : State := if fires then ({ s1 with thm := { s1.thm with riseDisarmed := true, coolFrom := none } }).count 261 1
    else { s1 with thm := { s1.thm with coolFrom := if s1.coolNow then some (s1.thm.coolFrom.getD s1.now) else none } }
  if s2.domOn dCtrl then s2.stepUp (fires || s2.thm.risePend)
  else
    let s3 : State := { s2 with thm := { s2.thm with risePend := s2.thm.risePend || fires } }
    if fires || decide (s3.enterTemp 1 ≤ s3.thm.tc) then s3.qualify .thermal else s3

/-! ## Shutdown (R79, R526, R534) -/

/-- Whether a reading of 125 °C or more asks for thermal shutdown. -/
def State.tooHot (s : State) : Bool :=
  match s.hottest with
  | some t => decide (2000 ≤ t)
  | none => decide (2000 ≤ s.thm.tc)

/-- Thermal shutdown begins, unless it holds or is pending already, or RESET_N holds the device. -/
def State.shutdownWatch (s : State) : State :=
  if s.tooHot && !s.boot.thermalOff && !s.boot.resetPin && !s.boot.pendingReset.any fun p => p.causes.getLsbD 6 then
    s.resetCause rcThermal
  else s

/-! ## The rows -/

/-- THERMAL_SAMPLE: every die sensor, and the GDDR7 sensors while MEM is *on* (R524). -/
def execThermalSample (die : List (BitVec 16)) (mem0 mem1 : BitVec 16) (s : State) : Out :=
  if die.length ≠ 12 then .fault .illFormed
  else if !s.boot.powered then .next s
  else
    let s0 := match s.thm.sampledAt with
      | some t => s.elapse (t + ms (s.param 0x1000))
      | none => s
    let on := s0.domOn dMem
    let thm := { s0.thm with
      die := Vector.ofFn fun i => (die.getD i.val 0).toInt, sampledAt := some s0.now,
      mem0 := if on then mem0.toInt else s0.thm.mem0, mem1 := if on then mem1.toInt else s0.thm.mem1 }
    let s1 := (State.crossCheck { s0 with thm := thm }).floorWatch
    let s2 : State := { s1 with thm := { s1.thm with tc := s1.controlTemp } }
    done s2.throttle.shutdownWatch

/-- THM_RELEASE_EXPIRY: Tc has stayed low for THM.RELEASE_TIME, and the step drops by one unless a sensor floor holds it (R526, R528). -/
def execThmReleaseExpiry (s : State) : Out :=
  match s.thm.coolFrom with
  | none => .next s
  | some t =>
    if s.thm.step = 0 ∨ s.thm.step ≤ s.thm.floor ∨ !s.domOn dCtrl then .next s
    else
      let s1 := s.elapse (t + ms (s.param 0x1006))
      done (s1.stepTo (s1.thm.step - 1) 4)

/-- RISE_TRIGGER_REARM: a full window after the trigger (R528). -/
def execRiseTriggerRearm (s : State) : Out := .next { s with thm := { s.thm with riseDisarmed := false } }

/-- THERMAL_REQUEST_REPEAT: at T3 or T4 the request is raised again, unless the refresh rate has fallen below that of the last one (R530). -/
def execThermalRequestRepeat (s : State) : Out :=
  if s.thm.step < 3 || s.shownRate < s.thm.reqRate then .next s else done (s.thermalRequest s.thm.reqCause)

end Sys2Proof.Machine
end

