-- ==== Sys2Proof/Machine/Boot.lean ====
section
/-! DEFINITION. Start-up and power failure: AON power-up, straps, resonator and VIN, the boot ROM, the board profile, GDDR7 set-up and the start-up loads, and the power-fail warning (R46, R63, R64, R82 to R98, R103, R306, R349, R350, R368, R495, R496, R520). -/

namespace Sys2Proof.Machine

/-! ## AON power-up (R46, R63, R64, R82, R103) -/

/-- The lowest VIN, in mV, that any unit takes as good: the threshold lies between 4.40 and 4.50 V (R63). -/
def vinGoodMv : Nat := 4400

/-- AON_POWER_UP: VIN passes its threshold while AON is unpowered. Flash and fuses keep what they hold; below the threshold, or with AON powered, there is no effect (R63, R82). -/
def execAonPowerUp (vinMv : BitVec 16) (s : State) : Out :=
  if s.boot.powered || vinMv.toNat < vinGoodMv then .next s
  else
    let r := State.reset
    .next { r with
      vin := { r.vin with latest := vinMv.toNat }, nv := { r.nv with nor := s.nv.nor, nand := s.nv.nand },
      sec := { r.sec with fuse := s.sec.fuse }, free := s.free, pending := s.pending }

/-- STRAP_SAMPLE: the six straps are sampled once after AON power-up (R45, R46). Sampling at a RESET_N release is part of that command. -/
def execStrapSample (straps : Straps) (s : State) : Out :=
  if !s.boot.powered || s.boot.strapsDone then .next s
  else
    .next { s with
      boot := { s.boot with straps := straps, strapsDone := true, vioHigh := straps.vioHigh },
      win := { s.win with svcAddr := 0x58 + straps.svcAddr.toNat } }

/-- Limp mode as the resonator check decides it; under RESET_N the boot ROM starts only at the release (R99, R103). -/
def State.limpAtCheck (s : State) (why : Nat) : State :=
  if s.boot.resetPin then (State.faultBit { s with boot := { s.boot with limp := true } } 0).logOnly 0x0506 .fatal 3 why
  else s.enterLimp why

/-- RESONATOR_CHECK: judged once. A resonator that does not oscillate, or lies more than 15 % off, leads to limp mode; CLK.RESONATOR_CHECK has no stated value where the reading lies outside its range (R20, R103). -/
def execResonatorCheck (oscillates : Bool) (milliPercent : BitVec 32) (s : State) : Out :=
  if !s.boot.powered || s.boot.resonatorChecked then .next s
  else
    let v := milliPercent.toInt
    let near := decide (-15000 ≤ v) && decide (v ≤ 15000)
    let s0 : State := { s with boot := { s.boot with resonatorChecked := true } }
    if oscillates && near then .next { s0 with boot := { s0.boot with resonatorPpm10 := v } }
    else
      let (f, s1) := s0.takeFree
      let s2 : State := { s1 with boot := { s1.boot with resonatorPpm10 := f.toInt } }
      done (s2.limpAtCheck (if oscillates then 2 else 1))

/-- VIN_BOOT_MEASURE: once after AON power-up (R64). -/
def execVinBootMeasure (vinMv : BitVec 16) (s : State) : Out :=
  if !s.boot.powered || s.vin.bootDone then .next s
  else .next { s with vin := { s.vin with boot := vinMv.toNat, latest := vinMv.toNat, bootDone := true } }

/-! ## The boot ROM (R82, R86 to R89) -/

/-- ROOT_PLL_LOCK: the restart goes on from AON_UP; the PLL stays off in limp mode, and the domains stay off under RESET_N and after a thermal shutdown (R82, R98 to R103). -/
def execRootPllLock (s : State) : Out :=
  let b := s.boot
  if !b.powered || b.resetPin || b.thermalOff || b.limp || b.stage ≠ .aonUp || b.pendingReset.isSome then .next s else done s.romStart

/-- A slot that passed runs: FW_RUNNING, the boot watchdog, the versions, and what FW_RUNNING ends and counts (R87, R88, R104, R105, R119, R493). -/
def State.runSlot (s : State) (slot : Bool) : State :=
  let (sv, fv) := s.slotVersions slot
  let b := { s.boot with slot := slot, fallback := slot != s.boot.firstSlot, checking := none, bootWdog := true, fwVersion := fv, secVersion := sv }
  let s1 : State := { s with boot := b, nv := { s.nv with bootCount := s.nv.bootCount + 1 }, pwr := { s.pwr with bootVote := true } }
  (s1.faultClear 2).setStage .fwRunning

/-- The result of a slot's check is recorded and logged (R105, R457). -/
def State.slotResult (s : State) (slot : Bool) (r : SlotResult) : State :=
  let b := if slot then { s.boot with result1 := r } else { s.boot with result0 := r }
  State.logOnly { s with boot := b } 0x0501 (if r = .passed then .info else .error) (b2n slot) r.code

/-- BOOT_ROM_CHECK_DONE: the slot runs, the other one is tried, or the recovery service starts (R87, R89). -/
def execBootRomCheckDone (readError : Bool) (s : State) : Out :=
  match s.boot.checking with
  | none => .next s
  | some slot =>
    if s.boot.stage ≠ .romVerify || !s.domOn dCtrl then .next s
    else
      let r := s.checkSlot slot readError
      let s1 := s.slotResult slot r
      if r = .passed then done (s1.runSlot slot)
      else
        let other := !slot
        let hung := if other then s.boot.failed1 else s.boot.failed0
        if slot = s.boot.firstSlot && !hung then done { s1 with boot := { s1.boot with checking := some other } } else done s1.enterRecovery

/-! ## The board profile (R90 to R93) -/

/-- The entries of an entry record (R91); none when its form is wrong. -/
def profileEntries (p : List Byte) : Option (List (Nat × Word)) :=
  let n := le2 p 0
  if 1 ≤ n && n ≤ 38 && p.length == 4 + 6 * n && zeroAt p 2 2 then
    some ((List.range n).map fun i => (le2 p (4 + 6 * i), Word.of (le4 p (6 + 6 * i))))
  else none

/-- The payloads of the entry records with consecutive keys from 0x0101; none when one is missing. -/
def State.profileRecords (s : State) (n : Nat) : Option (List (List Byte)) := (List.range n).mapM fun i => s.recPayload (0x0101 + i)

/-- The entries of a header and its records, in record and entry order; none where MAGIC, FORMAT, RECORDS, ENTRIES or CRC disagree with the records found, an entry record beyond RECORDS among them (R90, R92). -/
def State.profileList (s : State) (h : List Byte) : Option (List (Nat × Word)) :=
  let n := (byteAt h 3).toNat
  let beyond := (List.range 8).any fun i => n ≤ i && (s.recPayload (0x0101 + i)).isSome
  if h.length ≠ 32 || le2 h 0 ≠ 0x4250 || byteAt h 2 ≠ 1 || n = 0 || 8 < n || !zeroAt h 10 2 || beyond then none
  else
    match s.profileRecords n with
    | none => none
    | some ps =>
      match ps.mapM profileEntries with
      | none => none
      | some es => if es.flatten.length = le2 h 8 && crc32c ps.flatten = le4 h 12 then some es.flatten else none

/-- What is wrong with the entries, as PROFILE_REJECTED names it: unknown ID, out of range, class P or K (R92, R457). -/
def profileFault (es : List (Nat × Word)) : Option Nat :=
  let bad (why : Nat) (f : Nat × Word → Bool) : Option Nat := (es.find? f).map fun e => why * 2 ^ 24 + e.1
  let closed (e : Nat × Word) : Bool := pClass? e.1 == some .p || pClass? e.1 == some .k
  ((bad 3 fun e => (pClass? e.1).isNone).or (bad 4 fun e => pClass? e.1 != some .k && !pInRange e.1 e.2.toNat)).or (bad 5 closed)

/-- The staged values: a later entry for an ID replaces an earlier one (R92). -/
def profileValues (es : List (Nat × Word)) : List (Nat × Word) := es.foldl (fun l e => aset l e.1 e.2) []

/-- The profile in the Sampler: its PROFILE_ID and values, or the DATA of PROFILE_REJECTED. Agreement sets are checked without their clauses on VALID instances, since no table is loaded yet, but for DTH_PATTERN, whose built-in tile stands by then (R92, R148, R306, R529; assumption 28). -/
def State.readProfile (s : State) : Except Nat (Word × List (Nat × Word)) :=
  match s.recPayload 0x0100 with
  | none => .error (2 ^ 24)
  | some h =>
    match s.profileList h with
    | none => .error (2 * 2 ^ 24)
    | some es =>
      match profileFault es with
      | some d => .error d
      | none =>
        let vs := profileValues es
        let get (id : Nat) : Nat := (aget? vs id).elim (s.param id) (·.toNat)
        if !enterAscends get then .error (4 * 2 ^ 24 + ((vs.find? fun v => 0x1001 ≤ v.1 && v.1 ≤ 0x1004).elim 0 Prod.fst))
        else
          match s.failingSet false true vs with
          | some k => .error (6 * 2 ^ 24 + k)
          | none => .ok (Word.of (le4 h 4), vs)

/-- The profile's values become the initial values, class L ones with what their writes do (R92, R457). No commit changes a layer here, so no region retires (R364). -/
def State.profileApply (s : State) (vs : List (Nat × Word)) : State :=
  let l := vs.filter fun v => pClass? v.1 == some .l
  let s1 := l.foldl (fun t v => t.writeL v.1 v.2.toNat 0xFF) (s.applyValues (vs.filter fun v => pClass? v.1 != some .l))
  { s1 with apq := { s1.apq with retired := [] } }

/-- Reaching PROFILE_APPLIED or UNCONFIGURED clears the failure flags and the boot watchdog and lets scheduled erases run; PROFILE_APPLIED reports the sessions that a reset or deep standby ended (R88, R235, R483). -/
def State.bootReached (s : State) (g : Stage) : State :=
  let s1 : State := { s with boot := { s.boot with failed0 := false, failed1 := false, bootWdog := false } }
  let s2 := s1.setStage g
  (if g = .profileApplied then s2.raiseEndEvents true else s2).eraseScheduled

/-- The profile is applied, or rejected and logged; the panel starts where SYS.AUTO_PANEL_ON asks for it (R82, R92, R93). UNCONFIGURED ends the firmware's request for MEM (the last value of the example of R108). -/
def State.boardProfile (s : State) : State :=
  match s.readProfile with
  | .error d =>
    let s1 := (s.logOnly 0x0502 .error 0 d).bootReached .unconfigured
    { s1 with pwr := { s1.pwr with bootVote := false } }
  | .ok (id, vs) =>
    let s1 := s.profileApply vs
    let s2 := State.bootReached { s1 with boot := { s1.boot with profileId := id, profileOk := true } } .profileApplied
    ((State.portsCheck { s2 with hl := { s2.hl with vote := true } }).tatLeave).autoPanel

/-! ## The built-in dither tile (R306, R318) -/

/-- The built-in blue-noise instance 0x00 of class 0x03, with the header of R306. -/
def builtInTile : List Byte :=
  let body := (List.range 12288).flatMap fun i => toLe 2 (Config.blueNoise i).toNat
  toLe 2 0x0300 ++ [1, 0] ++ toLe 4 24592 ++ zeros 4 ++ toLe 4 (crc32c body) ++ body

/-- The built-in tile stands where no other VALID tile does. -/
def State.builtIn (s : State) : State := if s.tableValid 0x0300 then s else s.install 0x0300 builtInTile

/-- SAMPLER_SCAN_DONE: the scan of a start of CTRL from *off*, the values it brings back, and the board profile (R82, R92, R233, R483, R493). -/
def execSamplerScanDone (s : State) : Out :=
  if s.boot.stage ≠ .fwRunning || s.boot.warm || !s.domOn dCtrl || s.nv.st ≠ .notScanned then .next s
  else
    let s1 := s.samplerScan
    let s2 := if s1.nv.firstScan then s1.loadAlwaysOn.replaceFactory else s1
    done s2.loadPsr.builtIn.boardProfile

/-! ## GDDR7 and the start-up loads (R82, R85, R306, R349, R350, R368) -/

/-- Whether firmware runs with the board profile settled. -/
def State.booted (s : State) : Bool := s.firmwareRuns && s.pastProfile

/-- MEM_READY: the hoop holds SYS.BOOT_COLOUR, its descriptors are at their start, and loads may begin (R82, R95, R272). -/
def execMemReady (s : State) : Out :=
  if !s.firmwareRuns || !s.domOn dMem || s.boot.memReady then .next s
  else
    let m := { s.mem with hoopFill := Word.of (s.param 0x0411), cells := s.mem.cells.filter fun c => 0x10000000 ≤ c.1,
                          h0 := .initial .marked, h1 := .initial .free }
    done (State.builtIn { s with mem := m, boot := { s.boot with memReady := true } })

/-- A stored object as a table: its plain bytes and index fields, or why it does not load; contents that do not fit this device now count as a failed container check. With NVM, SEC or CODEC failed the load fails (R469, R519) for what that part would have done, missing, tag and container check (DESIGN CHOICE, assumption 96). -/
def State.loadTable (s : State) (object id : Nat) : Except Nat (List Byte × IndexExtra) :=
  if s.domFailed dNvm then .error lfMissing
  else if s.domFailed dSec then .error lfTag
  else if s.domFailed dCodec then .error lfContainer
  else
  match s.nandLoad object with
  | .error w => .error w
  | .ok (data, x, _) => if le2 data 0 = id && s.contentOk id data then .ok (data, x) else .error lfContainer

/-- A persisted table or stored clip that fails its container check: its instance is INVALID (R468); one that is not stored leaves it alone. -/
def State.loadFails (s : State) (id w : Nat) : State := if w = lfMissing then s else s.setTable { s.table id with st := .invalid }

/-- PERSISTED_TABLE_LOAD_DONE: the persisted copy of an overdrive or dither instance becomes its content at cold start, before the map is loaded (R306). -/
def execPersistedTableLoadDone (table : BitVec 16) (s : State) : Out :=
  let id := table.toNat
  let cls := id / 256
  if !s.booted || !s.boot.memReady || s.boot.mapLoaded || s.storeLacks || !tableKnown id || cls = 0 || 3 < cls then .next s
  else
    let s1 := s.loadJob (objTable cls (id % 256))
    match s.loadTable (objTable cls (id % 256)) id with
    | .error w => .next (s1.loadFails id w)
    | .ok (data, _) => done (s1.install id data)

/-- EV_PRK_MAP_FAIL (R85, R354). -/
def State.mapFail (s : State) (cause cls inst : Nat) : State := s.event 0x3401 .error true 2 (cause * 2 ^ 24 + cls * 256 + inst)

/-- A snapshot slot that loads whole: its content, plane generations, panel-on time and store generation (R346, R501). -/
def State.snapLoad (s : State) (slot : Nat) : Option (List Byte × IndexExtra × Nat) :=
  match s.nandLoad (objSnap slot) with
  | .ok (data, x, g) => if data.length = 15 * (s.param 0x2801 * s.param 0x2802) then some (data, x, g) else none
  | .error _ => none

/-- The engine's account of the choice of a snapshot: the slots tried (R350, R473). -/
def State.snapJobs (s : State) (tried : List Nat) : State := tried.foldl (fun t k => t.loadJob (objSnap k)) s

/-- Snapshot slots by the directory, newest first (R501). -/
def State.snapSlots (s : State) : List Nat :=
  match s.dirEntry (objSnap 0), s.dirEntry (objSnap 1) with
  | some a, some b => if a.gen < b.gen then [1, 0] else [0, 1]
  | some _, none => [0]
  | none, some _ => [1]
  | none, none => []

/-- The newest snapshot that passes, its slot, and whether a newer one failed (R350). -/
def State.bestSnap (s : State) : Option (Nat × List Byte × IndexExtra × Nat) × Bool :=
  match s.snapSlots with
  | [] => (none, false)
  | a :: t =>
    match s.snapLoad a with
    | some (d, x, g) => (some (a, d, x, g), false)
    | none =>
      match t with
      | [] => (none, false)
      | b :: _ =>
        match s.snapLoad b with
        | some (d, x, g) => (some (b, d, x, g), true)
        | none => (none, false)

/-- The slots that the choice of a snapshot reads: the newest, and the other where it fails (R350). -/
def State.snapTried (s : State) : List Nat :=
  match s.snapSlots with
  | a :: t => if (s.snapLoad a).isSome then [a] else a :: t
  | [] => []

/-- What the choice of a snapshot reports, and the pointer of R493 rebuilt from a newer index (R350, R354, R493). -/
def State.snapChosen (s : State) (c : Option (Nat × List Byte × IndexExtra × Nat) × Bool) : State :=
  match c.1 with
  | none => s.event 0x3402 .error true 2 (4 * 2 ^ 24)
  | some (slot, _, x, g) =>
    let s1 : State := if s.nv.snapGen < g then
        { s with nv := { s.nv with snapGen := g, snapSlot := slot, snapPanelOn := x.snapPanelOn } } else s
    if c.2 then s1.event 0x3402 .warning true 2 (5 * 2 ^ 24 + g % 2 ^ 24) else s1

/-- Position of a plane among the field planes 0x00, 0x01 and 0x05. -/
def fieldIndex (i : Nat) : Nat := if i = 5 then 2 else i

/-- A field plane from a snapshot: its values, under the header that its stored copy would carry (R329, R349). -/
def State.planeFromSnap (s : State) (i gen : Nat) (data : List Byte) : State :=
  let w := s.param 0x2801
  let n := w * s.param 0x2802
  let vals := (List.range (3 * n)).map fun k => byteAt data (6 * n + 3 * k + fieldIndex i)
  let body := toLe 2 w ++ toLe 2 (s.param 0x2802) ++ zeros 12 ++ vals
  let head := toLe 2 (0x400 + i) ++ [1, 0] ++ toLe 4 (32 + 3 * n) ++ zeros 4 ++ toLe 4 (crc32c body)
  let s1 := s.install (0x400 + i) (head ++ body)
  { s1 with prk := { s1.prk with planeGen := s1.prk.planeGen.setIfInBounds i gen } }

/-- An enabled plane from its map slot; one that fails is reported (R349, R350). Fields of planes 0x00, 0x01 and 0x05 that come from there are not those of the newest snapshot (R348). -/
def State.planeFromSlot (s : State) (i : Nat) : State :=
  let s0 := if s.storeLacks then s else s.loadJob (objPlane i (s.param 0x3401))
  match s.loadTable (objPlane i (s.param 0x3401)) (0x400 + i) with
  | .error w => s0.mapFail w 4 i
  | .ok (data, x) =>
    let s1 := (s0.install (0x400 + i) data).fieldsChanged s (0x400 + i)
    { s1 with prk := { s1.prk with planeGen := s1.prk.planeGen.setIfInBounds i x.planeGen } }

/-- Step 3 for one plane: the snapshot where its recorded generation is the slot's, else the slot (R349). -/
def State.fieldPlane (s : State) (i : Nat) (c : Option (Nat × List Byte × IndexExtra × Nat)) : State :=
  match c, s.dirEntry (objPlane i (s.param 0x3401)) with
  | some (_, d, x, _), some e => if x.snapPlaneGens.getD (fieldIndex i) 0 = e.planeGen then s.planeFromSnap i e.planeGen d else s.planeFromSlot i
  | _, _ => s.planeFromSlot i

/-- Step 1: the ageing curve (R349, R350). -/
def State.curveLoad (s : State) : State :=
  let s0 := if s.storeLacks then s else s.loadJob (objCurve (s.param 0x3401))
  match s.loadTable (objCurve (s.param 0x3401)) 0x0500 with
  | .error _ => s0.mapFail 4 5 0
  | .ok (data, x) =>
    let s1 := s0.install 0x0500 data
    { s1 with prk := { s1.prk with curveGen := x.planeGen } }

/-- Whether an enabled plane takes its fields from a snapshot. -/
def State.fieldsOn (s : State) : Bool := s.param 0x4800 == 1 && [0, 1, 5].any fun i => bit (s.param 0x3400) i

/-- MAP_LOAD_DONE: the curve, the grey planes and the field planes, as the panel type and PRK.PLANES_EN ask for them. MAP_READY when every enabled plane is VALID; a map that fails is waited for no longer (R82, R85, R328, R349, R350). With NVM, SEC or CODEC failed every part of the load fails (R469, R519), and no snapshot is looked for. -/
def execMapLoadDone (s : State) : Out :=
  if !s.booted || !s.boot.memReady || s.boot.mapLoaded then .next s
  else
    let oled := s.param 0x4800 == 1
    let on (i : Nat) : Bool := bit (s.param 0x3400) i
    let s1 := if oled then s.curveLoad else s
    let s2 := ([2, 3, 4].filter on).foldl (fun t i => t.planeFromSlot i) s1
    let c := if s.storeLacks then (none, false) else s2.bestSnap
    let s3 := if s.fieldsOn && s.storeLacks then ([0, 1, 5].filter on).foldl (fun t i => t.planeFromSlot i) s2
      else if s.fieldsOn then ([0, 1, 5].filter on).foldl (fun t i => t.fieldPlane i c.1) ((s2.snapJobs s2.snapTried).snapChosen c) else s2
    let b := { s3.boot with mapLoaded := true, mapReady := s3.planesValid, mapWaitOver := s3.boot.mapWaitOver || !s3.planesValid }
    let p := { s3.pwr with bootVote := s3.pwr.bootVote && s3.param 0x0410 == 1 }
    done { s3 with boot := b, pwr := p }

/-- MAP_WAIT_LIMIT_EXPIRY: SYS.MAP_WAIT_LIMIT has passed since the start instant, and the raster waits no longer for the map (R85). -/
def execMapWaitLimitExpiry (s : State) : Out :=
  if !s.booted || s.boot.mapReady then .next s
  else
    let s1 := s.elapse (s.boot.startAt + ms (s.param 0x0412) - s.boot.startLead)
    .next { s1 with boot := { s1.boot with mapWaitOver := true } }

/-- The stress plane of a snapshot, in its place of R341. -/
def State.stressPlane (s : State) (data : List Byte) : State :=
  let w := s.param 0x2801
  (List.range (w * s.param 0x2802)).foldl (fun t i => t.ramWrite (s.stressAddr (i % w) (i / w) 0) (slice data (6 * i) 6))
    (s.memAsk true true (6 * w * s.param 0x2802))

/-- STRESS_SNAPSHOT_LOAD_DONE: after the first frame of an OLED panel the stress plane of the newest snapshot that passes is in place and accumulation runs; with none it starts at 0 (R82, R328, R349, R350). -/
def execStressSnapshotLoadDone (s : State) : Out :=
  if !s.booted || !s.boot.memReady || s.param 0x4800 ≠ 1 || s.prk.stress ≠ .off || s.ras.framesOn = 0 || s.storeLacks then .next s
  else
    let c := s.bestSnap
    let s0 := s.snapJobs s.snapTried
    let s1 := if s.fieldsOn then s0 else s0.snapChosen c
    match c.1 with
    | some (_, d, _, _) =>
      let s2 := s1.stressPlane d
      done { s2 with prk := { s2.prk with stress := .running } }
    | none => done { s1 with prk := { s1.prk with stress := .restarted } }

/-- The stored clip of an instance that no load has touched yet, or why it fails (R368). -/
def State.storedClip (s : State) (i : Nat) : Except Nat (List Byte) :=
  if (s.table (0x700 + i)).st ≠ .empty then .error lfMissing
  else
    match s.loadTable (objClip i) (0x700 + i) with
    | .error w => .error w
    | .ok (data, _) => .ok data

/-- Whether a stored clip of an instance is still to load. -/
def State.clipDue (s : State) (i : Nat) : Bool :=
  match s.storedClip i with
  | .error w => w != lfMissing
  | .ok _ => true

/-- CLIP_LOAD_DONE: a stored clip joins the library at a cold start, after the stress plane of an OLED panel is in place and in instance order (R82, R96, R368). -/
def execClipLoadDone (inst : BitVec 8) (s : State) : Out :=
  if !s.booted || s.boot.warm || !s.boot.memReady || s.storeLacks || (s.param 0x4800 = 1 && s.prk.stress = .off)
      || (List.range inst.toNat).any s.clipDue || !s.clipDue inst.toNat then .next s
  else
    let s1 := s.loadJob (objClip inst.toNat)
    match s.storedClip inst.toNat with
    | .error w => .next (s1.loadFails (0x700 + inst.toNat) w)
    | .ok data => done (s1.install (0x700 + inst.toNat) data).clipWatch

/-! ## Power failure (R63, R64, R495, R496, R520) -/

/-- The PFW threshold in mV (R64). -/
def State.vPfw (s : State) : Nat := max (s.vin.boot * s.param 0x0C08 / 100) 4500

/-- Whether an assertion now has a save: firmware past its first scan, with CTRL *on* or in *retention* (R496) and NVM not failed (R519). -/
def State.savesNow (s : State) : Bool :=
  !s.nv.firstScan && !s.domFailed dNvm && (s.domOn dCtrl || s.pwr.dom[dCtrl].st == .retention) &&
  (match s.boot.stage with
    | .fwRunning | .profileApplied | .running | .unconfigured => true
    | _ => false)

/-- PFW_ASSERT: VIN has stayed below v_pfw; the comparator is accurate to 2 % (R63). The panel powers down, flash work ends as R496 says, and the save is due. -/
def execPfwAssert (vinMv : BitVec 16) (s : State) : Out :=
  if !s.boot.powered || s.vin.pfw || s.vPfw * 102 ≤ vinMv.toNat * 100 then .next s
  else
    let v := { s.vin with latest := vinMv.toNat, pfw := true, pfwAt := s.now, saved := !s.savesNow, recoverFrom := none, recovering := false }
    let s1 := State.logOnly { s with vin := v, nv := { s.nv with pfwCount := s.nv.pfwCount + 1 } } 0x0D00 .error 3 vinMv.toNat
    done ((s1.panelPfw.snapAbandon.nvPfw.cmpPfw).qualify .pfw)

/-- Where the end of the save puts a domain (R520). -/
def State.pfwPut (s : State) (d : Fin 19) : State :=
  let st := s.pwr.dom[d].st
  let low : DomState := if st == .failed then .failed else if d = dMem && st != .off then .retention else .off
  if low = st then s.onDom d fun x => { x with target := .retention, phase := .settled, latched := false, idleFrom := none }
  else (s.onDom d fun x => { x with st := low, phase := .settled, target := .retention, latched := false, idleFrom := none, leftOff := low == .off }).domLost d low

/-- PFW_SAVE_DONE: records 0x0020 and 0x0200 are written and every domain but CTRL goes down; the device is then as in standby with CTRL *on* until it resumes. A reset that waited for the save follows (R102, R495, R520). -/
def execPfwSaveDone (s : State) : Out :=
  if s.vin.saved || !(s.vin.pfw || s.vin.recovering) || !s.domOn dCtrl then .next s
  else
    let s1 := (s.saveAlwaysOn 2).logOnly 0x0D01 .info 3 ((s.now - s.vin.pfwAt) / us 1)
    let s2 := (State.count { s1 with vin := { s1.vin with saved := true } } 388 1)
    let s3 := (wakeOrder.drop 1).foldl (fun t d => t.pfwPut d) s2
    let s4 : State := { s3 with pwr := { s3.pwr with asleep := true, deep := false, runVote := false, bootVote := false },
                                hl := { s3.hl with vote := false, trainWanted := false, backoff := false } }
    match s4.boot.pendingReset with
    | some p => if p.safeStop then done s4 else done s4.resetDue
    | none => done s4

/-- PFW_DEASSERT: VIN has risen past v_pfw and at least the smallest hysteresis; a suspended erase resumes and the recovery count starts (R63, R496, R520). -/
def execPfwDeassert (vinMv : BitVec 16) (s : State) : Out :=
  if !s.vin.pfw || vinMv.toNat * 100 < s.vPfw * 98 + 8000 then .next s
  else
    let v := { s.vin with latest := vinMv.toNat, pfw := false, recoverFrom := some s.now, recovering := true }
    done { s with vin := v, nv := { s.nv with erase := s.nv.erase.map fun e => { e with suspended := false } } }

/-- PFW_RECOVER_EXPIRY: PFW has stayed deasserted for PWR.PFW_RECOVER: EV_PWR_RECOVERED, and a resume as from device standby once the profile was settled; a start-up that was cut short goes on (R96, R520). -/
def execPfwRecoverExpiry (s : State) : Out :=
  match s.vin.recoverFrom with
  | none => .next s
  | some t =>
    let s1 := s.elapse (t + ms (s.param 0x0C09))
    let s2 : State := { s1 with vin := { s1.vin with recoverFrom := none, recovering := false, saved := true } }
    if s2.pwr.asleep && s2.pwr.deep then done s2
    else
      let s3 := s2.event 0x0C02 .info true 3 (sat 0xFFFFFFFF ((t - s.vin.pfwAt) / ms 1))
      if !s3.pastProfile && !(s3.boot.stage == .fwRunning && s3.boot.warm) then done s3
      else
        let s4 := s3.beginResume
        if s4.domOn dCtrl then done s4.resumed else done { s4 with pwr := { s4.pwr with wakeVote := s4.pwr.wakeVote ||| 1 } }

end Sys2Proof.Machine
end

