-- ==== Sys2Proof/Machine/Ports.lean ====
section
/-! DEFINITION. The control ports: reads and writes of the hardware register window and the mailbox buffers, the ports' framing, doorbells and releases (R45, R101, R104, R109 to R124). -/

namespace Sys2Proof.Machine

/-! ## Where an address leads (R109, R115, R118) -/

/-- What a word address reaches through a port. -/
inductive Target
  | reg (offset : Nat)
  | request (mb : Mb) (offset : Nat)
  | response (mb : Mb) (offset : Nat)
  | nothing
deriving DecidableEq, Repr

/-- The ports that the register at an offset lists (R118): CTL, SVC. Reserved ones list none. -/
def regPorts (o : Nat) : Bool × Bool :=
  if o = 0x38 ∨ (0x40 ≤ o ∧ o ≤ 0x48) ∨ (0x50 ≤ o ∧ o ≤ 0x5C) then (true, false)
  else if o = 0x3C ∨ (0x60 ≤ o ∧ o ≤ 0x68) then (false, true)
  else if o = 0x4C ∨ o = 0x6C ∨ 0x90 ≤ o then (false, false)
  else (true, true)

/-- The region of a word address through a port (R109, R115). -/
def target (p : Port) (a : Nat) : Target :=
  let n := a / 0x200
  let o := a % 0x200
  if a < 0xC0 then
    let (c, v) := regPorts a
    if (if p = .ctl then c else v) then .reg a else .nothing
  else
    match p, n with
    | .ctl, 8 => .request .mb0 o
    | .ctl, 9 => .response .mb0 o
    | .ctl, 10 => .request .mb1 o
    | .ctl, 11 => .response .mb1 o
    | .svc, 12 => .request .mb2 o
    | .svc, 13 => .response .mb2 o
    | _, _ => .nothing

/-- An access that is refused counts in PORT_ERRORS.REFUSED (R109, R110, R118). -/
def State.portRefused (s : State) : State := s.portError 1

/-! ## Reads (R109 to R111, R118) -/

/-- TIME_HI of a port. -/
def Window.timeHi (w : Window) : Port → BitVec 16
  | .ctl => w.timeHiCtl
  | .svc => w.timeHiSvc

/-- A read of TIME_LO latches device time [47:32] for its port (R118). -/
def State.timeLatch (s : State) (p : Port) : State :=
  let hi := BitVec.ofNat 16 (s.devTime / 2 ^ 32)
  match p with
  | .ctl => { s with win := { s.win with timeHiCtl := hi } }
  | .svc => { s with win := { s.win with timeHiSvc := hi } }

/-- The value of a register of the window as a port reads it (R118). -/
def State.regValue (s : State) (p : Port) (o : Nat) : Nat :=
  match o with
  | 0x00 => 0x9484B001
  | 0x04 => s.boot.fwVersion.toNat
  | 0x08 => s.bootStatus
  | 0x0C => s.boot.resetCause.toNat
  | 0x10 => s.boot.faultCause.toNat
  | 0x18 => s.win.irqStatus.toNat
  | 0x1C => s.win.irqEnable.toNat
  | 0x20 => s.evqStatus
  | 0x24 => s.devTime % 2 ^ 32
  | 0x28 => (s.win.timeHi p).toNat
  | 0x2C => s.ras.frame.toNat
  | 0x30 => s.portConfig
  | 0x34 => s.portErrors
  | 0x38 => s.win.scratch0.toNat
  | 0x3C => s.win.scratch1.toNat
  | 0x44 => s.box.mb0.status
  | 0x54 => s.box.mb1.status
  | 0x5C => s.mb1Session
  | 0x64 => s.box.mb2.status
  | 0x70 => s.mb3Status
  | 0x74 => s.win.wakeCause.toNat
  | 0x78 => s.domainState0
  | 0x7C => s.domainState1
  | 0x80 => s.tempMax
  | 0x84 => s.vinMeas
  | 0x88 => s.firstFault
  | 0x8C => s.log.lost
  | _ => 0

/-- A word read through a port: its value and the state after it (R109, R110, R118). An SVC address that is no multiple of 4 is not acknowledged. -/
def State.readWord (s : State) (p : Port) (a : Nat) : Nat × State :=
  if a % 4 ≠ 0 then (0, if p = .ctl then s.portRefused else s)
  else
    match target p a with
    | .reg o => (s.regValue p o, if o = 0x24 then s.timeLatch p else s)
    | .request i o => if s.domOn dCtrl then (le4 (s.mb i).req o, s) else (0xFFFFFFFF, s.portRefused)
    | .response i o => if s.domOn dCtrl then (le4 (s.mb i).resp o, s) else (0xFFFFFFFF, s.portRefused)
    | .nothing => (0, s.portRefused)

/-! ## Writes (R104, R109, R118, R120 to R124) -/

/-- FAULT_CAUSE bits whose cause has ended, so that a write of 1 clears them (R104). -/
def State.faultsEnded (s : State) : Nat :=
  b2n (!s.boot.limp) + 2 * b2n (s.boot.stage != .recovery) + 4 * b2n (!s.boot.thermalOff) + 8 +
  16 * b2n (!s.domFailed dCtrl) + 32 * b2n (!s.domFailed dMem) + 64 * b2n (!s.domFailed dPipe)

/-- A write of FAULT_CAUSE (R104, R107). -/
def State.faultWrite (s : State) (data : Word) : State :=
  { s with boot := { s.boot with faultCause := s.boot.faultCause &&& ~~~(data &&& Word.of s.faultsEnded) } }

/-- A write of IRQ_STATUS: EVQ clears only while the queue is empty (R120). -/
def State.irqWrite (s : State) (data : Word) : State :=
  let m := if s.evq.entries.isEmpty then data else data &&& ~~~(8 : Word)
  { s with win := { s.win with irqStatus := s.win.irqStatus &&& ~~~m } }

/-- A write of WAKE_CAUSE (R123). -/
def State.wakeWrite (s : State) (data : Word) : State := { s with win := { s.win with wakeCause := s.win.wakeCause &&& ~~~data } }

/-- A write of PORT_ERRORS clears all four counts (R118, R121). -/
def State.portErrorsWrite (s : State) : State :=
  { s with win := { s.win with ctlFraming := 0, svcFraming := 0, refused := 0, dbOverrun := 0 } }

/-- A write of a DOORBELL (R122, R124). MB3 has none. -/
def State.doorbell (s : State) (i : Mb) (data : Word) : State :=
  if !data.getLsbD 0 then s
  else
    match i with
    | .mb0 => s.ring .mb0 .ctl
    | .mb1 => s.ring .mb1 .ctl
    | .mb2 => s.ring .mb2 .svc
    | .mb3 => s

/-- A write of a RELEASE (R122, R124). MB3 has none. -/
def State.releaseWrite (s : State) (i : Mb) (data : Word) : State :=
  if !data.getLsbD 0 || i = .mb3 then s else s.release i

/-- A word written to a request buffer: only while CTRL is *on* and the mailbox IDLE (R110, R124). -/
def State.bufferWrite (s : State) (i : Mb) (o : Nat) (data : Word) : State :=
  if s.domOn dCtrl && (s.mb i).st == .idle then s.onMb i fun m => { m with req := overlay m.req o (toLe 4 data.toNat) } else s.portRefused

/-- A register of the window is written; a read-only one refuses (R118). RESET_KEY has its own meaning. -/
def State.regWrite (s : State) (o : Nat) (data : Word) : State :=
  let w := s.win
  match o with
  | 0x10 => s.faultWrite data
  | 0x18 => s.irqWrite data
  | 0x1C => { s with win := { w with irqEnable := data &&& 0x1FF } }
  | 0x30 => { s with win := { w with inbandEn := data.getLsbD 1, quadEn := data.getLsbD 0 } }
  | 0x34 => s.portErrorsWrite
  | 0x38 => { s with win := { w with scratch0 := data } }
  | 0x3C => { s with win := { w with scratch1 := data } }
  | 0x40 => s.doorbell .mb0 data
  | 0x48 => s.releaseWrite .mb0 data
  | 0x50 => s.doorbell .mb1 data
  | 0x58 => s.releaseWrite .mb1 data
  | 0x60 => s.doorbell .mb2 data
  | 0x68 => s.releaseWrite .mb2 data
  | 0x74 => s.wakeWrite data
  | _ => s.portRefused

/-- A word written through a port (R109, R118). -/
def State.writeWord (s : State) (p : Port) (a : Nat) (data : Word) : Out :=
  if a % 4 ≠ 0 then .next (if p = .ctl then s.portRefused else s)
  else
    match target p a with
    | .reg o => if o = 0x14 then execResetKeyWrite p data s else done (s.regWrite o data)
    | .request i o => done (s.bufferWrite i o data)
    | .response _ _ => .next s.portRefused
    | .nothing => .next s.portRefused

/-! ## The rows -/

/-- A CTL transaction whose opcode was unknown: the device ignores the rest of it (R112). -/
def State.portDead (s : State) (p : Port) : Bool := !s.boot.powered || (p == .ctl && s.win.ctlDead)

/-- CTL_IO is driven from the turnaround of a read to the end of its transaction (R47). -/
def State.ctlDriven (s : State) (p : Port) : State :=
  if p = .ctl && s.win.csLow then { s with win := { s.win with ctlDrive := true } } else s

/-- CTL_READ_STATUS: PORT_STATUS is shifted out, and nothing changes but that CTL_IO is driven (R47, R111). -/
def execCtlReadStatus (s : State) : Out := if s.portDead .ctl then .next s else .next (s.ctlDriven .ctl)

/-- An unknown opcode: counted, and the rest of the transaction is ignored (R112). -/
def State.badOpcode (s : State) : State :=
  let s1 := s.portError 3
  { s1 with win := { s1.win with ctlDead := s.win.csLow } }

/-- REG_WRITE: one word of a WRITE or READ transaction of the CTL port or an SVC transfer, or an unknown CTL opcode (R109, R111, R112, R114, R118). -/
def execRegWrite (port : Port) (access : RegAccess) (s : State) : Out :=
  if s.portDead port then .next s
  else
    match access with
    | .write a d => s.writeWord port a.toNat d
    | .read a => .next ((s.readWord port a.toNat).2.ctlDriven port)
    | .badOpcode => .next (if port = .ctl then s.badOpcode else s)

/-- TIME_LO_READ (R118). -/
def execTimeLoRead (port : Port) (s : State) : Out := if s.portDead port then .next s else .next ((s.timeLatch port).ctlDriven port)

/-- IRQ_STATUS_CLEAR: a write of IRQ_STATUS (R120). -/
def execIrqStatusClear (port : Port) (data : Word) (s : State) : Out := if s.portDead port then .next s else done (s.irqWrite data)

/-- FAULT_CAUSE_CLEAR: a write of FAULT_CAUSE (R104). -/
def execFaultCauseClear (port : Port) (data : Word) (s : State) : Out := if s.portDead port then .next s else done (s.faultWrite data)

/-- WAKE_CAUSE_CLEAR: a write of WAKE_CAUSE (R123). -/
def execWakeCauseClear (port : Port) (data : Word) (s : State) : Out := if s.portDead port then .next s else done (s.wakeWrite data)

/-- PORT_ERRORS_CLEAR: any write of PORT_ERRORS (R118). -/
def execPortErrorsClear (port : Port) (_data : Word) (s : State) : Out := if s.portDead port then .next s else done s.portErrorsWrite

/-- The port that reaches a mailbox's registers (R118). -/
def mbPort : Mb → Port
  | .mb2 => .svc
  | _ => .ctl

/-- MB_DOORBELL (R124). -/
def execMbDoorbell (mb : Mb) (data : Word) (s : State) : Out := if s.portDead (mbPort mb) then .next s else done (s.doorbell mb data)

/-- MB_RELEASE (R124). -/
def execMbRelease (mb : Mb) (data : Word) (s : State) : Out := if s.portDead (mbPort mb) then .next s else done (s.releaseWrite mb data)

/-- CTL_CS_N_RISE: a transaction ends; bits of a word not completed are discarded and counted, but not those of an ignored tail (R112). -/
def execCtlCsNRise (leftover : BitVec 5) (s : State) : Out :=
  if !s.boot.powered || !s.win.csLow then .next s
  else
    let s1 : State := { s with win := { s.win with csLow := false, ctlDead := false, ctlDrive := false } }
    .next (if leftover = 0 || s.win.ctlDead then s1 else s1.portError 3)

/-- SVC_STOP: a transfer ends; bytes of a word not completed are discarded and counted, SVC_SDA is released, and SEC.SVC_ADDR_LOCK takes effect (R45, R47, R114). -/
def execSvcStop (leftover : BitVec 2) (s : State) : Out :=
  if !s.boot.powered then .next s
  else
    let lock := s.param 0x2005
    let s1 : State := { s with win := { s.win with sdaHeld := false, svcAddr := if lock = 0 then 0x58 + s.boot.straps.svcAddr.toNat else lock } }
    .next (if leftover = 0 then s1 else s1.portError 2)

end Sys2Proof.Machine
end

