-- ==== Sys2Proof/Machine/Readouts.lean ====
section
/-! DEFINITION. The class K readouts of the parameter tables, and what PARAM_GET reads of any parameter (R20, R139, R143, R209, R234, R237, R292, R323, R324, R355, R374, R407 to R409, R441, R448, R459, R474, R505, R523, R536). A readout answers a value and the state after it, since some latch and some take a free value. -/

namespace Sys2Proof.Machine

/-- A readout whose value the spec does not state takes a free value (assumption 3). -/
def State.readFree (s : State) : Nat × State := (s.takeFree.1.toNat, s.takeFree.2)

/-- A register the device has no value for yet holds one the spec does not state: free, and the same at every read (assumption 74). -/
def State.readOpt (s : State) (id : Nat) (v : Option Nat) : Nat × State := (v.getD (Config.unsetReadout id).toNat, s)

/-! ## Clocks, power, thermal -/

/-- CLK (R20). -/
def State.readClk (s : State) (k : Nat) : Nat × State :=
  let h := s.hl
  match k with
  | 0 => (b2n s.boot.rootLocked, s)
  | 1 => (b2n s.boot.limp, s)
  | 2 => (unsigned 32 s.boot.resonatorPpm10, s)
  | 3 => (if s.scaled then 16 else 8, s)
  | 4 => (if 2 ≤ s.thm.step then 32 else 16, s)
  | 5 => (if h.a.clockPresent then h.rateA else 0, s)
  | 6 => (if h.b.clockPresent then h.rateB else 0, s)
  | 7 => (h.fifoA, s)
  | 8 => (h.fifoB, s)
  | _ => (s.bob.rate, s)

/-- A residency readout: LO latches HI for the same mailbox (R521). -/
def State.readResidency (s : State) (mb k : Nat) : Nat × State :=
  let d := s.pwr.dom.toList.getD (k / 6) Domain.initial
  let w := k % 6 / 2
  let v := match w with | 0 => d.resOn | 1 => d.resRet | _ => d.resOff
  let key := 64 * mb + 3 * (k / 6) + w
  if k % 2 = 0 then (v % 2 ^ 32, { s with pwr := { s.pwr with resHi := aset s.pwr.resHi key (v / 2 ^ 32 % 2 ^ 16) } })
  else (aget s.pwr.resHi key 0, s)

/-- PWR (R523). -/
def State.readPwr (s : State) (mb k : Nat) : Nat × State :=
  let on := s.votesNow
  match k with
  | 0x0A => (on &&& 0x7FFFF, s)
  | 0x0B => (s.votesRet &&& (0x7FFFF ^^^ (on &&& 0x7FFFF)) &&& 0x7FFFF, s)
  | 0x0C => (maskOf 19 fun d => (s.pwr.dom.toList.getD d Domain.initial).phase == .queued, s)
  | _ => s.readResidency mb (k - 0x40)

/-- THM (R536). -/
def State.readThm (s : State) (k : Nat) : Nat × State :=
  let t := s.thm
  match k with
  | 0x10 => (t.step, s)
  | 0x11 => (unsigned 32 t.tc, s)
  | 0x12 => (maskOf 12 fun i => t.suspect.toList.getD i false, s)
  | 0x1F => (unsigned 32 t.mem0, s)
  | 0x20 => (unsigned 32 t.mem1, s)
  | 0x21 => (unsigned 32 t.rise, s)
  | _ => (unsigned 32 (t.die.toList.getD (k - 0x13) 0), s)

/-! ## Log, Sampler, compression, security -/

/-- SMP.STATE (R505): saving from a power failure or an orderly shutdown until its save is done. -/
def State.smpState (s : State) : Nat :=
  match s.nv.st with
  | .notScanned => 0
  | .saving => 3
  | .ready => if s.vin.pfw && !s.vin.saved then 3 else 1

/-- SMP (R505). -/
def State.readSmp (s : State) (k : Nat) : Nat × State :=
  let n := s.nv
  match k with
  | 0x10 => (s.smpState, s)
  | 0x11 => (s.liveBytes, s)
  | 0x12 => ((s.erasedSectors false).length, s)
  | 0x13 => ((s.erasedSectors true).length, s)
  | 0x14 => (s.panelOnS, s)
  | 0x15 => (n.bootCount, s)
  | 0x16 => (n.pfwCount, s)
  | 0x17 => (n.lastSave, s)
  | 0x18 => (n.storeGen, s)
  | 0x19 => (n.nandBad.length, s)
  | _ => (s.sparesFree.length, s)

/-- The user whose container the engine processes, by the priority of R468. -/
def State.cmpUser (s : State) : Nat :=
  if s.lanesTaken then 1
  else if s.mem.residence == .compressing then 3
  else if s.prk.snap == .compressing || !s.nv.stores.isEmpty then 4
  else if s.cmp.jobs.isEmpty then 0 else 6

/-- CMP (R474). -/
def State.readCmp (s : State) (k : Nat) : Nat × State :=
  let c := s.cmp
  match k with
  | 0x10 => (if s.cmpUser = 0 then 0 else if s.domOn dCodec then 1 else 2, s)
  | 0x11 => (s.cmpUser, s)
  | 0x12 => (c.lastJob.toNat, s)
  | 0x13 => (c.lastStatus, s)
  | 0x14 => (c.lastIn, s)
  | 0x15 => (c.lastOut, s)
  | 0x16 => (c.lastBlocks, s)
  | 0x17 => (c.lastStored, s)
  | 0x18 => (c.lastFail, s)
  | _ => (c.lastTime, s)

/-! ## Host link and raster -/

/-- Whether link lane `n` carries data; values of unused lanes read 0 (R171, R209). -/
def State.laneUsed (s : State) (n : Nat) : Bool := n % 8 < s.groupLanes

/-- HL (R209). -/
def State.readHl (s : State) (k : Nat) : Nat × State :=
  let h := s.hl
  let lane (n v : Nat) : Nat := if s.laneUsed n then v else 0
  match k / 16 with
  | 1 =>
    match k with
    | 0x10 => (256 * h.b.st.code + h.a.st.code, s)
    | 0x11 => (h.lastSrc.toNat, s)
    | 0x12 => (h.attemptsTotal.toNat, s)
    | _ => (unsigned 32 h.skew, s)
  | 4 => (lane (k - 0x40) (h.eye.toList.getD (k - 0x40) (0, 0)).1, s)
  | 5 => (lane (k - 0x50) (h.eye.toList.getD (k - 0x50) (0, 0)).2, s)
  | 6 => (lane (k - 0x60) (h.phaseSel.toList.getD (k - 0x60) 0), s)
  | 7 => (lane (k - 0x70) (h.deskew.toList.getD (k - 0x70) 0), s)
  | 8 => (lane (k - 0x80) (h.laneErr.toList.getD (k - 0x80) 0), s)
  | _ => if s.laneUsed ((k - 0x100) / 8) then s.readOpt (0x2400 + k) (aget? h.scan (k - 0x100)) else (0, s)

/-- The interval from the previous frame start to the latest one, once two have happened (R237). -/
def State.lastInterval (s : State) : Option Nat := if 1 < s.ras.framesOn then some (s.ras.start - s.ras.prevStart) else none

/-- TIM (R237). -/
def State.readTim (s : State) (k : Nat) : Nat × State :=
  let r := s.ras
  match k with
  | 0x20 => (r.active.code, s)
  | 0x21 => s.readOpt (0x2800 + k) (s.lastInterval.map fun p => if p = 0 then 480000 else min 480000 (1200000000000 / p))
  | 0x22 => s.readOpt (0x2800 + k) (s.lastInterval.map (sat 0xFFFFFFFF))
  | 0x23 => (match r.transition with
      | none => 0
      | some t => if t.phase == .waiting then 1 else 2, s)
  | 0x24 => (r.ladderStep, s)
  | 0x25 => (unsigned 32 r.latticePhase, s)
  | _ => (unsigned 32 r.pairSkew, s)

/-! ## Memory and pipeline -/

/-- A hoop frame's descriptor as MEM.HOOPn_STATE packs it (R272). -/
def HoopFrame.word (h : HoopFrame) : Nat :=
  (match h.role with | .free => 0 | .filling => 1 | .marked => 2) * 2 ^ 30 + h.format % 4 * 2 ^ 28 + b2n h.scanning * 2 ^ 27 +
    b2n h.resident * 2 ^ 26 + h.rows % 2 ^ 13 * 2 ^ 13

/-- MEM (R292). -/
def State.readMem (s : State) (k : Nat) : Nat × State :=
  let m := s.mem
  match k with
  | 0x10 => (match (s.pwr.dom[dMem]).st with
      | .on => (match m.sleep with | .active => 0 | .powerDown => 1 | .selfRefresh => 2)
      | .retention => 3
      | _ => 4, s)
  | 0x11 => s.readOpt 0x2C11 s.tolMin
  | 0x1A => (m.h0.word, s)
  | 0x1B => (m.h1.word, s)
  | 0x1C => (m.h0.src.toNat, s)
  | 0x1D => (m.h1.src.toNat, s)
  | 0x1E => (match m.residence with | .none => 0 | .compressing => 1 | .ready => 1 | .resident => 2 | .refused => 3, s)
  | 0x1F => (m.resBytes, s)
  | 0x20 => (m.degraded.length, s)
  | 0x21 => (m.consecAborts, s)
  | 0x22 => (m.cleanFrames, s)
  | _ => s.readOpt (0x2C00 + k) (s.clientTol (memClients.getD (k - 0x12) .hoopScan))

/-- APQ (R374). -/
def State.readApq (s : State) (k : Nat) : Nat × State :=
  match k with
  | 0x60 => (if s.apq.clip.isSome then 1 else if s.clipWanted && !s.clipFits then 2 else 0, s)
  | 0x61 => s.readOpt 0x3061 (s.apq.clip.map (·.step))
  | 0x6A => (maskOf 4 fun n => s.apq.cached.toList.getD n false, s)
  | _ => (maskOf 32 fun b => s.tableValid (0x700 + 32 * (k - 0x62) + b), s)

/-- PRK.STRESS_STATE (R328, R342, R343, R346, R350, R355). -/
def State.stressState (s : State) : Nat :=
  if s.param 0x4800 ≠ 1 || s.param 0x3410 = 0 || !s.tableValid 0x500 then 0
  else
    match s.prk.stress with
    | .off => 0
    | .restarted => if s.prk.snap == .copying || s.memLost then 2 else 3
    | .paused => 2
    | .running => if s.prk.snap == .copying || s.memLost then 2 else 1

/-- PRK (R355). -/
def State.readPrk (s : State) (k : Nat) : Nat × State :=
  match k with
  | 0x20 => (256 * s.prk.storePending.toNat + maskOf 6 fun i => s.tableValid (0x400 + i), s)
  | 0x21 => (s.sweepRow s.prk.sweepK, s)
  | 0x22 => (s.prk.sweepCount.toNat, s)
  | 0x23 => (s.nv.snapGen, s)
  | 0x24 => (s.panelOnS - s.nv.snapPanelOn, s)
  | _ => (s.stressState, s)

/-- OD and DTH (R323, R324). -/
def State.readOd (s : State) (id : Nat) : Nat × State :=
  let p := s.pipe
  match id with
  | 0x3800 => (s.fn.overdrive.profile, s)
  | 0x3810 => (b2n p.settled, s)
  | 0x3811 => (maskOf 24 fun z => p.snap.taken && z < p.snap.cols * p.snap.rows && (p.zones.toList[z]?).any fun v => !v.missing, s)
  | 0x3812 => (p.sramSet.getD (s.param 0x3802), s)
  | 0x3C10 => (p.phase.toNat, s)
  | 0x3C11 => (p.phaseUsed.toNat, s)
  | _ => (b2n p.suspended, s)

/-! ## Panel side -/

/-- Logical level of a selvedge function now: BL_PWM follows its duty; the spec does not say which part of a period is high, so a duty between the ends gives a free level (R397; assumption 3). -/
def State.selLevel (s : State) (f : Nat) (pwm : Bool) : Bool :=
  if f = 0 then false
  else if f = 0x16 then
    let d := s.param 0x4422
    if d = 0 then false else if 1000 ≤ d then true else pwm
  else s.sel.level.getLsbD f

/-- SEL.OUT_STATE: the ball level of each output; 0 while high-impedance (R47, R397, R408). -/
def State.outState (s : State) : Nat × State :=
  let s1 := s.selAdvance
  let (v, s2) := s1.takeFree
  let high (i : Nat) : Bool := s.domOn (if i < 16 then dBobl else dBobr) && s.boot.profileOk
  let out (i : Nat) : Bool :=
    let p := s.param (0x4401 + i)
    high i && p % 256 != 0 && ((s1.selLevel (p % 256) (v.getLsbD i)) != bit p 8)
  (maskOf 32 out, s2)

/-- EYE readouts outside the rectangle records (R448). -/
def State.readEye (s : State) (id : Nat) : Nat × State :=
  match id with
  | 0x4C80 => (maskOf 16 fun n => (s.eyes.get n).result == 2, s)
  | 0x4C81 => (b2n (s.eyes.holding || s.eyes.holdDue), s)
  | _ => ((s.eyes.get (id % 128 / 8)).lastCrc.toNat, s)

/-! ## Tatting net -/

/-- The code of TAT.LOCK_STATE (R441). -/
def TatLock.code : TatLock → Nat
  | .none => 0 | .locked => 1 | .holdover => 2 | .islanded => 3 | .root => 4 | .follower => 5

/-- A port's field of TAT.PORT_STATE (R411). -/
def State.portCode (s : State) (p : TatPort) : Nat :=
  if !s.portOn p then 0
  else match (s.tat.port p).st with | .down => 1 | .measuring => 2 | .up => 3

/-- A DN port's ID range as TAT.RANGE_DNn packs it; 0 if empty (R414). -/
def TatPortState.range (v : TatPortState) : Nat := if v.last < v.first then 0 else v.first * 2 ^ 16 + v.last

/-- TAT (R441). -/
def State.readTat (s : State) (k : Nat) : Nat × State :=
  let t := s.tat
  match k with
  | 0x10 => (t.id, s)
  | 0x11 => (t.depth, s)
  | 0x12 => (t.dn0.range, s)
  | 0x13 => (t.dn1.range, s)
  | 0x14 => (t.netSize, s)
  | 0x15 => (t.netDepth, s)
  | 0x16 => (256 * s.portCode .dn1 + 16 * s.portCode .dn0 + s.portCode .up, s)
  | 0x17 => (t.hopDelay * 125 / 2, s)
  | 0x18 =>
    let (n, d) := t.rho
    (unsigned 32 (clampInt (-100000) 100000 ((1000000000 * ((n : Int) - d)) / d)), s)
  | 0x19 => (t.lock.code, s)
  | 0x1A => (sat 255 t.missed, s)
  | 0x1B => (t.staged.elim 0 (·.e), s)
  | 0x1C => (t.applied.elim 0 (·.e), s)
  | 0x1D => (t.armE, s)
  | _ => (t.armF, s)

/-! ## Any parameter -/

/-- The counters that a group's unpublished parameters mirror: of THM, LOG, SMP, CMP, APQ, PRK, OD and TAT (R323, R355, R374, R439, R441, R452, R459, R474, R505, R536). -/
def mirroredCounters (g : Nat) : List Nat :=
  let run (a b : Nat) : List Nat := (List.range (b + 1 - a)).map (a + ·)
  match g with
  | 4 => run 256 261
  | 5 => run 192 231 ++ run 256 261 ++ run 320 324 ++ run 384 388 ++ run 448 452 ++ run 512 515 ++ run 576 592 ++ run 640 649 ++ run 704 719 ++
      run 768 776 ++ run 832 839 ++ run 896 901 ++ [960] ++ run 1024 1028 ++ run 1216 1233 ++ run 1280 1290
  | 6 => run 384 388
  | 7 => run 448 452
  | 12 => run 768 776
  | 13 => run 832 839
  | 14 => run 896 901
  | 20 => run 1280 1290
  | _ => []

/-- IDENT's response (R132). -/
def State.identBytes (s : State) : List Byte :=
  toLe 2 0x9484 ++ [0xB0, if Config.gradeE then 0x45 else 0x43] ++ toLe 4 s.boot.fwVersion.toNat ++
    [Byte.of (b2n s.boot.slot), s.boot.secVersion] ++ zeros 2 ++ toLe 4 s.boot.profileId.toNat ++ toLe 2 s.tat.id ++ zeros 2 ++
    toLe 8 Config.serial.toNat

/-- The values that a group's unpublished parameters mirror, where its chapter names them: SYS has the fields of IDENT, BOOT_STATUS and RESET_CAUSE, SEC those of SEC_STATUS, and the groups of counters have these as STATS_READ shows them (R95, R139, R234). -/
def State.mirrored (s : State) (g : Nat) : List Nat :=
  match g with
  | 1 => ([(0, 2), (2, 1), (3, 1), (4, 4), (8, 1), (9, 1), (12, 4), (16, 2), (20, 4), (24, 4)].map fun e => leAt s.identBytes e.1 e.2) ++
      [s.bootStatus, s.boot.resetCause.toNat]
  | 8 => [Config.serial.toNat % 2 ^ 32, Config.serial.toNat / 2 ^ 32, s.param 0x2010, s.fuseSteps, s.sessionState, s.sessionId, s.sec.tagFails,
      s.param 0x2001, s.param 0x2002]
  | _ => (mirroredCounters g).map fun k => aget s.stat.copy k 0

/-- A class K parameter. An unpublished one mirrors one of the values that its group's chapter names; where the chapter names none, it is free (R139). -/
def State.readK (s : State) (mb id : Nat) : Nat × State :=
  let k := id % 1024
  if (pRow? id).isNone then
    match s.mirrored (id / 1024) with
    | [] => s.readFree
    | v :: vs => ((v :: vs).getD (Config.mirrorOf id % (vs.length + 1)) 0, s)
  else
    match id / 1024 with
    | 2 => s.readClk k
    | 3 => s.readPwr mb k
    | 4 => s.readThm k
    | 5 => (if k = 0x10 then s.log.next.toNat else s.stat.period.toNat, s)
    | 6 => s.readSmp k
    | 7 => s.readCmp k
    | 8 => (if k = 0x11 then s.fuseSteps else s.sec.tagFails, s)
    | 9 => s.readHl k
    | 10 => s.readTim k
    | 11 => s.readMem k
    | 12 => s.readApq k
    | 13 => s.readPrk k
    | 14 => s.readOd id
    | 15 => s.readOd id
    | 16 => (match k with | 0xD0 => s.bob.lockState | 0xD1 => s.bob.driversOk.toNat | _ => s.bob.trainTime, s)
    | 17 => s.outState
    | 18 => (s.pnl.st.code, s)
    | 19 => s.readEye id
    | _ => s.readTat k

/-- The active value of a defined parameter as PARAM_GET reports it (R143, R209, R448). -/
def State.readActive (s : State) (mb id : Nat) : Nat × State :=
  if pClass? id = some .k then s.readK mb id
  else if 0x4C00 ≤ id && id < 0x4C80 then (eyeField (s.eyes.get (id % 128 / 8)).record (id % 8), s)
  else if 0x2420 ≤ id && id < 0x2440 && !s.laneUsed (id % 16) then (0, s)
  else (s.param id, s)

/-- PARAM_GET's value: SHADOW 1 reads the shadow of a class F or S parameter if one is staged, and a committed one stays staged until it applies (R143, R153, R160). -/
def State.readParam (s : State) (mb id shadow : Nat) : Nat × State :=
  let staged := if shadow = 1 && (pClass? id == some .f || pClass? id == some PClass.s) then (aget? s.par.staged id).or (s.waitVal? id) else none
  match staged with
  | some v => (v.toNat, s)
  | none => s.readActive mb id

end Sys2Proof.Machine
end

