-- ==== Sys2Proof/Machine/Commands.lean ====
section
/-! DEFINITION. Identity, parameter and commit commands, profiles, and the Tatting transmitters' part of an idle tick (R132, R138, R143, R150 to R160, R265, R315, R352, R412). -/

namespace Sys2Proof.Machine

/-! ## IDENT and PARAM_GET -/

/-- IDENT (R132). -/
def execIdent (mb : Mb) (s : State) : Out := s.serve mb (.bare 0x0001) fun _ t => .reply stOk t.identBytes t

/-- CLASS of a defined parameter (R132). -/
def classByte (id : Nat) : Byte := Byte.of ((pClass? id).elim 0 PClass.code)

/-- PARAM_GET: the SHADOW is checked before the ID (R132, R143). -/
def runParamGet (mb : Mb) (p : List Byte) (s : State) : Reply :=
  let id := le2 p 0
  if 1 < le2 p 2 then .refuse stOutOfRange s
  else if (pClass? id).isNone then .refuse stBadParamId s
  else
    let (v, s1) := s.readParam mb.num id (le2 p 2)
    .reply stOk (toLe 2 id ++ [classByte id, 0] ++ toLe 4 v) s1

/-- PARAM_GET (R132). -/
def execParamGet (mb : Mb) (s : State) : Out := s.serve mb (.fixed 0x0010 4 fun _ => true) (runParamGet mb)

/-- PARAM_GET_MULTI's layout: COUNT (2) 1 to 80, SHADOW (2), COUNT IDs (R132). -/
def cmdParamGetMulti : Cmd :=
  { code := 0x0012, lenOk := fun p => 1 ≤ le2 p 0 && le2 p 0 ≤ 80 && p.length == 4 + 2 * le2 p 0, zeroOk := fun _ => true }

/-- The IDs of a request are read in order, each from the state the ones before left (R132). -/
def State.readAll (s : State) (mb shadow : Nat) : List Nat → List Byte × State
  | [] => ([], s)
  | id :: rest =>
    let (v, s1) := s.readParam mb id shadow
    let (bs, s2) := State.readAll s1 mb shadow rest
    (toLe 2 id ++ toLe 4 v ++ bs, s2)

/-- PARAM_GET_MULTI (R132). -/
def runParamGetMulti (mb : Mb) (p : List Byte) (s : State) : Reply :=
  let ids := (List.range (le2 p 0)).map fun i => le2 p (4 + 2 * i)
  if 1 < le2 p 2 then .refuse stOutOfRange s
  else if ids.any fun id => (pClass? id).isNone then .refuse stBadParamId s
  else
    let (bs, s1) := s.readAll mb.num (le2 p 2) ids
    .reply stOk (toLe 2 ids.length ++ zeros 2 ++ bs) s1

/-- PARAM_GET_MULTI (R132). -/
def execParamGetMulti (mb : Mb) (s : State) : Out := s.serve mb cmdParamGetMulti (runParamGetMulti mb)

/-! ## PARAM_SET -/

/-- PARAM_SET's layout: ID (2), reserved (2), VALUE (4) (R132). -/
def cmdParamSet : Cmd := .fixed 0x0011 8 fun p => zeroAt p 2 2

/-- PARAM_SET (R132, R143). -/
def runParamSet (mb : Mb) (p : List Byte) (s : State) : Reply :=
  let id := le2 p 0
  let v := le4 p 4
  let st := s.setStatus id v
  if st = stOk then .reply stOk [] (s.writeParam id v mb.num) else .refuse st s

/-- PARAM_SET (R143). -/
def execParamSet (mb : Mb) (s : State) : Out := s.serve mb cmdParamSet (runParamSet mb)

/-- The table's rows for a PARAM_SET of one parameter: the request next in order writes it, else nothing happens. -/
def State.serveSetOf (s : State) (mb : Mb) (id : Nat) : Out :=
  if le2 (reqPayload (s.mb mb).req) 0 = id then s.serve mb cmdParamSet (runParamSet mb) else .next s

/-- LOG_CLEAR: a write of LOG.CLEAR (R455). -/
def execLogClear (mb : Mb) (s : State) : Out := s.serveSetOf mb 0x1405

/-- LOG_FIRST_FAULT_CLEAR: a write of LOG.FIRST_FAULT_CLEAR (R456). -/
def execLogFirstFaultClear (mb : Mb) (s : State) : Out := s.serveSetOf mb 0x1404

/-- PWR_RES_CLEAR: a write of PWR.RES_CLEAR (R521). -/
def execPwrResClear (mb : Mb) (s : State) : Out := s.serveSetOf mb 0x0C07

/-- PARAM_SET_MULTI's layout: COUNT (2) 1 to 80, reserved (2), COUNT of ID (2) and VALUE (4) (R132). -/
def cmdParamSetMulti : Cmd :=
  { code := 0x0013, lenOk := fun p => 1 ≤ le2 p 0 && le2 p 0 ≤ 80 && p.length == 4 + 6 * le2 p 0, zeroOk := fun p => zeroAt p 2 2 }

/-- The throttle thresholds among entries written before, as the check of a later entry sees them (R529). -/
def State.withEnters (s : State) (vs : List (Nat × Nat)) : State :=
  vs.foldl (fun t v => if 0x1001 ≤ v.1 ∧ v.1 ≤ 0x1004 then t.setParam v.1 v.2 else t) s

/-- The first failing entry and its status (R132). -/
def State.firstBad (s : State) (vs : List (Nat × Nat)) : Option (Nat × Nat) :=
  ((List.range vs.length).map fun i =>
    let v := vs.getD i (0, 0)
    (i, (s.withEnters (vs.take i)).setStatus v.1 v.2)).find? fun r => r.2 != stOk

/-- Entries that have passed are written in order. -/
def State.writeAll (s : State) (vs : List (Nat × Nat)) (source : Nat) : State :=
  vs.foldl (fun t v => t.writeParam v.1 v.2 source) s

/-- PARAM_SET_MULTI (R132): INDEX names the first failing entry; with OK the spec does not state it, and it is a free value (assumption 3). -/
def runParamSetMulti (mb : Mb) (p : List Byte) (s : State) : Reply :=
  let vs := (List.range (le2 p 0)).map fun i => (le2 p (4 + 6 * i), le4 p (6 + 6 * i))
  match s.firstBad vs with
  | some (i, st) => .reply st (toLe 2 i ++ zeros 2) s
  | none =>
    let (v, s1) := (s.writeAll vs mb.num).takeFree
    .reply stOk (toLe 2 v.toNat ++ zeros 2) s1

/-- PARAM_SET_MULTI (R132). -/
def execParamSetMulti (mb : Mb) (s : State) : Out := s.serve mb cmdParamSetMulti (runParamSetMulti mb)

/-! ## COMMIT, COMMIT_STATUS, DISCARD -/

/-- A commit's response: TARGET_FRAME with OK and DEFERRED, SET_ID with MISMATCH; any other status has no payload (R126, R132). -/
def CommitResult.reply (r : CommitResult) (refused : State) : Reply :=
  if r.status = stOk || r.status = stDeferred then .reply r.status (commitResp r.target 0) r.state
  else if r.status = stMismatch then .reply stMismatch (commitResp 0 r.set) refused
  else .refuse r.status refused

/-- COMMIT (R152). -/
def execCommit (mb : Mb) (s : State) : Out := s.serve mb (.bare 0x0020) fun _ t => t.commit.reply t

/-- STATE of COMMIT_STATUS (R160). -/
def State.commitState (s : State) : Nat :=
  if !s.par.waiting.isEmpty then 2 else if s.par.applied then 3 else if s.par.staged.isEmpty then 0 else 1

/-- COMMIT_STATUS's response (R132, R160). -/
def State.commitStatusBytes (s : State) : List Byte :=
  toLe 4 s.par.lastTarget.toNat ++ [Byte.of s.commitState, 0] ++ toLe 2 s.par.staged.length

/-- COMMIT_STATUS (R160). -/
def execCommitStatus (mb : Mb) (s : State) : Out := s.serve mb (.bare 0x0021) fun _ t => .reply stOk t.commitStatusBytes t

/-- DISCARD empties every shadow unless a commit waits (R154, R159). -/
def runDiscard (_ : List Byte) (s : State) : Reply :=
  if !s.par.waiting.isEmpty then .refuse stBusy s
  else .reply stOk (toLe 2 s.par.staged.length ++ zeros 2) { s with par := { s.par with staged := [] } }

/-- DISCARD (R159). -/
def execDiscard (mb : Mb) (s : State) : Out := s.serve mb (.bare 0x0022) runDiscard

/-! ## PROFILE_APPLY -/

/-- The values a profile of the catalogue writes (R138, R265, R315, R352). -/
def catalogueValues : Func → Nat → Option (List (Nat × Nat))
  | .overdrive, 0x00 => some [(0x3801, 0)]
  | .overdrive, 0x01 => some [(0x3801, 1), (0x3802, 0), (0x3803, 256)]
  | .overdrive, 0x02 => some [(0x3801, 1), (0x3802, 1), (0x3803, 256)]
  | .overdrive, 0x03 => some [(0x3801, 1), (0x3802, 1), (0x3803, 320), (0x3804, 0x3FFF0000)]
  | .dither, 0x00 => some [(0x3C00, 0), (0x3C01, 0), (0x3C02, 1)]
  | .dither, 0x01 => some [(0x3C00, 1), (0x3C02, 1)]
  | .sensing, 0x00 => some [(0x3408, 0)]
  | .sensing, 0x01 => some [(0x3408, 2)]
  | .sensing, 0x02 => some [(0x3408, 4)]
  | .raster, 0x10 => some [(0x2809, 1), (0x280C, 0), (0x280B, 0), (0x280A, 250)]
  | .raster, 0x11 => some [(0x2809, 0), (0x280C, 0), (0x280B, 0), (0x280A, 250)]
  | _, _ => none

/-- PROFILE_APPLY: the profile's values are staged as PARAM_SET_MULTI stages them, and everything staged is committed (R138). FUNC_STATE names the profile from its acceptance. -/
def runProfileApply (mb : Mb) (p : List Byte) (s : State) : Reply :=
  match funcOf? (byteAt p 0).toNat with
  | none => .refuse stOutOfRange s
  | some f =>
    match catalogueValues f (byteAt p 1).toNat with
    | none => .refuse stOutOfRange s
    | some vs =>
      if f = Func.sensing && s.param 0x4800 = 0 then .refuse stOutOfRange s
      else
        let t := s.writeAll vs mb.num
        let r := t.commit
        let took (u : State) : State := u.onFunc f fun x => { x with profile := (byteAt p 1).toNat }
        ({ r with state := took r.state } : CommitResult).reply s

/-- PROFILE_APPLY (R138). -/
def execProfileApply (mb : Mb) (s : State) : Out := s.serve mb (.fixed 0x0060 4 fun p => zeroAt p 2 2) (runProfileApply mb)

/-! ## The idle tick -/

/-- The characters of a Tatting message; the pair strobe is K28.0 alone (R410). -/
def TatMsg.chars (m : TatMsg) : List Char8 := if m.kind = 0x100 then [.k28_0] else frameChars m.kind m.payload

/-- A port whose latest message has left sends the one at the front of its queue (R410, R412). -/
def TatPortState.send (p : TatPortState) (now : Nat) : TatPortState :=
  match p.tx with
  | [] => p
  | m :: rest =>
    if now < p.txAt then p
    else
      let (wire, minus, ends) := transmit m.chars now p.txAt p.minus
      { p with tx := rest, wire := wire, minus := minus, txAt := ends }

/-- The messages at the front of the Tatting transmit queues leave, one a port (R412). -/
def State.tatDrain (s : State) : State :=
  let t := s.tat
  { s with tat := { t with up := t.up.send s.now, dn0 := t.dn0.send s.now, dn1 := t.dn1.send s.now } }

/-- One tick of CK_AON without a command: 1000 raster-reference ticks pass, and each Tatting port sends a message (R20; assumption 1). -/
def State.idleTick (s : State) : State := (s.elapse (s.now + 1000)).tatDrain

end Sys2Proof.Machine
end

