-- ==== Sys2Proof/Machine/Dispatch.lean ====
section
/-! DEFINITION. One arm per command: the call of its meaning. -/

namespace Sys2Proof.Machine

def exec (i : Instr) (s : State) : Host.Outcome State Fault Refusal :=
  match i with
  | .aonPowerUp vinMv => Sys2Proof.Machine.execAonPowerUp vinMv s
  | .strapSample straps => Sys2Proof.Machine.execStrapSample straps s
  | .resonatorCheck oscillates milliPercent => Sys2Proof.Machine.execResonatorCheck oscillates milliPercent s
  | .vinBootMeasure vinMv => Sys2Proof.Machine.execVinBootMeasure vinMv s
  | .rootPllLock => Sys2Proof.Machine.execRootPllLock s
  | .bootRomCheckDone readError => Sys2Proof.Machine.execBootRomCheckDone readError s
  | .bootWatchdogExpiry => Sys2Proof.Machine.execBootWatchdogExpiry s
  | .firmwareWatchdogExpiry => Sys2Proof.Machine.execFirmwareWatchdogExpiry s
  | .samplerScanDone => Sys2Proof.Machine.execSamplerScanDone s
  | .memReady => Sys2Proof.Machine.execMemReady s
  | .persistedTableLoadDone table => Sys2Proof.Machine.execPersistedTableLoadDone table s
  | .mapLoadDone => Sys2Proof.Machine.execMapLoadDone s
  | .mapWaitLimitExpiry => Sys2Proof.Machine.execMapWaitLimitExpiry s
  | .rasterStart tick => Sys2Proof.Machine.execRasterStart tick s
  | .stressSnapshotLoadDone => Sys2Proof.Machine.execStressSnapshotLoadDone s
  | .clipLoadDone inst => Sys2Proof.Machine.execClipLoadDone inst s
  | .resetNAssert => Sys2Proof.Machine.execResetNAssert s
  | .resetNRelease straps => Sys2Proof.Machine.execResetNRelease straps s
  | .lockstepReset => Sys2Proof.Machine.execLockstepReset s
  | .pllLossOfLock => Sys2Proof.Machine.execPllLossOfLock s
  | .undervoltageLockout => Sys2Proof.Machine.execUndervoltageLockout s
  | .hardwareSafeStopEnd => Sys2Proof.Machine.execHardwareSafeStopEnd s
  | .jtagTrst => Sys2Proof.Machine.execJtagTrst s
  | .thermalSample die mem0 mem1 => Sys2Proof.Machine.execThermalSample die mem0 mem1 s
  | .thmReleaseExpiry => Sys2Proof.Machine.execThmReleaseExpiry s
  | .riseTriggerRearm => Sys2Proof.Machine.execRiseTriggerRearm s
  | .thermalRequestRepeat => Sys2Proof.Machine.execThermalRequestRepeat s
  | .pfwAssert vinMv => Sys2Proof.Machine.execPfwAssert vinMv s
  | .pfwSaveDone => Sys2Proof.Machine.execPfwSaveDone s
  | .pfwDeassert vinMv => Sys2Proof.Machine.execPfwDeassert vinMv s
  | .pfwRecoverExpiry => Sys2Proof.Machine.execPfwRecoverExpiry s
  | .ctlReadStatus => Sys2Proof.Machine.execCtlReadStatus s
  | .regWrite port access => Sys2Proof.Machine.execRegWrite port access s
  | .timeLoRead port => Sys2Proof.Machine.execTimeLoRead port s
  | .resetKeyWrite port data => Sys2Proof.Machine.execResetKeyWrite port data s
  | .irqStatusClear port data => Sys2Proof.Machine.execIrqStatusClear port data s
  | .faultCauseClear port data => Sys2Proof.Machine.execFaultCauseClear port data s
  | .wakeCauseClear port data => Sys2Proof.Machine.execWakeCauseClear port data s
  | .portErrorsClear port data => Sys2Proof.Machine.execPortErrorsClear port data s
  | .mbDoorbell mb data => Sys2Proof.Machine.execMbDoorbell mb data s
  | .mbRelease mb data => Sys2Proof.Machine.execMbRelease mb data s
  | .ctlPacket side burst => Sys2Proof.Machine.execCtlPacket side burst s
  | .unknownCommand mb => Sys2Proof.Machine.execUnknownCommand mb s
  | .ident mb => Sys2Proof.Machine.execIdent mb s
  | .paramGet mb => Sys2Proof.Machine.execParamGet mb s
  | .paramSet mb => Sys2Proof.Machine.execParamSet mb s
  | .paramGetMulti mb => Sys2Proof.Machine.execParamGetMulti mb s
  | .paramSetMulti mb => Sys2Proof.Machine.execParamSetMulti mb s
  | .logClear mb => Sys2Proof.Machine.execLogClear mb s
  | .logFirstFaultClear mb => Sys2Proof.Machine.execLogFirstFaultClear mb s
  | .pwrResClear mb => Sys2Proof.Machine.execPwrResClear mb s
  | .commit mb => Sys2Proof.Machine.execCommit mb s
  | .commitStatus mb => Sys2Proof.Machine.execCommitStatus mb s
  | .discard mb => Sys2Proof.Machine.execDiscard mb s
  | .funcStop mb => Sys2Proof.Machine.execFuncStop mb s
  | .funcStart mb => Sys2Proof.Machine.execFuncStart mb s
  | .funcState mb => Sys2Proof.Machine.execFuncState mb s
  | .modeChange mb => Sys2Proof.Machine.execModeChange mb s
  | .funcReset mb => Sys2Proof.Machine.execFuncReset mb s
  | .tableLoad mb => Sys2Proof.Machine.execTableLoad mb s
  | .tableRead mb => Sys2Proof.Machine.execTableRead mb s
  | .profileApply mb => Sys2Proof.Machine.execProfileApply mb s
  | .vote mb => Sys2Proof.Machine.execVote mb s
  | .pwrState mb => Sys2Proof.Machine.execPwrState mb s
  | .standbyEntry => Sys2Proof.Machine.execStandbyEntry s
  | .logRead mb => Sys2Proof.Machine.execLogRead mb s
  | .statsRead mb => Sys2Proof.Machine.execStatsRead mb s
  | .nvRead mb pageFails => Sys2Proof.Machine.execNvRead mb pageFails s
  | .nvWriteRecord mb => Sys2Proof.Machine.execNvWriteRecord mb s
  | .norProgramDone mismatch => Sys2Proof.Machine.execNorProgramDone mismatch s
  | .nvRawProgram mb => Sys2Proof.Machine.execNvRawProgram mb s
  | .nvErase mb => Sys2Proof.Machine.execNvErase mb s
  | .nvEraseDone failed => Sys2Proof.Machine.execNvEraseDone failed s
  | .samplerCompaction bank1 => Sys2Proof.Machine.execSamplerCompaction bank1 s
  | .nandStoreDone object failed => Sys2Proof.Machine.execNandStoreDone object failed s
  | .cmpRun mb => Sys2Proof.Machine.execCmpRun mb s
  | .cmpContainerDone => Sys2Proof.Machine.execCmpContainerDone s
  | .secSession mb => Sys2Proof.Machine.execSecSession mb s
  | .hello side burst => Sys2Proof.Machine.execHello side burst s
  | .finish side burst => Sys2Proof.Machine.execFinish side burst s
  | .nonceExpiry => Sys2Proof.Machine.execNonceExpiry s
  | .secApprove mb => Sys2Proof.Machine.execSecApprove mb s
  | .approvalBundleCheckDone => Sys2Proof.Machine.execApprovalBundleCheckDone s
  | .secStatus mb => Sys2Proof.Machine.execSecStatus mb s
  | .secFwUpdate mb => Sys2Proof.Machine.execSecFwUpdate mb s
  | .fwImageCheckDone => Sys2Proof.Machine.execFwImageCheckDone s
  | .tatEnumerate mb => Sys2Proof.Machine.execTatEnumerate mb s
  | .tatStage mb => Sys2Proof.Machine.execTatStage mb s
  | .tatArm mb => Sys2Proof.Machine.execTatArm mb s
  | .tatAbort mb => Sys2Proof.Machine.execTatAbort mb s
  | .tatStatus mb => Sys2Proof.Machine.execTatStatus mb s
  | .panelOn mb => Sys2Proof.Machine.execPanelOn mb s
  | .panelOff mb => Sys2Proof.Machine.execPanelOff mb s
  | .panelSafeStop mb => Sys2Proof.Machine.execPanelSafeStop mb s
  | .eyeSet mb => Sys2Proof.Machine.execEyeSet mb s
  | .eyeRead mb => Sys2Proof.Machine.execEyeRead mb s
  | .hlActivityQualified side => Sys2Proof.Machine.execHlActivityQualified side s
  | .hlWakePattern side => Sys2Proof.Machine.execHlWakePattern side s
  | .hlWakeGlitch side => Sys2Proof.Machine.execHlWakeGlitch side s
  | .hlReceivePllLock side rate => Sys2Proof.Machine.execHlReceivePllLock side rate s
  | .hlBlockLock side phases => Sys2Proof.Machine.execHlBlockLock side phases s
  | .hlEqualizeDone side eyes => Sys2Proof.Machine.execHlEqualizeDone side eyes s
  | .hlDeskewDone side skew lanes => Sys2Proof.Machine.execHlDeskewDone side skew lanes s
  | .hlTrainTimeout side lane => Sys2Proof.Machine.execHlTrainTimeout side lane s
  | .hlTrainBackoffExpiry => Sys2Proof.Machine.execHlTrainBackoffExpiry s
  | .hlClockLost side activity => Sys2Proof.Machine.execHlClockLost side activity s
  | .hlBlockError side lane incoming => Sys2Proof.Machine.execHlBlockError side lane incoming s
  | .hlTs1Retrain incoming => Sys2Proof.Machine.execHlTs1Retrain incoming s
  | .hlSof incoming => Sys2Proof.Machine.execHlSof incoming s
  | .hlEios => Sys2Proof.Machine.execHlEios s
  | .hlFs side at_ sets => Sys2Proof.Machine.execHlFs side at_ sets s
  | .hlRow side at_ first rest => Sys2Proof.Machine.execHlRow side at_ first rest s
  | .hlFe side at_ sets => Sys2Proof.Machine.execHlFe side at_ sets s
  | .hlSurf side at_ sets => Sys2Proof.Machine.execHlSurf side at_ sets s
  | .hlSleep side burst => Sys2Proof.Machine.execHlSleep side burst s
  | .hlKeep side burst => Sys2Proof.Machine.execHlKeep side burst s
  | .packetHeaderCrcFail incoming => Sys2Proof.Machine.execPacketHeaderCrcFail incoming s
  | .hlUnknownPkt incoming => Sys2Proof.Machine.execHlUnknownPkt incoming s
  | .backChannelSend => Sys2Proof.Machine.execBackChannelSend s
  | .statusTimer => Sys2Proof.Machine.execStatusTimer s
  | .frameStart at_ fifoA fifoB => Sys2Proof.Machine.execFrameStart at_ fifoA fifoB s
  | .rowSlotStart at_ bursts blockFail nextFail => Sys2Proof.Machine.execRowSlotStart at_ bursts blockFail nextFail s
  | .verticalBlankStart at_ => Sys2Proof.Machine.execVerticalBlankStart at_ s
  | .repeatDeadline tick => Sys2Proof.Machine.execRepeatDeadline tick s
  | .predictiveRepeat tick => Sys2Proof.Machine.execPredictiveRepeat tick s
  | .timingGeneratorPeriod tick => Sys2Proof.Machine.execTimingGeneratorPeriod tick s
  | .ladderDwellExpiry at_ => Sys2Proof.Machine.execLadderDwellExpiry at_ s
  | .continuityDelayExpiry at_ => Sys2Proof.Machine.execContinuityDelayExpiry at_ s
  | .clipStepDue at_ => Sys2Proof.Machine.execClipStepDue at_ s
  | .memSleepEntry at_ bursts => Sys2Proof.Machine.execMemSleepEntry at_ bursts s
  | .memSleepExit at_ bursts => Sys2Proof.Machine.execMemSleepExit at_ bursts s
  | .residenceCompressDone => Sys2Proof.Machine.execResidenceCompressDone s
  | .odTableCopyDone => Sys2Proof.Machine.execOdTableCopyDone s
  | .sensedRow slot => Sys2Proof.Machine.execSensedRow slot s
  | .senseReturnReply lane codes => Sys2Proof.Machine.execSenseReturnReply lane codes s
  | .replyTimeout lane => Sys2Proof.Machine.execReplyTimeout lane s
  | .tempPoll => Sys2Proof.Machine.execTempPoll s
  | .updatePass => Sys2Proof.Machine.execUpdatePass s
  | .snapshotStart => Sys2Proof.Machine.execSnapshotStart s
  | .snapshotComplete failed => Sys2Proof.Machine.execSnapshotComplete failed s
  | .snapshotOverrun => Sys2Proof.Machine.execSnapshotOverrun s
  | .mapStoreDone table failed => Sys2Proof.Machine.execMapStoreDone table failed s
  | .restSweepRow results => Sys2Proof.Machine.execRestSweepRow results s
  | .restLimitExpiry => Sys2Proof.Machine.execRestLimitExpiry s
  | .panelPowerOnStep => Sys2Proof.Machine.execPanelPowerOnStep s
  | .bobbinTrainingPhaseEnd => Sys2Proof.Machine.execBobbinTrainingPhaseEnd s
  | .bobLockNFall => Sys2Proof.Machine.execBobLockNFall s
  | .bobLockNRise => Sys2Proof.Machine.execBobLockNRise s
  | .dischargeStepEnd => Sys2Proof.Machine.execDischargeStepEnd s
  | .panelPowerOffStep => Sys2Proof.Machine.execPanelPowerOffStep s
  | .tatPortUp port => Sys2Proof.Machine.execTatPortUp port s
  | .tatCodeError port at_ => Sys2Proof.Machine.execTatCodeError port at_ s
  | .tatPortSilence port => Sys2Proof.Machine.execTatPortSilence port s
  | .tatMsgCrcFail incoming => Sys2Proof.Machine.execTatMsgCrcFail incoming s
  | .delayReqTimer sent => Sys2Proof.Machine.execDelayReqTimer sent s
  | .delayReq port arrived sent codes => Sys2Proof.Machine.execDelayReq port arrived sent codes s
  | .delayResp arrived codes => Sys2Proof.Machine.execDelayResp arrived codes s
  | .delayRespTimeout => Sys2Proof.Machine.execDelayRespTimeout s
  | .beaconSend => Sys2Proof.Machine.execBeaconSend s
  | .beacon port arrived sent0 sent1 codes => Sys2Proof.Machine.execBeacon port arrived sent0 sent1 codes s
  | .beaconMissing => Sys2Proof.Machine.execBeaconMissing s
  | .enumerate port codes => Sys2Proof.Machine.execEnumerate port codes s
  | .enumDone port codes => Sys2Proof.Machine.execEnumDone port codes s
  | .enumTimeout port => Sys2Proof.Machine.execEnumTimeout port s
  | .stageFragment port codes => Sys2Proof.Machine.execStageFragment port codes s
  | .countUp port codes => Sys2Proof.Machine.execCountUp port codes s
  | .tatStageTimeout => Sys2Proof.Machine.execTatStageTimeout s
  | .setReq port codes => Sys2Proof.Machine.execSetReq port codes s
  | .abortEpoch port codes => Sys2Proof.Machine.execAbortEpoch port codes s
  | .peer port codes => Sys2Proof.Machine.execPeer port codes s
  | .pairFrame arrived codes => Sys2Proof.Machine.execPairFrame arrived codes s
  | .pairStrobe arrived => Sys2Proof.Machine.execPairStrobe arrived s
  | .pairEvent port codes => Sys2Proof.Machine.execPairEvent port codes s
  | .pairEventRepeat => Sys2Proof.Machine.execPairEventRepeat s
  | .ctlCsWake => Sys2Proof.Machine.execCtlCsWake s
  | .svcAddressMatch => Sys2Proof.Machine.execSvcAddressMatch s
  | .picotActivity => Sys2Proof.Machine.execPicotActivity s
  | .wakeTimerExpiry => Sys2Proof.Machine.execWakeTimerExpiry s
  | .wakeVoteLapse => Sys2Proof.Machine.execWakeVoteLapse s
  | .idleTimerExpiry d => Sys2Proof.Machine.execIdleTimerExpiry d s
  | .domainEntryDone d => Sys2Proof.Machine.execDomainEntryDone d s
  | .wakeGrant => Sys2Proof.Machine.execWakeGrant s
  | .domainWakeDone d => Sys2Proof.Machine.execDomainWakeDone d s
  | .wakeFailureTimeout d clockLock => Sys2Proof.Machine.execWakeFailureTimeout d clockLock s
  | .retryOffExpiry d => Sys2Proof.Machine.execRetryOffExpiry d s
  | .statMaxTimeExpiry => Sys2Proof.Machine.execStatMaxTimeExpiry s
  | .updatePassDone => Sys2Proof.Machine.execUpdatePassDone s
  | .secKeyAgreementDone => Sys2Proof.Machine.execSecKeyAgreementDone s
  | .ctlCsNRise leftover => Sys2Proof.Machine.execCtlCsNRise leftover s
  | .svcStop leftover => Sys2Proof.Machine.execSvcStop leftover s

end Sys2Proof.Machine
end

