-- ==== Sys2Proof/WellFormed.lean ====
section
/-! DEFINITION. Which commands a sampler or a lane group can deliver: the lengths of their operand lists. -/

namespace Sys2Proof

/-- A command is well formed when each operand list has the length its source fixes: twelve die sensors (R524) and eight lanes of a group (R171, R177, R179). The blocks and characters of a packet or message may be any number: what they bring is the meaning's business (R184, R412). -/
def Instr.wf : Instr → Bool
  | .thermalSample die _ _ => die.length == 12
  | .hlBlockLock _ phases => phases.length == 8
  | .hlEqualizeDone _ eyes => eyes.length == 8
  | .hlDeskewDone _ _ lanes => lanes.delays.length == 8
  | _ => true

end Sys2Proof
end

