-- ==== Sys2Proof/Safety.lean ====
section
/-! DEFINITION. What counts as a safe run and the terms claims use: canonical memories, a well-formed queue, no step that stops; a mailbox request that reaches its command's meaning; which mailbox, code and layout each mailbox command has; and for the frames which parts of the state each command may change. -/

namespace Sys2Proof.Machine

/-- Every waiting command can be delivered by its source. -/
def State.queueWf (s : State) : Bool := s.pending.all Instr.wf

/-- The step from `s` gives a next state. -/
def State.goesOn (s : State) : Prop := ∃ t, step s = .next t

/-- A state is sound when its memories have their canonical form and its queue is well formed. -/
def State.sound (s : State) : Prop := Memory.wf s = true ∧ s.queueWf = true

/-- The payload of the request in a mailbox (R126). -/
def State.reqBody (s : State) (i : Mb) : List Byte := reqPayload (s.mb i).req

/-- Check 1 of R128 on the request in a mailbox: its mailbox permits the command, and on MB1 the MAC and COUNTER of R127 hold. -/
def State.allowed (s : State) (i : Mb) (code : Nat) : Bool :=
  permits i code (s.reqBody i) && (i != .mb1 || s.macOk (s.mb i).req)

/-- The request in a mailbox is the firmware's next one, carries the command `c`, and passes checks 1 to 4 and 6 of R128, which do not depend on the command's own rules. -/
def State.served (s : State) (i : Mb) (c : Cmd) : Bool :=
  s.takes i && reqCode (s.mb i).req == c.code && s.allowed i c.code && servedIn s.boot.stage c.code && reqFlags (s.mb i).req == 0 &&
  decide ((s.reqBody i).length ≤ maxPayload i) && c.lenOk (s.reqBody i) && c.zeroOk (s.reqBody i) && !s.jobRuns c.code

/-- The state that a served command's own meaning starts from: its mailbox is BUSY and off the doorbell order, MB1's COUNTER is used up and MB3's service is counted (R122, R124, R127). -/
def State.taken (s : State) (i : Mb) : State :=
  let s1 := s.take i
  match i with
  | .mb1 => { s1 with box := { s1.box with mb1Rx := le4 (s.mb i).req (8 + reqLen (s.mb i).req) } }
  | .mb3 => { s1 with win := { s1.win with peerServed := s1.win.peerServed + 1 } }
  | _ => s1

/-- What becomes of a command's reply: the response is posted, or held, or ACCEPTED is posted with a new job (R130). -/
def State.replied (s : State) (i : Mb) (c : Cmd) : Reply → State
  | .reply st p t => t.post i st p
  | .hold w t => t.onMb i fun m => { m with wait := w }
  | .accept p t after => after (({ t with box := { t.box with jobs := t.box.jobs ++ [({ code := c.code, mb := i, tag := (s.mb i).tag } : Job)] } }).post i stAccepted p)

/-- The block sets on a side's stream are data block sets, its group parses packets, and once descrambled they are heard as `a` (R174, R176, R184, R185). -/
def State.hears (s : State) (side : Side) (sets : List (List LinkBlock)) (a : Heard) : Bool :=
  let i := s.stream side
  s.receives i && (sets.all fun set => (List.range (s.streamLanes i).length).all fun k => blockData (set.getD k 0)) &&
  hear (s.descramble i sets).1 == a

/-- The block sets bring a packet of a type, with its ENC bit and payload (R184 to R186). -/
def State.brings (s : State) (side : Side) (sets : List (List LinkBlock)) (type : Nat) (enc : Bool) (p : List Byte) : Bool :=
  s.hears side sets (.packet type enc p)

/-- The state in which a packet has its effect: its last block has come at instant `at_`, and the scramblers of its lanes have moved on over its block sets (R176). -/
def State.arrived (s : State) (side : Side) (at_ : Nat) (sets : List (List LinkBlock)) : State :=
  ((s.elapse at_).descramble (s.stream side) sets).2

/-- The state in which the next row slot judges its clients: the bursts granted since the last event served, and time at the slot's start (R275, R284). -/
def State.slotState (s : State) (bursts : List Burst) : State :=
  (s.grantBursts bursts).elapse (s.ras.start + s.ras.rowsStarted * s.ras.rowTime)

/-- A reset cause takes effect at once: nothing it would wait for or follow into (R99, R102). -/
def State.resetsNow (s : State) : Bool :=
  s.boot.powered && !s.boot.resetPin && !s.boot.limp && !s.boot.thermalOff && s.boot.pendingReset.isNone && s.pnl.st == .off &&
  (!s.vin.pfw || s.vin.saved)

/-- `t` is the device of `s` right after a reset by the cause of RESET_CAUSE bit `b` (R99, R106). -/
def State.wasReset (s t : State) (b : Nat) : Prop :=
  t.boot.stage = .aonUp ∧ t.boot.resetCause.getLsbD b = true ∧ (∀ d : Fin 19, t.pwr.dom[d].st = .off) ∧ t.par = State.reset.par ∧
  t.box = State.reset.box ∧ t.mem.cells = [] ∧ t.nv.nor = s.nv.nor ∧ t.nv.nand = s.nv.nand ∧ t.now = s.now ∧
  t.ras.frame = s.ras.frame ∧ t.boot.key = none

/-- The outcome of a served command whose response is posted at once: the response, then what the votes do (R124, R130). -/
def State.answered (t : State) (i : Mb) (st : Nat) (p : List Byte) : Host.Outcome State Fault Refusal := .next (t.post i st p).settle

/-- The state in which ACCEPTED has been posted and a new A job of a code runs (R130). -/
def State.accepted (t : State) (i : Mb) (code : Nat) (p : List Byte) : State :=
  ({ t with box := { t.box with jobs := t.box.jobs ++ [({ code := code, mb := i, tag := (t.mb i).tag } : Job)] } }).post i stAccepted p

/-- The outcome of a served command whose response is held for a function's change (R130, R161). -/
def State.heldFor (t : State) (i : Mb) (f : Func) : Host.Outcome State Fault Refusal :=
  .next (t.onMb i fun m => { m with wait := .funcOp f }).settle

/-- The active parameter values stand in rising order of their IDs. -/
def State.paramsSorted (s : State) : Prop := (s.par.active.map (·.1)).Pairwise (· < ·)

/-- The mailbox commands of R132 to R135: mailbox, code and layout of each row that is one command code and serves every request of it. -/
def commandOf : Instr → Option (Mb × Cmd)
  | .ident mb => some (mb, .bare 0x0001)
  | .paramGet mb => some (mb, .fixed 0x0010 4 fun _ => true)
  | .paramSet mb => some (mb, .fixed 0x0011 8 fun p => zeroAt p 2 2)
  | .paramGetMulti mb => some (mb, cmdParamGetMulti)
  | .paramSetMulti mb => some (mb, cmdParamSetMulti)
  | .commit mb => some (mb, .bare 0x0020)
  | .commitStatus mb => some (mb, .bare 0x0021)
  | .discard mb => some (mb, .bare 0x0022)
  | .funcStop mb => some (mb, .fixed 0x0030 4 fun p => zeroAt p 1 3)
  | .funcStart mb => some (mb, .fixed 0x0031 4 fun p => zeroAt p 1 3)
  | .funcState mb => some (mb, .fixed 0x0032 4 fun p => zeroAt p 1 3)
  | .modeChange mb => some (mb, .fixed 0x0040 4 fun p => zeroAt p 1 3)
  | .funcReset mb => some (mb, .fixed 0x00F0 4 fun p => zeroAt p 1 3)
  | .tableLoad mb => some (mb, cmdTableLoad)
  | .tableRead mb => some (mb, cmdTableRead)
  | .profileApply mb => some (mb, .fixed 0x0060 4 fun p => zeroAt p 2 2)
  | .vote mb => some (mb, .fixed 0x0070 8 fun p => zeroAt p 5 3)
  | .pwrState mb => some (mb, .fixed 0x0071 4 fun p => zeroAt p 1 3)
  | .logRead mb => some (mb, cmdLogRead)
  | .statsRead mb => some (mb, cmdStatsRead)
  | .nvRead mb _ => some (mb, cmdNvRead)
  | .nvRawProgram mb => some (mb, cmdNvRaw)
  | .nvErase mb => some (mb, .fixed 0x0093 8 fun p => byteAt p 1 == 0)
  | .cmpRun mb => some (mb, cmdCmpRun)
  | .secApprove mb => some (mb, cmdSecApprove)
  | .secStatus mb => some (mb, .bare 0x00B2)
  | .secFwUpdate mb => some (mb, cmdFwUpdate)
  | .tatEnumerate mb => some (mb, .bare 0x00C0)
  | .tatStage mb => some (mb, cmdTatStage)
  | .tatArm mb => some (mb, .fixed 0x00C2 8 fun _ => true)
  | .tatAbort mb => some (mb, .fixed 0x00C3 4 fun _ => true)
  | .tatStatus mb => some (mb, .fixed 0x00C4 4 fun _ => true)
  | .panelOn mb => some (mb, .bare 0x00D0)
  | .panelOff mb => some (mb, .fixed 0x00D1 4 fun p => le4 p 0 < 2)
  | .panelSafeStop mb => some (mb, .bare 0x00D2)
  | .eyeSet mb => some (mb, cmdEyeSet)
  | .eyeRead mb => some (mb, .fixed 0x00E1 4 fun p => zeroAt p 1 3)
  | _ => none

/-! ## Frames: what a command leaves unchanged -/

/-- The parts of a state that a frame speaks of: each component of State but the queue, and the bytes of GDDR7, NOR and NAND apart from their controllers. -/
inductive Part
  | now | boot | vin | win | box | evq | log | stat | eyes | par | fn | tab | pwr | thm | mem | cmp | nv | ras | pipe | prk | apq | pnl | bob | sel | hl | sec | tat | free | gddr7 | nor | nand
deriving DecidableEq, Repr

/-- A part holds in `t` what it holds in `s`; a memory, when every byte of it reads as before. -/
def Part.kept : Part → State → State → Prop
  | .now, s, t => t.now = s.now
  | .boot, s, t => t.boot = s.boot
  | .vin, s, t => t.vin = s.vin
  | .win, s, t => t.win = s.win
  | .box, s, t => t.box = s.box
  | .evq, s, t => t.evq = s.evq
  | .log, s, t => t.log = s.log
  | .stat, s, t => t.stat = s.stat
  | .eyes, s, t => t.eyes = s.eyes
  | .par, s, t => t.par = s.par
  | .fn, s, t => t.fn = s.fn
  | .tab, s, t => t.tab = s.tab
  | .pwr, s, t => t.pwr = s.pwr
  | .thm, s, t => t.thm = s.thm
  | .mem, s, t => t.mem = s.mem
  | .cmp, s, t => t.cmp = s.cmp
  | .nv, s, t => t.nv = s.nv
  | .ras, s, t => t.ras = s.ras
  | .pipe, s, t => t.pipe = s.pipe
  | .prk, s, t => t.prk = s.prk
  | .apq, s, t => t.apq = s.apq
  | .pnl, s, t => t.pnl = s.pnl
  | .bob, s, t => t.bob = s.bob
  | .sel, s, t => t.sel = s.sel
  | .hl, s, t => t.hl = s.hl
  | .sec, s, t => t.sec = s.sec
  | .tat, s, t => t.tat = s.tat
  | .free, s, t => t.free = s.free
  | .gddr7, s, t => ∀ a, t.ram a = s.ram a
  | .nor, s, t => ∀ a, t.norByte a = s.norByte a
  | .nand, s, t => ∀ a, t.nandByte a = s.nandByte a

/-- The four families a frame is stated for. -/
inductive Family | mailbox | device | link | raster
deriving DecidableEq, Repr

/-- The family of a command: the mailbox commands; start-up, resets, supply, power, ports, flash and timers; the Vorul link, its packets and the Tatting net; the raster, memory, sensing and the panel. -/
def Family.of : Instr → Family
  | .aonPowerUp .. | .strapSample .. | .resonatorCheck .. | .vinBootMeasure .. | .rootPllLock | .bootRomCheckDone .. | .bootWatchdogExpiry |
    .firmwareWatchdogExpiry | .samplerScanDone | .memReady | .persistedTableLoadDone .. | .mapLoadDone | .mapWaitLimitExpiry | .stressSnapshotLoadDone
    | .clipLoadDone .. | .resetNAssert | .resetNRelease .. | .lockstepReset | .pllLossOfLock | .undervoltageLockout | .hardwareSafeStopEnd | .jtagTrst
    | .thermalSample .. | .thmReleaseExpiry | .riseTriggerRearm | .thermalRequestRepeat | .pfwAssert .. | .pfwSaveDone | .pfwDeassert .. |
    .pfwRecoverExpiry | .ctlReadStatus | .regWrite .. | .timeLoRead .. | .resetKeyWrite .. | .irqStatusClear .. | .faultCauseClear .. |
    .wakeCauseClear .. | .portErrorsClear .. | .mbDoorbell .. | .mbRelease .. | .standbyEntry | .norProgramDone .. | .nvEraseDone .. |
    .samplerCompaction .. | .nandStoreDone .. | .cmpContainerDone | .nonceExpiry | .approvalBundleCheckDone | .fwImageCheckDone | .ctlCsWake |
    .svcAddressMatch | .picotActivity | .wakeTimerExpiry | .wakeVoteLapse | .idleTimerExpiry .. | .domainEntryDone .. | .wakeGrant | .domainWakeDone
    .. | .wakeFailureTimeout .. | .retryOffExpiry .. | .statMaxTimeExpiry | .secKeyAgreementDone | .ctlCsNRise .. | .svcStop .. => .device
  | .rasterStart .. | .frameStart .. | .rowSlotStart .. | .verticalBlankStart .. | .repeatDeadline .. | .predictiveRepeat .. | .timingGeneratorPeriod
    .. | .ladderDwellExpiry .. | .continuityDelayExpiry .. | .clipStepDue .. | .memSleepEntry .. | .memSleepExit .. | .residenceCompressDone |
    .odTableCopyDone | .sensedRow .. | .senseReturnReply .. | .replyTimeout .. | .tempPoll | .updatePass | .snapshotStart | .snapshotComplete .. |
    .snapshotOverrun | .mapStoreDone .. | .restSweepRow .. | .restLimitExpiry | .panelPowerOnStep | .bobbinTrainingPhaseEnd | .bobLockNFall |
    .bobLockNRise | .dischargeStepEnd | .panelPowerOffStep | .updatePassDone => .raster
  | .ctlPacket .. | .hello .. | .finish .. | .hlActivityQualified .. | .hlWakePattern .. | .hlWakeGlitch .. | .hlReceivePllLock .. | .hlBlockLock .. |
    .hlEqualizeDone .. | .hlDeskewDone .. | .hlTrainTimeout .. | .hlTrainBackoffExpiry | .hlClockLost .. | .hlBlockError .. | .hlTs1Retrain .. |
    .hlSof .. | .hlEios | .hlFs .. | .hlRow .. | .hlFe .. | .hlSurf .. | .hlSleep .. | .hlKeep .. | .packetHeaderCrcFail .. | .hlUnknownPkt .. |
    .backChannelSend | .statusTimer | .tatPortUp .. | .tatCodeError .. | .tatPortSilence .. | .tatMsgCrcFail .. | .delayReqTimer .. | .delayReq .. |
    .delayResp .. | .delayRespTimeout | .beaconSend | .beacon .. | .beaconMissing | .enumerate .. | .enumDone .. | .enumTimeout .. | .stageFragment ..
    | .countUp .. | .tatStageTimeout | .setReq .. | .abortEpoch .. | .peer .. | .pairFrame .. | .pairStrobe .. | .pairEvent .. | .pairEventRepeat =>
    .link
  | .unknownCommand .. | .ident .. | .paramGet .. | .paramSet .. | .paramGetMulti .. | .paramSetMulti .. | .logClear .. | .logFirstFaultClear .. |
    .pwrResClear .. | .commit .. | .commitStatus .. | .discard .. | .funcStop .. | .funcStart .. | .funcState .. | .modeChange .. | .funcReset .. |
    .tableLoad .. | .tableRead .. | .profileApply .. | .vote .. | .pwrState .. | .logRead .. | .statsRead .. | .nvRead .. | .nvWriteRecord .. |
    .nvRawProgram .. | .nvErase .. | .cmpRun .. | .secSession .. | .secApprove .. | .secStatus .. | .secFwUpdate .. | .tatEnumerate .. | .tatStage ..
    | .tatArm .. | .tatAbort .. | .tatStatus .. | .panelOn .. | .panelOff .. | .panelSafeStop .. | .eyeSet .. | .eyeRead .. => .mailbox

/-- The parts a command may change by its rules, its log entries, events and counters, the answers it posts and the votes that follow from it: the destinations of a frame. `nv` and `mem` stand for the controllers' registers; the bytes of a memory may change only where `gddr7`, `nor` or `nand` is listed. -/
def changes : Instr → List Part
  | .aonPowerUp .. | .undervoltageLockout => [.now, .boot, .vin, .win, .box, .evq, .log, .stat, .eyes, .par, .fn, .tab, .pwr, .thm, .mem, .cmp, .nv,
    .ras, .pipe, .prk, .apq, .pnl, .bob, .sel, .hl, .sec, .tat, .gddr7]
  | .strapSample .. => [.boot, .win]
  | .resonatorCheck .. => [.boot, .win, .log, .stat, .pwr, .free]
  | .vinBootMeasure .. => [.boot, .vin]
  | .rootPllLock | .resetNRelease .. => [.boot, .win, .pwr]
  | .bootRomCheckDone .. => [.boot, .win, .log, .stat, .pwr, .nv]
  | .bootWatchdogExpiry | .firmwareWatchdogExpiry | .lockstepReset | .pllLossOfLock | .regWrite .. | .resetKeyWrite .. => [.boot, .win, .box, .evq,
    .log, .stat, .eyes, .par, .fn, .tab, .pwr, .thm, .mem, .cmp, .nv, .ras, .pipe, .prk, .apq, .pnl, .bob, .sel, .hl, .sec, .tat, .free, .gddr7]
  | .samplerScanDone => [.boot, .win, .evq, .log, .stat, .eyes, .par, .tab, .pwr, .mem, .nv, .ras, .pipe, .prk, .apq, .pnl, .bob, .sel, .hl, .sec,
    .tat, .gddr7, .nor]
  | .memReady => [.boot, .tab, .pwr, .mem, .pipe, .apq, .gddr7]
  | .persistedTableLoadDone .. => [.stat, .tab, .pwr, .mem, .cmp, .pipe, .apq, .gddr7]
  | .mapLoadDone => [.boot, .win, .evq, .log, .stat, .tab, .pwr, .mem, .cmp, .nv, .pipe, .prk, .apq, .gddr7]
  | .mapWaitLimitExpiry => [.now, .boot, .stat, .pwr, .nv]
  | .rasterStart .. | .modeChange .. | .frameStart .. | .repeatDeadline .. | .predictiveRepeat .. | .timingGeneratorPeriod .. => [.now, .boot, .win,
    .box, .evq, .log, .stat, .eyes, .par, .fn, .pwr, .thm, .mem, .nv, .ras, .pipe, .prk, .apq, .pnl, .bob, .sel, .hl, .sec, .tat, .free, .gddr7]
  | .stressSnapshotLoadDone => [.win, .evq, .log, .stat, .pwr, .mem, .cmp, .nv, .prk, .gddr7]
  | .clipLoadDone .. => [.stat, .tab, .pwr, .mem, .cmp, .ras, .pipe, .apq, .gddr7]
  | .resetNAssert | .hardwareSafeStopEnd | .hlActivityQualified .. | .hlWakePattern .. | .ctlCsWake | .svcAddressMatch | .picotActivity |
    .domainWakeDone .. => [.boot, .win, .box, .evq, .log, .stat, .eyes, .par, .fn, .tab, .pwr, .thm, .mem, .cmp, .nv, .ras, .pipe, .prk, .apq, .pnl,
    .bob, .sel, .hl, .sec, .tat, .gddr7]
  | .jtagTrst => [.boot]
  | .thermalSample .. => [.now, .boot, .win, .box, .evq, .log, .stat, .eyes, .par, .fn, .tab, .pwr, .thm, .mem, .cmp, .nv, .ras, .pipe, .prk, .apq,
    .pnl, .bob, .sel, .hl, .sec, .tat, .free, .gddr7]
  | .thmReleaseExpiry => [.now, .win, .evq, .log, .stat, .pwr, .thm, .nv, .ras, .tat, .free]
  | .riseTriggerRearm => [.thm]
  | .thermalRequestRepeat => [.win, .evq, .log, .stat, .pwr, .thm]
  | .pfwAssert .. => [.boot, .vin, .win, .box, .evq, .log, .stat, .eyes, .par, .fn, .tab, .pwr, .thm, .mem, .cmp, .nv, .ras, .pipe, .prk, .apq, .pnl,
    .bob, .sel, .hl, .sec, .tat, .free, .gddr7, .nor]
  | .pfwSaveDone => [.boot, .vin, .win, .box, .evq, .log, .stat, .eyes, .par, .fn, .tab, .pwr, .thm, .mem, .cmp, .nv, .ras, .pipe, .prk, .apq, .pnl,
    .bob, .sel, .hl, .sec, .tat, .gddr7, .nor]
  | .pfwDeassert .. => [.vin, .pwr, .nv]
  | .pfwRecoverExpiry => [.now, .boot, .vin, .win, .evq, .log, .stat, .pwr, .nv, .pipe, .pnl, .bob, .sel, .hl]
  | .ctlReadStatus | .timeLoRead .. | .ctlCsNRise .. | .svcStop .. => [.win]
  | .irqStatusClear .. | .wakeCauseClear .. | .portErrorsClear .. => [.win, .pwr]
  | .faultCauseClear .. => [.boot, .pwr]
  | .mbDoorbell .. => [.win, .box, .pwr]
  | .mbRelease .. => [.box, .pwr]
  | .ctlPacket .. | .hello .. | .finish .. | .hlFs .. | .hlRow .. | .hlFe .. | .hlSurf .. | .hlSleep .. | .hlKeep .. | .packetHeaderCrcFail .. |
    .hlUnknownPkt .. => [.now, .win, .box, .evq, .log, .stat, .pwr, .mem, .nv, .ras, .apq, .hl, .sec, .tat, .free, .gddr7]
  | .unknownCommand .. | .ident .. | .commitStatus .. | .funcState .. | .tableRead .. | .vote .. | .statsRead .. | .nvRead .. | .tatArm .. |
    .tatStatus .. | .eyeRead .. => [.win, .box, .pwr, .hl, .tat]
  | .paramGet .. | .paramGetMulti .. => [.win, .box, .pwr, .sel, .hl, .tat, .free]
  | .paramSet .. | .logClear .. | .logFirstFaultClear .. | .pwrResClear .. => [.win, .box, .evq, .log, .stat, .eyes, .par, .fn, .pwr, .mem, .hl, .tat]
  | .paramSetMulti .. => [.win, .box, .evq, .log, .stat, .eyes, .par, .fn, .pwr, .mem, .hl, .tat, .free]
  | .commit .. => [.win, .box, .evq, .log, .stat, .par, .pwr, .ras, .pipe, .prk, .apq, .hl, .tat]
  | .discard .. => [.win, .box, .par, .pwr, .hl, .tat]
  | .funcStop .. => [.now, .boot, .win, .box, .evq, .log, .stat, .par, .fn, .pwr, .thm, .mem, .ras, .pipe, .prk, .apq, .pnl, .bob, .sel, .hl, .sec,
    .tat, .free, .gddr7]
  | .funcStart .. => [.now, .boot, .win, .box, .evq, .log, .stat, .eyes, .par, .fn, .pwr, .mem, .ras, .pipe, .prk, .apq, .pnl, .bob, .sel, .hl, .sec,
    .tat, .free, .gddr7]
  | .funcReset .. => [.win, .box, .evq, .log, .stat, .fn, .pwr, .mem, .ras, .pipe, .prk, .apq, .bob, .hl, .sec, .tat, .free, .gddr7]
  | .tableLoad .. => [.boot, .win, .box, .stat, .tab, .pwr, .mem, .cmp, .nv, .ras, .pipe, .prk, .apq, .hl, .tat, .gddr7, .nor]
  | .profileApply .. => [.win, .box, .evq, .log, .stat, .eyes, .par, .fn, .pwr, .mem, .ras, .pipe, .prk, .apq, .hl, .tat]
  | .pwrState .. => [.boot, .win, .box, .evq, .log, .stat, .pwr, .nv, .pipe, .pnl, .bob, .sel, .hl, .tat]
  | .standbyEntry => [.boot, .win, .box, .evq, .log, .stat, .eyes, .par, .fn, .tab, .pwr, .thm, .mem, .cmp, .nv, .ras, .pipe, .prk, .apq, .pnl, .bob,
    .sel, .hl, .sec, .tat, .gddr7, .nor]
  | .logRead .. => [.win, .box, .evq, .pwr, .hl, .tat]
  | .nvWriteRecord .. => [.win, .box, .pwr, .nv, .hl, .tat, .nor]
  | .norProgramDone .. => [.win, .box, .log, .stat, .pwr, .nv, .hl, .tat, .nor]
  | .nvRawProgram .. => [.win, .box, .evq, .log, .stat, .pwr, .nv, .hl, .tat, .nor]
  | .nvErase .. => [.win, .box, .stat, .pwr, .nv, .hl, .tat]
  | .nvEraseDone .. => [.win, .box, .evq, .log, .stat, .pwr, .nv, .nor, .nand]
  | .samplerCompaction .. => [.stat, .pwr, .nv, .nor]
  | .nandStoreDone .. => [.log, .stat, .pwr, .cmp, .nv, .nor, .nand]
  | .cmpRun .. => [.win, .box, .pwr, .cmp, .hl, .tat]
  | .cmpContainerDone => [.win, .box, .evq, .log, .stat, .pwr, .mem, .cmp, .ras, .apq, .free, .gddr7]
  | .secSession .. => [.win, .box, .evq, .log, .stat, .pwr, .hl, .sec, .tat, .free]
  | .nonceExpiry => [.sec]
  | .secApprove .. | .secKeyAgreementDone => [.win, .box, .pwr, .hl, .sec, .tat]
  | .approvalBundleCheckDone => [.win, .box, .evq, .log, .stat, .par, .pwr, .nv, .hl, .sec, .tat, .nor]
  | .secStatus .. => [.win, .box, .pwr, .hl, .sec, .tat, .free]
  | .secFwUpdate .. => [.win, .box, .pwr, .nv, .hl, .sec, .tat, .nor]
  | .fwImageCheckDone => [.boot, .win, .box, .evq, .log, .stat, .pwr, .sec]
  | .tatEnumerate .. | .tatAbort .. => [.win, .box, .evq, .log, .stat, .pwr, .hl, .tat]
  | .tatStage .. => [.win, .box, .evq, .log, .stat, .eyes, .par, .pwr, .mem, .ras, .pipe, .prk, .apq, .hl, .tat]
  | .panelOn .. => [.boot, .win, .box, .evq, .log, .stat, .pwr, .pipe, .pnl, .bob, .sel, .hl, .tat]
  | .panelOff .. | .panelSafeStop .. | .hlClockLost .. | .hlEios | .restSweepRow .. | .restLimitExpiry => [.boot, .win, .box, .evq, .log, .stat, .par,
    .fn, .pwr, .thm, .mem, .ras, .pipe, .prk, .apq, .pnl, .bob, .sel, .hl, .sec, .tat, .free, .gddr7]
  | .eyeSet .. => [.win, .box, .eyes, .pwr, .hl, .tat]
  | .hlWakeGlitch .. => [.stat, .hl]
  | .hlReceivePllLock .. | .hlBlockLock .. | .statusTimer => [.hl]
  | .hlEqualizeDone .. => [.win, .box, .evq, .log, .stat, .par, .pwr, .mem, .ras, .hl, .sec, .tat, .free, .gddr7]
  | .hlDeskewDone .. | .hlTrainTimeout .. | .hlTs1Retrain .. | .hlSof .. => [.win, .box, .evq, .log, .stat, .pwr, .mem, .ras, .hl, .sec, .tat, .gddr7]
  | .hlTrainBackoffExpiry => [.pwr, .hl]
  | .hlBlockError .. => [.now, .win, .box, .evq, .log, .stat, .pwr, .mem, .nv, .ras, .hl, .sec, .tat, .gddr7]
  | .backChannelSend => [.box, .pwr, .hl]
  | .rowSlotStart .. => [.now, .win, .box, .evq, .log, .stat, .eyes, .par, .pwr, .thm, .mem, .nv, .ras, .pipe, .prk, .apq, .bob, .sel, .hl, .tat,
    .free, .gddr7]
  | .verticalBlankStart .. => [.now, .win, .box, .evq, .log, .stat, .eyes, .par, .pwr, .thm, .mem, .nv, .ras, .pipe, .prk, .apq, .bob, .sel, .tat,
    .free]
  | .ladderDwellExpiry .. | .clipStepDue .. => [.now, .stat, .pwr, .nv, .ras]
  | .continuityDelayExpiry .. => [.now, .stat, .pwr, .nv, .ras, .apq]
  | .memSleepEntry .. | .memSleepExit .. => [.now, .stat, .pwr, .mem, .nv]
  | .residenceCompressDone => [.win, .evq, .log, .stat, .pwr, .mem, .cmp]
  | .odTableCopyDone => [.pipe]
  | .sensedRow .. => [.now, .stat, .pwr, .nv, .prk, .bob, .sel]
  | .senseReturnReply .. | .replyTimeout .. => [.win, .box, .evq, .log, .stat, .pwr, .mem, .ras, .pipe, .prk, .apq, .bob, .hl, .sec, .tat, .free,
    .gddr7]
  | .tempPoll => [.win, .box, .evq, .log, .stat, .pwr, .mem, .ras, .apq, .bob, .hl, .sec, .tat, .free, .gddr7]
  | .updatePass => [.prk]
  | .snapshotStart => [.pwr, .mem, .prk]
  | .snapshotComplete .. => [.win, .evq, .log, .stat, .pwr, .mem, .cmp, .nv, .prk, .nor, .nand]
  | .snapshotOverrun => [.win, .evq, .log, .stat, .prk]
  | .mapStoreDone .. => [.log, .stat, .pwr, .cmp, .nv, .prk, .nor, .nand]
  | .panelPowerOnStep => [.now, .boot, .win, .evq, .log, .stat, .pwr, .nv, .pnl, .bob, .sel, .free]
  | .bobbinTrainingPhaseEnd => [.now, .boot, .win, .box, .evq, .log, .stat, .par, .fn, .pwr, .thm, .mem, .nv, .ras, .pipe, .prk, .apq, .pnl, .bob,
    .sel, .hl, .sec, .tat, .free, .gddr7]
  | .bobLockNFall | .bobLockNRise => [.bob]
  | .dischargeStepEnd => [.now, .boot, .win, .box, .evq, .log, .stat, .par, .fn, .pwr, .thm, .mem, .nv, .ras, .pipe, .prk, .apq, .pnl, .bob, .sel,
    .hl, .sec, .tat, .free, .gddr7, .nor]
  | .panelPowerOffStep => [.now, .boot, .win, .box, .evq, .log, .stat, .pwr, .mem, .nv, .pipe, .prk, .pnl, .bob, .sel, .nor]
  | .tatPortUp .. | .tatPortSilence .. | .delayResp .. => [.win, .evq, .log, .stat, .pwr, .tat]
  | .tatCodeError .. => [.now, .win, .evq, .log, .stat, .pwr, .nv, .tat]
  | .tatMsgCrcFail .. => [.stat]
  | .delayReqTimer .. | .delayRespTimeout | .beaconSend | .pairEventRepeat => [.tat]
  | .delayReq .. => [.stat, .tat]
  | .beacon .. => [.win, .box, .evq, .log, .stat, .eyes, .par, .pwr, .mem, .ras, .pipe, .prk, .apq, .tat]
  | .beaconMissing => [.stat, .pwr, .ras, .tat]
  | .enumerate .. | .enumDone .. | .enumTimeout .. | .countUp .. | .abortEpoch .. => [.win, .box, .evq, .log, .stat, .pwr, .tat]
  | .stageFragment .. => [.box, .stat, .pwr, .tat]
  | .tatStageTimeout => [.win, .box, .evq, .log, .stat, .pwr]
  | .setReq .. => [.stat, .pwr, .tat]
  | .peer .. => [.win, .box, .stat, .pwr, .tat]
  | .pairFrame .. => [.win, .evq, .log, .stat, .pwr, .thm, .ras, .pipe, .tat, .free]
  | .pairStrobe .. => [.win, .evq, .log, .stat, .pwr, .ras, .tat]
  | .pairEvent .. => [.stat, .pwr, .thm, .mem, .ras, .tat]
  | .wakeTimerExpiry => [.now, .boot, .win, .box, .evq, .log, .stat, .eyes, .par, .fn, .tab, .pwr, .thm, .mem, .cmp, .nv, .ras, .pipe, .prk, .apq,
    .pnl, .bob, .sel, .hl, .sec, .tat, .gddr7]
  | .wakeVoteLapse | .wakeGrant => [.pwr]
  | .idleTimerExpiry .. | .retryOffExpiry .. => [.now, .stat, .pwr, .nv]
  | .domainEntryDone .. => [.boot, .win, .box, .evq, .log, .stat, .tab, .pwr, .mem, .nv, .ras, .pipe, .prk, .apq, .hl, .sec, .tat, .gddr7, .nor]
  | .wakeFailureTimeout .. => [.now, .boot, .win, .box, .evq, .log, .stat, .par, .fn, .tab, .pwr, .thm, .mem, .cmp, .nv, .ras, .pipe, .prk, .apq,
    .pnl, .bob, .sel, .hl, .sec, .tat, .free, .gddr7, .nor]
  | .statMaxTimeExpiry => [.now, .win, .evq, .log, .stat, .pwr, .nv]
  | .updatePassDone => [.stat, .pwr, .mem, .ras, .prk, .gddr7]

end Sys2Proof.Machine
end

