-- ==== Sys2Proof/Certificates/Slice0/Obligations.lean ====
section
/-! DEFINITION. The statements for the provers, in the order of the opcode table's families. -/

open Sys2Proof Sys2Proof.Machine

/-! ## The machine as a whole -/

/-- A step runs the command at the front of the queue on the state with the queue's rest. -/
def Obligations.StepRunsTheFrontCommand : Prop :=
  ∀ (c : Instr) (rest : List Instr) (s : State), s.pending = c :: rest → step s = exec c { s with pending := rest }

/-- On an empty queue one tick of CK_AON passes: device time rises by one tick, each Tatting port whose latest message has left goes on to the next, and neither memory nor flash changes (the model's choice, assumption 1). -/
def Obligations.EmptyQueueIsOneTick : Prop :=
  ∀ s : State, s.pending = [] →
    ∃ t, step s = .next t ∧ t.now = s.now + 1000 ∧ t.devTime = (s.devTime + 1) % 2 ^ 48 ∧ 
      (∀ p : TatPort, (t.tat.port p).tx = if t.now < (s.tat.port p).txAt then (s.tat.port p).tx else (s.tat.port p).tx.drop 1) ∧ t.mem = s.mem ∧ t.nv.nor = s.nv.nor ∧
      t.nv.nand = s.nv.nand ∧ t.boot = s.boot ∧ t.par = s.par ∧ t.pending = []

/-- Every well-formed command gives a next state, so no ordinary data ends a run; a command whose operand list has a length no sampler or lane group can deliver stops with the fault of that name, in every state. -/
def Obligations.WellFormedCommandsGoOn : Prop :=
  ∀ (c : Instr) (s : State), (c.wf = true → ∃ t, exec c s = .next t) ∧ (c.wf = false → exec c s = .fault .illFormed)

/-- The machine right after AON power-up (R82, R99, R105, R118, R122, R123): STAGE AON_UP, RESET_CAUSE POWER_UP, device time and frame number 0, every domain but AON off, mailboxes IDLE, in-band enabled, and RESET as the one log entry. -/
def Obligations.ResetLeavesAonUp : Prop :=
  let s := State.reset
  s.boot.stage = .aonUp ∧ s.boot.resetCause = 1 ∧ s.boot.faultCause = 0 ∧ s.devTime = 0 ∧ s.ras.frame = 0 ∧ s.ras.running = false ∧
    (∀ d : Fin 19, s.pwr.dom[d].st = .off) ∧ (∀ i : Mb, (s.mb i).st = .idle) ∧ s.portConfig = 2 ∧ s.win.irqStatus = 0 ∧
    s.win.irqEnable = 0 ∧ s.portErrors = 0 ∧ s.win.wakeCause = 0 ∧ s.evq.entries = [] ∧ s.log.first = none ∧
    s.log.ring.map (·.code) = [0x0500] ∧ s.pnl.st = .off ∧ s.hl.a.st = .idle ∧ s.hl.b.st = .idle ∧ s.tat.id = 0 ∧
    s.sec.sessions = [] ∧ s.par.staged = [] ∧ s.pending = [] ∧ s.hostIrq = false

/-- GDDR7 and both flash memories have their canonical form after reset. -/
def Obligations.ResetMemoryCanonical : Prop := Memory.wf State.reset = true

/-- GDDR7 and both flash memories keep their canonical form over every step, whatever command it runs. -/
def Obligations.StepKeepsMemoryCanonical : Prop :=
  ∀ s t : State, Memory.wf s = true → step s = .next t → Memory.wf t = true

/-- Bytes written to GDDR7 read back, every byte outside them reads as before, and the canonical form stays. NOR programming only clears bits: each byte becomes the old byte AND the new one, every other byte stays, and an erased range reads 0xFF (R475). -/
def Obligations.MemoriesReadBackWhatIsWritten : Prop :=
  (∀ (s : State) (a : Nat) (bs : List Byte), Memory.wf s = true →
      (s.ramWrite a bs).ramBytes a bs.length = bs ∧
      (∀ b, b < a ∨ a + bs.length ≤ b → (s.ramWrite a bs).ram b = s.ram b) ∧ Memory.wf (s.ramWrite a bs) = true) ∧
  (∀ (s : State) (a : Nat) (bs : List Byte), Memory.wf s = true →
      (∀ i, i < bs.length → (s.norProgram a bs).norByte (a + i) = s.norByte (a + i) &&& byteAt bs i) ∧
      (∀ b, b < a ∨ a + bs.length ≤ b → (s.norProgram a bs).norByte b = s.norByte b) ∧
      (∀ n b, (s.norErase a n).norByte b = if a ≤ b ∧ b < a + n then 0xFF else s.norByte b))

/-! ## Supply, start-up and reset -/

/-- AON power-up and the undervoltage lockout (R63, R82, R99): everything returns to the state right after AON power-up, or loses its power; flash and fuses keep what they hold. The straps, VIN_BOOT and the resonator are taken once each (R46, R64, R103). -/
def Obligations.PowerUpIsTakenOnce : Prop :=
  (∀ (v : BitVec 16) (s : State), s.boot.powered = false → 4400 ≤ v.toNat →
    ∃ t, exec (.aonPowerUp v) s = .next t ∧ t.boot = State.reset.boot ∧ t.pwr = State.reset.pwr ∧ t.log = State.reset.log ∧
      t.win = State.reset.win ∧ t.now = 0 ∧ t.vin.latest = v.toNat ∧ t.nv.nor = s.nv.nor ∧ t.nv.nand = s.nv.nand ∧ t.sec.fuse = s.sec.fuse) ∧
  (∀ (v : BitVec 16) (s : State), (s.boot.powered = true ∨ v.toNat < 4400) → exec (.aonPowerUp v) s = .next s) ∧
  (∀ s : State, ∃ t, exec .undervoltageLockout s = .next t ∧ t.boot.powered = false ∧ t.mem.cells = [] ∧ t.log.ring = [] ∧
      (∀ d : Fin 19, t.pwr.dom[d].st = .off) ∧ t.nv.nor = s.nv.nor ∧ t.nv.nand = s.nv.nand ∧ t.sec.fuse = s.sec.fuse) ∧
  (∀ (x : Straps) (s : State), s.boot.powered = true → s.boot.strapsDone = false →
    exec (.strapSample x) s = .next { s with
      boot := { s.boot with straps := x, strapsDone := true, vioHigh := x.vioHigh }, win := { s.win with svcAddr := 0x58 + x.svcAddr.toNat } }) ∧
  (∀ (v : BitVec 16) (s : State), s.boot.powered = true → s.vin.bootDone = false →
    exec (.vinBootMeasure v) s = .next { s with vin := { s.vin with boot := v.toNat, latest := v.toNat, bootDone := true } }) ∧
  (∀ (m : BitVec 32) (s : State), s.boot.powered = true → s.boot.resonatorChecked = false → -15000 ≤ m.toInt → m.toInt ≤ 15000 →
    exec (.resonatorCheck true m) s = .next { s with boot := { s.boot with resonatorChecked := true, resonatorPpm10 := m.toInt } }) ∧
  (∀ (o : Bool) (m : BitVec 32) (s : State), s.boot.powered = true → s.boot.resonatorChecked = false → s.boot.resetPin = false →
    (o = false ∨ m.toInt < -15000 ∨ 15000 < m.toInt) →
    ∃ t, exec (.resonatorCheck o m) s = .next t ∧ t.boot.limp = true ∧ t.boot.stage = .limp ∧ t.boot.faultCause.getLsbD 0 = true ∧
      t.domOn dCtrl = true)

/-- The boot ROM (R82, R87, R89): the root PLL's lock starts it on the slot of R87; a slot that passes runs, a failed first slot leads to the other one, and with no slot left the recovery service starts. -/
def Obligations.BootRomTriesTheSlots : Prop :=
  (∀ s : State, s.boot.powered = true → s.boot.resetPin = false → s.boot.thermalOff = false → s.boot.limp = false → s.boot.stage = .aonUp →
    s.boot.pendingReset = none →
    ∃ t, exec .rootPllLock s = .next t ∧ t.domOn dCtrl = true ∧ t.boot.rootLocked = true ∧
      (if s.boot.failed0 && s.boot.failed1 then t.boot.stage = .recovery ∧ t.boot.faultCause.getLsbD 1 = true
       else t.boot.stage = .romVerify ∧ t.boot.checking = some s.slotTried ∧
         (if s.slotTried then s.boot.failed1 else s.boot.failed0) = false ∧ t.boot.swapOnce = false)) ∧
  (∀ (e slot : Bool) (s : State), s.boot.checking = some slot → s.boot.stage = .romVerify → s.domOn dCtrl = true →
    ∃ t, exec (.bootRomCheckDone e) s = .next t ∧
      (if slot then t.boot.result1 else t.boot.result0) = s.checkSlot slot e ∧
      (if s.checkSlot slot e = .passed then
         t.boot.stage = .fwRunning ∧ t.boot.slot = slot ∧ t.boot.checking = none ∧ t.boot.bootWdog = true ∧ t.nv.bootCount = s.nv.bootCount + 1
       else if slot = s.boot.firstSlot ∧ (if slot then s.boot.failed0 else s.boot.failed1) = false then
         t.boot.stage = .romVerify ∧ t.boot.checking = some (!slot)
       else t.boot.stage = .recovery ∧ t.boot.faultCause.getLsbD 1 = true))

/-- Firmware start-up (R82, R85, R92, R93, R272, R306, R349, R350, R368): the Sampler is scanned and the board profile settled, GDDR7 comes up with the hoop in SYS.BOOT_COLOUR, and stored tables, the map, the stress snapshot and clips take their places. -/
def Obligations.FirmwareStartsUp : Prop :=
  (∀ s : State, s.boot.stage = .fwRunning → s.boot.warm = false → s.domOn dCtrl = true → s.nv.st = .notScanned → s.boot.profileOk = false →
    ∃ t, exec .samplerScanDone s = .next t ∧ t.nv.st = .ready ∧ t.boot.bootWdog = false ∧ t.boot.failed0 = false ∧ t.boot.failed1 = false ∧
      t.boot.stage = if t.boot.profileOk then .profileApplied else .unconfigured) ∧
  (∀ s : State, s.firmwareRuns = true → s.domOn dMem = true → s.boot.memReady = false →
    ∃ t, exec .memReady s = .next t ∧ t.boot.memReady = true ∧ t.mem.h0.role = .marked ∧ t.mem.h1.role = .free ∧
      ∀ a, a < 0x10000000 → t.ram a = Byte.of (s.param 0x0411 / 256 ^ (a % 4) % 256)) ∧
  (∀ (id : BitVec 16) (s : State), s.booted = true → s.boot.memReady = true → s.boot.mapLoaded = false → s.storeLacks = false → tableKnown id.toNat = true →
    1 ≤ id.toNat / 256 → id.toNat / 256 ≤ 3 →
    ∃ t, exec (.persistedTableLoadDone id) s = .next t ∧
      match s.loadTable (objTable (id.toNat / 256) (id.toNat % 256)) id.toNat with
      | .ok (b, _) => t.tableValid id.toNat = true ∧ (t.table id.toNat).bytes = b
      | .error w => if w = lfMissing then t.tab = s.tab else (t.table id.toNat).st = .invalid) ∧
  (∀ s : State, s.booted = true → s.boot.memReady = true → s.boot.mapLoaded = false →
    ∃ t, exec .mapLoadDone s = .next t ∧ t.boot.mapLoaded = true ∧ t.boot.mapReady = t.planesValid ∧
      (t.planesValid = false → t.boot.mapWaitOver = true)) ∧
  (∀ s : State, s.booted = true → s.boot.mapReady = false →
    ∃ t, exec .mapWaitLimitExpiry s = .next t ∧ t.boot.mapWaitOver = true ∧
      t.now = max s.now (s.boot.startAt + ms (s.param 0x0412) - s.boot.startLead) ∧ t.boot.mapReady = false) ∧
  (∀ s : State, s.booted = true → s.boot.memReady = true → s.param 0x4800 = 1 → s.prk.stress = .off → s.ras.framesOn ≠ 0 → s.storeLacks = false →
    ∃ t, exec .stressSnapshotLoadDone s = .next t ∧ t.prk.stress = if s.bestSnap.1.isSome then .running else .restarted) ∧
  (∀ (n : BitVec 8) (s : State), s.booted = true → s.boot.warm = false → s.boot.memReady = true → s.storeLacks = false →
    (s.param 0x4800 = 1 → s.prk.stress ≠ .off) → (∀ i, i < n.toNat → s.clipDue i = false) → (s.table (0x0700 + n.toNat)).st = .empty →
    ∃ t, exec (.clipLoadDone n) s = .next t ∧
      match s.loadTable (objClip n.toNat) (0x0700 + n.toNat) with
      | .ok (b, _) => t.tableValid (0x0700 + n.toNat) = true ∧ (t.table (0x0700 + n.toNat)).bytes = b
      | .error w => if w = lfMissing then t = s else (t.table (0x0700 + n.toNat)).st = .invalid)

/-- RESET_N (R46, R98, R99, R100): low, it resets at once whatever the panel does; released, the straps but VIO_SEL are sampled again, and limp mode or a thermal shutdown that is still too hot goes on. With the panel off, no save due and no reset pending, each of these causes resets the device at once (R99, R101, R106): AON_UP, its bit in RESET_CAUSE, every domain off, parameters and mailboxes as after reset; flash, device time and frame number stay. SWAP_ONCE follows the scope of a keyed reset; a hung slot keeps its mark. -/
def Obligations.ResetsActAtOnce : Prop :=
  ((∀ s : State, s.boot.powered = true → s.boot.resetPin = false →
    ∃ t, exec .resetNAssert s = .next t ∧ t.boot.resetPin = true ∧
      t.boot.stage = (if s.boot.thermalOff || s.boot.pendingReset.any (fun p => p.causes.getLsbD 6) then .shutdown else .aonUp) ∧ t.boot.resetCause.getLsbD 1 = true ∧
      (∀ d : Fin 19, t.pwr.dom[d].st = .off) ∧ t.pnl.st = .off ∧ t.sel.driven = false ∧ t.mem.cells = [] ∧ t.par = State.reset.par ∧
      t.now = s.now ∧ t.ras.frame = s.ras.frame ∧ t.ras.running = false ∧ t.nv.nor = s.nv.nor ∧ t.nv.nand = s.nv.nand ∧
      t.win.scratch0 = s.win.scratch0 ∧ t.boot.failed0 = s.boot.failed0 ∧ t.boot.failed1 = s.boot.failed1) ∧
  (∀ (x : Straps) (s : State), s.boot.powered = true → s.boot.resetPin = true →
    ∃ t, exec (.resetNRelease x) s = .next t ∧ t.boot.resetPin = false ∧ t.boot.straps = { x with vioHigh := s.boot.straps.vioHigh } ∧
      t.win.svcAddr = 0x58 + x.svcAddr.toNat ∧ t.boot.startAt = s.now ∧
      (if s.boot.thermalOff ∧ s.coolEnough = false then t.boot.stage = .shutdown ∧ t.boot.thermalOff = true
       else if s.boot.limp then t.boot.stage = .limp ∧ t.domOn dCtrl = true ∧ t.boot.thermalOff = false
       else t.boot.stage = .aonUp ∧ t.boot.thermalOff = false))) ∧
  ((∀ s : State, s.resetsNow = true →
    (s.domOn dCtrl = true → ∃ t, exec .lockstepReset s = .next t ∧ s.wasReset t 3 ∧ t.boot.faultCause.getLsbD 3 = true) ∧
    (s.firmwareRuns = true → ∃ t, exec .firmwareWatchdogExpiry s = .next t ∧ s.wasReset t 4) ∧
    (s.boot.bootWdog = true → ∃ t, exec .bootWatchdogExpiry s = .next t ∧ s.wasReset t 5 ∧
      (if s.boot.slot then t.boot.failed1 = true ∧ t.boot.result1 = .bootWatchdog
       else t.boot.failed0 = true ∧ t.boot.result0 = .bootWatchdog)) ∧
    (∀ (p : Port) (k : KeyArm), s.boot.key = some k → s.now ≤ k.at_ + ms 1 →
      (p = .ctl → s.win.ctlDead = false) →
      (∃ t, exec (.resetKeyWrite p 0x5A000001) s = .next t ∧ s.wasReset t 2 ∧ t.boot.swapOnce = s.boot.swapOnce) ∧
      (∃ t, exec (.resetKeyWrite p 0x5A000002) s = .next t ∧ s.wasReset t 2 ∧ t.boot.swapOnce = true))) ∧
  (∀ (p : Port) (s : State), s.portDead p = false → s.boot.key = none →
    exec (.resetKeyWrite p 0x0000C3A5) s = .next { s with boot := { s.boot with key := some { port := p, at_ := s.now, word := 0x0000C3A5 } } }) ∧
  (∀ (p : Port) (w : Word) (k : KeyArm) (s : State), s.portDead p = false → s.boot.key = some k →
    (k.at_ + ms 1 < s.now ∨ (w ≠ 0x5A000001 ∧ w ≠ 0x5A000002)) →
    ∃ t, exec (.resetKeyWrite p w) s = .next t ∧ t.boot = { s.boot with key := none } ∧ t.par = s.par ∧ t.mem = s.mem))

/-- A reset cause meets a powered panel or a pending reset (R99, R102): it waits for the hardware safe stop, causes join the pending one, and the end of the sequence makes the reset. A PLL loss leads to limp mode; JTAG_TRST resets the TAP only, which then selects IDCODE. -/
def Obligations.PendingResetsTakeEffect : Prop :=
  (∀ s : State, s.domOn dCtrl = true → s.pnl.st ≠ .off → s.boot.pendingReset = none →
    ∃ t p, exec .lockstepReset s = .next t ∧ t.boot.pendingReset = some p ∧ p.causes = 8 ∧ p.safeStop = true ∧ t.boot.stage = s.boot.stage) ∧
  (∀ (p : PendingReset) (s : State), s.domOn dCtrl = true → s.boot.pendingReset = some p →
    ∃ t q, exec .lockstepReset s = .next t ∧ t.boot.pendingReset = some q ∧ q.causes = p.causes ||| 8 ∧ q.earliest = p.earliest) ∧
  (∀ (p : PendingReset) (s : State), s.boot.pendingReset = some p → p.safeStop = true → (s.vin.pfw = false ∨ s.vin.saved = true) →
    s.boot.resetPin = false → s.boot.limp = false → s.boot.thermalOff = false → p.causes.getLsbD 7 = false →
    ∃ t, exec .hardwareSafeStopEnd s = .next t ∧ t.boot.pendingReset = none ∧ t.boot.resetCause &&& p.causes = p.causes ∧
      (∀ d : Fin 19, t.pwr.dom[d].st = .off) ∧
      (if p.causes.getLsbD 6 then t.boot.stage = .shutdown ∧ t.boot.thermalOff = true ∧ t.boot.faultCause.getLsbD 2 = true
       else t.boot.stage = .aonUp)) ∧
  (∀ s : State, s.boot.powered = true → s.boot.resetPin = false → s.boot.limp = false → s.boot.rootLocked = true →
    s.boot.thermalOff = false → s.boot.pendingReset = none → (s.vin.pfw = false ∨ s.vin.saved = true) →
    ∃ t, exec .pllLossOfLock s = .next t ∧ t.boot.limp = true ∧ t.boot.stage = .limp ∧ t.boot.resetCause.getLsbD 7 = true ∧
      t.boot.faultCause.getLsbD 0 = true ∧ t.pnl.st = .off ∧ t.sel.driven = false ∧ t.domOn dCtrl = true) ∧
  (∀ s : State, exec .jtagTrst s = .next { s with boot := { s.boot with tapReset := true, tapIr := .idcode, tdo := false } })

/-- Power failure (R63, R495, R496, R520): the warning counts and takes a powered panel down, the save puts every domain but CTRL to sleep, the supply's return starts the recovery, and its end reports it. -/
def Obligations.PowerFailSavesAndRecovers : Prop :=
  (∀ (v : BitVec 16) (s : State), s.boot.powered = true → s.vin.pfw = false → v.toNat * 100 < s.vPfw * 102 → s.pwr.asleep = false →
    ∃ t, exec (.pfwAssert v) s = .next t ∧ t.vin.pfw = true ∧ t.vin.pfwAt = s.now ∧ t.vin.latest = v.toNat ∧
      t.nv.pfwCount = s.nv.pfwCount + 1 ∧ t.vin.saved = !s.savesNow ∧ t.pnl.st = (if s.pnl.st = .off then .off else .poweringOff)) ∧
  (∀ s : State, s.vin.saved = false → (s.vin.pfw = true ∨ s.vin.recovering = true) → s.domOn dCtrl = true → s.boot.pendingReset = none →
    ∃ t, exec .pfwSaveDone s = .next t ∧ t.vin.saved = true ∧ t.pwr.asleep = true ∧ ∀ d : Fin 19, d ≠ dCtrl → t.pwr.dom[d].st ≠ .on) ∧
  (∀ (v : BitVec 16) (s : State), s.vin.pfw = true → s.vPfw * 98 + 8000 ≤ v.toNat * 100 →
    ∃ t, exec (.pfwDeassert v) s = .next t ∧ t.vin.pfw = false ∧ t.vin.recoverFrom = some s.now ∧ t.vin.recovering = true ∧
      t.vin.latest = v.toNat) ∧
  (∀ (a : Nat) (s : State), s.vin.recoverFrom = some a → s.pwr.asleep = false → s.pastProfile = true →
    ∃ t, exec .pfwRecoverExpiry s = .next t ∧ t.vin.recoverFrom = none ∧ t.vin.recovering = false ∧ t.boot.warm = true ∧
      t.now = max s.now (a + ms (s.param 0x0C09)))

/-- Thermal management (R524, R528, R530): a sample reads every sensor and never lowers the step while CTRL runs and no shutdown comes of it; the release drops it by one; the trigger is armed again; the request is repeated at T3 and T4. -/
def Obligations.ThermalStepsFollowSamples : Prop :=
  (∀ (die : List (BitVec 16)) (m0 m1 : BitVec 16) (s : State), die.length = 12 → s.boot.powered = true → s.domOn dCtrl = true →
    ∃ t, exec (.thermalSample die m0 m1) s = .next t ∧ (∀ i : Fin 12, t.thm.die[i] = (die.getD i.val 0).toInt) ∧
      t.thm.sampledAt = some t.now ∧ (s.thm.step ≤ t.thm.step ∨ t.boot.resetCause.getLsbD 6 = true)) ∧
  (∀ (c : Nat) (s : State), s.thm.coolFrom = some c → s.thm.step ≠ 0 → s.thm.floor < s.thm.step → s.domOn dCtrl = true →
    ∃ t, exec .thmReleaseExpiry s = .next t ∧ t.thm.step = s.thm.step - 1 ∧ t.now = max s.now (c + ms (s.param 0x1006))) ∧
  (∀ s : State, exec .riseTriggerRearm s = .next { s with thm := { s.thm with riseDisarmed := false } }) ∧
  (∀ s : State, 3 ≤ s.thm.step → s.thm.reqRate ≤ s.shownRate → s.evq.entries.length < 256 →
    ∃ t e, exec .thermalRequestRepeat s = .next t ∧ t.thm.reqRate = s.shownRate ∧ t.evq.entries = s.evq.entries ++ [e] ∧
      e.code = 0x1001 ∧ e.source = 3)

/-! ## The control ports -/

/-- The register window is read through the ports (R109 to R111, R118, R119): a CTL transaction with an unknown opcode apart, PORT_STATUS shows READY and HOST_IRQ_N, TIME_LO latches the high half for its own port, a listed register is read without effect, and every other address or unaligned CTL address counts as refused. -/
def Obligations.PortReadsHaveTheirEffects : Prop :=
  (∀ s : State, exec .ctlReadStatus s = .next (if s.portDead .ctl then s else s.ctlDriven .ctl) ∧ s.portStatus.getLsbD 7 = s.domOn dCtrl ∧
    s.portStatus.getLsbD 6 = (s.boot.profileOk && (s.win.irqStatus &&& s.win.irqEnable) != 0) ∧ s.portStatus.toNat % 64 = 0) ∧
  (∀ (p : Port) (s : State), s.portDead p = false →
    exec (.timeLoRead p) s = .next (State.ctlDriven { s with win :=
      if p = .ctl then { s.win with timeHiCtl := BitVec.ofNat 16 (s.devTime / 2 ^ 32) }
      else { s.win with timeHiSvc := BitVec.ofNat 16 (s.devTime / 2 ^ 32) } } p) ∧
    (s.readWord p 0x24).1 = s.devTime % 2 ^ 32) ∧
  (∀ (p : Port) (a : BitVec 16) (s : State), s.portDead p = false → a.toNat % 4 = 0 → a.toNat < 0xC0 → a.toNat ≠ 0x24 →
    (if p = .ctl then (regPorts a.toNat).1 else (regPorts a.toNat).2) = true → exec (.regWrite p (.read a)) s = .next (s.ctlDriven p)) ∧
  (∀ (p : Port) (a : BitVec 16) (s : State), s.portDead p = false → s.win.refused < 255 → a.toNat % 4 = 0 → target p a.toNat = .nothing →
    exec (.regWrite p (.read a)) s =
      .next (State.ctlDriven { s with win := { s.win with refused := s.win.refused + 1, irqStatus := s.win.irqStatus ||| 0x100 } } p) ∧
    (s.readWord p a.toNat).1 = 0) ∧
  (∀ (a : BitVec 16) (s : State), s.portDead .ctl = false → s.win.refused < 255 → a.toNat % 4 ≠ 0 →
    exec (.regWrite .ctl (.read a)) s =
      .next (State.ctlDriven { s with win := { s.win with refused := s.win.refused + 1, irqStatus := s.win.irqStatus ||| 0x100 } } .ctl) ∧
    exec (.regWrite .svc (.read a)) s = .next s)

/-- REG_WRITE (R109 to R114, R118, R124): a word reaches the registers its port lists and an IDLE mailbox's request buffer, where it reads back and no other byte changes; a read-only, unlisted or unmapped address and a buffer in use refuse it; an unknown opcode counts as a framing error, and the rest of its transaction is ignored. -/
def Obligations.PortWritesReachTheirTarget : Prop :=
  (∀ (d : Word) (s : State), s.portDead .ctl = false → ∃ p,
    exec (.regWrite .ctl (.write 0x38 d)) s = .next { s with win := { s.win with scratch0 := d }, pwr := p }) ∧
  (∀ (d : Word) (s : State), s.boot.powered = true → ∃ p,
    exec (.regWrite .svc (.write 0x3C d)) s = .next { s with win := { s.win with scratch1 := d }, pwr := p }) ∧
  (∀ (o : Port) (d : Word) (s : State), s.portDead o = false →
    (∃ p, exec (.regWrite o (.write 0x1C d)) s = .next { s with win := { s.win with irqEnable := d &&& 0x1FF }, pwr := p }) ∧
    (∃ p, exec (.regWrite o (.write 0x30 d)) s =
      .next { s with win := { s.win with inbandEn := d.getLsbD 1, quadEn := d.getLsbD 0 }, pwr := p }) ∧
    exec (.regWrite o (.write 0x14 d)) s = exec (.resetKeyWrite o d) s ∧
    exec (.regWrite o (.write 0x18 d)) s = exec (.irqStatusClear o d) s ∧
    exec (.regWrite o (.write 0x10 d)) s = exec (.faultCauseClear o d) s ∧
    exec (.regWrite o (.write 0x74 d)) s = exec (.wakeCauseClear o d) s ∧
    exec (.regWrite o (.write 0x34 d)) s = exec (.portErrorsClear o d) s) ∧
  (∀ (d : Word) (s : State), s.portDead .ctl = false →
    exec (.regWrite .ctl (.write 0x40 d)) s = exec (.mbDoorbell .mb0 d) s ∧ exec (.regWrite .ctl (.write 0x48 d)) s = exec (.mbRelease .mb0 d) s ∧
    exec (.regWrite .ctl (.write 0x50 d)) s = exec (.mbDoorbell .mb1 d) s ∧ exec (.regWrite .ctl (.write 0x58 d)) s = exec (.mbRelease .mb1 d) s ∧
    exec (.regWrite .svc (.write 0x60 d)) s = exec (.mbDoorbell .mb2 d) s ∧ exec (.regWrite .svc (.write 0x68 d)) s = exec (.mbRelease .mb2 d) s) ∧
  (∀ (o : Port) (a : BitVec 16) (d : Word) (i : Mb) (k : Nat) (s : State), s.portDead o = false → a.toNat % 4 = 0 →
    target o a.toNat = .request i k → s.domOn dCtrl = true → (s.mb i).st = .idle → (s.mb i).req.length = 512 →
    ∃ t, exec (.regWrite o (.write a d)) s = .next t ∧ (t.readWord o a.toNat).1 = d.toNat ∧ (t.mb i).req.length = 512 ∧
      (∀ j, j < k ∨ k + 4 ≤ j → byteAt (t.mb i).req j = byteAt (s.mb i).req j) ∧ ∃ b p, t = { s with box := b, pwr := p }) ∧
  (∀ (o : Port) (a : BitVec 16) (d : Word) (s : State), s.portDead o = false → s.win.refused < 255 → a.toNat % 4 = 0 →
    (target o a.toNat = .nothing ∨ (∃ i k, target o a.toNat = .response i k) ∨
      (∃ i k, target o a.toNat = .request i k ∧ (s.domOn dCtrl = false ∨ (s.mb i).st ≠ .idle)) ∨
      ∃ k, target o a.toNat = .reg k ∧ [0x00, 0x04, 0x08, 0x0C, 0x20, 0x24, 0x28, 0x2C, 0x44, 0x54, 0x5C, 0x64, 0x70, 0x78, 0x7C, 0x80, 0x84, 0x88, 0x8C].contains k) →
    ∃ p, exec (.regWrite o (.write a d)) s =
      .next { s with win := { s.win with refused := s.win.refused + 1, irqStatus := s.win.irqStatus ||| 0x100 }, pwr := p }) ∧
  (∀ s : State, s.portDead .ctl = false → s.win.ctlFraming < 255 →
    exec (.regWrite .ctl .badOpcode) s =
      .next { s with win := { s.win with ctlDead := s.win.csLow, ctlFraming := s.win.ctlFraming + 1, irqStatus := s.win.irqStatus ||| 0x100 } })

/-- The write-one-to-clear registers and PORT_ERRORS (R104, R118, R120, R123): each 1 clears its bit; EVQ clears only while the event queue is empty; a FAULT_CAUSE bit clears only once its cause has ended; PORT_ERRORS clears as a whole. Nothing else changes. A transaction ends (R45, R112, R114): bits or bytes of an unfinished word are discarded and counted as a framing error, but not those of an ignored tail, and a STOP puts SEC.SVC_ADDR_LOCK in force, 0 leaving the straps' address. -/
def Obligations.ClearsAndTransactionEndsAct : Prop :=
  ((∀ (o : Port) (d : Word) (s : State), s.portDead o = false →
      (∃ t p, exec (.irqStatusClear o d) s = .next t ∧ t = { s with win := { s.win with irqStatus := t.win.irqStatus }, pwr := p } ∧
        ∀ b, b < 32 → t.win.irqStatus.getLsbD b =
          (s.win.irqStatus.getLsbD b && !(d.getLsbD b && (b != 3 || s.evq.entries.isEmpty)))) ∧
      (∃ t p, exec (.faultCauseClear o d) s = .next t ∧ t = { s with boot := { s.boot with faultCause := t.boot.faultCause }, pwr := p } ∧
        (∀ b, d.getLsbD b = false → t.boot.faultCause.getLsbD b = s.boot.faultCause.getLsbD b) ∧
        (d.getLsbD 3 = true → t.boot.faultCause.getLsbD 3 = false) ∧
        (d.getLsbD 0 = true → t.boot.faultCause.getLsbD 0 = (s.boot.faultCause.getLsbD 0 && s.boot.limp)) ∧
        (d.getLsbD 1 = true → t.boot.faultCause.getLsbD 1 = (s.boot.faultCause.getLsbD 1 && s.boot.stage == .recovery)) ∧
        (d.getLsbD 2 = true → t.boot.faultCause.getLsbD 2 = (s.boot.faultCause.getLsbD 2 && s.boot.thermalOff)) ∧
        (d.getLsbD 4 = true → t.boot.faultCause.getLsbD 4 = (s.boot.faultCause.getLsbD 4 && s.domFailed dCtrl)) ∧
        (d.getLsbD 5 = true → t.boot.faultCause.getLsbD 5 = (s.boot.faultCause.getLsbD 5 && s.domFailed dMem)) ∧
        (d.getLsbD 6 = true → t.boot.faultCause.getLsbD 6 = (s.boot.faultCause.getLsbD 6 && s.domFailed dPipe))) ∧
      (∃ p, exec (.wakeCauseClear o d) s = .next { s with win := { s.win with wakeCause := s.win.wakeCause &&& ~~~d }, pwr := p }) ∧
      (∃ t p, exec (.portErrorsClear o d) s = .next t ∧ t.portErrors = 0 ∧
        t = { s with win := { s.win with ctlFraming := 0, svcFraming := 0, refused := 0, dbOverrun := 0 }, pwr := p }))) ∧
  ((∀ s : State, s.boot.powered = true → s.win.csLow = true →
      exec (.ctlCsNRise 0) s = .next { s with win := { s.win with csLow := false, ctlDead := false, ctlDrive := false } }) ∧
    (∀ (n : BitVec 5) (s : State), s.boot.powered = true → s.win.csLow = true → n ≠ 0 → s.win.ctlFraming < 255 →
      exec (.ctlCsNRise n) s = if s.win.ctlDead then .next { s with win := { s.win with csLow := false, ctlDead := false, ctlDrive := false } }
        else .next { s with win := { s.win with
          csLow := false, ctlDead := false, ctlDrive := false, ctlFraming := s.win.ctlFraming + 1, irqStatus := s.win.irqStatus ||| 0x100 } }) ∧
    (∀ s : State, s.boot.powered = true →
      exec (.svcStop 0) s = .next { s with win := { s.win with
        sdaHeld := false, svcAddr := if s.param 0x2005 = 0 then 0x58 + s.boot.straps.svcAddr.toNat else s.param 0x2005 } }) ∧
    (∀ (n : BitVec 2) (s : State), s.boot.powered = true → n ≠ 0 → s.win.svcFraming < 255 →
      exec (.svcStop n) s = .next { s with win := { s.win with
        sdaHeld := false, svcAddr := if s.param 0x2005 = 0 then 0x58 + s.boot.straps.svcAddr.toNat else s.param 0x2005,
        svcFraming := s.win.svcFraming + 1, irqStatus := s.win.irqStatus ||| 0x100 } }))


/-! ## Mailboxes -/

/-- Doorbell and release (R122, R124, R129): a doorbell takes an IDLE mailbox to PENDING behind the requests rung in earlier CK_CTRL cycles, MB2 before MB1 before MB0 within one cycle, and captures its TAG, and is refused and counted otherwise; RELEASE returns a DONE mailbox to IDLE and clears OVERRUN, and does nothing in another state. A posted response (R117, R120, R124, R126): the response buffer holds CODE, LENGTH, the captured TAG, STATUS and the payload with 0x00 after them; the mailbox is DONE and its DONE interrupt set; the other mailboxes, parameters, memory and flash stay. An in-band answer on a channel that is not driven releases the mailbox at once. On MB1 the newest session adds the COUNTER and the MAC (R127). -/
def Obligations.MailboxesAreRungAnsweredAndReleased : Prop :=
  ((∀ (i : Mb) (d : Word) (s : State), s.portDead (mbPort i) = false → i ≠ .mb3 → d.getLsbD 0 = true → (s.mb i).st = .idle →
    ∃ t, exec (.mbDoorbell i d) s = .next t ∧
      t.mb i = { s.mb i with st := .pending, tag := BitVec.ofNat 16 (reqTag (s.mb i).req), fill := false,
                             origin := if i = .mb2 then .svc else .ctl, rungAt := s.ctrlCycle } ∧
      ((∀ j, j ∈ s.box.order → (s.mb j).rungAt ≠ s.ctrlCycle) → t.box.order = s.box.order ++ [i]) ∧
      (∀ j, s.box.order = [j] → (s.mb j).rungAt = s.ctrlCycle → t.box.order = if mbRank i < mbRank j then [i, j] else [j, i]) ∧ (∀ j, j ≠ i → t.mb j = s.mb j) ∧ ∃ b p, t = { s with box := b, pwr := p }) ∧
  (∀ (i : Mb) (d : Word) (s : State), s.portDead (mbPort i) = false → i ≠ .mb3 → d.getLsbD 0 = true → (s.mb i).st ≠ .idle → s.win.dbOverrun < 255 →
    ∃ t, exec (.mbDoorbell i d) s = .next t ∧ t.mb i = { s.mb i with overrun := true } ∧ t.win.dbOverrun = s.win.dbOverrun + 1 ∧
      t.box.order = s.box.order ∧ (∀ j, j ≠ i → t.mb j = s.mb j) ∧ ∃ b w p, t = { s with box := b, win := w, pwr := p }) ∧
  (∀ (i : Mb) (d : Word) (s : State), s.portDead (mbPort i) = false → i ≠ .mb3 → d.getLsbD 0 = true →
    ∃ t, exec (.mbRelease i d) s = .next t ∧
      t.mb i = (if (s.mb i).st = .done then { s.mb i with st := .idle, overrun := false } else s.mb i) ∧
      (∀ j, j ≠ i → t.mb j = s.mb j) ∧ ∃ b p, t = { s with box := b, pwr := p }) ∧
  (∀ (i : Mb) (d : Word) (s : State), s.portDead (mbPort i) = false → (i = .mb3 ∨ d.getLsbD 0 = false) →
    (∃ p, exec (.mbDoorbell i d) s = .next { s with pwr := p }) ∧ ∃ p, exec (.mbRelease i d) s = .next { s with pwr := p })) ∧
  ((∀ (i : Mb) (st : Nat) (p : List Byte) (s : State), i = .mb0 ∨ i = .mb2 →
    (s.post i st p).mb i = { s.mb i with
      resp := padBuf (toLe 2 (reqCode (s.mb i).req) ++ toLe 2 p.length ++ toLe 2 (s.mb i).tag.toNat ++ toLe 2 st ++ p), wait := .none,
      st := if (s.mb i).origin = .inBand ∧ s.bcDriven = false then .idle else .done,
      overrun := if (s.mb i).origin = .inBand ∧ s.bcDriven = false then false else (s.mb i).overrun } ∧
    (s.post i st p).win.irqStatus.getLsbD i.num = true ∧ (∀ j, j ≠ i → (s.post i st p).mb j = s.mb j) ∧
    ∃ b w h, s.post i st p = { s with box := b, win := w, hl := h }) ∧
  (∀ (e : Session) (st : Nat) (p : List Byte) (s : State), s.session = some e →
    let msg := toLe 2 (reqCode s.box.mb1.req) ++ toLe 2 p.length ++ toLe 2 s.box.mb1.tag.toNat ++ toLe 2 st ++ p ++ toLe 4 (s.box.mb1Tx + 1)
    (s.post .mb1 st p).box.mb1.resp = padBuf (msg ++ (Config.hmac e.keys.ctl msg).take 16) ∧
      (s.post .mb1 st p).box.mb1Tx = s.box.mb1Tx + 1 ∧ (s.post .mb1 st p).win.irqStatus.getLsbD 1 = true))

/-- A request that is not the firmware's next, or carries another command's code, is not served by a command's row: nothing changes (R129). One that is served meets the checks of R128 in their order, for every mailbox command with one code: DENIED where the mailbox does not permit it or MB1's MAC fails, BAD_COMMAND where the stage does not serve it or FLAGS is not 0, BAD_LENGTH, then OUT_OF_RANGE for a reserved byte; the first that fails answers, and the command has no effect besides. UNKNOWN_COMMAND (R89, R103, R128): a code of no command, or one the stage does not serve, answers DENIED on a mailbox that does not permit it and BAD_COMMAND otherwise. -/
def Obligations.RequestChecksRunInOrder : Prop :=
  ((∀ (ins : Instr) (i : Mb) (c : Cmd) (s : State), commandOf ins = some (i, c) →
      (s.takes i = false ∨ reqCode (s.mb i).req ≠ c.code) → exec ins s = .next s) ∧
    ∀ (ins : Instr) (i : Mb) (c : Cmd) (s : State), commandOf ins = some (i, c) → s.takes i = true → reqCode (s.mb i).req = c.code →
      (s.allowed i c.code = false →
        exec ins s = .next (((if i = .mb3 then (s.take i).peerRefuse else s.take i).postWith i (i != .mb1 || s.macOk (s.mb i).req) stDenied []).settle)) ∧
      (s.allowed i c.code = true → (servedIn s.boot.stage c.code = false ∨ reqFlags (s.mb i).req ≠ 0) →
        exec ins s = .next ((s.taken i).post i stBadCommand []).settle) ∧
      (s.allowed i c.code = true → servedIn s.boot.stage c.code = true → reqFlags (s.mb i).req = 0 →
        (maxPayload i < (s.reqBody i).length ∨ c.lenOk (s.reqBody i) = false) →
        exec ins s = .next ((s.taken i).post i stBadLength []).settle) ∧
      (s.allowed i c.code = true → servedIn s.boot.stage c.code = true → reqFlags (s.mb i).req = 0 → (s.reqBody i).length ≤ maxPayload i →
        c.lenOk (s.reqBody i) = true → c.zeroOk (s.reqBody i) = false →
        exec ins s = .next ((s.taken i).post i stOutOfRange []).settle)) ∧
  (∀ (i : Mb) (s : State), s.takes i = true → servedIn s.boot.stage (reqCode (s.mb i).req) = false →
      exec (.unknownCommand i) s =
        if s.allowed i (reqCode (s.mb i).req) then .next ((s.taken i).post i stBadCommand []).settle
        else .next (((if i = .mb3 then (s.take i).peerRefuse else s.take i).postWith i (i != .mb1 || s.macOk (s.mb i).req) stDenied []).settle))


/-- In-band fragments (R116, R117): a well-formed fragment that opens an IDLE mailbox or continues its open request lays its data at its offset, and LAST rings the doorbell with ORIGIN in-band; a FIRST fragment for a mailbox in use counts as DB_OVERRUN; any other MAILBOX counts in HL_UNKNOWN_PKT; with INBAND_EN off every fragment is dropped. -/
def Obligations.CtlPacketsFillMailboxes : Prop :=
  (∀ (side : Side) (at_ : Nat) (sets : List (List LinkBlock)) (p : List Byte) (i : Mb) (s : State), s.brings side sets 4 false p = true →
    s.domOn dCtrl = true → s.win.inbandEn = true → ctlMalformed p = false → i = .mb0 ∨ i = .mb1 → byteAt p 0 = Byte.of i.num →
    (s.mb i).st = .idle → ((byteAt p 1).toNat % 2 = 1 ∨ (s.mb i).fill = true) → le2 p 2 + le2 p 4 ≤ 512 →
    ∃ t, exec (.ctlPacket side ⟨at_, sets⟩) s = .next t ∧
      t.mb i = (if 2 ≤ (byteAt p 1).toNat then
        { s.mb i with req := overlay (s.mb i).req (le2 p 2) (slice p 16 (le2 p 4)), st := .pending, origin := .inBand, fill := false, rungAt := (s.arrived side at_ sets).ctrlCycle,
                      tag := BitVec.ofNat 16 (reqTag (overlay (s.mb i).req (le2 p 2) (slice p 16 (le2 p 4)))) }
        else { s.mb i with req := overlay (s.mb i).req (le2 p 2) (slice p 16 (le2 p 4)), fill := true }) ∧
      (∀ j, j ≠ i → t.mb j = s.mb j) ∧ ∃ b q, t = { s.arrived side at_ sets with box := b, pwr := q }) ∧
  (∀ (side : Side) (at_ : Nat) (sets : List (List LinkBlock)) (p : List Byte) (i : Mb) (s : State), s.brings side sets 4 false p = true →
    s.domOn dCtrl = true → s.win.inbandEn = true → ctlMalformed p = false → i = .mb0 ∨ i = .mb1 → byteAt p 0 = Byte.of i.num →
    (s.mb i).st ≠ .idle → (byteAt p 1).toNat % 2 = 1 → s.win.dbOverrun < 255 →
    ∃ t, exec (.ctlPacket side ⟨at_, sets⟩) s = .next t ∧ t.mb i = { s.mb i with overrun := true } ∧ t.win.dbOverrun = s.win.dbOverrun + 1 ∧
      t.box.order = s.box.order) ∧
  (∀ (side : Side) (at_ : Nat) (sets : List (List LinkBlock)) (p : List Byte) (s : State), s.brings side sets 4 false p = true →
    s.win.inbandEn = true → byteAt p 0 ≠ 0 → byteAt p 0 ≠ 1 →
    ∃ q, exec (.ctlPacket side ⟨at_, sets⟩) s = .next { (s.arrived side at_ sets).count 578 1 with pwr := q }) ∧
  (∀ (side : Side) (at_ : Nat) (sets : List (List LinkBlock)) (p : List Byte) (s : State), s.brings side sets 4 false p = true →
    s.win.inbandEn = false → ∃ q, exec (.ctlPacket side ⟨at_, sets⟩) s = .next { s.arrived side at_ sets with pwr := q })

/-! ## Identity, parameters and commits -/

/-- IDENT, PARAM_GET and PARAM_GET_MULTI (R132, R143): each answers OK with its layout; a parameter that is no readout answers its active value, or with SHADOW 1 the staged or committed and still waiting one if it is class F or S; and reading one of those changes nothing. -/
def Obligations.ParameterReadsAnswer : Prop :=
  (∀ (i : Mb) (s : State), s.served i (.bare 0x0001) = true →
    exec (.ident i) s = (s.taken i).answered i stOk (toLe 2 0x9484 ++ [0xB0, if Config.gradeE then 0x45 else 0x43] ++
      toLe 4 s.boot.fwVersion.toNat ++ [Byte.of (b2n s.boot.slot), s.boot.secVersion] ++ zeros 2 ++ toLe 4 s.boot.profileId.toNat ++
      toLe 2 s.tat.id ++ zeros 2 ++ toLe 8 Config.serial.toNat)) ∧
  (∀ (i : Mb) (c : PClass) (s : State), s.served i (.fixed 0x0010 4 fun _ => true) = true → le2 (s.reqBody i) 2 ≤ 1 →
    pClass? (le2 (s.reqBody i) 0) = some c →
    exec (.paramGet i) s =
      let r := (s.taken i).readParam i.num (le2 (s.reqBody i) 0) (le2 (s.reqBody i) 2)
      r.2.answered i stOk (toLe 2 (le2 (s.reqBody i) 0) ++ [Byte.of c.code, 0] ++ toLe 4 r.1)) ∧
  (∀ (i : Mb) (s : State), s.served i (.fixed 0x0010 4 fun _ => true) = true →
    (1 < le2 (s.reqBody i) 2 → exec (.paramGet i) s = (s.taken i).answered i stOutOfRange []) ∧
    (le2 (s.reqBody i) 2 ≤ 1 → pClass? (le2 (s.reqBody i) 0) = none → exec (.paramGet i) s = (s.taken i).answered i stBadParamId [])) ∧
  (∀ (mb id shadow : Nat) (c : PClass) (s : State), pClass? id = some c → c ≠ .k → id / 128 ≠ 0x4C00 / 128 → id / 32 ≠ 0x2420 / 32 →
    s.readParam mb id shadow =
      ((if shadow = 1 ∧ (c = .f ∨ c = .s) then ((aget? s.par.staged id).or (s.waitVal? id)).elim (s.param id) (·.toNat) else s.param id), s)) ∧
  (∀ (i : Mb) (s : State), s.served i cmdParamGetMulti = true → le2 (s.reqBody i) 2 ≤ 1 →
    (∀ k, k < le2 (s.reqBody i) 0 → ∃ c, pClass? (le2 (s.reqBody i) (4 + 2 * k)) = some c ∧ c ≠ .k) →
    exec (.paramGetMulti i) s = (s.taken i).answered i stOk (toLe 2 (le2 (s.reqBody i) 0) ++ zeros 2 ++
      (List.range (le2 (s.reqBody i) 0)).flatMap fun k => toLe 2 (le2 (s.reqBody i) (4 + 2 * k)) ++
        toLe 4 (s.readParam i.num (le2 (s.reqBody i) (4 + 2 * k)) (le2 (s.reqBody i) 2)).1))

/-- What a PARAM_SET answers (R143): BAD_PARAM_ID for an undefined ID, READ_ONLY for class K, APPROVAL_REQUIRED for class P, OUT_OF_RANGE outside the Range, NEEDS_STOP for class S of a running function, in that order; nothing is written then. -/
def Obligations.ParameterSetRefusals : Prop :=
  ∀ (i : Mb) (id : Nat) (s : State), s.served i (.fixed 0x0011 8 fun p => zeroAt p 2 2) = true → le2 (s.reqBody i) 0 = id →
    (pClass? id = none → exec (.paramSet i) s = (s.taken i).answered i stBadParamId []) ∧
    (pClass? id = some .k → exec (.paramSet i) s = (s.taken i).answered i stReadOnly []) ∧
    (pClass? id = some .p → exec (.paramSet i) s = (s.taken i).answered i stApprovalRequired []) ∧
    (∀ c, pClass? id = some c → c = .l ∨ c = .f ∨ c = .s → pInRange id (le4 (s.reqBody i) 4) = false →
      exec (.paramSet i) s = (s.taken i).answered i stOutOfRange []) ∧
    (pClass? id = some .s → pInRange id (le4 (s.reqBody i) 4) = true → s.funcStopped (pOwner id) = false →
      exec (.paramSet i) s = (s.taken i).answered i stNeedsStop [])

/-- What a PARAM_SET writes (R143, R160): class F and S values are staged and no other shadow changes; a class L value is active at once and reads back. PARAM_SET_MULTI stages its entries in order when all pass and names the first that fails otherwise. A PARAM_SET of LOG.CLEAR, LOG.FIRST_FAULT_CLEAR or PWR.RES_CLEAR with 1 (R455 to R457, R521): the log is emptied and LOG_CLEARED opens it, the first fault is released, every residency count returns to 0; the parameter itself reads as before. -/
def Obligations.ParameterSetWritesOrClears : Prop :=
  ((∀ (i : Mb) (id v : Nat) (c : PClass) (s : State), s.served i (.fixed 0x0011 8 fun p => zeroAt p 2 2) = true → le2 (s.reqBody i) 0 = id →
    le4 (s.reqBody i) 4 = v → pClass? id = some c → c = .f ∨ c = .s → s.setStatus id v = stOk →
    ∃ t : State, exec (.paramSet i) s = t.answered i stOk [] ∧ aget? t.par.staged id = some (Word.of v) ∧ t.par.applied = false ∧
      (∀ j, j ≠ id → aget? t.par.staged j = aget? s.par.staged j) ∧ t.par.active = s.par.active ∧ t.par.waiting = s.par.waiting ∧
      t.mem = s.mem ∧ t.nv = s.nv ∧ t.ras = s.ras ∧ t.tab = s.tab ∧ t.pwr = s.pwr) ∧
  (∀ (i : Mb) (id v : Nat) (s : State), s.served i (.fixed 0x0011 8 fun p => zeroAt p 2 2) = true → le2 (s.reqBody i) 0 = id →
    le4 (s.reqBody i) 4 = v → pClass? id = some .l → ¬ [0x1404, 0x1405, 0x0C07].contains id → id / 128 ≠ 0x4C00 / 128 → s.setStatus id v = stOk →
    s.paramsSorted →
    ∃ t : State, exec (.paramSet i) s = t.answered i stOk [] ∧ t.param id = v ∧ (∀ j, j ≠ id → t.param j = s.param j) ∧
      t.par.staged = s.par.staged ∧ t.paramsSorted ∧ t.mem.cells = s.mem.cells ∧ t.nv = s.nv ∧ t.ras = s.ras) ∧
  (∀ (i : Mb) (vs : List (Nat × Nat)) (s : State), s.served i cmdParamSetMulti = true →
    vs = (List.range (le2 (s.reqBody i) 0)).map (fun k => (le2 (s.reqBody i) (4 + 6 * k), le4 (s.reqBody i) (6 + 6 * k))) →
    (∀ k st, s.firstBad vs = some (k, st) → exec (.paramSetMulti i) s = (s.taken i).answered i st (toLe 2 k ++ zeros 2)) ∧
    (s.firstBad vs = none → (∀ e ∈ vs, pClass? e.1 = some .f ∨ pClass? e.1 = some .s) →
      ∃ (t : State) (n : Nat), exec (.paramSetMulti i) s = t.answered i stOk (toLe 2 n ++ zeros 2) ∧
        t.par.staged = vs.foldl (fun l e => aset l e.1 (Word.of e.2)) s.par.staged ∧ t.par.active = s.par.active))) ∧
  ((∀ (i : Mb) (s : State), s.served i (.fixed 0x0011 8 fun p => zeroAt p 2 2) = true → le2 (s.reqBody i) 0 = 0x1405 →
    le4 (s.reqBody i) 4 = 1 → s.param 0x1403 = 0 →
    ∃ t : State, exec (.logClear i) s = t.answered i stOk [] ∧ t.log.ring.map (·.code) = [0x1500] ∧
      t.log.ring.map (·.data.toNat) = [s.log.ring.length % 2 ^ 32] ∧ t.log.lost = 0 ∧ t.log.first = s.log.first ∧ t.par = s.par) ∧
  (∀ (i : Mb) (s : State), s.served i (.fixed 0x0011 8 fun p => zeroAt p 2 2) = true → le2 (s.reqBody i) 0 = 0x1404 →
    le4 (s.reqBody i) 4 = 1 →
    exec (.logFirstFaultClear i) s = ({ s.taken i with log := { s.log with first := none } }).answered i stOk []) ∧
  (∀ (i : Mb) (s : State), s.served i (.fixed 0x0011 8 fun p => zeroAt p 2 2) = true → le2 (s.reqBody i) 0 = 0x0C07 →
    le4 (s.reqBody i) 4 = 1 →
    ∃ t : State, exec (.pwrResClear i) s = t.answered i stOk [] ∧ t.par = s.par ∧
      ∀ d : Fin 19, t.pwr.dom[d] = { s.pwr.dom[d] with resOn := 0, resRet := 0, resOff := 0 }) ∧
  (∀ (i : Mb) (s : State), (le2 (s.reqBody i) 0 ≠ 0x1405 → exec (.logClear i) s = .next s) ∧
    (le2 (s.reqBody i) 0 ≠ 0x1404 → exec (.logFirstFaultClear i) s = .next s) ∧
    (le2 (s.reqBody i) 0 ≠ 0x0C07 → exec (.pwrResClear i) s = .next s)))

/-- COMMIT while no frames run (R152, R155): if every agreement set that the staged F values touch holds, they become active together, no F shadow stays, and OK names the next frame. A set that fails answers MISMATCH with its SET_ID and changes nothing. -/
def Obligations.CommitAppliesTogether : Prop :=
  (∀ (i : Mb) (s : State), s.served i (.bare 0x0020) = true → s.framesRun = false → s.failingSet true false s.stagedF = none →
    ¬ (s.changesTiming s.stagedF = true ∧ s.isFollower = true) →
    ∃ t : State, exec (.commit i) s = t.answered i stOk (commitResp (s.ras.frame + 1).toNat 0) ∧
      t.par.active = (s.stagedF.foldl (fun p v => p.put v.1 v.2) s.par).active ∧ t.par.staged = dropF s.par.staged ∧
      t.par.lastTarget = s.ras.frame + 1 ∧ t.par.applied = true ∧ t.par.waiting = s.par.waiting) ∧
  (∀ (i : Mb) (k : Nat) (s : State), s.served i (.bare 0x0020) = true → s.failingSet true false s.stagedF = some k →
    exec (.commit i) s = (s.taken i).answered i stMismatch (commitResp 0 k))

/-- COMMIT while frames run (R152, R154): values that change no member of TIM_RASTER wait, frozen, for the next frame if the deadline of the current one has not passed, else for the one after; the active values stay until then. -/
def Obligations.CommitWaitsForItsFrame : Prop :=
  ∀ (i : Mb) (s : State), s.served i (.bare 0x0020) = true → s.framesRun = true → s.failingSet true false s.stagedF = none →
    s.changesTiming s.stagedF = false → s.param 0x2800 ≠ 2 → s.armedFrame = none →
    ∃ t : State, exec (.commit i) s =
        t.answered i (if s.beforeDeadline then stOk else stDeferred) (commitResp (s.ras.frame + BitVec.ofNat 32 s.ahead).toNat 0) ∧
      t.par.waiting = s.par.waiting ++ [⟨s.ras.frame + BitVec.ofNat 32 s.ahead, s.stagedF, false⟩] ∧ t.par.staged = dropF s.par.staged ∧
      t.par.active = s.par.active ∧ t.par.lastTarget = s.ras.frame + BitVec.ofNat 32 s.ahead ∧ t.par.applied = false ∧
      s.ahead = (if !s.ras.inBlank && decide (s.ras.rowsStarted + 64 ≤ s.param 0x2802) then 1 else 2)

/-- COMMIT_STATUS and DISCARD (R159, R160): the status names the last target, the state and the staged count; DISCARD empties every shadow unless a commit waits, which answers BUSY. -/
def Obligations.CommitStatusAndDiscard : Prop :=
  (∀ (i : Mb) (s : State), s.served i (.bare 0x0021) = true →
    exec (.commitStatus i) s = (s.taken i).answered i stOk (toLe 4 s.par.lastTarget.toNat ++
      [Byte.of (if s.par.waiting ≠ [] then 2 else if s.par.applied then 3 else if s.par.staged = [] then 0 else 1), 0] ++
      toLe 2 s.par.staged.length)) ∧
  (∀ (i : Mb) (s : State), s.served i (.bare 0x0022) = true → s.par.waiting = [] →
    exec (.discard i) s =
      ({ s.taken i with par := { s.par with staged := [] } }).answered i stOk (toLe 2 s.par.staged.length ++ zeros 2)) ∧
  (∀ (i : Mb) (s : State), s.served i (.bare 0x0022) = true → s.par.waiting ≠ [] →
    exec (.discard i) s = (s.taken i).answered i stBusy [])

/-- PROFILE_APPLY (R138, R265, R315, R352): OUT_OF_RANGE for a function or profile outside the catalogue; while no frames run the profile's values become active together with what was staged, and FUNC_STATE names the profile. -/
def Obligations.ProfilesApply : Prop :=
  (∀ (i : Mb) (s : State), s.served i (.fixed 0x0060 4 fun p => zeroAt p 2 2) = true →
    (∀ f, funcOf? (byteAt (s.reqBody i) 0).toNat = some f → catalogueValues f (byteAt (s.reqBody i) 1).toNat = none) →
    exec (.profileApply i) s = (s.taken i).answered i stOutOfRange []) ∧
  (∀ (i : Mb) (f : Func) (vs : List (Nat × Nat)) (s : State), s.served i (.fixed 0x0060 4 fun p => zeroAt p 2 2) = true →
    funcOf? (byteAt (s.reqBody i) 0).toNat = some f → catalogueValues f (byteAt (s.reqBody i) 1).toNat = some vs →
    (f = .sensing → s.param 0x4800 ≠ 0) → s.framesRun = false → s.par.staged = [] → s.isFollower = false →
    s.failingSet true false (vs.map fun v => (v.1, Word.of v.2)) = none →
    ∃ t : State, exec (.profileApply i) s = t.answered i stOk (commitResp (s.ras.frame + 1).toNat 0) ∧
      (t.fn.get f).profile = (byteAt (s.reqBody i) 1).toNat ∧ (s.paramsSorted → ∀ v ∈ vs, t.param v.1 = v.2))

/-! ## Functions and modes -/

/-- FUNC_STOP and FUNC_RESET (R133, R161, R162): while frames run the change waits for the next frame whose deadline has not passed and the response is held; otherwise it takes effect at once; a function already stopped, a failed domain, an unknown code and a reset of the raster are answered at once. -/
def Obligations.FunctionsStopAndReset : Prop :=
  (∀ (i : Mb) (f : Func) (s : State), s.served i (.fixed 0x0030 4 fun p => zeroAt p 1 3) = true →
    funcOf? (byteAt (s.reqBody i) 0).toNat = some f → f ≠ .raster → s.funcFailed f = false → s.isDegraded f = false → s.funcStopped f = false →
    (s.framesRun = true →
      exec (.funcStop i) s = ({ s.taken i with fn := { s.fn with pend := s.fn.pend ++
        [({ func := f, change := .stop, target := s.ras.frame + BitVec.ofNat 32 s.ahead, mb := some i, live := false } : FuncPend)] } }).heldFor i f) ∧
    (s.framesRun = false →
      ∃ t : State, exec (.funcStop i) s = t.answered i stOk (toLe 4 (s.ras.frame + 1).toNat) ∧ t.funcStopped f = true)) ∧
  (∀ (i : Mb) (f : Func) (s : State), s.served i (.fixed 0x0030 4 fun p => zeroAt p 1 3) = true →
    funcOf? (byteAt (s.reqBody i) 0).toNat = some f →
    (s.funcFailed f = true → exec (.funcStop i) s = (s.taken i).answered i stDomainFailed []) ∧
    (s.funcFailed f = false → f ≠ .raster → s.isDegraded f = false → s.funcStopped f = true →
      exec (.funcStop i) s = (s.taken i).answered i stOk (toLe 4 s.ras.frame.toNat))) ∧
  (∀ (i : Mb) (f : Func) (s : State), s.served i (.fixed 0x00F0 4 fun p => zeroAt p 1 3) = true →
    funcOf? (byteAt (s.reqBody i) 0).toNat = some f →
    (f = .raster → exec (.funcReset i) s = (s.taken i).answered i stDenied []) ∧
    (f ≠ .raster → s.isDegraded f = true → exec (.funcReset i) s = (s.taken i).answered i stBusy []) ∧
    (f ≠ .raster → s.isDegraded f = false → s.funcFailed f = false → s.framesRun = true →
      exec (.funcReset i) s = ({ s.taken i with fn := { s.fn with pend := s.fn.pend ++
        [({ func := f, change := .reset, target := s.ras.frame + BitVec.ofNat 32 s.ahead, mb := some i, live := false } : FuncPend)] } }).heldFor i f)) ∧
  (∀ (i : Mb) (s : State), funcOf? (byteAt (s.reqBody i) 0).toNat = none →
    (s.served i (.fixed 0x0030 4 fun p => zeroAt p 1 3) = true → exec (.funcStop i) s = (s.taken i).answered i stOutOfRange []) ∧
    (s.served i (.fixed 0x0031 4 fun p => zeroAt p 1 3) = true → exec (.funcStart i) s = (s.taken i).answered i stOutOfRange []) ∧
    (s.served i (.fixed 0x00F0 4 fun p => zeroAt p 1 3) = true → exec (.funcReset i) s = (s.taken i).answered i stOutOfRange []))

/-- FUNC_START (R155, R163, R400): a running function answers its frame and nothing changes; a stopped one that owns no staged value starts at its frame, or at once while no frames run; of the raster with the panel off it starts the panel's power sequence. FUNC_STATE (R132): one entry of four bytes per function, with STATE 4 failed, else 1 stopped, else 2 degraded, else 3 lacking a part, else 0; 0xFF reads all seven in order. -/
def Obligations.FunctionsStartAndReport : Prop :=
  ((∀ (i : Mb) (f : Func) (s : State), s.served i (.fixed 0x0031 4 fun p => zeroAt p 1 3) = true →
      funcOf? (byteAt (s.reqBody i) 0).toNat = some f → s.isDegraded f = false → s.funcStopped f = false →
      exec (.funcStart i) s = (s.taken i).answered i stOk (toLe 4 s.ras.frame.toNat)) ∧
    (∀ (i : Mb) (f : Func) (s : State), s.served i (.fixed 0x0031 4 fun p => zeroAt p 1 3) = true →
      funcOf? (byteAt (s.reqBody i) 0).toNat = some f → f ≠ .hostLink → f ≠ .raster →
      s.isDegraded f = false → s.funcStopped f = true → s.funcFailed f = false → s.par.staged = [] →
      (s.framesRun = true →
        ∃ t : State, exec (.funcStart i) s = t.heldFor i f ∧ t.par.active = s.par.active ∧ t.fn.pend = s.fn.pend ++
          [({ func := f, change := .start, target := s.ras.frame + BitVec.ofNat 32 s.ahead, mb := some i, live := false } : FuncPend)]) ∧
      (s.framesRun = false →
        ∃ t : State, exec (.funcStart i) s = t.answered i stOk (toLe 4 (s.ras.frame + 1).toNat) ∧ t.funcStopped f = false)) ∧
    (∀ (i : Mb) (s : State), s.served i (.fixed 0x0031 4 fun p => zeroAt p 1 3) = true → funcOf? (byteAt (s.reqBody i) 0).toNat = some .hostLink →
      s.isDegraded .hostLink = false → s.fn.hostLink.stopped = true → s.funcFailed .hostLink = false → s.par.staged = [] → s.framesRun = false →
      ∃ t : State, exec (.funcStart i) s = t.answered i stOk (toLe 4 (s.ras.frame + 1).toNat) ∧ t.fn.hostLink.stopped = false ∧ t.hl.vote = true) ∧
    (∀ (i : Mb) (s : State), s.served i (.fixed 0x0031 4 fun p => zeroAt p 1 3) = true → funcOf? (byteAt (s.reqBody i) 0).toNat = some .raster →
      s.isDegraded .raster = false → s.ras.running = false → s.pnl.st = .off → s.par.staged = [] → s.panelSetFails true = none →
      s.funcFailed .raster = false →
      ∃ t, exec (.funcStart i) s = .next t ∧ t.pnl.st = .poweringOn ∧ t.sel.driven = true ∧ t.par.active = s.par.active ∧
        t.box.jobs.map (·.code) = s.box.jobs.map (·.code) ++ [0x0031])) ∧
  ((∀ (i : Mb) (f : Func) (s : State), s.served i (.fixed 0x0032 4 fun p => zeroAt p 1 3) = true →
      funcOf? (byteAt (s.reqBody i) 0).toNat = some f →
      exec (.funcState i) s = (s.taken i).answered i stOk
        [Byte.of f.code, if s.funcFailed f then 4 else if s.funcStopped f then 1 else if s.isDegraded f then 2 else if s.funcLacks f then 3 else 0,
         Byte.of (s.fn.get f).profile, 0]) ∧
    (∀ (i : Mb) (s : State), s.served i (.fixed 0x0032 4 fun p => zeroAt p 1 3) = true → byteAt (s.reqBody i) 0 = 0xFF →
      exec (.funcState i) s = (s.taken i).answered i stOk
        ([Func.overdrive, .pricking, .applique, .dither, .hostLink, .sensing, .raster].flatMap fun f =>
          [Byte.of f.code, if s.funcFailed f then 4 else if s.funcStopped f then 1 else if s.isDegraded f then 2 else if s.funcLacks f then 3 else 0,
           Byte.of (s.fn.get f).profile, 0])) ∧
    (∀ (i : Mb) (s : State), s.served i (.fixed 0x0032 4 fun p => zeroAt p 1 3) = true → byteAt (s.reqBody i) 0 ≠ 0xFF →
      funcOf? (byteAt (s.reqBody i) 0).toNat = none → exec (.funcState i) s = (s.taken i).answered i stOutOfRange []))


/-- MODE_CHANGE (R256 to R258): an unknown mode answers OUT_OF_RANGE; a running raster takes the mode through a continuity transition whose target the response names; with the raster stopped the mode is active at once and the job is over. -/
def Obligations.ModeChangesThroughATransition : Prop :=
  (∀ (i : Mb) (s : State), s.served i (.fixed 0x0040 4 fun p => zeroAt p 1 3) = true → modeOf? (byteAt (s.reqBody i) 0).toNat = none →
    exec (.modeChange i) s = (s.taken i).answered i stOutOfRange []) ∧
  (∀ (i : Mb) (m : Mode) (s : State), s.served i (.fixed 0x0040 4 fun p => zeroAt p 1 3) = true → modeOf? (byteAt (s.reqBody i) 0).toNat = some m →
    m ≠ .lattice → s.memLost = false → s.par.staged = [] → s.isFollower = false → s.ras.transition = none → s.framesRun = true →
    s.timMode ≠ m → s.armedFrame = none →
    ∃ t, exec (.modeChange i) s = .next t ∧
      (t.ras.transition = some { n0 := s.ras.frame + BitVec.ofNat 32 s.ahead, mode := m, phase := .waiting, cmd := true, cause := 1, thermal := false }) ∧
      t.box.jobs.map (·.code) = s.box.jobs.map (·.code) ++ [0x0040] ∧ t.par = s.par) ∧
  (∀ (i : Mb) (m : Mode) (s : State), s.served i (.fixed 0x0040 4 fun p => zeroAt p 1 3) = true → modeOf? (byteAt (s.reqBody i) 0).toNat = some m →
    m ≠ .lattice → s.memLost = false → s.par.staged = [] → s.isFollower = false → s.ras.transition = none → s.ras.running = false →
    s.paramsSorted →
    ∃ t, exec (.modeChange i) s = .next t ∧ t.param 0x2800 = m.code ∧ t.box.jobs = s.box.jobs)

/-! ## Tables -/

/-- TABLE_LOAD (R134, R167, R169): a fragment joins its instance, which is LOADING; on LAST a table that passes every check is VALID and one that fails is INVALID and answers CHECK_FAILED; a table in use by a running owner answers NEEDS_STOP; unknown and read-only tables are refused; a surface-pool fragment is written to GDDR7. TABLE_READ (R134, R170): the bytes of a table from its offset, bytes never loaded reading 0x00; of the surface pool the bytes in GDDR7; nothing changes. -/
def Obligations.TablesLoadAndRead : Prop :=
  ((∀ (i : Mb) (id : Nat) (f : Frag) (s : State), s.served i cmdTableLoad = true → le2 (s.reqBody i) 0 = id → fragAt (s.reqBody i) 4 = f →
      1 ≤ id / 256 → id / 256 ≤ 3 → tableKnown id = true → (s.tableInUse id = false ∨ s.tableOwnerRuns id = false) →
      (if f.first then f.offset = 0 else (s.table id).st = .loading ∧ f.offset = (s.table id).nextOff) →
      let old := if f.first then [] else (s.table id).bytes
      let next := f.offset + f.data.length
      (f.last = false →
        ∃ t : State, exec (.tableLoad i) s = t.answered i stOk (toLe 4 next) ∧ t.table id = { id := id, st := .loading, nextOff := next, bytes := old ++ f.data }) ∧
      (∀ b, f.last = true → s.tableCheck id (old ++ f.data) = some b →
        ∃ t : State, exec (.tableLoad i) s = t.answered i stOk (toLe 4 next) ∧ t.tableValid id = true ∧ (t.table id).bytes = b) ∧
      (f.last = true → s.tableCheck id (old ++ f.data) = none →
        ∃ t : State, exec (.tableLoad i) s = t.answered i stCheckFailed [] ∧ (t.table id).st = .invalid)) ∧
    (∀ (i : Mb) (id : Nat) (s : State), s.served i cmdTableLoad = true → le2 (s.reqBody i) 0 = id →
      (tableKnown id = false → exec (.tableLoad i) s = (s.taken i).answered i stOutOfRange []) ∧
      (tableKnown id = true → id / 256 = 0x20 ∨ id / 256 = 0x21 → exec (.tableLoad i) s = (s.taken i).answered i stReadOnly []) ∧
      (tableKnown id = true → 1 ≤ id / 256 → id / 256 ≤ 3 → s.tableInUse id = true → s.tableOwnerRuns id = true →
        exec (.tableLoad i) s = (s.taken i).answered i stNeedsStop [])) ∧
    (∀ (i : Mb) (f : Frag) (s : State), s.served i cmdTableLoad = true → le2 (s.reqBody i) 0 = 0xFF00 → fragAt (s.reqBody i) 4 = f →
      f.offset % 4 = 0 → f.offset + f.data.length ≤ 0x40000000 → Memory.wf s = true →
      ∃ t : State, exec (.tableLoad i) s = t.answered i stOk (toLe 4 (f.offset + f.data.length)) ∧
        t.ramBytes (0x44000000 + f.offset) f.data.length = f.data ∧
        ∀ a, a < 0x44000000 + f.offset ∨ 0x44000000 + f.offset + f.data.length ≤ a → t.ram a = s.ram a)) ∧
  ((∀ (i : Mb) (id : Nat) (s : State), s.served i cmdTableRead = true → le2 (s.reqBody i) 0 = id → tableKnown id = true → id ≠ 0xFF00 →
      (id / 256 ≤ 3 ∨ 5 ≤ id / 256 ∧ id / 256 ≤ 7) →
      exec (.tableRead i) s = (s.taken i).answered i stOk ((List.range (le2 (s.reqBody i) 2)).map fun k =>
        (s.table id).bytes.getD (le4 (s.reqBody i) 4 + k) 0)) ∧
    (∀ (i : Mb) (s : State), s.served i cmdTableRead = true → le2 (s.reqBody i) 0 = 0xFF00 →
      le4 (s.reqBody i) 4 + le2 (s.reqBody i) 2 ≤ 0x40000000 →
      exec (.tableRead i) s = (s.taken i).answered i stOk (s.ramBytes (0x44000000 + le4 (s.reqBody i) 4) (le2 (s.reqBody i) 2))) ∧
    (∀ (i : Mb) (s : State), s.served i cmdTableRead = true → tableKnown (le2 (s.reqBody i) 0) = false →
      exec (.tableRead i) s = (s.taken i).answered i stOutOfRange []))


/-! ## Power votes and standby -/

/-- VOTE and PWR_STATE (R510, R511): a vote replaces the host's votes on its domains and answers both masks; PWR_STATE 0 reads every domain's state; 1 votes the run set on; 2 and 3 answer BUSY unless the panel is off, and then drop the host votes and ask for standby. STANDBY_ENTRY (R511, R517): it waits for snapshots and flash work; then CTRL goes to retention, or off in deep standby, GDDR7 to retention or off, every other domain but a voted TAT off, and the job of PWR_STATE ends. -/
def Obligations.VotesPowerStatesAndStandby : Prop :=
  ((∀ (i : Mb) (s : State), s.served i (.fixed 0x0070 8 fun p => zeroAt p 5 3) = true → le4 (s.reqBody i) 0 ≤ 0x7FFFF →
    (byteAt (s.reqBody i) 4).toNat ≤ 2 →
    let m := BitVec.ofNat 32 (le4 (s.reqBody i) 0)
    let on := (s.pwr.hostOn &&& ~~~m) ||| (if byteAt (s.reqBody i) 4 = 1 then m else 0)
    let ret := (s.pwr.hostRet &&& ~~~m) ||| (if byteAt (s.reqBody i) 4 = 2 then m else 0)
    exec (.vote i) s = ({ s.taken i with pwr := { s.pwr with hostOn := on, hostRet := ret } }).answered i stOk (toLe 4 on.toNat ++ toLe 4 ret.toNat)) ∧
  (∀ (i : Mb) (s : State), s.served i (.fixed 0x0070 8 fun p => zeroAt p 5 3) = true →
    (0x7FFFF < le4 (s.reqBody i) 0 ∨ 2 < (byteAt (s.reqBody i) 4).toNat) → exec (.vote i) s = (s.taken i).answered i stOutOfRange []) ∧
  (∀ (i : Mb) (s : State), s.served i (.fixed 0x0071 4 fun p => zeroAt p 1 3) = true →
    (byteAt (s.reqBody i) 0 = 0 → exec (.pwrState i) s = (s.taken i).answered i stOk (toLe 4 s.domainState0 ++ toLe 4 s.domainState1)) ∧
    (byteAt (s.reqBody i) 0 = 2 ∨ byteAt (s.reqBody i) 0 = 3 → s.pnl.st ≠ .off →
      exec (.pwrState i) s = (s.taken i).answered i stBusy []) ∧
    (byteAt (s.reqBody i) 0 = 2 ∨ byteAt (s.reqBody i) 0 = 3 → s.pnl.st = .off →
      exec (.pwrState i) s =
        let t := (s.taken i).accepted i 0x0071 (toLe 4 s.domainState0 ++ toLe 4 s.domainState1)
        .next ({ t with pwr := { t.pwr with standby := some { deep := byteAt (s.reqBody i) 0 == 3 }, hostOn := 0, hostRet := 0, runVote := false, bootVote := false } }).settle) ∧
    (byteAt (s.reqBody i) 0 = 1 → (∀ d : Fin 19, (s.param 0x0C02).testBit d.val = true → s.domFailed d = false) →
      ∃ t, exec (.pwrState i) s = .next t ∧ t.pwr.runVote = true) ∧
    (3 < (byteAt (s.reqBody i) 0).toNat → exec (.pwrState i) s = (s.taken i).answered i stOutOfRange []))) ∧
  ((∀ s : State, (s.pwr.standby = none ∨ s.snapBusy = true ∨ s.flashBusy = true) → exec .standbyEntry s = .next s) ∧
  (∀ (deep : Bool) (s : State), s.pwr.standby = some { deep := deep } → s.snapBusy = false → s.flashBusy = false → s.pwr.wakeLatched = 0 →
    (∀ d : Fin 19, s.pwr.dom[d].st ≠ .failed) →
    ∃ t, exec .standbyEntry s = .next t ∧ t.pwr.asleep = true ∧ t.pwr.deep = deep ∧ t.pwr.standby = none ∧
      t.pwr.dom[dCtrl].st = (if deep then .off else .retention) ∧
      t.pwr.dom[dMem].st = (if deep ∨ s.pwr.dom[dMem].st = .off then .off else .retention) ∧
      (∀ d : Fin 19, d ≠ dCtrl → d ≠ dMem → d ≠ dTat → t.pwr.dom[d].st = .off) ∧ t.box.jobs.all (·.code != 0x0071) = true))

/-- Domain entry and wake (R507, R509, R514 to R518): the idle timer begins the entry, the entry completes to its state, WAKE_GRANT grants CTRL's wake first, a wake brings its domain on, a first failure is retried from off after PWR.RETRY_OFF_TIME and a second marks the domain failed. -/
def Obligations.DomainsEnterAndWake : Prop :=
  (∀ (d : Fin 19) (n : Nat) (s : State), s.pwr.dom[d].phase = .settled → s.pwr.dom[d].idleFrom = some n →
    s.pwr.dom[d].target.rank < s.pwr.dom[d].st.rank → s.votesLive = false →
    ∃ t, exec (.idleTimerExpiry d) s = .next t ∧ t.pwr.dom[d].phase = .entering s.pwr.dom[d].target ∧ t.pwr.dom[d].st = s.pwr.dom[d].st ∧
      t.now = max s.now (n + us (s.param (0x0C10 + d)))) ∧
  (∀ (d : Fin 19) (low : DomState) (s : State), s.pwr.dom[d].phase = .entering low →
    ∃ t, exec (.domainEntryDone d) s = .next t ∧ t.pwr.dom[d].st = low) ∧
  (∀ s : State, s.pwr.dom[dCtrl].phase = .queued → s.inrushUsed + domCost dCtrl (s.pwr.dom[dCtrl].st == .off) ≤ s.param 0x0C00 →
    (∀ d : Fin 19, d ≠ dCtrl → s.pwr.dom[d].phase ≠ .queued) →
    ∃ t, exec .wakeGrant s = .next t ∧ t.pwr.dom[dCtrl].phase = .waking (s.pwr.dom[dCtrl].st == .off) s.now ∧
      ∀ d : Fin 19, d ≠ dCtrl → t.pwr.dom[d] = s.pwr.dom[d]) ∧
  (∀ (d : Fin 19) (off : Bool) (n : Nat) (s : State), s.pwr.dom[d].phase = .waking off n → d ≠ dCtrl →
    ∃ t, exec (.domainWakeDone d) s = .next t ∧ t.domOn d = true ∧ t.pwr.dom[d].fails = 0) ∧
  (∀ (d : Fin 19) (lock off : Bool) (n : Nat) (s : State), s.pwr.dom[d].phase = .waking off n → s.pwr.dom[d].fails = 0 →
    ∃ t, exec (.wakeFailureTimeout d lock) s = .next t ∧ t.pwr.dom[d].st = .off ∧ t.pwr.dom[d].fails = 1 ∧
      t.now = max s.now (n + us (2 * domWakeUs d off))) ∧
  (∀ (d : Fin 19) (lock off : Bool) (n : Nat) (s : State), s.pwr.dom[d].phase = .waking off n → s.pwr.dom[d].fails ≠ 0 → d = dCodec ∨ d = dSec →
    ∃ t, exec (.wakeFailureTimeout d lock) s = .next t ∧ t.domFailed d = true) ∧
  (∀ (d : Fin 19) (n : Nat) (s : State), s.pwr.dom[d].phase = .retryOff → s.pwr.dom[d].idleFrom = some n → s.votesLive = false →
    ∃ t, exec (.retryOffExpiry d) s = .next t ∧ t.pwr.dom[d].phase = .queued ∧ t.now = max s.now (n + us (s.param 0x0C06)))

/-- Wake sources (R112, R512, R513): CTL_CS_N, the SVC address, Tatting activity and the wake timer each set their WAKE_CAUSE bit and raise their wake votes where PWR.WAKE_EN lets them count; the votes lapse once CTRL is on. -/
def Obligations.WakeSourcesQualify : Prop :=
  (∀ s : State, s.boot.powered = true → s.wakeCounts .ctl = true → s.pwr.asleep = false → s.domOn dCtrl = false →
    ∃ t, exec .ctlCsWake s = .next t ∧ t.win.csLow = true ∧ t.win.wakeCause.getLsbD 3 = true ∧
      t.pwr.wakeVote = s.pwr.wakeVote ||| BitVec.ofNat 32 (s.param 0x0C33)) ∧
  (∀ s : State, s.boot.powered = true → s.wakeCounts .ctl = false →
    ∃ p, exec .ctlCsWake s = .next { s with win := { s.win with csLow := true, ctlDead := false, ctlDrive := false, quadNow := s.win.quadEn && !s.boot.limp }, pwr := p }) ∧
  (∀ s : State, s.wakeCounts .svc = true → s.pwr.asleep = false → s.domOn dCtrl = false →
    ∃ t, exec .svcAddressMatch s = .next t ∧ t.win.wakeCause.getLsbD 4 = true ∧
      t.pwr.wakeVote = s.pwr.wakeVote ||| BitVec.ofNat 32 (s.param 0x0C34)) ∧
  (∀ s : State, s.wakeCounts .picot = true → s.pwr.asleep = false → s.domOn dCtrl = false →
    ∃ t, exec .picotActivity s = .next t ∧ t.win.wakeCause.getLsbD 2 = true ∧
      t.pwr.wakeVote = s.pwr.wakeVote ||| BitVec.ofNat 32 (s.param 0x0C32)) ∧
  (∀ (n : Nat) (s : State), s.pwr.wakeTimer = some n → s.wakeCounts .timer = true → s.pwr.asleep = false → s.domOn dCtrl = false →
    ∃ t, exec .wakeTimerExpiry s = .next t ∧ t.pwr.wakeTimer = none ∧ t.win.wakeCause.getLsbD 6 = true ∧ t.now = max s.now n ∧
      t.pwr.wakeVote = s.pwr.wakeVote ||| BitVec.ofNat 32 (s.param 0x0C36)) ∧
  (∀ s : State, s.domOn dCtrl = true → ∃ t, exec .wakeVoteLapse s = .next t ∧ t.pwr.wakeVote = 0)

/-! ## Panel power, Bobbin links and the rest sweep -/

/-- PANEL_ON, PANEL_OFF and PANEL_SAFE_STOP (R400 to R404): from off, PANEL_ON is ACCEPTED and drives every used output at logical 0; it answers OK when on, BUSY in between, MISMATCH and DOMAIN_FAILED where those hold. From on, PANEL_OFF and PANEL_SAFE_STOP are ACCEPTED and darken the panel; from off they answer OK. -/
def Obligations.PanelCommandsAct : Prop :=
  (∀ (i : Mb) (s : State), s.served i (.bare 0x00D0) = true →
    (s.pnl.st = .off → s.anyFailed [dPipe, dSram0, dSram1, dBobl, dBobr] = false → s.panelSetFails true = none →
      ∃ t, exec (.panelOn i) s = .next t ∧ t.pnl.st = .poweringOn ∧ t.pnl.step = .hold ∧ t.pnl.stepAt = s.now ∧ t.sel.driven = true ∧
        t.sel.level = 0 ∧ t.pnl.enables = 0 ∧ t.box.jobs.map (·.code) = s.box.jobs.map (·.code) ++ [0x00D0]) ∧
    (s.pnl.st = .off → s.anyFailed [dPipe, dSram0, dSram1, dBobl, dBobr] = true →
      exec (.panelOn i) s = (s.taken i).answered i stDomainFailed []) ∧
    (s.pnl.st = .off → s.anyFailed [dPipe, dSram0, dSram1, dBobl, dBobr] = false → s.panelSetFails true ≠ none →
      exec (.panelOn i) s = (s.taken i).answered i stMismatch []) ∧
    (s.pnl.st = .on → exec (.panelOn i) s = (s.taken i).answered i stOk []) ∧
    (s.pnl.st ≠ .off → s.pnl.st ≠ .on → exec (.panelOn i) s = (s.taken i).answered i stBusy [])) ∧
  (∀ (i : Mb) (s : State), s.served i (.fixed 0x00D1 4 fun p => le4 p 0 < 2) = true →
    (s.pnl.st = .off → exec (.panelOff i) s = (s.taken i).answered i stOk []) ∧
    (s.pnl.st = .on → s.ras.running = true →
      ∃ t, exec (.panelOff i) s = .next t ∧ t.pnl.st = .darkening ∧ t.pnl.cause = 2 ∧ t.pnl.blackLeft = s.param 0x4811 ∧
        t.pnl.restWanted = (le4 (s.reqBody i) 0).testBit 0 ∧ t.ras.running = true ∧ t.ras.rowEnd = s.ras.rowEnd)) ∧
  (∀ (i : Mb) (s : State), s.served i (.bare 0x00D2) = true →
    (s.pnl.st = .off → exec (.panelSafeStop i) s = (s.taken i).answered i stOk []) ∧
    (s.pnl.st = .on → s.ras.running = true →
      ∃ t, exec (.panelSafeStop i) s = .next t ∧ t.pnl.st = .darkening ∧ t.pnl.cause = 3 ∧ t.pnl.blackLeft = s.param 0x4811 ∧
        t.pnl.restWanted = false ∧ t.ras.running = true ∧ t.ras.rowEnd = (if s.ras.inBlank then s.ras.rowEnd else max 1 s.ras.rowsStarted)))

/-- The panel's power sequence (R387 to R390, R401, R403): the enables rise in order after their delays and training follows the last; training goes through its phases, a fall of BOB_LOCK_N ends the lock unless the panel darkens, passes when every driver has, and is tried again or given up otherwise; after the discharge step the enables fall in reverse order, and with the last one the panel is off and its outputs are released. The rest sweep (R339, R340): each row is counted and named on SADDR; after the last, or at the limit, the sweep ends and the discharge step begins. -/
def Obligations.PanelSequenceSteps : Prop :=
  ((∀ (j : Nat) (s : State), s.pnl.st = .poweringOn → s.domOn dBobl = true → s.domOn dBobr = true →
      (s.pnl.step = .hold → s.enableFrom 0 = some j →
        ∃ t, exec .panelPowerOnStep s = .next t ∧ t.pnl.enables = s.pnl.enables ||| BitVec.ofNat 4 (2 ^ j) ∧ t.sel.level.getLsbD (0x1B + j) = true ∧
          t.pnl.st = .poweringOn ∧ t.now = max s.now (s.pnl.stepAt + us 10 + us (s.param (0x4808 + j)))) ∧
      (∀ k, s.pnl.step = .enable k → s.enableFrom (k + 1) = some j →
        ∃ t, exec .panelPowerOnStep s = .next t ∧ t.pnl.enables = s.pnl.enables ||| BitVec.ofNat 4 (2 ^ j) ∧ t.sel.level.getLsbD (0x1B + j) = true ∧
          t.pnl.st = .poweringOn ∧ t.now = max s.now (s.pnl.stepAt + us (s.param (0x4808 + j)))) ∧
      (s.pnl.step = .settle →
        ∃ t, exec .panelPowerOnStep s = .next t ∧ t.pnl.st = .training ∧ t.bob.phase = 1 ∧ t.bob.attempt = 1 ∧ t.bob.lockState = 1 ∧
          t.bob.driversOk = 0 ∧ t.now = max s.now (s.pnl.stepAt + us (s.param 0x4810)))) ∧
    (∀ s : State, s.pnl.st = .training →
      (s.bob.phase = 1 → ∃ t, exec .bobbinTrainingPhaseEnd s = .next t ∧ t.bob.phase = 2 ∧ t.now = max s.now (s.bob.attemptAt + us 100)) ∧
      (s.bob.phase = 2 → ∃ t, exec .bobbinTrainingPhaseEnd s = .next t ∧ t.bob.phase = 3 ∧ t.now = max s.now (s.bob.attemptAt + us 150)) ∧
      (s.bob.phase = 3 → ∃ t, exec .bobbinTrainingPhaseEnd s = .next t ∧ t.bob.phase = 4 ∧ t.bob.initList = s.bobInit) ∧
      (s.bob.phase = 4 → s.driversLeft = [] →
        ∃ t, exec .bobbinTrainingPhaseEnd s = .next t ∧ t.pnl.st = .on ∧ t.boot.panelReady = true ∧ t.bob.lockState = (if s.bob.lineHigh then 2 else 3)) ∧
      (s.bob.phase = 4 → s.driversLeft ≠ [] → s.bob.attempt < s.param 0x4007 →
        ∃ t, exec .bobbinTrainingPhaseEnd s = .next t ∧ t.pnl.st = .training ∧ t.bob.attempt = s.bob.attempt + 1 ∧ t.bob.phase = 1) ∧
      (s.bob.phase = 4 → s.driversLeft ≠ [] → s.param 0x4007 ≤ s.bob.attempt →
        ∃ t, exec .bobbinTrainingPhaseEnd s = .next t ∧ t.pnl.st = .poweringOff ∧ t.pnl.cause = 6 ∧ t.pnl.step = .discharge)) ∧
    (∀ s : State, exec .bobLockNFall s = .next { s with bob :=
      if s.bob.lockState = 2 ∧ s.pnl.st = .darkening then { s.bob with lineHigh := false, lowThisFrame := true }
      else if s.bob.lockState = 2 then { s.bob with lineHigh := false, lockState := 3, lowBlanks := 0, lockFailRaised := false, lowThisFrame := true }
      else { s.bob with lineHigh := false } }) ∧
    (∀ s : State, exec .bobLockNRise s = .next { s with bob :=
      if s.bob.lockState = 3 then { s.bob with lineHigh := true, lockState := 2 } else { s.bob with lineHigh := true } }) ∧
    (∀ s : State, s.pnl.step = .discharge →
      (∀ k, k < 4 → (s.param 0x4807).testBit k = true → (∀ j, k < j → j < 4 → (s.param 0x4807).testBit j = false) →
        ∃ t, exec .dischargeStepEnd s = .next t ∧ t.pnl.step = .disable k ∧ t.pnl.st = s.pnl.st) ∧
      ((∀ j, j < 4 → (s.param 0x4807).testBit j = false) →
        ∃ t, exec .dischargeStepEnd s = .next t ∧ t.pnl.st = .off ∧ t.pnl.step = .none ∧ t.sel.driven = false ∧ t.bob.lockState = 0)) ∧
    (∀ (k : Nat) (s : State), k < 4 → s.pnl.step = .disable k →
      (∀ j, j < k → (s.param 0x4807).testBit j = true → (∀ m, j < m → m < k → (s.param 0x4807).testBit m = false) →
        ∃ t, exec .panelPowerOffStep s = .next t ∧ t.pnl.step = .disable j ∧ t.pnl.enables = s.pnl.enables &&& ~~~(BitVec.ofNat 4 (2 ^ k))) ∧
      ((∀ j, j < k → (s.param 0x4807).testBit j = false) →
        ∃ t, exec .panelPowerOffStep s = .next t ∧ t.pnl.st = .off ∧ t.pnl.enables = 0 ∧ t.sel.driven = false))) ∧
  ((∀ (rs : List (BitVec 16)) (s : State), s.pnl.st = .restSweep → s.prk.restRows + 1 < s.param 0x2802 →
      ∃ t, exec (.restSweepRow rs) s = .next t ∧ t.prk.restRows = s.prk.restRows + 1 ∧ t.sel.saddr = s.sweepRow s.prk.restRows ∧
        t.pnl.st = .restSweep) ∧
    (∀ (rs : List (BitVec 16)) (s : State), s.pnl.st = .restSweep → s.param 0x2802 ≤ s.prk.restRows + 1 →
      ∃ t, exec (.restSweepRow rs) s = .next t ∧ t.prk.rest = false ∧ t.pnl.st = .poweringOff ∧ t.pnl.step = .discharge) ∧
    (∀ s : State, s.pnl.st = .restSweep →
      ∃ t, exec .restLimitExpiry s = .next t ∧ t.prk.rest = false ∧ t.pnl.st = .poweringOff ∧ t.pnl.step = .discharge))


/-! ## Sensing, update passes and snapshots -/

/-- Sensing, update passes, snapshots and map stores (R330, R332, R334, R344 to R347, R388, R394, R395): a blank that senses takes the next rows of the sweep; a sensed row joins the blank's rows, its address is shifted out and the sweep moves on, from the last row to 0, unless it has just restarted; a reply and a reply that does not come each end the oldest request of their lane; a driver that reports enough lanes and columns in training counts as found; a temperature poll asks each driver of every lane once; an update pass starts while accumulation runs, or is held while a snapshot is copied, and at its end no fold waits and a fold stands in its pixel's record, but with pricking neutral by then folds stay pending; a snapshot is wanted when it starts, and complete when its store has committed, in the slot that does not hold the newest one; an overrun is noted and the snapshot goes on; a map store that ends no longer waits. -/
def Obligations.SensingAndUpdatesAct : Prop :=
  (∀ (k : Fin 4) (r : Nat) (s : State), s.ras.inBlank = true → k.val = s.prk.blank.rows.length → s.prk.senseDue[k.val]? = some r →
    ∃ t, exec (.sensedRow k) s = .next t ∧ t.prk.blank.rows = s.prk.blank.rows ++ [r] ∧ t.sel.saddr = r ∧
      t.prk.sweepK = (if s.prk.sweepFresh then s.prk.sweepK else if s.param 0x2802 ≤ s.prk.sweepK + 1 then 0 else s.prk.sweepK + 1)) ∧
  (∀ s : State, s.blankSenses true = true → s.thm.step < 2 → s.prk.sweepK + s.param 0x3408 ≤ s.param 0x2802 →
    (s.senseBlank true).prk.senseDue = (List.range (s.param 0x3408)).map fun i => s.sweepRow (s.prk.sweepK + i)) ∧
  (∀ (l : Fin 6) (m : List (BitVec 10)) (r : LaneReq) (rest : List LaneReq) (s : State), s.bob.lane l = r :: rest →
    (∃ t, exec (.senseReturnReply l m) s = .next t ∧ t.bob.lane l = rest) ∧ ∃ t, exec (.replyTimeout l) s = .next t ∧ t.bob.lane l = rest) ∧
  (∀ (l : Fin 6) (m : List (BitVec 10)) (p : List Byte) (g : Nat) (rest : List LaneReq) (s : State), s.bob.lane l = .caps g :: rest → g < 24 →
    senseHear m = some (2, g, p) → p.length = 12 → le2 p 0 = 0 → byteAt p 2 = 4 → s.param 0x4002 ≤ bits (le2 p 10) 15 12 →
    s.param 0x4003 ≤ bits (le2 p 10) 11 0 →
    ∃ t, exec (.senseReturnReply l m) s = .next t ∧ t.bob.driversOk = s.bob.driversOk ||| BitVec.ofNat 24 (2 ^ g)) ∧
  (∀ s : State, s.bob.lockState = 2 ∨ s.bob.lockState = 3 →
    ∃ t, exec .tempPoll s = .next t ∧ ∀ l, l < 6 → t.bob.lane l = s.bob.lane l ++ (s.laneDrivers l).map .poll) ∧
  (∀ s : State, s.ras.running = true → s.prkNeutral = false → s.param 0x4800 = 1 → s.param 0x3410 = 1 → s.prk.passOn = false →
    exec .updatePass s = .next { s with prk :=
      if s.prk.snap = .copying then { s.prk with passHeld := true } else { s.prk with passOn := true } }) ∧
  (∀ s : State, s.prk.passOn = true →
    ∃ t, exec .updatePassDone s = .next t ∧ t.prk.passOn = false ∧ t.prk.folds = if s.prkNeutral then s.prk.folds else []) ∧
  (∀ (f : Fold) (s : State), s.prk.passOn = true → s.prkNeutral = false → s.prk.folds = [f] → s.ageingActs = false → Memory.wf s = true → f.c < 3 →
    -128 ≤ f.offset → f.offset ≤ 127 → -128 ≤ f.gain → f.gain ≤ 127 →
    ∃ t, exec .updatePassDone s = .next t ∧
      recInt (t.prkRec (f.px % s.param 0x2801) (f.px / s.param 0x2801)) 0 f.c = f.offset ∧
      recInt (t.prkRec (f.px % s.param 0x2801) (f.px / s.param 0x2801)) 1 f.c = f.gain) ∧
  (∀ s : State, s.prk.snap = .none → s.param 0x4800 = 1 → s.param 0x3410 = 1 → s.prk.stress ≠ .off → s.ras.running = true →
    s.prk.snapWaitUntil = none → s.memLost = false → s.storeLacks = false → ∃ t, exec .snapshotStart s = .next t ∧ t.prk.snap = .wanted) ∧
  (∀ s : State, s.prk.snap = .copying ∨ s.prk.snap = .compressing → s.prk.shutdownSnap = false → s.storeLacks = false →
    ∃ t, exec (.snapshotComplete false) s = .next t ∧
      let slot := 1 - s.nv.snapSlot % 2
      let r := s.takeGen.2.nandStore (objSnap slot) s.nv.storeGen s.prk.snapLevel
        { planeGen := 0, snapPlaneGens := s.prk.snapGens.toList, snapPanelOn := s.prk.snapPanelOn } s.prk.snapData
      if r.2 then t.prk.snap = .none ∧ t.nv.snapGen = s.nv.storeGen ∧ t.nv.snapSlot = slot ∧ t.nv.nand = r.1.nv.nand
      else t.prk.snapFails = (if s.prk.snapFails = 0 then 1 else 0)) ∧
  (∀ s : State, s.prk.snap ≠ .none → s.prk.snapOverrun = false →
    ∃ t, exec .snapshotOverrun s = .next t ∧ t.prk.snapOverrun = true ∧ t.prk.snap = s.prk.snap ∧ t.mem = s.mem) ∧
  (∀ (i : Nat) (failed : Bool) (x : NandStore) (s : State), i < 6 → s.nv.stores = [x] → x.object = objPlane i 0 →
    ∃ t, exec (.mapStoreDone (BitVec.ofNat 16 (0x0400 + i)) failed) s = .next t ∧ t.nv.stores = [] ∧ t.prk.storePending.getLsbD i = false)

/-! ## Flash -/

/-- The flash commands (R479, R486, R488 to R492, R500): raw reads show the bytes, or answer CHECK_FAILED for a NAND page the ECC cannot correct, a record write is queued and held until its copies are committed, raw programming only clears bits of its page, an erase leaves 0xFF in its range and nowhere else, compaction erases the oldest sector, and a store ends; with NVM failed the commands answer DOMAIN_FAILED. -/
def Obligations.FlashCommandsAct : Prop :=
  (∀ (i : Mb) (fails : Bool) (s : State), s.served i cmdNvRead = true → s.domFailed dNvm = false →
    (byteAt (s.reqBody i) 0 = 1 → le4 (s.reqBody i) 4 ≤ 0x7FFFFF → le4 (s.reqBody i) 4 + le2 (s.reqBody i) 2 ≤ 0x800000 →
      exec (.nvRead i fails) s = (s.taken i).answered i stOk (s.norBytes (le4 (s.reqBody i) 4) (le2 (s.reqBody i) 2))) ∧
    (byteAt (s.reqBody i) 0 = 2 → le4 (s.reqBody i) 4 < 0x20000000 → le4 (s.reqBody i) 4 % 4096 + le2 (s.reqBody i) 2 ≤ 4096 →
      exec (.nvRead i fails) s = if fails then (s.taken i).answered i stCheckFailed []
        else (s.taken i).answered i stOk (s.nandBytes (le4 (s.reqBody i) 4) (le2 (s.reqBody i) 2))) ∧
    (∀ r, byteAt (s.reqBody i) 0 = 0 → keyUse (le4 (s.reqBody i) 4) ≠ .unassigned → s.winner (le4 (s.reqBody i) 4) = some r →
      exec (.nvRead i fails) s = (s.taken i).answered i stOk (toLe 4 r.seq ++ toLe 2 r.payload.length ++ [Byte.of (b2n r.bank), 0] ++
        r.payload.take (le2 (s.reqBody i) 2)))) ∧
  (∀ (i : Mb) (w : NvWrite) (s : State), s.served i cmdNvWrite = true → s.domFailed dNvm = false → keyUse (le2 (s.reqBody i) 0) = .free → 4 < (s.reqBody i).length →
    s.liveBytes + footprint ((s.reqBody i).drop 4).length ≤ 24576 → s.vin.pfw = false → s.nv.write = some w →
    ∃ t n, exec (.nvWriteRecord i) s = .next t ∧ t.nv.queue = s.nv.queue ++ [n] ∧ n.key = le2 (s.reqBody i) 0 ∧
      n.payload = (s.reqBody i).drop 4 ∧ n.mb = i ∧ (t.mb i).st = .busy ∧ (t.mb i).wait = .nvWrite ∧ t.nv.nor = s.nv.nor) ∧
  (∀ (w : NvWrite) (s : State), s.nv.write = some w → w.marker = false →
    s.norBytes w.addr (recordBody w.key w.seq w.payload).length = recordBody w.key w.seq w.payload →
    ∃ p, exec (.norProgramDone false) s = .next { s with nv := { s.nv with write := some { w with marker := true } }, pwr := p }) ∧
  (∀ (w : NvWrite) (s : State), s.nv.write = some w → w.marker = true → w.second = none → s.nv.queue = [] →
    (s.norProgram (w.addr + (recordBody w.key w.seq w.payload).length) [0x5A]).norByte (w.addr + (recordBody w.key w.seq w.payload).length) = 0x5A →
    (s.mb w.mb).st = .busy → (s.mb w.mb).wait = .nvWrite → w.mb = .mb0 ∨ w.mb = .mb2 →
    ∃ t, exec (.norProgramDone false) s = .next t ∧ t.nv.write = none ∧
      (t.mb w.mb).resp = padBuf (respHeader (reqCode (s.mb w.mb).req) 4 (s.mb w.mb).tag.toNat stOk ++ toLe 4 w.firstSeq)) ∧
  (∀ (i : Mb) (a : Nat) (d : List Byte) (s : State), s.served i cmdNvRaw = true → s.domFailed dNvm = false → le4 (s.reqBody i) 0 = a → (s.reqBody i).drop 8 = d →
    s.vin.pfw = false → Memory.wf s = true →
    (s.param 0x1800 = 1 → 0x720000 ≤ a → a < 0x7F0000 →
      ∃ t : State, exec (.nvRawProgram i) s = t.answered i stOk [] ∧
        (∀ k, k < d.length → t.norByte (a / 256 * 256 + (a % 256 + k) % 256) =
          s.norByte (a / 256 * 256 + (a % 256 + k) % 256) &&& byteAt d k) ∧
        ∀ b, b < a / 256 * 256 ∨ a / 256 * 256 + 256 ≤ b → t.norByte b = s.norByte b) ∧
    (s.param 0x1800 ≠ 1 ∨ a < 0x700000 ∨ 0x7F0000 ≤ a → exec (.nvRawProgram i) s = (s.taken i).answered i stDenied [])) ∧
  (∀ (i : Mb) (n a : Nat) (s : State), s.served i (.fixed 0x0093 8 fun p => byteAt p 1 == 0) = true → s.domFailed dNvm = false → byteAt (s.reqBody i) 0 = 0 →
    le2 (s.reqBody i) 2 = n → le4 (s.reqBody i) 4 = a → a % 4096 = 0 → a + n * 4096 ≤ 0x800000 →
    (s.param 0x1800 = 1 → 0x700000 ≤ a → a + n * 4096 ≤ 0x7F0000 → s.vin.pfw = false →
      exec (.nvErase i) s =
        .next (({ s.taken i with nv := { s.nv with erase := some { nand := false, addr := a, count := n, suspended := false } } }).accepted i 0x0093 []).settle) ∧
    (s.param 0x1800 ≠ 1 ∨ a < 0x700000 ∨ 0x7F0000 < a + n * 4096 → exec (.nvErase i) s = (s.taken i).answered i stDenied [])) ∧
  (∀ (e : NvErase) (s : State), s.nv.erase = some e → e.nand = false → e.suspended = false → 0x720000 ≤ e.addr → Memory.wf s = true →
    ∃ t, exec (.nvEraseDone []) s = .next t ∧ t.nv.erase = none ∧ t.box.jobs.all (·.code != 0x0093) = true ∧ t.nv.nand = s.nv.nand ∧
      ∀ b, t.norByte b = if e.addr ≤ b ∧ b < e.addr + e.count * 4096 then 0xFF else s.norByte b) ∧
  (∀ (bank : Bool) (k : Nat) (s : State), k < 16 → s.sectorInUse bank k = true →
    (∀ j, j < 16 → j ≠ k → s.sectorInUse bank j = true → s.sectorGen bank k < s.sectorGen bank j) →
    (s.erasedSectors bank).length < s.param 0x1801 → s.nv.write = none → s.vin.pfw = false → Memory.wf s = true →
    ∃ t, exec (.samplerCompaction bank) s = .next t ∧ ∀ b, sectorBase bank k ≤ b → b < sectorBase bank k + 4096 → t.norByte b = 0xFF) ∧
  (∀ (i : Mb) (fails : Bool) (s : State), s.domFailed dNvm = true →
    (s.served i cmdNvRead = true → exec (.nvRead i fails) s = (s.taken i).answered i stDomainFailed []) ∧
    (s.served i cmdNvRaw = true → exec (.nvRawProgram i) s = (s.taken i).answered i stDomainFailed []) ∧
    (s.served i (.fixed 0x0093 8 fun p => byteAt p 1 == 0) = true → exec (.nvErase i) s = (s.taken i).answered i stDomainFailed [])) ∧
  (∀ (o : Word) (x : NandStore) (s : State), s.nv.stores = [x] → x.object = o.toNat →
    (∃ t, exec (.nandStoreDone o true) s = .next t ∧ t.nv.stores = [] ∧ t.nv.nand = s.nv.nand ∧ t.nv.nor = s.nv.nor) ∧
    (s.storeLacks = false → exec (.nandStoreDone o false) s = .next ((({ s with nv := { s.nv with stores := [] } }).nandStore x.object x.gen (s.param 0x1C03)
      { planeGen := x.planeGen, snapPlaneGens := [0, 0, 0], snapPanelOn := 0 } x.data).1).settle))

/-! ## Log, statistics and Eyelets -/

/-- LOG_READ, STATS_READ, STAT_MAX_TIME_EXPIRY, EYE_SET and EYE_READ (R121, R134, R135, R442, R443, R449 to R452, R455): the log and the copies are read in order, reading the event queue removes what it returns, the time limit closes a period, and a rectangle that fits is written and reads back. -/
def Obligations.LogsStatisticsAndEyelets : Prop :=
  (∀ (i : Mb) (s : State), s.served i cmdLogRead = true → byteAt (s.reqBody i) 0 = 0 → le4 (s.reqBody i) 4 = 0xFFFFFFFF →
    exec (.logRead i) s =
      let es := s.log.ring.take (byteAt (s.reqBody i) 1).toNat
      (s.taken i).answered i stOk (Byte.of es.length :: (zeros 3 ++
        toLe 4 (s.log.next - BitVec.ofNat 32 s.log.ring.length + BitVec.ofNat 32 es.length).toNat ++ toLe 4 0 ++ es.flatMap LogEntry.bytes))) ∧
  (∀ s : State, s.served .mb0 cmdLogRead = true → byteAt (s.reqBody .mb0) 0 = 1 →
    ∃ t : State, exec (.logRead .mb0) s = t.answered .mb0 stOk (
        let es := s.evq.entries.take (byteAt (s.reqBody .mb0) 1).toNat
        Byte.of es.length :: (zeros 3 ++ toLe 4 (s.evq.entries.length - es.length) ++ toLe 4 s.evq.dropped ++ es.flatMap LogEntry.bytes)) ∧
      t.evq.entries = s.evq.entries.drop (byteAt (s.reqBody .mb0) 1).toNat ∧ (t.evq.entries = [] → t.evq.overflow = false ∧ t.evq.dropped = 0)) ∧
  (∀ (i : Mb) (s : State), s.served i cmdLogRead = true → i ≠ .mb0 → byteAt (s.reqBody i) 0 = 1 →
    exec (.logRead i) s = (s.taken i).answered i stDenied []) ∧
  (∀ (i : Mb) (s : State), s.served i cmdStatsRead = true →
    (le2 (s.reqBody i) 0 + le2 (s.reqBody i) 2 ≤ 1344 →
      exec (.statsRead i) s = (s.taken i).answered i stOk (toLe 4 s.stat.period.toNat ++ zeros 4 ++ toLe 8 s.stat.endTime.toNat ++
        (List.range (le2 (s.reqBody i) 2)).flatMap fun k => toLe 4 (aget s.stat.copy (le2 (s.reqBody i) 0 + k) 0))) ∧
    (1344 < le2 (s.reqBody i) 0 + le2 (s.reqBody i) 2 → exec (.statsRead i) s = (s.taken i).answered i stOutOfRange [])) ∧
  (∀ s : State, ∃ t, exec .statMaxTimeExpiry s = .next t ∧ t.now = max s.now (s.stat.startAt + ms (s.param 0x1401)) ∧
    t.stat.period = s.stat.period + 1 ∧ t.stat.startAt = t.now ∧ t.stat.frames = 0 ∧ t.mem.cells = s.mem.cells ∧ t.par = s.par) ∧
  (∀ (i : Mb) (s : State), s.served i cmdEyeSet = true →
    let r := eyeRecAt (s.reqBody i) 4
    let n := (byteAt (s.reqBody i) 0).toNat
    (n ≤ 15 → 0 < r.w → 0 < r.h → r.x + r.w ≤ s.param 0x2801 → r.y + r.h ≤ s.param 0x2802 → r.tap ≤ 3 → r.frames ≠ 3 →
      ∃ t : State, exec (.eyeSet i) s = t.answered i stOk [] ∧ (t.eyes.get n).record = r ∧ (∀ m, m ≠ n → t.eyes.get m = s.eyes.get m) ∧
        t.par = s.par) ∧
    (15 < n ∨ r.w = 0 ∨ r.h = 0 ∨ s.param 0x2801 < r.x + r.w ∨ s.param 0x2802 < r.y + r.h ∨ 3 < r.tap ∨ r.frames = 3 →
      exec (.eyeSet i) s = (s.taken i).answered i stOutOfRange [])) ∧
  (∀ (i : Mb) (s : State), s.served i (.fixed 0x00E1 4 fun p => zeroAt p 1 3) = true →
    let e := s.eyes.get (byteAt (s.reqBody i) 0).toNat
    (byteAt (s.reqBody i) 0).toNat ≤ 15 →
      exec (.eyeRead i) s = (s.taken i).answered i stOk (e.record.bytes ++ toLe 4 e.lastCrc.toNat ++ toLe 4 e.lastFrame.toNat ++
        [Byte.of e.result] ++ zeros 3))

/-! ## Compression -/

/-- CMP_RUN and CMP_CONTAINER_DONE (R462, R466, R470 to R473): a job in range is queued behind the others with its JOB number; compression switched off answers DENIED and a field out of range OUT_OF_RANGE. A last block compresses into one container at the destination; a check ends with CHECK_FAILED at the first bad container and with OK at the last good one. -/
def Obligations.CompressionRuns : Prop :=
  (∀ (i : Mb) (s : State), s.served i cmdCmpRun = true →
    (s.param 0x1C01 = 0 → exec (.cmpRun i) s = (s.taken i).answered i stDenied []) ∧
    (s.param 0x1C01 ≠ 0 → (byteAt (s.reqBody i) 2).toNat.testBit 1 = false → le4 (s.reqBody i) 20 = 0 → cmpFieldsOk (s.reqBody i) = false →
      exec (.cmpRun i) s = (s.taken i).answered i stOutOfRange []) ∧
    (s.param 0x1C01 ≠ 0 → (byteAt (s.reqBody i) 2).toNat.testBit 1 = false → le4 (s.reqBody i) 20 = 0 → cmpFieldsOk (s.reqBody i) = true →
      s.domFailed dCodec = false →
      ∃ (u : State) (j : CmpJob), exec (.cmpRun i) s = .next (u.accepted i 0x00A0 (toLe 4 s.cmp.nextJob.toNat)).settle ∧
        u.cmp.jobs = s.cmp.jobs ++ [j] ∧ u.cmp.nextJob = (if s.cmp.nextJob + 1 = 0 then 1 else s.cmp.nextJob + 1) ∧
        u.mem = s.mem ∧ j.job = s.cmp.nextJob ∧ j.mb = i ∧
        j.op = (if byteAt (s.reqBody i) 0 = 0 then .compress else if byteAt (s.reqBody i) 0 = 1 then .decompress else .check) ∧
        j.level = (if byteAt (s.reqBody i) 1 = 0 then s.param 0x1C00 else (byteAt (s.reqBody i) 1).toNat) ∧
        j.image = (if byteAt (s.reqBody i) 3 = 1 then some s.logImage else none) ∧ j.srcAddr = le4 (s.reqBody i) 4 ∧
        j.srcBytes = (if byteAt (s.reqBody i) 3 = 1 then s.logImage.length else le4 (s.reqBody i) 8) ∧
        j.dstAddr = le4 (s.reqBody i) 12 ∧ j.dstBytes = le4 (s.reqBody i) 16 ∧ j.blockBytes = 65536 ∧ j.inPos = 0 ∧ j.outPos = 0 ∧ j.startAt = s.now)) ∧
  (∀ (j : CmpJob) (rest : List CmpJob) (s : State), s.cmp.jobs = j :: rest → s.domOn dCodec = true → s.lanesTaken = false → j.op = .compress → j.image = none →
    j.store = true → j.verify = false → j.index = false → j.blockBytes = 65536 → j.inPos < j.srcBytes → j.srcBytes ≤ j.inPos + 65536 →
    j.stored = 0 → Memory.wf s = true →
    let src := s.ramBytes (j.srcAddr + j.inPos) (j.srcBytes - j.inPos)
    let c := container j.level true false j.block src
    j.outPos + c.1.length ≤ j.dstBytes →
    ∃ t, exec .cmpContainerDone s = .next t ∧ t.ramBytes (j.dstAddr + j.outPos) c.1.length = c.1 ∧
      (∀ a, a < j.dstAddr + j.outPos ∨ j.dstAddr + j.outPos + c.1.length ≤ a → t.ram a = s.ram a) ∧
      t.cmp.lastJob = j.job ∧ t.cmp.lastStatus = (if c.2 then stExpands else stOk) ∧ t.cmp.lastIn = j.srcBytes ∧
      t.cmp.lastOut = j.outPos + c.1.length ∧ t.cmp.lastBlocks = j.blocks + 1 ∧ t.cmp.jobs.all (·.job != j.job) = true) ∧
  (∀ (j : CmpJob) (rest : List CmpJob) (s : State), s.cmp.jobs = j :: rest → s.domOn dCodec = true → s.lanesTaken = false → j.op = .check →
    let left := j.srcBytes - j.inPos
    let src := s.cmpSource j (min (24 + le4 (s.cmpSource j (min 24 left)) 12) left)
    ∃ t, exec .cmpContainerDone s = .next t ∧ t.mem.cells = s.mem.cells ∧
      match decodeContainer src j.lastIndex (j.test || s.boot.stage == .unconfigured) with
      | none => t.cmp.lastJob = j.job ∧ t.cmp.lastStatus = stCheckFailed ∧ t.cmp.jobs.all (·.job != j.job) = true
      | some c =>
        if c.last = true ∨ j.inPos + c.total = j.srcBytes then
          t.cmp.lastJob = j.job ∧ t.cmp.lastStatus = stOk ∧ t.cmp.lastBlocks = j.blocks + 1 ∧ t.cmp.lastFail = 0xFFFFFFFF ∧
            t.cmp.jobs.all (·.job != j.job) = true
        else t.cmp.jobs.head? = some { j with
          inPos := j.inPos + c.total, block := c.index, lastIndex := some c.index, blocks := j.blocks + 1 })

/-! ## Content protection -/

/-- A handshake (R212 to R215, R222, R232): HELLO by mailbox or by PROT packet opens it, key agreement sends DEVICE_HELLO with the next SESSION_ID and the keys of R214, and a FINISH that proves the keys in time establishes the session ahead of those before, restarts MB1's counters and the count of failures; a FINISH that does not prove them leaves the sessions as they are. A malformed HELLO answers ALERT code 1. The nonce of SEC_STATUS ends with its timer. -/
def Obligations.HandshakesEstablishSessions : Prop :=
  (∀ (i : Mb) (s : State), s.served i cmdSecSession = true → s.domFailed dSec = false → byteAt (s.reqBody i) 0 = 1 → s.param 0x2001 ≠ 1 →
    s.sec.unlocked = false →
    (helloOk (s.reqBody i) = true → s.sec.handshake = none →
      ∃ t, exec (.secSession i) s = .next t ∧
        (Config.onCurve (slice (s.reqBody i) 24 64) = true →
          (t.mb i).st = .busy ∧ (t.mb i).wait = .secHandshake ∧ t.sec.sessions = s.sec.sessions ∧
          t.sec.handshake = some { hello := s.reqBody i, path := some i, draw := s.free, deviceHello := none, id := 0, keys := none, sentAt := 0,
                                    renew := !s.sec.sessions.isEmpty }) ∧
        (Config.onCurve (slice (s.reqBody i) 24 64) = false → t.sec = s.sec)) ∧
    (helloOk (s.reqBody i) = false → i = .mb0 ∨ i = .mb2 →
      ∃ t, exec (.secSession i) s = .next t ∧ t.sec = s.sec ∧
        (t.mb i).resp = padBuf (respHeader 0x00B0 16 (s.mb i).tag.toNat stOk ++ ([0x0F, 1] ++ toLe 2 16 ++ toLe 2 1 ++ zeros 10)))) ∧
  (∀ (side : Side) (at_ : Nat) (sets : List (List LinkBlock)) (p m : List Byte) (s : State), s.brings side sets 8 false p = true →
    s.stream side = .left → protMessage p = some m → byteAt m 0 = 1 → s.param 0x2001 ≠ 1 → s.sec.unlocked = false → helloOk m = true → s.sec.handshake = none →
    ∃ t, exec (.hello side ⟨at_, sets⟩) s = .next t ∧ t.sec.sessions = s.sec.sessions ∧
      (Config.onCurve (slice m 24 64) = true →
        t.sec.handshake = some {
          hello := m, path := none, draw := s.free, deviceHello := none, id := 0, keys := none, sentAt := 0,
          renew := !s.sec.sessions.isEmpty }) ∧
      (Config.onCurve (slice m 24 64) = false → t.sec = s.sec ∧ (s.bcDriven = true → t.hl.tx = bcInsert { kind := 3, payload := alertMsg 6, last := none } s.hl.tx))) ∧
  (∀ (h : Handshake) (s : State), s.sec.handshake = some h → h.deviceHello = none →
    let id := if s.sec.idCounter + 1 = 0 then 1 else s.sec.idCounter + 1
    let dh := deviceHello id h.draw h.hello
    ∃ t, exec .secKeyAgreementDone s = .next t ∧ t.sec.idCounter = id ∧ t.sec.sessions = s.sec.sessions ∧
      t.sec.handshake = some { h with
        deviceHello := some dh, id := id, sentAt := s.now,
        keys := some (sessionKeys (Config.ecdhEphemeral h.draw (slice h.hello 24 64)) (slice h.hello 8 16 ++ slice dh 8 16)
          (Config.sha256 (h.hello ++ dh))) } ∧
      (h.path = none → s.bcDriven = true → t.hl.tx = bcInsert { kind := 3, payload := dh, last := none } s.hl.tx)) ∧
  (∀ (side : Side) (at_ : Nat) (sets : List (List LinkBlock)) (p m dh : List Byte) (h : Handshake) (k : Keys) (s : State),
    s.brings side sets 8 false p = true → s.stream side = .left → protMessage p = some m → finishOk m = true → s.sec.handshake = some h → h.deviceHello = some dh → h.keys = some k →
    (s.arrived side at_ sets).now ≤ h.sentAt + ms 1000 →
    ∃ t, exec (.finish side ⟨at_, sets⟩) s = .next t ∧
      (slice m 16 32 = slice (Config.hmac k.hconf (Config.sha256 (h.hello ++ dh ++ m.take 16))) 0 32 →
        (∀ f, s.hl.fsLast = some f → srcAfter f (Word.of (le4 m 4)) = true) →
        t.sec.handshake = none ∧ t.sec.tagFails = 0 ∧ t.box.mb1Rx = 0 ∧ t.box.mb1Tx = 0 ∧
        t.sec.sessions = { id := h.id, keys := k, switch := Word.of (le4 m 4) } :: s.sec.sessions) ∧
      (slice m 16 32 ≠ slice (Config.hmac k.hconf (Config.sha256 (h.hello ++ dh ++ m.take 16))) 0 32 → t.sec = s.sec) ∧
      (∀ f, s.hl.fsLast = some f → srcAfter f (Word.of (le4 m 4)) = false → t.sec = s.sec)) ∧
  (∀ s : State, exec .nonceExpiry s = .next { s with sec := { s.sec with nonce := none } })

/-- Protected settings (R231 to R233): SEC_STATUS answers its layout with a fresh nonce; SEC_APPROVE collects the bundle's fragments in order and starts its check on LAST; a bundle that passes makes its values active and uses up the nonce, one that fails changes no setting. -/
def Obligations.ApprovalsChangeProtectedSettings : Prop :=
  (∀ (i : Mb) (s : State), s.served i (.bare 0x00B2) = true →
    let nonce := slice (Config.randomBytes s.free) 0 16
    exec (.secStatus i) s =
      ({ s.taken i with free := s.free + 1, sec := { s.sec with nonce := some nonce } }).answered i stOk
        (toLe 8 Config.serial.toNat ++ nonce ++ toLe 4 (s.param 0x2010) ++ [Byte.of (max Config.fuseSteps s.sec.fuse), Byte.of s.sessionState] ++
          toLe 2 s.sessionId ++ [Byte.of s.sec.tagFails, Byte.of (s.param 0x2001), Byte.of (s.param 0x2002), 0])) ∧
  (∀ (i : Mb) (f : Frag) (s : State), s.served i cmdSecApprove = true → fragAt (s.reqBody i) 0 = f →
    let old := if f.first then [] else s.sec.bundle.bytes
    let u : Upload := { open_ := !f.last, nextOff := f.offset + f.data.length, bytes := old ++ f.data, checking := f.last }
    (if f.first then f.offset = 0 else s.sec.bundle.open_ = true ∧ f.offset = s.sec.bundle.nextOff) → f.offset + f.data.length ≤ 2 ^ 32 →
    (f.last = false → exec (.secApprove i) s = ({ s.taken i with sec := { s.sec with bundle := u } }).answered i stOk []) ∧
    (f.last = true → exec (.secApprove i) s = .next (({ s.taken i with sec := { s.sec with bundle := u } }).accepted i 0x00B1 []).settle)) ∧
  (∀ (i : Mb) (s : State), s.served i cmdSecApprove = true → (fragAt (s.reqBody i) 0).first = true → (fragAt (s.reqBody i) 0).offset ≠ 0 →
    exec (.secApprove i) s = (s.taken i).answered i stOutOfRange []) ∧
  (∀ s : State, s.sec.bundle.checking = true →
    ∃ t, exec .approvalBundleCheckDone s = .next t ∧ t.sec.bundle.checking = false ∧ t.box.jobs.all (·.code != 0x00B1) = true ∧
      (s.bundleFails s.sec.bundle.bytes = 0 → t.sec.nonce = none ∧
        t.par = ((bundleChanges s.sec.bundle.bytes).foldl (fun p c => p.put c.1 (Word.of c.2)) s.par)) ∧
      (s.bundleFails s.sec.bundle.bytes ≠ 0 → t.par = s.par ∧ t.nv = s.nv ∧
        t.sec.nonce = (if s.bundleFails s.sec.bundle.bytes ≤ 2 then s.sec.nonce else none)))

/-- Firmware images (R228): the first fragment erases the slot that does not run and every fragment is programmed at its offset; LAST starts the check, whose pass clears the failure mark of that slot alone and whose failure changes no mark. -/
def Obligations.FirmwareImagesAreProgrammed : Prop :=
  (∀ (i : Mb) (f : Frag) (slot : Bool) (s : State), s.served i cmdFwUpdate = true → fragAt (s.reqBody i) 0 = f → s.vin.pfw = false →
    f.first = true → f.offset = 0 → s.boot.stage ≠ .recovery → slot = !s.boot.slot → Memory.wf s = true →
    ∃ t : State, exec (.secFwUpdate i) s =
        (if f.last then .next (t.accepted i 0x00B3 (toLe 4 f.data.length)).settle else t.answered i stOk (toLe 4 f.data.length)) ∧
      t.sec.imageSlot = slot ∧ t.sec.image.checking = f.last ∧ t.sec.image.nextOff = f.data.length ∧ t.boot = s.boot ∧
      (∀ b, t.norByte b = if slotBase slot ≤ b ∧ b < slotBase slot + slotSize then
        (if b < slotBase slot + f.data.length then byteAt f.data (b - slotBase slot) else 0xFF) else s.norByte b)) ∧
  (∀ (i : Mb) (f : Frag) (s : State), s.served i cmdFwUpdate = true → fragAt (s.reqBody i) 0 = f → s.vin.pfw = false →
    f.first = false → s.sec.image.open_ = true → f.offset = s.sec.image.nextOff → f.offset + f.data.length ≤ slotSize → Memory.wf s = true →
    ∃ t : State, exec (.secFwUpdate i) s =
        (if f.last then .next (t.accepted i 0x00B3 (toLe 4 (f.offset + f.data.length))).settle
         else t.answered i stOk (toLe 4 (f.offset + f.data.length))) ∧
      t.sec.imageSlot = s.sec.imageSlot ∧ t.sec.image.checking = f.last ∧ t.sec.image.nextOff = f.offset + f.data.length ∧
      (∀ k, k < f.data.length → t.norByte (slotBase s.sec.imageSlot + f.offset + k) =
        s.norByte (slotBase s.sec.imageSlot + f.offset + k) &&& byteAt f.data k)) ∧
  (∀ s : State, s.sec.image.checking = true →
    ∃ t, exec .fwImageCheckDone s = .next t ∧ t.sec.image.checking = false ∧ t.nv = s.nv ∧ t.box.jobs.all (·.code != 0x00B3) = true ∧
      (s.checkSlot s.sec.imageSlot false = .passed → t.boot = { s.boot with
        updated := true, failed0 := s.boot.failed0 && s.sec.imageSlot, failed1 := s.boot.failed1 && !s.sec.imageSlot }) ∧
      (s.checkSlot s.sec.imageSlot false ≠ .passed → t.boot = s.boot))

/-! ## The Vorul link -/

/-- Wakes of an idle link (R182, R205, R206): qualified activity and the wake pattern vote the link's domains on, set WAKE_CAUSE and start training as soon as the domains are on and the function runs; the pattern restarts a link that is not IDLE; activity that stops again wakes nothing; the back-off timer starts a new series. Leaving ACTIVE (R175, R182, R183, R185, R203): too many block errors within a millisecond and TS1 take the ACTIVE groups to PHASE, a lost lock to CLK_DETECT, a stopped clock and SLEEP with EIOS take both to IDLE with the link's votes withdrawn; the input frame ends with it. A SOF on every lane seeds the scramblers (R176) and lets packets be parsed again. -/
def Obligations.LinkWakesAndLeavesActive : Prop :=
  ((∀ (side : Side) (s : State), s.hl.a.st = .idle → s.hl.b.st = .idle → (s.hl.group side).idleSeen = true →
      (s.param 0x2406).testBit 0 = true → s.wakeCounts .hlActivity = true → s.pwr.asleep = false → s.fn.hostLink.stopped = false →
      s.domOn dHla = true → s.domOn dHlb = true →
      ∃ t, exec (.hlActivityQualified side) s = .next t ∧ t.hl.vote = true ∧ t.hl.a.st = .clkDetect ∧ t.hl.b.st = .clkDetect ∧
        t.hl.attempts = 1 ∧ (t.hl.group side).clockPresent = true ∧ t.win.wakeCause.getLsbD 0 = true) ∧
    (∀ (side : Side) (s : State), s.hl.a.st = .idle → s.hl.b.st = .idle → (s.param 0x2406).testBit 1 = true →
      s.wakeCounts .hlWake = true → s.pwr.asleep = false → s.fn.hostLink.stopped = false → s.domOn dHla = true → s.domOn dHlb = true →
      ∃ t, exec (.hlWakePattern side) s = .next t ∧ t.hl.vote = true ∧ t.hl.a.st = .clkDetect ∧ t.hl.b.st = .clkDetect ∧
        t.hl.attempts = 1 ∧ t.win.wakeCause.getLsbD 1 = true) ∧
    (∀ (side : Side) (s : State), (s.hl.group side).st ≠ .idle →
      ∃ t, exec (.hlWakePattern side) s = .next t ∧ (t.hl.group side).st = .clkDetect ∧ t.hl.attempts = 1) ∧
    (∀ (side : Side) (s : State), (s.hl.group side).st = .idle →
      ∃ t, exec (.hlWakeGlitch side) s = .next t ∧ (t.hl.group side).st = .idle ∧ (t.hl.group side).clockPresent = false ∧
        t.hl.vote = s.hl.vote ∧ t.win = s.win) ∧
    (∀ s : State, s.hl.backoff = true → (s.hl.a.clockPresent = true ∨ s.hl.b.clockPresent = true) → s.hl.a.st = .idle → s.hl.b.st = .idle →
      s.fn.hostLink.stopped = false → s.domOn dHla = true → s.domOn dHlb = true →
      ∃ t, exec .hlTrainBackoffExpiry s = .next t ∧ t.hl.a.st = .clkDetect ∧ t.hl.b.st = .clkDetect ∧ t.hl.attempts = 1 ∧ t.hl.backoff = false)) ∧
  ((∀ (side : Side) (lane : Fin 8) (at_ : Nat) (block : LinkBlock) (s : State), (s.hl.group side).st = .active → lane.val < s.param 0x2401 / 2 →
      (s.hl.group side).blockWrong block = true →
      let recent := (s.hl.group side).blockErrs.filter fun e => max s.now at_ < e + ms 1
      (recent.length + 1 ≤ s.param 0x2408 →
        ∃ t, exec (.hlBlockError side lane (at_, block)) s = .next t ∧ t.now = max s.now at_ ∧ t.hl.a.st = s.hl.a.st ∧ t.hl.b.st = s.hl.b.st ∧
          (t.hl.group side).blockErrs = recent ++ [max s.now at_]) ∧
      (s.param 0x2408 < recent.length + 1 →
        ∃ t, exec (.hlBlockError side lane (at_, block)) s = .next t ∧ t.hl.frame = none ∧ t.hl.attempts = 1 ∧
          ∀ k, (t.hl.group k).st = if (s.hl.group k).st = .active then .phase else (s.hl.group k).st)) ∧
    (∀ (side : Side) (lane : Fin 8) (at_ : Nat) (block : LinkBlock) (s : State),
      (s.hl.group side).st ≠ .active ∨ (s.hl.group side).blockWrong block = false → exec (.hlBlockError side lane (at_, block)) s = .next s) ∧
    (∀ (side : Side) (blocks : List LinkBlock) (s : State), (s.hl.group (s.stream side)).st = .active → s.setIs (s.stream side) .ts1 blocks = true →
      ∃ t, exec (.hlTs1Retrain (side, blocks)) s = .next t ∧ t.hl.frame = none ∧ t.hl.attempts = 1 ∧
        ∀ k, (t.hl.group k).st = if (s.hl.group k).st = .active then .phase else (s.hl.group k).st) ∧
    (∀ (side : Side) (s : State), (s.hl.group side).st = .active →
      (∃ t, exec (.hlClockLost side true) s = .next t ∧ t.hl.frame = none ∧ t.hl.attempts = 1 ∧
        ∀ k, (t.hl.group k).st = if (s.hl.group k).st = .active then .clkDetect else (s.hl.group k).st) ∧
      (∃ t, exec (.hlClockLost side false) s = .next t ∧ t.hl.a.st = .idle ∧ t.hl.b.st = .idle ∧ t.hl.frame = none ∧ t.hl.vote = false)) ∧
    (∀ (idle : Word) (s : State), s.hl.sleepIdle = some idle → s.hl.a.st = .active → s.hl.b.st = .active →
      ∃ t, exec .hlEios s = .next t ∧ t.hl.a.st = .idle ∧ t.hl.b.st = .idle ∧ t.hl.frame = none ∧ t.hl.vote = false ∧ t.hl.sleepIdle = none) ∧
    (∀ (side : Side) (blocks : List LinkBlock) (s : State), (s.hl.group (s.stream side)).st = .active → s.setIs (s.stream side) .sof blocks = true →
      ∃ h, exec (.hlSof (side, blocks)) s = .next { s with hl := h } ∧ (h.group (s.stream side)).skipToSof = false ∧
        ∀ n, n ∈ s.streamLanes (s.stream side) → n < 16 →
          h.scr.toList.getD n 0 = 0x7FFFFFE0 + BitVec.ofNat 31 (if s.param 0x2400 = 1 then n else n % 8)))

/-- Training (R172, R175, R177 to R181): each state leads to the next one on its group alone, with what it measured; a lane below 30 mV or 0.30 UI, a skew out of range, a wrong TS2 field, a state's timeout or a lost lock fails the attempt, whose groups start again at CLK_DETECT or, after the last of its series, leave the link IDLE. -/
def Obligations.LinkTrainsStateByState : Prop :=
  (∀ (side : Side) (rate : BitVec 14) (s : State), (s.hl.group side).st = .clkDetect →
    ∃ t, exec (.hlReceivePllLock side rate) s = .next t ∧
      (t.hl.group side).st = (if ((rate.toNat : Int) - (100 * s.param 0x2402 : Nat)).natAbs * 1000000 ≤ 300 * (100 * s.param 0x2402)
        then .phase else .clkDetect) ∧
      (match side with | .left => t.hl.rateA = rate.toNat ∧ t.hl.b = s.hl.b | .right => t.hl.rateB = rate.toNat ∧ t.hl.a = s.hl.a)) ∧
  (∀ (side : Side) (ph : List (BitVec 6)) (s : State), ph.length = 8 → (s.hl.group side).st = .phase →
    ∃ t, exec (.hlBlockLock side ph) s = .next t ∧ (t.hl.group side).st = .equalize ∧
      ∀ k, k < 8 → k < s.param 0x2401 / 2 →
        t.hl.phaseSel.toList.getD ((match side with | .left => 0 | .right => 8) + k) 0 = (ph.getD k 0).toNat) ∧
  (∀ (side : Side) (eyes : List LaneEye) (d : LaneEye) (s : State), eyes.length = 8 → (s.hl.group side).st = .equalize → s.param 0x2401 / 2 ≤ 8 →
    ((∀ k, k < s.param 0x2401 / 2 → 30 ≤ (eyes.getD k d).height.toNat ∧ 20 ≤ (eyes.getD k d).width.toNat) →
      ∃ t, exec (.hlEqualizeDone side eyes) s = .next t ∧ (t.hl.group side).st = .deskew ∧
        ∀ k, k < s.param 0x2401 / 2 →
          t.hl.eye.toList.getD ((match side with | .left => 0 | .right => 8) + k) (0, 0) =
            ((eyes.getD k d).height.toNat, (eyes.getD k d).width.toNat)) ∧
    ((∃ k, k < s.param 0x2401 / 2 ∧ ((eyes.getD k d).height.toNat < 30 ∨ (eyes.getD k d).width.toNat < 20)) → s.hl.attempts < s.param 0x2409 →
      ∃ t, exec (.hlEqualizeDone side eyes) s = .next t ∧ (t.hl.group side).st = .clkDetect ∧ t.hl.attempts = s.hl.attempts + 1)) ∧
  (∀ (side : Side) (skew : BitVec 16) (ds : List (BitVec 5)) (ts2 : List LinkBlock) (s : State), ds.length = 8 → (s.hl.group side).st = .deskew →
    ((∀ k, k < s.param 0x2401 / 2 → (ds.getD k 0).toNat ≤ 16) → (s.param 0x2400 = 1 → skew.toInt.natAbs ≤ 4000) →
      (∀ n, n < s.param 0x2401 / 2 → ts2.getD n 0 = orderedBlock (tsBytes 0x2D 0x45 n side.code (s.param 0x2402))) →
      ∃ t, exec (.hlDeskewDone side skew ⟨ds, ts2⟩) s = .next t ∧ (t.hl.group side).st = .active ∧ (t.hl.group side).skipToSof = true ∧
        (match side with | .left => t.hl.b = s.hl.b | .right => t.hl.a = s.hl.a)) ∧
    ((∃ k, k < s.param 0x2401 / 2 ∧ 16 < (ds.getD k 0).toNat) ∨ (s.param 0x2400 = 1 ∧ 4000 < skew.toInt.natAbs) ∨
      (∃ n, n < s.param 0x2401 / 2 ∧ ts2.getD n 0 ≠ orderedBlock (tsBytes 0x2D 0x45 n side.code (s.param 0x2402))) →
      s.hl.attempts < s.param 0x2409 →
      ∃ t, exec (.hlDeskewDone side skew ⟨ds, ts2⟩) s = .next t ∧ (t.hl.group side).st = .clkDetect ∧ t.hl.attempts = s.hl.attempts + 1)) ∧
  (∀ (side : Side) (lane : BitVec 8) (s : State), (s.hl.group side).st ≠ .idle → (s.hl.group side).st ≠ .active →
    (s.hl.attempts < s.param 0x2409 →
      (∃ t, exec (.hlTrainTimeout side lane) s = .next t ∧ t.hl.attempts = s.hl.attempts + 1 ∧
        ∀ k, (t.hl.group k).st = if (s.hl.group k).st = .idle ∨ (s.hl.group k).st = .active then (s.hl.group k).st else .clkDetect) ∧
      (∃ t, exec (.hlClockLost side true) s = .next t ∧ t.hl.attempts = s.hl.attempts + 1 ∧
        ∀ k, (t.hl.group k).st = if (s.hl.group k).st = .idle ∨ (s.hl.group k).st = .active then (s.hl.group k).st else .clkDetect)) ∧
    (s.param 0x2409 ≤ s.hl.attempts →
      ∃ t, exec (.hlTrainTimeout side lane) s = .next t ∧ t.hl.a.st = .idle ∧ t.hl.b.st = .idle ∧ t.hl.backoff = true ∧ t.hl.tx = []) ∧
    (∃ t, exec (.hlClockLost side false) s = .next t ∧ t.hl.a.st = .idle ∧ t.hl.b.st = .idle ∧ t.hl.vote = false))

/-- Frames on the link (R187 to R191, R196, R198, R199, R242, R270, R272): an FS of the active format opens an input frame once the other half's equal FS is there, or at once in WIDE16; one of another format, or one that differs from the other half's, is rejected. A good row lies in its hoop frame at its place and nowhere else; the FE of the last group ends a whole frame, which becomes the marked one. -/
def Obligations.FramesAreReceived : Prop :=
  (∀ (side o : Side) (at_ : Nat) (sets : List (List LinkBlock)) (p : List Byte) (s : State), s.brings side sets 1 false p = true →
    s.hl.frame = none → o ≠ s.stream side → (s.hl.group (s.stream side)).fs = [] →
    ((byteAt p 5).toNat = s.param 0x2403 → le2 p 6 = s.param 0x2801 → le2 p 8 = s.param 0x2802 →
      (s.param 0x2000 = 1 → (byteAt p 4).toNat.testBit 2 = true) →
      (s.param 0x2400 = 1 ∨ (s.hl.group o).fs = p →
        ∃ t f, exec (.hlFs side at_ sets) s = .next t ∧ t.now = max s.now at_ ∧ t.hl.frame = some f ∧ f.src = Word.of (le4 p 0) ∧ f.fsBytes = p ∧
          f.bad = [] ∧ f.use ≠ .rejected ∧ (t.hl.group (s.stream side)).lastFs = some (Word.of (le4 p 0)) ∧
          (t.hl.group (s.stream side)).fs = p ∧ t.hl.rejecting = false ∧ t.sec.linkEnc = (s.param 0x2000 == 1)) ∧
      (s.param 0x2400 ≠ 1 → (s.hl.group o).fs = [] →
        ∃ t, exec (.hlFs side at_ sets) s = .next t ∧ t.hl.frame = none ∧ (t.hl.group (s.stream side)).fs = p ∧ t.mem = s.mem)) ∧
    ((byteAt p 5).toNat ≠ s.param 0x2403 ∨ le2 p 6 ≠ s.param 0x2801 ∨ le2 p 8 ≠ s.param 0x2802 → s.stream side = .left ∨ s.hl.a.fs = p →
      ∃ t f, exec (.hlFs side at_ sets) s = .next t ∧ t.hl.frame = some f ∧ f.use = .rejected ∧ t.hl.rejecting = true ∧ t.mem = s.mem) ∧
    (s.param 0x2400 ≠ 1 → (s.hl.group o).fs ≠ [] → (s.hl.group o).fs ≠ p →
      ∃ t f, exec (.hlFs side at_ sets) s = .next t ∧ t.hl.frame = some f ∧ f.use = .rejected ∧ t.hl.rejecting = true ∧ t.mem = s.mem)) ∧
  (∀ (side : Side) (at_ r : Nat) (first : List LinkBlock) (sets : List (List LinkBlock)) (p : List Byte) (f : InputFrame) (s : State), s.brings side (first :: sets) 2 false p = true →
    s.hl.frame = some f → f.use = .captured → (s.hl.group (s.stream side)).fs ≠ [] → (s.hl.group (s.stream side)).fe = none →
    crc32c (p.take (p.length - 4)) = le4 p (p.length - 4) → le2 p 0 = r → r < s.param 0x2802 →
    (s.hl.group (s.stream side)).lastRow.elim 0 (· + 1) = r → s.rowFits (s.stream side) f p = true → s.memLost = false → Memory.wf s = true →
    let i := s.stream side
    let x0 := (s.halfCols i).1
    let n := (s.halfCols i).2
    let bitsN := formatBits f.format
    let data := slice p 16 ((3 * bitsN * n + 7) / 8)
    let c := components bitsN (3 * n) data
    let base := hoopBase f.slot1 + r * s.hoopStride + 4 * x0
    ∃ t, exec (.hlRow side at_ first sets) s = .next t ∧ (t.hl.group i).lastRow = some r ∧ aget? (t.hl.group i).pixels r = some data ∧
      t.ramBytes base (4 * n) = (List.range n).flatMap (fun k => toLe 4 (hoopWord f.format (c.getD (3 * k) 0) (c.getD (3 * k + 1) 0) (c.getD (3 * k + 2) 0))) ∧
      ∀ a, a < base ∨ base + 4 * n ≤ a → t.ram a = s.ram a) ∧
  (∀ (side : Side) (at_ : Nat) (sets : List (List LinkBlock)) (p : List Byte) (f : InputFrame) (s : State), s.brings side sets 3 false p = true →
    s.hl.frame = some f → f.use = .captured → f.bad = [] → f.prot = false → s.frozen = false →
    (s.hl.group (s.stream side)).fs ≠ [] → le4 p 0 = le4 (s.hl.group (s.stream side)).fs 0 →
    (s.hl.group (s.stream side)).lastRow.elim 0 (· + 1) = s.param 0x2802 →
    ((∀ k, k ∈ s.carriers → k ≠ s.stream side → (s.hl.group k).fe.isSome = true) →
      ∃ t, exec (.hlFe side at_ sets) s = .next t ∧ t.hl.frame = none ∧ t.hl.lastSrc = f.src ∧ t.hl.lastBad = 0 ∧
        (t.hoopFrame f.slot1).role = .marked ∧ (t.hoopFrame f.slot1).src = f.src ∧ (t.hoopFrame (!f.slot1)).role = .free ∧
        t.mem.cells = s.mem.cells) ∧
    (∀ k, k ∈ s.carriers → k ≠ s.stream side → (s.hl.group k).fe = none →
      ∃ t, exec (.hlFe side at_ sets) s = .next t ∧ t.hl.frame = some f ∧ (t.hl.group (s.stream side)).fe = some p ∧ t.mem = s.mem))

/-- The other packets (R184 to R186, R193, R194, R200 to R203, R218): a SURF packet that nothing refuses lies in the surface pool at its address and nowhere else, decrypted where it is encrypted, and one out of range is refused; SLEEP is kept for its EIOS; KEEP means nothing; a bad header discards up to the next SOF; an unknown packet is counted; a group that does not receive hears none of them. STATUS joins the back-channel, whose next message goes out and releases its mailbox. -/
def Obligations.OtherPacketsAct : Prop :=
  (∀ (side : Side) (at_ : Nat) (enc : Bool) (sets : List (List LinkBlock)) (p : List Byte) (s : State), s.brings side sets 5 enc p = true →
    let i := s.stream side
    let a := le4 p 0
    let n := le4 p 4
    (crc32c (p.take (p.length - 4)) ≠ le4 p (p.length - 4) →
      ∃ q, exec (.hlSurf side at_ sets) s = .next { (s.arrived side at_ sets).count 588 1 with pwr := q }) ∧
    (crc32c (p.take (p.length - 4)) = le4 p (p.length - 4) →
      (s.param 0x2405 ≠ 0 → s.memLost = false → a % 16 = 0 → 0 < n → n + 20 ≤ p.length →
        0x44000000 ≤ a → a + n ≤ 0x84000000 → Memory.wf s = true →
        (enc = false → s.sec.linkEnc = false →
          ∃ t, exec (.hlSurf side at_ sets) s = .next t ∧ t.ramBytes a n = slice p 16 n ∧ t.hl = (s.arrived side at_ sets).hl ∧
            ∀ b, b < a ∨ a + n ≤ b → t.ram b = s.ram b) ∧
        (∀ (src : Word) (e : Session), enc = true → (s.hl.group i).lastFs = some src → s.sessionFor src = some e →
          ∃ t, exec (.hlSurf side at_ sets) s = .next t ∧ t.ramBytes a n = cipherXor e.keys.row src.toNat 2 0 0 (a / 16) (slice p 16 n) ∧
            t.hl = (s.arrived side at_ sets).hl ∧ ∀ b, b < a ∨ a + n ≤ b → t.ram b = s.ram b)) ∧
      (s.param 0x2405 = 0 ∨ a % 16 ≠ 0 ∨ a < 0x44000000 ∨ 0x84000000 < a + n ∨ (s.sec.linkEnc = true ∧ enc = false) ∨
          (enc = true ∧ ∀ src, src ∈ (s.hl.group i).lastFs → s.sessionFor src = none) →
        ∃ q, exec (.hlSurf side at_ sets) s = .next { (s.arrived side at_ sets).count 587 1 with pwr := q }))) ∧
  (∀ (side : Side) (at_ : Nat) (sets : List (List LinkBlock)) (p : List Byte) (s : State), s.brings side sets 6 false p = true →
    s.hl.frame = none → s.hl.a.fs = [] →
    ∃ q, exec (.hlSleep side ⟨at_, sets⟩) s = .next { s.arrived side at_ sets with
      hl := { (s.arrived side at_ sets).hl with sleepIdle := some (Word.of (le4 p 0)), sleepKeep := (byteAt p 4).toNat.testBit 0 }, pwr := q }) ∧
  (∀ (side : Side) (at_ : Nat) (sets : List (List LinkBlock)) (p : List Byte) (s : State), s.brings side sets 7 false p = true →
    ∃ q, exec (.hlKeep side ⟨at_, sets⟩) s = .next { s.arrived side at_ sets with pwr := q }) ∧
  (∀ (side : Side) (at_ : Nat) (sets : List (List LinkBlock)) (s : State),
    (s.hears side sets .badHeader = true →
      ∃ t, exec (.packetHeaderCrcFail (side, ⟨at_, sets⟩)) s = .next t ∧ t.receives (s.stream side) = false ∧
        (t.hl.group (s.stream side)).st = .active ∧ t.hl.frame = s.hl.frame) ∧
    (s.hears side sets .unknown = true →
      ∃ q, exec (.hlUnknownPkt (side, ⟨at_, sets⟩)) s = .next { (s.arrived side at_ sets).count 578 1 with pwr := q }) ∧
    (s.receives (s.stream side) = false →
      ∀ (first : List LinkBlock) (c : Instr), c ∈ [Instr.hlFs side at_ sets, .hlRow side at_ first sets, .hlFe side at_ sets, .hlSurf side at_ sets,
        .hlSleep side ⟨at_, sets⟩, .hlKeep side ⟨at_, sets⟩, .ctlPacket side ⟨at_, sets⟩, .hello side ⟨at_, sets⟩, .finish side ⟨at_, sets⟩,
        .packetHeaderCrcFail (side, ⟨at_, sets⟩), .hlUnknownPkt (side, ⟨at_, sets⟩)] →
      ∃ q, exec c s = .next { s with pwr := q })) ∧
  (∀ s : State, s.bcDriven = true → (s.hl.a.st ≠ .active ∨ s.hl.statusDue = true) →
    exec .statusTimer s = .next { s with hl := { s.hl with
      statusDue := false, tx := bcInsert { kind := 1, payload := s.statusMsg, last := none } s.hl.tx } }) ∧
  (∀ (m : BcMsg) (rest : List BcMsg) (s : State), s.hl.tx = m :: rest → s.bcDriven = true →
    let w := transmit (frameChars m.kind m.payload) s.now s.hl.bcAt s.hl.bcMinus
    ∃ t, exec .backChannelSend s = .next t ∧ t.hl = { s.hl with tx := rest, bcWire := w.1, bcMinus := w.2.1, bcAt := w.2.2 } ∧
      (∀ i, m.last = some i → t.mb i = if (s.mb i).st = .done then { s.mb i with st := .idle, overrun := false } else s.mb i) ∧
      (∀ i, m.last ≠ some i → t.mb i = s.mb i))

/-! ## The raster -/

/-- Frame starts (R238, R244, R246, R247, R286): the raster starts with the panel on and the hoop there; a live frame starts at its slot, a generator's at its period or the change that pulled it, a repeat at its deadline or its schedule, a frame after an abort at the end of the abort blank; each takes the next number, leaves the vertical blank, starts its rows from 0 and samples the elastic FIFOs (R20). -/
def Obligations.FramesStart : Prop :=
  (∀ (at_ : Nat) (a b : BitVec 6) (s : State), s.pnl.st = .on → s.ras.running = false →
    (s.memLost = true ∨ s.boot.memReady = true ∧ (s.boot.mapReady = true ∨ s.boot.mapWaitOver = true)) →
    ∃ t, exec (.rasterStart ⟨at_, a, b⟩) s = .next t ∧ t.ras.running = true ∧ t.now = max s.now at_ ∧ t.hl.fifoA = a.toNat ∧ t.hl.fifoB = b.toNat) ∧
  (∀ (at_ q : Nat) (a b : BitVec 6) (s : State), s.ras.running = true → s.ras.inBlank = true → s.pnl.st = .on → s.netNext = false →
    s.ras.aborted = false → s.liveSlot = some q → s.ras.earliest ≤ q → q ≤ at_ → s.fn.pend = [] → s.eyes.holdDue = false →
    s.ras.transition = none → s.ras.tagHold = false →
    ∃ t, exec (.frameStart at_ a b) s = .next t ∧ t.ras.frame = s.ras.frame + 1 ∧ t.ras.start = max s.now q ∧ t.ras.kind = .live ∧
      t.ras.inBlank = false ∧ t.ras.rowsStarted = 0 ∧ t.hl.fifoA = a.toNat ∧ t.hl.fifoB = b.toNat) ∧
  (∀ (at_ : Nat) (a b : BitVec 6) (s : State), s.ras.running = true → s.ras.inBlank = true → s.pnl.st = .on → s.netNext = false →
    s.ras.aborted = true → s.nextMode ≠ .lattice → s.ras.earliest ≤ at_ →
    ∃ t, exec (.frameStart at_ a b) s = .next t ∧ t.ras.frame = s.ras.frame + 1 ∧ t.ras.start = max s.now s.ras.earliest ∧ t.ras.kind = .hoop ∧
      t.ras.inBlank = false ∧ t.ras.aborted = false) ∧
  (∀ (at_ : Nat) (a b : BitVec 6) (s : State), s.mayStart = true → s.liveSlot = none →
    s.nextMode = .fixed ∨ s.nextMode = .hold ∨ s.nextMode = .source ∧ s.ras.pull.isSome = true →
    max s.genDue s.ras.earliest ≤ at_ →
    ∃ t, exec (.timingGeneratorPeriod ⟨at_, a, b⟩) s = .next t ∧ t.ras.frame = s.ras.frame + 1 ∧
      t.ras.start = max s.now (max s.genDue s.ras.earliest) ∧ t.ras.kind = .hoop ∧ t.ras.inBlank = false ∧ t.ras.rowsStarted = 0 ∧
      t.hl.fifoA = a.toNat ∧ t.hl.fifoB = b.toNat) ∧
  (∀ (at_ : Nat) (a b : BitVec 6) (s : State), s.mayStart = true → s.liveSlot = none → s.nextMode = .source → s.memLost = false →
    max (s.ras.start + s.deadlineTicks) s.ras.earliest ≤ at_ →
    ∃ t, exec (.repeatDeadline ⟨at_, a, b⟩) s = .next t ∧ t.ras.frame = s.ras.frame + 1 ∧
      t.ras.start = max s.now (max (s.ras.start + s.deadlineTicks) s.ras.earliest) ∧ t.ras.kind = .hoop ∧ t.ras.inBlank = false) ∧
  (∀ (at_ h : Nat) (a b : BitVec 6) (rest : List Nat) (s : State), s.ras.repeats = h :: rest → s.mayStart = true → s.liveSlot = none → s.nextMode = .source →
    s.memLost = false → max h s.ras.earliest ≤ at_ →
    ∃ t, exec (.predictiveRepeat ⟨at_, a, b⟩) s = .next t ∧ t.ras.frame = s.ras.frame + 1 ∧ t.ras.start = max s.now (max h s.ras.earliest) ∧
      t.ras.kind = .hoop ∧ t.ras.inBlank = false)

/-- Row slots and blanks (R22, R26, R238, R284 to R286, R382): a row slot sends its row with its inversion polarity; a client that has missed the row aborts the frame at that row, and the abort blank lasts at least 16 row times; after the last row the vertical blank begins and lasts TIM.V_BLANK_MIN row times. Nothing happens before its instant. Timers of the raster (R254, R261, R263, R369, R370): the dwell takes the ladder one step down, an absence of TIM.CONTINUITY_DELAY opens the way for a clip, and a clip's step is a change that returns a stepped ladder to its base rate; before its instant each only lets time pass. -/
def Obligations.RowsBlanksAndTimersFollow : Prop :=
  ((∀ (at_ : Nat) (bursts : List Burst) (fail next : Bool) (s : State), s.ras.running = true → s.ras.inBlank = false →
      s.ras.rowsStarted < s.ras.rowEnd → s.ras.start + s.ras.rowsStarted * s.ras.rowTime ≤ at_ → s.ras.abortAt = none →
      (s.slotState bursts).missing .left s.ras.rowsStarted = [] → (s.slotState bursts).missing .right s.ras.rowsStarted = [] →
      ∃ t x, exec (.rowSlotStart at_ bursts fail next) s = .next t ∧ t.ras.rowsStarted = s.ras.rowsStarted + 1 ∧ t.ras.frame = s.ras.frame ∧
        t.now = max s.now (s.ras.start + s.ras.rowsStarted * s.ras.rowTime) ∧ t.bob.sent = s.bob.sent ++ [x] ∧ x.row = s.ras.rowsStarted ∧
        x.pol = polOf (s.param 0x4806) s.ras.frame.toNat s.ras.rowsStarted) ∧
    (∀ (at_ : Nat) (bursts : List Burst) (fail next : Bool) (i : Side) (s : State), s.ras.running = true → s.ras.inBlank = false →
      s.ras.rowsStarted < s.ras.rowEnd → s.ras.start + s.ras.rowsStarted * s.ras.rowTime ≤ at_ → s.ras.abortAt = none →
      (s.slotState bursts).missing i s.ras.rowsStarted ≠ [] → s.param 0x2807 ≠ 1 →
      ∃ t, exec (.rowSlotStart at_ bursts fail next) s = .next t ∧ t.ras.inBlank = true ∧ t.ras.aborted = true ∧
        t.ras.rowEnd = s.ras.rowsStarted ∧ t.ras.rowsStarted = s.ras.rowsStarted ∧
        t.ras.earliest = max s.now (s.ras.start + s.ras.rowsStarted * s.ras.rowTime) + max 16 (s.param 0x2803) * s.ras.rowTime) ∧
    (∀ (at_ : Nat) (s : State), s.ras.running = true → s.ras.inBlank = false → s.ras.rowEnd ≤ s.ras.rowsStarted →
      s.ras.start + s.ras.rowEnd * s.ras.rowTime ≤ at_ →
      let blank := max s.now (s.ras.start + s.ras.rowEnd * s.ras.rowTime)
      ∃ t, exec (.verticalBlankStart at_) s = .next t ∧ t.ras.inBlank = true ∧ t.ras.blankAt = blank ∧ t.ras.frame = s.ras.frame ∧
        t.ras.earliest = blank + s.param 0x2803 * s.ras.rowTime ∧ t.mem.consecAborts = 0) ∧
    (∀ (at_ : Nat) (bursts : List Burst) (fail next : Bool) (s : State),
      (at_ < s.ras.start + s.ras.rowsStarted * s.ras.rowTime → exec (.rowSlotStart at_ bursts fail next) s = .next s) ∧
      (at_ < s.ras.start + s.ras.rowEnd * s.ras.rowTime → exec (.verticalBlankStart at_) s = .next s))) ∧
  ((∀ (at_ : Nat) (s : State), s.ras.running = true → s.ladderRuns = true → s.ras.transition = none →
      s.ras.ladderStep < (s.ladderSteps s.ras.active).length →
      (s.ras.dwellFrom + ms (s.param 0x280A) ≤ max s.now at_ →
        ∃ t, exec (.ladderDwellExpiry at_) s = .next t ∧ t.now = max s.now at_ ∧
          t.ras = { s.ras with ladderStep := s.ras.ladderStep + 1, dwellFrom := max s.now at_ }) ∧
      (max s.now at_ < s.ras.dwellFrom + ms (s.param 0x280A) →
        ∃ t, exec (.ladderDwellExpiry at_) s = .next t ∧ t.now = max s.now at_ ∧ t.ras = s.ras)) ∧
    (∀ (at_ f : Nat) (s : State), s.ras.absentFrom = some f →
      (f + ms (s.param 0x2810) ≤ max s.now at_ → ∃ t, exec (.continuityDelayExpiry at_) s = .next t ∧ t.ras.delayOver = true ∧ t.now = max s.now at_) ∧
      (max s.now at_ < f + ms (s.param 0x2810) → ∃ t, exec (.continuityDelayExpiry at_) s = .next t ∧ t.ras = s.ras ∧ t.now = max s.now at_)) ∧
    (∀ (at_ : Nat) (c : ClipPlay) (s : State), s.apq.clip = some c →
      let step := clipStepAt (s.table (0x700 + c.inst)).bytes (max s.now at_ - c.time0)
      (step ≠ c.step → ∃ t, exec (.clipStepDue at_) s = .next t ∧ t.ras = { s.ras with
        ladderStep := 0, dwellFrom := max s.now at_, pull := if 0 < s.ras.ladderStep then some (max s.now at_) else s.ras.pull } ∧ t.apq = s.apq) ∧
      (step = c.step → ∃ t, exec (.clipStepDue at_) s = .next t ∧ t.ras = s.ras ∧ t.apq = s.apq)))


/-! ## The memory subsystem -/

/-- GDDR7 sleep and residence (R278, R280 to R283, R305): GDDR7 enters self-refresh or power-down when no request is queued and the least published tolerance is above its exit time and margin, and leaves it for a class 4 or 5 request or a tolerance that has fallen to them; a compressed frame that fits without a stored container is ready, any other is refused; a resident block that fails its check wakes GDDR7, counts, and ends residence at the next frame start, where the first failure of a HOLD recompresses and a second refuses; the end of the overdrive copy leaves the selected set's node data and the selected tile in SRAM0. -/
def Obligations.MemorySleepsAndCompresses : Prop :=
  (∀ (at_ : Nat) (bursts : List Burst) (s u : State), u = (s.elapse at_).grantBursts bursts →
    (s.domOn dMem = true → u.memQueued = false → u.mem.sleep ≠ .selfRefresh → s.param 0x2C00 = 2 →
      (∀ w, w ∈ u.tolMin → 3000 + s.param 0x2C01 + 1000 * s.param 0x2C02 < w) →
      exec (.memSleepEntry at_ bursts) s = .next { u with mem := { u.mem with sleep := .selfRefresh } }) ∧
    (s.domOn dMem = true → u.memQueued = false → u.mem.sleep = .active → s.param 0x2C00 = 1 → (∀ w, w ∈ u.tolMin → 40 + s.param 0x2C01 < w) →
      exec (.memSleepEntry at_ bursts) s = .next { u with mem := { u.mem with sleep := .powerDown } }) ∧
    (s.param 0x2C00 = 0 ∨ u.memQueued = true → exec (.memSleepEntry at_ bursts) s = .next u)) ∧
  (∀ (at_ : Nat) (bursts : List Burst) (s u : State), u = (s.elapse at_).grantBursts bursts →
    let exit := match s.mem.sleep with | .active => 0 | .powerDown => 40 | .selfRefresh => 3000
    (u.mem.asks ≠ [] ∨ (∃ w, w ∈ u.tolMin ∧ w ≤ exit + s.param 0x2C01) →
      exec (.memSleepExit at_ bursts) s = .next { u with mem := { u.mem with sleep := .active } }) ∧
    (u.mem.asks = [] → (∀ w, w ∈ u.tolMin → exit + s.param 0x2C01 < w) → exec (.memSleepExit at_ bursts) s = .next u)) ∧
  (∀ s : State, s.mem.residence = .compressing →
    let cs := chunks 65536 (s.param 0x2801 * s.param 0x2802 / 16384 + 1) s.markedBytes
    let blocks := (List.range cs.length).map fun k => container s.mem.resLevel (k + 1 == cs.length) false k (cs.getD k [])
    let total := (blocks.map (·.1.length)).sum
    ∃ t, exec .residenceCompressDone s = .next t ∧ t.mem.resBytes = min total 23986176 ∧ t.mem.cells = s.mem.cells ∧
      t.mem.residence = (if (∃ b, b ∈ blocks ∧ b.2 = true) ∨ 23986176 < total then .refused else .ready) ∧
      (t.mem.residence = .ready → t.mem.resBlocks = blocks.map (·.1))) ∧
  (∀ s : State, s.mem.residence ≠ .compressing → exec .residenceCompressDone s = .next s) ∧
  (∀ (at_ : Nat) (bursts : List Burst) (fail : Bool) (s : State), s.ras.running = true → s.ras.inBlank = false → s.ras.rowsStarted < s.ras.rowEnd →
    s.ras.start + s.ras.rowsStarted * s.ras.rowTime ≤ at_ → s.ras.abortAt = none →
    (s.slotState bursts).missing .left s.ras.rowsStarted = [] → (s.slotState bursts).missing .right s.ras.rowsStarted = [] →
    s.mem.residence = .resident → s.ras.kind = .hoop →
    ∃ t, exec (.rowSlotStart at_ bursts fail (!fail)) s = .next t ∧ t.ras.rowsStarted = s.ras.rowsStarted + 1 ∧
      t.mem.resOver = true ∧ t.mem.resFails = s.mem.resFails + 1 ∧ t.mem.sleep = .active ∧ t.mem.residence = .resident) ∧
  (∀ (moved timing : Bool) (s : State), s.mem.residence = .resident → s.mem.resOver = true → s.ras.active = .hold →
    let t := s.residenceFrame false moved timing
    t.mem.resOver = false ∧ t.mem.resFails = s.mem.resFails ∧ t.mem.h0.resident = false ∧ t.mem.h1.resident = false ∧
    (2 ≤ s.mem.resFails → t.mem.residence = .refused) ∧
    (s.mem.resFails < 2 → s.residenceMay = true → t.mem.residence = .compressing) ∧
    (s.mem.resFails < 2 → s.residenceMay = false → t.mem.residence = .none)) ∧
  (∀ s : State,
    (s.domFailed dMem = false → exec .odTableCopyDone s = .next { s with pipe := { s.pipe with
      copyDue := false, sramSet := some (s.param 0x3802), sramOd := (odIds (s.param 0x3802)).map fun id => (s.table id).bytes,
      sramTile := (s.table (0x300 + s.param 0x3C01)).bytes } }) ∧
    (s.domFailed dMem = true → exec .odTableCopyDone s = .next { s with pipe := { s.pipe with copyDue := false } }))

/-! ## The Tatting net -/

/-- The epoch commands of the root (R414, R425 to R427, R430): TAT_ENUMERATE of a root with no device below counts itself; TAT_STAGE gathers a set from its first fragment and checks it on LAST; TAT_ARM gives the epoch its frame, TAT_ABORT discards it, and TAT_STATUS answers the counts, with SKEW while some device is late. Each refuses what its rule refuses, and TAT_ENUMERATE too while TAT is DOMAIN_FAILED (R131, R519). -/
def Obligations.TattingCommandsAct : Prop :=
  (∀ (i : Mb) (s : State), s.served i (.bare 0x00C0) = true →
    (s.domFailed dTat = true → exec (.tatEnumerate i) s = (s.taken i).answered i stDomainFailed []) ∧
    (s.domFailed dTat = false →
    (s.isRoot = false → exec (.tatEnumerate i) s = (s.taken i).answered i stDenied []) ∧
    (s.isRoot = true → s.epochOpen = true → exec (.tatEnumerate i) s = (s.taken i).answered i stBusy []) ∧
    (s.isRoot = true → s.epochOpen = false → s.tat.dn0.st ≠ .up → s.tat.dn1.st ≠ .up →
      ∃ t, exec (.tatEnumerate i) s = .next t ∧ t.tat.id = 1 ∧ t.tat.netSize = 1 ∧ t.tat.netDepth = 0 ∧ t.tat.enum_ = none ∧
        t.tat.topoChanged = false ∧ t.box.jobs.all (·.code != 0x00C0) = true) ∧
    (s.isRoot = true → s.epochOpen = false → s.tat.dn0.st = .up → s.tatDriven = true →
      ∃ t, exec (.tatEnumerate i) s = .next t ∧ t.tat.id = 1 ∧
        t.tat.enum_ = some { next := 2, limit := 16383, depth := 0, dmax := 0, err := 0, port := .dn0 } ∧
        t.tat.dn0.tx = tatInsert { kind := 0x20, payload := toLe 2 2 ++ toLe 2 16383 ++ [1] ++ zeros 3 } s.tat.dn0.tx ∧
        t.box.jobs.any (·.code == 0x00C0) = true))) ∧
  (∀ (i : Mb) (f : Frag) (s : State), s.served i cmdTatStage = true → i ≠ .mb3 → s.domFailed dTat = false → s.isRoot = true → fragAt (s.reqBody i) 4 = f →
    let e := le4 (s.reqBody i) 0
    s.epochOld e = false → (∀ x, s.tat.staged = some x → x.st ≠ .armed) → f.first = true → f.offset = 0 →
    (f.last = false →
      exec (.tatStage i) s = ({ s.taken i with tat := { s.tat with
        staged := some { e := e, bytes := f.data, nextOff := f.data.length, st := .staging, f := 0 } } }).answered i stOk []) ∧
    (f.last = true →
      ∃ t, exec (.tatStage i) s = .next t ∧ t.tat.staged =
        some { e := e, bytes := f.data, nextOff := f.data.length, st := if s.epochOk f.data then .staged else .failed, f := 0 })) ∧
  (∀ (i : Mb) (s : State), s.served i cmdTatStage = true → i ≠ .mb3 → s.domFailed dTat = false → 
    (s.isRoot = false → exec (.tatStage i) s = (s.taken i).answered i stDenied []) ∧
    (s.isRoot = true → s.epochOld (le4 (s.reqBody i) 0) = true → exec (.tatStage i) s = (s.taken i).answered i stOutOfRange [])) ∧
  (∀ (i : Mb) (ep : Epoch) (s : State), s.served i (.fixed 0x00C2 8 fun _ => true) = true → s.domFailed dTat = false → s.tat.staged = some ep →
    (s.isRoot = false → exec (.tatArm i) s = (s.taken i).answered i stDenied []) ∧
    (s.isRoot = true → ep.st = .armed → exec (.tatArm i) s = (s.taken i).answered i stBusy []) ∧
    (s.isRoot = true → ep.st ≠ .armed → (ep.e ≠ le4 (s.reqBody i) 0 ∨ ep.st ≠ .staged) →
      exec (.tatArm i) s = (s.taken i).answered i stNotStaged []) ∧
    (s.isRoot = true → ep.st = .staged → ep.e = le4 (s.reqBody i) 0 → le4 (s.reqBody i) 4 = 0 →
      let f := (s.ras.frame + BitVec.ofNat 32 (2 * s.tat.netDepth + s.param 0x5004)).toNat
      ∃ t : State, exec (.tatArm i) s = t.answered i stOk (toLe 4 f) ∧ t.tat.staged = some { ep with st := .armed, f := f } ∧
        t.tat.armE = ep.e ∧ t.tat.armF = f ∧ t.par = s.par ∧ t.ras = s.ras)) ∧
  (∀ (i : Mb) (ep : Epoch) (s : State), s.served i (.fixed 0x00C3 4 fun _ => true) = true → s.domFailed dTat = false → s.isRoot = true → s.tat.staged = some ep →
    ep.e = le4 (s.reqBody i) 0 → ep.st = .staging ∨ ep.st = .staged →
    ∃ t : State, exec (.tatAbort i) s = t.answered i stOk [] ∧ t.tat.staged = some { ep with st := .aborted, bytes := [] } ∧ t.par = s.par) ∧
  (∀ (i : Mb) (s : State), s.served i (.fixed 0x00C3 4 fun _ => true) = true → s.domFailed dTat = false → 
    (s.isRoot = false → exec (.tatAbort i) s = (s.taken i).answered i stDenied []) ∧
    (s.isRoot = true → s.epochRec (le4 (s.reqBody i) 0) = none → exec (.tatAbort i) s = (s.taken i).answered i stNotStaged [])) ∧
  (∀ (i : Mb) (s : State), s.served i (.fixed 0x00C4 4 fun _ => true) = true →
    let e := le4 (s.reqBody i) 0
    ((s.epochRec e).isSome = true ∨ (e = s.tat.wantE ∧ e ≠ 0) →
      exec (.tatStatus i) s = (s.taken i).answered i (if 0 < (s.counts e).skewed then stSkew else stOk) (s.countBytes e)) ∧
    (s.epochRec e = none → e ≠ s.tat.wantE → exec (.tatStatus i) s = (s.taken i).answered i stNotStaged []))

/-- Ports and hop delay (R411, R416): a receiver that finds commas brings its port up, TAT_UP after measuring its delay; the sixteenth code error within a millisecond and silence take a port down and drop what waits on it; a message that does not decode, fails its CRC-16 or has an unknown TYPE is counted; delay requests are sent, answered with the residence time, and half of what remains of the round trip is the newest hop delay. -/
def Obligations.PortsComeUpAndMeasure : Prop :=
  (∀ (p : TatPort) (s : State), (s.tat.port p).st = .down → s.portOn p = true → s.domOn dTat = true →
    ∃ t, exec (.tatPortUp p) s = .next t ∧ (t.tat.port p).st = if p = .up then .measuring else .up) ∧
  (∀ (p : TatPort) (at_ : Nat) (s : State), (s.tat.port p).st ≠ .down →
    let recent := (s.tat.port p).errs.filter fun e => max s.now at_ < e + ms 1
    (recent.length + 1 < 16 →
      ∃ t, exec (.tatCodeError p at_) s = .next t ∧ (t.tat.port p).st = (s.tat.port p).st ∧ (t.tat.port p).errs = recent ++ [max s.now at_]) ∧
    (16 ≤ recent.length + 1 →
      ∃ t, exec (.tatCodeError p at_) s = .next t ∧ (t.tat.port p).st = .down ∧ (t.tat.port p).tx = [])) ∧
  (∀ (p : TatPort) (s : State), (s.tat.port p).st ≠ .down →
    (∃ t, exec (.tatPortSilence p) s = .next t ∧ (t.tat.port p).st = .down ∧ (t.tat.port p).tx = [] ∧
      ∀ q, q ≠ p → t.tat.port q = s.tat.port q) ∧
    ∀ (codes : List (BitVec 10)) (a b : Nat) (c : Instr), tatHear codes = none → c ∈ [Instr.tatMsgCrcFail (p, codes), .delayReq p a b codes, .beacon p a b b codes, .enumerate p codes, .enumDone p codes,
        .stageFragment p codes, .countUp p codes, .setReq p codes, .abortEpoch p codes, .peer p codes, .pairEvent p codes] →
      exec c s = .next (s.count 1286 1)) ∧
  (∀ (sent : Nat) (s : State), s.isRoot = false → s.tat.up.st ≠ .down → s.tatDriven = true →
    ∃ t, exec (.delayReqTimer sent) s = .next t ∧ t.tat.seq = (s.tat.seq + 1) % 65536 ∧ t.tat.reqAt = some sent ∧
      t.tat.up.tx = tatInsert { kind := 0x11, payload := toLe 2 ((s.tat.seq + 1) % 65536) ++ zeros 14 } s.tat.up.tx) ∧
  (∀ (p : TatPort) (a b : Nat) (codes : List (BitVec 10)) (m : List Byte) (s : State), tatHear codes = some (0x11, m) → p ≠ .up → m.length = 16 →
    (s.tat.port p).st ≠ .down → s.tatDriven = true →
    ∃ t, exec (.delayReq p a b codes) s = .next t ∧
      (t.tat.port p).tx = tatInsert { kind := 0x12, payload := slice m 0 2 ++ zeros 2 ++ toLe 4 (b - a) ++ zeros 8 } (s.tat.port p).tx ∧
      ∀ q, q ≠ p → t.tat.port q = s.tat.port q) ∧
  (∀ (a t1 : Nat) (codes : List (BitVec 10)) (m : List Byte) (s : State), tatHear codes = some (0x12, m) → s.tat.reqAt = some t1 → m.length = 16 → le2 m 0 = s.tat.seq → s.tat.up.st ≠ .down →
    s.tat.hops.length ≤ 16 →
    ∃ t, exec (.delayResp a codes) s = .next t ∧ t.tat.reqAt = none ∧ t.tat.hops.getLast? = some ((a - t1 - le4 m 4) / 2) ∧
      t.tat.hopDelay = median t.tat.hops ∧ t.tat.hops.length = min 16 (s.tat.hops.length + 1) ∧
      t.tat.up.st = if s.tat.up.st = .measuring ∧ 15 ≤ s.tat.hops.length then .up else s.tat.up.st) ∧
  (∀ s : State, exec .delayRespTimeout s = .next { s with tat := { s.tat with reqAt := none } })

/-- Beacons (R418 to R420, R432): the root sends its beacon for the next frame; one that comes in time over TAT_UP and fits the panel locks the device and times its next frame, one that comes late is only counted, and a missing one leaves it in holdover on the predicted frame, which after TAT.HOLDOVER of them is where it islands. -/
def Obligations.BeaconsTimeFrames : Prop :=
  (∀ s : State, s.ras.running = true → s.isRoot = true → s.ras.active = .lattice → s.tat.dn0.st ≠ .down → s.tatDriven = true → s.tat.armE = 0 →
    ∃ t b, exec .beaconSend s = .next t ∧ t.tat.dn0.tx = tatInsert { kind := 0x10, payload := b } s.tat.dn0.tx ∧ b.length = 48 ∧
      le4 b 0 = (s.ras.frame + 1).toNat ∧ byteAt b 14 = 0 ∧ byteAt b 15 = 0 ∧ t.ras = s.ras) ∧
  (∀ (a s0 s1 : Nat) (codes : List (BitVec 10)) (p : List Byte) (b : BeaconTiming) (s : State), tatHear codes = some (0x10, p) → s.tat.up.st = .up → p.length = 48 → (byteAt p 14).toNat ≤ 15 →
    s.beaconTiming a p = (b, true) → s.isFollower = false → s.timingFits b.periodNs b.rowTime = true → s.tat.lock ≠ .islanded →
    byteAt p 15 = 0 → s.tat.armE = 0 → s.tat.armUnfit = false → le4 p 24 ≤ s.appliedE →
    ∃ t, exec (.beacon .up a s0 s1 codes) s = .next t ∧ t.tat.lock = .locked ∧ t.tat.next = some b ∧ t.tat.last = some b ∧ t.tat.missed = 0 ∧
      t.tat.depth = (byteAt p 14).toNat + 1 ∧ t.par = s.par) ∧
  (∀ (a s0 s1 : Nat) (codes : List (BitVec 10)) (p : List Byte) (b : BeaconTiming) (s : State), tatHear codes = some (0x10, p) → s.tat.up.st = .up → p.length = 48 → (byteAt p 14).toNat ≤ 15 →
    s.beaconTiming a p = (b, false) → ∃ q, exec (.beacon .up a s0 s1 codes) s = .next { s.count 1282 1 with pwr := q }) ∧
  (∀ (q : BeaconTiming) (s : State), s.isFollower = false → s.isRoot = false → s.tat.last = some q → s.tat.lock ≠ .islanded →
    s.onNet = true → s.tat.next = none → s.tat.armUnfit = false → s.tat.missed < 255 →
    ∃ t, exec .beaconMissing s = .next t ∧ t.tat.lock = .holdover ∧ t.tat.missed = s.tat.missed + 1 ∧
      t.tat.next = some (s.predict q) ∧ t.tat.last = some (s.predict q) ∧
      t.ras = { s.ras with heldChange := if s.param 0x5002 ≤ s.tat.missed + 1 then some .island else s.ras.heldChange })

/-- Enumeration (R414, R415): a device takes the first ID it is offered and, with nothing below, answers its parent with the next one; the answer of the last child ends the root's enumeration with the totals, and a child that does not answer ends it with an error. -/
def Obligations.EnumerationGivesIds : Prop :=
  (∀ (codes : List (BitVec 10)) (m : List Byte) (s : State), tatHear codes = some (0x20, m) → s.tatDriven = true → m.length = 8 → s.isRoot = false → (byteAt m 4).toNat ≤ 16 → le2 m 0 ≤ le2 m 2 → s.tat.up.st ≠ .down →
    s.tat.dn0.st ≠ .up → s.tat.dn1.st ≠ .up →
    ∃ t, exec (.enumerate .up codes) s = .next t ∧ t.tat.id = le2 m 0 ∧ t.tat.depth = (byteAt m 4).toNat ∧ t.tat.enum_ = none ∧
      t.tat.topoChanged = false ∧
      t.tat.up.tx = tatInsert { kind := 0x21, payload := toLe 2 (le2 m 0 + 1) ++ [Byte.of (byteAt m 4).toNat, Byte.of 0] ++ zeros 4 } s.tat.up.tx) ∧
  (∀ (codes : List (BitVec 10)) (m : List Byte) (r : EnumRun) (s : State), tatHear codes = some (0x21, m) → s.tat.dn1.st ≠ .down → m.length = 8 → s.isRoot = true → s.tat.enum_ = some r → r.port = .dn1 →
    ∃ t, exec (.enumDone .dn1 codes) s = .next t ∧ t.tat.enum_ = none ∧ t.tat.dn1.first = r.next ∧ t.tat.dn1.last = le2 m 0 - 1 ∧
      t.tat.netSize = le2 m 0 - 1 ∧ t.tat.netDepth = max r.dmax (byteAt m 2).toNat ∧ t.box.jobs.all (·.code != 0x00C0) = true) ∧
  (∀ (r : EnumRun) (s : State), s.isRoot = true → s.tat.enum_ = some r → r.port = .dn1 →
    ∃ t, exec (.enumTimeout .dn1) s = .next t ∧ t.tat.enum_ = none ∧ t.tat.netSize = r.next - 1 ∧ t.tat.netDepth = r.dmax ∧
      t.box.jobs.all (·.code != 0x00C0) = true)

/-- Epoch sets, counts and peer traffic (R425, R426, R429, R430, R437): a fragment from the parent goes on down and to the device's own MB3; a child's counts are kept; the stage time-out ends TAT_STAGE; a held set goes to the child that asks for it; an abort discards the set; a PEER message goes to the port that leads to its device or to MB3. -/
def Obligations.EpochTrafficIsCarried : Prop :=
  (∀ (codes : List (BitVec 10)) (m : List Byte) (s : State), tatHear codes = some (0x30, m) → s.tat.up.st ≠ .down → 8 ≤ m.length → m.length ≤ 256 →
    s.isRoot = false → s.tatDriven = true → s.box.peers = [] → s.box.mb3.st = .idle →
    let body := slice m 0 4 ++ toLe 2 (2 * b2n ((byteAt m 6).toNat.testBit 0) + b2n (le2 m 4 == 0)) ++ zeros 2 ++ toLe 4 (le2 m 4) ++ m.drop 8
    ∃ t, exec (.stageFragment .up codes) s = .next t ∧ t.box.mb3.st = .pending ∧ t.box.mb3.origin = .peer ∧ t.box.order = s.box.order ++ [.mb3] ∧
      t.box.mb3.req = padBuf (toLe 2 0x00C1 ++ toLe 2 body.length ++ zeros 4 ++ body) ∧
      (s.tat.dn0.st ≠ .down → t.tat.dn0.tx = tatInsert { kind := 0x30, payload := m } s.tat.dn0.tx) ∧
      (s.tat.dn1.st ≠ .down → t.tat.dn1.tx = tatInsert { kind := 0x30, payload := m } s.tat.dn1.tx)) ∧
  (∀ (p : TatPort) (codes : List (BitVec 10)) (m : List Byte) (s : State), tatHear codes = some (0x31, m) → (s.tat.port p).st ≠ .down → p ≠ .up → m.length = 28 →
    ∃ t, exec (.countUp p codes) s = .next t ∧ (t.tat.port p).topology = (byteAt m 5).toNat.testBit 0 ∧
      (t.tat.port p).counts = [le4 m 0, le2 m 12, le2 m 14, le2 m 16, le2 m 18, le2 m 20, le2 m 22, le2 m 24]) ∧
  (∀ s : State, s.isRoot = true → ∃ t, exec .tatStageTimeout s = .next t ∧ t.box.jobs.all (·.code != 0x00C1) = true ∧ t.tat = s.tat) ∧
  (∀ (p : TatPort) (codes : List (BitVec 10)) (m : List Byte) (x : Epoch) (s : State), tatHear codes = some (0x32, m) → s.tatDriven = true → p ≠ .up → m.length = 8 → s.epochRec (le4 m 0) = some x → x.held = true →
    (s.tat.port p).st ≠ .down → 0 < x.bytes.length → x.bytes.length ≤ 248 →
    ∃ t, exec (.setReq p codes) s = .next t ∧ (∀ q, q ≠ p → t.tat.port q = s.tat.port q) ∧
      (t.tat.port p).tx = tatInsert { kind := 0x30, payload := toLe 4 (le4 m 0) ++ toLe 2 0 ++ [1, 0] ++ x.bytes } (s.tat.port p).tx) ∧
  (∀ (codes : List (BitVec 10)) (m : List Byte) (x : Epoch) (s : State), tatHear codes = some (0x33, m) → s.tat.up.st ≠ .down → m.length = 8 → s.isRoot = false → s.tat.staged = some x → x.e = le4 m 0 → x.st ≠ .aborted →
    ∃ t, exec (.abortEpoch .up codes) s = .next t ∧ t.tat.staged = some { x with st := .aborted, bytes := [] } ∧ t.par = s.par) ∧
  (∀ (p : TatPort) (codes : List (BitVec 10)) (m : List Byte) (s : State), tatHear codes = some (0x40, m) → (s.tat.port p).st ≠ .down → 8 ≤ m.length → m.length ≤ 256 →
    (le2 m 0 ≠ s.tat.id → s.tat.dn0.first ≤ le2 m 0 → le2 m 0 ≤ s.tat.dn0.last → s.tat.dn0.st ≠ .down → s.tatDriven = true →
      ∃ t, exec (.peer p codes) s = .next t ∧ t.tat.dn0.tx = tatInsert { kind := 0x40, payload := m } s.tat.dn0.tx ∧ t.box = s.box) ∧
    (le2 m 0 = s.tat.id → le2 m 0 ≠ 0 → s.box.peers = [] → s.box.mb3.st = .idle → (byteAt m 4).toNat % 4 = 3 → le2 m 6 = 0 →
      ∃ t, exec (.peer p codes) s = .next t ∧ t.box.mb3.st = .pending ∧ t.box.mb3.req = padBuf (m.drop 8) ∧ t.box.order = s.box.order ++ [.mb3]))

/-! ## Paired panels -/

/-- A pair (R267, R423, R435, R436): PAIR_FRAME and the strobe give the follower its next frame start on the CK_PIPE grid and its lock; events of the frame being scanned end it at a row, abort it, make it a repeat, hold its tag or report the follower's T4 state; the follower repeats its report while the pair's timing does not match it. -/
def Obligations.PairsRunTogether : Prop :=
  (∀ (arrived : Nat) (codes : List (BitVec 10)) (m : List Byte) (s : State), tatHear codes = some (0x50, m) → s.isFollower = true →
    s.pairOpen .up = true → m.length = 16 →
    (BitVec.ofNat 32 (le4 m 0) = s.ras.frame →
      ∃ t, exec (.pairFrame arrived codes) s = .next t ∧ t.pipe.phase = byteAt m 12 ∧ t.tat.next = s.tat.next ∧ t.tat.lock = .follower ∧
        t.tat.missed = 0) ∧
    (BitVec.ofNat 32 (le4 m 0) ≠ s.ras.frame →
    ∃ t b, exec (.pairFrame arrived codes) s = .next t ∧ t.tat.next = some b ∧ b.frame = BitVec.ofNat 32 (le4 m 0) ∧ b.rowTime = le2 m 8 ∧
      b.start = roundDiv (3 * (((arrived + s.tat.hopDelay : Nat) : Int) * s.tat.rho.2 + signed 32 (le4 m 4) * s.tat.rho.1)) (40 * s.tat.rho.2) ∧
      t.tat.lock = .follower ∧ t.tat.missed = 0 ∧ t.tat.pairHoop = some ((byteAt m 11).toNat.testBit 0) ∧
      t.pipe.phase + 1 = byteAt m 12)) ∧
  (∀ (arrived : Nat) (s : State), s.isFollower = true → s.pairOpen .up = true →
    ∃ t b, exec (.pairStrobe arrived) s = .next t ∧ t.tat.next = some b ∧ b.frame = s.ras.frame + 1 ∧
      b.start = roundDiv (3 * ((arrived : Int) - s.tat.hopDelay)) 40 + (if s.scaled then 360 else 180) ∧
      t.tat.lock = .follower ∧ t.tat.pairHoop = some false) ∧
  (∀ (p : TatPort) (codes : List (BitVec 10)) (m : List Byte) (s : State), tatHear codes = some (0x51, m) → s.pairOpen p = true → m.length = 16 →
    (byteAt m 4 = 2 → s.ras.running = true → s.ras.inBlank = false → s.ras.frame.toNat = le4 m 0 →
      ∃ q, exec (.pairEvent p codes) s = .next { s with
        ras := { s.ras with abortAt := some (match s.ras.abortAt with | some r => min (le2 m 6) r | none => le2 m 6) }, pwr := q }) ∧
    (byteAt m 4 = 3 → s.ras.running = true → s.ras.inBlank = false → s.ras.frame.toNat = le4 m 0 → s.ras.kind = .live →
      ∃ t, exec (.pairEvent p codes) s = .next t ∧
        t.ras = { s.ras with repeatFrom := some (match s.ras.repeatFrom with | some r => min (le2 m 6) r | none => le2 m 6) }) ∧
    (byteAt m 4 = 1 → s.isFollower = true → s.ras.running = true → s.ras.inBlank = false → s.ras.frame.toNat = le4 m 0 → s.ras.kind = .hoop →
      ∃ t, exec (.pairEvent p codes) s = .next t ∧ t.ras = { s.ras with rowEnd := min s.ras.rowEnd (max (le2 m 6) s.ras.rowsStarted) }) ∧
    (byteAt m 4 = 4 → ∃ t, exec (.pairEvent p codes) s = .next t ∧ t.ras.tagHold = true) ∧
    (byteAt m 4 = 5 → s.isFollower = false → s.ras.running = false →
      ∃ q, exec (.pairEvent p codes) s = .next { s with tat := { s.tat with followerT4 := (le2 m 6).testBit 0 }, pwr := q }) ∧
    (byteAt m 4 = 5 → s.isFollower = true → exec (.pairEvent p codes) s = .next s)) ∧
  (∀ s : State, s.isFollower = true → s.scaled ≠ s.tat.lastKind5 → s.tat.up.st ≠ .down → s.tatDriven = true →
    let m := toLe 4 s.ras.frame.toNat ++ [5, 0] ++ toLe 2 (b2n s.tat.lastKind5) ++ zeros 8
    ∃ t, exec .pairEventRepeat s = .next t ∧ t.tat.up.tx = tatInsert { kind := 0x51, payload := m } s.tat.up.tx) ∧
  (∀ s : State, s.isFollower = false ∨ s.scaled = s.tat.lastKind5 → exec .pairEventRepeat s = .next s)

/-! ## Frames -/

/-- The frame of every mailbox command: when it gives a next state, every part of the device that `changes` does not list for it holds what it held before, each byte of GDDR7, NOR and NAND reads as before unless the command stores there, and the queue stays. The bytes a storing command leaves alone are in its own statement. -/
def Obligations.MailboxCommandsLeaveTheRest : Prop :=
  ∀ (c : Instr) (s t : State), Family.of c = .mailbox → exec c s = .next t →
    t.pending = s.pending ∧ ∀ p : Part, p ∉ changes c → p.kept s t

/-- The frame of the commands of start-up, reset, supply, power domains, temperature, ports, flash and timers: every part that `changes` does not list for the command holds what it held before, each byte of GDDR7, NOR and NAND reads as before unless the command stores there or takes its power away, and the queue stays. -/
def Obligations.DeviceCommandsLeaveTheRest : Prop :=
  ∀ (c : Instr) (s t : State), Family.of c = .device → exec c s = .next t →
    t.pending = s.pending ∧ ∀ p : Part, p ∉ changes c → p.kept s t

/-- The frame of the commands of the Vorul link, the Tatting net and pairs: every part that `changes` does not list for the command holds what it held before, each byte of GDDR7, NOR and NAND reads as before unless the command stores there, and the queue stays. -/
def Obligations.LinkAndNetCommandsLeaveTheRest : Prop :=
  ∀ (c : Instr) (s t : State), Family.of c = .link → exec c s = .next t →
    t.pending = s.pending ∧ ∀ p : Part, p ∉ changes c → p.kept s t

/-- The frame of the commands of the raster, the memory subsystem, sensing and the panel: every part that `changes` does not list for the command holds what it held before, each byte of GDDR7, NOR and NAND reads as before unless the command stores there, and the queue stays. -/
def Obligations.RasterAndPanelCommandsLeaveTheRest : Prop :=
  ∀ (c : Instr) (s t : State), Family.of c = .raster → exec c s = .next t →
    t.pending = s.pending ∧ ∀ p : Part, p ∉ changes c → p.kept s t
end

