-- ==== Sys2Proof/Laws/State.lean ====
section
/-! SUPPORT. How each field of the state passes through folds, conditionals and optional steps: one lemma per field and shape, so that no later proof unfolds them. -/

namespace Sys2Proof.Machine

@[simp] theorem State.foldl_now {α : Type} (g : State → α → State) (h : ∀ t x, (g t x).now = t.now) (l : List α) (s : State) :
    (l.foldl g s).now = s.now := by
  induction l generalizing s with
  | nil => rfl
  | cons x xs ih => simp [List.foldl, ih, h]

@[simp] theorem State.foldr_now {α : Type} (g : α → State → State) (h : ∀ x t, (g x t).now = t.now) (l : List α) (s : State) :
    (l.foldr g s).now = s.now := by
  induction l with
  | nil => rfl
  | cons x xs ih => simp [List.foldr, ih, h]

@[simp] theorem State.ite_now (c : Prop) [Decidable c] (a b : State) :
    (if c then a else b).now = if c then a.now else b.now := by split <;> rfl

@[simp] theorem State.elim_now {α : Type} (o : Option α) (a : State) (f : α → State) (h : ∀ x, (f x).now = a.now) :
    (o.elim a f).now = a.now := by cases o <;> simp [h]

@[simp] theorem State.foldl_boot {α : Type} (g : State → α → State) (h : ∀ t x, (g t x).boot = t.boot) (l : List α) (s : State) :
    (l.foldl g s).boot = s.boot := by
  induction l generalizing s with
  | nil => rfl
  | cons x xs ih => simp [List.foldl, ih, h]

@[simp] theorem State.foldr_boot {α : Type} (g : α → State → State) (h : ∀ x t, (g x t).boot = t.boot) (l : List α) (s : State) :
    (l.foldr g s).boot = s.boot := by
  induction l with
  | nil => rfl
  | cons x xs ih => simp [List.foldr, ih, h]

@[simp] theorem State.ite_boot (c : Prop) [Decidable c] (a b : State) :
    (if c then a else b).boot = if c then a.boot else b.boot := by split <;> rfl

@[simp] theorem State.elim_boot {α : Type} (o : Option α) (a : State) (f : α → State) (h : ∀ x, (f x).boot = a.boot) :
    (o.elim a f).boot = a.boot := by cases o <;> simp [h]

@[simp] theorem State.foldl_vin {α : Type} (g : State → α → State) (h : ∀ t x, (g t x).vin = t.vin) (l : List α) (s : State) :
    (l.foldl g s).vin = s.vin := by
  induction l generalizing s with
  | nil => rfl
  | cons x xs ih => simp [List.foldl, ih, h]

@[simp] theorem State.foldr_vin {α : Type} (g : α → State → State) (h : ∀ x t, (g x t).vin = t.vin) (l : List α) (s : State) :
    (l.foldr g s).vin = s.vin := by
  induction l with
  | nil => rfl
  | cons x xs ih => simp [List.foldr, ih, h]

@[simp] theorem State.ite_vin (c : Prop) [Decidable c] (a b : State) :
    (if c then a else b).vin = if c then a.vin else b.vin := by split <;> rfl

@[simp] theorem State.elim_vin {α : Type} (o : Option α) (a : State) (f : α → State) (h : ∀ x, (f x).vin = a.vin) :
    (o.elim a f).vin = a.vin := by cases o <;> simp [h]

@[simp] theorem State.foldl_win {α : Type} (g : State → α → State) (h : ∀ t x, (g t x).win = t.win) (l : List α) (s : State) :
    (l.foldl g s).win = s.win := by
  induction l generalizing s with
  | nil => rfl
  | cons x xs ih => simp [List.foldl, ih, h]

@[simp] theorem State.foldr_win {α : Type} (g : α → State → State) (h : ∀ x t, (g x t).win = t.win) (l : List α) (s : State) :
    (l.foldr g s).win = s.win := by
  induction l with
  | nil => rfl
  | cons x xs ih => simp [List.foldr, ih, h]

@[simp] theorem State.ite_win (c : Prop) [Decidable c] (a b : State) :
    (if c then a else b).win = if c then a.win else b.win := by split <;> rfl

@[simp] theorem State.elim_win {α : Type} (o : Option α) (a : State) (f : α → State) (h : ∀ x, (f x).win = a.win) :
    (o.elim a f).win = a.win := by cases o <;> simp [h]

@[simp] theorem State.foldl_box {α : Type} (g : State → α → State) (h : ∀ t x, (g t x).box = t.box) (l : List α) (s : State) :
    (l.foldl g s).box = s.box := by
  induction l generalizing s with
  | nil => rfl
  | cons x xs ih => simp [List.foldl, ih, h]

@[simp] theorem State.foldr_box {α : Type} (g : α → State → State) (h : ∀ x t, (g x t).box = t.box) (l : List α) (s : State) :
    (l.foldr g s).box = s.box := by
  induction l with
  | nil => rfl
  | cons x xs ih => simp [List.foldr, ih, h]

@[simp] theorem State.ite_box (c : Prop) [Decidable c] (a b : State) :
    (if c then a else b).box = if c then a.box else b.box := by split <;> rfl

@[simp] theorem State.elim_box {α : Type} (o : Option α) (a : State) (f : α → State) (h : ∀ x, (f x).box = a.box) :
    (o.elim a f).box = a.box := by cases o <;> simp [h]

@[simp] theorem State.foldl_evq {α : Type} (g : State → α → State) (h : ∀ t x, (g t x).evq = t.evq) (l : List α) (s : State) :
    (l.foldl g s).evq = s.evq := by
  induction l generalizing s with
  | nil => rfl
  | cons x xs ih => simp [List.foldl, ih, h]

@[simp] theorem State.foldr_evq {α : Type} (g : α → State → State) (h : ∀ x t, (g x t).evq = t.evq) (l : List α) (s : State) :
    (l.foldr g s).evq = s.evq := by
  induction l with
  | nil => rfl
  | cons x xs ih => simp [List.foldr, ih, h]

@[simp] theorem State.ite_evq (c : Prop) [Decidable c] (a b : State) :
    (if c then a else b).evq = if c then a.evq else b.evq := by split <;> rfl

@[simp] theorem State.elim_evq {α : Type} (o : Option α) (a : State) (f : α → State) (h : ∀ x, (f x).evq = a.evq) :
    (o.elim a f).evq = a.evq := by cases o <;> simp [h]

@[simp] theorem State.foldl_log {α : Type} (g : State → α → State) (h : ∀ t x, (g t x).log = t.log) (l : List α) (s : State) :
    (l.foldl g s).log = s.log := by
  induction l generalizing s with
  | nil => rfl
  | cons x xs ih => simp [List.foldl, ih, h]

@[simp] theorem State.foldr_log {α : Type} (g : α → State → State) (h : ∀ x t, (g x t).log = t.log) (l : List α) (s : State) :
    (l.foldr g s).log = s.log := by
  induction l with
  | nil => rfl
  | cons x xs ih => simp [List.foldr, ih, h]

@[simp] theorem State.ite_log (c : Prop) [Decidable c] (a b : State) :
    (if c then a else b).log = if c then a.log else b.log := by split <;> rfl

@[simp] theorem State.elim_log {α : Type} (o : Option α) (a : State) (f : α → State) (h : ∀ x, (f x).log = a.log) :
    (o.elim a f).log = a.log := by cases o <;> simp [h]

@[simp] theorem State.foldl_stat {α : Type} (g : State → α → State) (h : ∀ t x, (g t x).stat = t.stat) (l : List α) (s : State) :
    (l.foldl g s).stat = s.stat := by
  induction l generalizing s with
  | nil => rfl
  | cons x xs ih => simp [List.foldl, ih, h]

@[simp] theorem State.foldr_stat {α : Type} (g : α → State → State) (h : ∀ x t, (g x t).stat = t.stat) (l : List α) (s : State) :
    (l.foldr g s).stat = s.stat := by
  induction l with
  | nil => rfl
  | cons x xs ih => simp [List.foldr, ih, h]

@[simp] theorem State.ite_stat (c : Prop) [Decidable c] (a b : State) :
    (if c then a else b).stat = if c then a.stat else b.stat := by split <;> rfl

@[simp] theorem State.elim_stat {α : Type} (o : Option α) (a : State) (f : α → State) (h : ∀ x, (f x).stat = a.stat) :
    (o.elim a f).stat = a.stat := by cases o <;> simp [h]

@[simp] theorem State.foldl_eyes {α : Type} (g : State → α → State) (h : ∀ t x, (g t x).eyes = t.eyes) (l : List α) (s : State) :
    (l.foldl g s).eyes = s.eyes := by
  induction l generalizing s with
  | nil => rfl
  | cons x xs ih => simp [List.foldl, ih, h]

@[simp] theorem State.foldr_eyes {α : Type} (g : α → State → State) (h : ∀ x t, (g x t).eyes = t.eyes) (l : List α) (s : State) :
    (l.foldr g s).eyes = s.eyes := by
  induction l with
  | nil => rfl
  | cons x xs ih => simp [List.foldr, ih, h]

@[simp] theorem State.ite_eyes (c : Prop) [Decidable c] (a b : State) :
    (if c then a else b).eyes = if c then a.eyes else b.eyes := by split <;> rfl

@[simp] theorem State.elim_eyes {α : Type} (o : Option α) (a : State) (f : α → State) (h : ∀ x, (f x).eyes = a.eyes) :
    (o.elim a f).eyes = a.eyes := by cases o <;> simp [h]

@[simp] theorem State.foldl_par {α : Type} (g : State → α → State) (h : ∀ t x, (g t x).par = t.par) (l : List α) (s : State) :
    (l.foldl g s).par = s.par := by
  induction l generalizing s with
  | nil => rfl
  | cons x xs ih => simp [List.foldl, ih, h]

@[simp] theorem State.foldr_par {α : Type} (g : α → State → State) (h : ∀ x t, (g x t).par = t.par) (l : List α) (s : State) :
    (l.foldr g s).par = s.par := by
  induction l with
  | nil => rfl
  | cons x xs ih => simp [List.foldr, ih, h]

@[simp] theorem State.ite_par (c : Prop) [Decidable c] (a b : State) :
    (if c then a else b).par = if c then a.par else b.par := by split <;> rfl

@[simp] theorem State.elim_par {α : Type} (o : Option α) (a : State) (f : α → State) (h : ∀ x, (f x).par = a.par) :
    (o.elim a f).par = a.par := by cases o <;> simp [h]

@[simp] theorem State.foldl_fn {α : Type} (g : State → α → State) (h : ∀ t x, (g t x).fn = t.fn) (l : List α) (s : State) :
    (l.foldl g s).fn = s.fn := by
  induction l generalizing s with
  | nil => rfl
  | cons x xs ih => simp [List.foldl, ih, h]

@[simp] theorem State.foldr_fn {α : Type} (g : α → State → State) (h : ∀ x t, (g x t).fn = t.fn) (l : List α) (s : State) :
    (l.foldr g s).fn = s.fn := by
  induction l with
  | nil => rfl
  | cons x xs ih => simp [List.foldr, ih, h]

@[simp] theorem State.ite_fn (c : Prop) [Decidable c] (a b : State) :
    (if c then a else b).fn = if c then a.fn else b.fn := by split <;> rfl

@[simp] theorem State.elim_fn {α : Type} (o : Option α) (a : State) (f : α → State) (h : ∀ x, (f x).fn = a.fn) :
    (o.elim a f).fn = a.fn := by cases o <;> simp [h]

@[simp] theorem State.foldl_tab {α : Type} (g : State → α → State) (h : ∀ t x, (g t x).tab = t.tab) (l : List α) (s : State) :
    (l.foldl g s).tab = s.tab := by
  induction l generalizing s with
  | nil => rfl
  | cons x xs ih => simp [List.foldl, ih, h]

@[simp] theorem State.foldr_tab {α : Type} (g : α → State → State) (h : ∀ x t, (g x t).tab = t.tab) (l : List α) (s : State) :
    (l.foldr g s).tab = s.tab := by
  induction l with
  | nil => rfl
  | cons x xs ih => simp [List.foldr, ih, h]

@[simp] theorem State.ite_tab (c : Prop) [Decidable c] (a b : State) :
    (if c then a else b).tab = if c then a.tab else b.tab := by split <;> rfl

@[simp] theorem State.elim_tab {α : Type} (o : Option α) (a : State) (f : α → State) (h : ∀ x, (f x).tab = a.tab) :
    (o.elim a f).tab = a.tab := by cases o <;> simp [h]

@[simp] theorem State.foldl_pwr {α : Type} (g : State → α → State) (h : ∀ t x, (g t x).pwr = t.pwr) (l : List α) (s : State) :
    (l.foldl g s).pwr = s.pwr := by
  induction l generalizing s with
  | nil => rfl
  | cons x xs ih => simp [List.foldl, ih, h]

@[simp] theorem State.foldr_pwr {α : Type} (g : α → State → State) (h : ∀ x t, (g x t).pwr = t.pwr) (l : List α) (s : State) :
    (l.foldr g s).pwr = s.pwr := by
  induction l with
  | nil => rfl
  | cons x xs ih => simp [List.foldr, ih, h]

@[simp] theorem State.ite_pwr (c : Prop) [Decidable c] (a b : State) :
    (if c then a else b).pwr = if c then a.pwr else b.pwr := by split <;> rfl

@[simp] theorem State.elim_pwr {α : Type} (o : Option α) (a : State) (f : α → State) (h : ∀ x, (f x).pwr = a.pwr) :
    (o.elim a f).pwr = a.pwr := by cases o <;> simp [h]

@[simp] theorem State.foldl_thm {α : Type} (g : State → α → State) (h : ∀ t x, (g t x).thm = t.thm) (l : List α) (s : State) :
    (l.foldl g s).thm = s.thm := by
  induction l generalizing s with
  | nil => rfl
  | cons x xs ih => simp [List.foldl, ih, h]

@[simp] theorem State.foldr_thm {α : Type} (g : α → State → State) (h : ∀ x t, (g x t).thm = t.thm) (l : List α) (s : State) :
    (l.foldr g s).thm = s.thm := by
  induction l with
  | nil => rfl
  | cons x xs ih => simp [List.foldr, ih, h]

@[simp] theorem State.ite_thm (c : Prop) [Decidable c] (a b : State) :
    (if c then a else b).thm = if c then a.thm else b.thm := by split <;> rfl

@[simp] theorem State.elim_thm {α : Type} (o : Option α) (a : State) (f : α → State) (h : ∀ x, (f x).thm = a.thm) :
    (o.elim a f).thm = a.thm := by cases o <;> simp [h]

@[simp] theorem State.foldl_mem {α : Type} (g : State → α → State) (h : ∀ t x, (g t x).mem = t.mem) (l : List α) (s : State) :
    (l.foldl g s).mem = s.mem := by
  induction l generalizing s with
  | nil => rfl
  | cons x xs ih => simp [List.foldl, ih, h]

@[simp] theorem State.foldr_mem {α : Type} (g : α → State → State) (h : ∀ x t, (g x t).mem = t.mem) (l : List α) (s : State) :
    (l.foldr g s).mem = s.mem := by
  induction l with
  | nil => rfl
  | cons x xs ih => simp [List.foldr, ih, h]

@[simp] theorem State.ite_mem (c : Prop) [Decidable c] (a b : State) :
    (if c then a else b).mem = if c then a.mem else b.mem := by split <;> rfl

@[simp] theorem State.elim_mem {α : Type} (o : Option α) (a : State) (f : α → State) (h : ∀ x, (f x).mem = a.mem) :
    (o.elim a f).mem = a.mem := by cases o <;> simp [h]

@[simp] theorem State.foldl_cmp {α : Type} (g : State → α → State) (h : ∀ t x, (g t x).cmp = t.cmp) (l : List α) (s : State) :
    (l.foldl g s).cmp = s.cmp := by
  induction l generalizing s with
  | nil => rfl
  | cons x xs ih => simp [List.foldl, ih, h]

@[simp] theorem State.foldr_cmp {α : Type} (g : α → State → State) (h : ∀ x t, (g x t).cmp = t.cmp) (l : List α) (s : State) :
    (l.foldr g s).cmp = s.cmp := by
  induction l with
  | nil => rfl
  | cons x xs ih => simp [List.foldr, ih, h]

@[simp] theorem State.ite_cmp (c : Prop) [Decidable c] (a b : State) :
    (if c then a else b).cmp = if c then a.cmp else b.cmp := by split <;> rfl

@[simp] theorem State.elim_cmp {α : Type} (o : Option α) (a : State) (f : α → State) (h : ∀ x, (f x).cmp = a.cmp) :
    (o.elim a f).cmp = a.cmp := by cases o <;> simp [h]

@[simp] theorem State.foldl_nv {α : Type} (g : State → α → State) (h : ∀ t x, (g t x).nv = t.nv) (l : List α) (s : State) :
    (l.foldl g s).nv = s.nv := by
  induction l generalizing s with
  | nil => rfl
  | cons x xs ih => simp [List.foldl, ih, h]

@[simp] theorem State.foldr_nv {α : Type} (g : α → State → State) (h : ∀ x t, (g x t).nv = t.nv) (l : List α) (s : State) :
    (l.foldr g s).nv = s.nv := by
  induction l with
  | nil => rfl
  | cons x xs ih => simp [List.foldr, ih, h]

@[simp] theorem State.ite_nv (c : Prop) [Decidable c] (a b : State) :
    (if c then a else b).nv = if c then a.nv else b.nv := by split <;> rfl

@[simp] theorem State.elim_nv {α : Type} (o : Option α) (a : State) (f : α → State) (h : ∀ x, (f x).nv = a.nv) :
    (o.elim a f).nv = a.nv := by cases o <;> simp [h]

@[simp] theorem State.foldl_ras {α : Type} (g : State → α → State) (h : ∀ t x, (g t x).ras = t.ras) (l : List α) (s : State) :
    (l.foldl g s).ras = s.ras := by
  induction l generalizing s with
  | nil => rfl
  | cons x xs ih => simp [List.foldl, ih, h]

@[simp] theorem State.foldr_ras {α : Type} (g : α → State → State) (h : ∀ x t, (g x t).ras = t.ras) (l : List α) (s : State) :
    (l.foldr g s).ras = s.ras := by
  induction l with
  | nil => rfl
  | cons x xs ih => simp [List.foldr, ih, h]

@[simp] theorem State.ite_ras (c : Prop) [Decidable c] (a b : State) :
    (if c then a else b).ras = if c then a.ras else b.ras := by split <;> rfl

@[simp] theorem State.elim_ras {α : Type} (o : Option α) (a : State) (f : α → State) (h : ∀ x, (f x).ras = a.ras) :
    (o.elim a f).ras = a.ras := by cases o <;> simp [h]

@[simp] theorem State.foldl_pipe {α : Type} (g : State → α → State) (h : ∀ t x, (g t x).pipe = t.pipe) (l : List α) (s : State) :
    (l.foldl g s).pipe = s.pipe := by
  induction l generalizing s with
  | nil => rfl
  | cons x xs ih => simp [List.foldl, ih, h]

@[simp] theorem State.foldr_pipe {α : Type} (g : α → State → State) (h : ∀ x t, (g x t).pipe = t.pipe) (l : List α) (s : State) :
    (l.foldr g s).pipe = s.pipe := by
  induction l with
  | nil => rfl
  | cons x xs ih => simp [List.foldr, ih, h]

@[simp] theorem State.ite_pipe (c : Prop) [Decidable c] (a b : State) :
    (if c then a else b).pipe = if c then a.pipe else b.pipe := by split <;> rfl

@[simp] theorem State.elim_pipe {α : Type} (o : Option α) (a : State) (f : α → State) (h : ∀ x, (f x).pipe = a.pipe) :
    (o.elim a f).pipe = a.pipe := by cases o <;> simp [h]

@[simp] theorem State.foldl_prk {α : Type} (g : State → α → State) (h : ∀ t x, (g t x).prk = t.prk) (l : List α) (s : State) :
    (l.foldl g s).prk = s.prk := by
  induction l generalizing s with
  | nil => rfl
  | cons x xs ih => simp [List.foldl, ih, h]

@[simp] theorem State.foldr_prk {α : Type} (g : α → State → State) (h : ∀ x t, (g x t).prk = t.prk) (l : List α) (s : State) :
    (l.foldr g s).prk = s.prk := by
  induction l with
  | nil => rfl
  | cons x xs ih => simp [List.foldr, ih, h]

@[simp] theorem State.ite_prk (c : Prop) [Decidable c] (a b : State) :
    (if c then a else b).prk = if c then a.prk else b.prk := by split <;> rfl

@[simp] theorem State.elim_prk {α : Type} (o : Option α) (a : State) (f : α → State) (h : ∀ x, (f x).prk = a.prk) :
    (o.elim a f).prk = a.prk := by cases o <;> simp [h]

@[simp] theorem State.foldl_apq {α : Type} (g : State → α → State) (h : ∀ t x, (g t x).apq = t.apq) (l : List α) (s : State) :
    (l.foldl g s).apq = s.apq := by
  induction l generalizing s with
  | nil => rfl
  | cons x xs ih => simp [List.foldl, ih, h]

@[simp] theorem State.foldr_apq {α : Type} (g : α → State → State) (h : ∀ x t, (g x t).apq = t.apq) (l : List α) (s : State) :
    (l.foldr g s).apq = s.apq := by
  induction l with
  | nil => rfl
  | cons x xs ih => simp [List.foldr, ih, h]

@[simp] theorem State.ite_apq (c : Prop) [Decidable c] (a b : State) :
    (if c then a else b).apq = if c then a.apq else b.apq := by split <;> rfl

@[simp] theorem State.elim_apq {α : Type} (o : Option α) (a : State) (f : α → State) (h : ∀ x, (f x).apq = a.apq) :
    (o.elim a f).apq = a.apq := by cases o <;> simp [h]

@[simp] theorem State.foldl_pnl {α : Type} (g : State → α → State) (h : ∀ t x, (g t x).pnl = t.pnl) (l : List α) (s : State) :
    (l.foldl g s).pnl = s.pnl := by
  induction l generalizing s with
  | nil => rfl
  | cons x xs ih => simp [List.foldl, ih, h]

@[simp] theorem State.foldr_pnl {α : Type} (g : α → State → State) (h : ∀ x t, (g x t).pnl = t.pnl) (l : List α) (s : State) :
    (l.foldr g s).pnl = s.pnl := by
  induction l with
  | nil => rfl
  | cons x xs ih => simp [List.foldr, ih, h]

@[simp] theorem State.ite_pnl (c : Prop) [Decidable c] (a b : State) :
    (if c then a else b).pnl = if c then a.pnl else b.pnl := by split <;> rfl

@[simp] theorem State.elim_pnl {α : Type} (o : Option α) (a : State) (f : α → State) (h : ∀ x, (f x).pnl = a.pnl) :
    (o.elim a f).pnl = a.pnl := by cases o <;> simp [h]

@[simp] theorem State.foldl_bob {α : Type} (g : State → α → State) (h : ∀ t x, (g t x).bob = t.bob) (l : List α) (s : State) :
    (l.foldl g s).bob = s.bob := by
  induction l generalizing s with
  | nil => rfl
  | cons x xs ih => simp [List.foldl, ih, h]

@[simp] theorem State.foldr_bob {α : Type} (g : α → State → State) (h : ∀ x t, (g x t).bob = t.bob) (l : List α) (s : State) :
    (l.foldr g s).bob = s.bob := by
  induction l with
  | nil => rfl
  | cons x xs ih => simp [List.foldr, ih, h]

@[simp] theorem State.ite_bob (c : Prop) [Decidable c] (a b : State) :
    (if c then a else b).bob = if c then a.bob else b.bob := by split <;> rfl

@[simp] theorem State.elim_bob {α : Type} (o : Option α) (a : State) (f : α → State) (h : ∀ x, (f x).bob = a.bob) :
    (o.elim a f).bob = a.bob := by cases o <;> simp [h]

@[simp] theorem State.foldl_sel {α : Type} (g : State → α → State) (h : ∀ t x, (g t x).sel = t.sel) (l : List α) (s : State) :
    (l.foldl g s).sel = s.sel := by
  induction l generalizing s with
  | nil => rfl
  | cons x xs ih => simp [List.foldl, ih, h]

@[simp] theorem State.foldr_sel {α : Type} (g : α → State → State) (h : ∀ x t, (g x t).sel = t.sel) (l : List α) (s : State) :
    (l.foldr g s).sel = s.sel := by
  induction l with
  | nil => rfl
  | cons x xs ih => simp [List.foldr, ih, h]

@[simp] theorem State.ite_sel (c : Prop) [Decidable c] (a b : State) :
    (if c then a else b).sel = if c then a.sel else b.sel := by split <;> rfl

@[simp] theorem State.elim_sel {α : Type} (o : Option α) (a : State) (f : α → State) (h : ∀ x, (f x).sel = a.sel) :
    (o.elim a f).sel = a.sel := by cases o <;> simp [h]

@[simp] theorem State.foldl_hl {α : Type} (g : State → α → State) (h : ∀ t x, (g t x).hl = t.hl) (l : List α) (s : State) :
    (l.foldl g s).hl = s.hl := by
  induction l generalizing s with
  | nil => rfl
  | cons x xs ih => simp [List.foldl, ih, h]

@[simp] theorem State.foldr_hl {α : Type} (g : α → State → State) (h : ∀ x t, (g x t).hl = t.hl) (l : List α) (s : State) :
    (l.foldr g s).hl = s.hl := by
  induction l with
  | nil => rfl
  | cons x xs ih => simp [List.foldr, ih, h]

@[simp] theorem State.ite_hl (c : Prop) [Decidable c] (a b : State) :
    (if c then a else b).hl = if c then a.hl else b.hl := by split <;> rfl

@[simp] theorem State.elim_hl {α : Type} (o : Option α) (a : State) (f : α → State) (h : ∀ x, (f x).hl = a.hl) :
    (o.elim a f).hl = a.hl := by cases o <;> simp [h]

@[simp] theorem State.foldl_sec {α : Type} (g : State → α → State) (h : ∀ t x, (g t x).sec = t.sec) (l : List α) (s : State) :
    (l.foldl g s).sec = s.sec := by
  induction l generalizing s with
  | nil => rfl
  | cons x xs ih => simp [List.foldl, ih, h]

@[simp] theorem State.foldr_sec {α : Type} (g : α → State → State) (h : ∀ x t, (g x t).sec = t.sec) (l : List α) (s : State) :
    (l.foldr g s).sec = s.sec := by
  induction l with
  | nil => rfl
  | cons x xs ih => simp [List.foldr, ih, h]

@[simp] theorem State.ite_sec (c : Prop) [Decidable c] (a b : State) :
    (if c then a else b).sec = if c then a.sec else b.sec := by split <;> rfl

@[simp] theorem State.elim_sec {α : Type} (o : Option α) (a : State) (f : α → State) (h : ∀ x, (f x).sec = a.sec) :
    (o.elim a f).sec = a.sec := by cases o <;> simp [h]

@[simp] theorem State.foldl_tat {α : Type} (g : State → α → State) (h : ∀ t x, (g t x).tat = t.tat) (l : List α) (s : State) :
    (l.foldl g s).tat = s.tat := by
  induction l generalizing s with
  | nil => rfl
  | cons x xs ih => simp [List.foldl, ih, h]

@[simp] theorem State.foldr_tat {α : Type} (g : α → State → State) (h : ∀ x t, (g x t).tat = t.tat) (l : List α) (s : State) :
    (l.foldr g s).tat = s.tat := by
  induction l with
  | nil => rfl
  | cons x xs ih => simp [List.foldr, ih, h]

@[simp] theorem State.ite_tat (c : Prop) [Decidable c] (a b : State) :
    (if c then a else b).tat = if c then a.tat else b.tat := by split <;> rfl

@[simp] theorem State.elim_tat {α : Type} (o : Option α) (a : State) (f : α → State) (h : ∀ x, (f x).tat = a.tat) :
    (o.elim a f).tat = a.tat := by cases o <;> simp [h]

@[simp] theorem State.foldl_free {α : Type} (g : State → α → State) (h : ∀ t x, (g t x).free = t.free) (l : List α) (s : State) :
    (l.foldl g s).free = s.free := by
  induction l generalizing s with
  | nil => rfl
  | cons x xs ih => simp [List.foldl, ih, h]

@[simp] theorem State.foldr_free {α : Type} (g : α → State → State) (h : ∀ x t, (g x t).free = t.free) (l : List α) (s : State) :
    (l.foldr g s).free = s.free := by
  induction l with
  | nil => rfl
  | cons x xs ih => simp [List.foldr, ih, h]

@[simp] theorem State.ite_free (c : Prop) [Decidable c] (a b : State) :
    (if c then a else b).free = if c then a.free else b.free := by split <;> rfl

@[simp] theorem State.elim_free {α : Type} (o : Option α) (a : State) (f : α → State) (h : ∀ x, (f x).free = a.free) :
    (o.elim a f).free = a.free := by cases o <;> simp [h]

@[simp] theorem State.foldl_pending {α : Type} (g : State → α → State) (h : ∀ t x, (g t x).pending = t.pending) (l : List α) (s : State) :
    (l.foldl g s).pending = s.pending := by
  induction l generalizing s with
  | nil => rfl
  | cons x xs ih => simp [List.foldl, ih, h]

@[simp] theorem State.foldr_pending {α : Type} (g : α → State → State) (h : ∀ x t, (g x t).pending = t.pending) (l : List α) (s : State) :
    (l.foldr g s).pending = s.pending := by
  induction l with
  | nil => rfl
  | cons x xs ih => simp [List.foldr, ih, h]

@[simp] theorem State.ite_pending (c : Prop) [Decidable c] (a b : State) :
    (if c then a else b).pending = if c then a.pending else b.pending := by split <;> rfl

@[simp] theorem State.elim_pending {α : Type} (o : Option α) (a : State) (f : α → State) (h : ∀ x, (f x).pending = a.pending) :
    (o.elim a f).pending = a.pending := by cases o <;> simp [h]

@[simp] theorem State.foldl_mem_cells {α : Type} (g : State → α → State) (h : ∀ t x, (g t x).mem.cells = t.mem.cells) (l : List α) (s : State) :
    (l.foldl g s).mem.cells = s.mem.cells := by
  induction l generalizing s with
  | nil => rfl
  | cons x xs ih => simp [List.foldl, ih, h]

@[simp] theorem State.foldr_mem_cells {α : Type} (g : α → State → State) (h : ∀ x t, (g x t).mem.cells = t.mem.cells) (l : List α) (s : State) :
    (l.foldr g s).mem.cells = s.mem.cells := by
  induction l with
  | nil => rfl
  | cons x xs ih => simp [List.foldr, ih, h]

@[simp] theorem State.ite_mem_cells (c : Prop) [Decidable c] (a b : State) :
    (if c then a else b).mem.cells = if c then a.mem.cells else b.mem.cells := by split <;> rfl

@[simp] theorem State.elim_mem_cells {α : Type} (o : Option α) (a : State) (f : α → State) (h : ∀ x, (f x).mem.cells = a.mem.cells) :
    (o.elim a f).mem.cells = a.mem.cells := by cases o <;> simp [h]

@[simp] theorem State.foldl_mem_hoopFill {α : Type} (g : State → α → State) (h : ∀ t x, (g t x).mem.hoopFill = t.mem.hoopFill) (l : List α) (s : State) :
    (l.foldl g s).mem.hoopFill = s.mem.hoopFill := by
  induction l generalizing s with
  | nil => rfl
  | cons x xs ih => simp [List.foldl, ih, h]

@[simp] theorem State.foldr_mem_hoopFill {α : Type} (g : α → State → State) (h : ∀ x t, (g x t).mem.hoopFill = t.mem.hoopFill) (l : List α) (s : State) :
    (l.foldr g s).mem.hoopFill = s.mem.hoopFill := by
  induction l with
  | nil => rfl
  | cons x xs ih => simp [List.foldr, ih, h]

@[simp] theorem State.ite_mem_hoopFill (c : Prop) [Decidable c] (a b : State) :
    (if c then a else b).mem.hoopFill = if c then a.mem.hoopFill else b.mem.hoopFill := by split <;> rfl

@[simp] theorem State.elim_mem_hoopFill {α : Type} (o : Option α) (a : State) (f : α → State) (h : ∀ x, (f x).mem.hoopFill = a.mem.hoopFill) :
    (o.elim a f).mem.hoopFill = a.mem.hoopFill := by cases o <;> simp [h]

@[simp] theorem State.foldl_nv_nor {α : Type} (g : State → α → State) (h : ∀ t x, (g t x).nv.nor = t.nv.nor) (l : List α) (s : State) :
    (l.foldl g s).nv.nor = s.nv.nor := by
  induction l generalizing s with
  | nil => rfl
  | cons x xs ih => simp [List.foldl, ih, h]

@[simp] theorem State.foldr_nv_nor {α : Type} (g : α → State → State) (h : ∀ x t, (g x t).nv.nor = t.nv.nor) (l : List α) (s : State) :
    (l.foldr g s).nv.nor = s.nv.nor := by
  induction l with
  | nil => rfl
  | cons x xs ih => simp [List.foldr, ih, h]

@[simp] theorem State.ite_nv_nor (c : Prop) [Decidable c] (a b : State) :
    (if c then a else b).nv.nor = if c then a.nv.nor else b.nv.nor := by split <;> rfl

@[simp] theorem State.elim_nv_nor {α : Type} (o : Option α) (a : State) (f : α → State) (h : ∀ x, (f x).nv.nor = a.nv.nor) :
    (o.elim a f).nv.nor = a.nv.nor := by cases o <;> simp [h]

@[simp] theorem State.foldl_nv_nand {α : Type} (g : State → α → State) (h : ∀ t x, (g t x).nv.nand = t.nv.nand) (l : List α) (s : State) :
    (l.foldl g s).nv.nand = s.nv.nand := by
  induction l generalizing s with
  | nil => rfl
  | cons x xs ih => simp [List.foldl, ih, h]

@[simp] theorem State.foldr_nv_nand {α : Type} (g : α → State → State) (h : ∀ x t, (g x t).nv.nand = t.nv.nand) (l : List α) (s : State) :
    (l.foldr g s).nv.nand = s.nv.nand := by
  induction l with
  | nil => rfl
  | cons x xs ih => simp [List.foldr, ih, h]

@[simp] theorem State.ite_nv_nand (c : Prop) [Decidable c] (a b : State) :
    (if c then a else b).nv.nand = if c then a.nv.nand else b.nv.nand := by split <;> rfl

@[simp] theorem State.elim_nv_nand {α : Type} (o : Option α) (a : State) (f : α → State) (h : ∀ x, (f x).nv.nand = a.nv.nand) :
    (o.elim a f).nv.nand = a.nv.nand := by cases o <;> simp [h]

@[simp] theorem Mem.ite_cells (c : Prop) [Decidable c] (a b : Mem) :
    (if c then a else b).cells = if c then a.cells else b.cells := by split <;> rfl

@[simp] theorem Mem.ite_hoopFill (c : Prop) [Decidable c] (a b : Mem) :
    (if c then a else b).hoopFill = if c then a.hoopFill else b.hoopFill := by split <;> rfl

@[simp] theorem Nv.ite_nor (c : Prop) [Decidable c] (a b : Nv) :
    (if c then a else b).nor = if c then a.nor else b.nor := by split <;> rfl

@[simp] theorem Nv.ite_nand (c : Prop) [Decidable c] (a b : Nv) :
    (if c then a else b).nand = if c then a.nand else b.nand := by split <;> rfl

@[simp] theorem Mem.setFetch_cells (m : Mem) (i : Side) (c : MemClient) (f : Fetch) : (m.setFetch i c f).cells = m.cells := by cases i <;> rfl

@[simp] theorem Mem.mapFetch_cells (m : Mem) (g : MemClient → Fetch → Fetch) : (m.mapFetch g).cells = m.cells := rfl

@[simp] theorem Mem.setFetch_hoopFill (m : Mem) (i : Side) (c : MemClient) (f : Fetch) : (m.setFetch i c f).hoopFill = m.hoopFill := by cases i <;> rfl

@[simp] theorem Mem.mapFetch_hoopFill (m : Mem) (g : MemClient → Fetch → Fetch) : (m.mapFetch g).hoopFill = m.hoopFill := rfl

end Sys2Proof.Machine
end

