-- ==== Sys2Proof/Laws/FrameCore.lean ====
section
/-! SUPPORT. What each operation leaves unchanged: shared operations, mailboxes, statistics, log, Eyelets, compression, flash and security. Each lemma lists every field of the state that its operation does not touch, and of a touched memory or flash the contents it leaves alone. -/

namespace Sys2Proof.Machine

@[simp] theorem State.ramWrite_frame (s : State) (a : Nat) (bs : List Byte) :
    (s.ramWrite a bs).now = s.now ∧ (s.ramWrite a bs).boot = s.boot ∧ (s.ramWrite a bs).vin = s.vin ∧ (s.ramWrite a bs).win = s.win ∧
    (s.ramWrite a bs).box = s.box ∧ (s.ramWrite a bs).evq = s.evq ∧ (s.ramWrite a bs).log = s.log ∧ (s.ramWrite a bs).stat = s.stat ∧
    (s.ramWrite a bs).eyes = s.eyes ∧ (s.ramWrite a bs).par = s.par ∧ (s.ramWrite a bs).fn = s.fn ∧ (s.ramWrite a bs).tab = s.tab ∧
    (s.ramWrite a bs).pwr = s.pwr ∧ (s.ramWrite a bs).thm = s.thm ∧ (s.ramWrite a bs).cmp = s.cmp ∧ (s.ramWrite a bs).nv = s.nv ∧
    (s.ramWrite a bs).ras = s.ras ∧ (s.ramWrite a bs).pipe = s.pipe ∧ (s.ramWrite a bs).prk = s.prk ∧ (s.ramWrite a bs).apq = s.apq ∧
    (s.ramWrite a bs).pnl = s.pnl ∧ (s.ramWrite a bs).bob = s.bob ∧ (s.ramWrite a bs).sel = s.sel ∧ (s.ramWrite a bs).hl = s.hl ∧
    (s.ramWrite a bs).sec = s.sec ∧ (s.ramWrite a bs).tat = s.tat ∧ (s.ramWrite a bs).free = s.free ∧ (s.ramWrite a bs).pending = s.pending ∧
    (s.ramWrite a bs).mem.hoopFill = s.mem.hoopFill := by
  unfold State.ramWrite
  simp

@[simp] theorem State.norProgram_frame (s : State) (a : Nat) (bs : List Byte) :
    (s.norProgram a bs).now = s.now ∧ (s.norProgram a bs).boot = s.boot ∧ (s.norProgram a bs).vin = s.vin ∧ (s.norProgram a bs).win = s.win ∧
    (s.norProgram a bs).box = s.box ∧ (s.norProgram a bs).evq = s.evq ∧ (s.norProgram a bs).log = s.log ∧ (s.norProgram a bs).stat = s.stat ∧
    (s.norProgram a bs).eyes = s.eyes ∧ (s.norProgram a bs).par = s.par ∧ (s.norProgram a bs).fn = s.fn ∧ (s.norProgram a bs).tab = s.tab ∧
    (s.norProgram a bs).pwr = s.pwr ∧ (s.norProgram a bs).thm = s.thm ∧ (s.norProgram a bs).mem = s.mem ∧ (s.norProgram a bs).cmp = s.cmp ∧
    (s.norProgram a bs).ras = s.ras ∧ (s.norProgram a bs).pipe = s.pipe ∧ (s.norProgram a bs).prk = s.prk ∧ (s.norProgram a bs).apq = s.apq ∧
    (s.norProgram a bs).pnl = s.pnl ∧ (s.norProgram a bs).bob = s.bob ∧ (s.norProgram a bs).sel = s.sel ∧ (s.norProgram a bs).hl = s.hl ∧
    (s.norProgram a bs).sec = s.sec ∧ (s.norProgram a bs).tat = s.tat ∧ (s.norProgram a bs).free = s.free ∧ (s.norProgram a bs).pending = s.pending ∧
    (s.norProgram a bs).nv.nand = s.nv.nand := by
  induction bs generalizing s a with
  | nil => simp [State.norProgram]
  | cons v vs ih => unfold State.norProgram; simp [ih]

@[simp] theorem State.norErase_frame (s : State) (a n : Nat) :
    (s.norErase a n).now = s.now ∧ (s.norErase a n).boot = s.boot ∧ (s.norErase a n).vin = s.vin ∧ (s.norErase a n).win = s.win ∧
    (s.norErase a n).box = s.box ∧ (s.norErase a n).evq = s.evq ∧ (s.norErase a n).log = s.log ∧ (s.norErase a n).stat = s.stat ∧
    (s.norErase a n).eyes = s.eyes ∧ (s.norErase a n).par = s.par ∧ (s.norErase a n).fn = s.fn ∧ (s.norErase a n).tab = s.tab ∧
    (s.norErase a n).pwr = s.pwr ∧ (s.norErase a n).thm = s.thm ∧ (s.norErase a n).mem = s.mem ∧ (s.norErase a n).cmp = s.cmp ∧
    (s.norErase a n).ras = s.ras ∧ (s.norErase a n).pipe = s.pipe ∧ (s.norErase a n).prk = s.prk ∧ (s.norErase a n).apq = s.apq ∧
    (s.norErase a n).pnl = s.pnl ∧ (s.norErase a n).bob = s.bob ∧ (s.norErase a n).sel = s.sel ∧ (s.norErase a n).hl = s.hl ∧ (s.norErase a n).sec = s.sec ∧
    (s.norErase a n).tat = s.tat ∧ (s.norErase a n).free = s.free ∧ (s.norErase a n).pending = s.pending ∧ (s.norErase a n).nv.nand = s.nv.nand := by
  unfold State.norErase
  simp

@[simp] theorem State.nandWrite_frame (s : State) (a : Nat) (bs : List Byte) :
    (s.nandWrite a bs).now = s.now ∧ (s.nandWrite a bs).boot = s.boot ∧ (s.nandWrite a bs).vin = s.vin ∧ (s.nandWrite a bs).win = s.win ∧
    (s.nandWrite a bs).box = s.box ∧ (s.nandWrite a bs).evq = s.evq ∧ (s.nandWrite a bs).log = s.log ∧ (s.nandWrite a bs).stat = s.stat ∧
    (s.nandWrite a bs).eyes = s.eyes ∧ (s.nandWrite a bs).par = s.par ∧ (s.nandWrite a bs).fn = s.fn ∧ (s.nandWrite a bs).tab = s.tab ∧
    (s.nandWrite a bs).pwr = s.pwr ∧ (s.nandWrite a bs).thm = s.thm ∧ (s.nandWrite a bs).mem = s.mem ∧ (s.nandWrite a bs).cmp = s.cmp ∧
    (s.nandWrite a bs).ras = s.ras ∧ (s.nandWrite a bs).pipe = s.pipe ∧ (s.nandWrite a bs).prk = s.prk ∧ (s.nandWrite a bs).apq = s.apq ∧
    (s.nandWrite a bs).pnl = s.pnl ∧ (s.nandWrite a bs).bob = s.bob ∧ (s.nandWrite a bs).sel = s.sel ∧ (s.nandWrite a bs).hl = s.hl ∧
    (s.nandWrite a bs).sec = s.sec ∧ (s.nandWrite a bs).tat = s.tat ∧ (s.nandWrite a bs).free = s.free ∧ (s.nandWrite a bs).pending = s.pending ∧
    (s.nandWrite a bs).nv.nor = s.nv.nor := by
  unfold State.nandWrite
  simp

@[simp] theorem State.nandErase_frame (s : State) (a n : Nat) :
    (s.nandErase a n).now = s.now ∧ (s.nandErase a n).boot = s.boot ∧ (s.nandErase a n).vin = s.vin ∧ (s.nandErase a n).win = s.win ∧
    (s.nandErase a n).box = s.box ∧ (s.nandErase a n).evq = s.evq ∧ (s.nandErase a n).log = s.log ∧ (s.nandErase a n).stat = s.stat ∧
    (s.nandErase a n).eyes = s.eyes ∧ (s.nandErase a n).par = s.par ∧ (s.nandErase a n).fn = s.fn ∧ (s.nandErase a n).tab = s.tab ∧
    (s.nandErase a n).pwr = s.pwr ∧ (s.nandErase a n).thm = s.thm ∧ (s.nandErase a n).mem = s.mem ∧ (s.nandErase a n).cmp = s.cmp ∧
    (s.nandErase a n).ras = s.ras ∧ (s.nandErase a n).pipe = s.pipe ∧ (s.nandErase a n).prk = s.prk ∧ (s.nandErase a n).apq = s.apq ∧
    (s.nandErase a n).pnl = s.pnl ∧ (s.nandErase a n).bob = s.bob ∧ (s.nandErase a n).sel = s.sel ∧ (s.nandErase a n).hl = s.hl ∧
    (s.nandErase a n).sec = s.sec ∧ (s.nandErase a n).tat = s.tat ∧ (s.nandErase a n).free = s.free ∧ (s.nandErase a n).pending = s.pending ∧
    (s.nandErase a n).nv.nor = s.nv.nor := by
  unfold State.nandErase
  simp

@[simp] theorem State.onDom_frame (s : State) (d : Fin 19) (f : Domain → Domain) :
    (s.onDom d f).now = s.now ∧ (s.onDom d f).boot = s.boot ∧ (s.onDom d f).vin = s.vin ∧ (s.onDom d f).win = s.win ∧ (s.onDom d f).box = s.box ∧
    (s.onDom d f).evq = s.evq ∧ (s.onDom d f).log = s.log ∧ (s.onDom d f).stat = s.stat ∧ (s.onDom d f).eyes = s.eyes ∧ (s.onDom d f).par = s.par ∧
    (s.onDom d f).fn = s.fn ∧ (s.onDom d f).tab = s.tab ∧ (s.onDom d f).thm = s.thm ∧ (s.onDom d f).mem = s.mem ∧ (s.onDom d f).cmp = s.cmp ∧
    (s.onDom d f).nv = s.nv ∧ (s.onDom d f).ras = s.ras ∧ (s.onDom d f).pipe = s.pipe ∧ (s.onDom d f).prk = s.prk ∧ (s.onDom d f).apq = s.apq ∧
    (s.onDom d f).pnl = s.pnl ∧ (s.onDom d f).bob = s.bob ∧ (s.onDom d f).sel = s.sel ∧ (s.onDom d f).hl = s.hl ∧ (s.onDom d f).sec = s.sec ∧
    (s.onDom d f).tat = s.tat ∧ (s.onDom d f).free = s.free ∧ (s.onDom d f).pending = s.pending := by
  unfold State.onDom
  simp

@[simp] theorem State.takeFree_frame (s : State) :
    s.takeFree.2.now = s.now ∧ s.takeFree.2.boot = s.boot ∧ s.takeFree.2.vin = s.vin ∧ s.takeFree.2.win = s.win ∧ s.takeFree.2.box = s.box ∧
    s.takeFree.2.evq = s.evq ∧ s.takeFree.2.log = s.log ∧ s.takeFree.2.stat = s.stat ∧ s.takeFree.2.eyes = s.eyes ∧ s.takeFree.2.par = s.par ∧
    s.takeFree.2.fn = s.fn ∧ s.takeFree.2.tab = s.tab ∧ s.takeFree.2.pwr = s.pwr ∧ s.takeFree.2.thm = s.thm ∧ s.takeFree.2.mem = s.mem ∧
    s.takeFree.2.cmp = s.cmp ∧ s.takeFree.2.nv = s.nv ∧ s.takeFree.2.ras = s.ras ∧ s.takeFree.2.pipe = s.pipe ∧ s.takeFree.2.prk = s.prk ∧
    s.takeFree.2.apq = s.apq ∧ s.takeFree.2.pnl = s.pnl ∧ s.takeFree.2.bob = s.bob ∧ s.takeFree.2.sel = s.sel ∧ s.takeFree.2.hl = s.hl ∧
    s.takeFree.2.sec = s.sec ∧ s.takeFree.2.tat = s.tat ∧ s.takeFree.2.pending = s.pending := by
  unfold State.takeFree
  simp

@[simp] theorem State.setParam_frame (s : State) (id v : Nat) :
    (s.setParam id v).now = s.now ∧ (s.setParam id v).boot = s.boot ∧ (s.setParam id v).vin = s.vin ∧ (s.setParam id v).win = s.win ∧
    (s.setParam id v).box = s.box ∧ (s.setParam id v).evq = s.evq ∧ (s.setParam id v).log = s.log ∧ (s.setParam id v).stat = s.stat ∧
    (s.setParam id v).eyes = s.eyes ∧ (s.setParam id v).fn = s.fn ∧ (s.setParam id v).tab = s.tab ∧ (s.setParam id v).pwr = s.pwr ∧
    (s.setParam id v).thm = s.thm ∧ (s.setParam id v).mem = s.mem ∧ (s.setParam id v).cmp = s.cmp ∧ (s.setParam id v).nv = s.nv ∧
    (s.setParam id v).ras = s.ras ∧ (s.setParam id v).pipe = s.pipe ∧ (s.setParam id v).prk = s.prk ∧ (s.setParam id v).apq = s.apq ∧
    (s.setParam id v).pnl = s.pnl ∧ (s.setParam id v).bob = s.bob ∧ (s.setParam id v).sel = s.sel ∧ (s.setParam id v).hl = s.hl ∧
    (s.setParam id v).sec = s.sec ∧ (s.setParam id v).tat = s.tat ∧ (s.setParam id v).free = s.free ∧ (s.setParam id v).pending = s.pending := by
  unfold State.setParam
  simp

@[simp] theorem State.setParams_frame (s : State) (vs : List (Nat × Word)) :
    (s.setParams vs).now = s.now ∧ (s.setParams vs).boot = s.boot ∧ (s.setParams vs).vin = s.vin ∧ (s.setParams vs).win = s.win ∧
    (s.setParams vs).box = s.box ∧ (s.setParams vs).evq = s.evq ∧ (s.setParams vs).log = s.log ∧ (s.setParams vs).stat = s.stat ∧
    (s.setParams vs).eyes = s.eyes ∧ (s.setParams vs).fn = s.fn ∧ (s.setParams vs).tab = s.tab ∧ (s.setParams vs).pwr = s.pwr ∧
    (s.setParams vs).thm = s.thm ∧ (s.setParams vs).mem = s.mem ∧ (s.setParams vs).cmp = s.cmp ∧ (s.setParams vs).nv = s.nv ∧ (s.setParams vs).ras = s.ras ∧
    (s.setParams vs).pipe = s.pipe ∧ (s.setParams vs).prk = s.prk ∧ (s.setParams vs).apq = s.apq ∧ (s.setParams vs).pnl = s.pnl ∧
    (s.setParams vs).bob = s.bob ∧ (s.setParams vs).sel = s.sel ∧ (s.setParams vs).hl = s.hl ∧ (s.setParams vs).sec = s.sec ∧ (s.setParams vs).tat = s.tat ∧
    (s.setParams vs).free = s.free ∧ (s.setParams vs).pending = s.pending := by
  unfold State.setParams
  simp

@[simp] theorem State.ladderChange_frame (s : State) :
    s.ladderChange.now = s.now ∧ s.ladderChange.boot = s.boot ∧ s.ladderChange.vin = s.vin ∧ s.ladderChange.win = s.win ∧ s.ladderChange.box = s.box ∧
    s.ladderChange.evq = s.evq ∧ s.ladderChange.log = s.log ∧ s.ladderChange.stat = s.stat ∧ s.ladderChange.eyes = s.eyes ∧ s.ladderChange.par = s.par ∧
    s.ladderChange.fn = s.fn ∧ s.ladderChange.tab = s.tab ∧ s.ladderChange.pwr = s.pwr ∧ s.ladderChange.thm = s.thm ∧ s.ladderChange.mem = s.mem ∧
    s.ladderChange.cmp = s.cmp ∧ s.ladderChange.nv = s.nv ∧ s.ladderChange.pipe = s.pipe ∧ s.ladderChange.prk = s.prk ∧ s.ladderChange.apq = s.apq ∧
    s.ladderChange.pnl = s.pnl ∧ s.ladderChange.bob = s.bob ∧ s.ladderChange.sel = s.sel ∧ s.ladderChange.hl = s.hl ∧ s.ladderChange.sec = s.sec ∧
    s.ladderChange.tat = s.tat ∧ s.ladderChange.free = s.free ∧ s.ladderChange.pending = s.pending := by
  unfold State.ladderChange
  simp

@[simp] theorem State.memAsk_frame (s : State) (low write : Bool) (n : Nat) :
    (s.memAsk low write n).now = s.now ∧ (s.memAsk low write n).boot = s.boot ∧ (s.memAsk low write n).vin = s.vin ∧ (s.memAsk low write n).win = s.win ∧
    (s.memAsk low write n).box = s.box ∧ (s.memAsk low write n).evq = s.evq ∧ (s.memAsk low write n).log = s.log ∧ (s.memAsk low write n).stat = s.stat ∧
    (s.memAsk low write n).eyes = s.eyes ∧ (s.memAsk low write n).par = s.par ∧ (s.memAsk low write n).fn = s.fn ∧ (s.memAsk low write n).tab = s.tab ∧
    (s.memAsk low write n).pwr = s.pwr ∧ (s.memAsk low write n).thm = s.thm ∧ (s.memAsk low write n).cmp = s.cmp ∧ (s.memAsk low write n).nv = s.nv ∧
    (s.memAsk low write n).ras = s.ras ∧ (s.memAsk low write n).pipe = s.pipe ∧ (s.memAsk low write n).prk = s.prk ∧ (s.memAsk low write n).apq = s.apq ∧
    (s.memAsk low write n).pnl = s.pnl ∧ (s.memAsk low write n).bob = s.bob ∧ (s.memAsk low write n).sel = s.sel ∧ (s.memAsk low write n).hl = s.hl ∧
    (s.memAsk low write n).sec = s.sec ∧ (s.memAsk low write n).tat = s.tat ∧ (s.memAsk low write n).free = s.free ∧
    (s.memAsk low write n).pending = s.pending ∧ (s.memAsk low write n).mem.cells = s.mem.cells ∧ (s.memAsk low write n).mem.hoopFill = s.mem.hoopFill := by
  unfold State.memAsk
  simp

@[simp] theorem State.poolWrite_frame (s : State) (low : Bool) (a : Nat) (bs : List Byte) :
    (s.poolWrite low a bs).now = s.now ∧ (s.poolWrite low a bs).boot = s.boot ∧ (s.poolWrite low a bs).vin = s.vin ∧ (s.poolWrite low a bs).win = s.win ∧
    (s.poolWrite low a bs).box = s.box ∧ (s.poolWrite low a bs).evq = s.evq ∧ (s.poolWrite low a bs).log = s.log ∧ (s.poolWrite low a bs).stat = s.stat ∧
    (s.poolWrite low a bs).eyes = s.eyes ∧ (s.poolWrite low a bs).par = s.par ∧ (s.poolWrite low a bs).fn = s.fn ∧ (s.poolWrite low a bs).tab = s.tab ∧
    (s.poolWrite low a bs).pwr = s.pwr ∧ (s.poolWrite low a bs).thm = s.thm ∧ (s.poolWrite low a bs).cmp = s.cmp ∧ (s.poolWrite low a bs).nv = s.nv ∧
    (s.poolWrite low a bs).pipe = s.pipe ∧ (s.poolWrite low a bs).prk = s.prk ∧ (s.poolWrite low a bs).pnl = s.pnl ∧ (s.poolWrite low a bs).bob = s.bob ∧
    (s.poolWrite low a bs).sel = s.sel ∧ (s.poolWrite low a bs).hl = s.hl ∧ (s.poolWrite low a bs).sec = s.sec ∧ (s.poolWrite low a bs).tat = s.tat ∧
    (s.poolWrite low a bs).free = s.free ∧ (s.poolWrite low a bs).pending = s.pending ∧ (s.poolWrite low a bs).mem.hoopFill = s.mem.hoopFill := by
  unfold State.poolWrite
  simp

@[simp] theorem State.count_frame (s : State) (i n : Nat) :
    (s.count i n).now = s.now ∧ (s.count i n).boot = s.boot ∧ (s.count i n).vin = s.vin ∧ (s.count i n).win = s.win ∧ (s.count i n).box = s.box ∧
    (s.count i n).evq = s.evq ∧ (s.count i n).log = s.log ∧ (s.count i n).eyes = s.eyes ∧ (s.count i n).par = s.par ∧ (s.count i n).fn = s.fn ∧
    (s.count i n).tab = s.tab ∧ (s.count i n).pwr = s.pwr ∧ (s.count i n).thm = s.thm ∧ (s.count i n).mem = s.mem ∧ (s.count i n).cmp = s.cmp ∧
    (s.count i n).nv = s.nv ∧ (s.count i n).ras = s.ras ∧ (s.count i n).pipe = s.pipe ∧ (s.count i n).prk = s.prk ∧ (s.count i n).apq = s.apq ∧
    (s.count i n).pnl = s.pnl ∧ (s.count i n).bob = s.bob ∧ (s.count i n).sel = s.sel ∧ (s.count i n).hl = s.hl ∧ (s.count i n).sec = s.sec ∧
    (s.count i n).tat = s.tat ∧ (s.count i n).free = s.free ∧ (s.count i n).pending = s.pending := by
  unfold State.count
  simp

@[simp] theorem State.irq_frame (s : State) (b : Nat) :
    (s.irq b).now = s.now ∧ (s.irq b).boot = s.boot ∧ (s.irq b).vin = s.vin ∧ (s.irq b).box = s.box ∧ (s.irq b).evq = s.evq ∧ (s.irq b).log = s.log ∧
    (s.irq b).stat = s.stat ∧ (s.irq b).eyes = s.eyes ∧ (s.irq b).par = s.par ∧ (s.irq b).fn = s.fn ∧ (s.irq b).tab = s.tab ∧ (s.irq b).pwr = s.pwr ∧
    (s.irq b).thm = s.thm ∧ (s.irq b).mem = s.mem ∧ (s.irq b).cmp = s.cmp ∧ (s.irq b).nv = s.nv ∧ (s.irq b).ras = s.ras ∧ (s.irq b).pipe = s.pipe ∧
    (s.irq b).prk = s.prk ∧ (s.irq b).apq = s.apq ∧ (s.irq b).pnl = s.pnl ∧ (s.irq b).bob = s.bob ∧ (s.irq b).sel = s.sel ∧ (s.irq b).hl = s.hl ∧
    (s.irq b).sec = s.sec ∧ (s.irq b).tat = s.tat ∧ (s.irq b).free = s.free ∧ (s.irq b).pending = s.pending := by
  unfold State.irq
  simp

@[simp] theorem State.addLog_frame (s : State) (e : LogEntry) :
    (s.addLog e).now = s.now ∧ (s.addLog e).boot = s.boot ∧ (s.addLog e).vin = s.vin ∧ (s.addLog e).win = s.win ∧ (s.addLog e).box = s.box ∧
    (s.addLog e).evq = s.evq ∧ (s.addLog e).eyes = s.eyes ∧ (s.addLog e).par = s.par ∧ (s.addLog e).fn = s.fn ∧ (s.addLog e).tab = s.tab ∧
    (s.addLog e).pwr = s.pwr ∧ (s.addLog e).thm = s.thm ∧ (s.addLog e).mem = s.mem ∧ (s.addLog e).cmp = s.cmp ∧ (s.addLog e).nv = s.nv ∧
    (s.addLog e).ras = s.ras ∧ (s.addLog e).pipe = s.pipe ∧ (s.addLog e).prk = s.prk ∧ (s.addLog e).apq = s.apq ∧ (s.addLog e).pnl = s.pnl ∧
    (s.addLog e).bob = s.bob ∧ (s.addLog e).sel = s.sel ∧ (s.addLog e).hl = s.hl ∧ (s.addLog e).sec = s.sec ∧ (s.addLog e).tat = s.tat ∧
    (s.addLog e).free = s.free ∧ (s.addLog e).pending = s.pending := by
  unfold State.addLog
  simp

@[simp] theorem State.logOnly_frame (s : State) (code : Nat) (sev : Severity) (source data : Nat) :
    (s.logOnly code sev source data).now = s.now ∧ (s.logOnly code sev source data).boot = s.boot ∧ (s.logOnly code sev source data).vin = s.vin ∧
    (s.logOnly code sev source data).win = s.win ∧ (s.logOnly code sev source data).box = s.box ∧ (s.logOnly code sev source data).evq = s.evq ∧
    (s.logOnly code sev source data).eyes = s.eyes ∧ (s.logOnly code sev source data).par = s.par ∧ (s.logOnly code sev source data).fn = s.fn ∧
    (s.logOnly code sev source data).tab = s.tab ∧ (s.logOnly code sev source data).pwr = s.pwr ∧ (s.logOnly code sev source data).thm = s.thm ∧
    (s.logOnly code sev source data).mem = s.mem ∧ (s.logOnly code sev source data).cmp = s.cmp ∧ (s.logOnly code sev source data).nv = s.nv ∧
    (s.logOnly code sev source data).ras = s.ras ∧ (s.logOnly code sev source data).pipe = s.pipe ∧ (s.logOnly code sev source data).prk = s.prk ∧
    (s.logOnly code sev source data).apq = s.apq ∧ (s.logOnly code sev source data).pnl = s.pnl ∧ (s.logOnly code sev source data).bob = s.bob ∧
    (s.logOnly code sev source data).sel = s.sel ∧ (s.logOnly code sev source data).hl = s.hl ∧ (s.logOnly code sev source data).sec = s.sec ∧
    (s.logOnly code sev source data).tat = s.tat ∧ (s.logOnly code sev source data).free = s.free ∧ (s.logOnly code sev source data).pending = s.pending := by
  unfold State.logOnly
  simp

@[simp] theorem State.queueEvent_frame (s : State) (e : LogEntry) :
    (s.queueEvent e).now = s.now ∧ (s.queueEvent e).boot = s.boot ∧ (s.queueEvent e).vin = s.vin ∧ (s.queueEvent e).box = s.box ∧
    (s.queueEvent e).log = s.log ∧ (s.queueEvent e).eyes = s.eyes ∧ (s.queueEvent e).par = s.par ∧ (s.queueEvent e).fn = s.fn ∧
    (s.queueEvent e).tab = s.tab ∧ (s.queueEvent e).pwr = s.pwr ∧ (s.queueEvent e).thm = s.thm ∧ (s.queueEvent e).mem = s.mem ∧
    (s.queueEvent e).cmp = s.cmp ∧ (s.queueEvent e).nv = s.nv ∧ (s.queueEvent e).ras = s.ras ∧ (s.queueEvent e).pipe = s.pipe ∧
    (s.queueEvent e).prk = s.prk ∧ (s.queueEvent e).apq = s.apq ∧ (s.queueEvent e).pnl = s.pnl ∧ (s.queueEvent e).bob = s.bob ∧
    (s.queueEvent e).sel = s.sel ∧ (s.queueEvent e).hl = s.hl ∧ (s.queueEvent e).sec = s.sec ∧ (s.queueEvent e).tat = s.tat ∧
    (s.queueEvent e).free = s.free ∧ (s.queueEvent e).pending = s.pending := by
  unfold State.queueEvent
  simp

@[simp] theorem State.event_frame (s : State) (code : Nat) (sev : Severity) (logged : Bool) (source data : Nat) :
    (s.event code sev logged source data).now = s.now ∧ (s.event code sev logged source data).boot = s.boot ∧
    (s.event code sev logged source data).vin = s.vin ∧ (s.event code sev logged source data).box = s.box ∧
    (s.event code sev logged source data).eyes = s.eyes ∧ (s.event code sev logged source data).par = s.par ∧
    (s.event code sev logged source data).fn = s.fn ∧ (s.event code sev logged source data).tab = s.tab ∧ (s.event code sev logged source data).pwr = s.pwr ∧
    (s.event code sev logged source data).thm = s.thm ∧ (s.event code sev logged source data).mem = s.mem ∧
    (s.event code sev logged source data).cmp = s.cmp ∧ (s.event code sev logged source data).nv = s.nv ∧ (s.event code sev logged source data).ras = s.ras ∧
    (s.event code sev logged source data).pipe = s.pipe ∧ (s.event code sev logged source data).prk = s.prk ∧
    (s.event code sev logged source data).apq = s.apq ∧ (s.event code sev logged source data).pnl = s.pnl ∧
    (s.event code sev logged source data).bob = s.bob ∧ (s.event code sev logged source data).sel = s.sel ∧ (s.event code sev logged source data).hl = s.hl ∧
    (s.event code sev logged source data).sec = s.sec ∧ (s.event code sev logged source data).tat = s.tat ∧
    (s.event code sev logged source data).free = s.free ∧ (s.event code sev logged source data).pending = s.pending := by
  unfold State.event
  simp

@[simp] theorem State.setStage_frame (s : State) (g : Stage) :
    (s.setStage g).now = s.now ∧ (s.setStage g).vin = s.vin ∧ (s.setStage g).box = s.box ∧ (s.setStage g).evq = s.evq ∧ (s.setStage g).log = s.log ∧
    (s.setStage g).stat = s.stat ∧ (s.setStage g).eyes = s.eyes ∧ (s.setStage g).par = s.par ∧ (s.setStage g).fn = s.fn ∧ (s.setStage g).tab = s.tab ∧
    (s.setStage g).pwr = s.pwr ∧ (s.setStage g).thm = s.thm ∧ (s.setStage g).mem = s.mem ∧ (s.setStage g).cmp = s.cmp ∧ (s.setStage g).nv = s.nv ∧
    (s.setStage g).ras = s.ras ∧ (s.setStage g).pipe = s.pipe ∧ (s.setStage g).prk = s.prk ∧ (s.setStage g).apq = s.apq ∧ (s.setStage g).pnl = s.pnl ∧
    (s.setStage g).bob = s.bob ∧ (s.setStage g).sel = s.sel ∧ (s.setStage g).hl = s.hl ∧ (s.setStage g).sec = s.sec ∧ (s.setStage g).tat = s.tat ∧
    (s.setStage g).free = s.free ∧ (s.setStage g).pending = s.pending := by
  unfold State.setStage
  simp

@[simp] theorem State.faultBit_frame (s : State) (b : Nat) :
    (s.faultBit b).now = s.now ∧ (s.faultBit b).vin = s.vin ∧ (s.faultBit b).box = s.box ∧ (s.faultBit b).evq = s.evq ∧ (s.faultBit b).log = s.log ∧
    (s.faultBit b).stat = s.stat ∧ (s.faultBit b).eyes = s.eyes ∧ (s.faultBit b).par = s.par ∧ (s.faultBit b).fn = s.fn ∧ (s.faultBit b).tab = s.tab ∧
    (s.faultBit b).pwr = s.pwr ∧ (s.faultBit b).thm = s.thm ∧ (s.faultBit b).mem = s.mem ∧ (s.faultBit b).cmp = s.cmp ∧ (s.faultBit b).nv = s.nv ∧
    (s.faultBit b).ras = s.ras ∧ (s.faultBit b).pipe = s.pipe ∧ (s.faultBit b).prk = s.prk ∧ (s.faultBit b).apq = s.apq ∧ (s.faultBit b).pnl = s.pnl ∧
    (s.faultBit b).bob = s.bob ∧ (s.faultBit b).sel = s.sel ∧ (s.faultBit b).hl = s.hl ∧ (s.faultBit b).sec = s.sec ∧ (s.faultBit b).tat = s.tat ∧
    (s.faultBit b).free = s.free ∧ (s.faultBit b).pending = s.pending := by
  unfold State.faultBit
  simp

@[simp] theorem State.faultClear_frame (s : State) (b : Nat) :
    (s.faultClear b).now = s.now ∧ (s.faultClear b).vin = s.vin ∧ (s.faultClear b).win = s.win ∧ (s.faultClear b).box = s.box ∧
    (s.faultClear b).evq = s.evq ∧ (s.faultClear b).log = s.log ∧ (s.faultClear b).stat = s.stat ∧ (s.faultClear b).eyes = s.eyes ∧
    (s.faultClear b).par = s.par ∧ (s.faultClear b).fn = s.fn ∧ (s.faultClear b).tab = s.tab ∧ (s.faultClear b).pwr = s.pwr ∧ (s.faultClear b).thm = s.thm ∧
    (s.faultClear b).mem = s.mem ∧ (s.faultClear b).cmp = s.cmp ∧ (s.faultClear b).nv = s.nv ∧ (s.faultClear b).ras = s.ras ∧
    (s.faultClear b).pipe = s.pipe ∧ (s.faultClear b).prk = s.prk ∧ (s.faultClear b).apq = s.apq ∧ (s.faultClear b).pnl = s.pnl ∧
    (s.faultClear b).bob = s.bob ∧ (s.faultClear b).sel = s.sel ∧ (s.faultClear b).hl = s.hl ∧ (s.faultClear b).sec = s.sec ∧ (s.faultClear b).tat = s.tat ∧
    (s.faultClear b).free = s.free ∧ (s.faultClear b).pending = s.pending := by
  unfold State.faultClear
  simp

@[simp] theorem State.portError_frame (s : State) (field : Nat) :
    (s.portError field).now = s.now ∧ (s.portError field).boot = s.boot ∧ (s.portError field).vin = s.vin ∧ (s.portError field).box = s.box ∧
    (s.portError field).evq = s.evq ∧ (s.portError field).log = s.log ∧ (s.portError field).stat = s.stat ∧ (s.portError field).eyes = s.eyes ∧
    (s.portError field).par = s.par ∧ (s.portError field).fn = s.fn ∧ (s.portError field).tab = s.tab ∧ (s.portError field).pwr = s.pwr ∧
    (s.portError field).thm = s.thm ∧ (s.portError field).mem = s.mem ∧ (s.portError field).cmp = s.cmp ∧ (s.portError field).nv = s.nv ∧
    (s.portError field).ras = s.ras ∧ (s.portError field).pipe = s.pipe ∧ (s.portError field).prk = s.prk ∧ (s.portError field).apq = s.apq ∧
    (s.portError field).pnl = s.pnl ∧ (s.portError field).bob = s.bob ∧ (s.portError field).sel = s.sel ∧ (s.portError field).hl = s.hl ∧
    (s.portError field).sec = s.sec ∧ (s.portError field).tat = s.tat ∧ (s.portError field).free = s.free ∧ (s.portError field).pending = s.pending := by
  unfold State.portError
  simp

@[simp] theorem State.countDomain_frame (s : State) (d : DomState) (i n : Nat) :
    (s.countDomain d i n).now = s.now ∧ (s.countDomain d i n).boot = s.boot ∧ (s.countDomain d i n).vin = s.vin ∧ (s.countDomain d i n).win = s.win ∧
    (s.countDomain d i n).box = s.box ∧ (s.countDomain d i n).evq = s.evq ∧ (s.countDomain d i n).log = s.log ∧ (s.countDomain d i n).eyes = s.eyes ∧
    (s.countDomain d i n).par = s.par ∧ (s.countDomain d i n).fn = s.fn ∧ (s.countDomain d i n).tab = s.tab ∧ (s.countDomain d i n).pwr = s.pwr ∧
    (s.countDomain d i n).thm = s.thm ∧ (s.countDomain d i n).mem = s.mem ∧ (s.countDomain d i n).cmp = s.cmp ∧ (s.countDomain d i n).nv = s.nv ∧
    (s.countDomain d i n).ras = s.ras ∧ (s.countDomain d i n).pipe = s.pipe ∧ (s.countDomain d i n).prk = s.prk ∧ (s.countDomain d i n).apq = s.apq ∧
    (s.countDomain d i n).pnl = s.pnl ∧ (s.countDomain d i n).bob = s.bob ∧ (s.countDomain d i n).sel = s.sel ∧ (s.countDomain d i n).hl = s.hl ∧
    (s.countDomain d i n).sec = s.sec ∧ (s.countDomain d i n).tat = s.tat ∧ (s.countDomain d i n).free = s.free ∧ (s.countDomain d i n).pending = s.pending := by
  unfold State.countDomain
  repeat' split
  all_goals simp

@[simp] theorem State.passTicks_frame (s : State) (n : Nat) :
    (s.passTicks n).now = s.now ∧ (s.passTicks n).boot = s.boot ∧ (s.passTicks n).vin = s.vin ∧ (s.passTicks n).win = s.win ∧ (s.passTicks n).box = s.box ∧
    (s.passTicks n).evq = s.evq ∧ (s.passTicks n).log = s.log ∧ (s.passTicks n).eyes = s.eyes ∧ (s.passTicks n).par = s.par ∧ (s.passTicks n).fn = s.fn ∧
    (s.passTicks n).tab = s.tab ∧ (s.passTicks n).thm = s.thm ∧ (s.passTicks n).mem = s.mem ∧ (s.passTicks n).cmp = s.cmp ∧ (s.passTicks n).ras = s.ras ∧
    (s.passTicks n).pipe = s.pipe ∧ (s.passTicks n).prk = s.prk ∧ (s.passTicks n).apq = s.apq ∧ (s.passTicks n).pnl = s.pnl ∧ (s.passTicks n).bob = s.bob ∧
    (s.passTicks n).sel = s.sel ∧ (s.passTicks n).hl = s.hl ∧ (s.passTicks n).sec = s.sec ∧ (s.passTicks n).tat = s.tat ∧ (s.passTicks n).free = s.free ∧
    (s.passTicks n).pending = s.pending ∧ (s.passTicks n).nv.nor = s.nv.nor ∧ (s.passTicks n).nv.nand = s.nv.nand := by
  unfold State.passTicks
  repeat' split
  all_goals simp

@[simp] theorem State.elapse_frame (s : State) (t : Nat) :
    (s.elapse t).boot = s.boot ∧ (s.elapse t).vin = s.vin ∧ (s.elapse t).win = s.win ∧ (s.elapse t).box = s.box ∧ (s.elapse t).evq = s.evq ∧
    (s.elapse t).log = s.log ∧ (s.elapse t).eyes = s.eyes ∧ (s.elapse t).par = s.par ∧ (s.elapse t).fn = s.fn ∧ (s.elapse t).tab = s.tab ∧
    (s.elapse t).thm = s.thm ∧ (s.elapse t).mem = s.mem ∧ (s.elapse t).cmp = s.cmp ∧ (s.elapse t).ras = s.ras ∧ (s.elapse t).pipe = s.pipe ∧
    (s.elapse t).prk = s.prk ∧ (s.elapse t).apq = s.apq ∧ (s.elapse t).pnl = s.pnl ∧ (s.elapse t).bob = s.bob ∧ (s.elapse t).sel = s.sel ∧
    (s.elapse t).hl = s.hl ∧ (s.elapse t).sec = s.sec ∧ (s.elapse t).tat = s.tat ∧ (s.elapse t).free = s.free ∧ (s.elapse t).pending = s.pending ∧
    (s.elapse t).nv.nor = s.nv.nor ∧ (s.elapse t).nv.nand = s.nv.nand := by
  unfold State.elapse
  repeat' split
  all_goals simp

@[simp] theorem State.settle_frame (s : State) :
    s.settle.now = s.now ∧ s.settle.boot = s.boot ∧ s.settle.vin = s.vin ∧ s.settle.win = s.win ∧ s.settle.box = s.box ∧ s.settle.evq = s.evq ∧
    s.settle.log = s.log ∧ s.settle.stat = s.stat ∧ s.settle.eyes = s.eyes ∧ s.settle.par = s.par ∧ s.settle.fn = s.fn ∧ s.settle.tab = s.tab ∧
    s.settle.thm = s.thm ∧ s.settle.mem = s.mem ∧ s.settle.cmp = s.cmp ∧ s.settle.nv = s.nv ∧ s.settle.ras = s.ras ∧ s.settle.pipe = s.pipe ∧
    s.settle.prk = s.prk ∧ s.settle.apq = s.apq ∧ s.settle.pnl = s.pnl ∧ s.settle.bob = s.bob ∧ s.settle.sel = s.sel ∧ s.settle.hl = s.hl ∧
    s.settle.sec = s.sec ∧ s.settle.tat = s.tat ∧ s.settle.free = s.free ∧ s.settle.pending = s.pending := by
  unfold State.settle
  simp

@[simp] theorem State.bcSend_frame (s : State) (m : BcMsg) :
    (s.bcSend m).now = s.now ∧ (s.bcSend m).boot = s.boot ∧ (s.bcSend m).vin = s.vin ∧ (s.bcSend m).win = s.win ∧ (s.bcSend m).box = s.box ∧
    (s.bcSend m).evq = s.evq ∧ (s.bcSend m).log = s.log ∧ (s.bcSend m).stat = s.stat ∧ (s.bcSend m).eyes = s.eyes ∧ (s.bcSend m).par = s.par ∧
    (s.bcSend m).fn = s.fn ∧ (s.bcSend m).tab = s.tab ∧ (s.bcSend m).pwr = s.pwr ∧ (s.bcSend m).thm = s.thm ∧ (s.bcSend m).mem = s.mem ∧
    (s.bcSend m).cmp = s.cmp ∧ (s.bcSend m).nv = s.nv ∧ (s.bcSend m).ras = s.ras ∧ (s.bcSend m).pipe = s.pipe ∧ (s.bcSend m).prk = s.prk ∧
    (s.bcSend m).apq = s.apq ∧ (s.bcSend m).pnl = s.pnl ∧ (s.bcSend m).bob = s.bob ∧ (s.bcSend m).sel = s.sel ∧ (s.bcSend m).sec = s.sec ∧
    (s.bcSend m).tat = s.tat ∧ (s.bcSend m).free = s.free ∧ (s.bcSend m).pending = s.pending := by
  unfold State.bcSend
  simp

@[simp] theorem State.portEvent_frame (s : State) (p : TatPort) (cause : Nat) :
    (s.portEvent p cause).now = s.now ∧ (s.portEvent p cause).boot = s.boot ∧ (s.portEvent p cause).vin = s.vin ∧ (s.portEvent p cause).box = s.box ∧
    (s.portEvent p cause).eyes = s.eyes ∧ (s.portEvent p cause).par = s.par ∧ (s.portEvent p cause).fn = s.fn ∧ (s.portEvent p cause).tab = s.tab ∧
    (s.portEvent p cause).pwr = s.pwr ∧ (s.portEvent p cause).thm = s.thm ∧ (s.portEvent p cause).mem = s.mem ∧ (s.portEvent p cause).cmp = s.cmp ∧
    (s.portEvent p cause).nv = s.nv ∧ (s.portEvent p cause).ras = s.ras ∧ (s.portEvent p cause).pipe = s.pipe ∧ (s.portEvent p cause).prk = s.prk ∧
    (s.portEvent p cause).apq = s.apq ∧ (s.portEvent p cause).pnl = s.pnl ∧ (s.portEvent p cause).bob = s.bob ∧ (s.portEvent p cause).sel = s.sel ∧
    (s.portEvent p cause).hl = s.hl ∧ (s.portEvent p cause).sec = s.sec ∧ (s.portEvent p cause).tat = s.tat ∧ (s.portEvent p cause).free = s.free ∧
    (s.portEvent p cause).pending = s.pending := by
  unfold State.portEvent
  simp

@[simp] theorem State.portDown_frame (s : State) (p : TatPort) :
    (s.portDown p).now = s.now ∧ (s.portDown p).boot = s.boot ∧ (s.portDown p).vin = s.vin ∧ (s.portDown p).box = s.box ∧ (s.portDown p).eyes = s.eyes ∧
    (s.portDown p).par = s.par ∧ (s.portDown p).fn = s.fn ∧ (s.portDown p).tab = s.tab ∧ (s.portDown p).pwr = s.pwr ∧ (s.portDown p).thm = s.thm ∧
    (s.portDown p).mem = s.mem ∧ (s.portDown p).cmp = s.cmp ∧ (s.portDown p).nv = s.nv ∧ (s.portDown p).ras = s.ras ∧ (s.portDown p).pipe = s.pipe ∧
    (s.portDown p).prk = s.prk ∧ (s.portDown p).apq = s.apq ∧ (s.portDown p).pnl = s.pnl ∧ (s.portDown p).bob = s.bob ∧ (s.portDown p).sel = s.sel ∧
    (s.portDown p).hl = s.hl ∧ (s.portDown p).sec = s.sec ∧ (s.portDown p).free = s.free ∧ (s.portDown p).pending = s.pending := by
  unfold State.portDown
  simp

@[simp] theorem State.portsCheck_frame (s : State) :
    s.portsCheck.now = s.now ∧ s.portsCheck.boot = s.boot ∧ s.portsCheck.vin = s.vin ∧ s.portsCheck.box = s.box ∧ s.portsCheck.eyes = s.eyes ∧
    s.portsCheck.par = s.par ∧ s.portsCheck.fn = s.fn ∧ s.portsCheck.tab = s.tab ∧ s.portsCheck.pwr = s.pwr ∧ s.portsCheck.thm = s.thm ∧
    s.portsCheck.mem = s.mem ∧ s.portsCheck.cmp = s.cmp ∧ s.portsCheck.nv = s.nv ∧ s.portsCheck.ras = s.ras ∧ s.portsCheck.pipe = s.pipe ∧
    s.portsCheck.prk = s.prk ∧ s.portsCheck.apq = s.apq ∧ s.portsCheck.pnl = s.pnl ∧ s.portsCheck.bob = s.bob ∧ s.portsCheck.sel = s.sel ∧
    s.portsCheck.hl = s.hl ∧ s.portsCheck.sec = s.sec ∧ s.portsCheck.free = s.free ∧ s.portsCheck.pending = s.pending := by
  unfold State.portsCheck
  simp

@[simp] theorem State.tatLeave_frame (s : State) :
    s.tatLeave.now = s.now ∧ s.tatLeave.boot = s.boot ∧ s.tatLeave.vin = s.vin ∧ s.tatLeave.win = s.win ∧ s.tatLeave.box = s.box ∧ s.tatLeave.evq = s.evq ∧
    s.tatLeave.log = s.log ∧ s.tatLeave.stat = s.stat ∧ s.tatLeave.eyes = s.eyes ∧ s.tatLeave.par = s.par ∧ s.tatLeave.fn = s.fn ∧ s.tatLeave.tab = s.tab ∧
    s.tatLeave.pwr = s.pwr ∧ s.tatLeave.thm = s.thm ∧ s.tatLeave.mem = s.mem ∧ s.tatLeave.cmp = s.cmp ∧ s.tatLeave.nv = s.nv ∧ s.tatLeave.ras = s.ras ∧
    s.tatLeave.pipe = s.pipe ∧ s.tatLeave.prk = s.prk ∧ s.tatLeave.apq = s.apq ∧ s.tatLeave.pnl = s.pnl ∧ s.tatLeave.bob = s.bob ∧ s.tatLeave.sel = s.sel ∧
    s.tatLeave.hl = s.hl ∧ s.tatLeave.sec = s.sec ∧ s.tatLeave.free = s.free ∧ s.tatLeave.pending = s.pending := by
  unfold State.tatLeave
  simp

@[simp] theorem State.tatSend_frame (s : State) (p : TatPort) (kind : Nat) (payload : List Byte) :
    (s.tatSend p kind payload).now = s.now ∧ (s.tatSend p kind payload).boot = s.boot ∧ (s.tatSend p kind payload).vin = s.vin ∧
    (s.tatSend p kind payload).win = s.win ∧ (s.tatSend p kind payload).box = s.box ∧ (s.tatSend p kind payload).evq = s.evq ∧
    (s.tatSend p kind payload).log = s.log ∧ (s.tatSend p kind payload).stat = s.stat ∧ (s.tatSend p kind payload).eyes = s.eyes ∧
    (s.tatSend p kind payload).par = s.par ∧ (s.tatSend p kind payload).fn = s.fn ∧ (s.tatSend p kind payload).tab = s.tab ∧
    (s.tatSend p kind payload).pwr = s.pwr ∧ (s.tatSend p kind payload).thm = s.thm ∧ (s.tatSend p kind payload).mem = s.mem ∧
    (s.tatSend p kind payload).cmp = s.cmp ∧ (s.tatSend p kind payload).nv = s.nv ∧ (s.tatSend p kind payload).ras = s.ras ∧
    (s.tatSend p kind payload).pipe = s.pipe ∧ (s.tatSend p kind payload).prk = s.prk ∧ (s.tatSend p kind payload).apq = s.apq ∧
    (s.tatSend p kind payload).pnl = s.pnl ∧ (s.tatSend p kind payload).bob = s.bob ∧ (s.tatSend p kind payload).sel = s.sel ∧
    (s.tatSend p kind payload).hl = s.hl ∧ (s.tatSend p kind payload).sec = s.sec ∧ (s.tatSend p kind payload).free = s.free ∧
    (s.tatSend p kind payload).pending = s.pending := by
  unfold State.tatSend
  simp

@[simp] theorem State.peerRefuse_frame (s : State) :
    s.peerRefuse.now = s.now ∧ s.peerRefuse.boot = s.boot ∧ s.peerRefuse.vin = s.vin ∧ s.peerRefuse.box = s.box ∧ s.peerRefuse.evq = s.evq ∧
    s.peerRefuse.log = s.log ∧ s.peerRefuse.stat = s.stat ∧ s.peerRefuse.eyes = s.eyes ∧ s.peerRefuse.par = s.par ∧ s.peerRefuse.fn = s.fn ∧
    s.peerRefuse.tab = s.tab ∧ s.peerRefuse.pwr = s.pwr ∧ s.peerRefuse.thm = s.thm ∧ s.peerRefuse.mem = s.mem ∧ s.peerRefuse.cmp = s.cmp ∧
    s.peerRefuse.nv = s.nv ∧ s.peerRefuse.ras = s.ras ∧ s.peerRefuse.pipe = s.pipe ∧ s.peerRefuse.prk = s.prk ∧ s.peerRefuse.apq = s.apq ∧
    s.peerRefuse.pnl = s.pnl ∧ s.peerRefuse.bob = s.bob ∧ s.peerRefuse.sel = s.sel ∧ s.peerRefuse.hl = s.hl ∧ s.peerRefuse.sec = s.sec ∧
    s.peerRefuse.tat = s.tat ∧ s.peerRefuse.free = s.free ∧ s.peerRefuse.pending = s.pending := by
  unfold State.peerRefuse
  simp

@[simp] theorem State.peerSend_frame (s : State) (dest : Nat) (msg : List Byte) :
    (s.peerSend dest msg).now = s.now ∧ (s.peerSend dest msg).boot = s.boot ∧ (s.peerSend dest msg).vin = s.vin ∧ (s.peerSend dest msg).box = s.box ∧
    (s.peerSend dest msg).evq = s.evq ∧ (s.peerSend dest msg).log = s.log ∧ (s.peerSend dest msg).stat = s.stat ∧ (s.peerSend dest msg).eyes = s.eyes ∧
    (s.peerSend dest msg).par = s.par ∧ (s.peerSend dest msg).fn = s.fn ∧ (s.peerSend dest msg).tab = s.tab ∧ (s.peerSend dest msg).pwr = s.pwr ∧
    (s.peerSend dest msg).thm = s.thm ∧ (s.peerSend dest msg).mem = s.mem ∧ (s.peerSend dest msg).cmp = s.cmp ∧ (s.peerSend dest msg).nv = s.nv ∧
    (s.peerSend dest msg).ras = s.ras ∧ (s.peerSend dest msg).pipe = s.pipe ∧ (s.peerSend dest msg).prk = s.prk ∧ (s.peerSend dest msg).apq = s.apq ∧
    (s.peerSend dest msg).pnl = s.pnl ∧ (s.peerSend dest msg).bob = s.bob ∧ (s.peerSend dest msg).sel = s.sel ∧ (s.peerSend dest msg).hl = s.hl ∧
    (s.peerSend dest msg).sec = s.sec ∧ (s.peerSend dest msg).free = s.free ∧ (s.peerSend dest msg).pending = s.pending := by
  unfold State.peerSend
  repeat' split
  all_goals simp

@[simp] theorem State.onMb_frame (s : State) (i : Mb) (f : Mailbox → Mailbox) :
    (s.onMb i f).now = s.now ∧ (s.onMb i f).boot = s.boot ∧ (s.onMb i f).vin = s.vin ∧ (s.onMb i f).win = s.win ∧ (s.onMb i f).evq = s.evq ∧
    (s.onMb i f).log = s.log ∧ (s.onMb i f).stat = s.stat ∧ (s.onMb i f).eyes = s.eyes ∧ (s.onMb i f).par = s.par ∧ (s.onMb i f).fn = s.fn ∧
    (s.onMb i f).tab = s.tab ∧ (s.onMb i f).pwr = s.pwr ∧ (s.onMb i f).thm = s.thm ∧ (s.onMb i f).mem = s.mem ∧ (s.onMb i f).cmp = s.cmp ∧
    (s.onMb i f).nv = s.nv ∧ (s.onMb i f).ras = s.ras ∧ (s.onMb i f).pipe = s.pipe ∧ (s.onMb i f).prk = s.prk ∧ (s.onMb i f).apq = s.apq ∧
    (s.onMb i f).pnl = s.pnl ∧ (s.onMb i f).bob = s.bob ∧ (s.onMb i f).sel = s.sel ∧ (s.onMb i f).hl = s.hl ∧ (s.onMb i f).sec = s.sec ∧
    (s.onMb i f).tat = s.tat ∧ (s.onMb i f).free = s.free ∧ (s.onMb i f).pending = s.pending := by
  unfold State.onMb
  simp

@[simp] theorem State.loadPeer_frame (s : State) :
    s.loadPeer.now = s.now ∧ s.loadPeer.boot = s.boot ∧ s.loadPeer.vin = s.vin ∧ s.loadPeer.win = s.win ∧ s.loadPeer.evq = s.evq ∧ s.loadPeer.log = s.log ∧
    s.loadPeer.stat = s.stat ∧ s.loadPeer.eyes = s.eyes ∧ s.loadPeer.par = s.par ∧ s.loadPeer.fn = s.fn ∧ s.loadPeer.tab = s.tab ∧ s.loadPeer.pwr = s.pwr ∧
    s.loadPeer.thm = s.thm ∧ s.loadPeer.mem = s.mem ∧ s.loadPeer.cmp = s.cmp ∧ s.loadPeer.nv = s.nv ∧ s.loadPeer.ras = s.ras ∧ s.loadPeer.pipe = s.pipe ∧
    s.loadPeer.prk = s.prk ∧ s.loadPeer.apq = s.apq ∧ s.loadPeer.pnl = s.pnl ∧ s.loadPeer.bob = s.bob ∧ s.loadPeer.sel = s.sel ∧ s.loadPeer.hl = s.hl ∧
    s.loadPeer.sec = s.sec ∧ s.loadPeer.tat = s.tat ∧ s.loadPeer.free = s.free ∧ s.loadPeer.pending = s.pending := by
  unfold State.loadPeer
  repeat' split
  all_goals simp

@[simp] theorem State.release_frame (s : State) (i : Mb) :
    (s.release i).now = s.now ∧ (s.release i).boot = s.boot ∧ (s.release i).vin = s.vin ∧ (s.release i).win = s.win ∧ (s.release i).evq = s.evq ∧
    (s.release i).log = s.log ∧ (s.release i).stat = s.stat ∧ (s.release i).eyes = s.eyes ∧ (s.release i).par = s.par ∧ (s.release i).fn = s.fn ∧
    (s.release i).tab = s.tab ∧ (s.release i).thm = s.thm ∧ (s.release i).mem = s.mem ∧ (s.release i).cmp = s.cmp ∧ (s.release i).nv = s.nv ∧
    (s.release i).ras = s.ras ∧ (s.release i).pipe = s.pipe ∧ (s.release i).prk = s.prk ∧ (s.release i).apq = s.apq ∧ (s.release i).pnl = s.pnl ∧
    (s.release i).bob = s.bob ∧ (s.release i).sel = s.sel ∧ (s.release i).hl = s.hl ∧ (s.release i).sec = s.sec ∧ (s.release i).tat = s.tat ∧
    (s.release i).free = s.free ∧ (s.release i).pending = s.pending := by
  unfold State.release
  simp

@[simp] theorem State.overrun_frame (s : State) (i : Mb) :
    (s.overrun i).now = s.now ∧ (s.overrun i).boot = s.boot ∧ (s.overrun i).vin = s.vin ∧ (s.overrun i).evq = s.evq ∧ (s.overrun i).log = s.log ∧
    (s.overrun i).stat = s.stat ∧ (s.overrun i).eyes = s.eyes ∧ (s.overrun i).par = s.par ∧ (s.overrun i).fn = s.fn ∧ (s.overrun i).tab = s.tab ∧
    (s.overrun i).pwr = s.pwr ∧ (s.overrun i).thm = s.thm ∧ (s.overrun i).mem = s.mem ∧ (s.overrun i).cmp = s.cmp ∧ (s.overrun i).nv = s.nv ∧
    (s.overrun i).ras = s.ras ∧ (s.overrun i).pipe = s.pipe ∧ (s.overrun i).prk = s.prk ∧ (s.overrun i).apq = s.apq ∧ (s.overrun i).pnl = s.pnl ∧
    (s.overrun i).bob = s.bob ∧ (s.overrun i).sel = s.sel ∧ (s.overrun i).hl = s.hl ∧ (s.overrun i).sec = s.sec ∧ (s.overrun i).tat = s.tat ∧
    (s.overrun i).free = s.free ∧ (s.overrun i).pending = s.pending := by
  unfold State.overrun
  simp

@[simp] theorem State.ring_frame (s : State) (i : Mb) (origin : Origin) :
    (s.ring i origin).now = s.now ∧ (s.ring i origin).boot = s.boot ∧ (s.ring i origin).vin = s.vin ∧ (s.ring i origin).evq = s.evq ∧
    (s.ring i origin).log = s.log ∧ (s.ring i origin).stat = s.stat ∧ (s.ring i origin).eyes = s.eyes ∧ (s.ring i origin).par = s.par ∧
    (s.ring i origin).fn = s.fn ∧ (s.ring i origin).tab = s.tab ∧ (s.ring i origin).pwr = s.pwr ∧ (s.ring i origin).thm = s.thm ∧
    (s.ring i origin).mem = s.mem ∧ (s.ring i origin).cmp = s.cmp ∧ (s.ring i origin).nv = s.nv ∧ (s.ring i origin).ras = s.ras ∧
    (s.ring i origin).pipe = s.pipe ∧ (s.ring i origin).prk = s.prk ∧ (s.ring i origin).apq = s.apq ∧ (s.ring i origin).pnl = s.pnl ∧
    (s.ring i origin).bob = s.bob ∧ (s.ring i origin).sel = s.sel ∧ (s.ring i origin).hl = s.hl ∧ (s.ring i origin).sec = s.sec ∧
    (s.ring i origin).tat = s.tat ∧ (s.ring i origin).free = s.free ∧ (s.ring i origin).pending = s.pending := by
  unfold State.ring
  simp

@[simp] theorem State.peerDone_frame (s : State) :
    s.peerDone.now = s.now ∧ s.peerDone.boot = s.boot ∧ s.peerDone.vin = s.vin ∧ s.peerDone.win = s.win ∧ s.peerDone.evq = s.evq ∧ s.peerDone.log = s.log ∧
    s.peerDone.stat = s.stat ∧ s.peerDone.eyes = s.eyes ∧ s.peerDone.par = s.par ∧ s.peerDone.fn = s.fn ∧ s.peerDone.tab = s.tab ∧ s.peerDone.pwr = s.pwr ∧
    s.peerDone.thm = s.thm ∧ s.peerDone.mem = s.mem ∧ s.peerDone.cmp = s.cmp ∧ s.peerDone.nv = s.nv ∧ s.peerDone.ras = s.ras ∧ s.peerDone.pipe = s.pipe ∧
    s.peerDone.prk = s.prk ∧ s.peerDone.apq = s.apq ∧ s.peerDone.pnl = s.pnl ∧ s.peerDone.bob = s.bob ∧ s.peerDone.sel = s.sel ∧ s.peerDone.hl = s.hl ∧
    s.peerDone.sec = s.sec ∧ s.peerDone.tat = s.tat ∧ s.peerDone.free = s.free ∧ s.peerDone.pending = s.pending := by
  unfold State.peerDone
  simp

@[simp] theorem State.answer_frame (s : State) (i : Mb) (bytes : List Byte) :
    (s.answer i bytes).now = s.now ∧ (s.answer i bytes).boot = s.boot ∧ (s.answer i bytes).vin = s.vin ∧ (s.answer i bytes).evq = s.evq ∧
    (s.answer i bytes).log = s.log ∧ (s.answer i bytes).stat = s.stat ∧ (s.answer i bytes).eyes = s.eyes ∧ (s.answer i bytes).par = s.par ∧
    (s.answer i bytes).fn = s.fn ∧ (s.answer i bytes).tab = s.tab ∧ (s.answer i bytes).thm = s.thm ∧ (s.answer i bytes).mem = s.mem ∧
    (s.answer i bytes).cmp = s.cmp ∧ (s.answer i bytes).nv = s.nv ∧ (s.answer i bytes).ras = s.ras ∧ (s.answer i bytes).pipe = s.pipe ∧
    (s.answer i bytes).prk = s.prk ∧ (s.answer i bytes).apq = s.apq ∧ (s.answer i bytes).pnl = s.pnl ∧ (s.answer i bytes).bob = s.bob ∧
    (s.answer i bytes).sel = s.sel ∧ (s.answer i bytes).sec = s.sec ∧ (s.answer i bytes).free = s.free ∧ (s.answer i bytes).pending = s.pending := by
  unfold State.answer
  repeat' split
  all_goals simp

@[simp] theorem State.postWith_frame (s : State) (i : Mb) (trailer : Bool) (status : Nat) (payload : List Byte) :
    (s.postWith i trailer status payload).now = s.now ∧ (s.postWith i trailer status payload).boot = s.boot ∧
    (s.postWith i trailer status payload).vin = s.vin ∧ (s.postWith i trailer status payload).evq = s.evq ∧
    (s.postWith i trailer status payload).log = s.log ∧ (s.postWith i trailer status payload).stat = s.stat ∧
    (s.postWith i trailer status payload).eyes = s.eyes ∧ (s.postWith i trailer status payload).par = s.par ∧
    (s.postWith i trailer status payload).fn = s.fn ∧ (s.postWith i trailer status payload).tab = s.tab ∧ (s.postWith i trailer status payload).thm = s.thm ∧
    (s.postWith i trailer status payload).mem = s.mem ∧ (s.postWith i trailer status payload).cmp = s.cmp ∧ (s.postWith i trailer status payload).nv = s.nv ∧
    (s.postWith i trailer status payload).ras = s.ras ∧ (s.postWith i trailer status payload).pipe = s.pipe ∧
    (s.postWith i trailer status payload).prk = s.prk ∧ (s.postWith i trailer status payload).apq = s.apq ∧
    (s.postWith i trailer status payload).pnl = s.pnl ∧ (s.postWith i trailer status payload).bob = s.bob ∧
    (s.postWith i trailer status payload).sel = s.sel ∧ (s.postWith i trailer status payload).sec = s.sec ∧
    (s.postWith i trailer status payload).free = s.free ∧ (s.postWith i trailer status payload).pending = s.pending := by
  unfold State.postWith
  repeat' split
  all_goals simp

@[simp] theorem State.post_frame (s : State) (i : Mb) (status : Nat) (payload : List Byte) :
    (s.post i status payload).now = s.now ∧ (s.post i status payload).boot = s.boot ∧ (s.post i status payload).vin = s.vin ∧
    (s.post i status payload).evq = s.evq ∧ (s.post i status payload).log = s.log ∧ (s.post i status payload).stat = s.stat ∧
    (s.post i status payload).eyes = s.eyes ∧ (s.post i status payload).par = s.par ∧ (s.post i status payload).fn = s.fn ∧
    (s.post i status payload).tab = s.tab ∧ (s.post i status payload).thm = s.thm ∧ (s.post i status payload).mem = s.mem ∧
    (s.post i status payload).cmp = s.cmp ∧ (s.post i status payload).nv = s.nv ∧ (s.post i status payload).ras = s.ras ∧
    (s.post i status payload).pipe = s.pipe ∧ (s.post i status payload).prk = s.prk ∧ (s.post i status payload).apq = s.apq ∧
    (s.post i status payload).pnl = s.pnl ∧ (s.post i status payload).bob = s.bob ∧ (s.post i status payload).sel = s.sel ∧
    (s.post i status payload).sec = s.sec ∧ (s.post i status payload).free = s.free ∧ (s.post i status payload).pending = s.pending := by
  unfold State.post
  simp

@[simp] theorem State.take_frame (s : State) (i : Mb) :
    (s.take i).now = s.now ∧ (s.take i).boot = s.boot ∧ (s.take i).vin = s.vin ∧ (s.take i).win = s.win ∧ (s.take i).evq = s.evq ∧ (s.take i).log = s.log ∧
    (s.take i).stat = s.stat ∧ (s.take i).eyes = s.eyes ∧ (s.take i).par = s.par ∧ (s.take i).fn = s.fn ∧ (s.take i).tab = s.tab ∧ (s.take i).pwr = s.pwr ∧
    (s.take i).thm = s.thm ∧ (s.take i).mem = s.mem ∧ (s.take i).cmp = s.cmp ∧ (s.take i).nv = s.nv ∧ (s.take i).ras = s.ras ∧ (s.take i).pipe = s.pipe ∧
    (s.take i).prk = s.prk ∧ (s.take i).apq = s.apq ∧ (s.take i).pnl = s.pnl ∧ (s.take i).bob = s.bob ∧ (s.take i).sel = s.sel ∧ (s.take i).hl = s.hl ∧
    (s.take i).sec = s.sec ∧ (s.take i).tat = s.tat ∧ (s.take i).free = s.free ∧ (s.take i).pending = s.pending := by
  unfold State.take
  simp

@[simp] theorem State.endJob_frame (s : State) (code status : Nat) :
    (s.endJob code status).now = s.now ∧ (s.endJob code status).boot = s.boot ∧ (s.endJob code status).vin = s.vin ∧ (s.endJob code status).eyes = s.eyes ∧
    (s.endJob code status).par = s.par ∧ (s.endJob code status).fn = s.fn ∧ (s.endJob code status).tab = s.tab ∧ (s.endJob code status).pwr = s.pwr ∧
    (s.endJob code status).thm = s.thm ∧ (s.endJob code status).mem = s.mem ∧ (s.endJob code status).cmp = s.cmp ∧ (s.endJob code status).nv = s.nv ∧
    (s.endJob code status).ras = s.ras ∧ (s.endJob code status).pipe = s.pipe ∧ (s.endJob code status).prk = s.prk ∧ (s.endJob code status).apq = s.apq ∧
    (s.endJob code status).pnl = s.pnl ∧ (s.endJob code status).bob = s.bob ∧ (s.endJob code status).sel = s.sel ∧ (s.endJob code status).hl = s.hl ∧
    (s.endJob code status).sec = s.sec ∧ (s.endJob code status).tat = s.tat ∧ (s.endJob code status).free = s.free ∧
    (s.endJob code status).pending = s.pending := by
  unfold State.endJob
  repeat' split
  all_goals simp

@[simp] theorem State.answerHeld_frame (s : State) (i : Mb) (w : Wait) (status : Nat) (payload : List Byte) :
    (s.answerHeld i w status payload).now = s.now ∧ (s.answerHeld i w status payload).boot = s.boot ∧ (s.answerHeld i w status payload).vin = s.vin ∧
    (s.answerHeld i w status payload).evq = s.evq ∧ (s.answerHeld i w status payload).log = s.log ∧ (s.answerHeld i w status payload).stat = s.stat ∧
    (s.answerHeld i w status payload).eyes = s.eyes ∧ (s.answerHeld i w status payload).par = s.par ∧ (s.answerHeld i w status payload).fn = s.fn ∧
    (s.answerHeld i w status payload).tab = s.tab ∧ (s.answerHeld i w status payload).thm = s.thm ∧ (s.answerHeld i w status payload).mem = s.mem ∧
    (s.answerHeld i w status payload).cmp = s.cmp ∧ (s.answerHeld i w status payload).nv = s.nv ∧ (s.answerHeld i w status payload).ras = s.ras ∧
    (s.answerHeld i w status payload).pipe = s.pipe ∧ (s.answerHeld i w status payload).prk = s.prk ∧ (s.answerHeld i w status payload).apq = s.apq ∧
    (s.answerHeld i w status payload).pnl = s.pnl ∧ (s.answerHeld i w status payload).bob = s.bob ∧ (s.answerHeld i w status payload).sel = s.sel ∧
    (s.answerHeld i w status payload).sec = s.sec ∧ (s.answerHeld i w status payload).free = s.free ∧ (s.answerHeld i w status payload).pending = s.pending := by
  unfold State.answerHeld
  simp

@[simp] theorem State.statBoundary_frame (s : State) :
    s.statBoundary.now = s.now ∧ s.statBoundary.boot = s.boot ∧ s.statBoundary.vin = s.vin ∧ s.statBoundary.box = s.box ∧ s.statBoundary.eyes = s.eyes ∧
    s.statBoundary.par = s.par ∧ s.statBoundary.fn = s.fn ∧ s.statBoundary.tab = s.tab ∧ s.statBoundary.pwr = s.pwr ∧ s.statBoundary.thm = s.thm ∧
    s.statBoundary.mem = s.mem ∧ s.statBoundary.cmp = s.cmp ∧ s.statBoundary.nv = s.nv ∧ s.statBoundary.ras = s.ras ∧ s.statBoundary.pipe = s.pipe ∧
    s.statBoundary.prk = s.prk ∧ s.statBoundary.apq = s.apq ∧ s.statBoundary.pnl = s.pnl ∧ s.statBoundary.bob = s.bob ∧ s.statBoundary.sel = s.sel ∧
    s.statBoundary.hl = s.hl ∧ s.statBoundary.sec = s.sec ∧ s.statBoundary.tat = s.tat ∧ s.statBoundary.free = s.free ∧ s.statBoundary.pending = s.pending := by
  unfold State.statBoundary
  simp

@[simp] theorem State.statFrame_frame (s : State) :
    s.statFrame.now = s.now ∧ s.statFrame.boot = s.boot ∧ s.statFrame.vin = s.vin ∧ s.statFrame.box = s.box ∧ s.statFrame.eyes = s.eyes ∧
    s.statFrame.par = s.par ∧ s.statFrame.fn = s.fn ∧ s.statFrame.tab = s.tab ∧ s.statFrame.pwr = s.pwr ∧ s.statFrame.thm = s.thm ∧ s.statFrame.mem = s.mem ∧
    s.statFrame.cmp = s.cmp ∧ s.statFrame.nv = s.nv ∧ s.statFrame.ras = s.ras ∧ s.statFrame.pipe = s.pipe ∧ s.statFrame.prk = s.prk ∧
    s.statFrame.apq = s.apq ∧ s.statFrame.pnl = s.pnl ∧ s.statFrame.bob = s.bob ∧ s.statFrame.sel = s.sel ∧ s.statFrame.hl = s.hl ∧ s.statFrame.sec = s.sec ∧
    s.statFrame.tat = s.tat ∧ s.statFrame.free = s.free ∧ s.statFrame.pending = s.pending := by
  unfold State.statFrame
  simp

@[simp] theorem State.statTimeLimit_frame (s : State) :
    s.statTimeLimit.now = s.now ∧ s.statTimeLimit.boot = s.boot ∧ s.statTimeLimit.vin = s.vin ∧ s.statTimeLimit.box = s.box ∧ s.statTimeLimit.eyes = s.eyes ∧
    s.statTimeLimit.par = s.par ∧ s.statTimeLimit.fn = s.fn ∧ s.statTimeLimit.tab = s.tab ∧ s.statTimeLimit.pwr = s.pwr ∧ s.statTimeLimit.thm = s.thm ∧
    s.statTimeLimit.mem = s.mem ∧ s.statTimeLimit.cmp = s.cmp ∧ s.statTimeLimit.nv = s.nv ∧ s.statTimeLimit.ras = s.ras ∧ s.statTimeLimit.pipe = s.pipe ∧
    s.statTimeLimit.prk = s.prk ∧ s.statTimeLimit.apq = s.apq ∧ s.statTimeLimit.pnl = s.pnl ∧ s.statTimeLimit.bob = s.bob ∧ s.statTimeLimit.sel = s.sel ∧
    s.statTimeLimit.hl = s.hl ∧ s.statTimeLimit.sec = s.sec ∧ s.statTimeLimit.tat = s.tat ∧ s.statTimeLimit.free = s.free ∧
    s.statTimeLimit.pending = s.pending := by
  unfold State.statTimeLimit
  simp

@[simp] theorem State.logClear_frame (s : State) (source : Nat) :
    (s.logClear source).now = s.now ∧ (s.logClear source).boot = s.boot ∧ (s.logClear source).vin = s.vin ∧ (s.logClear source).win = s.win ∧
    (s.logClear source).box = s.box ∧ (s.logClear source).evq = s.evq ∧ (s.logClear source).eyes = s.eyes ∧ (s.logClear source).par = s.par ∧
    (s.logClear source).fn = s.fn ∧ (s.logClear source).tab = s.tab ∧ (s.logClear source).pwr = s.pwr ∧ (s.logClear source).thm = s.thm ∧
    (s.logClear source).mem = s.mem ∧ (s.logClear source).cmp = s.cmp ∧ (s.logClear source).nv = s.nv ∧ (s.logClear source).ras = s.ras ∧
    (s.logClear source).pipe = s.pipe ∧ (s.logClear source).prk = s.prk ∧ (s.logClear source).apq = s.apq ∧ (s.logClear source).pnl = s.pnl ∧
    (s.logClear source).bob = s.bob ∧ (s.logClear source).sel = s.sel ∧ (s.logClear source).hl = s.hl ∧ (s.logClear source).sec = s.sec ∧
    (s.logClear source).tat = s.tat ∧ (s.logClear source).free = s.free ∧ (s.logClear source).pending = s.pending := by
  unfold State.logClear
  simp

@[simp] theorem State.firstFaultClear_frame (s : State) :
    s.firstFaultClear.now = s.now ∧ s.firstFaultClear.boot = s.boot ∧ s.firstFaultClear.vin = s.vin ∧ s.firstFaultClear.win = s.win ∧
    s.firstFaultClear.box = s.box ∧ s.firstFaultClear.evq = s.evq ∧ s.firstFaultClear.stat = s.stat ∧ s.firstFaultClear.eyes = s.eyes ∧
    s.firstFaultClear.par = s.par ∧ s.firstFaultClear.fn = s.fn ∧ s.firstFaultClear.tab = s.tab ∧ s.firstFaultClear.pwr = s.pwr ∧
    s.firstFaultClear.thm = s.thm ∧ s.firstFaultClear.mem = s.mem ∧ s.firstFaultClear.cmp = s.cmp ∧ s.firstFaultClear.nv = s.nv ∧
    s.firstFaultClear.ras = s.ras ∧ s.firstFaultClear.pipe = s.pipe ∧ s.firstFaultClear.prk = s.prk ∧ s.firstFaultClear.apq = s.apq ∧
    s.firstFaultClear.pnl = s.pnl ∧ s.firstFaultClear.bob = s.bob ∧ s.firstFaultClear.sel = s.sel ∧ s.firstFaultClear.hl = s.hl ∧
    s.firstFaultClear.sec = s.sec ∧ s.firstFaultClear.tat = s.tat ∧ s.firstFaultClear.free = s.free ∧ s.firstFaultClear.pending = s.pending := by
  unfold State.firstFaultClear
  simp

@[simp] theorem State.eyeWrite_frame (s : State) (i : Nat) (r : EyeRec) :
    (s.eyeWrite i r).now = s.now ∧ (s.eyeWrite i r).boot = s.boot ∧ (s.eyeWrite i r).vin = s.vin ∧ (s.eyeWrite i r).win = s.win ∧
    (s.eyeWrite i r).box = s.box ∧ (s.eyeWrite i r).evq = s.evq ∧ (s.eyeWrite i r).log = s.log ∧ (s.eyeWrite i r).stat = s.stat ∧
    (s.eyeWrite i r).par = s.par ∧ (s.eyeWrite i r).fn = s.fn ∧ (s.eyeWrite i r).tab = s.tab ∧ (s.eyeWrite i r).pwr = s.pwr ∧ (s.eyeWrite i r).thm = s.thm ∧
    (s.eyeWrite i r).mem = s.mem ∧ (s.eyeWrite i r).cmp = s.cmp ∧ (s.eyeWrite i r).nv = s.nv ∧ (s.eyeWrite i r).ras = s.ras ∧
    (s.eyeWrite i r).pipe = s.pipe ∧ (s.eyeWrite i r).prk = s.prk ∧ (s.eyeWrite i r).apq = s.apq ∧ (s.eyeWrite i r).pnl = s.pnl ∧
    (s.eyeWrite i r).bob = s.bob ∧ (s.eyeWrite i r).sel = s.sel ∧ (s.eyeWrite i r).hl = s.hl ∧ (s.eyeWrite i r).sec = s.sec ∧ (s.eyeWrite i r).tat = s.tat ∧
    (s.eyeWrite i r).free = s.free ∧ (s.eyeWrite i r).pending = s.pending := by
  unfold State.eyeWrite
  simp

@[simp] theorem State.eyeFrame_frame (s : State) (live black : Bool) :
    (s.eyeFrame live black).now = s.now ∧ (s.eyeFrame live black).boot = s.boot ∧ (s.eyeFrame live black).vin = s.vin ∧ (s.eyeFrame live black).win = s.win ∧
    (s.eyeFrame live black).box = s.box ∧ (s.eyeFrame live black).evq = s.evq ∧ (s.eyeFrame live black).log = s.log ∧ (s.eyeFrame live black).stat = s.stat ∧
    (s.eyeFrame live black).par = s.par ∧ (s.eyeFrame live black).fn = s.fn ∧ (s.eyeFrame live black).tab = s.tab ∧ (s.eyeFrame live black).pwr = s.pwr ∧
    (s.eyeFrame live black).thm = s.thm ∧ (s.eyeFrame live black).mem = s.mem ∧ (s.eyeFrame live black).cmp = s.cmp ∧ (s.eyeFrame live black).nv = s.nv ∧
    (s.eyeFrame live black).ras = s.ras ∧ (s.eyeFrame live black).pipe = s.pipe ∧ (s.eyeFrame live black).prk = s.prk ∧ (s.eyeFrame live black).apq = s.apq ∧
    (s.eyeFrame live black).pnl = s.pnl ∧ (s.eyeFrame live black).bob = s.bob ∧ (s.eyeFrame live black).sel = s.sel ∧ (s.eyeFrame live black).hl = s.hl ∧
    (s.eyeFrame live black).sec = s.sec ∧ (s.eyeFrame live black).tat = s.tat ∧ (s.eyeFrame live black).free = s.free ∧
    (s.eyeFrame live black).pending = s.pending := by
  unfold State.eyeFrame
  simp

@[simp] theorem State.eyeRow_frame (s : State) (tap row : Nat) (vals : List Nat) (concealed : Bool) :
    (s.eyeRow tap row vals concealed).now = s.now ∧ (s.eyeRow tap row vals concealed).boot = s.boot ∧ (s.eyeRow tap row vals concealed).vin = s.vin ∧
    (s.eyeRow tap row vals concealed).win = s.win ∧ (s.eyeRow tap row vals concealed).box = s.box ∧ (s.eyeRow tap row vals concealed).evq = s.evq ∧
    (s.eyeRow tap row vals concealed).log = s.log ∧ (s.eyeRow tap row vals concealed).stat = s.stat ∧ (s.eyeRow tap row vals concealed).par = s.par ∧
    (s.eyeRow tap row vals concealed).fn = s.fn ∧ (s.eyeRow tap row vals concealed).tab = s.tab ∧ (s.eyeRow tap row vals concealed).pwr = s.pwr ∧
    (s.eyeRow tap row vals concealed).thm = s.thm ∧ (s.eyeRow tap row vals concealed).mem = s.mem ∧ (s.eyeRow tap row vals concealed).cmp = s.cmp ∧
    (s.eyeRow tap row vals concealed).nv = s.nv ∧ (s.eyeRow tap row vals concealed).ras = s.ras ∧ (s.eyeRow tap row vals concealed).pipe = s.pipe ∧
    (s.eyeRow tap row vals concealed).prk = s.prk ∧ (s.eyeRow tap row vals concealed).apq = s.apq ∧ (s.eyeRow tap row vals concealed).pnl = s.pnl ∧
    (s.eyeRow tap row vals concealed).bob = s.bob ∧ (s.eyeRow tap row vals concealed).sel = s.sel ∧ (s.eyeRow tap row vals concealed).hl = s.hl ∧
    (s.eyeRow tap row vals concealed).sec = s.sec ∧ (s.eyeRow tap row vals concealed).tat = s.tat ∧ (s.eyeRow tap row vals concealed).free = s.free ∧
    (s.eyeRow tap row vals concealed).pending = s.pending := by
  unfold State.eyeRow
  simp

@[simp] theorem State.eyeCheckOne_frame (s : State) (i : Nat) :
    (s.eyeCheckOne i).now = s.now ∧ (s.eyeCheckOne i).boot = s.boot ∧ (s.eyeCheckOne i).vin = s.vin ∧ (s.eyeCheckOne i).box = s.box ∧
    (s.eyeCheckOne i).par = s.par ∧ (s.eyeCheckOne i).fn = s.fn ∧ (s.eyeCheckOne i).tab = s.tab ∧ (s.eyeCheckOne i).pwr = s.pwr ∧
    (s.eyeCheckOne i).thm = s.thm ∧ (s.eyeCheckOne i).mem = s.mem ∧ (s.eyeCheckOne i).cmp = s.cmp ∧ (s.eyeCheckOne i).nv = s.nv ∧
    (s.eyeCheckOne i).ras = s.ras ∧ (s.eyeCheckOne i).pipe = s.pipe ∧ (s.eyeCheckOne i).prk = s.prk ∧ (s.eyeCheckOne i).apq = s.apq ∧
    (s.eyeCheckOne i).pnl = s.pnl ∧ (s.eyeCheckOne i).bob = s.bob ∧ (s.eyeCheckOne i).sel = s.sel ∧ (s.eyeCheckOne i).hl = s.hl ∧
    (s.eyeCheckOne i).sec = s.sec ∧ (s.eyeCheckOne i).tat = s.tat ∧ (s.eyeCheckOne i).free = s.free ∧ (s.eyeCheckOne i).pending = s.pending := by
  unfold State.eyeCheckOne
  simp

@[simp] theorem State.eyeCheck_frame (s : State) :
    s.eyeCheck.now = s.now ∧ s.eyeCheck.boot = s.boot ∧ s.eyeCheck.vin = s.vin ∧ s.eyeCheck.box = s.box ∧ s.eyeCheck.par = s.par ∧ s.eyeCheck.fn = s.fn ∧
    s.eyeCheck.tab = s.tab ∧ s.eyeCheck.pwr = s.pwr ∧ s.eyeCheck.thm = s.thm ∧ s.eyeCheck.mem = s.mem ∧ s.eyeCheck.cmp = s.cmp ∧ s.eyeCheck.nv = s.nv ∧
    s.eyeCheck.ras = s.ras ∧ s.eyeCheck.pipe = s.pipe ∧ s.eyeCheck.prk = s.prk ∧ s.eyeCheck.apq = s.apq ∧ s.eyeCheck.pnl = s.pnl ∧ s.eyeCheck.bob = s.bob ∧
    s.eyeCheck.sel = s.sel ∧ s.eyeCheck.hl = s.hl ∧ s.eyeCheck.sec = s.sec ∧ s.eyeCheck.tat = s.tat ∧ s.eyeCheck.free = s.free ∧
    s.eyeCheck.pending = s.pending := by
  unfold State.eyeCheck
  simp

@[simp] theorem State.cmpAccount_frame (s : State) (bytesIn bytesOut : Nat) :
    (s.cmpAccount bytesIn bytesOut).now = s.now ∧ (s.cmpAccount bytesIn bytesOut).boot = s.boot ∧ (s.cmpAccount bytesIn bytesOut).vin = s.vin ∧
    (s.cmpAccount bytesIn bytesOut).win = s.win ∧ (s.cmpAccount bytesIn bytesOut).box = s.box ∧ (s.cmpAccount bytesIn bytesOut).evq = s.evq ∧
    (s.cmpAccount bytesIn bytesOut).log = s.log ∧ (s.cmpAccount bytesIn bytesOut).eyes = s.eyes ∧ (s.cmpAccount bytesIn bytesOut).par = s.par ∧
    (s.cmpAccount bytesIn bytesOut).fn = s.fn ∧ (s.cmpAccount bytesIn bytesOut).tab = s.tab ∧ (s.cmpAccount bytesIn bytesOut).pwr = s.pwr ∧
    (s.cmpAccount bytesIn bytesOut).thm = s.thm ∧ (s.cmpAccount bytesIn bytesOut).mem = s.mem ∧ (s.cmpAccount bytesIn bytesOut).nv = s.nv ∧
    (s.cmpAccount bytesIn bytesOut).ras = s.ras ∧ (s.cmpAccount bytesIn bytesOut).pipe = s.pipe ∧ (s.cmpAccount bytesIn bytesOut).prk = s.prk ∧
    (s.cmpAccount bytesIn bytesOut).apq = s.apq ∧ (s.cmpAccount bytesIn bytesOut).pnl = s.pnl ∧ (s.cmpAccount bytesIn bytesOut).bob = s.bob ∧
    (s.cmpAccount bytesIn bytesOut).sel = s.sel ∧ (s.cmpAccount bytesIn bytesOut).hl = s.hl ∧ (s.cmpAccount bytesIn bytesOut).sec = s.sec ∧
    (s.cmpAccount bytesIn bytesOut).tat = s.tat ∧ (s.cmpAccount bytesIn bytesOut).free = s.free ∧ (s.cmpAccount bytesIn bytesOut).pending = s.pending := by
  unfold State.cmpAccount
  simp

@[simp] theorem State.cmpEnd_frame (s : State) (j : CmpJob) (status : Nat) :
    (s.cmpEnd j status).now = s.now ∧ (s.cmpEnd j status).boot = s.boot ∧ (s.cmpEnd j status).vin = s.vin ∧ (s.cmpEnd j status).eyes = s.eyes ∧
    (s.cmpEnd j status).par = s.par ∧ (s.cmpEnd j status).fn = s.fn ∧ (s.cmpEnd j status).tab = s.tab ∧ (s.cmpEnd j status).pwr = s.pwr ∧
    (s.cmpEnd j status).thm = s.thm ∧ (s.cmpEnd j status).mem = s.mem ∧ (s.cmpEnd j status).nv = s.nv ∧ (s.cmpEnd j status).ras = s.ras ∧
    (s.cmpEnd j status).pipe = s.pipe ∧ (s.cmpEnd j status).prk = s.prk ∧ (s.cmpEnd j status).apq = s.apq ∧ (s.cmpEnd j status).pnl = s.pnl ∧
    (s.cmpEnd j status).bob = s.bob ∧ (s.cmpEnd j status).sel = s.sel ∧ (s.cmpEnd j status).hl = s.hl ∧ (s.cmpEnd j status).sec = s.sec ∧
    (s.cmpEnd j status).tat = s.tat ∧ (s.cmpEnd j status).free = s.free ∧ (s.cmpEnd j status).pending = s.pending := by
  unfold State.cmpEnd
  simp

@[simp] theorem State.cmpKeep_frame (s : State) (j : CmpJob) :
    (s.cmpKeep j).now = s.now ∧ (s.cmpKeep j).boot = s.boot ∧ (s.cmpKeep j).vin = s.vin ∧ (s.cmpKeep j).win = s.win ∧ (s.cmpKeep j).box = s.box ∧
    (s.cmpKeep j).evq = s.evq ∧ (s.cmpKeep j).log = s.log ∧ (s.cmpKeep j).stat = s.stat ∧ (s.cmpKeep j).eyes = s.eyes ∧ (s.cmpKeep j).par = s.par ∧
    (s.cmpKeep j).fn = s.fn ∧ (s.cmpKeep j).tab = s.tab ∧ (s.cmpKeep j).pwr = s.pwr ∧ (s.cmpKeep j).thm = s.thm ∧ (s.cmpKeep j).mem = s.mem ∧
    (s.cmpKeep j).nv = s.nv ∧ (s.cmpKeep j).ras = s.ras ∧ (s.cmpKeep j).pipe = s.pipe ∧ (s.cmpKeep j).prk = s.prk ∧ (s.cmpKeep j).apq = s.apq ∧
    (s.cmpKeep j).pnl = s.pnl ∧ (s.cmpKeep j).bob = s.bob ∧ (s.cmpKeep j).sel = s.sel ∧ (s.cmpKeep j).hl = s.hl ∧ (s.cmpKeep j).sec = s.sec ∧
    (s.cmpKeep j).tat = s.tat ∧ (s.cmpKeep j).free = s.free ∧ (s.cmpKeep j).pending = s.pending := by
  unfold State.cmpKeep
  simp

@[simp] theorem State.cmpSpoil_frame (s : State) (a n : Nat) :
    (s.cmpSpoil a n).now = s.now ∧ (s.cmpSpoil a n).boot = s.boot ∧ (s.cmpSpoil a n).vin = s.vin ∧ (s.cmpSpoil a n).win = s.win ∧
    (s.cmpSpoil a n).box = s.box ∧ (s.cmpSpoil a n).evq = s.evq ∧ (s.cmpSpoil a n).log = s.log ∧ (s.cmpSpoil a n).stat = s.stat ∧
    (s.cmpSpoil a n).eyes = s.eyes ∧ (s.cmpSpoil a n).par = s.par ∧ (s.cmpSpoil a n).fn = s.fn ∧ (s.cmpSpoil a n).tab = s.tab ∧
    (s.cmpSpoil a n).pwr = s.pwr ∧ (s.cmpSpoil a n).thm = s.thm ∧ (s.cmpSpoil a n).cmp = s.cmp ∧ (s.cmpSpoil a n).nv = s.nv ∧
    (s.cmpSpoil a n).pipe = s.pipe ∧ (s.cmpSpoil a n).prk = s.prk ∧ (s.cmpSpoil a n).pnl = s.pnl ∧ (s.cmpSpoil a n).bob = s.bob ∧
    (s.cmpSpoil a n).sel = s.sel ∧ (s.cmpSpoil a n).hl = s.hl ∧ (s.cmpSpoil a n).sec = s.sec ∧ (s.cmpSpoil a n).tat = s.tat ∧
    (s.cmpSpoil a n).pending = s.pending ∧ (s.cmpSpoil a n).mem.hoopFill = s.mem.hoopFill := by
  unfold State.cmpSpoil
  simp

@[simp] theorem State.cmpCompress_frame (s : State) (j : CmpJob) :
    (s.cmpCompress j).now = s.now ∧ (s.cmpCompress j).boot = s.boot ∧ (s.cmpCompress j).vin = s.vin ∧ (s.cmpCompress j).eyes = s.eyes ∧
    (s.cmpCompress j).par = s.par ∧ (s.cmpCompress j).fn = s.fn ∧ (s.cmpCompress j).tab = s.tab ∧ (s.cmpCompress j).pwr = s.pwr ∧
    (s.cmpCompress j).thm = s.thm ∧ (s.cmpCompress j).nv = s.nv ∧ (s.cmpCompress j).pipe = s.pipe ∧ (s.cmpCompress j).prk = s.prk ∧
    (s.cmpCompress j).pnl = s.pnl ∧ (s.cmpCompress j).bob = s.bob ∧ (s.cmpCompress j).sel = s.sel ∧ (s.cmpCompress j).hl = s.hl ∧
    (s.cmpCompress j).sec = s.sec ∧ (s.cmpCompress j).tat = s.tat ∧ (s.cmpCompress j).free = s.free ∧ (s.cmpCompress j).pending = s.pending ∧
    (s.cmpCompress j).mem.hoopFill = s.mem.hoopFill := by
  unfold State.cmpCompress
  dsimp only
  repeat' split
  all_goals simp

@[simp] theorem State.cmpDecompress_frame (s : State) (j : CmpJob) :
    (s.cmpDecompress j).now = s.now ∧ (s.cmpDecompress j).boot = s.boot ∧ (s.cmpDecompress j).vin = s.vin ∧ (s.cmpDecompress j).eyes = s.eyes ∧
    (s.cmpDecompress j).par = s.par ∧ (s.cmpDecompress j).fn = s.fn ∧ (s.cmpDecompress j).tab = s.tab ∧ (s.cmpDecompress j).pwr = s.pwr ∧
    (s.cmpDecompress j).thm = s.thm ∧ (s.cmpDecompress j).nv = s.nv ∧ (s.cmpDecompress j).pipe = s.pipe ∧ (s.cmpDecompress j).prk = s.prk ∧
    (s.cmpDecompress j).pnl = s.pnl ∧ (s.cmpDecompress j).bob = s.bob ∧ (s.cmpDecompress j).sel = s.sel ∧ (s.cmpDecompress j).hl = s.hl ∧
    (s.cmpDecompress j).sec = s.sec ∧ (s.cmpDecompress j).tat = s.tat ∧ (s.cmpDecompress j).pending = s.pending ∧
    (s.cmpDecompress j).mem.hoopFill = s.mem.hoopFill := by
  unfold State.cmpDecompress
  dsimp only
  repeat' split
  all_goals simp

@[simp] theorem State.cmpPfw_frame (s : State) :
    s.cmpPfw.now = s.now ∧ s.cmpPfw.boot = s.boot ∧ s.cmpPfw.vin = s.vin ∧ s.cmpPfw.eyes = s.eyes ∧ s.cmpPfw.par = s.par ∧ s.cmpPfw.fn = s.fn ∧
    s.cmpPfw.tab = s.tab ∧ s.cmpPfw.pwr = s.pwr ∧ s.cmpPfw.thm = s.thm ∧ s.cmpPfw.mem = s.mem ∧ s.cmpPfw.nv = s.nv ∧ s.cmpPfw.ras = s.ras ∧
    s.cmpPfw.pipe = s.pipe ∧ s.cmpPfw.prk = s.prk ∧ s.cmpPfw.apq = s.apq ∧ s.cmpPfw.pnl = s.pnl ∧ s.cmpPfw.bob = s.bob ∧ s.cmpPfw.sel = s.sel ∧
    s.cmpPfw.hl = s.hl ∧ s.cmpPfw.sec = s.sec ∧ s.cmpPfw.tat = s.tat ∧ s.cmpPfw.free = s.free ∧ s.cmpPfw.pending = s.pending := by
  unfold State.cmpPfw
  simp

@[simp] theorem State.formatNext_frame (s : State) (bank : Bool) :
    (s.formatNext bank).now = s.now ∧ (s.formatNext bank).boot = s.boot ∧ (s.formatNext bank).vin = s.vin ∧ (s.formatNext bank).win = s.win ∧
    (s.formatNext bank).box = s.box ∧ (s.formatNext bank).evq = s.evq ∧ (s.formatNext bank).log = s.log ∧ (s.formatNext bank).stat = s.stat ∧
    (s.formatNext bank).eyes = s.eyes ∧ (s.formatNext bank).par = s.par ∧ (s.formatNext bank).fn = s.fn ∧ (s.formatNext bank).tab = s.tab ∧
    (s.formatNext bank).pwr = s.pwr ∧ (s.formatNext bank).thm = s.thm ∧ (s.formatNext bank).mem = s.mem ∧ (s.formatNext bank).cmp = s.cmp ∧
    (s.formatNext bank).ras = s.ras ∧ (s.formatNext bank).pipe = s.pipe ∧ (s.formatNext bank).prk = s.prk ∧ (s.formatNext bank).apq = s.apq ∧
    (s.formatNext bank).pnl = s.pnl ∧ (s.formatNext bank).bob = s.bob ∧ (s.formatNext bank).sel = s.sel ∧ (s.formatNext bank).hl = s.hl ∧
    (s.formatNext bank).sec = s.sec ∧ (s.formatNext bank).tat = s.tat ∧ (s.formatNext bank).free = s.free ∧ (s.formatNext bank).pending = s.pending ∧
    (s.formatNext bank).nv.nand = s.nv.nand := by
  unfold State.formatNext
  repeat' split
  all_goals simp

@[simp] theorem State.ensureRoom_frame (s : State) (bank : Bool) :
    (s.ensureRoom bank).now = s.now ∧ (s.ensureRoom bank).boot = s.boot ∧ (s.ensureRoom bank).vin = s.vin ∧ (s.ensureRoom bank).win = s.win ∧
    (s.ensureRoom bank).box = s.box ∧ (s.ensureRoom bank).evq = s.evq ∧ (s.ensureRoom bank).log = s.log ∧ (s.ensureRoom bank).stat = s.stat ∧
    (s.ensureRoom bank).eyes = s.eyes ∧ (s.ensureRoom bank).par = s.par ∧ (s.ensureRoom bank).fn = s.fn ∧ (s.ensureRoom bank).tab = s.tab ∧
    (s.ensureRoom bank).pwr = s.pwr ∧ (s.ensureRoom bank).thm = s.thm ∧ (s.ensureRoom bank).mem = s.mem ∧ (s.ensureRoom bank).cmp = s.cmp ∧
    (s.ensureRoom bank).ras = s.ras ∧ (s.ensureRoom bank).pipe = s.pipe ∧ (s.ensureRoom bank).prk = s.prk ∧ (s.ensureRoom bank).apq = s.apq ∧
    (s.ensureRoom bank).pnl = s.pnl ∧ (s.ensureRoom bank).bob = s.bob ∧ (s.ensureRoom bank).sel = s.sel ∧ (s.ensureRoom bank).hl = s.hl ∧
    (s.ensureRoom bank).sec = s.sec ∧ (s.ensureRoom bank).tat = s.tat ∧ (s.ensureRoom bank).free = s.free ∧ (s.ensureRoom bank).pending = s.pending ∧
    (s.ensureRoom bank).nv.nand = s.nv.nand := by
  unfold State.ensureRoom
  repeat' split
  all_goals simp

@[simp] theorem State.writeCopy_frame (s : State) (bank : Bool) (key seq : Nat) (payload : List Byte) :
    (s.writeCopy bank key seq payload).now = s.now ∧ (s.writeCopy bank key seq payload).boot = s.boot ∧ (s.writeCopy bank key seq payload).vin = s.vin ∧
    (s.writeCopy bank key seq payload).win = s.win ∧ (s.writeCopy bank key seq payload).box = s.box ∧ (s.writeCopy bank key seq payload).evq = s.evq ∧
    (s.writeCopy bank key seq payload).log = s.log ∧ (s.writeCopy bank key seq payload).eyes = s.eyes ∧ (s.writeCopy bank key seq payload).par = s.par ∧
    (s.writeCopy bank key seq payload).fn = s.fn ∧ (s.writeCopy bank key seq payload).tab = s.tab ∧ (s.writeCopy bank key seq payload).pwr = s.pwr ∧
    (s.writeCopy bank key seq payload).thm = s.thm ∧ (s.writeCopy bank key seq payload).mem = s.mem ∧ (s.writeCopy bank key seq payload).cmp = s.cmp ∧
    (s.writeCopy bank key seq payload).ras = s.ras ∧ (s.writeCopy bank key seq payload).pipe = s.pipe ∧ (s.writeCopy bank key seq payload).prk = s.prk ∧
    (s.writeCopy bank key seq payload).apq = s.apq ∧ (s.writeCopy bank key seq payload).pnl = s.pnl ∧ (s.writeCopy bank key seq payload).bob = s.bob ∧
    (s.writeCopy bank key seq payload).sel = s.sel ∧ (s.writeCopy bank key seq payload).hl = s.hl ∧ (s.writeCopy bank key seq payload).sec = s.sec ∧
    (s.writeCopy bank key seq payload).tat = s.tat ∧ (s.writeCopy bank key seq payload).free = s.free ∧
    (s.writeCopy bank key seq payload).pending = s.pending ∧ (s.writeCopy bank key seq payload).nv.nand = s.nv.nand := by
  unfold State.writeCopy
  dsimp only
  repeat' split
  all_goals simp

@[simp] theorem State.recWrite_frame (s : State) (key : Nat) (payload : List Byte) :
    (s.recWrite key payload).now = s.now ∧ (s.recWrite key payload).boot = s.boot ∧ (s.recWrite key payload).vin = s.vin ∧
    (s.recWrite key payload).win = s.win ∧ (s.recWrite key payload).box = s.box ∧ (s.recWrite key payload).evq = s.evq ∧
    (s.recWrite key payload).log = s.log ∧ (s.recWrite key payload).eyes = s.eyes ∧ (s.recWrite key payload).par = s.par ∧
    (s.recWrite key payload).fn = s.fn ∧ (s.recWrite key payload).tab = s.tab ∧ (s.recWrite key payload).pwr = s.pwr ∧ (s.recWrite key payload).thm = s.thm ∧
    (s.recWrite key payload).mem = s.mem ∧ (s.recWrite key payload).cmp = s.cmp ∧ (s.recWrite key payload).ras = s.ras ∧
    (s.recWrite key payload).pipe = s.pipe ∧ (s.recWrite key payload).prk = s.prk ∧ (s.recWrite key payload).apq = s.apq ∧
    (s.recWrite key payload).pnl = s.pnl ∧ (s.recWrite key payload).bob = s.bob ∧ (s.recWrite key payload).sel = s.sel ∧ (s.recWrite key payload).hl = s.hl ∧
    (s.recWrite key payload).sec = s.sec ∧ (s.recWrite key payload).tat = s.tat ∧ (s.recWrite key payload).free = s.free ∧
    (s.recWrite key payload).pending = s.pending ∧ (s.recWrite key payload).nv.nand = s.nv.nand := by
  unfold State.recWrite
  simp

@[simp] theorem State.tornLog_frame (s : State) (bank : Bool) (sector key : Nat) :
    (s.tornLog bank sector key).now = s.now ∧ (s.tornLog bank sector key).boot = s.boot ∧ (s.tornLog bank sector key).vin = s.vin ∧
    (s.tornLog bank sector key).win = s.win ∧ (s.tornLog bank sector key).box = s.box ∧ (s.tornLog bank sector key).evq = s.evq ∧
    (s.tornLog bank sector key).eyes = s.eyes ∧ (s.tornLog bank sector key).par = s.par ∧ (s.tornLog bank sector key).fn = s.fn ∧
    (s.tornLog bank sector key).tab = s.tab ∧ (s.tornLog bank sector key).pwr = s.pwr ∧ (s.tornLog bank sector key).thm = s.thm ∧
    (s.tornLog bank sector key).mem = s.mem ∧ (s.tornLog bank sector key).cmp = s.cmp ∧ (s.tornLog bank sector key).nv = s.nv ∧
    (s.tornLog bank sector key).ras = s.ras ∧ (s.tornLog bank sector key).pipe = s.pipe ∧ (s.tornLog bank sector key).prk = s.prk ∧
    (s.tornLog bank sector key).apq = s.apq ∧ (s.tornLog bank sector key).pnl = s.pnl ∧ (s.tornLog bank sector key).bob = s.bob ∧
    (s.tornLog bank sector key).sel = s.sel ∧ (s.tornLog bank sector key).hl = s.hl ∧ (s.tornLog bank sector key).sec = s.sec ∧
    (s.tornLog bank sector key).tat = s.tat ∧ (s.tornLog bank sector key).free = s.free ∧ (s.tornLog bank sector key).pending = s.pending := by
  unfold State.tornLog
  simp

@[simp] theorem State.settleBank_frame (s : State) (bank : Bool) :
    (s.settleBank bank).now = s.now ∧ (s.settleBank bank).boot = s.boot ∧ (s.settleBank bank).vin = s.vin ∧ (s.settleBank bank).win = s.win ∧
    (s.settleBank bank).box = s.box ∧ (s.settleBank bank).evq = s.evq ∧ (s.settleBank bank).eyes = s.eyes ∧ (s.settleBank bank).par = s.par ∧
    (s.settleBank bank).fn = s.fn ∧ (s.settleBank bank).tab = s.tab ∧ (s.settleBank bank).pwr = s.pwr ∧ (s.settleBank bank).thm = s.thm ∧
    (s.settleBank bank).mem = s.mem ∧ (s.settleBank bank).cmp = s.cmp ∧ (s.settleBank bank).ras = s.ras ∧ (s.settleBank bank).pipe = s.pipe ∧
    (s.settleBank bank).prk = s.prk ∧ (s.settleBank bank).apq = s.apq ∧ (s.settleBank bank).pnl = s.pnl ∧ (s.settleBank bank).bob = s.bob ∧
    (s.settleBank bank).sel = s.sel ∧ (s.settleBank bank).hl = s.hl ∧ (s.settleBank bank).sec = s.sec ∧ (s.settleBank bank).tat = s.tat ∧
    (s.settleBank bank).free = s.free ∧ (s.settleBank bank).pending = s.pending ∧ (s.settleBank bank).nv.nand = s.nv.nand := by
  unfold State.settleBank
  repeat' split
  all_goals simp

@[simp] theorem State.raiseTies_frame (s : State) :
    s.raiseTies.now = s.now ∧ s.raiseTies.boot = s.boot ∧ s.raiseTies.vin = s.vin ∧ s.raiseTies.box = s.box ∧ s.raiseTies.eyes = s.eyes ∧
    s.raiseTies.par = s.par ∧ s.raiseTies.fn = s.fn ∧ s.raiseTies.tab = s.tab ∧ s.raiseTies.pwr = s.pwr ∧ s.raiseTies.thm = s.thm ∧ s.raiseTies.mem = s.mem ∧
    s.raiseTies.cmp = s.cmp ∧ s.raiseTies.ras = s.ras ∧ s.raiseTies.pipe = s.pipe ∧ s.raiseTies.prk = s.prk ∧ s.raiseTies.apq = s.apq ∧
    s.raiseTies.pnl = s.pnl ∧ s.raiseTies.bob = s.bob ∧ s.raiseTies.sel = s.sel ∧ s.raiseTies.hl = s.hl ∧ s.raiseTies.sec = s.sec ∧ s.raiseTies.tat = s.tat ∧
    s.raiseTies.free = s.free ∧ s.raiseTies.pending = s.pending ∧ s.raiseTies.nv.nor = s.nv.nor ∧ s.raiseTies.nv.nand = s.nv.nand := by
  unfold State.raiseTies
  simp

@[simp] theorem State.eraseScheduled_frame (s : State) :
    s.eraseScheduled.now = s.now ∧ s.eraseScheduled.boot = s.boot ∧ s.eraseScheduled.vin = s.vin ∧ s.eraseScheduled.win = s.win ∧
    s.eraseScheduled.box = s.box ∧ s.eraseScheduled.evq = s.evq ∧ s.eraseScheduled.log = s.log ∧ s.eraseScheduled.stat = s.stat ∧
    s.eraseScheduled.eyes = s.eyes ∧ s.eraseScheduled.par = s.par ∧ s.eraseScheduled.fn = s.fn ∧ s.eraseScheduled.tab = s.tab ∧
    s.eraseScheduled.pwr = s.pwr ∧ s.eraseScheduled.thm = s.thm ∧ s.eraseScheduled.mem = s.mem ∧ s.eraseScheduled.cmp = s.cmp ∧
    s.eraseScheduled.ras = s.ras ∧ s.eraseScheduled.pipe = s.pipe ∧ s.eraseScheduled.prk = s.prk ∧ s.eraseScheduled.apq = s.apq ∧
    s.eraseScheduled.pnl = s.pnl ∧ s.eraseScheduled.bob = s.bob ∧ s.eraseScheduled.sel = s.sel ∧ s.eraseScheduled.hl = s.hl ∧ s.eraseScheduled.sec = s.sec ∧
    s.eraseScheduled.tat = s.tat ∧ s.eraseScheduled.free = s.free ∧ s.eraseScheduled.pending = s.pending ∧ s.eraseScheduled.nv.nand = s.nv.nand := by
  unfold State.eraseScheduled
  simp

@[simp] theorem State.scanned_frame (s : State) (bad : List (Bool × Nat)) :
    (s.scanned bad).now = s.now ∧ (s.scanned bad).boot = s.boot ∧ (s.scanned bad).vin = s.vin ∧ (s.scanned bad).box = s.box ∧ (s.scanned bad).eyes = s.eyes ∧
    (s.scanned bad).par = s.par ∧ (s.scanned bad).fn = s.fn ∧ (s.scanned bad).tab = s.tab ∧ (s.scanned bad).pwr = s.pwr ∧ (s.scanned bad).thm = s.thm ∧
    (s.scanned bad).mem = s.mem ∧ (s.scanned bad).cmp = s.cmp ∧ (s.scanned bad).ras = s.ras ∧ (s.scanned bad).pipe = s.pipe ∧ (s.scanned bad).prk = s.prk ∧
    (s.scanned bad).apq = s.apq ∧ (s.scanned bad).pnl = s.pnl ∧ (s.scanned bad).bob = s.bob ∧ (s.scanned bad).sel = s.sel ∧ (s.scanned bad).hl = s.hl ∧
    (s.scanned bad).sec = s.sec ∧ (s.scanned bad).tat = s.tat ∧ (s.scanned bad).free = s.free ∧ (s.scanned bad).pending = s.pending ∧
    (s.scanned bad).nv.nand = s.nv.nand := by
  unfold State.scanned
  simp

@[simp] theorem State.samplerScan_frame (s : State) :
    s.samplerScan.now = s.now ∧ s.samplerScan.boot = s.boot ∧ s.samplerScan.vin = s.vin ∧ s.samplerScan.box = s.box ∧ s.samplerScan.eyes = s.eyes ∧
    s.samplerScan.par = s.par ∧ s.samplerScan.fn = s.fn ∧ s.samplerScan.tab = s.tab ∧ s.samplerScan.pwr = s.pwr ∧ s.samplerScan.thm = s.thm ∧
    s.samplerScan.mem = s.mem ∧ s.samplerScan.cmp = s.cmp ∧ s.samplerScan.ras = s.ras ∧ s.samplerScan.pipe = s.pipe ∧ s.samplerScan.prk = s.prk ∧
    s.samplerScan.apq = s.apq ∧ s.samplerScan.pnl = s.pnl ∧ s.samplerScan.bob = s.bob ∧ s.samplerScan.sel = s.sel ∧ s.samplerScan.hl = s.hl ∧
    s.samplerScan.sec = s.sec ∧ s.samplerScan.tat = s.tat ∧ s.samplerScan.free = s.free ∧ s.samplerScan.pending = s.pending ∧
    s.samplerScan.nv.nand = s.nv.nand := by
  unfold State.samplerScan
  dsimp only
  repeat' split
  all_goals simp

@[simp] theorem State.beginCopy_frame (s : State) (w : NvWrite) :
    (s.beginCopy w).now = s.now ∧ (s.beginCopy w).boot = s.boot ∧ (s.beginCopy w).vin = s.vin ∧ (s.beginCopy w).evq = s.evq ∧ (s.beginCopy w).log = s.log ∧
    (s.beginCopy w).stat = s.stat ∧ (s.beginCopy w).eyes = s.eyes ∧ (s.beginCopy w).par = s.par ∧ (s.beginCopy w).fn = s.fn ∧ (s.beginCopy w).tab = s.tab ∧
    (s.beginCopy w).thm = s.thm ∧ (s.beginCopy w).mem = s.mem ∧ (s.beginCopy w).cmp = s.cmp ∧ (s.beginCopy w).ras = s.ras ∧ (s.beginCopy w).pipe = s.pipe ∧
    (s.beginCopy w).prk = s.prk ∧ (s.beginCopy w).apq = s.apq ∧ (s.beginCopy w).pnl = s.pnl ∧ (s.beginCopy w).bob = s.bob ∧ (s.beginCopy w).sel = s.sel ∧
    (s.beginCopy w).sec = s.sec ∧ (s.beginCopy w).free = s.free ∧ (s.beginCopy w).pending = s.pending ∧ (s.beginCopy w).nv.nand = s.nv.nand := by
  unfold State.beginCopy
  dsimp only
  repeat' split
  all_goals simp

@[simp] theorem State.beginWrite_frame (s : State) (w : NvWrite) :
    (s.beginWrite w).now = s.now ∧ (s.beginWrite w).boot = s.boot ∧ (s.beginWrite w).vin = s.vin ∧ (s.beginWrite w).evq = s.evq ∧
    (s.beginWrite w).log = s.log ∧ (s.beginWrite w).stat = s.stat ∧ (s.beginWrite w).eyes = s.eyes ∧ (s.beginWrite w).par = s.par ∧
    (s.beginWrite w).fn = s.fn ∧ (s.beginWrite w).tab = s.tab ∧ (s.beginWrite w).thm = s.thm ∧ (s.beginWrite w).mem = s.mem ∧ (s.beginWrite w).cmp = s.cmp ∧
    (s.beginWrite w).ras = s.ras ∧ (s.beginWrite w).pipe = s.pipe ∧ (s.beginWrite w).prk = s.prk ∧ (s.beginWrite w).apq = s.apq ∧
    (s.beginWrite w).pnl = s.pnl ∧ (s.beginWrite w).bob = s.bob ∧ (s.beginWrite w).sel = s.sel ∧ (s.beginWrite w).sec = s.sec ∧
    (s.beginWrite w).free = s.free ∧ (s.beginWrite w).pending = s.pending ∧ (s.beginWrite w).nv.nand = s.nv.nand := by
  unfold State.beginWrite
  repeat' split
  all_goals simp

@[simp] theorem State.nextWrite_frame (s : State) :
    s.nextWrite.now = s.now ∧ s.nextWrite.boot = s.boot ∧ s.nextWrite.vin = s.vin ∧ s.nextWrite.evq = s.evq ∧ s.nextWrite.log = s.log ∧
    s.nextWrite.stat = s.stat ∧ s.nextWrite.eyes = s.eyes ∧ s.nextWrite.par = s.par ∧ s.nextWrite.fn = s.fn ∧ s.nextWrite.tab = s.tab ∧
    s.nextWrite.thm = s.thm ∧ s.nextWrite.mem = s.mem ∧ s.nextWrite.cmp = s.cmp ∧ s.nextWrite.ras = s.ras ∧ s.nextWrite.pipe = s.pipe ∧
    s.nextWrite.prk = s.prk ∧ s.nextWrite.apq = s.apq ∧ s.nextWrite.pnl = s.pnl ∧ s.nextWrite.bob = s.bob ∧ s.nextWrite.sel = s.sel ∧
    s.nextWrite.sec = s.sec ∧ s.nextWrite.free = s.free ∧ s.nextWrite.pending = s.pending ∧ s.nextWrite.nv.nand = s.nv.nand := by
  unfold State.nextWrite
  repeat' split
  all_goals simp

@[simp] theorem State.endWrite_frame (s : State) (w : NvWrite) (status : Nat) :
    (s.endWrite w status).now = s.now ∧ (s.endWrite w status).boot = s.boot ∧ (s.endWrite w status).vin = s.vin ∧ (s.endWrite w status).evq = s.evq ∧
    (s.endWrite w status).log = s.log ∧ (s.endWrite w status).stat = s.stat ∧ (s.endWrite w status).eyes = s.eyes ∧ (s.endWrite w status).par = s.par ∧
    (s.endWrite w status).fn = s.fn ∧ (s.endWrite w status).tab = s.tab ∧ (s.endWrite w status).thm = s.thm ∧ (s.endWrite w status).mem = s.mem ∧
    (s.endWrite w status).cmp = s.cmp ∧ (s.endWrite w status).ras = s.ras ∧ (s.endWrite w status).pipe = s.pipe ∧ (s.endWrite w status).prk = s.prk ∧
    (s.endWrite w status).apq = s.apq ∧ (s.endWrite w status).pnl = s.pnl ∧ (s.endWrite w status).bob = s.bob ∧ (s.endWrite w status).sel = s.sel ∧
    (s.endWrite w status).sec = s.sec ∧ (s.endWrite w status).free = s.free ∧ (s.endWrite w status).pending = s.pending ∧
    (s.endWrite w status).nv.nand = s.nv.nand := by
  unfold State.endWrite
  simp

@[simp] theorem State.copyDone_frame (s : State) (w : NvWrite) :
    (s.copyDone w).now = s.now ∧ (s.copyDone w).boot = s.boot ∧ (s.copyDone w).vin = s.vin ∧ (s.copyDone w).evq = s.evq ∧ (s.copyDone w).log = s.log ∧
    (s.copyDone w).eyes = s.eyes ∧ (s.copyDone w).par = s.par ∧ (s.copyDone w).fn = s.fn ∧ (s.copyDone w).tab = s.tab ∧ (s.copyDone w).thm = s.thm ∧
    (s.copyDone w).mem = s.mem ∧ (s.copyDone w).cmp = s.cmp ∧ (s.copyDone w).ras = s.ras ∧ (s.copyDone w).pipe = s.pipe ∧ (s.copyDone w).prk = s.prk ∧
    (s.copyDone w).apq = s.apq ∧ (s.copyDone w).pnl = s.pnl ∧ (s.copyDone w).bob = s.bob ∧ (s.copyDone w).sel = s.sel ∧ (s.copyDone w).sec = s.sec ∧
    (s.copyDone w).free = s.free ∧ (s.copyDone w).pending = s.pending ∧ (s.copyDone w).nv.nand = s.nv.nand := by
  unfold State.copyDone
  repeat' split
  all_goals simp

@[simp] theorem State.copyBad_frame (s : State) (w : NvWrite) :
    (s.copyBad w).now = s.now ∧ (s.copyBad w).boot = s.boot ∧ (s.copyBad w).vin = s.vin ∧ (s.copyBad w).evq = s.evq ∧ (s.copyBad w).eyes = s.eyes ∧
    (s.copyBad w).par = s.par ∧ (s.copyBad w).fn = s.fn ∧ (s.copyBad w).tab = s.tab ∧ (s.copyBad w).thm = s.thm ∧ (s.copyBad w).mem = s.mem ∧
    (s.copyBad w).cmp = s.cmp ∧ (s.copyBad w).ras = s.ras ∧ (s.copyBad w).pipe = s.pipe ∧ (s.copyBad w).prk = s.prk ∧ (s.copyBad w).apq = s.apq ∧
    (s.copyBad w).pnl = s.pnl ∧ (s.copyBad w).bob = s.bob ∧ (s.copyBad w).sel = s.sel ∧ (s.copyBad w).sec = s.sec ∧ (s.copyBad w).free = s.free ∧
    (s.copyBad w).pending = s.pending ∧ (s.copyBad w).nv.nand = s.nv.nand := by
  unfold State.copyBad
  dsimp only
  repeat' split
  all_goals simp

@[simp] theorem State.rawProgram_frame (s : State) (a : Nat) (data : List Byte) :
    (s.rawProgram a data).now = s.now ∧ (s.rawProgram a data).boot = s.boot ∧ (s.rawProgram a data).vin = s.vin ∧ (s.rawProgram a data).win = s.win ∧
    (s.rawProgram a data).box = s.box ∧ (s.rawProgram a data).evq = s.evq ∧ (s.rawProgram a data).log = s.log ∧ (s.rawProgram a data).stat = s.stat ∧
    (s.rawProgram a data).eyes = s.eyes ∧ (s.rawProgram a data).par = s.par ∧ (s.rawProgram a data).fn = s.fn ∧ (s.rawProgram a data).tab = s.tab ∧
    (s.rawProgram a data).pwr = s.pwr ∧ (s.rawProgram a data).thm = s.thm ∧ (s.rawProgram a data).mem = s.mem ∧ (s.rawProgram a data).cmp = s.cmp ∧
    (s.rawProgram a data).ras = s.ras ∧ (s.rawProgram a data).pipe = s.pipe ∧ (s.rawProgram a data).prk = s.prk ∧ (s.rawProgram a data).apq = s.apq ∧
    (s.rawProgram a data).pnl = s.pnl ∧ (s.rawProgram a data).bob = s.bob ∧ (s.rawProgram a data).sel = s.sel ∧ (s.rawProgram a data).hl = s.hl ∧
    (s.rawProgram a data).sec = s.sec ∧ (s.rawProgram a data).tat = s.tat ∧ (s.rawProgram a data).free = s.free ∧ (s.rawProgram a data).pending = s.pending ∧
    (s.rawProgram a data).nv.nand = s.nv.nand := by
  unfold State.rawProgram
  simp

@[simp] theorem State.saveReplaced_frame (s : State) :
    s.saveReplaced.now = s.now ∧ s.saveReplaced.boot = s.boot ∧ s.saveReplaced.vin = s.vin ∧ s.saveReplaced.win = s.win ∧ s.saveReplaced.box = s.box ∧
    s.saveReplaced.evq = s.evq ∧ s.saveReplaced.log = s.log ∧ s.saveReplaced.eyes = s.eyes ∧ s.saveReplaced.par = s.par ∧ s.saveReplaced.fn = s.fn ∧
    s.saveReplaced.tab = s.tab ∧ s.saveReplaced.pwr = s.pwr ∧ s.saveReplaced.thm = s.thm ∧ s.saveReplaced.mem = s.mem ∧ s.saveReplaced.cmp = s.cmp ∧
    s.saveReplaced.ras = s.ras ∧ s.saveReplaced.pipe = s.pipe ∧ s.saveReplaced.prk = s.prk ∧ s.saveReplaced.apq = s.apq ∧ s.saveReplaced.pnl = s.pnl ∧
    s.saveReplaced.bob = s.bob ∧ s.saveReplaced.sel = s.sel ∧ s.saveReplaced.hl = s.hl ∧ s.saveReplaced.sec = s.sec ∧ s.saveReplaced.tat = s.tat ∧
    s.saveReplaced.free = s.free ∧ s.saveReplaced.pending = s.pending ∧ s.saveReplaced.nv.nand = s.nv.nand := by
  unfold State.saveReplaced
  simp

@[simp] theorem State.replaceBlock_frame (s : State) (b : Nat) :
    (s.replaceBlock b).now = s.now ∧ (s.replaceBlock b).boot = s.boot ∧ (s.replaceBlock b).vin = s.vin ∧ (s.replaceBlock b).win = s.win ∧
    (s.replaceBlock b).box = s.box ∧ (s.replaceBlock b).evq = s.evq ∧ (s.replaceBlock b).log = s.log ∧ (s.replaceBlock b).eyes = s.eyes ∧
    (s.replaceBlock b).par = s.par ∧ (s.replaceBlock b).fn = s.fn ∧ (s.replaceBlock b).tab = s.tab ∧ (s.replaceBlock b).pwr = s.pwr ∧
    (s.replaceBlock b).thm = s.thm ∧ (s.replaceBlock b).mem = s.mem ∧ (s.replaceBlock b).cmp = s.cmp ∧ (s.replaceBlock b).ras = s.ras ∧
    (s.replaceBlock b).pipe = s.pipe ∧ (s.replaceBlock b).prk = s.prk ∧ (s.replaceBlock b).apq = s.apq ∧ (s.replaceBlock b).pnl = s.pnl ∧
    (s.replaceBlock b).bob = s.bob ∧ (s.replaceBlock b).sel = s.sel ∧ (s.replaceBlock b).hl = s.hl ∧ (s.replaceBlock b).sec = s.sec ∧
    (s.replaceBlock b).tat = s.tat ∧ (s.replaceBlock b).free = s.free ∧ (s.replaceBlock b).pending = s.pending ∧ (s.replaceBlock b).nv.nand = s.nv.nand := by
  unfold State.replaceBlock
  dsimp only
  repeat' split
  all_goals simp

@[simp] theorem State.badBlock_frame (s : State) (b : Nat) :
    (s.badBlock b).now = s.now ∧ (s.badBlock b).boot = s.boot ∧ (s.badBlock b).vin = s.vin ∧ (s.badBlock b).win = s.win ∧ (s.badBlock b).box = s.box ∧
    (s.badBlock b).evq = s.evq ∧ (s.badBlock b).eyes = s.eyes ∧ (s.badBlock b).par = s.par ∧ (s.badBlock b).fn = s.fn ∧ (s.badBlock b).tab = s.tab ∧
    (s.badBlock b).pwr = s.pwr ∧ (s.badBlock b).thm = s.thm ∧ (s.badBlock b).mem = s.mem ∧ (s.badBlock b).cmp = s.cmp ∧ (s.badBlock b).ras = s.ras ∧
    (s.badBlock b).pipe = s.pipe ∧ (s.badBlock b).prk = s.prk ∧ (s.badBlock b).apq = s.apq ∧ (s.badBlock b).pnl = s.pnl ∧ (s.badBlock b).bob = s.bob ∧
    (s.badBlock b).sel = s.sel ∧ (s.badBlock b).hl = s.hl ∧ (s.badBlock b).sec = s.sec ∧ (s.badBlock b).tat = s.tat ∧ (s.badBlock b).free = s.free ∧
    (s.badBlock b).pending = s.pending ∧ (s.badBlock b).nv.nand = s.nv.nand := by
  unfold State.badBlock
  repeat' split
  all_goals (try simp)
  all_goals (repeat' split)
  all_goals (try simp_all)

@[simp] theorem State.dirCommit_frame (s : State) (e : DirEntry) :
    (s.dirCommit e).now = s.now ∧ (s.dirCommit e).boot = s.boot ∧ (s.dirCommit e).vin = s.vin ∧ (s.dirCommit e).win = s.win ∧ (s.dirCommit e).box = s.box ∧
    (s.dirCommit e).evq = s.evq ∧ (s.dirCommit e).log = s.log ∧ (s.dirCommit e).eyes = s.eyes ∧ (s.dirCommit e).par = s.par ∧ (s.dirCommit e).fn = s.fn ∧
    (s.dirCommit e).tab = s.tab ∧ (s.dirCommit e).pwr = s.pwr ∧ (s.dirCommit e).thm = s.thm ∧ (s.dirCommit e).mem = s.mem ∧ (s.dirCommit e).cmp = s.cmp ∧
    (s.dirCommit e).ras = s.ras ∧ (s.dirCommit e).pipe = s.pipe ∧ (s.dirCommit e).prk = s.prk ∧ (s.dirCommit e).apq = s.apq ∧ (s.dirCommit e).pnl = s.pnl ∧
    (s.dirCommit e).bob = s.bob ∧ (s.dirCommit e).sel = s.sel ∧ (s.dirCommit e).hl = s.hl ∧ (s.dirCommit e).sec = s.sec ∧ (s.dirCommit e).tat = s.tat ∧
    (s.dirCommit e).free = s.free ∧ (s.dirCommit e).pending = s.pending ∧ (s.dirCommit e).nv.nand = s.nv.nand := by
  unfold State.dirCommit
  simp

@[simp] theorem State.takeGen_frame (s : State) :
    s.takeGen.2.now = s.now ∧ s.takeGen.2.boot = s.boot ∧ s.takeGen.2.vin = s.vin ∧ s.takeGen.2.win = s.win ∧ s.takeGen.2.box = s.box ∧
    s.takeGen.2.evq = s.evq ∧ s.takeGen.2.log = s.log ∧ s.takeGen.2.eyes = s.eyes ∧ s.takeGen.2.par = s.par ∧ s.takeGen.2.fn = s.fn ∧
    s.takeGen.2.tab = s.tab ∧ s.takeGen.2.pwr = s.pwr ∧ s.takeGen.2.thm = s.thm ∧ s.takeGen.2.mem = s.mem ∧ s.takeGen.2.cmp = s.cmp ∧
    s.takeGen.2.ras = s.ras ∧ s.takeGen.2.pipe = s.pipe ∧ s.takeGen.2.prk = s.prk ∧ s.takeGen.2.apq = s.apq ∧ s.takeGen.2.pnl = s.pnl ∧
    s.takeGen.2.bob = s.bob ∧ s.takeGen.2.sel = s.sel ∧ s.takeGen.2.hl = s.hl ∧ s.takeGen.2.sec = s.sec ∧ s.takeGen.2.tat = s.tat ∧
    s.takeGen.2.free = s.free ∧ s.takeGen.2.pending = s.pending ∧ s.takeGen.2.nv.nand = s.nv.nand := by
  unfold State.takeGen
  dsimp only
  repeat' split
  all_goals simp

@[simp] theorem State.writeRun_frame (s : State) (first : Nat) (bytes : List Byte) :
    (s.writeRun first bytes).now = s.now ∧ (s.writeRun first bytes).boot = s.boot ∧ (s.writeRun first bytes).vin = s.vin ∧
    (s.writeRun first bytes).win = s.win ∧ (s.writeRun first bytes).box = s.box ∧ (s.writeRun first bytes).evq = s.evq ∧
    (s.writeRun first bytes).log = s.log ∧ (s.writeRun first bytes).stat = s.stat ∧ (s.writeRun first bytes).eyes = s.eyes ∧
    (s.writeRun first bytes).par = s.par ∧ (s.writeRun first bytes).fn = s.fn ∧ (s.writeRun first bytes).tab = s.tab ∧ (s.writeRun first bytes).pwr = s.pwr ∧
    (s.writeRun first bytes).thm = s.thm ∧ (s.writeRun first bytes).mem = s.mem ∧ (s.writeRun first bytes).cmp = s.cmp ∧
    (s.writeRun first bytes).ras = s.ras ∧ (s.writeRun first bytes).pipe = s.pipe ∧ (s.writeRun first bytes).prk = s.prk ∧
    (s.writeRun first bytes).apq = s.apq ∧ (s.writeRun first bytes).pnl = s.pnl ∧ (s.writeRun first bytes).bob = s.bob ∧
    (s.writeRun first bytes).sel = s.sel ∧ (s.writeRun first bytes).hl = s.hl ∧ (s.writeRun first bytes).sec = s.sec ∧ (s.writeRun first bytes).tat = s.tat ∧
    (s.writeRun first bytes).free = s.free ∧ (s.writeRun first bytes).pending = s.pending ∧ (s.writeRun first bytes).nv.nor = s.nv.nor := by
  unfold State.writeRun
  simp

@[simp] theorem State.nandStore_frame (s : State) (o gen level : Nat) (x : IndexExtra) (data : List Byte) :
    (s.nandStore o gen level x data).1.now = s.now ∧ (s.nandStore o gen level x data).1.boot = s.boot ∧ (s.nandStore o gen level x data).1.vin = s.vin ∧
    (s.nandStore o gen level x data).1.win = s.win ∧ (s.nandStore o gen level x data).1.box = s.box ∧ (s.nandStore o gen level x data).1.evq = s.evq ∧
    (s.nandStore o gen level x data).1.eyes = s.eyes ∧ (s.nandStore o gen level x data).1.par = s.par ∧ (s.nandStore o gen level x data).1.fn = s.fn ∧
    (s.nandStore o gen level x data).1.tab = s.tab ∧ (s.nandStore o gen level x data).1.pwr = s.pwr ∧ (s.nandStore o gen level x data).1.thm = s.thm ∧
    (s.nandStore o gen level x data).1.mem = s.mem ∧ (s.nandStore o gen level x data).1.ras = s.ras ∧ (s.nandStore o gen level x data).1.pipe = s.pipe ∧
    (s.nandStore o gen level x data).1.prk = s.prk ∧ (s.nandStore o gen level x data).1.apq = s.apq ∧ (s.nandStore o gen level x data).1.pnl = s.pnl ∧
    (s.nandStore o gen level x data).1.bob = s.bob ∧ (s.nandStore o gen level x data).1.sel = s.sel ∧ (s.nandStore o gen level x data).1.hl = s.hl ∧
    (s.nandStore o gen level x data).1.sec = s.sec ∧ (s.nandStore o gen level x data).1.tat = s.tat ∧ (s.nandStore o gen level x data).1.free = s.free ∧
    (s.nandStore o gen level x data).1.pending = s.pending := by
  unfold State.nandStore
  dsimp only
  repeat' split
  all_goals simp

@[simp] theorem State.storeFailed_frame (s : State) (o : Nat) :
    (s.storeFailed o).now = s.now ∧ (s.storeFailed o).boot = s.boot ∧ (s.storeFailed o).vin = s.vin ∧ (s.storeFailed o).win = s.win ∧
    (s.storeFailed o).box = s.box ∧ (s.storeFailed o).evq = s.evq ∧ (s.storeFailed o).eyes = s.eyes ∧ (s.storeFailed o).par = s.par ∧
    (s.storeFailed o).fn = s.fn ∧ (s.storeFailed o).tab = s.tab ∧ (s.storeFailed o).pwr = s.pwr ∧ (s.storeFailed o).thm = s.thm ∧
    (s.storeFailed o).mem = s.mem ∧ (s.storeFailed o).cmp = s.cmp ∧ (s.storeFailed o).nv = s.nv ∧ (s.storeFailed o).ras = s.ras ∧
    (s.storeFailed o).pipe = s.pipe ∧ (s.storeFailed o).prk = s.prk ∧ (s.storeFailed o).apq = s.apq ∧ (s.storeFailed o).pnl = s.pnl ∧
    (s.storeFailed o).bob = s.bob ∧ (s.storeFailed o).sel = s.sel ∧ (s.storeFailed o).hl = s.hl ∧ (s.storeFailed o).sec = s.sec ∧
    (s.storeFailed o).tat = s.tat ∧ (s.storeFailed o).free = s.free ∧ (s.storeFailed o).pending = s.pending := by
  unfold State.storeFailed
  simp

@[simp] theorem State.loadJob_frame (s : State) (o : Nat) :
    (s.loadJob o).now = s.now ∧ (s.loadJob o).boot = s.boot ∧ (s.loadJob o).vin = s.vin ∧ (s.loadJob o).win = s.win ∧ (s.loadJob o).box = s.box ∧
    (s.loadJob o).evq = s.evq ∧ (s.loadJob o).log = s.log ∧ (s.loadJob o).eyes = s.eyes ∧ (s.loadJob o).par = s.par ∧ (s.loadJob o).fn = s.fn ∧
    (s.loadJob o).tab = s.tab ∧ (s.loadJob o).pwr = s.pwr ∧ (s.loadJob o).thm = s.thm ∧ (s.loadJob o).mem = s.mem ∧ (s.loadJob o).nv = s.nv ∧
    (s.loadJob o).ras = s.ras ∧ (s.loadJob o).pipe = s.pipe ∧ (s.loadJob o).prk = s.prk ∧ (s.loadJob o).apq = s.apq ∧ (s.loadJob o).pnl = s.pnl ∧
    (s.loadJob o).bob = s.bob ∧ (s.loadJob o).sel = s.sel ∧ (s.loadJob o).hl = s.hl ∧ (s.loadJob o).sec = s.sec ∧ (s.loadJob o).tat = s.tat ∧
    (s.loadJob o).free = s.free ∧ (s.loadJob o).pending = s.pending := by
  unfold State.loadJob
  repeat' split
  all_goals simp

@[simp] theorem State.queueStore_frame (s : State) (o : Nat) (planeGen : Nat) (data : List Byte) :
    (s.queueStore o planeGen data).now = s.now ∧ (s.queueStore o planeGen data).boot = s.boot ∧ (s.queueStore o planeGen data).vin = s.vin ∧
    (s.queueStore o planeGen data).win = s.win ∧ (s.queueStore o planeGen data).box = s.box ∧ (s.queueStore o planeGen data).evq = s.evq ∧
    (s.queueStore o planeGen data).log = s.log ∧ (s.queueStore o planeGen data).eyes = s.eyes ∧ (s.queueStore o planeGen data).par = s.par ∧
    (s.queueStore o planeGen data).fn = s.fn ∧ (s.queueStore o planeGen data).tab = s.tab ∧ (s.queueStore o planeGen data).pwr = s.pwr ∧
    (s.queueStore o planeGen data).thm = s.thm ∧ (s.queueStore o planeGen data).mem = s.mem ∧ (s.queueStore o planeGen data).cmp = s.cmp ∧
    (s.queueStore o planeGen data).ras = s.ras ∧ (s.queueStore o planeGen data).pipe = s.pipe ∧ (s.queueStore o planeGen data).prk = s.prk ∧
    (s.queueStore o planeGen data).apq = s.apq ∧ (s.queueStore o planeGen data).pnl = s.pnl ∧ (s.queueStore o planeGen data).bob = s.bob ∧
    (s.queueStore o planeGen data).sel = s.sel ∧ (s.queueStore o planeGen data).hl = s.hl ∧ (s.queueStore o planeGen data).sec = s.sec ∧
    (s.queueStore o planeGen data).tat = s.tat ∧ (s.queueStore o planeGen data).free = s.free ∧ (s.queueStore o planeGen data).pending = s.pending ∧
    (s.queueStore o planeGen data).nv.nand = s.nv.nand := by
  unfold State.queueStore
  simp

@[simp] theorem State.endStore_frame (s : State) (o : Nat) (failed : Bool) :
    (s.endStore o failed).1.now = s.now ∧ (s.endStore o failed).1.boot = s.boot ∧ (s.endStore o failed).1.vin = s.vin ∧ (s.endStore o failed).1.win = s.win ∧
    (s.endStore o failed).1.box = s.box ∧ (s.endStore o failed).1.evq = s.evq ∧ (s.endStore o failed).1.eyes = s.eyes ∧ (s.endStore o failed).1.par = s.par ∧
    (s.endStore o failed).1.fn = s.fn ∧ (s.endStore o failed).1.tab = s.tab ∧ (s.endStore o failed).1.pwr = s.pwr ∧ (s.endStore o failed).1.thm = s.thm ∧
    (s.endStore o failed).1.mem = s.mem ∧ (s.endStore o failed).1.ras = s.ras ∧ (s.endStore o failed).1.pipe = s.pipe ∧ (s.endStore o failed).1.prk = s.prk ∧
    (s.endStore o failed).1.apq = s.apq ∧ (s.endStore o failed).1.pnl = s.pnl ∧ (s.endStore o failed).1.bob = s.bob ∧ (s.endStore o failed).1.sel = s.sel ∧
    (s.endStore o failed).1.hl = s.hl ∧ (s.endStore o failed).1.sec = s.sec ∧ (s.endStore o failed).1.tat = s.tat ∧ (s.endStore o failed).1.free = s.free ∧
    (s.endStore o failed).1.pending = s.pending := by
  unfold State.endStore
  repeat' split
  all_goals simp

@[simp] theorem State.saveAlwaysOn_frame (s : State) (cause : Nat) :
    (s.saveAlwaysOn cause).now = s.now ∧ (s.saveAlwaysOn cause).boot = s.boot ∧ (s.saveAlwaysOn cause).vin = s.vin ∧ (s.saveAlwaysOn cause).win = s.win ∧
    (s.saveAlwaysOn cause).box = s.box ∧ (s.saveAlwaysOn cause).evq = s.evq ∧ (s.saveAlwaysOn cause).log = s.log ∧ (s.saveAlwaysOn cause).eyes = s.eyes ∧
    (s.saveAlwaysOn cause).par = s.par ∧ (s.saveAlwaysOn cause).fn = s.fn ∧ (s.saveAlwaysOn cause).tab = s.tab ∧ (s.saveAlwaysOn cause).pwr = s.pwr ∧
    (s.saveAlwaysOn cause).thm = s.thm ∧ (s.saveAlwaysOn cause).mem = s.mem ∧ (s.saveAlwaysOn cause).cmp = s.cmp ∧ (s.saveAlwaysOn cause).ras = s.ras ∧
    (s.saveAlwaysOn cause).pipe = s.pipe ∧ (s.saveAlwaysOn cause).prk = s.prk ∧ (s.saveAlwaysOn cause).apq = s.apq ∧ (s.saveAlwaysOn cause).pnl = s.pnl ∧
    (s.saveAlwaysOn cause).bob = s.bob ∧ (s.saveAlwaysOn cause).sel = s.sel ∧ (s.saveAlwaysOn cause).hl = s.hl ∧ (s.saveAlwaysOn cause).sec = s.sec ∧
    (s.saveAlwaysOn cause).tat = s.tat ∧ (s.saveAlwaysOn cause).free = s.free ∧ (s.saveAlwaysOn cause).pending = s.pending ∧
    (s.saveAlwaysOn cause).nv.nand = s.nv.nand := by
  unfold State.saveAlwaysOn
  simp

@[simp] theorem State.loadAlwaysOn_frame (s : State) :
    s.loadAlwaysOn.now = s.now ∧ s.loadAlwaysOn.boot = s.boot ∧ s.loadAlwaysOn.vin = s.vin ∧ s.loadAlwaysOn.win = s.win ∧ s.loadAlwaysOn.box = s.box ∧
    s.loadAlwaysOn.evq = s.evq ∧ s.loadAlwaysOn.log = s.log ∧ s.loadAlwaysOn.stat = s.stat ∧ s.loadAlwaysOn.eyes = s.eyes ∧ s.loadAlwaysOn.par = s.par ∧
    s.loadAlwaysOn.fn = s.fn ∧ s.loadAlwaysOn.tab = s.tab ∧ s.loadAlwaysOn.pwr = s.pwr ∧ s.loadAlwaysOn.thm = s.thm ∧ s.loadAlwaysOn.mem = s.mem ∧
    s.loadAlwaysOn.cmp = s.cmp ∧ s.loadAlwaysOn.ras = s.ras ∧ s.loadAlwaysOn.pipe = s.pipe ∧ s.loadAlwaysOn.prk = s.prk ∧ s.loadAlwaysOn.apq = s.apq ∧
    s.loadAlwaysOn.pnl = s.pnl ∧ s.loadAlwaysOn.bob = s.bob ∧ s.loadAlwaysOn.sel = s.sel ∧ s.loadAlwaysOn.hl = s.hl ∧ s.loadAlwaysOn.sec = s.sec ∧
    s.loadAlwaysOn.tat = s.tat ∧ s.loadAlwaysOn.free = s.free ∧ s.loadAlwaysOn.pending = s.pending ∧ s.loadAlwaysOn.nv.nor = s.nv.nor ∧
    s.loadAlwaysOn.nv.nand = s.nv.nand := by
  unfold State.loadAlwaysOn
  simp

@[simp] theorem State.replaceFactory_frame (s : State) :
    s.replaceFactory.now = s.now ∧ s.replaceFactory.boot = s.boot ∧ s.replaceFactory.vin = s.vin ∧ s.replaceFactory.win = s.win ∧
    s.replaceFactory.box = s.box ∧ s.replaceFactory.evq = s.evq ∧ s.replaceFactory.log = s.log ∧ s.replaceFactory.eyes = s.eyes ∧
    s.replaceFactory.par = s.par ∧ s.replaceFactory.fn = s.fn ∧ s.replaceFactory.tab = s.tab ∧ s.replaceFactory.pwr = s.pwr ∧ s.replaceFactory.thm = s.thm ∧
    s.replaceFactory.mem = s.mem ∧ s.replaceFactory.cmp = s.cmp ∧ s.replaceFactory.ras = s.ras ∧ s.replaceFactory.pipe = s.pipe ∧
    s.replaceFactory.prk = s.prk ∧ s.replaceFactory.apq = s.apq ∧ s.replaceFactory.pnl = s.pnl ∧ s.replaceFactory.bob = s.bob ∧
    s.replaceFactory.sel = s.sel ∧ s.replaceFactory.hl = s.hl ∧ s.replaceFactory.sec = s.sec ∧ s.replaceFactory.tat = s.tat ∧
    s.replaceFactory.free = s.free ∧ s.replaceFactory.pending = s.pending ∧ s.replaceFactory.nv.nand = s.nv.nand := by
  unfold State.replaceFactory
  simp

@[simp] theorem State.nvPfw_frame (s : State) :
    s.nvPfw.now = s.now ∧ s.nvPfw.boot = s.boot ∧ s.nvPfw.vin = s.vin ∧ s.nvPfw.evq = s.evq ∧ s.nvPfw.log = s.log ∧ s.nvPfw.eyes = s.eyes ∧
    s.nvPfw.par = s.par ∧ s.nvPfw.fn = s.fn ∧ s.nvPfw.tab = s.tab ∧ s.nvPfw.thm = s.thm ∧ s.nvPfw.mem = s.mem ∧ s.nvPfw.cmp = s.cmp ∧ s.nvPfw.ras = s.ras ∧
    s.nvPfw.pipe = s.pipe ∧ s.nvPfw.prk = s.prk ∧ s.nvPfw.apq = s.apq ∧ s.nvPfw.pnl = s.pnl ∧ s.nvPfw.bob = s.bob ∧ s.nvPfw.sel = s.sel ∧
    s.nvPfw.sec = s.sec ∧ s.nvPfw.free = s.free ∧ s.nvPfw.pending = s.pending ∧ s.nvPfw.nv.nand = s.nv.nand := by
  unfold State.nvPfw
  repeat' split
  all_goals simp

@[simp] theorem State.sessionEndEvent_frame (s : State) (cause id : Nat) :
    (s.sessionEndEvent cause id).now = s.now ∧ (s.sessionEndEvent cause id).boot = s.boot ∧ (s.sessionEndEvent cause id).vin = s.vin ∧
    (s.sessionEndEvent cause id).box = s.box ∧ (s.sessionEndEvent cause id).eyes = s.eyes ∧ (s.sessionEndEvent cause id).par = s.par ∧
    (s.sessionEndEvent cause id).fn = s.fn ∧ (s.sessionEndEvent cause id).tab = s.tab ∧ (s.sessionEndEvent cause id).pwr = s.pwr ∧
    (s.sessionEndEvent cause id).thm = s.thm ∧ (s.sessionEndEvent cause id).mem = s.mem ∧ (s.sessionEndEvent cause id).cmp = s.cmp ∧
    (s.sessionEndEvent cause id).nv = s.nv ∧ (s.sessionEndEvent cause id).ras = s.ras ∧ (s.sessionEndEvent cause id).pipe = s.pipe ∧
    (s.sessionEndEvent cause id).prk = s.prk ∧ (s.sessionEndEvent cause id).apq = s.apq ∧ (s.sessionEndEvent cause id).pnl = s.pnl ∧
    (s.sessionEndEvent cause id).bob = s.bob ∧ (s.sessionEndEvent cause id).sel = s.sel ∧ (s.sessionEndEvent cause id).hl = s.hl ∧
    (s.sessionEndEvent cause id).sec = s.sec ∧ (s.sessionEndEvent cause id).tat = s.tat ∧ (s.sessionEndEvent cause id).free = s.free ∧
    (s.sessionEndEvent cause id).pending = s.pending := by
  unfold State.sessionEndEvent
  simp

@[simp] theorem State.endSessions_frame (s : State) (cause : Nat) (at_ : EndWhen) :
    (s.endSessions cause at_).now = s.now ∧ (s.endSessions cause at_).boot = s.boot ∧ (s.endSessions cause at_).vin = s.vin ∧
    (s.endSessions cause at_).box = s.box ∧ (s.endSessions cause at_).eyes = s.eyes ∧ (s.endSessions cause at_).par = s.par ∧
    (s.endSessions cause at_).fn = s.fn ∧ (s.endSessions cause at_).tab = s.tab ∧ (s.endSessions cause at_).pwr = s.pwr ∧
    (s.endSessions cause at_).thm = s.thm ∧ (s.endSessions cause at_).mem = s.mem ∧ (s.endSessions cause at_).cmp = s.cmp ∧
    (s.endSessions cause at_).nv = s.nv ∧ (s.endSessions cause at_).ras = s.ras ∧ (s.endSessions cause at_).pipe = s.pipe ∧
    (s.endSessions cause at_).prk = s.prk ∧ (s.endSessions cause at_).apq = s.apq ∧ (s.endSessions cause at_).pnl = s.pnl ∧
    (s.endSessions cause at_).bob = s.bob ∧ (s.endSessions cause at_).sel = s.sel ∧ (s.endSessions cause at_).hl = s.hl ∧
    (s.endSessions cause at_).tat = s.tat ∧ (s.endSessions cause at_).free = s.free ∧ (s.endSessions cause at_).pending = s.pending := by
  unfold State.endSessions
  repeat' split
  all_goals simp

@[simp] theorem State.raiseEndEvents_frame (s : State) (atProfile : Bool) :
    (s.raiseEndEvents atProfile).now = s.now ∧ (s.raiseEndEvents atProfile).boot = s.boot ∧ (s.raiseEndEvents atProfile).vin = s.vin ∧
    (s.raiseEndEvents atProfile).box = s.box ∧ (s.raiseEndEvents atProfile).eyes = s.eyes ∧ (s.raiseEndEvents atProfile).par = s.par ∧
    (s.raiseEndEvents atProfile).fn = s.fn ∧ (s.raiseEndEvents atProfile).tab = s.tab ∧ (s.raiseEndEvents atProfile).pwr = s.pwr ∧
    (s.raiseEndEvents atProfile).thm = s.thm ∧ (s.raiseEndEvents atProfile).mem = s.mem ∧ (s.raiseEndEvents atProfile).cmp = s.cmp ∧
    (s.raiseEndEvents atProfile).nv = s.nv ∧ (s.raiseEndEvents atProfile).ras = s.ras ∧ (s.raiseEndEvents atProfile).pipe = s.pipe ∧
    (s.raiseEndEvents atProfile).prk = s.prk ∧ (s.raiseEndEvents atProfile).apq = s.apq ∧ (s.raiseEndEvents atProfile).pnl = s.pnl ∧
    (s.raiseEndEvents atProfile).bob = s.bob ∧ (s.raiseEndEvents atProfile).sel = s.sel ∧ (s.raiseEndEvents atProfile).hl = s.hl ∧
    (s.raiseEndEvents atProfile).tat = s.tat ∧ (s.raiseEndEvents atProfile).free = s.free ∧ (s.raiseEndEvents atProfile).pending = s.pending := by
  unfold State.raiseEndEvents
  simp

@[simp] theorem State.endSpace_frame (s : State) (src : Word) :
    (s.endSpace src).now = s.now ∧ (s.endSpace src).boot = s.boot ∧ (s.endSpace src).vin = s.vin ∧ (s.endSpace src).box = s.box ∧
    (s.endSpace src).eyes = s.eyes ∧ (s.endSpace src).par = s.par ∧ (s.endSpace src).fn = s.fn ∧ (s.endSpace src).tab = s.tab ∧
    (s.endSpace src).pwr = s.pwr ∧ (s.endSpace src).thm = s.thm ∧ (s.endSpace src).mem = s.mem ∧ (s.endSpace src).cmp = s.cmp ∧ (s.endSpace src).nv = s.nv ∧
    (s.endSpace src).ras = s.ras ∧ (s.endSpace src).pipe = s.pipe ∧ (s.endSpace src).prk = s.prk ∧ (s.endSpace src).apq = s.apq ∧
    (s.endSpace src).pnl = s.pnl ∧ (s.endSpace src).bob = s.bob ∧ (s.endSpace src).sel = s.sel ∧ (s.endSpace src).hl = s.hl ∧ (s.endSpace src).tat = s.tat ∧
    (s.endSpace src).free = s.free ∧ (s.endSpace src).pending = s.pending := by
  unfold State.endSpace
  simp

@[simp] theorem State.sendHandshake_frame (s : State) (path : Option Mb) (msg : List Byte) :
    (s.sendHandshake path msg).now = s.now ∧ (s.sendHandshake path msg).boot = s.boot ∧ (s.sendHandshake path msg).vin = s.vin ∧
    (s.sendHandshake path msg).evq = s.evq ∧ (s.sendHandshake path msg).log = s.log ∧ (s.sendHandshake path msg).stat = s.stat ∧
    (s.sendHandshake path msg).eyes = s.eyes ∧ (s.sendHandshake path msg).par = s.par ∧ (s.sendHandshake path msg).fn = s.fn ∧
    (s.sendHandshake path msg).tab = s.tab ∧ (s.sendHandshake path msg).thm = s.thm ∧ (s.sendHandshake path msg).mem = s.mem ∧
    (s.sendHandshake path msg).cmp = s.cmp ∧ (s.sendHandshake path msg).nv = s.nv ∧ (s.sendHandshake path msg).ras = s.ras ∧
    (s.sendHandshake path msg).pipe = s.pipe ∧ (s.sendHandshake path msg).prk = s.prk ∧ (s.sendHandshake path msg).apq = s.apq ∧
    (s.sendHandshake path msg).pnl = s.pnl ∧ (s.sendHandshake path msg).bob = s.bob ∧ (s.sendHandshake path msg).sel = s.sel ∧
    (s.sendHandshake path msg).sec = s.sec ∧ (s.sendHandshake path msg).free = s.free ∧ (s.sendHandshake path msg).pending = s.pending := by
  unfold State.sendHandshake
  repeat' split
  all_goals simp

@[simp] theorem State.dropHandshake_frame (s : State) :
    s.dropHandshake.now = s.now ∧ s.dropHandshake.boot = s.boot ∧ s.dropHandshake.vin = s.vin ∧ s.dropHandshake.evq = s.evq ∧ s.dropHandshake.log = s.log ∧
    s.dropHandshake.stat = s.stat ∧ s.dropHandshake.eyes = s.eyes ∧ s.dropHandshake.par = s.par ∧ s.dropHandshake.fn = s.fn ∧ s.dropHandshake.tab = s.tab ∧
    s.dropHandshake.thm = s.thm ∧ s.dropHandshake.mem = s.mem ∧ s.dropHandshake.cmp = s.cmp ∧ s.dropHandshake.nv = s.nv ∧ s.dropHandshake.ras = s.ras ∧
    s.dropHandshake.pipe = s.pipe ∧ s.dropHandshake.prk = s.prk ∧ s.dropHandshake.apq = s.apq ∧ s.dropHandshake.pnl = s.pnl ∧ s.dropHandshake.bob = s.bob ∧
    s.dropHandshake.sel = s.sel ∧ s.dropHandshake.free = s.free ∧ s.dropHandshake.pending = s.pending := by
  unfold State.dropHandshake
  repeat' split
  all_goals simp

@[simp] theorem State.helloIn_frame (s : State) (path : Option Mb) (m : List Byte) :
    (s.helloIn path m).now = s.now ∧ (s.helloIn path m).boot = s.boot ∧ (s.helloIn path m).vin = s.vin ∧ (s.helloIn path m).evq = s.evq ∧
    (s.helloIn path m).log = s.log ∧ (s.helloIn path m).stat = s.stat ∧ (s.helloIn path m).eyes = s.eyes ∧ (s.helloIn path m).par = s.par ∧
    (s.helloIn path m).fn = s.fn ∧ (s.helloIn path m).tab = s.tab ∧ (s.helloIn path m).thm = s.thm ∧ (s.helloIn path m).mem = s.mem ∧
    (s.helloIn path m).cmp = s.cmp ∧ (s.helloIn path m).nv = s.nv ∧ (s.helloIn path m).ras = s.ras ∧ (s.helloIn path m).pipe = s.pipe ∧
    (s.helloIn path m).prk = s.prk ∧ (s.helloIn path m).apq = s.apq ∧ (s.helloIn path m).pnl = s.pnl ∧ (s.helloIn path m).bob = s.bob ∧
    (s.helloIn path m).sel = s.sel ∧ (s.helloIn path m).pending = s.pending := by
  unfold State.helloIn
  simp

@[simp] theorem State.establish_frame (s : State) (h : Handshake) (k : Keys) (switch : Word) :
    (s.establish h k switch).now = s.now ∧ (s.establish h k switch).boot = s.boot ∧ (s.establish h k switch).vin = s.vin ∧
    (s.establish h k switch).eyes = s.eyes ∧ (s.establish h k switch).par = s.par ∧ (s.establish h k switch).fn = s.fn ∧
    (s.establish h k switch).tab = s.tab ∧ (s.establish h k switch).pwr = s.pwr ∧ (s.establish h k switch).thm = s.thm ∧
    (s.establish h k switch).mem = s.mem ∧ (s.establish h k switch).cmp = s.cmp ∧ (s.establish h k switch).nv = s.nv ∧ (s.establish h k switch).ras = s.ras ∧
    (s.establish h k switch).pipe = s.pipe ∧ (s.establish h k switch).prk = s.prk ∧ (s.establish h k switch).apq = s.apq ∧
    (s.establish h k switch).pnl = s.pnl ∧ (s.establish h k switch).bob = s.bob ∧ (s.establish h k switch).sel = s.sel ∧ (s.establish h k switch).hl = s.hl ∧
    (s.establish h k switch).tat = s.tat ∧ (s.establish h k switch).free = s.free ∧ (s.establish h k switch).pending = s.pending := by
  unfold State.establish
  simp

@[simp] theorem State.finishIn_frame (s : State) (path : Option Mb) (m : List Byte) :
    (s.finishIn path m).now = s.now ∧ (s.finishIn path m).boot = s.boot ∧ (s.finishIn path m).vin = s.vin ∧ (s.finishIn path m).eyes = s.eyes ∧
    (s.finishIn path m).par = s.par ∧ (s.finishIn path m).fn = s.fn ∧ (s.finishIn path m).tab = s.tab ∧ (s.finishIn path m).thm = s.thm ∧
    (s.finishIn path m).mem = s.mem ∧ (s.finishIn path m).cmp = s.cmp ∧ (s.finishIn path m).nv = s.nv ∧ (s.finishIn path m).ras = s.ras ∧
    (s.finishIn path m).pipe = s.pipe ∧ (s.finishIn path m).prk = s.prk ∧ (s.finishIn path m).apq = s.apq ∧ (s.finishIn path m).pnl = s.pnl ∧
    (s.finishIn path m).bob = s.bob ∧ (s.finishIn path m).sel = s.sel ∧ (s.finishIn path m).free = s.free ∧ (s.finishIn path m).pending = s.pending := by
  unfold State.finishIn
  repeat' split
  all_goals simp

@[simp] theorem State.handshakeIn_frame (s : State) (path : Option Mb) (m : List Byte) :
    (s.handshakeIn path m).now = s.now ∧ (s.handshakeIn path m).boot = s.boot ∧ (s.handshakeIn path m).vin = s.vin ∧ (s.handshakeIn path m).eyes = s.eyes ∧
    (s.handshakeIn path m).par = s.par ∧ (s.handshakeIn path m).fn = s.fn ∧ (s.handshakeIn path m).tab = s.tab ∧ (s.handshakeIn path m).thm = s.thm ∧
    (s.handshakeIn path m).mem = s.mem ∧ (s.handshakeIn path m).cmp = s.cmp ∧ (s.handshakeIn path m).nv = s.nv ∧ (s.handshakeIn path m).ras = s.ras ∧
    (s.handshakeIn path m).pipe = s.pipe ∧ (s.handshakeIn path m).prk = s.prk ∧ (s.handshakeIn path m).apq = s.apq ∧ (s.handshakeIn path m).pnl = s.pnl ∧
    (s.handshakeIn path m).bob = s.bob ∧ (s.handshakeIn path m).sel = s.sel ∧ (s.handshakeIn path m).pending = s.pending := by
  unfold State.handshakeIn
  simp

@[simp] theorem State.protIn_frame (s : State) (payload : List Byte) :
    (s.protIn payload).now = s.now ∧ (s.protIn payload).boot = s.boot ∧ (s.protIn payload).vin = s.vin ∧ (s.protIn payload).eyes = s.eyes ∧
    (s.protIn payload).par = s.par ∧ (s.protIn payload).fn = s.fn ∧ (s.protIn payload).tab = s.tab ∧ (s.protIn payload).thm = s.thm ∧
    (s.protIn payload).mem = s.mem ∧ (s.protIn payload).cmp = s.cmp ∧ (s.protIn payload).nv = s.nv ∧ (s.protIn payload).ras = s.ras ∧
    (s.protIn payload).pipe = s.pipe ∧ (s.protIn payload).prk = s.prk ∧ (s.protIn payload).apq = s.apq ∧ (s.protIn payload).pnl = s.pnl ∧
    (s.protIn payload).bob = s.bob ∧ (s.protIn payload).sel = s.sel ∧ (s.protIn payload).pending = s.pending := by
  unfold State.protIn
  repeat' split
  all_goals simp

@[simp] theorem State.loadPsr_frame (s : State) :
    s.loadPsr.now = s.now ∧ s.loadPsr.boot = s.boot ∧ s.loadPsr.vin = s.vin ∧ s.loadPsr.win = s.win ∧ s.loadPsr.box = s.box ∧ s.loadPsr.evq = s.evq ∧
    s.loadPsr.eyes = s.eyes ∧ s.loadPsr.fn = s.fn ∧ s.loadPsr.tab = s.tab ∧ s.loadPsr.pwr = s.pwr ∧ s.loadPsr.thm = s.thm ∧ s.loadPsr.mem = s.mem ∧
    s.loadPsr.cmp = s.cmp ∧ s.loadPsr.nv = s.nv ∧ s.loadPsr.ras = s.ras ∧ s.loadPsr.pipe = s.pipe ∧ s.loadPsr.prk = s.prk ∧ s.loadPsr.apq = s.apq ∧
    s.loadPsr.pnl = s.pnl ∧ s.loadPsr.bob = s.bob ∧ s.loadPsr.sel = s.sel ∧ s.loadPsr.hl = s.hl ∧ s.loadPsr.tat = s.tat ∧ s.loadPsr.free = s.free ∧
    s.loadPsr.pending = s.pending := by
  unfold State.loadPsr
  repeat' split
  all_goals simp

@[simp] theorem State.debugUnlocked_frame (s : State) (source : Nat) :
    (s.debugUnlocked source).now = s.now ∧ (s.debugUnlocked source).boot = s.boot ∧ (s.debugUnlocked source).vin = s.vin ∧
    (s.debugUnlocked source).eyes = s.eyes ∧ (s.debugUnlocked source).par = s.par ∧ (s.debugUnlocked source).fn = s.fn ∧
    (s.debugUnlocked source).tab = s.tab ∧ (s.debugUnlocked source).thm = s.thm ∧ (s.debugUnlocked source).mem = s.mem ∧
    (s.debugUnlocked source).cmp = s.cmp ∧ (s.debugUnlocked source).nv = s.nv ∧ (s.debugUnlocked source).ras = s.ras ∧
    (s.debugUnlocked source).pipe = s.pipe ∧ (s.debugUnlocked source).prk = s.prk ∧ (s.debugUnlocked source).apq = s.apq ∧
    (s.debugUnlocked source).pnl = s.pnl ∧ (s.debugUnlocked source).bob = s.bob ∧ (s.debugUnlocked source).sel = s.sel ∧
    (s.debugUnlocked source).free = s.free ∧ (s.debugUnlocked source).pending = s.pending := by
  unfold State.debugUnlocked
  simp

@[simp] theorem State.raiseFuse_frame (s : State) :
    s.raiseFuse.now = s.now ∧ s.raiseFuse.boot = s.boot ∧ s.raiseFuse.vin = s.vin ∧ s.raiseFuse.win = s.win ∧ s.raiseFuse.box = s.box ∧
    s.raiseFuse.evq = s.evq ∧ s.raiseFuse.log = s.log ∧ s.raiseFuse.stat = s.stat ∧ s.raiseFuse.eyes = s.eyes ∧ s.raiseFuse.par = s.par ∧
    s.raiseFuse.fn = s.fn ∧ s.raiseFuse.tab = s.tab ∧ s.raiseFuse.pwr = s.pwr ∧ s.raiseFuse.thm = s.thm ∧ s.raiseFuse.mem = s.mem ∧ s.raiseFuse.cmp = s.cmp ∧
    s.raiseFuse.nv = s.nv ∧ s.raiseFuse.ras = s.ras ∧ s.raiseFuse.pipe = s.pipe ∧ s.raiseFuse.prk = s.prk ∧ s.raiseFuse.apq = s.apq ∧
    s.raiseFuse.pnl = s.pnl ∧ s.raiseFuse.bob = s.bob ∧ s.raiseFuse.sel = s.sel ∧ s.raiseFuse.hl = s.hl ∧ s.raiseFuse.tat = s.tat ∧
    s.raiseFuse.free = s.free ∧ s.raiseFuse.pending = s.pending := by
  unfold State.raiseFuse
  simp

@[simp] theorem State.secOff_frame (s : State) :
    s.secOff.now = s.now ∧ s.secOff.boot = s.boot ∧ s.secOff.vin = s.vin ∧ s.secOff.eyes = s.eyes ∧ s.secOff.par = s.par ∧ s.secOff.fn = s.fn ∧
    s.secOff.tab = s.tab ∧ s.secOff.thm = s.thm ∧ s.secOff.mem = s.mem ∧ s.secOff.cmp = s.cmp ∧ s.secOff.nv = s.nv ∧ s.secOff.ras = s.ras ∧
    s.secOff.pipe = s.pipe ∧ s.secOff.prk = s.prk ∧ s.secOff.apq = s.apq ∧ s.secOff.pnl = s.pnl ∧ s.secOff.bob = s.bob ∧ s.secOff.sel = s.sel ∧
    s.secOff.free = s.free ∧ s.secOff.pending = s.pending := by
  unfold State.secOff
  simp

end Sys2Proof.Machine
end

