-- ==== Sys2Proof/Laws/FrameData.lean ====
section
/-! SUPPORT. What each operation leaves unchanged: tables, parameters, pipeline, memory, sensing, timing, epochs, input, link and functions. Each lemma lists every field of the state that its operation does not touch, and of a touched memory or flash the contents it leaves alone. -/

namespace Sys2Proof.Machine

@[simp] theorem State.setTable_frame (s : State) (t : Table) :
    (s.setTable t).now = s.now ∧ (s.setTable t).boot = s.boot ∧ (s.setTable t).vin = s.vin ∧ (s.setTable t).win = s.win ∧ (s.setTable t).box = s.box ∧
    (s.setTable t).evq = s.evq ∧ (s.setTable t).log = s.log ∧ (s.setTable t).stat = s.stat ∧ (s.setTable t).eyes = s.eyes ∧ (s.setTable t).par = s.par ∧
    (s.setTable t).fn = s.fn ∧ (s.setTable t).pwr = s.pwr ∧ (s.setTable t).thm = s.thm ∧ (s.setTable t).mem = s.mem ∧ (s.setTable t).cmp = s.cmp ∧
    (s.setTable t).nv = s.nv ∧ (s.setTable t).ras = s.ras ∧ (s.setTable t).pipe = s.pipe ∧ (s.setTable t).prk = s.prk ∧ (s.setTable t).apq = s.apq ∧
    (s.setTable t).pnl = s.pnl ∧ (s.setTable t).bob = s.bob ∧ (s.setTable t).sel = s.sel ∧ (s.setTable t).hl = s.hl ∧ (s.setTable t).sec = s.sec ∧
    (s.setTable t).tat = s.tat ∧ (s.setTable t).free = s.free ∧ (s.setTable t).pending = s.pending := by
  unfold State.setTable
  simp

@[simp] theorem State.odTablesEvent_frame (s : State) :
    s.odTablesEvent.now = s.now ∧ s.odTablesEvent.boot = s.boot ∧ s.odTablesEvent.vin = s.vin ∧ s.odTablesEvent.box = s.box ∧ s.odTablesEvent.eyes = s.eyes ∧
    s.odTablesEvent.par = s.par ∧ s.odTablesEvent.fn = s.fn ∧ s.odTablesEvent.tab = s.tab ∧ s.odTablesEvent.pwr = s.pwr ∧ s.odTablesEvent.thm = s.thm ∧
    s.odTablesEvent.mem = s.mem ∧ s.odTablesEvent.cmp = s.cmp ∧ s.odTablesEvent.nv = s.nv ∧ s.odTablesEvent.ras = s.ras ∧ s.odTablesEvent.pipe = s.pipe ∧
    s.odTablesEvent.prk = s.prk ∧ s.odTablesEvent.apq = s.apq ∧ s.odTablesEvent.pnl = s.pnl ∧ s.odTablesEvent.bob = s.bob ∧ s.odTablesEvent.sel = s.sel ∧
    s.odTablesEvent.hl = s.hl ∧ s.odTablesEvent.sec = s.sec ∧ s.odTablesEvent.tat = s.tat ∧ s.odTablesEvent.free = s.free ∧
    s.odTablesEvent.pending = s.pending := by
  unfold State.odTablesEvent
  dsimp only
  repeat' split
  all_goals simp

@[simp] theorem State.mapCheck_frame (s : State) :
    s.mapCheck.now = s.now ∧ s.mapCheck.vin = s.vin ∧ s.mapCheck.win = s.win ∧ s.mapCheck.box = s.box ∧ s.mapCheck.evq = s.evq ∧ s.mapCheck.log = s.log ∧
    s.mapCheck.stat = s.stat ∧ s.mapCheck.eyes = s.eyes ∧ s.mapCheck.par = s.par ∧ s.mapCheck.fn = s.fn ∧ s.mapCheck.tab = s.tab ∧ s.mapCheck.pwr = s.pwr ∧
    s.mapCheck.thm = s.thm ∧ s.mapCheck.mem = s.mem ∧ s.mapCheck.cmp = s.cmp ∧ s.mapCheck.nv = s.nv ∧ s.mapCheck.ras = s.ras ∧ s.mapCheck.pipe = s.pipe ∧
    s.mapCheck.prk = s.prk ∧ s.mapCheck.apq = s.apq ∧ s.mapCheck.pnl = s.pnl ∧ s.mapCheck.bob = s.bob ∧ s.mapCheck.sel = s.sel ∧ s.mapCheck.hl = s.hl ∧
    s.mapCheck.sec = s.sec ∧ s.mapCheck.tat = s.tat ∧ s.mapCheck.free = s.free ∧ s.mapCheck.pending = s.pending := by
  unfold State.mapCheck
  simp

@[simp] theorem State.prkSet_frame (s : State) (x y plane c v : Nat) :
    (s.prkSet x y plane c v).now = s.now ∧ (s.prkSet x y plane c v).boot = s.boot ∧ (s.prkSet x y plane c v).vin = s.vin ∧
    (s.prkSet x y plane c v).win = s.win ∧ (s.prkSet x y plane c v).box = s.box ∧ (s.prkSet x y plane c v).evq = s.evq ∧
    (s.prkSet x y plane c v).log = s.log ∧ (s.prkSet x y plane c v).stat = s.stat ∧ (s.prkSet x y plane c v).eyes = s.eyes ∧
    (s.prkSet x y plane c v).par = s.par ∧ (s.prkSet x y plane c v).fn = s.fn ∧ (s.prkSet x y plane c v).tab = s.tab ∧ (s.prkSet x y plane c v).pwr = s.pwr ∧
    (s.prkSet x y plane c v).thm = s.thm ∧ (s.prkSet x y plane c v).cmp = s.cmp ∧ (s.prkSet x y plane c v).nv = s.nv ∧ (s.prkSet x y plane c v).ras = s.ras ∧
    (s.prkSet x y plane c v).pipe = s.pipe ∧ (s.prkSet x y plane c v).prk = s.prk ∧ (s.prkSet x y plane c v).apq = s.apq ∧
    (s.prkSet x y plane c v).pnl = s.pnl ∧ (s.prkSet x y plane c v).bob = s.bob ∧ (s.prkSet x y plane c v).sel = s.sel ∧ (s.prkSet x y plane c v).hl = s.hl ∧
    (s.prkSet x y plane c v).sec = s.sec ∧ (s.prkSet x y plane c v).tat = s.tat ∧ (s.prkSet x y plane c v).free = s.free ∧
    (s.prkSet x y plane c v).pending = s.pending ∧ (s.prkSet x y plane c v).mem.hoopFill = s.mem.hoopFill := by
  unfold State.prkSet
  simp

@[simp] theorem State.writePlane_frame (s : State) (plane cols rows : Nat) (vals : List Byte) :
    (s.writePlane plane cols rows vals).now = s.now ∧ (s.writePlane plane cols rows vals).boot = s.boot ∧ (s.writePlane plane cols rows vals).vin = s.vin ∧
    (s.writePlane plane cols rows vals).win = s.win ∧ (s.writePlane plane cols rows vals).box = s.box ∧ (s.writePlane plane cols rows vals).evq = s.evq ∧
    (s.writePlane plane cols rows vals).log = s.log ∧ (s.writePlane plane cols rows vals).stat = s.stat ∧ (s.writePlane plane cols rows vals).eyes = s.eyes ∧
    (s.writePlane plane cols rows vals).par = s.par ∧ (s.writePlane plane cols rows vals).fn = s.fn ∧ (s.writePlane plane cols rows vals).tab = s.tab ∧
    (s.writePlane plane cols rows vals).pwr = s.pwr ∧ (s.writePlane plane cols rows vals).thm = s.thm ∧ (s.writePlane plane cols rows vals).cmp = s.cmp ∧
    (s.writePlane plane cols rows vals).nv = s.nv ∧ (s.writePlane plane cols rows vals).ras = s.ras ∧ (s.writePlane plane cols rows vals).pipe = s.pipe ∧
    (s.writePlane plane cols rows vals).prk = s.prk ∧ (s.writePlane plane cols rows vals).apq = s.apq ∧ (s.writePlane plane cols rows vals).pnl = s.pnl ∧
    (s.writePlane plane cols rows vals).bob = s.bob ∧ (s.writePlane plane cols rows vals).sel = s.sel ∧ (s.writePlane plane cols rows vals).hl = s.hl ∧
    (s.writePlane plane cols rows vals).sec = s.sec ∧ (s.writePlane plane cols rows vals).tat = s.tat ∧ (s.writePlane plane cols rows vals).free = s.free ∧
    (s.writePlane plane cols rows vals).pending = s.pending ∧ (s.writePlane plane cols rows vals).mem.hoopFill = s.mem.hoopFill := by
  unfold State.writePlane
  simp

@[simp] theorem State.packageJob_frame (s : State) (id : Nat) (b : List Byte) :
    (s.packageJob id b).now = s.now ∧ (s.packageJob id b).boot = s.boot ∧ (s.packageJob id b).vin = s.vin ∧ (s.packageJob id b).win = s.win ∧
    (s.packageJob id b).box = s.box ∧ (s.packageJob id b).evq = s.evq ∧ (s.packageJob id b).log = s.log ∧ (s.packageJob id b).eyes = s.eyes ∧
    (s.packageJob id b).par = s.par ∧ (s.packageJob id b).fn = s.fn ∧ (s.packageJob id b).tab = s.tab ∧ (s.packageJob id b).pwr = s.pwr ∧
    (s.packageJob id b).thm = s.thm ∧ (s.packageJob id b).mem = s.mem ∧ (s.packageJob id b).nv = s.nv ∧ (s.packageJob id b).ras = s.ras ∧
    (s.packageJob id b).pipe = s.pipe ∧ (s.packageJob id b).prk = s.prk ∧ (s.packageJob id b).apq = s.apq ∧ (s.packageJob id b).pnl = s.pnl ∧
    (s.packageJob id b).bob = s.bob ∧ (s.packageJob id b).sel = s.sel ∧ (s.packageJob id b).hl = s.hl ∧ (s.packageJob id b).sec = s.sec ∧
    (s.packageJob id b).tat = s.tat ∧ (s.packageJob id b).free = s.free ∧ (s.packageJob id b).pending = s.pending := by
  unfold State.packageJob
  repeat' split
  all_goals simp

@[simp] theorem State.sramCopied_frame (s : State) :
    s.sramCopied.now = s.now ∧ s.sramCopied.boot = s.boot ∧ s.sramCopied.vin = s.vin ∧ s.sramCopied.win = s.win ∧ s.sramCopied.box = s.box ∧
    s.sramCopied.evq = s.evq ∧ s.sramCopied.log = s.log ∧ s.sramCopied.stat = s.stat ∧ s.sramCopied.eyes = s.eyes ∧ s.sramCopied.par = s.par ∧
    s.sramCopied.fn = s.fn ∧ s.sramCopied.tab = s.tab ∧ s.sramCopied.pwr = s.pwr ∧ s.sramCopied.thm = s.thm ∧ s.sramCopied.mem = s.mem ∧
    s.sramCopied.cmp = s.cmp ∧ s.sramCopied.nv = s.nv ∧ s.sramCopied.ras = s.ras ∧ s.sramCopied.prk = s.prk ∧ s.sramCopied.apq = s.apq ∧
    s.sramCopied.pnl = s.pnl ∧ s.sramCopied.bob = s.bob ∧ s.sramCopied.sel = s.sel ∧ s.sramCopied.hl = s.hl ∧ s.sramCopied.sec = s.sec ∧
    s.sramCopied.tat = s.tat ∧ s.sramCopied.free = s.free ∧ s.sramCopied.pending = s.pending := by
  unfold State.sramCopied
  simp

@[simp] theorem State.sramWanted_frame (s : State) :
    s.sramWanted.now = s.now ∧ s.sramWanted.boot = s.boot ∧ s.sramWanted.vin = s.vin ∧ s.sramWanted.win = s.win ∧ s.sramWanted.box = s.box ∧
    s.sramWanted.evq = s.evq ∧ s.sramWanted.log = s.log ∧ s.sramWanted.stat = s.stat ∧ s.sramWanted.eyes = s.eyes ∧ s.sramWanted.par = s.par ∧
    s.sramWanted.fn = s.fn ∧ s.sramWanted.tab = s.tab ∧ s.sramWanted.pwr = s.pwr ∧ s.sramWanted.thm = s.thm ∧ s.sramWanted.mem = s.mem ∧
    s.sramWanted.cmp = s.cmp ∧ s.sramWanted.nv = s.nv ∧ s.sramWanted.ras = s.ras ∧ s.sramWanted.prk = s.prk ∧ s.sramWanted.apq = s.apq ∧
    s.sramWanted.pnl = s.pnl ∧ s.sramWanted.bob = s.bob ∧ s.sramWanted.sel = s.sel ∧ s.sramWanted.hl = s.hl ∧ s.sramWanted.sec = s.sec ∧
    s.sramWanted.tat = s.tat ∧ s.sramWanted.free = s.free ∧ s.sramWanted.pending = s.pending := by
  unfold State.sramWanted
  simp

@[simp] theorem State.sramStale_frame (s : State) (id : Nat) :
    (s.sramStale id).now = s.now ∧ (s.sramStale id).boot = s.boot ∧ (s.sramStale id).vin = s.vin ∧ (s.sramStale id).win = s.win ∧
    (s.sramStale id).box = s.box ∧ (s.sramStale id).evq = s.evq ∧ (s.sramStale id).log = s.log ∧ (s.sramStale id).stat = s.stat ∧
    (s.sramStale id).eyes = s.eyes ∧ (s.sramStale id).par = s.par ∧ (s.sramStale id).fn = s.fn ∧ (s.sramStale id).tab = s.tab ∧
    (s.sramStale id).pwr = s.pwr ∧ (s.sramStale id).thm = s.thm ∧ (s.sramStale id).mem = s.mem ∧ (s.sramStale id).cmp = s.cmp ∧ (s.sramStale id).nv = s.nv ∧
    (s.sramStale id).ras = s.ras ∧ (s.sramStale id).prk = s.prk ∧ (s.sramStale id).apq = s.apq ∧ (s.sramStale id).pnl = s.pnl ∧
    (s.sramStale id).bob = s.bob ∧ (s.sramStale id).sel = s.sel ∧ (s.sramStale id).hl = s.hl ∧ (s.sramStale id).sec = s.sec ∧ (s.sramStale id).tat = s.tat ∧
    (s.sramStale id).free = s.free ∧ (s.sramStale id).pending = s.pending := by
  unfold State.sramStale
  simp

@[simp] theorem State.install_frame (s : State) (id : Nat) (plain : List Byte) :
    (s.install id plain).now = s.now ∧ (s.install id plain).boot = s.boot ∧ (s.install id plain).vin = s.vin ∧ (s.install id plain).win = s.win ∧
    (s.install id plain).box = s.box ∧ (s.install id plain).evq = s.evq ∧ (s.install id plain).log = s.log ∧ (s.install id plain).stat = s.stat ∧
    (s.install id plain).eyes = s.eyes ∧ (s.install id plain).par = s.par ∧ (s.install id plain).fn = s.fn ∧ (s.install id plain).pwr = s.pwr ∧
    (s.install id plain).thm = s.thm ∧ (s.install id plain).cmp = s.cmp ∧ (s.install id plain).nv = s.nv ∧ (s.install id plain).ras = s.ras ∧
    (s.install id plain).prk = s.prk ∧ (s.install id plain).pnl = s.pnl ∧ (s.install id plain).bob = s.bob ∧ (s.install id plain).sel = s.sel ∧
    (s.install id plain).hl = s.hl ∧ (s.install id plain).sec = s.sec ∧ (s.install id plain).tat = s.tat ∧ (s.install id plain).free = s.free ∧
    (s.install id plain).pending = s.pending ∧ (s.install id plain).mem.hoopFill = s.mem.hoopFill := by
  unfold State.install
  repeat' split
  all_goals simp

@[simp] theorem State.fieldsChanged_frame (s old : State) (id : Nat) :
    (s.fieldsChanged old id).now = s.now ∧ (s.fieldsChanged old id).boot = s.boot ∧ (s.fieldsChanged old id).vin = s.vin ∧
    (s.fieldsChanged old id).win = s.win ∧ (s.fieldsChanged old id).box = s.box ∧ (s.fieldsChanged old id).evq = s.evq ∧
    (s.fieldsChanged old id).log = s.log ∧ (s.fieldsChanged old id).stat = s.stat ∧ (s.fieldsChanged old id).eyes = s.eyes ∧
    (s.fieldsChanged old id).par = s.par ∧ (s.fieldsChanged old id).fn = s.fn ∧ (s.fieldsChanged old id).tab = s.tab ∧ (s.fieldsChanged old id).pwr = s.pwr ∧
    (s.fieldsChanged old id).thm = s.thm ∧ (s.fieldsChanged old id).mem = s.mem ∧ (s.fieldsChanged old id).cmp = s.cmp ∧ (s.fieldsChanged old id).nv = s.nv ∧
    (s.fieldsChanged old id).ras = s.ras ∧ (s.fieldsChanged old id).pipe = s.pipe ∧ (s.fieldsChanged old id).apq = s.apq ∧
    (s.fieldsChanged old id).pnl = s.pnl ∧ (s.fieldsChanged old id).bob = s.bob ∧ (s.fieldsChanged old id).sel = s.sel ∧ (s.fieldsChanged old id).hl = s.hl ∧
    (s.fieldsChanged old id).sec = s.sec ∧ (s.fieldsChanged old id).tat = s.tat ∧ (s.fieldsChanged old id).free = s.free ∧
    (s.fieldsChanged old id).pending = s.pending := by
  unfold State.fieldsChanged
  simp

@[simp] theorem State.afterLoad_frame (s : State) (id : Nat) (plain : List Byte) :
    (s.afterLoad id plain).now = s.now ∧ (s.afterLoad id plain).vin = s.vin ∧ (s.afterLoad id plain).win = s.win ∧ (s.afterLoad id plain).box = s.box ∧
    (s.afterLoad id plain).evq = s.evq ∧ (s.afterLoad id plain).log = s.log ∧ (s.afterLoad id plain).eyes = s.eyes ∧ (s.afterLoad id plain).par = s.par ∧
    (s.afterLoad id plain).fn = s.fn ∧ (s.afterLoad id plain).tab = s.tab ∧ (s.afterLoad id plain).pwr = s.pwr ∧ (s.afterLoad id plain).thm = s.thm ∧
    (s.afterLoad id plain).mem = s.mem ∧ (s.afterLoad id plain).cmp = s.cmp ∧ (s.afterLoad id plain).ras = s.ras ∧ (s.afterLoad id plain).pipe = s.pipe ∧
    (s.afterLoad id plain).apq = s.apq ∧ (s.afterLoad id plain).pnl = s.pnl ∧ (s.afterLoad id plain).bob = s.bob ∧ (s.afterLoad id plain).sel = s.sel ∧
    (s.afterLoad id plain).hl = s.hl ∧ (s.afterLoad id plain).sec = s.sec ∧ (s.afterLoad id plain).tat = s.tat ∧ (s.afterLoad id plain).free = s.free ∧
    (s.afterLoad id plain).pending = s.pending ∧ (s.afterLoad id plain).nv.nand = s.nv.nand := by
  unfold State.afterLoad
  repeat' split
  all_goals simp

@[simp] theorem State.onFunc_frame (s : State) (i : Func) (g : FuncState → FuncState) :
    (s.onFunc i g).now = s.now ∧ (s.onFunc i g).boot = s.boot ∧ (s.onFunc i g).vin = s.vin ∧ (s.onFunc i g).win = s.win ∧ (s.onFunc i g).box = s.box ∧
    (s.onFunc i g).evq = s.evq ∧ (s.onFunc i g).log = s.log ∧ (s.onFunc i g).stat = s.stat ∧ (s.onFunc i g).eyes = s.eyes ∧ (s.onFunc i g).par = s.par ∧
    (s.onFunc i g).tab = s.tab ∧ (s.onFunc i g).pwr = s.pwr ∧ (s.onFunc i g).thm = s.thm ∧ (s.onFunc i g).mem = s.mem ∧ (s.onFunc i g).cmp = s.cmp ∧
    (s.onFunc i g).nv = s.nv ∧ (s.onFunc i g).ras = s.ras ∧ (s.onFunc i g).pipe = s.pipe ∧ (s.onFunc i g).prk = s.prk ∧ (s.onFunc i g).apq = s.apq ∧
    (s.onFunc i g).pnl = s.pnl ∧ (s.onFunc i g).bob = s.bob ∧ (s.onFunc i g).sel = s.sel ∧ (s.onFunc i g).hl = s.hl ∧ (s.onFunc i g).sec = s.sec ∧
    (s.onFunc i g).tat = s.tat ∧ (s.onFunc i g).free = s.free ∧ (s.onFunc i g).pending = s.pending := by
  unfold State.onFunc
  simp

@[simp] theorem State.customise_frame (s : State) (id : Nat) :
    (s.customise id).now = s.now ∧ (s.customise id).boot = s.boot ∧ (s.customise id).vin = s.vin ∧ (s.customise id).win = s.win ∧
    (s.customise id).box = s.box ∧ (s.customise id).evq = s.evq ∧ (s.customise id).log = s.log ∧ (s.customise id).stat = s.stat ∧
    (s.customise id).eyes = s.eyes ∧ (s.customise id).par = s.par ∧ (s.customise id).tab = s.tab ∧ (s.customise id).pwr = s.pwr ∧
    (s.customise id).thm = s.thm ∧ (s.customise id).mem = s.mem ∧ (s.customise id).cmp = s.cmp ∧ (s.customise id).nv = s.nv ∧ (s.customise id).ras = s.ras ∧
    (s.customise id).pipe = s.pipe ∧ (s.customise id).prk = s.prk ∧ (s.customise id).apq = s.apq ∧ (s.customise id).pnl = s.pnl ∧
    (s.customise id).bob = s.bob ∧ (s.customise id).sel = s.sel ∧ (s.customise id).hl = s.hl ∧ (s.customise id).sec = s.sec ∧ (s.customise id).tat = s.tat ∧
    (s.customise id).free = s.free ∧ (s.customise id).pending = s.pending := by
  unfold State.customise
  repeat' split
  all_goals simp

@[simp] theorem State.resClear_frame (s : State) :
    s.resClear.now = s.now ∧ s.resClear.boot = s.boot ∧ s.resClear.vin = s.vin ∧ s.resClear.win = s.win ∧ s.resClear.box = s.box ∧ s.resClear.evq = s.evq ∧
    s.resClear.log = s.log ∧ s.resClear.stat = s.stat ∧ s.resClear.eyes = s.eyes ∧ s.resClear.par = s.par ∧ s.resClear.fn = s.fn ∧ s.resClear.tab = s.tab ∧
    s.resClear.thm = s.thm ∧ s.resClear.mem = s.mem ∧ s.resClear.cmp = s.cmp ∧ s.resClear.nv = s.nv ∧ s.resClear.ras = s.ras ∧ s.resClear.pipe = s.pipe ∧
    s.resClear.prk = s.prk ∧ s.resClear.apq = s.apq ∧ s.resClear.pnl = s.pnl ∧ s.resClear.bob = s.bob ∧ s.resClear.sel = s.sel ∧ s.resClear.hl = s.hl ∧
    s.resClear.sec = s.sec ∧ s.resClear.tat = s.tat ∧ s.resClear.free = s.free ∧ s.resClear.pending = s.pending := by
  unfold State.resClear
  simp

@[simp] theorem State.roleTaken_frame (s : State) (change : Bool) :
    (s.roleTaken change).now = s.now ∧ (s.roleTaken change).boot = s.boot ∧ (s.roleTaken change).vin = s.vin ∧ (s.roleTaken change).box = s.box ∧
    (s.roleTaken change).eyes = s.eyes ∧ (s.roleTaken change).par = s.par ∧ (s.roleTaken change).fn = s.fn ∧ (s.roleTaken change).tab = s.tab ∧
    (s.roleTaken change).pwr = s.pwr ∧ (s.roleTaken change).thm = s.thm ∧ (s.roleTaken change).mem = s.mem ∧ (s.roleTaken change).cmp = s.cmp ∧
    (s.roleTaken change).nv = s.nv ∧ (s.roleTaken change).ras = s.ras ∧ (s.roleTaken change).pipe = s.pipe ∧ (s.roleTaken change).prk = s.prk ∧
    (s.roleTaken change).apq = s.apq ∧ (s.roleTaken change).pnl = s.pnl ∧ (s.roleTaken change).bob = s.bob ∧ (s.roleTaken change).sel = s.sel ∧
    (s.roleTaken change).hl = s.hl ∧ (s.roleTaken change).sec = s.sec ∧ (s.roleTaken change).free = s.free ∧ (s.roleTaken change).pending = s.pending := by
  unfold State.roleTaken
  simp

@[simp] theorem State.writeL_frame (s : State) (id v source : Nat) :
    (s.writeL id v source).now = s.now ∧ (s.writeL id v source).boot = s.boot ∧ (s.writeL id v source).vin = s.vin ∧ (s.writeL id v source).box = s.box ∧
    (s.writeL id v source).fn = s.fn ∧ (s.writeL id v source).tab = s.tab ∧ (s.writeL id v source).thm = s.thm ∧ (s.writeL id v source).cmp = s.cmp ∧
    (s.writeL id v source).nv = s.nv ∧ (s.writeL id v source).ras = s.ras ∧ (s.writeL id v source).pipe = s.pipe ∧ (s.writeL id v source).prk = s.prk ∧
    (s.writeL id v source).apq = s.apq ∧ (s.writeL id v source).pnl = s.pnl ∧ (s.writeL id v source).bob = s.bob ∧ (s.writeL id v source).sel = s.sel ∧
    (s.writeL id v source).hl = s.hl ∧ (s.writeL id v source).sec = s.sec ∧ (s.writeL id v source).free = s.free ∧
    (s.writeL id v source).pending = s.pending ∧ (s.writeL id v source).mem.cells = s.mem.cells ∧ (s.writeL id v source).mem.hoopFill = s.mem.hoopFill := by
  unfold State.writeL
  repeat' split
  all_goals simp

@[simp] theorem State.writeParam_frame (s : State) (id v source : Nat) :
    (s.writeParam id v source).now = s.now ∧ (s.writeParam id v source).boot = s.boot ∧ (s.writeParam id v source).vin = s.vin ∧
    (s.writeParam id v source).box = s.box ∧ (s.writeParam id v source).tab = s.tab ∧ (s.writeParam id v source).thm = s.thm ∧
    (s.writeParam id v source).cmp = s.cmp ∧ (s.writeParam id v source).nv = s.nv ∧ (s.writeParam id v source).ras = s.ras ∧
    (s.writeParam id v source).pipe = s.pipe ∧ (s.writeParam id v source).prk = s.prk ∧ (s.writeParam id v source).apq = s.apq ∧
    (s.writeParam id v source).pnl = s.pnl ∧ (s.writeParam id v source).bob = s.bob ∧ (s.writeParam id v source).sel = s.sel ∧
    (s.writeParam id v source).hl = s.hl ∧ (s.writeParam id v source).sec = s.sec ∧ (s.writeParam id v source).free = s.free ∧
    (s.writeParam id v source).pending = s.pending ∧ (s.writeParam id v source).mem.cells = s.mem.cells ∧
    (s.writeParam id v source).mem.hoopFill = s.mem.hoopFill := by
  unfold State.writeParam
  repeat' split
  all_goals simp

@[simp] theorem State.raiseRetired_frame (s : State) :
    s.raiseRetired.now = s.now ∧ s.raiseRetired.boot = s.boot ∧ s.raiseRetired.vin = s.vin ∧ s.raiseRetired.box = s.box ∧ s.raiseRetired.eyes = s.eyes ∧
    s.raiseRetired.par = s.par ∧ s.raiseRetired.fn = s.fn ∧ s.raiseRetired.tab = s.tab ∧ s.raiseRetired.pwr = s.pwr ∧ s.raiseRetired.thm = s.thm ∧
    s.raiseRetired.mem = s.mem ∧ s.raiseRetired.cmp = s.cmp ∧ s.raiseRetired.nv = s.nv ∧ s.raiseRetired.ras = s.ras ∧ s.raiseRetired.pipe = s.pipe ∧
    s.raiseRetired.prk = s.prk ∧ s.raiseRetired.pnl = s.pnl ∧ s.raiseRetired.bob = s.bob ∧ s.raiseRetired.sel = s.sel ∧ s.raiseRetired.hl = s.hl ∧
    s.raiseRetired.sec = s.sec ∧ s.raiseRetired.tat = s.tat ∧ s.raiseRetired.free = s.free ∧ s.raiseRetired.pending = s.pending := by
  unfold State.raiseRetired
  simp

@[simp] theorem State.applyValues_frame (s : State) (vs : List (Nat × Word)) :
    (s.applyValues vs).now = s.now ∧ (s.applyValues vs).boot = s.boot ∧ (s.applyValues vs).vin = s.vin ∧ (s.applyValues vs).win = s.win ∧
    (s.applyValues vs).box = s.box ∧ (s.applyValues vs).evq = s.evq ∧ (s.applyValues vs).log = s.log ∧ (s.applyValues vs).stat = s.stat ∧
    (s.applyValues vs).eyes = s.eyes ∧ (s.applyValues vs).fn = s.fn ∧ (s.applyValues vs).tab = s.tab ∧ (s.applyValues vs).pwr = s.pwr ∧
    (s.applyValues vs).thm = s.thm ∧ (s.applyValues vs).mem = s.mem ∧ (s.applyValues vs).cmp = s.cmp ∧ (s.applyValues vs).nv = s.nv ∧
    (s.applyValues vs).pnl = s.pnl ∧ (s.applyValues vs).bob = s.bob ∧ (s.applyValues vs).sel = s.sel ∧ (s.applyValues vs).hl = s.hl ∧
    (s.applyValues vs).sec = s.sec ∧ (s.applyValues vs).tat = s.tat ∧ (s.applyValues vs).free = s.free ∧ (s.applyValues vs).pending = s.pending := by
  unfold State.applyValues
  simp

@[simp] theorem State.applyCommit_frame (s : State) (c : Commit) :
    (s.applyCommit c).now = s.now ∧ (s.applyCommit c).boot = s.boot ∧ (s.applyCommit c).vin = s.vin ∧ (s.applyCommit c).box = s.box ∧
    (s.applyCommit c).eyes = s.eyes ∧ (s.applyCommit c).fn = s.fn ∧ (s.applyCommit c).tab = s.tab ∧ (s.applyCommit c).pwr = s.pwr ∧
    (s.applyCommit c).thm = s.thm ∧ (s.applyCommit c).mem = s.mem ∧ (s.applyCommit c).cmp = s.cmp ∧ (s.applyCommit c).nv = s.nv ∧
    (s.applyCommit c).pnl = s.pnl ∧ (s.applyCommit c).bob = s.bob ∧ (s.applyCommit c).sel = s.sel ∧ (s.applyCommit c).hl = s.hl ∧
    (s.applyCommit c).sec = s.sec ∧ (s.applyCommit c).tat = s.tat ∧ (s.applyCommit c).free = s.free ∧ (s.applyCommit c).pending = s.pending := by
  unfold State.applyCommit
  simp

@[simp] theorem State.applyDue_frame (s : State) (frame : BitVec 32) :
    (s.applyDue frame).now = s.now ∧ (s.applyDue frame).boot = s.boot ∧ (s.applyDue frame).vin = s.vin ∧ (s.applyDue frame).box = s.box ∧
    (s.applyDue frame).eyes = s.eyes ∧ (s.applyDue frame).fn = s.fn ∧ (s.applyDue frame).tab = s.tab ∧ (s.applyDue frame).pwr = s.pwr ∧
    (s.applyDue frame).thm = s.thm ∧ (s.applyDue frame).mem = s.mem ∧ (s.applyDue frame).cmp = s.cmp ∧ (s.applyDue frame).nv = s.nv ∧
    (s.applyDue frame).pnl = s.pnl ∧ (s.applyDue frame).bob = s.bob ∧ (s.applyDue frame).sel = s.sel ∧ (s.applyDue frame).hl = s.hl ∧
    (s.applyDue frame).sec = s.sec ∧ (s.applyDue frame).tat = s.tat ∧ (s.applyDue frame).free = s.free ∧ (s.applyDue frame).pending = s.pending := by
  unfold State.applyDue
  simp

@[simp] theorem State.beginTransitionAt_frame (s : State) (n0 : BitVec 32) (mode : Mode) (cmd : Bool) (cause : Nat) (thermal : Bool) :
    (s.beginTransitionAt n0 mode cmd cause thermal).now = s.now ∧ (s.beginTransitionAt n0 mode cmd cause thermal).boot = s.boot ∧
    (s.beginTransitionAt n0 mode cmd cause thermal).vin = s.vin ∧ (s.beginTransitionAt n0 mode cmd cause thermal).win = s.win ∧
    (s.beginTransitionAt n0 mode cmd cause thermal).box = s.box ∧ (s.beginTransitionAt n0 mode cmd cause thermal).evq = s.evq ∧
    (s.beginTransitionAt n0 mode cmd cause thermal).log = s.log ∧ (s.beginTransitionAt n0 mode cmd cause thermal).stat = s.stat ∧
    (s.beginTransitionAt n0 mode cmd cause thermal).eyes = s.eyes ∧ (s.beginTransitionAt n0 mode cmd cause thermal).par = s.par ∧
    (s.beginTransitionAt n0 mode cmd cause thermal).fn = s.fn ∧ (s.beginTransitionAt n0 mode cmd cause thermal).tab = s.tab ∧
    (s.beginTransitionAt n0 mode cmd cause thermal).pwr = s.pwr ∧ (s.beginTransitionAt n0 mode cmd cause thermal).thm = s.thm ∧
    (s.beginTransitionAt n0 mode cmd cause thermal).mem = s.mem ∧ (s.beginTransitionAt n0 mode cmd cause thermal).cmp = s.cmp ∧
    (s.beginTransitionAt n0 mode cmd cause thermal).nv = s.nv ∧ (s.beginTransitionAt n0 mode cmd cause thermal).pipe = s.pipe ∧
    (s.beginTransitionAt n0 mode cmd cause thermal).prk = s.prk ∧ (s.beginTransitionAt n0 mode cmd cause thermal).apq = s.apq ∧
    (s.beginTransitionAt n0 mode cmd cause thermal).pnl = s.pnl ∧ (s.beginTransitionAt n0 mode cmd cause thermal).bob = s.bob ∧
    (s.beginTransitionAt n0 mode cmd cause thermal).sel = s.sel ∧ (s.beginTransitionAt n0 mode cmd cause thermal).hl = s.hl ∧
    (s.beginTransitionAt n0 mode cmd cause thermal).sec = s.sec ∧ (s.beginTransitionAt n0 mode cmd cause thermal).tat = s.tat ∧
    (s.beginTransitionAt n0 mode cmd cause thermal).free = s.free ∧ (s.beginTransitionAt n0 mode cmd cause thermal).pending = s.pending := by
  unfold State.beginTransitionAt
  simp

@[simp] theorem State.beginTransition_frame (s : State) (mode : Mode) (cmd : Bool) (cause : Nat) (thermal : Bool) :
    (s.beginTransition mode cmd cause thermal).now = s.now ∧ (s.beginTransition mode cmd cause thermal).boot = s.boot ∧
    (s.beginTransition mode cmd cause thermal).vin = s.vin ∧ (s.beginTransition mode cmd cause thermal).win = s.win ∧
    (s.beginTransition mode cmd cause thermal).box = s.box ∧ (s.beginTransition mode cmd cause thermal).evq = s.evq ∧
    (s.beginTransition mode cmd cause thermal).log = s.log ∧ (s.beginTransition mode cmd cause thermal).stat = s.stat ∧
    (s.beginTransition mode cmd cause thermal).eyes = s.eyes ∧ (s.beginTransition mode cmd cause thermal).par = s.par ∧
    (s.beginTransition mode cmd cause thermal).fn = s.fn ∧ (s.beginTransition mode cmd cause thermal).tab = s.tab ∧
    (s.beginTransition mode cmd cause thermal).pwr = s.pwr ∧ (s.beginTransition mode cmd cause thermal).thm = s.thm ∧
    (s.beginTransition mode cmd cause thermal).mem = s.mem ∧ (s.beginTransition mode cmd cause thermal).cmp = s.cmp ∧
    (s.beginTransition mode cmd cause thermal).nv = s.nv ∧ (s.beginTransition mode cmd cause thermal).pipe = s.pipe ∧
    (s.beginTransition mode cmd cause thermal).prk = s.prk ∧ (s.beginTransition mode cmd cause thermal).apq = s.apq ∧
    (s.beginTransition mode cmd cause thermal).pnl = s.pnl ∧ (s.beginTransition mode cmd cause thermal).bob = s.bob ∧
    (s.beginTransition mode cmd cause thermal).sel = s.sel ∧ (s.beginTransition mode cmd cause thermal).hl = s.hl ∧
    (s.beginTransition mode cmd cause thermal).sec = s.sec ∧ (s.beginTransition mode cmd cause thermal).tat = s.tat ∧
    (s.beginTransition mode cmd cause thermal).free = s.free ∧ (s.beginTransition mode cmd cause thermal).pending = s.pending := by
  unfold State.beginTransition
  simp

@[simp] theorem State.commitWait_frame (s : State) (vs : List (Nat × Word)) (target : BitVec 32) (via : Bool) :
    (s.commitWait vs target via).now = s.now ∧ (s.commitWait vs target via).boot = s.boot ∧ (s.commitWait vs target via).vin = s.vin ∧
    (s.commitWait vs target via).win = s.win ∧ (s.commitWait vs target via).box = s.box ∧ (s.commitWait vs target via).evq = s.evq ∧
    (s.commitWait vs target via).log = s.log ∧ (s.commitWait vs target via).stat = s.stat ∧ (s.commitWait vs target via).eyes = s.eyes ∧
    (s.commitWait vs target via).fn = s.fn ∧ (s.commitWait vs target via).tab = s.tab ∧ (s.commitWait vs target via).pwr = s.pwr ∧
    (s.commitWait vs target via).thm = s.thm ∧ (s.commitWait vs target via).mem = s.mem ∧ (s.commitWait vs target via).cmp = s.cmp ∧
    (s.commitWait vs target via).nv = s.nv ∧ (s.commitWait vs target via).pipe = s.pipe ∧ (s.commitWait vs target via).prk = s.prk ∧
    (s.commitWait vs target via).apq = s.apq ∧ (s.commitWait vs target via).pnl = s.pnl ∧ (s.commitWait vs target via).bob = s.bob ∧
    (s.commitWait vs target via).sel = s.sel ∧ (s.commitWait vs target via).hl = s.hl ∧ (s.commitWait vs target via).sec = s.sec ∧
    (s.commitWait vs target via).tat = s.tat ∧ (s.commitWait vs target via).free = s.free ∧ (s.commitWait vs target via).pending = s.pending := by
  unfold State.commitWait
  simp

@[simp] theorem State.commit_frame (s : State) :
    s.commit.state.now = s.now ∧ s.commit.state.boot = s.boot ∧ s.commit.state.vin = s.vin ∧ s.commit.state.box = s.box ∧ s.commit.state.eyes = s.eyes ∧
    s.commit.state.fn = s.fn ∧ s.commit.state.tab = s.tab ∧ s.commit.state.pwr = s.pwr ∧ s.commit.state.thm = s.thm ∧ s.commit.state.mem = s.mem ∧
    s.commit.state.cmp = s.cmp ∧ s.commit.state.nv = s.nv ∧ s.commit.state.pnl = s.pnl ∧ s.commit.state.bob = s.bob ∧ s.commit.state.sel = s.sel ∧
    s.commit.state.hl = s.hl ∧ s.commit.state.sec = s.sec ∧ s.commit.state.tat = s.tat ∧ s.commit.state.free = s.free ∧ s.commit.state.pending = s.pending := by
  unfold State.commit
  dsimp only
  repeat' split
  all_goals simp

@[simp] theorem State.onHoop_frame (s : State) (slot1 : Bool) (f : HoopFrame → HoopFrame) :
    (s.onHoop slot1 f).now = s.now ∧ (s.onHoop slot1 f).boot = s.boot ∧ (s.onHoop slot1 f).vin = s.vin ∧ (s.onHoop slot1 f).win = s.win ∧
    (s.onHoop slot1 f).box = s.box ∧ (s.onHoop slot1 f).evq = s.evq ∧ (s.onHoop slot1 f).log = s.log ∧ (s.onHoop slot1 f).stat = s.stat ∧
    (s.onHoop slot1 f).eyes = s.eyes ∧ (s.onHoop slot1 f).par = s.par ∧ (s.onHoop slot1 f).fn = s.fn ∧ (s.onHoop slot1 f).tab = s.tab ∧
    (s.onHoop slot1 f).pwr = s.pwr ∧ (s.onHoop slot1 f).thm = s.thm ∧ (s.onHoop slot1 f).cmp = s.cmp ∧ (s.onHoop slot1 f).nv = s.nv ∧
    (s.onHoop slot1 f).ras = s.ras ∧ (s.onHoop slot1 f).pipe = s.pipe ∧ (s.onHoop slot1 f).prk = s.prk ∧ (s.onHoop slot1 f).apq = s.apq ∧
    (s.onHoop slot1 f).pnl = s.pnl ∧ (s.onHoop slot1 f).bob = s.bob ∧ (s.onHoop slot1 f).sel = s.sel ∧ (s.onHoop slot1 f).hl = s.hl ∧
    (s.onHoop slot1 f).sec = s.sec ∧ (s.onHoop slot1 f).tat = s.tat ∧ (s.onHoop slot1 f).free = s.free ∧ (s.onHoop slot1 f).pending = s.pending ∧
    (s.onHoop slot1 f).mem.cells = s.mem.cells ∧ (s.onHoop slot1 f).mem.hoopFill = s.mem.hoopFill := by
  unfold State.onHoop
  repeat' split
  all_goals simp

@[simp] theorem State.hoopWrite_frame (s : State) (slot1 : Bool) (fmt y : Nat) (raw : List Nat) (x0 : Nat) :
    (s.hoopWrite slot1 fmt y raw x0).now = s.now ∧ (s.hoopWrite slot1 fmt y raw x0).boot = s.boot ∧ (s.hoopWrite slot1 fmt y raw x0).vin = s.vin ∧
    (s.hoopWrite slot1 fmt y raw x0).win = s.win ∧ (s.hoopWrite slot1 fmt y raw x0).box = s.box ∧ (s.hoopWrite slot1 fmt y raw x0).evq = s.evq ∧
    (s.hoopWrite slot1 fmt y raw x0).log = s.log ∧ (s.hoopWrite slot1 fmt y raw x0).stat = s.stat ∧ (s.hoopWrite slot1 fmt y raw x0).eyes = s.eyes ∧
    (s.hoopWrite slot1 fmt y raw x0).par = s.par ∧ (s.hoopWrite slot1 fmt y raw x0).fn = s.fn ∧ (s.hoopWrite slot1 fmt y raw x0).tab = s.tab ∧
    (s.hoopWrite slot1 fmt y raw x0).pwr = s.pwr ∧ (s.hoopWrite slot1 fmt y raw x0).thm = s.thm ∧ (s.hoopWrite slot1 fmt y raw x0).cmp = s.cmp ∧
    (s.hoopWrite slot1 fmt y raw x0).nv = s.nv ∧ (s.hoopWrite slot1 fmt y raw x0).ras = s.ras ∧ (s.hoopWrite slot1 fmt y raw x0).pipe = s.pipe ∧
    (s.hoopWrite slot1 fmt y raw x0).prk = s.prk ∧ (s.hoopWrite slot1 fmt y raw x0).apq = s.apq ∧ (s.hoopWrite slot1 fmt y raw x0).pnl = s.pnl ∧
    (s.hoopWrite slot1 fmt y raw x0).bob = s.bob ∧ (s.hoopWrite slot1 fmt y raw x0).sel = s.sel ∧ (s.hoopWrite slot1 fmt y raw x0).hl = s.hl ∧
    (s.hoopWrite slot1 fmt y raw x0).sec = s.sec ∧ (s.hoopWrite slot1 fmt y raw x0).tat = s.tat ∧ (s.hoopWrite slot1 fmt y raw x0).free = s.free ∧
    (s.hoopWrite slot1 fmt y raw x0).pending = s.pending ∧ (s.hoopWrite slot1 fmt y raw x0).mem.hoopFill = s.mem.hoopFill := by
  unfold State.hoopWrite
  simp

@[simp] theorem State.hoopCopy_frame (s : State) (src dst : Bool) (y x0 n : Nat) :
    (s.hoopCopy src dst y x0 n).now = s.now ∧ (s.hoopCopy src dst y x0 n).boot = s.boot ∧ (s.hoopCopy src dst y x0 n).vin = s.vin ∧
    (s.hoopCopy src dst y x0 n).win = s.win ∧ (s.hoopCopy src dst y x0 n).box = s.box ∧ (s.hoopCopy src dst y x0 n).evq = s.evq ∧
    (s.hoopCopy src dst y x0 n).log = s.log ∧ (s.hoopCopy src dst y x0 n).stat = s.stat ∧ (s.hoopCopy src dst y x0 n).eyes = s.eyes ∧
    (s.hoopCopy src dst y x0 n).par = s.par ∧ (s.hoopCopy src dst y x0 n).fn = s.fn ∧ (s.hoopCopy src dst y x0 n).tab = s.tab ∧
    (s.hoopCopy src dst y x0 n).pwr = s.pwr ∧ (s.hoopCopy src dst y x0 n).thm = s.thm ∧ (s.hoopCopy src dst y x0 n).cmp = s.cmp ∧
    (s.hoopCopy src dst y x0 n).nv = s.nv ∧ (s.hoopCopy src dst y x0 n).ras = s.ras ∧ (s.hoopCopy src dst y x0 n).pipe = s.pipe ∧
    (s.hoopCopy src dst y x0 n).prk = s.prk ∧ (s.hoopCopy src dst y x0 n).apq = s.apq ∧ (s.hoopCopy src dst y x0 n).pnl = s.pnl ∧
    (s.hoopCopy src dst y x0 n).bob = s.bob ∧ (s.hoopCopy src dst y x0 n).sel = s.sel ∧ (s.hoopCopy src dst y x0 n).hl = s.hl ∧
    (s.hoopCopy src dst y x0 n).sec = s.sec ∧ (s.hoopCopy src dst y x0 n).tat = s.tat ∧ (s.hoopCopy src dst y x0 n).free = s.free ∧
    (s.hoopCopy src dst y x0 n).pending = s.pending ∧ (s.hoopCopy src dst y x0 n).mem.hoopFill = s.mem.hoopFill := by
  unfold State.hoopCopy
  simp

/-- A later point of a band's fetch differs from an earlier one only in the parts a fetch changes. -/
def BandFetch.Keeps (f g : BandFetch) : Prop :=
    g.state.now = f.state.now ∧ g.state.boot = f.state.boot ∧ g.state.vin = f.state.vin ∧ g.state.box = f.state.box ∧ g.state.eyes = f.state.eyes ∧ g.state.par = f.state.par ∧ g.state.fn = f.state.fn ∧ g.state.tab = f.state.tab ∧ g.state.pwr = f.state.pwr ∧ g.state.thm = f.state.thm ∧ g.state.cmp = f.state.cmp ∧ g.state.nv = f.state.nv ∧ g.state.ras = f.state.ras ∧ g.state.pipe = f.state.pipe ∧ g.state.prk = f.state.prk ∧ g.state.pnl = f.state.pnl ∧ g.state.bob = f.state.bob ∧ g.state.sel = f.state.sel ∧ g.state.hl = f.state.hl ∧ g.state.sec = f.state.sec ∧ g.state.tat = f.state.tat ∧ g.state.free = f.state.free ∧ g.state.pending = f.state.pending ∧ g.state.mem.cells = f.state.mem.cells ∧ g.state.mem.hoopFill = f.state.mem.hoopFill

theorem BandFetch.Keeps.trans {f g h : BandFetch} (a : f.Keeps g) (b : g.Keeps h) : f.Keeps h := by
  unfold BandFetch.Keeps at *
  simp_all

theorem BandFetch.foldl_keeps {α : Type} (g : BandFetch → α → BandFetch) (h : ∀ (t : BandFetch) x, t.Keeps (g t x)) (l : List α) (f : BandFetch) :
    f.Keeps (l.foldl g f) := by
  induction l generalizing f with
  | nil => simp [BandFetch.Keeps]
  | cons x xs ih => exact (h f x).trans (ih (g f x))

theorem BandFetch.tile_keeps (f : BandFetch) (n : Nat) (l : LayerView) (tx ty : Nat) : f.Keeps (f.tile n l tx ty) := by
  unfold BandFetch.tile BandFetch.Keeps
  dsimp only
  repeat' split
  all_goals (try simp)
  all_goals (repeat' split)
  all_goals (try simp)

theorem BandFetch.layer_keeps (f : BandFetch) (n : Nat) (l : LayerView) (y0 : Nat) : f.Keeps (f.layer n l y0) := by
  unfold BandFetch.layer
  dsimp only
  split
  · simp [BandFetch.Keeps]
  · exact BandFetch.foldl_keeps _ (fun t ty => BandFetch.foldl_keeps _ (fun u tx => BandFetch.tile_keeps u n l tx ty) _ t) _ f

@[simp] theorem State.fetchBand_frame (s : State) (y0 : Nat) :
    (s.fetchBand y0).now = s.now ∧ (s.fetchBand y0).boot = s.boot ∧ (s.fetchBand y0).vin = s.vin ∧ (s.fetchBand y0).box = s.box ∧ (s.fetchBand y0).eyes = s.eyes ∧ (s.fetchBand y0).par = s.par ∧ (s.fetchBand y0).fn = s.fn ∧ (s.fetchBand y0).tab = s.tab ∧ (s.fetchBand y0).pwr = s.pwr ∧ (s.fetchBand y0).thm = s.thm ∧ (s.fetchBand y0).cmp = s.cmp ∧ (s.fetchBand y0).nv = s.nv ∧ (s.fetchBand y0).ras = s.ras ∧ (s.fetchBand y0).pipe = s.pipe ∧ (s.fetchBand y0).prk = s.prk ∧ (s.fetchBand y0).pnl = s.pnl ∧ (s.fetchBand y0).bob = s.bob ∧ (s.fetchBand y0).sel = s.sel ∧ (s.fetchBand y0).hl = s.hl ∧ (s.fetchBand y0).sec = s.sec ∧ (s.fetchBand y0).tat = s.tat ∧ (s.fetchBand y0).free = s.free ∧ (s.fetchBand y0).pending = s.pending ∧ (s.fetchBand y0).mem.cells = s.mem.cells ∧ (s.fetchBand y0).mem.hoopFill = s.mem.hoopFill := by
  unfold State.fetchBand
  dsimp only
  split
  · simp
  · generalize hf : List.foldl _ _ _ = f
    have k : BandFetch.Keeps _ f := hf ▸ BandFetch.foldl_keeps _ (fun t n => BandFetch.layer_keeps t n _ y0) _ _
    unfold BandFetch.Keeps at k
    repeat' split
    all_goals simp only [State.event_frame, State.count_frame, k, and_self]

@[simp] theorem State.zoneSnapshot_frame (s : State) :
    s.zoneSnapshot.now = s.now ∧ s.zoneSnapshot.boot = s.boot ∧ s.zoneSnapshot.vin = s.vin ∧ s.zoneSnapshot.box = s.box ∧ s.zoneSnapshot.eyes = s.eyes ∧
    s.zoneSnapshot.par = s.par ∧ s.zoneSnapshot.fn = s.fn ∧ s.zoneSnapshot.tab = s.tab ∧ s.zoneSnapshot.pwr = s.pwr ∧ s.zoneSnapshot.thm = s.thm ∧
    s.zoneSnapshot.mem = s.mem ∧ s.zoneSnapshot.cmp = s.cmp ∧ s.zoneSnapshot.nv = s.nv ∧ s.zoneSnapshot.ras = s.ras ∧ s.zoneSnapshot.prk = s.prk ∧
    s.zoneSnapshot.apq = s.apq ∧ s.zoneSnapshot.pnl = s.pnl ∧ s.zoneSnapshot.bob = s.bob ∧ s.zoneSnapshot.sel = s.sel ∧ s.zoneSnapshot.hl = s.hl ∧
    s.zoneSnapshot.sec = s.sec ∧ s.zoneSnapshot.tat = s.tat ∧ s.zoneSnapshot.free = s.free ∧ s.zoneSnapshot.pending = s.pending := by
  unfold State.zoneSnapshot
  simp

@[simp] theorem State.attWrite_frame (s : State) (y : Nat) (o : List OdOut) :
    (s.attWrite y o).now = s.now ∧ (s.attWrite y o).boot = s.boot ∧ (s.attWrite y o).vin = s.vin ∧ (s.attWrite y o).win = s.win ∧
    (s.attWrite y o).box = s.box ∧ (s.attWrite y o).evq = s.evq ∧ (s.attWrite y o).log = s.log ∧ (s.attWrite y o).stat = s.stat ∧
    (s.attWrite y o).eyes = s.eyes ∧ (s.attWrite y o).par = s.par ∧ (s.attWrite y o).fn = s.fn ∧ (s.attWrite y o).tab = s.tab ∧
    (s.attWrite y o).pwr = s.pwr ∧ (s.attWrite y o).thm = s.thm ∧ (s.attWrite y o).cmp = s.cmp ∧ (s.attWrite y o).nv = s.nv ∧ (s.attWrite y o).ras = s.ras ∧
    (s.attWrite y o).pipe = s.pipe ∧ (s.attWrite y o).prk = s.prk ∧ (s.attWrite y o).apq = s.apq ∧ (s.attWrite y o).pnl = s.pnl ∧
    (s.attWrite y o).bob = s.bob ∧ (s.attWrite y o).sel = s.sel ∧ (s.attWrite y o).hl = s.hl ∧ (s.attWrite y o).sec = s.sec ∧ (s.attWrite y o).tat = s.tat ∧
    (s.attWrite y o).free = s.free ∧ (s.attWrite y o).pending = s.pending ∧ (s.attWrite y o).mem.hoopFill = s.mem.hoopFill := by
  unfold State.attWrite
  repeat' split
  all_goals simp

@[simp] theorem State.accumulate_frame (s : State) (y : Nat) (levels : List Nat) :
    (s.accumulate y levels).boot = s.boot ∧ (s.accumulate y levels).vin = s.vin ∧ (s.accumulate y levels).win = s.win ∧ (s.accumulate y levels).box = s.box ∧
    (s.accumulate y levels).evq = s.evq ∧ (s.accumulate y levels).log = s.log ∧ (s.accumulate y levels).stat = s.stat ∧
    (s.accumulate y levels).eyes = s.eyes ∧ (s.accumulate y levels).par = s.par ∧ (s.accumulate y levels).fn = s.fn ∧ (s.accumulate y levels).tab = s.tab ∧
    (s.accumulate y levels).pwr = s.pwr ∧ (s.accumulate y levels).thm = s.thm ∧ (s.accumulate y levels).cmp = s.cmp ∧ (s.accumulate y levels).nv = s.nv ∧
    (s.accumulate y levels).ras = s.ras ∧ (s.accumulate y levels).pipe = s.pipe ∧ (s.accumulate y levels).apq = s.apq ∧ (s.accumulate y levels).pnl = s.pnl ∧
    (s.accumulate y levels).bob = s.bob ∧ (s.accumulate y levels).sel = s.sel ∧ (s.accumulate y levels).hl = s.hl ∧ (s.accumulate y levels).sec = s.sec ∧
    (s.accumulate y levels).tat = s.tat ∧ (s.accumulate y levels).pending = s.pending ∧ (s.accumulate y levels).mem.hoopFill = s.mem.hoopFill := by
  unfold State.accumulate
  simp

@[simp] theorem State.degradeStep_frame (s : State) :
    s.degradeStep.now = s.now ∧ s.degradeStep.boot = s.boot ∧ s.degradeStep.vin = s.vin ∧ s.degradeStep.box = s.box ∧ s.degradeStep.eyes = s.eyes ∧
    s.degradeStep.par = s.par ∧ s.degradeStep.fn = s.fn ∧ s.degradeStep.tab = s.tab ∧ s.degradeStep.pwr = s.pwr ∧ s.degradeStep.thm = s.thm ∧
    s.degradeStep.cmp = s.cmp ∧ s.degradeStep.nv = s.nv ∧ s.degradeStep.ras = s.ras ∧ s.degradeStep.pipe = s.pipe ∧ s.degradeStep.prk = s.prk ∧
    s.degradeStep.apq = s.apq ∧ s.degradeStep.pnl = s.pnl ∧ s.degradeStep.bob = s.bob ∧ s.degradeStep.sel = s.sel ∧ s.degradeStep.hl = s.hl ∧
    s.degradeStep.sec = s.sec ∧ s.degradeStep.tat = s.tat ∧ s.degradeStep.free = s.free ∧ s.degradeStep.pending = s.pending ∧
    s.degradeStep.mem.cells = s.mem.cells ∧ s.degradeStep.mem.hoopFill = s.mem.hoopFill := by
  unfold State.degradeStep
  repeat' split
  all_goals simp

@[simp] theorem State.restore_frame (s : State) (f : Func) :
    (s.restore f).now = s.now ∧ (s.restore f).boot = s.boot ∧ (s.restore f).vin = s.vin ∧ (s.restore f).box = s.box ∧ (s.restore f).eyes = s.eyes ∧
    (s.restore f).par = s.par ∧ (s.restore f).fn = s.fn ∧ (s.restore f).tab = s.tab ∧ (s.restore f).pwr = s.pwr ∧ (s.restore f).thm = s.thm ∧
    (s.restore f).cmp = s.cmp ∧ (s.restore f).nv = s.nv ∧ (s.restore f).ras = s.ras ∧ (s.restore f).pipe = s.pipe ∧ (s.restore f).prk = s.prk ∧
    (s.restore f).apq = s.apq ∧ (s.restore f).pnl = s.pnl ∧ (s.restore f).bob = s.bob ∧ (s.restore f).sel = s.sel ∧ (s.restore f).hl = s.hl ∧
    (s.restore f).sec = s.sec ∧ (s.restore f).tat = s.tat ∧ (s.restore f).free = s.free ∧ (s.restore f).pending = s.pending ∧
    (s.restore f).mem.cells = s.mem.cells ∧ (s.restore f).mem.hoopFill = s.mem.hoopFill := by
  unfold State.restore
  simp

@[simp] theorem State.memFrame_frame (s : State) :
    s.memFrame.now = s.now ∧ s.memFrame.boot = s.boot ∧ s.memFrame.vin = s.vin ∧ s.memFrame.box = s.box ∧ s.memFrame.eyes = s.eyes ∧ s.memFrame.par = s.par ∧
    s.memFrame.fn = s.fn ∧ s.memFrame.tab = s.tab ∧ s.memFrame.pwr = s.pwr ∧ s.memFrame.thm = s.thm ∧ s.memFrame.cmp = s.cmp ∧ s.memFrame.nv = s.nv ∧
    s.memFrame.ras = s.ras ∧ s.memFrame.pipe = s.pipe ∧ s.memFrame.prk = s.prk ∧ s.memFrame.apq = s.apq ∧ s.memFrame.pnl = s.pnl ∧ s.memFrame.bob = s.bob ∧
    s.memFrame.sel = s.sel ∧ s.memFrame.hl = s.hl ∧ s.memFrame.sec = s.sec ∧ s.memFrame.tat = s.tat ∧ s.memFrame.free = s.free ∧
    s.memFrame.pending = s.pending ∧ s.memFrame.mem.cells = s.mem.cells ∧ s.memFrame.mem.hoopFill = s.mem.hoopFill := by
  unfold State.memFrame
  dsimp only
  repeat' split
  all_goals simp

@[simp] theorem State.memFrameEnd_frame (s : State) :
    s.memFrameEnd.now = s.now ∧ s.memFrameEnd.boot = s.boot ∧ s.memFrameEnd.vin = s.vin ∧ s.memFrameEnd.win = s.win ∧ s.memFrameEnd.box = s.box ∧
    s.memFrameEnd.evq = s.evq ∧ s.memFrameEnd.log = s.log ∧ s.memFrameEnd.stat = s.stat ∧ s.memFrameEnd.eyes = s.eyes ∧ s.memFrameEnd.par = s.par ∧
    s.memFrameEnd.fn = s.fn ∧ s.memFrameEnd.tab = s.tab ∧ s.memFrameEnd.pwr = s.pwr ∧ s.memFrameEnd.thm = s.thm ∧ s.memFrameEnd.cmp = s.cmp ∧
    s.memFrameEnd.nv = s.nv ∧ s.memFrameEnd.ras = s.ras ∧ s.memFrameEnd.pipe = s.pipe ∧ s.memFrameEnd.prk = s.prk ∧ s.memFrameEnd.apq = s.apq ∧
    s.memFrameEnd.pnl = s.pnl ∧ s.memFrameEnd.bob = s.bob ∧ s.memFrameEnd.sel = s.sel ∧ s.memFrameEnd.hl = s.hl ∧ s.memFrameEnd.sec = s.sec ∧
    s.memFrameEnd.tat = s.tat ∧ s.memFrameEnd.free = s.free ∧ s.memFrameEnd.pending = s.pending ∧ s.memFrameEnd.mem.cells = s.mem.cells ∧
    s.memFrameEnd.mem.hoopFill = s.mem.hoopFill := by
  unfold State.memFrameEnd
  simp

@[simp] theorem State.fetchMoved_frame (s : State) :
    s.fetchMoved.now = s.now ∧ s.fetchMoved.boot = s.boot ∧ s.fetchMoved.vin = s.vin ∧ s.fetchMoved.win = s.win ∧ s.fetchMoved.box = s.box ∧
    s.fetchMoved.evq = s.evq ∧ s.fetchMoved.log = s.log ∧ s.fetchMoved.stat = s.stat ∧ s.fetchMoved.eyes = s.eyes ∧ s.fetchMoved.par = s.par ∧
    s.fetchMoved.fn = s.fn ∧ s.fetchMoved.tab = s.tab ∧ s.fetchMoved.pwr = s.pwr ∧ s.fetchMoved.thm = s.thm ∧ s.fetchMoved.cmp = s.cmp ∧
    s.fetchMoved.nv = s.nv ∧ s.fetchMoved.ras = s.ras ∧ s.fetchMoved.pipe = s.pipe ∧ s.fetchMoved.prk = s.prk ∧ s.fetchMoved.apq = s.apq ∧
    s.fetchMoved.pnl = s.pnl ∧ s.fetchMoved.bob = s.bob ∧ s.fetchMoved.sel = s.sel ∧ s.fetchMoved.hl = s.hl ∧ s.fetchMoved.sec = s.sec ∧
    s.fetchMoved.tat = s.tat ∧ s.fetchMoved.free = s.free ∧ s.fetchMoved.pending = s.pending ∧ s.fetchMoved.mem.cells = s.mem.cells ∧
    s.fetchMoved.mem.hoopFill = s.mem.hoopFill := by
  unfold State.fetchMoved
  dsimp only
  repeat' split
  all_goals (try simp)
  all_goals (repeat' split)
  all_goals simp_all

@[simp] theorem State.writeBack_frame (s : State) (i : Side) (c : MemClient) :
    (s.writeBack i c).now = s.now ∧ (s.writeBack i c).boot = s.boot ∧ (s.writeBack i c).vin = s.vin ∧ (s.writeBack i c).win = s.win ∧
    (s.writeBack i c).box = s.box ∧ (s.writeBack i c).evq = s.evq ∧ (s.writeBack i c).log = s.log ∧ (s.writeBack i c).stat = s.stat ∧
    (s.writeBack i c).eyes = s.eyes ∧ (s.writeBack i c).par = s.par ∧ (s.writeBack i c).fn = s.fn ∧ (s.writeBack i c).tab = s.tab ∧
    (s.writeBack i c).pwr = s.pwr ∧ (s.writeBack i c).thm = s.thm ∧ (s.writeBack i c).cmp = s.cmp ∧ (s.writeBack i c).nv = s.nv ∧
    (s.writeBack i c).ras = s.ras ∧ (s.writeBack i c).pipe = s.pipe ∧ (s.writeBack i c).prk = s.prk ∧ (s.writeBack i c).apq = s.apq ∧
    (s.writeBack i c).pnl = s.pnl ∧ (s.writeBack i c).bob = s.bob ∧ (s.writeBack i c).sel = s.sel ∧ (s.writeBack i c).hl = s.hl ∧
    (s.writeBack i c).sec = s.sec ∧ (s.writeBack i c).tat = s.tat ∧ (s.writeBack i c).free = s.free ∧ (s.writeBack i c).pending = s.pending ∧
    (s.writeBack i c).mem.cells = s.mem.cells ∧ (s.writeBack i c).mem.hoopFill = s.mem.hoopFill := by
  unfold State.writeBack
  dsimp only
  repeat' split
  all_goals (try simp)
  all_goals (repeat' split)
  all_goals simp_all

@[simp] theorem State.askRest_frame (s : State) (i : Side) (lookahead : Bool) :
    (s.askRest i lookahead).now = s.now ∧ (s.askRest i lookahead).boot = s.boot ∧ (s.askRest i lookahead).vin = s.vin ∧ (s.askRest i lookahead).win = s.win ∧
    (s.askRest i lookahead).box = s.box ∧ (s.askRest i lookahead).evq = s.evq ∧ (s.askRest i lookahead).log = s.log ∧ (s.askRest i lookahead).stat = s.stat ∧
    (s.askRest i lookahead).eyes = s.eyes ∧ (s.askRest i lookahead).par = s.par ∧ (s.askRest i lookahead).fn = s.fn ∧ (s.askRest i lookahead).tab = s.tab ∧
    (s.askRest i lookahead).pwr = s.pwr ∧ (s.askRest i lookahead).thm = s.thm ∧ (s.askRest i lookahead).cmp = s.cmp ∧ (s.askRest i lookahead).nv = s.nv ∧
    (s.askRest i lookahead).ras = s.ras ∧ (s.askRest i lookahead).pipe = s.pipe ∧ (s.askRest i lookahead).prk = s.prk ∧ (s.askRest i lookahead).apq = s.apq ∧
    (s.askRest i lookahead).pnl = s.pnl ∧ (s.askRest i lookahead).bob = s.bob ∧ (s.askRest i lookahead).sel = s.sel ∧ (s.askRest i lookahead).hl = s.hl ∧
    (s.askRest i lookahead).sec = s.sec ∧ (s.askRest i lookahead).tat = s.tat ∧ (s.askRest i lookahead).free = s.free ∧
    (s.askRest i lookahead).pending = s.pending ∧ (s.askRest i lookahead).mem.cells = s.mem.cells ∧ (s.askRest i lookahead).mem.hoopFill = s.mem.hoopFill := by
  unfold State.askRest
  repeat' split
  all_goals simp

@[simp] theorem State.residenceTry_frame (s : State) :
    s.residenceTry.now = s.now ∧ s.residenceTry.boot = s.boot ∧ s.residenceTry.vin = s.vin ∧ s.residenceTry.win = s.win ∧ s.residenceTry.box = s.box ∧
    s.residenceTry.evq = s.evq ∧ s.residenceTry.log = s.log ∧ s.residenceTry.stat = s.stat ∧ s.residenceTry.eyes = s.eyes ∧ s.residenceTry.par = s.par ∧
    s.residenceTry.fn = s.fn ∧ s.residenceTry.tab = s.tab ∧ s.residenceTry.pwr = s.pwr ∧ s.residenceTry.thm = s.thm ∧ s.residenceTry.cmp = s.cmp ∧
    s.residenceTry.nv = s.nv ∧ s.residenceTry.ras = s.ras ∧ s.residenceTry.pipe = s.pipe ∧ s.residenceTry.prk = s.prk ∧ s.residenceTry.apq = s.apq ∧
    s.residenceTry.pnl = s.pnl ∧ s.residenceTry.bob = s.bob ∧ s.residenceTry.sel = s.sel ∧ s.residenceTry.hl = s.hl ∧ s.residenceTry.sec = s.sec ∧
    s.residenceTry.tat = s.tat ∧ s.residenceTry.free = s.free ∧ s.residenceTry.pending = s.pending ∧ s.residenceTry.mem.cells = s.mem.cells ∧
    s.residenceTry.mem.hoopFill = s.mem.hoopFill := by
  unfold State.residenceTry
  repeat' split
  all_goals simp

@[simp] theorem State.residenceEvent_frame (s : State) (what : Nat) :
    (s.residenceEvent what).now = s.now ∧ (s.residenceEvent what).boot = s.boot ∧ (s.residenceEvent what).vin = s.vin ∧ (s.residenceEvent what).box = s.box ∧
    (s.residenceEvent what).eyes = s.eyes ∧ (s.residenceEvent what).par = s.par ∧ (s.residenceEvent what).fn = s.fn ∧ (s.residenceEvent what).tab = s.tab ∧
    (s.residenceEvent what).pwr = s.pwr ∧ (s.residenceEvent what).thm = s.thm ∧ (s.residenceEvent what).mem = s.mem ∧ (s.residenceEvent what).cmp = s.cmp ∧
    (s.residenceEvent what).nv = s.nv ∧ (s.residenceEvent what).ras = s.ras ∧ (s.residenceEvent what).pipe = s.pipe ∧ (s.residenceEvent what).prk = s.prk ∧
    (s.residenceEvent what).apq = s.apq ∧ (s.residenceEvent what).pnl = s.pnl ∧ (s.residenceEvent what).bob = s.bob ∧ (s.residenceEvent what).sel = s.sel ∧
    (s.residenceEvent what).hl = s.hl ∧ (s.residenceEvent what).sec = s.sec ∧ (s.residenceEvent what).tat = s.tat ∧ (s.residenceEvent what).free = s.free ∧
    (s.residenceEvent what).pending = s.pending := by
  unfold State.residenceEvent
  simp

@[simp] theorem State.residentFail_frame (s : State) :
    s.residentFail.now = s.now ∧ s.residentFail.boot = s.boot ∧ s.residentFail.vin = s.vin ∧ s.residentFail.box = s.box ∧ s.residentFail.eyes = s.eyes ∧
    s.residentFail.par = s.par ∧ s.residentFail.fn = s.fn ∧ s.residentFail.tab = s.tab ∧ s.residentFail.pwr = s.pwr ∧ s.residentFail.thm = s.thm ∧
    s.residentFail.cmp = s.cmp ∧ s.residentFail.nv = s.nv ∧ s.residentFail.ras = s.ras ∧ s.residentFail.pipe = s.pipe ∧ s.residentFail.prk = s.prk ∧
    s.residentFail.apq = s.apq ∧ s.residentFail.pnl = s.pnl ∧ s.residentFail.bob = s.bob ∧ s.residentFail.sel = s.sel ∧ s.residentFail.hl = s.hl ∧
    s.residentFail.sec = s.sec ∧ s.residentFail.tat = s.tat ∧ s.residentFail.free = s.free ∧ s.residentFail.pending = s.pending ∧
    s.residentFail.mem.cells = s.mem.cells ∧ s.residentFail.mem.hoopFill = s.mem.hoopFill := by
  unfold State.residentFail
  simp

@[simp] theorem State.residenceFrame_frame (s : State) (entered moved timing : Bool) :
    (s.residenceFrame entered moved timing).now = s.now ∧ (s.residenceFrame entered moved timing).boot = s.boot ∧
    (s.residenceFrame entered moved timing).vin = s.vin ∧ (s.residenceFrame entered moved timing).box = s.box ∧
    (s.residenceFrame entered moved timing).eyes = s.eyes ∧ (s.residenceFrame entered moved timing).par = s.par ∧
    (s.residenceFrame entered moved timing).fn = s.fn ∧ (s.residenceFrame entered moved timing).tab = s.tab ∧
    (s.residenceFrame entered moved timing).pwr = s.pwr ∧ (s.residenceFrame entered moved timing).thm = s.thm ∧
    (s.residenceFrame entered moved timing).cmp = s.cmp ∧ (s.residenceFrame entered moved timing).nv = s.nv ∧
    (s.residenceFrame entered moved timing).ras = s.ras ∧ (s.residenceFrame entered moved timing).pipe = s.pipe ∧
    (s.residenceFrame entered moved timing).prk = s.prk ∧ (s.residenceFrame entered moved timing).apq = s.apq ∧
    (s.residenceFrame entered moved timing).pnl = s.pnl ∧ (s.residenceFrame entered moved timing).bob = s.bob ∧
    (s.residenceFrame entered moved timing).sel = s.sel ∧ (s.residenceFrame entered moved timing).hl = s.hl ∧
    (s.residenceFrame entered moved timing).sec = s.sec ∧ (s.residenceFrame entered moved timing).tat = s.tat ∧
    (s.residenceFrame entered moved timing).free = s.free ∧ (s.residenceFrame entered moved timing).pending = s.pending ∧
    (s.residenceFrame entered moved timing).mem.cells = s.mem.cells ∧ (s.residenceFrame entered moved timing).mem.hoopFill = s.mem.hoopFill := by
  unfold State.residenceFrame
  dsimp only
  repeat' split
  all_goals simp

@[simp] theorem State.sendSets_frame (s : State) (f : Nat → List BobSet) (to_ : List Nat) :
    (s.sendSets f to_).now = s.now ∧ (s.sendSets f to_).boot = s.boot ∧ (s.sendSets f to_).vin = s.vin ∧ (s.sendSets f to_).win = s.win ∧
    (s.sendSets f to_).box = s.box ∧ (s.sendSets f to_).evq = s.evq ∧ (s.sendSets f to_).log = s.log ∧ (s.sendSets f to_).stat = s.stat ∧
    (s.sendSets f to_).eyes = s.eyes ∧ (s.sendSets f to_).par = s.par ∧ (s.sendSets f to_).fn = s.fn ∧ (s.sendSets f to_).tab = s.tab ∧
    (s.sendSets f to_).pwr = s.pwr ∧ (s.sendSets f to_).thm = s.thm ∧ (s.sendSets f to_).mem = s.mem ∧ (s.sendSets f to_).cmp = s.cmp ∧
    (s.sendSets f to_).nv = s.nv ∧ (s.sendSets f to_).ras = s.ras ∧ (s.sendSets f to_).pipe = s.pipe ∧ (s.sendSets f to_).prk = s.prk ∧
    (s.sendSets f to_).apq = s.apq ∧ (s.sendSets f to_).pnl = s.pnl ∧ (s.sendSets f to_).sel = s.sel ∧ (s.sendSets f to_).hl = s.hl ∧
    (s.sendSets f to_).sec = s.sec ∧ (s.sendSets f to_).tat = s.tat ∧ (s.sendSets f to_).free = s.free ∧ (s.sendSets f to_).pending = s.pending := by
  unfold State.sendSets
  simp

@[simp] theorem State.sendPackets_frame (s : State) (f : Nat → List BobPacket) (to_ : List Nat) :
    (s.sendPackets f to_).now = s.now ∧ (s.sendPackets f to_).boot = s.boot ∧ (s.sendPackets f to_).vin = s.vin ∧ (s.sendPackets f to_).win = s.win ∧
    (s.sendPackets f to_).box = s.box ∧ (s.sendPackets f to_).evq = s.evq ∧ (s.sendPackets f to_).log = s.log ∧ (s.sendPackets f to_).stat = s.stat ∧
    (s.sendPackets f to_).eyes = s.eyes ∧ (s.sendPackets f to_).par = s.par ∧ (s.sendPackets f to_).fn = s.fn ∧ (s.sendPackets f to_).tab = s.tab ∧
    (s.sendPackets f to_).pwr = s.pwr ∧ (s.sendPackets f to_).thm = s.thm ∧ (s.sendPackets f to_).mem = s.mem ∧ (s.sendPackets f to_).cmp = s.cmp ∧
    (s.sendPackets f to_).nv = s.nv ∧ (s.sendPackets f to_).ras = s.ras ∧ (s.sendPackets f to_).pipe = s.pipe ∧ (s.sendPackets f to_).prk = s.prk ∧
    (s.sendPackets f to_).apq = s.apq ∧ (s.sendPackets f to_).pnl = s.pnl ∧ (s.sendPackets f to_).sel = s.sel ∧ (s.sendPackets f to_).hl = s.hl ∧
    (s.sendPackets f to_).sec = s.sec ∧ (s.sendPackets f to_).tat = s.tat ∧ (s.sendPackets f to_).free = s.free ∧ (s.sendPackets f to_).pending = s.pending := by
  unfold State.sendPackets
  simp

@[simp] theorem State.sendTrain_frame (s : State) (phase : Nat) :
    (s.sendTrain phase).now = s.now ∧ (s.sendTrain phase).boot = s.boot ∧ (s.sendTrain phase).vin = s.vin ∧ (s.sendTrain phase).win = s.win ∧
    (s.sendTrain phase).box = s.box ∧ (s.sendTrain phase).evq = s.evq ∧ (s.sendTrain phase).log = s.log ∧ (s.sendTrain phase).stat = s.stat ∧
    (s.sendTrain phase).eyes = s.eyes ∧ (s.sendTrain phase).par = s.par ∧ (s.sendTrain phase).fn = s.fn ∧ (s.sendTrain phase).tab = s.tab ∧
    (s.sendTrain phase).pwr = s.pwr ∧ (s.sendTrain phase).thm = s.thm ∧ (s.sendTrain phase).mem = s.mem ∧ (s.sendTrain phase).cmp = s.cmp ∧
    (s.sendTrain phase).nv = s.nv ∧ (s.sendTrain phase).ras = s.ras ∧ (s.sendTrain phase).pipe = s.pipe ∧ (s.sendTrain phase).prk = s.prk ∧
    (s.sendTrain phase).apq = s.apq ∧ (s.sendTrain phase).pnl = s.pnl ∧ (s.sendTrain phase).sel = s.sel ∧ (s.sendTrain phase).hl = s.hl ∧
    (s.sendTrain phase).sec = s.sec ∧ (s.sendTrain phase).tat = s.tat ∧ (s.sendTrain phase).pending = s.pending := by
  unfold State.sendTrain
  simp

@[simp] theorem State.sendFill_frame (s : State) :
    s.sendFill.now = s.now ∧ s.sendFill.boot = s.boot ∧ s.sendFill.vin = s.vin ∧ s.sendFill.win = s.win ∧ s.sendFill.box = s.box ∧ s.sendFill.evq = s.evq ∧
    s.sendFill.log = s.log ∧ s.sendFill.stat = s.stat ∧ s.sendFill.eyes = s.eyes ∧ s.sendFill.par = s.par ∧ s.sendFill.fn = s.fn ∧ s.sendFill.tab = s.tab ∧
    s.sendFill.pwr = s.pwr ∧ s.sendFill.thm = s.thm ∧ s.sendFill.mem = s.mem ∧ s.sendFill.cmp = s.cmp ∧ s.sendFill.nv = s.nv ∧ s.sendFill.ras = s.ras ∧
    s.sendFill.pipe = s.pipe ∧ s.sendFill.prk = s.prk ∧ s.sendFill.apq = s.apq ∧ s.sendFill.pnl = s.pnl ∧ s.sendFill.sel = s.sel ∧ s.sendFill.hl = s.hl ∧
    s.sendFill.sec = s.sec ∧ s.sendFill.tat = s.tat ∧ s.sendFill.pending = s.pending := by
  unfold State.sendFill
  simp

@[simp] theorem State.sendCodes_frame (s : State) (r : Nat) (codes : List Nat) (fill : Bool) :
    (s.sendCodes r codes fill).now = s.now ∧ (s.sendCodes r codes fill).boot = s.boot ∧ (s.sendCodes r codes fill).vin = s.vin ∧
    (s.sendCodes r codes fill).win = s.win ∧ (s.sendCodes r codes fill).box = s.box ∧ (s.sendCodes r codes fill).evq = s.evq ∧
    (s.sendCodes r codes fill).log = s.log ∧ (s.sendCodes r codes fill).stat = s.stat ∧ (s.sendCodes r codes fill).eyes = s.eyes ∧
    (s.sendCodes r codes fill).par = s.par ∧ (s.sendCodes r codes fill).fn = s.fn ∧ (s.sendCodes r codes fill).tab = s.tab ∧
    (s.sendCodes r codes fill).pwr = s.pwr ∧ (s.sendCodes r codes fill).thm = s.thm ∧ (s.sendCodes r codes fill).mem = s.mem ∧
    (s.sendCodes r codes fill).cmp = s.cmp ∧ (s.sendCodes r codes fill).nv = s.nv ∧ (s.sendCodes r codes fill).ras = s.ras ∧
    (s.sendCodes r codes fill).pipe = s.pipe ∧ (s.sendCodes r codes fill).prk = s.prk ∧ (s.sendCodes r codes fill).apq = s.apq ∧
    (s.sendCodes r codes fill).pnl = s.pnl ∧ (s.sendCodes r codes fill).sel = s.sel ∧ (s.sendCodes r codes fill).hl = s.hl ∧
    (s.sendCodes r codes fill).sec = s.sec ∧ (s.sendCodes r codes fill).tat = s.tat ∧ (s.sendCodes r codes fill).pending = s.pending := by
  unfold State.sendCodes
  simp

@[simp] theorem State.sendSensed_frame (s : State) (row : SentRow) (slot levels : Nat) (dark : Bool) :
    (s.sendSensed row slot levels dark).now = s.now ∧ (s.sendSensed row slot levels dark).boot = s.boot ∧ (s.sendSensed row slot levels dark).vin = s.vin ∧
    (s.sendSensed row slot levels dark).win = s.win ∧ (s.sendSensed row slot levels dark).box = s.box ∧ (s.sendSensed row slot levels dark).evq = s.evq ∧
    (s.sendSensed row slot levels dark).log = s.log ∧ (s.sendSensed row slot levels dark).stat = s.stat ∧ (s.sendSensed row slot levels dark).eyes = s.eyes ∧
    (s.sendSensed row slot levels dark).par = s.par ∧ (s.sendSensed row slot levels dark).fn = s.fn ∧ (s.sendSensed row slot levels dark).tab = s.tab ∧
    (s.sendSensed row slot levels dark).pwr = s.pwr ∧ (s.sendSensed row slot levels dark).thm = s.thm ∧ (s.sendSensed row slot levels dark).mem = s.mem ∧
    (s.sendSensed row slot levels dark).cmp = s.cmp ∧ (s.sendSensed row slot levels dark).nv = s.nv ∧ (s.sendSensed row slot levels dark).ras = s.ras ∧
    (s.sendSensed row slot levels dark).pipe = s.pipe ∧ (s.sendSensed row slot levels dark).prk = s.prk ∧ (s.sendSensed row slot levels dark).apq = s.apq ∧
    (s.sendSensed row slot levels dark).pnl = s.pnl ∧ (s.sendSensed row slot levels dark).sel = s.sel ∧ (s.sendSensed row slot levels dark).hl = s.hl ∧
    (s.sendSensed row slot levels dark).sec = s.sec ∧ (s.sendSensed row slot levels dark).tat = s.tat ∧ (s.sendSensed row slot levels dark).free = s.free ∧
    (s.sendSensed row slot levels dark).pending = s.pending := by
  unfold State.sendSensed
  simp

@[simp] theorem State.sendRequests_frame (s : State) (ls : List Nat) :
    (s.sendRequests ls).now = s.now ∧ (s.sendRequests ls).boot = s.boot ∧ (s.sendRequests ls).vin = s.vin ∧ (s.sendRequests ls).eyes = s.eyes ∧
    (s.sendRequests ls).par = s.par ∧ (s.sendRequests ls).fn = s.fn ∧ (s.sendRequests ls).tab = s.tab ∧ (s.sendRequests ls).thm = s.thm ∧
    (s.sendRequests ls).cmp = s.cmp ∧ (s.sendRequests ls).nv = s.nv ∧ (s.sendRequests ls).pipe = s.pipe ∧ (s.sendRequests ls).prk = s.prk ∧
    (s.sendRequests ls).pnl = s.pnl ∧ (s.sendRequests ls).sel = s.sel ∧ (s.sendRequests ls).pending = s.pending ∧
    (s.sendRequests ls).mem.hoopFill = s.mem.hoopFill := by
  unfold State.sendRequests
  simp

@[simp] theorem State.askResults_frame (s : State) (rows : Nat) :
    (s.askResults rows).now = s.now ∧ (s.askResults rows).boot = s.boot ∧ (s.askResults rows).vin = s.vin ∧ (s.askResults rows).eyes = s.eyes ∧
    (s.askResults rows).par = s.par ∧ (s.askResults rows).fn = s.fn ∧ (s.askResults rows).tab = s.tab ∧ (s.askResults rows).thm = s.thm ∧
    (s.askResults rows).cmp = s.cmp ∧ (s.askResults rows).nv = s.nv ∧ (s.askResults rows).pipe = s.pipe ∧ (s.askResults rows).prk = s.prk ∧
    (s.askResults rows).pnl = s.pnl ∧ (s.askResults rows).sel = s.sel ∧ (s.askResults rows).pending = s.pending ∧
    (s.askResults rows).mem.hoopFill = s.mem.hoopFill := by
  unfold State.askResults
  repeat' split
  all_goals (try simp)
  all_goals (repeat' split)
  all_goals (try simp_all)

@[simp] theorem State.dropReadouts_frame (s : State) :
    s.dropReadouts.now = s.now ∧ s.dropReadouts.boot = s.boot ∧ s.dropReadouts.vin = s.vin ∧ s.dropReadouts.win = s.win ∧ s.dropReadouts.box = s.box ∧
    s.dropReadouts.evq = s.evq ∧ s.dropReadouts.log = s.log ∧ s.dropReadouts.stat = s.stat ∧ s.dropReadouts.eyes = s.eyes ∧ s.dropReadouts.par = s.par ∧
    s.dropReadouts.fn = s.fn ∧ s.dropReadouts.tab = s.tab ∧ s.dropReadouts.pwr = s.pwr ∧ s.dropReadouts.thm = s.thm ∧ s.dropReadouts.mem = s.mem ∧
    s.dropReadouts.cmp = s.cmp ∧ s.dropReadouts.nv = s.nv ∧ s.dropReadouts.ras = s.ras ∧ s.dropReadouts.pipe = s.pipe ∧ s.dropReadouts.prk = s.prk ∧
    s.dropReadouts.apq = s.apq ∧ s.dropReadouts.pnl = s.pnl ∧ s.dropReadouts.sel = s.sel ∧ s.dropReadouts.hl = s.hl ∧ s.dropReadouts.sec = s.sec ∧
    s.dropReadouts.tat = s.tat ∧ s.dropReadouts.free = s.free ∧ s.dropReadouts.pending = s.pending := by
  unfold State.dropReadouts
  simp

@[simp] theorem State.retain_frame (s : State) (p : SensePair) :
    (s.retain p).now = s.now ∧ (s.retain p).boot = s.boot ∧ (s.retain p).vin = s.vin ∧ (s.retain p).win = s.win ∧ (s.retain p).box = s.box ∧
    (s.retain p).evq = s.evq ∧ (s.retain p).log = s.log ∧ (s.retain p).stat = s.stat ∧ (s.retain p).eyes = s.eyes ∧ (s.retain p).par = s.par ∧
    (s.retain p).fn = s.fn ∧ (s.retain p).tab = s.tab ∧ (s.retain p).pwr = s.pwr ∧ (s.retain p).thm = s.thm ∧ (s.retain p).mem = s.mem ∧
    (s.retain p).cmp = s.cmp ∧ (s.retain p).nv = s.nv ∧ (s.retain p).ras = s.ras ∧ (s.retain p).pipe = s.pipe ∧ (s.retain p).apq = s.apq ∧
    (s.retain p).pnl = s.pnl ∧ (s.retain p).bob = s.bob ∧ (s.retain p).sel = s.sel ∧ (s.retain p).hl = s.hl ∧ (s.retain p).sec = s.sec ∧
    (s.retain p).tat = s.tat ∧ (s.retain p).free = s.free ∧ (s.retain p).pending = s.pending := by
  unfold State.retain
  simp

@[simp] theorem State.pend_frame (s : State) (f : Fold) :
    (s.pend f).now = s.now ∧ (s.pend f).boot = s.boot ∧ (s.pend f).vin = s.vin ∧ (s.pend f).win = s.win ∧ (s.pend f).box = s.box ∧ (s.pend f).evq = s.evq ∧
    (s.pend f).log = s.log ∧ (s.pend f).stat = s.stat ∧ (s.pend f).eyes = s.eyes ∧ (s.pend f).par = s.par ∧ (s.pend f).fn = s.fn ∧ (s.pend f).tab = s.tab ∧
    (s.pend f).pwr = s.pwr ∧ (s.pend f).thm = s.thm ∧ (s.pend f).mem = s.mem ∧ (s.pend f).cmp = s.cmp ∧ (s.pend f).nv = s.nv ∧ (s.pend f).ras = s.ras ∧
    (s.pend f).pipe = s.pipe ∧ (s.pend f).apq = s.apq ∧ (s.pend f).pnl = s.pnl ∧ (s.pend f).bob = s.bob ∧ (s.pend f).sel = s.sel ∧ (s.pend f).hl = s.hl ∧
    (s.pend f).sec = s.sec ∧ (s.pend f).tat = s.tat ∧ (s.pend f).free = s.free ∧ (s.pend f).pending = s.pending := by
  unfold State.pend
  simp

@[simp] theorem State.takePair_frame (s : State) (px c : Nat) (lo hi : Option Nat) :
    (s.takePair px c lo hi).now = s.now ∧ (s.takePair px c lo hi).boot = s.boot ∧ (s.takePair px c lo hi).vin = s.vin ∧ (s.takePair px c lo hi).win = s.win ∧
    (s.takePair px c lo hi).box = s.box ∧ (s.takePair px c lo hi).evq = s.evq ∧ (s.takePair px c lo hi).log = s.log ∧ (s.takePair px c lo hi).eyes = s.eyes ∧
    (s.takePair px c lo hi).par = s.par ∧ (s.takePair px c lo hi).fn = s.fn ∧ (s.takePair px c lo hi).tab = s.tab ∧ (s.takePair px c lo hi).pwr = s.pwr ∧
    (s.takePair px c lo hi).thm = s.thm ∧ (s.takePair px c lo hi).mem = s.mem ∧ (s.takePair px c lo hi).cmp = s.cmp ∧ (s.takePair px c lo hi).nv = s.nv ∧
    (s.takePair px c lo hi).ras = s.ras ∧ (s.takePair px c lo hi).pipe = s.pipe ∧ (s.takePair px c lo hi).apq = s.apq ∧ (s.takePair px c lo hi).pnl = s.pnl ∧
    (s.takePair px c lo hi).bob = s.bob ∧ (s.takePair px c lo hi).sel = s.sel ∧ (s.takePair px c lo hi).hl = s.hl ∧ (s.takePair px c lo hi).sec = s.sec ∧
    (s.takePair px c lo hi).tat = s.tat ∧ (s.takePair px c lo hi).free = s.free ∧ (s.takePair px c lo hi).pending = s.pending := by
  unfold State.takePair
  dsimp only
  repeat' split
  all_goals simp

@[simp] theorem State.blankComplete_frame (s : State) :
    s.blankComplete.now = s.now ∧ s.blankComplete.boot = s.boot ∧ s.blankComplete.vin = s.vin ∧ s.blankComplete.win = s.win ∧ s.blankComplete.box = s.box ∧
    s.blankComplete.evq = s.evq ∧ s.blankComplete.log = s.log ∧ s.blankComplete.eyes = s.eyes ∧ s.blankComplete.par = s.par ∧ s.blankComplete.fn = s.fn ∧
    s.blankComplete.tab = s.tab ∧ s.blankComplete.pwr = s.pwr ∧ s.blankComplete.thm = s.thm ∧ s.blankComplete.mem = s.mem ∧ s.blankComplete.cmp = s.cmp ∧
    s.blankComplete.nv = s.nv ∧ s.blankComplete.ras = s.ras ∧ s.blankComplete.pipe = s.pipe ∧ s.blankComplete.apq = s.apq ∧ s.blankComplete.pnl = s.pnl ∧
    s.blankComplete.bob = s.bob ∧ s.blankComplete.sel = s.sel ∧ s.blankComplete.hl = s.hl ∧ s.blankComplete.sec = s.sec ∧ s.blankComplete.tat = s.tat ∧
    s.blankComplete.free = s.free ∧ s.blankComplete.pending = s.pending := by
  unfold State.blankComplete
  simp

@[simp] theorem State.takeTemps_frame (s : State) (g t0 t1 : Nat) :
    (s.takeTemps g t0 t1).now = s.now ∧ (s.takeTemps g t0 t1).boot = s.boot ∧ (s.takeTemps g t0 t1).vin = s.vin ∧ (s.takeTemps g t0 t1).win = s.win ∧
    (s.takeTemps g t0 t1).box = s.box ∧ (s.takeTemps g t0 t1).evq = s.evq ∧ (s.takeTemps g t0 t1).log = s.log ∧ (s.takeTemps g t0 t1).stat = s.stat ∧
    (s.takeTemps g t0 t1).eyes = s.eyes ∧ (s.takeTemps g t0 t1).par = s.par ∧ (s.takeTemps g t0 t1).fn = s.fn ∧ (s.takeTemps g t0 t1).tab = s.tab ∧
    (s.takeTemps g t0 t1).pwr = s.pwr ∧ (s.takeTemps g t0 t1).thm = s.thm ∧ (s.takeTemps g t0 t1).mem = s.mem ∧ (s.takeTemps g t0 t1).cmp = s.cmp ∧
    (s.takeTemps g t0 t1).nv = s.nv ∧ (s.takeTemps g t0 t1).ras = s.ras ∧ (s.takeTemps g t0 t1).prk = s.prk ∧ (s.takeTemps g t0 t1).apq = s.apq ∧
    (s.takeTemps g t0 t1).pnl = s.pnl ∧ (s.takeTemps g t0 t1).bob = s.bob ∧ (s.takeTemps g t0 t1).sel = s.sel ∧ (s.takeTemps g t0 t1).hl = s.hl ∧
    (s.takeTemps g t0 t1).sec = s.sec ∧ (s.takeTemps g t0 t1).tat = s.tat ∧ (s.takeTemps g t0 t1).free = s.free ∧ (s.takeTemps g t0 t1).pending = s.pending := by
  unfold State.takeTemps
  simp

@[simp] theorem State.takeStatus_frame (s : State) (g v : Nat) :
    (s.takeStatus g v).now = s.now ∧ (s.takeStatus g v).boot = s.boot ∧ (s.takeStatus g v).vin = s.vin ∧ (s.takeStatus g v).win = s.win ∧
    (s.takeStatus g v).box = s.box ∧ (s.takeStatus g v).evq = s.evq ∧ (s.takeStatus g v).log = s.log ∧ (s.takeStatus g v).eyes = s.eyes ∧
    (s.takeStatus g v).par = s.par ∧ (s.takeStatus g v).fn = s.fn ∧ (s.takeStatus g v).tab = s.tab ∧ (s.takeStatus g v).pwr = s.pwr ∧
    (s.takeStatus g v).thm = s.thm ∧ (s.takeStatus g v).mem = s.mem ∧ (s.takeStatus g v).cmp = s.cmp ∧ (s.takeStatus g v).nv = s.nv ∧
    (s.takeStatus g v).ras = s.ras ∧ (s.takeStatus g v).pipe = s.pipe ∧ (s.takeStatus g v).prk = s.prk ∧ (s.takeStatus g v).apq = s.apq ∧
    (s.takeStatus g v).pnl = s.pnl ∧ (s.takeStatus g v).sel = s.sel ∧ (s.takeStatus g v).hl = s.hl ∧ (s.takeStatus g v).sec = s.sec ∧
    (s.takeStatus g v).tat = s.tat ∧ (s.takeStatus g v).free = s.free ∧ (s.takeStatus g v).pending = s.pending := by
  unfold State.takeStatus
  simp

@[simp] theorem State.pollRoundEnd_frame (s : State) :
    s.pollRoundEnd.now = s.now ∧ s.pollRoundEnd.boot = s.boot ∧ s.pollRoundEnd.vin = s.vin ∧ s.pollRoundEnd.box = s.box ∧ s.pollRoundEnd.eyes = s.eyes ∧
    s.pollRoundEnd.par = s.par ∧ s.pollRoundEnd.fn = s.fn ∧ s.pollRoundEnd.tab = s.tab ∧ s.pollRoundEnd.pwr = s.pwr ∧ s.pollRoundEnd.thm = s.thm ∧
    s.pollRoundEnd.mem = s.mem ∧ s.pollRoundEnd.cmp = s.cmp ∧ s.pollRoundEnd.nv = s.nv ∧ s.pollRoundEnd.ras = s.ras ∧ s.pollRoundEnd.pipe = s.pipe ∧
    s.pollRoundEnd.prk = s.prk ∧ s.pollRoundEnd.apq = s.apq ∧ s.pollRoundEnd.pnl = s.pnl ∧ s.pollRoundEnd.sel = s.sel ∧ s.pollRoundEnd.hl = s.hl ∧
    s.pollRoundEnd.sec = s.sec ∧ s.pollRoundEnd.tat = s.tat ∧ s.pollRoundEnd.free = s.free ∧ s.pollRoundEnd.pending = s.pending := by
  unfold State.pollRoundEnd
  simp

@[simp] theorem State.readoutEnd_frame (s : State) :
    s.readoutEnd.now = s.now ∧ s.readoutEnd.boot = s.boot ∧ s.readoutEnd.vin = s.vin ∧ s.readoutEnd.win = s.win ∧ s.readoutEnd.box = s.box ∧
    s.readoutEnd.evq = s.evq ∧ s.readoutEnd.log = s.log ∧ s.readoutEnd.eyes = s.eyes ∧ s.readoutEnd.par = s.par ∧ s.readoutEnd.fn = s.fn ∧
    s.readoutEnd.tab = s.tab ∧ s.readoutEnd.pwr = s.pwr ∧ s.readoutEnd.thm = s.thm ∧ s.readoutEnd.mem = s.mem ∧ s.readoutEnd.cmp = s.cmp ∧
    s.readoutEnd.nv = s.nv ∧ s.readoutEnd.ras = s.ras ∧ s.readoutEnd.pipe = s.pipe ∧ s.readoutEnd.apq = s.apq ∧ s.readoutEnd.pnl = s.pnl ∧
    s.readoutEnd.bob = s.bob ∧ s.readoutEnd.sel = s.sel ∧ s.readoutEnd.hl = s.hl ∧ s.readoutEnd.sec = s.sec ∧ s.readoutEnd.tat = s.tat ∧
    s.readoutEnd.free = s.free ∧ s.readoutEnd.pending = s.pending := by
  unfold State.readoutEnd
  simp

@[simp] theorem State.laneReply_frame (s : State) (l : Nat) (p : Option (Nat × Nat × List Byte)) :
    (s.laneReply l p).now = s.now ∧ (s.laneReply l p).boot = s.boot ∧ (s.laneReply l p).vin = s.vin ∧ (s.laneReply l p).eyes = s.eyes ∧
    (s.laneReply l p).par = s.par ∧ (s.laneReply l p).fn = s.fn ∧ (s.laneReply l p).tab = s.tab ∧ (s.laneReply l p).thm = s.thm ∧
    (s.laneReply l p).cmp = s.cmp ∧ (s.laneReply l p).nv = s.nv ∧ (s.laneReply l p).pnl = s.pnl ∧ (s.laneReply l p).sel = s.sel ∧
    (s.laneReply l p).pending = s.pending ∧ (s.laneReply l p).mem.hoopFill = s.mem.hoopFill := by
  unfold State.laneReply
  dsimp only
  repeat' split
  all_goals (try simp)
  all_goals (repeat' split)
  all_goals simp_all

@[simp] theorem State.senseClear_frame (s : State) :
    s.senseClear.now = s.now ∧ s.senseClear.boot = s.boot ∧ s.senseClear.vin = s.vin ∧ s.senseClear.win = s.win ∧ s.senseClear.box = s.box ∧
    s.senseClear.evq = s.evq ∧ s.senseClear.log = s.log ∧ s.senseClear.stat = s.stat ∧ s.senseClear.eyes = s.eyes ∧ s.senseClear.par = s.par ∧
    s.senseClear.fn = s.fn ∧ s.senseClear.tab = s.tab ∧ s.senseClear.pwr = s.pwr ∧ s.senseClear.thm = s.thm ∧ s.senseClear.mem = s.mem ∧
    s.senseClear.cmp = s.cmp ∧ s.senseClear.nv = s.nv ∧ s.senseClear.ras = s.ras ∧ s.senseClear.pipe = s.pipe ∧ s.senseClear.apq = s.apq ∧
    s.senseClear.pnl = s.pnl ∧ s.senseClear.sel = s.sel ∧ s.senseClear.hl = s.hl ∧ s.senseClear.sec = s.sec ∧ s.senseClear.tat = s.tat ∧
    s.senseClear.free = s.free ∧ s.senseClear.pending = s.pending := by
  unfold State.senseClear
  dsimp only
  repeat' split
  all_goals (try simp)
  all_goals (repeat' split)
  all_goals simp_all

@[simp] theorem State.senseBlank_frame (s : State) (plain : Bool) :
    (s.senseBlank plain).now = s.now ∧ (s.senseBlank plain).boot = s.boot ∧ (s.senseBlank plain).vin = s.vin ∧ (s.senseBlank plain).win = s.win ∧
    (s.senseBlank plain).box = s.box ∧ (s.senseBlank plain).evq = s.evq ∧ (s.senseBlank plain).log = s.log ∧ (s.senseBlank plain).eyes = s.eyes ∧
    (s.senseBlank plain).par = s.par ∧ (s.senseBlank plain).fn = s.fn ∧ (s.senseBlank plain).tab = s.tab ∧ (s.senseBlank plain).pwr = s.pwr ∧
    (s.senseBlank plain).thm = s.thm ∧ (s.senseBlank plain).mem = s.mem ∧ (s.senseBlank plain).cmp = s.cmp ∧ (s.senseBlank plain).nv = s.nv ∧
    (s.senseBlank plain).ras = s.ras ∧ (s.senseBlank plain).pipe = s.pipe ∧ (s.senseBlank plain).apq = s.apq ∧ (s.senseBlank plain).pnl = s.pnl ∧
    (s.senseBlank plain).sel = s.sel ∧ (s.senseBlank plain).hl = s.hl ∧ (s.senseBlank plain).sec = s.sec ∧ (s.senseBlank plain).tat = s.tat ∧
    (s.senseBlank plain).free = s.free ∧ (s.senseBlank plain).pending = s.pending := by
  unfold State.senseBlank
  simp

@[simp] theorem State.senseCut_frame (s : State) :
    s.senseCut.now = s.now ∧ s.senseCut.boot = s.boot ∧ s.senseCut.vin = s.vin ∧ s.senseCut.win = s.win ∧ s.senseCut.box = s.box ∧ s.senseCut.evq = s.evq ∧
    s.senseCut.log = s.log ∧ s.senseCut.eyes = s.eyes ∧ s.senseCut.par = s.par ∧ s.senseCut.fn = s.fn ∧ s.senseCut.tab = s.tab ∧ s.senseCut.pwr = s.pwr ∧
    s.senseCut.thm = s.thm ∧ s.senseCut.mem = s.mem ∧ s.senseCut.cmp = s.cmp ∧ s.senseCut.nv = s.nv ∧ s.senseCut.ras = s.ras ∧ s.senseCut.pipe = s.pipe ∧
    s.senseCut.apq = s.apq ∧ s.senseCut.pnl = s.pnl ∧ s.senseCut.bob = s.bob ∧ s.senseCut.sel = s.sel ∧ s.senseCut.hl = s.hl ∧ s.senseCut.sec = s.sec ∧
    s.senseCut.tat = s.tat ∧ s.senseCut.free = s.free ∧ s.senseCut.pending = s.pending := by
  unfold State.senseCut
  simp

@[simp] theorem State.senseFrame_frame (s : State) :
    s.senseFrame.now = s.now ∧ s.senseFrame.boot = s.boot ∧ s.senseFrame.vin = s.vin ∧ s.senseFrame.eyes = s.eyes ∧ s.senseFrame.par = s.par ∧
    s.senseFrame.fn = s.fn ∧ s.senseFrame.tab = s.tab ∧ s.senseFrame.thm = s.thm ∧ s.senseFrame.cmp = s.cmp ∧ s.senseFrame.nv = s.nv ∧
    s.senseFrame.pipe = s.pipe ∧ s.senseFrame.prk = s.prk ∧ s.senseFrame.pnl = s.pnl ∧ s.senseFrame.sel = s.sel ∧ s.senseFrame.pending = s.pending ∧
    s.senseFrame.mem.hoopFill = s.mem.hoopFill := by
  unfold State.senseFrame
  simp

@[simp] theorem State.senseReset_frame (s : State) :
    s.senseReset.now = s.now ∧ s.senseReset.boot = s.boot ∧ s.senseReset.vin = s.vin ∧ s.senseReset.win = s.win ∧ s.senseReset.box = s.box ∧
    s.senseReset.evq = s.evq ∧ s.senseReset.log = s.log ∧ s.senseReset.stat = s.stat ∧ s.senseReset.eyes = s.eyes ∧ s.senseReset.par = s.par ∧
    s.senseReset.fn = s.fn ∧ s.senseReset.tab = s.tab ∧ s.senseReset.pwr = s.pwr ∧ s.senseReset.thm = s.thm ∧ s.senseReset.mem = s.mem ∧
    s.senseReset.cmp = s.cmp ∧ s.senseReset.nv = s.nv ∧ s.senseReset.ras = s.ras ∧ s.senseReset.pipe = s.pipe ∧ s.senseReset.apq = s.apq ∧
    s.senseReset.pnl = s.pnl ∧ s.senseReset.sel = s.sel ∧ s.senseReset.hl = s.hl ∧ s.senseReset.sec = s.sec ∧ s.senseReset.tat = s.tat ∧
    s.senseReset.free = s.free ∧ s.senseReset.pending = s.pending := by
  unfold State.senseReset
  simp

@[simp] theorem State.writeFold_frame (s : State) (f : Fold) :
    (s.writeFold f).now = s.now ∧ (s.writeFold f).boot = s.boot ∧ (s.writeFold f).vin = s.vin ∧ (s.writeFold f).win = s.win ∧ (s.writeFold f).box = s.box ∧
    (s.writeFold f).evq = s.evq ∧ (s.writeFold f).log = s.log ∧ (s.writeFold f).eyes = s.eyes ∧ (s.writeFold f).par = s.par ∧ (s.writeFold f).fn = s.fn ∧
    (s.writeFold f).tab = s.tab ∧ (s.writeFold f).pwr = s.pwr ∧ (s.writeFold f).thm = s.thm ∧ (s.writeFold f).cmp = s.cmp ∧ (s.writeFold f).nv = s.nv ∧
    (s.writeFold f).ras = s.ras ∧ (s.writeFold f).pipe = s.pipe ∧ (s.writeFold f).apq = s.apq ∧ (s.writeFold f).pnl = s.pnl ∧ (s.writeFold f).bob = s.bob ∧
    (s.writeFold f).sel = s.sel ∧ (s.writeFold f).hl = s.hl ∧ (s.writeFold f).sec = s.sec ∧ (s.writeFold f).tat = s.tat ∧ (s.writeFold f).free = s.free ∧
    (s.writeFold f).pending = s.pending ∧ (s.writeFold f).mem.hoopFill = s.mem.hoopFill := by
  unfold State.writeFold
  simp

@[simp] theorem State.restPair_frame (s : State) (px c : Nat) (lo hi : Nat) :
    (s.restPair px c lo hi).now = s.now ∧ (s.restPair px c lo hi).boot = s.boot ∧ (s.restPair px c lo hi).vin = s.vin ∧ (s.restPair px c lo hi).win = s.win ∧
    (s.restPair px c lo hi).box = s.box ∧ (s.restPair px c lo hi).evq = s.evq ∧ (s.restPair px c lo hi).log = s.log ∧ (s.restPair px c lo hi).eyes = s.eyes ∧
    (s.restPair px c lo hi).par = s.par ∧ (s.restPair px c lo hi).fn = s.fn ∧ (s.restPair px c lo hi).tab = s.tab ∧ (s.restPair px c lo hi).pwr = s.pwr ∧
    (s.restPair px c lo hi).thm = s.thm ∧ (s.restPair px c lo hi).cmp = s.cmp ∧ (s.restPair px c lo hi).nv = s.nv ∧ (s.restPair px c lo hi).ras = s.ras ∧
    (s.restPair px c lo hi).pipe = s.pipe ∧ (s.restPair px c lo hi).apq = s.apq ∧ (s.restPair px c lo hi).pnl = s.pnl ∧ (s.restPair px c lo hi).bob = s.bob ∧
    (s.restPair px c lo hi).sel = s.sel ∧ (s.restPair px c lo hi).hl = s.hl ∧ (s.restPair px c lo hi).sec = s.sec ∧ (s.restPair px c lo hi).tat = s.tat ∧
    (s.restPair px c lo hi).free = s.free ∧ (s.restPair px c lo hi).pending = s.pending ∧ (s.restPair px c lo hi).mem.hoopFill = s.mem.hoopFill := by
  unfold State.restPair
  dsimp only
  repeat' split
  all_goals simp

@[simp] theorem State.restRow_frame (s : State) (results : List (BitVec 16)) :
    (s.restRow results).now = s.now ∧ (s.restRow results).boot = s.boot ∧ (s.restRow results).vin = s.vin ∧ (s.restRow results).win = s.win ∧
    (s.restRow results).box = s.box ∧ (s.restRow results).evq = s.evq ∧ (s.restRow results).log = s.log ∧ (s.restRow results).eyes = s.eyes ∧
    (s.restRow results).par = s.par ∧ (s.restRow results).fn = s.fn ∧ (s.restRow results).tab = s.tab ∧ (s.restRow results).pwr = s.pwr ∧
    (s.restRow results).thm = s.thm ∧ (s.restRow results).cmp = s.cmp ∧ (s.restRow results).nv = s.nv ∧ (s.restRow results).ras = s.ras ∧
    (s.restRow results).pipe = s.pipe ∧ (s.restRow results).apq = s.apq ∧ (s.restRow results).pnl = s.pnl ∧ (s.restRow results).hl = s.hl ∧
    (s.restRow results).sec = s.sec ∧ (s.restRow results).tat = s.tat ∧ (s.restRow results).free = s.free ∧ (s.restRow results).pending = s.pending ∧
    (s.restRow results).mem.hoopFill = s.mem.hoopFill := by
  unfold State.restRow
  dsimp only
  repeat' split
  all_goals (try simp)
  all_goals (repeat' split)
  all_goals simp_all

@[simp] theorem State.ageOne_frame (s : State) (x y c : Nat) :
    (s.ageOne x y c).now = s.now ∧ (s.ageOne x y c).boot = s.boot ∧ (s.ageOne x y c).vin = s.vin ∧ (s.ageOne x y c).win = s.win ∧
    (s.ageOne x y c).box = s.box ∧ (s.ageOne x y c).evq = s.evq ∧ (s.ageOne x y c).log = s.log ∧ (s.ageOne x y c).eyes = s.eyes ∧
    (s.ageOne x y c).par = s.par ∧ (s.ageOne x y c).fn = s.fn ∧ (s.ageOne x y c).tab = s.tab ∧ (s.ageOne x y c).pwr = s.pwr ∧ (s.ageOne x y c).thm = s.thm ∧
    (s.ageOne x y c).cmp = s.cmp ∧ (s.ageOne x y c).nv = s.nv ∧ (s.ageOne x y c).ras = s.ras ∧ (s.ageOne x y c).pipe = s.pipe ∧
    (s.ageOne x y c).apq = s.apq ∧ (s.ageOne x y c).pnl = s.pnl ∧ (s.ageOne x y c).bob = s.bob ∧ (s.ageOne x y c).sel = s.sel ∧ (s.ageOne x y c).hl = s.hl ∧
    (s.ageOne x y c).sec = s.sec ∧ (s.ageOne x y c).tat = s.tat ∧ (s.ageOne x y c).free = s.free ∧ (s.ageOne x y c).pending = s.pending ∧
    (s.ageOne x y c).mem.hoopFill = s.mem.hoopFill := by
  unfold State.ageOne
  dsimp only
  repeat' split
  all_goals simp

@[simp] theorem State.snapInstant_frame (s : State) :
    s.snapInstant.now = s.now ∧ s.snapInstant.boot = s.boot ∧ s.snapInstant.vin = s.vin ∧ s.snapInstant.win = s.win ∧ s.snapInstant.box = s.box ∧
    s.snapInstant.evq = s.evq ∧ s.snapInstant.log = s.log ∧ s.snapInstant.stat = s.stat ∧ s.snapInstant.eyes = s.eyes ∧ s.snapInstant.par = s.par ∧
    s.snapInstant.fn = s.fn ∧ s.snapInstant.tab = s.tab ∧ s.snapInstant.pwr = s.pwr ∧ s.snapInstant.thm = s.thm ∧ s.snapInstant.cmp = s.cmp ∧
    s.snapInstant.nv = s.nv ∧ s.snapInstant.ras = s.ras ∧ s.snapInstant.pipe = s.pipe ∧ s.snapInstant.apq = s.apq ∧ s.snapInstant.pnl = s.pnl ∧
    s.snapInstant.bob = s.bob ∧ s.snapInstant.sel = s.sel ∧ s.snapInstant.hl = s.hl ∧ s.snapInstant.sec = s.sec ∧ s.snapInstant.tat = s.tat ∧
    s.snapInstant.free = s.free ∧ s.snapInstant.pending = s.pending ∧ s.snapInstant.mem.cells = s.mem.cells ∧ s.snapInstant.mem.hoopFill = s.mem.hoopFill := by
  unfold State.snapInstant
  simp

@[simp] theorem State.snapFrame_frame (s : State) :
    s.snapFrame.now = s.now ∧ s.snapFrame.boot = s.boot ∧ s.snapFrame.vin = s.vin ∧ s.snapFrame.win = s.win ∧ s.snapFrame.box = s.box ∧
    s.snapFrame.evq = s.evq ∧ s.snapFrame.log = s.log ∧ s.snapFrame.stat = s.stat ∧ s.snapFrame.eyes = s.eyes ∧ s.snapFrame.par = s.par ∧
    s.snapFrame.fn = s.fn ∧ s.snapFrame.tab = s.tab ∧ s.snapFrame.pwr = s.pwr ∧ s.snapFrame.thm = s.thm ∧ s.snapFrame.cmp = s.cmp ∧ s.snapFrame.nv = s.nv ∧
    s.snapFrame.ras = s.ras ∧ s.snapFrame.pipe = s.pipe ∧ s.snapFrame.apq = s.apq ∧ s.snapFrame.pnl = s.pnl ∧ s.snapFrame.bob = s.bob ∧
    s.snapFrame.sel = s.sel ∧ s.snapFrame.hl = s.hl ∧ s.snapFrame.sec = s.sec ∧ s.snapFrame.tat = s.tat ∧ s.snapFrame.pending = s.pending ∧
    s.snapFrame.mem.cells = s.mem.cells ∧ s.snapFrame.mem.hoopFill = s.mem.hoopFill := by
  unfold State.snapFrame
  dsimp only
  repeat' split
  all_goals simp

@[simp] theorem State.snapWant_frame (s : State) :
    s.snapWant.now = s.now ∧ s.snapWant.boot = s.boot ∧ s.snapWant.vin = s.vin ∧ s.snapWant.win = s.win ∧ s.snapWant.box = s.box ∧ s.snapWant.evq = s.evq ∧
    s.snapWant.log = s.log ∧ s.snapWant.stat = s.stat ∧ s.snapWant.eyes = s.eyes ∧ s.snapWant.par = s.par ∧ s.snapWant.fn = s.fn ∧ s.snapWant.tab = s.tab ∧
    s.snapWant.pwr = s.pwr ∧ s.snapWant.thm = s.thm ∧ s.snapWant.cmp = s.cmp ∧ s.snapWant.nv = s.nv ∧ s.snapWant.ras = s.ras ∧ s.snapWant.pipe = s.pipe ∧
    s.snapWant.apq = s.apq ∧ s.snapWant.pnl = s.pnl ∧ s.snapWant.bob = s.bob ∧ s.snapWant.sel = s.sel ∧ s.snapWant.hl = s.hl ∧ s.snapWant.sec = s.sec ∧
    s.snapWant.tat = s.tat ∧ s.snapWant.free = s.free ∧ s.snapWant.pending = s.pending ∧ s.snapWant.mem.cells = s.mem.cells ∧
    s.snapWant.mem.hoopFill = s.mem.hoopFill := by
  unfold State.snapWant
  simp

@[simp] theorem State.shutdownSaved_frame (s : State) :
    s.shutdownSaved.now = s.now ∧ s.shutdownSaved.boot = s.boot ∧ s.shutdownSaved.vin = s.vin ∧ s.shutdownSaved.win = s.win ∧ s.shutdownSaved.box = s.box ∧
    s.shutdownSaved.evq = s.evq ∧ s.shutdownSaved.log = s.log ∧ s.shutdownSaved.eyes = s.eyes ∧ s.shutdownSaved.par = s.par ∧ s.shutdownSaved.fn = s.fn ∧
    s.shutdownSaved.tab = s.tab ∧ s.shutdownSaved.pwr = s.pwr ∧ s.shutdownSaved.thm = s.thm ∧ s.shutdownSaved.mem = s.mem ∧ s.shutdownSaved.cmp = s.cmp ∧
    s.shutdownSaved.ras = s.ras ∧ s.shutdownSaved.pipe = s.pipe ∧ s.shutdownSaved.apq = s.apq ∧ s.shutdownSaved.pnl = s.pnl ∧ s.shutdownSaved.bob = s.bob ∧
    s.shutdownSaved.sel = s.sel ∧ s.shutdownSaved.hl = s.hl ∧ s.shutdownSaved.sec = s.sec ∧ s.shutdownSaved.tat = s.tat ∧ s.shutdownSaved.free = s.free ∧
    s.shutdownSaved.pending = s.pending ∧ s.shutdownSaved.nv.nand = s.nv.nand := by
  unfold State.shutdownSaved
  simp

@[simp] theorem State.snapAbandon_frame (s : State) :
    s.snapAbandon.now = s.now ∧ s.snapAbandon.boot = s.boot ∧ s.snapAbandon.vin = s.vin ∧ s.snapAbandon.win = s.win ∧ s.snapAbandon.box = s.box ∧
    s.snapAbandon.evq = s.evq ∧ s.snapAbandon.log = s.log ∧ s.snapAbandon.eyes = s.eyes ∧ s.snapAbandon.par = s.par ∧ s.snapAbandon.fn = s.fn ∧
    s.snapAbandon.tab = s.tab ∧ s.snapAbandon.pwr = s.pwr ∧ s.snapAbandon.thm = s.thm ∧ s.snapAbandon.mem = s.mem ∧ s.snapAbandon.cmp = s.cmp ∧
    s.snapAbandon.nv = s.nv ∧ s.snapAbandon.ras = s.ras ∧ s.snapAbandon.pipe = s.pipe ∧ s.snapAbandon.apq = s.apq ∧ s.snapAbandon.pnl = s.pnl ∧
    s.snapAbandon.bob = s.bob ∧ s.snapAbandon.sel = s.sel ∧ s.snapAbandon.hl = s.hl ∧ s.snapAbandon.sec = s.sec ∧ s.snapAbandon.tat = s.tat ∧
    s.snapAbandon.free = s.free ∧ s.snapAbandon.pending = s.pending := by
  unfold State.snapAbandon
  simp

@[simp] theorem State.orderlyShutdown_frame (s : State) :
    s.orderlyShutdown.now = s.now ∧ s.orderlyShutdown.boot = s.boot ∧ s.orderlyShutdown.vin = s.vin ∧ s.orderlyShutdown.win = s.win ∧
    s.orderlyShutdown.box = s.box ∧ s.orderlyShutdown.evq = s.evq ∧ s.orderlyShutdown.log = s.log ∧ s.orderlyShutdown.eyes = s.eyes ∧
    s.orderlyShutdown.par = s.par ∧ s.orderlyShutdown.fn = s.fn ∧ s.orderlyShutdown.tab = s.tab ∧ s.orderlyShutdown.pwr = s.pwr ∧
    s.orderlyShutdown.thm = s.thm ∧ s.orderlyShutdown.cmp = s.cmp ∧ s.orderlyShutdown.ras = s.ras ∧ s.orderlyShutdown.pipe = s.pipe ∧
    s.orderlyShutdown.apq = s.apq ∧ s.orderlyShutdown.pnl = s.pnl ∧ s.orderlyShutdown.bob = s.bob ∧ s.orderlyShutdown.sel = s.sel ∧
    s.orderlyShutdown.hl = s.hl ∧ s.orderlyShutdown.sec = s.sec ∧ s.orderlyShutdown.tat = s.tat ∧ s.orderlyShutdown.free = s.free ∧
    s.orderlyShutdown.pending = s.pending ∧ s.orderlyShutdown.mem.cells = s.mem.cells ∧ s.orderlyShutdown.mem.hoopFill = s.mem.hoopFill ∧
    s.orderlyShutdown.nv.nand = s.nv.nand := by
  unfold State.orderlyShutdown
  dsimp only
  repeat' split
  all_goals simp

@[simp] theorem State.snapFail_frame (s : State) :
    s.snapFail.now = s.now ∧ s.snapFail.boot = s.boot ∧ s.snapFail.vin = s.vin ∧ s.snapFail.box = s.box ∧ s.snapFail.eyes = s.eyes ∧ s.snapFail.par = s.par ∧
    s.snapFail.fn = s.fn ∧ s.snapFail.tab = s.tab ∧ s.snapFail.pwr = s.pwr ∧ s.snapFail.thm = s.thm ∧ s.snapFail.cmp = s.cmp ∧ s.snapFail.ras = s.ras ∧
    s.snapFail.pipe = s.pipe ∧ s.snapFail.apq = s.apq ∧ s.snapFail.pnl = s.pnl ∧ s.snapFail.bob = s.bob ∧ s.snapFail.sel = s.sel ∧ s.snapFail.hl = s.hl ∧
    s.snapFail.sec = s.sec ∧ s.snapFail.tat = s.tat ∧ s.snapFail.free = s.free ∧ s.snapFail.pending = s.pending ∧ s.snapFail.mem.cells = s.mem.cells ∧
    s.snapFail.mem.hoopFill = s.mem.hoopFill ∧ s.snapFail.nv.nand = s.nv.nand := by
  unfold State.snapFail
  repeat' split
  all_goals simp

@[simp] theorem State.setActive_frame (s : State) (m : Mode) (cause : Nat) :
    (s.setActive m cause).now = s.now ∧ (s.setActive m cause).boot = s.boot ∧ (s.setActive m cause).vin = s.vin ∧ (s.setActive m cause).box = s.box ∧
    (s.setActive m cause).eyes = s.eyes ∧ (s.setActive m cause).par = s.par ∧ (s.setActive m cause).fn = s.fn ∧ (s.setActive m cause).tab = s.tab ∧
    (s.setActive m cause).pwr = s.pwr ∧ (s.setActive m cause).thm = s.thm ∧ (s.setActive m cause).mem = s.mem ∧ (s.setActive m cause).cmp = s.cmp ∧
    (s.setActive m cause).nv = s.nv ∧ (s.setActive m cause).pipe = s.pipe ∧ (s.setActive m cause).prk = s.prk ∧ (s.setActive m cause).apq = s.apq ∧
    (s.setActive m cause).pnl = s.pnl ∧ (s.setActive m cause).bob = s.bob ∧ (s.setActive m cause).sel = s.sel ∧ (s.setActive m cause).hl = s.hl ∧
    (s.setActive m cause).sec = s.sec ∧ (s.setActive m cause).tat = s.tat ∧ (s.setActive m cause).free = s.free ∧ (s.setActive m cause).pending = s.pending := by
  unfold State.setActive
  simp

@[simp] theorem State.takeHoldPeriod_frame (s : State) :
    s.takeHoldPeriod.now = s.now ∧ s.takeHoldPeriod.boot = s.boot ∧ s.takeHoldPeriod.vin = s.vin ∧ s.takeHoldPeriod.win = s.win ∧
    s.takeHoldPeriod.box = s.box ∧ s.takeHoldPeriod.evq = s.evq ∧ s.takeHoldPeriod.log = s.log ∧ s.takeHoldPeriod.stat = s.stat ∧
    s.takeHoldPeriod.eyes = s.eyes ∧ s.takeHoldPeriod.par = s.par ∧ s.takeHoldPeriod.fn = s.fn ∧ s.takeHoldPeriod.tab = s.tab ∧
    s.takeHoldPeriod.pwr = s.pwr ∧ s.takeHoldPeriod.thm = s.thm ∧ s.takeHoldPeriod.mem = s.mem ∧ s.takeHoldPeriod.cmp = s.cmp ∧ s.takeHoldPeriod.nv = s.nv ∧
    s.takeHoldPeriod.pipe = s.pipe ∧ s.takeHoldPeriod.prk = s.prk ∧ s.takeHoldPeriod.apq = s.apq ∧ s.takeHoldPeriod.pnl = s.pnl ∧
    s.takeHoldPeriod.bob = s.bob ∧ s.takeHoldPeriod.sel = s.sel ∧ s.takeHoldPeriod.hl = s.hl ∧ s.takeHoldPeriod.sec = s.sec ∧ s.takeHoldPeriod.tat = s.tat ∧
    s.takeHoldPeriod.pending = s.pending := by
  unfold State.takeHoldPeriod
  dsimp only
  repeat' split
  all_goals simp

@[simp] theorem State.sourceIdle_frame (s : State) (why : HeldChange) (short : Bool) :
    (s.sourceIdle why short).now = s.now ∧ (s.sourceIdle why short).boot = s.boot ∧ (s.sourceIdle why short).vin = s.vin ∧
    (s.sourceIdle why short).box = s.box ∧ (s.sourceIdle why short).eyes = s.eyes ∧ (s.sourceIdle why short).par = s.par ∧
    (s.sourceIdle why short).fn = s.fn ∧ (s.sourceIdle why short).tab = s.tab ∧ (s.sourceIdle why short).pwr = s.pwr ∧ (s.sourceIdle why short).thm = s.thm ∧
    (s.sourceIdle why short).mem = s.mem ∧ (s.sourceIdle why short).cmp = s.cmp ∧ (s.sourceIdle why short).nv = s.nv ∧
    (s.sourceIdle why short).pipe = s.pipe ∧ (s.sourceIdle why short).prk = s.prk ∧ (s.sourceIdle why short).apq = s.apq ∧
    (s.sourceIdle why short).pnl = s.pnl ∧ (s.sourceIdle why short).bob = s.bob ∧ (s.sourceIdle why short).sel = s.sel ∧ (s.sourceIdle why short).hl = s.hl ∧
    (s.sourceIdle why short).sec = s.sec ∧ (s.sourceIdle why short).tat = s.tat ∧ (s.sourceIdle why short).pending = s.pending := by
  unfold State.sourceIdle
  simp

@[simp] theorem State.epochEvent_frame (s : State) (cause e : Nat) :
    (s.epochEvent cause e).now = s.now ∧ (s.epochEvent cause e).boot = s.boot ∧ (s.epochEvent cause e).vin = s.vin ∧ (s.epochEvent cause e).box = s.box ∧
    (s.epochEvent cause e).eyes = s.eyes ∧ (s.epochEvent cause e).par = s.par ∧ (s.epochEvent cause e).fn = s.fn ∧ (s.epochEvent cause e).tab = s.tab ∧
    (s.epochEvent cause e).pwr = s.pwr ∧ (s.epochEvent cause e).thm = s.thm ∧ (s.epochEvent cause e).mem = s.mem ∧ (s.epochEvent cause e).cmp = s.cmp ∧
    (s.epochEvent cause e).nv = s.nv ∧ (s.epochEvent cause e).ras = s.ras ∧ (s.epochEvent cause e).pipe = s.pipe ∧ (s.epochEvent cause e).prk = s.prk ∧
    (s.epochEvent cause e).apq = s.apq ∧ (s.epochEvent cause e).pnl = s.pnl ∧ (s.epochEvent cause e).bob = s.bob ∧ (s.epochEvent cause e).sel = s.sel ∧
    (s.epochEvent cause e).hl = s.hl ∧ (s.epochEvent cause e).sec = s.sec ∧ (s.epochEvent cause e).tat = s.tat ∧ (s.epochEvent cause e).free = s.free ∧
    (s.epochEvent cause e).pending = s.pending := by
  unfold State.epochEvent
  simp

@[simp] theorem State.sendCounts_frame (s : State) :
    s.sendCounts.now = s.now ∧ s.sendCounts.boot = s.boot ∧ s.sendCounts.vin = s.vin ∧ s.sendCounts.win = s.win ∧ s.sendCounts.box = s.box ∧
    s.sendCounts.evq = s.evq ∧ s.sendCounts.log = s.log ∧ s.sendCounts.stat = s.stat ∧ s.sendCounts.eyes = s.eyes ∧ s.sendCounts.par = s.par ∧
    s.sendCounts.fn = s.fn ∧ s.sendCounts.tab = s.tab ∧ s.sendCounts.pwr = s.pwr ∧ s.sendCounts.thm = s.thm ∧ s.sendCounts.mem = s.mem ∧
    s.sendCounts.cmp = s.cmp ∧ s.sendCounts.nv = s.nv ∧ s.sendCounts.ras = s.ras ∧ s.sendCounts.pipe = s.pipe ∧ s.sendCounts.prk = s.prk ∧
    s.sendCounts.apq = s.apq ∧ s.sendCounts.pnl = s.pnl ∧ s.sendCounts.bob = s.bob ∧ s.sendCounts.sel = s.sel ∧ s.sendCounts.hl = s.hl ∧
    s.sendCounts.sec = s.sec ∧ s.sendCounts.free = s.free ∧ s.sendCounts.pending = s.pending := by
  unfold State.sendCounts
  simp

@[simp] theorem State.stageEnd_frame (s : State) (timeout : Bool) :
    (s.stageEnd timeout).now = s.now ∧ (s.stageEnd timeout).boot = s.boot ∧ (s.stageEnd timeout).vin = s.vin ∧ (s.stageEnd timeout).eyes = s.eyes ∧
    (s.stageEnd timeout).par = s.par ∧ (s.stageEnd timeout).fn = s.fn ∧ (s.stageEnd timeout).tab = s.tab ∧ (s.stageEnd timeout).pwr = s.pwr ∧
    (s.stageEnd timeout).thm = s.thm ∧ (s.stageEnd timeout).mem = s.mem ∧ (s.stageEnd timeout).cmp = s.cmp ∧ (s.stageEnd timeout).nv = s.nv ∧
    (s.stageEnd timeout).ras = s.ras ∧ (s.stageEnd timeout).pipe = s.pipe ∧ (s.stageEnd timeout).prk = s.prk ∧ (s.stageEnd timeout).apq = s.apq ∧
    (s.stageEnd timeout).pnl = s.pnl ∧ (s.stageEnd timeout).bob = s.bob ∧ (s.stageEnd timeout).sel = s.sel ∧ (s.stageEnd timeout).hl = s.hl ∧
    (s.stageEnd timeout).sec = s.sec ∧ (s.stageEnd timeout).tat = s.tat ∧ (s.stageEnd timeout).free = s.free ∧ (s.stageEnd timeout).pending = s.pending := by
  unfold State.stageEnd
  simp

@[simp] theorem State.skewWatch_frame (s : State) :
    s.skewWatch.now = s.now ∧ s.skewWatch.boot = s.boot ∧ s.skewWatch.vin = s.vin ∧ s.skewWatch.box = s.box ∧ s.skewWatch.eyes = s.eyes ∧
    s.skewWatch.par = s.par ∧ s.skewWatch.fn = s.fn ∧ s.skewWatch.tab = s.tab ∧ s.skewWatch.pwr = s.pwr ∧ s.skewWatch.thm = s.thm ∧ s.skewWatch.mem = s.mem ∧
    s.skewWatch.cmp = s.cmp ∧ s.skewWatch.nv = s.nv ∧ s.skewWatch.ras = s.ras ∧ s.skewWatch.pipe = s.pipe ∧ s.skewWatch.prk = s.prk ∧
    s.skewWatch.apq = s.apq ∧ s.skewWatch.pnl = s.pnl ∧ s.skewWatch.bob = s.bob ∧ s.skewWatch.sel = s.sel ∧ s.skewWatch.hl = s.hl ∧ s.skewWatch.sec = s.sec ∧
    s.skewWatch.free = s.free ∧ s.skewWatch.pending = s.pending := by
  unfold State.skewWatch
  simp

@[simp] theorem State.countsChanged_frame (s : State) :
    s.countsChanged.now = s.now ∧ s.countsChanged.boot = s.boot ∧ s.countsChanged.vin = s.vin ∧ s.countsChanged.eyes = s.eyes ∧ s.countsChanged.par = s.par ∧
    s.countsChanged.fn = s.fn ∧ s.countsChanged.tab = s.tab ∧ s.countsChanged.pwr = s.pwr ∧ s.countsChanged.thm = s.thm ∧ s.countsChanged.mem = s.mem ∧
    s.countsChanged.cmp = s.cmp ∧ s.countsChanged.nv = s.nv ∧ s.countsChanged.ras = s.ras ∧ s.countsChanged.pipe = s.pipe ∧ s.countsChanged.prk = s.prk ∧
    s.countsChanged.apq = s.apq ∧ s.countsChanged.pnl = s.pnl ∧ s.countsChanged.bob = s.bob ∧ s.countsChanged.sel = s.sel ∧ s.countsChanged.hl = s.hl ∧
    s.countsChanged.sec = s.sec ∧ s.countsChanged.free = s.free ∧ s.countsChanged.pending = s.pending := by
  unfold State.countsChanged
  simp

@[simp] theorem State.countsFrame_frame (s : State) :
    s.countsFrame.now = s.now ∧ s.countsFrame.boot = s.boot ∧ s.countsFrame.vin = s.vin ∧ s.countsFrame.win = s.win ∧ s.countsFrame.box = s.box ∧
    s.countsFrame.evq = s.evq ∧ s.countsFrame.log = s.log ∧ s.countsFrame.stat = s.stat ∧ s.countsFrame.eyes = s.eyes ∧ s.countsFrame.par = s.par ∧
    s.countsFrame.fn = s.fn ∧ s.countsFrame.tab = s.tab ∧ s.countsFrame.pwr = s.pwr ∧ s.countsFrame.thm = s.thm ∧ s.countsFrame.mem = s.mem ∧
    s.countsFrame.cmp = s.cmp ∧ s.countsFrame.nv = s.nv ∧ s.countsFrame.ras = s.ras ∧ s.countsFrame.pipe = s.pipe ∧ s.countsFrame.prk = s.prk ∧
    s.countsFrame.apq = s.apq ∧ s.countsFrame.pnl = s.pnl ∧ s.countsFrame.bob = s.bob ∧ s.countsFrame.sel = s.sel ∧ s.countsFrame.hl = s.hl ∧
    s.countsFrame.sec = s.sec ∧ s.countsFrame.free = s.free ∧ s.countsFrame.pending = s.pending := by
  unfold State.countsFrame
  simp

@[simp] theorem State.epochWrite_frame (s : State) (vs : List (Nat × Word)) :
    (s.epochWrite vs).now = s.now ∧ (s.epochWrite vs).boot = s.boot ∧ (s.epochWrite vs).vin = s.vin ∧ (s.epochWrite vs).box = s.box ∧
    (s.epochWrite vs).fn = s.fn ∧ (s.epochWrite vs).tab = s.tab ∧ (s.epochWrite vs).thm = s.thm ∧ (s.epochWrite vs).cmp = s.cmp ∧
    (s.epochWrite vs).nv = s.nv ∧ (s.epochWrite vs).pnl = s.pnl ∧ (s.epochWrite vs).bob = s.bob ∧ (s.epochWrite vs).sel = s.sel ∧
    (s.epochWrite vs).hl = s.hl ∧ (s.epochWrite vs).sec = s.sec ∧ (s.epochWrite vs).free = s.free ∧ (s.epochWrite vs).pending = s.pending ∧
    (s.epochWrite vs).mem.cells = s.mem.cells ∧ (s.epochWrite vs).mem.hoopFill = s.mem.hoopFill := by
  unfold State.epochWrite
  simp

@[simp] theorem State.epochApply_frame (s : State) (ep : Epoch) (f : Nat) :
    (s.epochApply ep f).now = s.now ∧ (s.epochApply ep f).boot = s.boot ∧ (s.epochApply ep f).vin = s.vin ∧ (s.epochApply ep f).fn = s.fn ∧
    (s.epochApply ep f).tab = s.tab ∧ (s.epochApply ep f).thm = s.thm ∧ (s.epochApply ep f).cmp = s.cmp ∧ (s.epochApply ep f).nv = s.nv ∧
    (s.epochApply ep f).pnl = s.pnl ∧ (s.epochApply ep f).bob = s.bob ∧ (s.epochApply ep f).sel = s.sel ∧ (s.epochApply ep f).hl = s.hl ∧
    (s.epochApply ep f).sec = s.sec ∧ (s.epochApply ep f).free = s.free ∧ (s.epochApply ep f).pending = s.pending ∧
    (s.epochApply ep f).mem.cells = s.mem.cells ∧ (s.epochApply ep f).mem.hoopFill = s.mem.hoopFill := by
  unfold State.epochApply
  dsimp only
  repeat' split
  all_goals simp

@[simp] theorem State.askSet_frame (s : State) (e : Nat) :
    (s.askSet e).now = s.now ∧ (s.askSet e).boot = s.boot ∧ (s.askSet e).vin = s.vin ∧ (s.askSet e).win = s.win ∧ (s.askSet e).box = s.box ∧
    (s.askSet e).evq = s.evq ∧ (s.askSet e).log = s.log ∧ (s.askSet e).stat = s.stat ∧ (s.askSet e).eyes = s.eyes ∧ (s.askSet e).par = s.par ∧
    (s.askSet e).fn = s.fn ∧ (s.askSet e).tab = s.tab ∧ (s.askSet e).pwr = s.pwr ∧ (s.askSet e).thm = s.thm ∧ (s.askSet e).mem = s.mem ∧
    (s.askSet e).cmp = s.cmp ∧ (s.askSet e).nv = s.nv ∧ (s.askSet e).ras = s.ras ∧ (s.askSet e).pipe = s.pipe ∧ (s.askSet e).prk = s.prk ∧
    (s.askSet e).apq = s.apq ∧ (s.askSet e).pnl = s.pnl ∧ (s.askSet e).bob = s.bob ∧ (s.askSet e).sel = s.sel ∧ (s.askSet e).hl = s.hl ∧
    (s.askSet e).sec = s.sec ∧ (s.askSet e).free = s.free ∧ (s.askSet e).pending = s.pending := by
  unfold State.askSet
  simp

@[simp] theorem State.skewMissed_frame (s : State) (e : Nat) :
    (s.skewMissed e).now = s.now ∧ (s.skewMissed e).boot = s.boot ∧ (s.skewMissed e).vin = s.vin ∧ (s.skewMissed e).eyes = s.eyes ∧
    (s.skewMissed e).par = s.par ∧ (s.skewMissed e).fn = s.fn ∧ (s.skewMissed e).tab = s.tab ∧ (s.skewMissed e).pwr = s.pwr ∧ (s.skewMissed e).thm = s.thm ∧
    (s.skewMissed e).mem = s.mem ∧ (s.skewMissed e).cmp = s.cmp ∧ (s.skewMissed e).nv = s.nv ∧ (s.skewMissed e).ras = s.ras ∧
    (s.skewMissed e).pipe = s.pipe ∧ (s.skewMissed e).prk = s.prk ∧ (s.skewMissed e).apq = s.apq ∧ (s.skewMissed e).pnl = s.pnl ∧
    (s.skewMissed e).bob = s.bob ∧ (s.skewMissed e).sel = s.sel ∧ (s.skewMissed e).hl = s.hl ∧ (s.skewMissed e).sec = s.sec ∧
    (s.skewMissed e).free = s.free ∧ (s.skewMissed e).pending = s.pending := by
  unfold State.skewMissed
  simp

@[simp] theorem State.skewOn_frame (s : State) (e : Nat) :
    (s.skewOn e).now = s.now ∧ (s.skewOn e).boot = s.boot ∧ (s.skewOn e).vin = s.vin ∧ (s.skewOn e).eyes = s.eyes ∧ (s.skewOn e).par = s.par ∧
    (s.skewOn e).fn = s.fn ∧ (s.skewOn e).tab = s.tab ∧ (s.skewOn e).pwr = s.pwr ∧ (s.skewOn e).thm = s.thm ∧ (s.skewOn e).mem = s.mem ∧
    (s.skewOn e).cmp = s.cmp ∧ (s.skewOn e).nv = s.nv ∧ (s.skewOn e).ras = s.ras ∧ (s.skewOn e).pipe = s.pipe ∧ (s.skewOn e).prk = s.prk ∧
    (s.skewOn e).apq = s.apq ∧ (s.skewOn e).pnl = s.pnl ∧ (s.skewOn e).bob = s.bob ∧ (s.skewOn e).sel = s.sel ∧ (s.skewOn e).hl = s.hl ∧
    (s.skewOn e).sec = s.sec ∧ (s.skewOn e).free = s.free ∧ (s.skewOn e).pending = s.pending := by
  unfold State.skewOn
  simp

@[simp] theorem State.epochBlank_frame (s : State) (n : BitVec 32) :
    (s.epochBlank n).now = s.now ∧ (s.epochBlank n).boot = s.boot ∧ (s.epochBlank n).vin = s.vin ∧ (s.epochBlank n).fn = s.fn ∧
    (s.epochBlank n).tab = s.tab ∧ (s.epochBlank n).thm = s.thm ∧ (s.epochBlank n).cmp = s.cmp ∧ (s.epochBlank n).nv = s.nv ∧ (s.epochBlank n).pnl = s.pnl ∧
    (s.epochBlank n).bob = s.bob ∧ (s.epochBlank n).sel = s.sel ∧ (s.epochBlank n).hl = s.hl ∧ (s.epochBlank n).sec = s.sec ∧
    (s.epochBlank n).free = s.free ∧ (s.epochBlank n).pending = s.pending ∧ (s.epochBlank n).mem.cells = s.mem.cells ∧
    (s.epochBlank n).mem.hoopFill = s.mem.hoopFill := by
  unfold State.epochBlank
  repeat' split
  all_goals simp

@[simp] theorem State.onGroup_frame (s : State) (i : Side) (f : LaneGroup → LaneGroup) :
    (s.onGroup i f).now = s.now ∧ (s.onGroup i f).boot = s.boot ∧ (s.onGroup i f).vin = s.vin ∧ (s.onGroup i f).win = s.win ∧ (s.onGroup i f).box = s.box ∧
    (s.onGroup i f).evq = s.evq ∧ (s.onGroup i f).log = s.log ∧ (s.onGroup i f).stat = s.stat ∧ (s.onGroup i f).eyes = s.eyes ∧ (s.onGroup i f).par = s.par ∧
    (s.onGroup i f).fn = s.fn ∧ (s.onGroup i f).tab = s.tab ∧ (s.onGroup i f).pwr = s.pwr ∧ (s.onGroup i f).thm = s.thm ∧ (s.onGroup i f).mem = s.mem ∧
    (s.onGroup i f).cmp = s.cmp ∧ (s.onGroup i f).nv = s.nv ∧ (s.onGroup i f).ras = s.ras ∧ (s.onGroup i f).pipe = s.pipe ∧ (s.onGroup i f).prk = s.prk ∧
    (s.onGroup i f).apq = s.apq ∧ (s.onGroup i f).pnl = s.pnl ∧ (s.onGroup i f).bob = s.bob ∧ (s.onGroup i f).sel = s.sel ∧ (s.onGroup i f).sec = s.sec ∧
    (s.onGroup i f).tat = s.tat ∧ (s.onGroup i f).free = s.free ∧ (s.onGroup i f).pending = s.pending := by
  unfold State.onGroup
  repeat' split
  all_goals simp

@[simp] theorem State.onFrame_frame (s : State) (f : InputFrame → InputFrame) :
    (s.onFrame f).now = s.now ∧ (s.onFrame f).boot = s.boot ∧ (s.onFrame f).vin = s.vin ∧ (s.onFrame f).win = s.win ∧ (s.onFrame f).box = s.box ∧
    (s.onFrame f).evq = s.evq ∧ (s.onFrame f).log = s.log ∧ (s.onFrame f).stat = s.stat ∧ (s.onFrame f).eyes = s.eyes ∧ (s.onFrame f).par = s.par ∧
    (s.onFrame f).fn = s.fn ∧ (s.onFrame f).tab = s.tab ∧ (s.onFrame f).pwr = s.pwr ∧ (s.onFrame f).thm = s.thm ∧ (s.onFrame f).mem = s.mem ∧
    (s.onFrame f).cmp = s.cmp ∧ (s.onFrame f).nv = s.nv ∧ (s.onFrame f).ras = s.ras ∧ (s.onFrame f).pipe = s.pipe ∧ (s.onFrame f).prk = s.prk ∧
    (s.onFrame f).apq = s.apq ∧ (s.onFrame f).pnl = s.pnl ∧ (s.onFrame f).bob = s.bob ∧ (s.onFrame f).sel = s.sel ∧ (s.onFrame f).sec = s.sec ∧
    (s.onFrame f).tat = s.tat ∧ (s.onFrame f).free = s.free ∧ (s.onFrame f).pending = s.pending := by
  unfold State.onFrame
  simp

@[simp] theorem State.pairEvent_frame (s : State) (kind row : Nat) :
    (s.pairEvent kind row).now = s.now ∧ (s.pairEvent kind row).boot = s.boot ∧ (s.pairEvent kind row).vin = s.vin ∧ (s.pairEvent kind row).win = s.win ∧
    (s.pairEvent kind row).box = s.box ∧ (s.pairEvent kind row).evq = s.evq ∧ (s.pairEvent kind row).log = s.log ∧ (s.pairEvent kind row).stat = s.stat ∧
    (s.pairEvent kind row).eyes = s.eyes ∧ (s.pairEvent kind row).par = s.par ∧ (s.pairEvent kind row).fn = s.fn ∧ (s.pairEvent kind row).tab = s.tab ∧
    (s.pairEvent kind row).pwr = s.pwr ∧ (s.pairEvent kind row).thm = s.thm ∧ (s.pairEvent kind row).mem = s.mem ∧ (s.pairEvent kind row).cmp = s.cmp ∧
    (s.pairEvent kind row).nv = s.nv ∧ (s.pairEvent kind row).ras = s.ras ∧ (s.pairEvent kind row).pipe = s.pipe ∧ (s.pairEvent kind row).prk = s.prk ∧
    (s.pairEvent kind row).apq = s.apq ∧ (s.pairEvent kind row).pnl = s.pnl ∧ (s.pairEvent kind row).bob = s.bob ∧ (s.pairEvent kind row).sel = s.sel ∧
    (s.pairEvent kind row).hl = s.hl ∧ (s.pairEvent kind row).sec = s.sec ∧ (s.pairEvent kind row).free = s.free ∧ (s.pairEvent kind row).pending = s.pending := by
  unfold State.pairEvent
  simp

@[simp] theorem State.badRow_frame (s : State) (r : Nat) :
    (s.badRow r).now = s.now ∧ (s.badRow r).boot = s.boot ∧ (s.badRow r).vin = s.vin ∧ (s.badRow r).box = s.box ∧ (s.badRow r).eyes = s.eyes ∧
    (s.badRow r).par = s.par ∧ (s.badRow r).fn = s.fn ∧ (s.badRow r).tab = s.tab ∧ (s.badRow r).pwr = s.pwr ∧ (s.badRow r).thm = s.thm ∧
    (s.badRow r).cmp = s.cmp ∧ (s.badRow r).nv = s.nv ∧ (s.badRow r).pipe = s.pipe ∧ (s.badRow r).prk = s.prk ∧ (s.badRow r).apq = s.apq ∧
    (s.badRow r).pnl = s.pnl ∧ (s.badRow r).bob = s.bob ∧ (s.badRow r).sel = s.sel ∧ (s.badRow r).sec = s.sec ∧ (s.badRow r).free = s.free ∧
    (s.badRow r).pending = s.pending ∧ (s.badRow r).mem.cells = s.mem.cells ∧ (s.badRow r).mem.hoopFill = s.mem.hoopFill := by
  unfold State.badRow
  dsimp only
  repeat' split
  all_goals simp

@[simp] theorem State.concealInHoop_frame (s : State) (f : InputFrame) (i : Side) (r : Nat) :
    (s.concealInHoop f i r).now = s.now ∧ (s.concealInHoop f i r).boot = s.boot ∧ (s.concealInHoop f i r).vin = s.vin ∧ (s.concealInHoop f i r).win = s.win ∧
    (s.concealInHoop f i r).box = s.box ∧ (s.concealInHoop f i r).evq = s.evq ∧ (s.concealInHoop f i r).log = s.log ∧ (s.concealInHoop f i r).stat = s.stat ∧
    (s.concealInHoop f i r).eyes = s.eyes ∧ (s.concealInHoop f i r).par = s.par ∧ (s.concealInHoop f i r).fn = s.fn ∧ (s.concealInHoop f i r).tab = s.tab ∧
    (s.concealInHoop f i r).pwr = s.pwr ∧ (s.concealInHoop f i r).thm = s.thm ∧ (s.concealInHoop f i r).cmp = s.cmp ∧ (s.concealInHoop f i r).nv = s.nv ∧
    (s.concealInHoop f i r).ras = s.ras ∧ (s.concealInHoop f i r).pipe = s.pipe ∧ (s.concealInHoop f i r).prk = s.prk ∧ (s.concealInHoop f i r).apq = s.apq ∧
    (s.concealInHoop f i r).pnl = s.pnl ∧ (s.concealInHoop f i r).bob = s.bob ∧ (s.concealInHoop f i r).sel = s.sel ∧ (s.concealInHoop f i r).hl = s.hl ∧
    (s.concealInHoop f i r).sec = s.sec ∧ (s.concealInHoop f i r).tat = s.tat ∧ (s.concealInHoop f i r).free = s.free ∧
    (s.concealInHoop f i r).pending = s.pending ∧ (s.concealInHoop f i r).mem.hoopFill = s.mem.hoopFill := by
  unfold State.concealInHoop
  repeat' split
  all_goals simp

@[simp] theorem State.missRow_frame (s : State) (f : InputFrame) (i : Side) (r : Nat) :
    (s.missRow f i r).now = s.now ∧ (s.missRow f i r).boot = s.boot ∧ (s.missRow f i r).vin = s.vin ∧ (s.missRow f i r).box = s.box ∧
    (s.missRow f i r).eyes = s.eyes ∧ (s.missRow f i r).par = s.par ∧ (s.missRow f i r).fn = s.fn ∧ (s.missRow f i r).tab = s.tab ∧
    (s.missRow f i r).pwr = s.pwr ∧ (s.missRow f i r).thm = s.thm ∧ (s.missRow f i r).cmp = s.cmp ∧ (s.missRow f i r).nv = s.nv ∧
    (s.missRow f i r).pipe = s.pipe ∧ (s.missRow f i r).prk = s.prk ∧ (s.missRow f i r).apq = s.apq ∧ (s.missRow f i r).pnl = s.pnl ∧
    (s.missRow f i r).bob = s.bob ∧ (s.missRow f i r).sel = s.sel ∧ (s.missRow f i r).sec = s.sec ∧ (s.missRow f i r).free = s.free ∧
    (s.missRow f i r).pending = s.pending ∧ (s.missRow f i r).mem.hoopFill = s.mem.hoopFill := by
  unfold State.missRow
  simp

@[simp] theorem State.missUpTo_frame (s : State) (f : InputFrame) (i : Side) (r : Nat) :
    (s.missUpTo f i r).now = s.now ∧ (s.missUpTo f i r).boot = s.boot ∧ (s.missUpTo f i r).vin = s.vin ∧ (s.missUpTo f i r).box = s.box ∧
    (s.missUpTo f i r).eyes = s.eyes ∧ (s.missUpTo f i r).par = s.par ∧ (s.missUpTo f i r).fn = s.fn ∧ (s.missUpTo f i r).tab = s.tab ∧
    (s.missUpTo f i r).pwr = s.pwr ∧ (s.missUpTo f i r).thm = s.thm ∧ (s.missUpTo f i r).cmp = s.cmp ∧ (s.missUpTo f i r).nv = s.nv ∧
    (s.missUpTo f i r).pipe = s.pipe ∧ (s.missUpTo f i r).prk = s.prk ∧ (s.missUpTo f i r).apq = s.apq ∧ (s.missUpTo f i r).pnl = s.pnl ∧
    (s.missUpTo f i r).bob = s.bob ∧ (s.missUpTo f i r).sel = s.sel ∧ (s.missUpTo f i r).sec = s.sec ∧ (s.missUpTo f i r).free = s.free ∧
    (s.missUpTo f i r).pending = s.pending ∧ (s.missUpTo f i r).mem.hoopFill = s.mem.hoopFill := by
  unfold State.missUpTo
  simp

@[simp] theorem State.noteRows_frame (s : State) (f : InputFrame) :
    (s.noteRows f).now = s.now ∧ (s.noteRows f).boot = s.boot ∧ (s.noteRows f).vin = s.vin ∧ (s.noteRows f).win = s.win ∧ (s.noteRows f).box = s.box ∧
    (s.noteRows f).evq = s.evq ∧ (s.noteRows f).log = s.log ∧ (s.noteRows f).stat = s.stat ∧ (s.noteRows f).eyes = s.eyes ∧ (s.noteRows f).par = s.par ∧
    (s.noteRows f).fn = s.fn ∧ (s.noteRows f).tab = s.tab ∧ (s.noteRows f).pwr = s.pwr ∧ (s.noteRows f).thm = s.thm ∧ (s.noteRows f).cmp = s.cmp ∧
    (s.noteRows f).nv = s.nv ∧ (s.noteRows f).ras = s.ras ∧ (s.noteRows f).pipe = s.pipe ∧ (s.noteRows f).prk = s.prk ∧ (s.noteRows f).apq = s.apq ∧
    (s.noteRows f).pnl = s.pnl ∧ (s.noteRows f).bob = s.bob ∧ (s.noteRows f).sel = s.sel ∧ (s.noteRows f).hl = s.hl ∧ (s.noteRows f).sec = s.sec ∧
    (s.noteRows f).tat = s.tat ∧ (s.noteRows f).free = s.free ∧ (s.noteRows f).pending = s.pending ∧ (s.noteRows f).mem.cells = s.mem.cells ∧
    (s.noteRows f).mem.hoopFill = s.mem.hoopFill := by
  unfold State.noteRows
  simp

@[simp] theorem State.frameFails_frame (s : State) (f : InputFrame) (cause : Nat) :
    (s.frameFails f cause).now = s.now ∧ (s.frameFails f cause).boot = s.boot ∧ (s.frameFails f cause).vin = s.vin ∧ (s.frameFails f cause).box = s.box ∧
    (s.frameFails f cause).eyes = s.eyes ∧ (s.frameFails f cause).par = s.par ∧ (s.frameFails f cause).fn = s.fn ∧ (s.frameFails f cause).tab = s.tab ∧
    (s.frameFails f cause).pwr = s.pwr ∧ (s.frameFails f cause).thm = s.thm ∧ (s.frameFails f cause).mem = s.mem ∧ (s.frameFails f cause).cmp = s.cmp ∧
    (s.frameFails f cause).nv = s.nv ∧ (s.frameFails f cause).pipe = s.pipe ∧ (s.frameFails f cause).prk = s.prk ∧ (s.frameFails f cause).apq = s.apq ∧
    (s.frameFails f cause).pnl = s.pnl ∧ (s.frameFails f cause).bob = s.bob ∧ (s.frameFails f cause).sel = s.sel ∧ (s.frameFails f cause).hl = s.hl ∧
    (s.frameFails f cause).free = s.free ∧ (s.frameFails f cause).pending = s.pending := by
  unfold State.frameFails
  simp

@[simp] theorem State.promote_frame (s : State) (f : InputFrame) :
    (s.promote f).now = s.now ∧ (s.promote f).boot = s.boot ∧ (s.promote f).vin = s.vin ∧ (s.promote f).win = s.win ∧ (s.promote f).box = s.box ∧
    (s.promote f).evq = s.evq ∧ (s.promote f).log = s.log ∧ (s.promote f).stat = s.stat ∧ (s.promote f).eyes = s.eyes ∧ (s.promote f).par = s.par ∧
    (s.promote f).fn = s.fn ∧ (s.promote f).tab = s.tab ∧ (s.promote f).pwr = s.pwr ∧ (s.promote f).thm = s.thm ∧ (s.promote f).cmp = s.cmp ∧
    (s.promote f).nv = s.nv ∧ (s.promote f).pipe = s.pipe ∧ (s.promote f).prk = s.prk ∧ (s.promote f).apq = s.apq ∧ (s.promote f).pnl = s.pnl ∧
    (s.promote f).bob = s.bob ∧ (s.promote f).sel = s.sel ∧ (s.promote f).sec = s.sec ∧ (s.promote f).tat = s.tat ∧ (s.promote f).free = s.free ∧
    (s.promote f).pending = s.pending ∧ (s.promote f).mem.cells = s.mem.cells ∧ (s.promote f).mem.hoopFill = s.mem.hoopFill := by
  unfold State.promote
  simp

@[simp] theorem State.framePasses_frame (s : State) (f : InputFrame) :
    (s.framePasses f).now = s.now ∧ (s.framePasses f).boot = s.boot ∧ (s.framePasses f).vin = s.vin ∧ (s.framePasses f).win = s.win ∧
    (s.framePasses f).box = s.box ∧ (s.framePasses f).evq = s.evq ∧ (s.framePasses f).log = s.log ∧ (s.framePasses f).eyes = s.eyes ∧
    (s.framePasses f).par = s.par ∧ (s.framePasses f).fn = s.fn ∧ (s.framePasses f).tab = s.tab ∧ (s.framePasses f).pwr = s.pwr ∧
    (s.framePasses f).thm = s.thm ∧ (s.framePasses f).cmp = s.cmp ∧ (s.framePasses f).nv = s.nv ∧ (s.framePasses f).pipe = s.pipe ∧
    (s.framePasses f).prk = s.prk ∧ (s.framePasses f).apq = s.apq ∧ (s.framePasses f).pnl = s.pnl ∧ (s.framePasses f).bob = s.bob ∧
    (s.framePasses f).sel = s.sel ∧ (s.framePasses f).tat = s.tat ∧ (s.framePasses f).free = s.free ∧ (s.framePasses f).pending = s.pending ∧
    (s.framePasses f).mem.cells = s.mem.cells ∧ (s.framePasses f).mem.hoopFill = s.mem.hoopFill := by
  unfold State.framePasses
  repeat' split
  all_goals simp

@[simp] theorem State.frameDropped_frame (s : State) (f : InputFrame) :
    (s.frameDropped f).now = s.now ∧ (s.frameDropped f).boot = s.boot ∧ (s.frameDropped f).vin = s.vin ∧ (s.frameDropped f).win = s.win ∧
    (s.frameDropped f).box = s.box ∧ (s.frameDropped f).evq = s.evq ∧ (s.frameDropped f).log = s.log ∧ (s.frameDropped f).stat = s.stat ∧
    (s.frameDropped f).eyes = s.eyes ∧ (s.frameDropped f).par = s.par ∧ (s.frameDropped f).fn = s.fn ∧ (s.frameDropped f).tab = s.tab ∧
    (s.frameDropped f).pwr = s.pwr ∧ (s.frameDropped f).thm = s.thm ∧ (s.frameDropped f).cmp = s.cmp ∧ (s.frameDropped f).nv = s.nv ∧
    (s.frameDropped f).ras = s.ras ∧ (s.frameDropped f).pipe = s.pipe ∧ (s.frameDropped f).prk = s.prk ∧ (s.frameDropped f).apq = s.apq ∧
    (s.frameDropped f).pnl = s.pnl ∧ (s.frameDropped f).bob = s.bob ∧ (s.frameDropped f).sel = s.sel ∧ (s.frameDropped f).hl = s.hl ∧
    (s.frameDropped f).sec = s.sec ∧ (s.frameDropped f).tat = s.tat ∧ (s.frameDropped f).free = s.free ∧ (s.frameDropped f).pending = s.pending ∧
    (s.frameDropped f).mem.cells = s.mem.cells ∧ (s.frameDropped f).mem.hoopFill = s.mem.hoopFill := by
  unfold State.frameDropped
  simp

@[simp] theorem State.clearGroups_frame (s : State) :
    s.clearGroups.now = s.now ∧ s.clearGroups.boot = s.boot ∧ s.clearGroups.vin = s.vin ∧ s.clearGroups.win = s.win ∧ s.clearGroups.box = s.box ∧
    s.clearGroups.evq = s.evq ∧ s.clearGroups.log = s.log ∧ s.clearGroups.stat = s.stat ∧ s.clearGroups.eyes = s.eyes ∧ s.clearGroups.par = s.par ∧
    s.clearGroups.fn = s.fn ∧ s.clearGroups.tab = s.tab ∧ s.clearGroups.pwr = s.pwr ∧ s.clearGroups.thm = s.thm ∧ s.clearGroups.mem = s.mem ∧
    s.clearGroups.cmp = s.cmp ∧ s.clearGroups.nv = s.nv ∧ s.clearGroups.ras = s.ras ∧ s.clearGroups.pipe = s.pipe ∧ s.clearGroups.prk = s.prk ∧
    s.clearGroups.apq = s.apq ∧ s.clearGroups.pnl = s.pnl ∧ s.clearGroups.bob = s.bob ∧ s.clearGroups.sel = s.sel ∧ s.clearGroups.sec = s.sec ∧
    s.clearGroups.tat = s.tat ∧ s.clearGroups.free = s.free ∧ s.clearGroups.pending = s.pending := by
  unfold State.clearGroups
  simp

@[simp] theorem State.inputEnd_frame (s : State) (cut : Option Nat) :
    (s.inputEnd cut).now = s.now ∧ (s.inputEnd cut).boot = s.boot ∧ (s.inputEnd cut).vin = s.vin ∧ (s.inputEnd cut).box = s.box ∧
    (s.inputEnd cut).eyes = s.eyes ∧ (s.inputEnd cut).par = s.par ∧ (s.inputEnd cut).fn = s.fn ∧ (s.inputEnd cut).tab = s.tab ∧
    (s.inputEnd cut).pwr = s.pwr ∧ (s.inputEnd cut).thm = s.thm ∧ (s.inputEnd cut).cmp = s.cmp ∧ (s.inputEnd cut).nv = s.nv ∧
    (s.inputEnd cut).pipe = s.pipe ∧ (s.inputEnd cut).prk = s.prk ∧ (s.inputEnd cut).apq = s.apq ∧ (s.inputEnd cut).pnl = s.pnl ∧
    (s.inputEnd cut).bob = s.bob ∧ (s.inputEnd cut).sel = s.sel ∧ (s.inputEnd cut).free = s.free ∧ (s.inputEnd cut).pending = s.pending ∧
    (s.inputEnd cut).mem.hoopFill = s.mem.hoopFill := by
  unfold State.inputEnd
  dsimp only
  repeat' split
  all_goals simp

@[simp] theorem State.descramble_frame (s : State) (i : Side) (sets : List (List LinkBlock)) :
    (s.descramble i sets).2.now = s.now ∧ (s.descramble i sets).2.boot = s.boot ∧ (s.descramble i sets).2.vin = s.vin ∧ (s.descramble i sets).2.win = s.win ∧
    (s.descramble i sets).2.box = s.box ∧ (s.descramble i sets).2.evq = s.evq ∧ (s.descramble i sets).2.log = s.log ∧ (s.descramble i sets).2.stat = s.stat ∧
    (s.descramble i sets).2.eyes = s.eyes ∧ (s.descramble i sets).2.par = s.par ∧ (s.descramble i sets).2.fn = s.fn ∧ (s.descramble i sets).2.tab = s.tab ∧
    (s.descramble i sets).2.pwr = s.pwr ∧ (s.descramble i sets).2.thm = s.thm ∧ (s.descramble i sets).2.mem = s.mem ∧ (s.descramble i sets).2.cmp = s.cmp ∧
    (s.descramble i sets).2.nv = s.nv ∧ (s.descramble i sets).2.ras = s.ras ∧ (s.descramble i sets).2.pipe = s.pipe ∧ (s.descramble i sets).2.prk = s.prk ∧
    (s.descramble i sets).2.apq = s.apq ∧ (s.descramble i sets).2.pnl = s.pnl ∧ (s.descramble i sets).2.bob = s.bob ∧ (s.descramble i sets).2.sel = s.sel ∧
    (s.descramble i sets).2.sec = s.sec ∧ (s.descramble i sets).2.tat = s.tat ∧ (s.descramble i sets).2.free = s.free ∧
    (s.descramble i sets).2.pending = s.pending := by
  unfold State.descramble
  simp

@[simp] theorem State.seedLanes_frame (s : State) (i : Side) :
    (s.seedLanes i).now = s.now ∧ (s.seedLanes i).boot = s.boot ∧ (s.seedLanes i).vin = s.vin ∧ (s.seedLanes i).win = s.win ∧ (s.seedLanes i).box = s.box ∧
    (s.seedLanes i).evq = s.evq ∧ (s.seedLanes i).log = s.log ∧ (s.seedLanes i).stat = s.stat ∧ (s.seedLanes i).eyes = s.eyes ∧ (s.seedLanes i).par = s.par ∧
    (s.seedLanes i).fn = s.fn ∧ (s.seedLanes i).tab = s.tab ∧ (s.seedLanes i).pwr = s.pwr ∧ (s.seedLanes i).thm = s.thm ∧ (s.seedLanes i).mem = s.mem ∧
    (s.seedLanes i).cmp = s.cmp ∧ (s.seedLanes i).nv = s.nv ∧ (s.seedLanes i).ras = s.ras ∧ (s.seedLanes i).pipe = s.pipe ∧ (s.seedLanes i).prk = s.prk ∧
    (s.seedLanes i).apq = s.apq ∧ (s.seedLanes i).pnl = s.pnl ∧ (s.seedLanes i).bob = s.bob ∧ (s.seedLanes i).sel = s.sel ∧ (s.seedLanes i).sec = s.sec ∧
    (s.seedLanes i).tat = s.tat ∧ (s.seedLanes i).free = s.free ∧ (s.seedLanes i).pending = s.pending := by
  unfold State.seedLanes
  simp

@[simp] theorem State.enterLink_frame (s : State) (p : Side → Bool) (st : LinkState) :
    (s.enterLink p st).now = s.now ∧ (s.enterLink p st).boot = s.boot ∧ (s.enterLink p st).vin = s.vin ∧ (s.enterLink p st).win = s.win ∧
    (s.enterLink p st).box = s.box ∧ (s.enterLink p st).evq = s.evq ∧ (s.enterLink p st).log = s.log ∧ (s.enterLink p st).stat = s.stat ∧
    (s.enterLink p st).eyes = s.eyes ∧ (s.enterLink p st).par = s.par ∧ (s.enterLink p st).fn = s.fn ∧ (s.enterLink p st).tab = s.tab ∧
    (s.enterLink p st).pwr = s.pwr ∧ (s.enterLink p st).thm = s.thm ∧ (s.enterLink p st).mem = s.mem ∧ (s.enterLink p st).cmp = s.cmp ∧
    (s.enterLink p st).nv = s.nv ∧ (s.enterLink p st).ras = s.ras ∧ (s.enterLink p st).pipe = s.pipe ∧ (s.enterLink p st).prk = s.prk ∧
    (s.enterLink p st).apq = s.apq ∧ (s.enterLink p st).pnl = s.pnl ∧ (s.enterLink p st).bob = s.bob ∧ (s.enterLink p st).sel = s.sel ∧
    (s.enterLink p st).sec = s.sec ∧ (s.enterLink p st).tat = s.tat ∧ (s.enterLink p st).free = s.free ∧ (s.enterLink p st).pending = s.pending := by
  unfold State.enterLink
  simp

@[simp] theorem State.newAttempt_frame (s : State) (p : Side → Bool) (st : LinkState) :
    (s.newAttempt p st).now = s.now ∧ (s.newAttempt p st).boot = s.boot ∧ (s.newAttempt p st).vin = s.vin ∧ (s.newAttempt p st).win = s.win ∧
    (s.newAttempt p st).box = s.box ∧ (s.newAttempt p st).evq = s.evq ∧ (s.newAttempt p st).log = s.log ∧ (s.newAttempt p st).stat = s.stat ∧
    (s.newAttempt p st).eyes = s.eyes ∧ (s.newAttempt p st).par = s.par ∧ (s.newAttempt p st).fn = s.fn ∧ (s.newAttempt p st).tab = s.tab ∧
    (s.newAttempt p st).pwr = s.pwr ∧ (s.newAttempt p st).thm = s.thm ∧ (s.newAttempt p st).mem = s.mem ∧ (s.newAttempt p st).cmp = s.cmp ∧
    (s.newAttempt p st).nv = s.nv ∧ (s.newAttempt p st).ras = s.ras ∧ (s.newAttempt p st).pipe = s.pipe ∧ (s.newAttempt p st).prk = s.prk ∧
    (s.newAttempt p st).apq = s.apq ∧ (s.newAttempt p st).pnl = s.pnl ∧ (s.newAttempt p st).bob = s.bob ∧ (s.newAttempt p st).sel = s.sel ∧
    (s.newAttempt p st).sec = s.sec ∧ (s.newAttempt p st).tat = s.tat ∧ (s.newAttempt p st).free = s.free ∧ (s.newAttempt p st).pending = s.pending := by
  unfold State.newAttempt
  simp

@[simp] theorem State.startSeries_frame (s : State) (p : Side → Bool) (st : LinkState) :
    (s.startSeries p st).now = s.now ∧ (s.startSeries p st).boot = s.boot ∧ (s.startSeries p st).vin = s.vin ∧ (s.startSeries p st).win = s.win ∧
    (s.startSeries p st).box = s.box ∧ (s.startSeries p st).evq = s.evq ∧ (s.startSeries p st).log = s.log ∧ (s.startSeries p st).stat = s.stat ∧
    (s.startSeries p st).eyes = s.eyes ∧ (s.startSeries p st).par = s.par ∧ (s.startSeries p st).fn = s.fn ∧ (s.startSeries p st).tab = s.tab ∧
    (s.startSeries p st).pwr = s.pwr ∧ (s.startSeries p st).thm = s.thm ∧ (s.startSeries p st).mem = s.mem ∧ (s.startSeries p st).cmp = s.cmp ∧
    (s.startSeries p st).nv = s.nv ∧ (s.startSeries p st).ras = s.ras ∧ (s.startSeries p st).pipe = s.pipe ∧ (s.startSeries p st).prk = s.prk ∧
    (s.startSeries p st).apq = s.apq ∧ (s.startSeries p st).pnl = s.pnl ∧ (s.startSeries p st).bob = s.bob ∧ (s.startSeries p st).sel = s.sel ∧
    (s.startSeries p st).sec = s.sec ∧ (s.startSeries p st).tat = s.tat ∧ (s.startSeries p st).free = s.free ∧ (s.startSeries p st).pending = s.pending := by
  unfold State.startSeries
  simp

@[simp] theorem State.tryTrain_frame (s : State) :
    s.tryTrain.now = s.now ∧ s.tryTrain.boot = s.boot ∧ s.tryTrain.vin = s.vin ∧ s.tryTrain.win = s.win ∧ s.tryTrain.box = s.box ∧ s.tryTrain.evq = s.evq ∧
    s.tryTrain.log = s.log ∧ s.tryTrain.stat = s.stat ∧ s.tryTrain.eyes = s.eyes ∧ s.tryTrain.par = s.par ∧ s.tryTrain.fn = s.fn ∧ s.tryTrain.tab = s.tab ∧
    s.tryTrain.pwr = s.pwr ∧ s.tryTrain.thm = s.thm ∧ s.tryTrain.mem = s.mem ∧ s.tryTrain.cmp = s.cmp ∧ s.tryTrain.nv = s.nv ∧ s.tryTrain.ras = s.ras ∧
    s.tryTrain.pipe = s.pipe ∧ s.tryTrain.prk = s.prk ∧ s.tryTrain.apq = s.apq ∧ s.tryTrain.pnl = s.pnl ∧ s.tryTrain.bob = s.bob ∧ s.tryTrain.sel = s.sel ∧
    s.tryTrain.sec = s.sec ∧ s.tryTrain.tat = s.tat ∧ s.tryTrain.free = s.free ∧ s.tryTrain.pending = s.pending := by
  unfold State.tryTrain
  simp

@[simp] theorem State.bcLost_frame (s : State) :
    s.bcLost.now = s.now ∧ s.bcLost.boot = s.boot ∧ s.bcLost.vin = s.vin ∧ s.bcLost.win = s.win ∧ s.bcLost.evq = s.evq ∧ s.bcLost.log = s.log ∧
    s.bcLost.stat = s.stat ∧ s.bcLost.eyes = s.eyes ∧ s.bcLost.par = s.par ∧ s.bcLost.fn = s.fn ∧ s.bcLost.tab = s.tab ∧ s.bcLost.thm = s.thm ∧
    s.bcLost.mem = s.mem ∧ s.bcLost.cmp = s.cmp ∧ s.bcLost.nv = s.nv ∧ s.bcLost.ras = s.ras ∧ s.bcLost.pipe = s.pipe ∧ s.bcLost.prk = s.prk ∧
    s.bcLost.apq = s.apq ∧ s.bcLost.pnl = s.pnl ∧ s.bcLost.bob = s.bob ∧ s.bcLost.sel = s.sel ∧ s.bcLost.sec = s.sec ∧ s.bcLost.tat = s.tat ∧
    s.bcLost.free = s.free ∧ s.bcLost.pending = s.pending := by
  unfold State.bcLost
  simp

@[simp] theorem State.linkIdle_frame (s : State) :
    s.linkIdle.now = s.now ∧ s.linkIdle.boot = s.boot ∧ s.linkIdle.vin = s.vin ∧ s.linkIdle.win = s.win ∧ s.linkIdle.evq = s.evq ∧ s.linkIdle.log = s.log ∧
    s.linkIdle.stat = s.stat ∧ s.linkIdle.eyes = s.eyes ∧ s.linkIdle.par = s.par ∧ s.linkIdle.fn = s.fn ∧ s.linkIdle.tab = s.tab ∧ s.linkIdle.thm = s.thm ∧
    s.linkIdle.mem = s.mem ∧ s.linkIdle.cmp = s.cmp ∧ s.linkIdle.nv = s.nv ∧ s.linkIdle.ras = s.ras ∧ s.linkIdle.pipe = s.pipe ∧ s.linkIdle.prk = s.prk ∧
    s.linkIdle.apq = s.apq ∧ s.linkIdle.pnl = s.pnl ∧ s.linkIdle.bob = s.bob ∧ s.linkIdle.sel = s.sel ∧ s.linkIdle.sec = s.sec ∧ s.linkIdle.tat = s.tat ∧
    s.linkIdle.free = s.free ∧ s.linkIdle.pending = s.pending := by
  unfold State.linkIdle
  simp

@[simp] theorem State.dropPartial_frame (s : State) :
    s.dropPartial.now = s.now ∧ s.dropPartial.boot = s.boot ∧ s.dropPartial.vin = s.vin ∧ s.dropPartial.win = s.win ∧ s.dropPartial.evq = s.evq ∧
    s.dropPartial.log = s.log ∧ s.dropPartial.stat = s.stat ∧ s.dropPartial.eyes = s.eyes ∧ s.dropPartial.par = s.par ∧ s.dropPartial.fn = s.fn ∧
    s.dropPartial.tab = s.tab ∧ s.dropPartial.pwr = s.pwr ∧ s.dropPartial.thm = s.thm ∧ s.dropPartial.mem = s.mem ∧ s.dropPartial.cmp = s.cmp ∧
    s.dropPartial.nv = s.nv ∧ s.dropPartial.ras = s.ras ∧ s.dropPartial.pipe = s.pipe ∧ s.dropPartial.prk = s.prk ∧ s.dropPartial.apq = s.apq ∧
    s.dropPartial.pnl = s.pnl ∧ s.dropPartial.bob = s.bob ∧ s.dropPartial.sel = s.sel ∧ s.dropPartial.hl = s.hl ∧ s.dropPartial.sec = s.sec ∧
    s.dropPartial.tat = s.tat ∧ s.dropPartial.free = s.free ∧ s.dropPartial.pending = s.pending := by
  unfold State.dropPartial
  simp

@[simp] theorem State.dropLinkVote_frame (s : State) :
    s.dropLinkVote.now = s.now ∧ s.dropLinkVote.boot = s.boot ∧ s.dropLinkVote.vin = s.vin ∧ s.dropLinkVote.win = s.win ∧ s.dropLinkVote.box = s.box ∧
    s.dropLinkVote.evq = s.evq ∧ s.dropLinkVote.log = s.log ∧ s.dropLinkVote.stat = s.stat ∧ s.dropLinkVote.eyes = s.eyes ∧ s.dropLinkVote.par = s.par ∧
    s.dropLinkVote.fn = s.fn ∧ s.dropLinkVote.tab = s.tab ∧ s.dropLinkVote.pwr = s.pwr ∧ s.dropLinkVote.thm = s.thm ∧ s.dropLinkVote.mem = s.mem ∧
    s.dropLinkVote.cmp = s.cmp ∧ s.dropLinkVote.nv = s.nv ∧ s.dropLinkVote.ras = s.ras ∧ s.dropLinkVote.pipe = s.pipe ∧ s.dropLinkVote.prk = s.prk ∧
    s.dropLinkVote.apq = s.apq ∧ s.dropLinkVote.pnl = s.pnl ∧ s.dropLinkVote.bob = s.bob ∧ s.dropLinkVote.sel = s.sel ∧ s.dropLinkVote.sec = s.sec ∧
    s.dropLinkVote.tat = s.tat ∧ s.dropLinkVote.free = s.free ∧ s.dropLinkVote.pending = s.pending := by
  unfold State.dropLinkVote
  simp

@[simp] theorem State.linkDown_frame (s : State) (cause : Nat) (next : LinkState) :
    (s.linkDown cause next).now = s.now ∧ (s.linkDown cause next).boot = s.boot ∧ (s.linkDown cause next).vin = s.vin ∧
    (s.linkDown cause next).eyes = s.eyes ∧ (s.linkDown cause next).par = s.par ∧ (s.linkDown cause next).fn = s.fn ∧ (s.linkDown cause next).tab = s.tab ∧
    (s.linkDown cause next).thm = s.thm ∧ (s.linkDown cause next).cmp = s.cmp ∧ (s.linkDown cause next).nv = s.nv ∧ (s.linkDown cause next).pipe = s.pipe ∧
    (s.linkDown cause next).prk = s.prk ∧ (s.linkDown cause next).apq = s.apq ∧ (s.linkDown cause next).pnl = s.pnl ∧ (s.linkDown cause next).bob = s.bob ∧
    (s.linkDown cause next).sel = s.sel ∧ (s.linkDown cause next).free = s.free ∧ (s.linkDown cause next).pending = s.pending ∧
    (s.linkDown cause next).mem.hoopFill = s.mem.hoopFill := by
  unfold State.linkDown
  simp

@[simp] theorem State.attemptFailed_frame (s : State) (i : Side) (lane : Nat) :
    (s.attemptFailed i lane).now = s.now ∧ (s.attemptFailed i lane).boot = s.boot ∧ (s.attemptFailed i lane).vin = s.vin ∧
    (s.attemptFailed i lane).eyes = s.eyes ∧ (s.attemptFailed i lane).par = s.par ∧ (s.attemptFailed i lane).fn = s.fn ∧
    (s.attemptFailed i lane).tab = s.tab ∧ (s.attemptFailed i lane).thm = s.thm ∧ (s.attemptFailed i lane).cmp = s.cmp ∧ (s.attemptFailed i lane).nv = s.nv ∧
    (s.attemptFailed i lane).pipe = s.pipe ∧ (s.attemptFailed i lane).prk = s.prk ∧ (s.attemptFailed i lane).apq = s.apq ∧
    (s.attemptFailed i lane).pnl = s.pnl ∧ (s.attemptFailed i lane).bob = s.bob ∧ (s.attemptFailed i lane).sel = s.sel ∧
    (s.attemptFailed i lane).free = s.free ∧ (s.attemptFailed i lane).pending = s.pending ∧ (s.attemptFailed i lane).mem.hoopFill = s.mem.hoopFill := by
  unfold State.attemptFailed
  simp

@[simp] theorem State.groupActive_frame (s : State) (i : Side) :
    (s.groupActive i).now = s.now ∧ (s.groupActive i).boot = s.boot ∧ (s.groupActive i).vin = s.vin ∧ (s.groupActive i).box = s.box ∧
    (s.groupActive i).eyes = s.eyes ∧ (s.groupActive i).par = s.par ∧ (s.groupActive i).fn = s.fn ∧ (s.groupActive i).tab = s.tab ∧
    (s.groupActive i).pwr = s.pwr ∧ (s.groupActive i).thm = s.thm ∧ (s.groupActive i).mem = s.mem ∧ (s.groupActive i).cmp = s.cmp ∧
    (s.groupActive i).nv = s.nv ∧ (s.groupActive i).ras = s.ras ∧ (s.groupActive i).pipe = s.pipe ∧ (s.groupActive i).prk = s.prk ∧
    (s.groupActive i).apq = s.apq ∧ (s.groupActive i).pnl = s.pnl ∧ (s.groupActive i).bob = s.bob ∧ (s.groupActive i).sel = s.sel ∧
    (s.groupActive i).sec = s.sec ∧ (s.groupActive i).tat = s.tat ∧ (s.groupActive i).free = s.free ∧ (s.groupActive i).pending = s.pending := by
  unfold State.groupActive
  simp

@[simp] theorem State.linkWake_frame (s : State) (i : Side) :
    (s.linkWake i).now = s.now ∧ (s.linkWake i).boot = s.boot ∧ (s.linkWake i).vin = s.vin ∧ (s.linkWake i).win = s.win ∧ (s.linkWake i).box = s.box ∧
    (s.linkWake i).evq = s.evq ∧ (s.linkWake i).log = s.log ∧ (s.linkWake i).stat = s.stat ∧ (s.linkWake i).eyes = s.eyes ∧ (s.linkWake i).par = s.par ∧
    (s.linkWake i).fn = s.fn ∧ (s.linkWake i).tab = s.tab ∧ (s.linkWake i).pwr = s.pwr ∧ (s.linkWake i).thm = s.thm ∧ (s.linkWake i).mem = s.mem ∧
    (s.linkWake i).cmp = s.cmp ∧ (s.linkWake i).nv = s.nv ∧ (s.linkWake i).ras = s.ras ∧ (s.linkWake i).pipe = s.pipe ∧ (s.linkWake i).prk = s.prk ∧
    (s.linkWake i).apq = s.apq ∧ (s.linkWake i).pnl = s.pnl ∧ (s.linkWake i).bob = s.bob ∧ (s.linkWake i).sel = s.sel ∧ (s.linkWake i).sec = s.sec ∧
    (s.linkWake i).tat = s.tat ∧ (s.linkWake i).free = s.free ∧ (s.linkWake i).pending = s.pending := by
  unfold State.linkWake
  simp

@[simp] theorem State.linkStop_frame (s : State) :
    s.linkStop.now = s.now ∧ s.linkStop.boot = s.boot ∧ s.linkStop.vin = s.vin ∧ s.linkStop.eyes = s.eyes ∧ s.linkStop.par = s.par ∧ s.linkStop.fn = s.fn ∧
    s.linkStop.tab = s.tab ∧ s.linkStop.thm = s.thm ∧ s.linkStop.cmp = s.cmp ∧ s.linkStop.nv = s.nv ∧ s.linkStop.pipe = s.pipe ∧ s.linkStop.prk = s.prk ∧
    s.linkStop.apq = s.apq ∧ s.linkStop.pnl = s.pnl ∧ s.linkStop.bob = s.bob ∧ s.linkStop.sel = s.sel ∧ s.linkStop.pending = s.pending ∧
    s.linkStop.mem.hoopFill = s.mem.hoopFill := by
  unfold State.linkStop
  repeat' split
  all_goals simp

@[simp] theorem State.linkStart_frame (s : State) :
    s.linkStart.now = s.now ∧ s.linkStart.boot = s.boot ∧ s.linkStart.vin = s.vin ∧ s.linkStart.win = s.win ∧ s.linkStart.box = s.box ∧
    s.linkStart.evq = s.evq ∧ s.linkStart.log = s.log ∧ s.linkStart.stat = s.stat ∧ s.linkStart.eyes = s.eyes ∧ s.linkStart.par = s.par ∧
    s.linkStart.fn = s.fn ∧ s.linkStart.tab = s.tab ∧ s.linkStart.pwr = s.pwr ∧ s.linkStart.thm = s.thm ∧ s.linkStart.mem = s.mem ∧ s.linkStart.cmp = s.cmp ∧
    s.linkStart.nv = s.nv ∧ s.linkStart.ras = s.ras ∧ s.linkStart.pipe = s.pipe ∧ s.linkStart.prk = s.prk ∧ s.linkStart.apq = s.apq ∧
    s.linkStart.pnl = s.pnl ∧ s.linkStart.bob = s.bob ∧ s.linkStart.sel = s.sel ∧ s.linkStart.sec = s.sec ∧ s.linkStart.tat = s.tat ∧
    s.linkStart.free = s.free ∧ s.linkStart.pending = s.pending := by
  unfold State.linkStart
  simp

@[simp] theorem State.linkReset_frame (s : State) :
    s.linkReset.now = s.now ∧ s.linkReset.boot = s.boot ∧ s.linkReset.vin = s.vin ∧ s.linkReset.eyes = s.eyes ∧ s.linkReset.par = s.par ∧
    s.linkReset.fn = s.fn ∧ s.linkReset.tab = s.tab ∧ s.linkReset.thm = s.thm ∧ s.linkReset.cmp = s.cmp ∧ s.linkReset.nv = s.nv ∧ s.linkReset.pipe = s.pipe ∧
    s.linkReset.prk = s.prk ∧ s.linkReset.apq = s.apq ∧ s.linkReset.pnl = s.pnl ∧ s.linkReset.bob = s.bob ∧ s.linkReset.sel = s.sel ∧
    s.linkReset.free = s.free ∧ s.linkReset.pending = s.pending ∧ s.linkReset.mem.hoopFill = s.mem.hoopFill := by
  unfold State.linkReset
  repeat' split
  all_goals simp

@[simp] theorem State.answerFunc_frame (s : State) (mb : Option Mb) (f : Func) (frame : BitVec 32) :
    (s.answerFunc mb f frame).now = s.now ∧ (s.answerFunc mb f frame).boot = s.boot ∧ (s.answerFunc mb f frame).vin = s.vin ∧
    (s.answerFunc mb f frame).evq = s.evq ∧ (s.answerFunc mb f frame).log = s.log ∧ (s.answerFunc mb f frame).stat = s.stat ∧
    (s.answerFunc mb f frame).eyes = s.eyes ∧ (s.answerFunc mb f frame).par = s.par ∧ (s.answerFunc mb f frame).fn = s.fn ∧
    (s.answerFunc mb f frame).tab = s.tab ∧ (s.answerFunc mb f frame).thm = s.thm ∧ (s.answerFunc mb f frame).mem = s.mem ∧
    (s.answerFunc mb f frame).cmp = s.cmp ∧ (s.answerFunc mb f frame).nv = s.nv ∧ (s.answerFunc mb f frame).ras = s.ras ∧
    (s.answerFunc mb f frame).pipe = s.pipe ∧ (s.answerFunc mb f frame).prk = s.prk ∧ (s.answerFunc mb f frame).apq = s.apq ∧
    (s.answerFunc mb f frame).pnl = s.pnl ∧ (s.answerFunc mb f frame).bob = s.bob ∧ (s.answerFunc mb f frame).sel = s.sel ∧
    (s.answerFunc mb f frame).sec = s.sec ∧ (s.answerFunc mb f frame).free = s.free ∧ (s.answerFunc mb f frame).pending = s.pending := by
  unfold State.answerFunc
  simp

@[simp] theorem State.cutStarts_frame (s : State) :
    s.cutStarts.now = s.now ∧ s.cutStarts.boot = s.boot ∧ s.cutStarts.vin = s.vin ∧ s.cutStarts.evq = s.evq ∧ s.cutStarts.log = s.log ∧
    s.cutStarts.stat = s.stat ∧ s.cutStarts.eyes = s.eyes ∧ s.cutStarts.par = s.par ∧ s.cutStarts.tab = s.tab ∧ s.cutStarts.thm = s.thm ∧
    s.cutStarts.mem = s.mem ∧ s.cutStarts.cmp = s.cmp ∧ s.cutStarts.nv = s.nv ∧ s.cutStarts.ras = s.ras ∧ s.cutStarts.pipe = s.pipe ∧
    s.cutStarts.prk = s.prk ∧ s.cutStarts.apq = s.apq ∧ s.cutStarts.pnl = s.pnl ∧ s.cutStarts.bob = s.bob ∧ s.cutStarts.sel = s.sel ∧
    s.cutStarts.sec = s.sec ∧ s.cutStarts.free = s.free ∧ s.cutStarts.pending = s.pending := by
  unfold State.cutStarts
  simp

@[simp] theorem State.liveStarts_frame (s : State) (n : BitVec 32) :
    (s.liveStarts n).now = s.now ∧ (s.liveStarts n).boot = s.boot ∧ (s.liveStarts n).vin = s.vin ∧ (s.liveStarts n).evq = s.evq ∧
    (s.liveStarts n).log = s.log ∧ (s.liveStarts n).stat = s.stat ∧ (s.liveStarts n).eyes = s.eyes ∧ (s.liveStarts n).par = s.par ∧
    (s.liveStarts n).tab = s.tab ∧ (s.liveStarts n).thm = s.thm ∧ (s.liveStarts n).mem = s.mem ∧ (s.liveStarts n).cmp = s.cmp ∧ (s.liveStarts n).nv = s.nv ∧
    (s.liveStarts n).ras = s.ras ∧ (s.liveStarts n).pipe = s.pipe ∧ (s.liveStarts n).prk = s.prk ∧ (s.liveStarts n).apq = s.apq ∧
    (s.liveStarts n).pnl = s.pnl ∧ (s.liveStarts n).bob = s.bob ∧ (s.liveStarts n).sel = s.sel ∧ (s.liveStarts n).sec = s.sec ∧
    (s.liveStarts n).free = s.free ∧ (s.liveStarts n).pending = s.pending := by
  unfold State.liveStarts
  simp

@[simp] theorem State.funcClear_frame (s : State) (f : Func) :
    (s.funcClear f).now = s.now ∧ (s.funcClear f).boot = s.boot ∧ (s.funcClear f).vin = s.vin ∧ (s.funcClear f).eyes = s.eyes ∧ (s.funcClear f).par = s.par ∧
    (s.funcClear f).fn = s.fn ∧ (s.funcClear f).tab = s.tab ∧ (s.funcClear f).thm = s.thm ∧ (s.funcClear f).cmp = s.cmp ∧ (s.funcClear f).nv = s.nv ∧
    (s.funcClear f).pipe = s.pipe ∧ (s.funcClear f).pnl = s.pnl ∧ (s.funcClear f).sel = s.sel ∧ (s.funcClear f).free = s.free ∧
    (s.funcClear f).pending = s.pending ∧ (s.funcClear f).mem.hoopFill = s.mem.hoopFill := by
  unfold State.funcClear
  repeat' split
  all_goals simp

@[simp] theorem State.funcResume_frame (s : State) (f : Func) :
    (s.funcResume f).now = s.now ∧ (s.funcResume f).boot = s.boot ∧ (s.funcResume f).vin = s.vin ∧ (s.funcResume f).win = s.win ∧
    (s.funcResume f).box = s.box ∧ (s.funcResume f).evq = s.evq ∧ (s.funcResume f).log = s.log ∧ (s.funcResume f).stat = s.stat ∧
    (s.funcResume f).eyes = s.eyes ∧ (s.funcResume f).par = s.par ∧ (s.funcResume f).tab = s.tab ∧ (s.funcResume f).pwr = s.pwr ∧
    (s.funcResume f).thm = s.thm ∧ (s.funcResume f).mem = s.mem ∧ (s.funcResume f).cmp = s.cmp ∧ (s.funcResume f).nv = s.nv ∧ (s.funcResume f).ras = s.ras ∧
    (s.funcResume f).prk = s.prk ∧ (s.funcResume f).pnl = s.pnl ∧ (s.funcResume f).bob = s.bob ∧ (s.funcResume f).sel = s.sel ∧ (s.funcResume f).hl = s.hl ∧
    (s.funcResume f).sec = s.sec ∧ (s.funcResume f).tat = s.tat ∧ (s.funcResume f).free = s.free ∧ (s.funcResume f).pending = s.pending := by
  unfold State.funcResume
  repeat' split
  all_goals simp

@[simp] theorem State.funcTake_frame (s : State) (p : FuncPend) (n : BitVec 32) :
    (s.funcTake p n).now = s.now ∧ (s.funcTake p n).boot = s.boot ∧ (s.funcTake p n).vin = s.vin ∧ (s.funcTake p n).eyes = s.eyes ∧
    (s.funcTake p n).par = s.par ∧ (s.funcTake p n).tab = s.tab ∧ (s.funcTake p n).thm = s.thm ∧ (s.funcTake p n).cmp = s.cmp ∧ (s.funcTake p n).nv = s.nv ∧
    (s.funcTake p n).pnl = s.pnl ∧ (s.funcTake p n).sel = s.sel ∧ (s.funcTake p n).pending = s.pending ∧ (s.funcTake p n).mem.hoopFill = s.mem.hoopFill := by
  unfold State.funcTake
  repeat' split
  all_goals simp

@[simp] theorem State.funcFrame_frame (s : State) (n : BitVec 32) :
    (s.funcFrame n).now = s.now ∧ (s.funcFrame n).boot = s.boot ∧ (s.funcFrame n).vin = s.vin ∧ (s.funcFrame n).eyes = s.eyes ∧ (s.funcFrame n).par = s.par ∧
    (s.funcFrame n).tab = s.tab ∧ (s.funcFrame n).thm = s.thm ∧ (s.funcFrame n).cmp = s.cmp ∧ (s.funcFrame n).nv = s.nv ∧ (s.funcFrame n).pnl = s.pnl ∧
    (s.funcFrame n).sel = s.sel ∧ (s.funcFrame n).pending = s.pending ∧ (s.funcFrame n).mem.hoopFill = s.mem.hoopFill := by
  unfold State.funcFrame
  simp

@[simp] theorem State.funcNow_frame (s : State) (p : FuncPend) :
    (s.funcNow p).now = s.now ∧ (s.funcNow p).boot = s.boot ∧ (s.funcNow p).vin = s.vin ∧ (s.funcNow p).eyes = s.eyes ∧ (s.funcNow p).par = s.par ∧
    (s.funcNow p).tab = s.tab ∧ (s.funcNow p).thm = s.thm ∧ (s.funcNow p).cmp = s.cmp ∧ (s.funcNow p).nv = s.nv ∧ (s.funcNow p).pnl = s.pnl ∧
    (s.funcNow p).sel = s.sel ∧ (s.funcNow p).pending = s.pending ∧ (s.funcNow p).mem.hoopFill = s.mem.hoopFill := by
  unfold State.funcNow
  simp

@[simp] theorem State.funcFlush_frame (s : State) :
    s.funcFlush.now = s.now ∧ s.funcFlush.boot = s.boot ∧ s.funcFlush.vin = s.vin ∧ s.funcFlush.eyes = s.eyes ∧ s.funcFlush.par = s.par ∧
    s.funcFlush.tab = s.tab ∧ s.funcFlush.thm = s.thm ∧ s.funcFlush.cmp = s.cmp ∧ s.funcFlush.nv = s.nv ∧ s.funcFlush.pnl = s.pnl ∧ s.funcFlush.sel = s.sel ∧
    s.funcFlush.pending = s.pending ∧ s.funcFlush.mem.hoopFill = s.mem.hoopFill := by
  unfold State.funcFlush
  simp

@[simp] theorem State.traffic_frame (s : State) (write : Bool) (n : Nat) :
    (s.traffic write n).now = s.now ∧ (s.traffic write n).boot = s.boot ∧ (s.traffic write n).vin = s.vin ∧ (s.traffic write n).win = s.win ∧
    (s.traffic write n).box = s.box ∧ (s.traffic write n).evq = s.evq ∧ (s.traffic write n).log = s.log ∧ (s.traffic write n).eyes = s.eyes ∧
    (s.traffic write n).par = s.par ∧ (s.traffic write n).fn = s.fn ∧ (s.traffic write n).tab = s.tab ∧ (s.traffic write n).pwr = s.pwr ∧
    (s.traffic write n).thm = s.thm ∧ (s.traffic write n).cmp = s.cmp ∧ (s.traffic write n).nv = s.nv ∧ (s.traffic write n).ras = s.ras ∧
    (s.traffic write n).pipe = s.pipe ∧ (s.traffic write n).prk = s.prk ∧ (s.traffic write n).apq = s.apq ∧ (s.traffic write n).pnl = s.pnl ∧
    (s.traffic write n).bob = s.bob ∧ (s.traffic write n).sel = s.sel ∧ (s.traffic write n).hl = s.hl ∧ (s.traffic write n).sec = s.sec ∧
    (s.traffic write n).tat = s.tat ∧ (s.traffic write n).free = s.free ∧ (s.traffic write n).pending = s.pending ∧
    (s.traffic write n).mem.cells = s.mem.cells ∧ (s.traffic write n).mem.hoopFill = s.mem.hoopFill := by
  unfold State.traffic
  simp

@[simp] theorem State.serveTask_frame (s : State) (t : MemTask) (b : Burst) :
    (s.serveTask t b).now = s.now ∧ (s.serveTask t b).boot = s.boot ∧ (s.serveTask t b).vin = s.vin ∧ (s.serveTask t b).win = s.win ∧
    (s.serveTask t b).box = s.box ∧ (s.serveTask t b).evq = s.evq ∧ (s.serveTask t b).log = s.log ∧ (s.serveTask t b).eyes = s.eyes ∧
    (s.serveTask t b).par = s.par ∧ (s.serveTask t b).fn = s.fn ∧ (s.serveTask t b).tab = s.tab ∧ (s.serveTask t b).pwr = s.pwr ∧
    (s.serveTask t b).thm = s.thm ∧ (s.serveTask t b).cmp = s.cmp ∧ (s.serveTask t b).nv = s.nv ∧ (s.serveTask t b).ras = s.ras ∧
    (s.serveTask t b).pipe = s.pipe ∧ (s.serveTask t b).prk = s.prk ∧ (s.serveTask t b).apq = s.apq ∧ (s.serveTask t b).pnl = s.pnl ∧
    (s.serveTask t b).bob = s.bob ∧ (s.serveTask t b).sel = s.sel ∧ (s.serveTask t b).hl = s.hl ∧ (s.serveTask t b).sec = s.sec ∧
    (s.serveTask t b).tat = s.tat ∧ (s.serveTask t b).free = s.free ∧ (s.serveTask t b).pending = s.pending ∧ (s.serveTask t b).mem.cells = s.mem.cells ∧
    (s.serveTask t b).mem.hoopFill = s.mem.hoopFill := by
  unfold State.serveTask
  dsimp only
  repeat' split
  all_goals (try simp)
  all_goals (repeat' split)
  all_goals simp_all

@[simp] theorem State.grantBurst_frame (s : State) (b : Burst) :
    (s.grantBurst b).now = s.now ∧ (s.grantBurst b).boot = s.boot ∧ (s.grantBurst b).vin = s.vin ∧ (s.grantBurst b).win = s.win ∧
    (s.grantBurst b).box = s.box ∧ (s.grantBurst b).evq = s.evq ∧ (s.grantBurst b).log = s.log ∧ (s.grantBurst b).eyes = s.eyes ∧
    (s.grantBurst b).par = s.par ∧ (s.grantBurst b).fn = s.fn ∧ (s.grantBurst b).tab = s.tab ∧ (s.grantBurst b).pwr = s.pwr ∧ (s.grantBurst b).thm = s.thm ∧
    (s.grantBurst b).cmp = s.cmp ∧ (s.grantBurst b).nv = s.nv ∧ (s.grantBurst b).ras = s.ras ∧ (s.grantBurst b).pipe = s.pipe ∧
    (s.grantBurst b).prk = s.prk ∧ (s.grantBurst b).apq = s.apq ∧ (s.grantBurst b).pnl = s.pnl ∧ (s.grantBurst b).bob = s.bob ∧
    (s.grantBurst b).sel = s.sel ∧ (s.grantBurst b).hl = s.hl ∧ (s.grantBurst b).sec = s.sec ∧ (s.grantBurst b).tat = s.tat ∧
    (s.grantBurst b).free = s.free ∧ (s.grantBurst b).pending = s.pending ∧ (s.grantBurst b).mem.cells = s.mem.cells ∧
    (s.grantBurst b).mem.hoopFill = s.mem.hoopFill := by
  unfold State.grantBurst
  repeat' split
  all_goals simp

@[simp] theorem State.grantBursts_frame (s : State) (bs : List Burst) :
    (s.grantBursts bs).now = s.now ∧ (s.grantBursts bs).boot = s.boot ∧ (s.grantBursts bs).vin = s.vin ∧ (s.grantBursts bs).win = s.win ∧
    (s.grantBursts bs).box = s.box ∧ (s.grantBursts bs).evq = s.evq ∧ (s.grantBursts bs).log = s.log ∧ (s.grantBursts bs).eyes = s.eyes ∧
    (s.grantBursts bs).par = s.par ∧ (s.grantBursts bs).fn = s.fn ∧ (s.grantBursts bs).tab = s.tab ∧ (s.grantBursts bs).pwr = s.pwr ∧
    (s.grantBursts bs).thm = s.thm ∧ (s.grantBursts bs).cmp = s.cmp ∧ (s.grantBursts bs).nv = s.nv ∧ (s.grantBursts bs).ras = s.ras ∧
    (s.grantBursts bs).pipe = s.pipe ∧ (s.grantBursts bs).prk = s.prk ∧ (s.grantBursts bs).apq = s.apq ∧ (s.grantBursts bs).pnl = s.pnl ∧
    (s.grantBursts bs).bob = s.bob ∧ (s.grantBursts bs).sel = s.sel ∧ (s.grantBursts bs).hl = s.hl ∧ (s.grantBursts bs).sec = s.sec ∧
    (s.grantBursts bs).tat = s.tat ∧ (s.grantBursts bs).free = s.free ∧ (s.grantBursts bs).pending = s.pending ∧ (s.grantBursts bs).mem.cells = s.mem.cells ∧
    (s.grantBursts bs).mem.hoopFill = s.mem.hoopFill := by
  unfold State.grantBursts
  simp

@[simp] theorem State.fetchBlank_frame (s : State) :
    s.fetchBlank.now = s.now ∧ s.fetchBlank.boot = s.boot ∧ s.fetchBlank.vin = s.vin ∧ s.fetchBlank.win = s.win ∧ s.fetchBlank.box = s.box ∧
    s.fetchBlank.evq = s.evq ∧ s.fetchBlank.log = s.log ∧ s.fetchBlank.stat = s.stat ∧ s.fetchBlank.eyes = s.eyes ∧ s.fetchBlank.par = s.par ∧
    s.fetchBlank.fn = s.fn ∧ s.fetchBlank.tab = s.tab ∧ s.fetchBlank.pwr = s.pwr ∧ s.fetchBlank.thm = s.thm ∧ s.fetchBlank.cmp = s.cmp ∧
    s.fetchBlank.nv = s.nv ∧ s.fetchBlank.ras = s.ras ∧ s.fetchBlank.pipe = s.pipe ∧ s.fetchBlank.prk = s.prk ∧ s.fetchBlank.apq = s.apq ∧
    s.fetchBlank.pnl = s.pnl ∧ s.fetchBlank.bob = s.bob ∧ s.fetchBlank.sel = s.sel ∧ s.fetchBlank.hl = s.hl ∧ s.fetchBlank.sec = s.sec ∧
    s.fetchBlank.tat = s.tat ∧ s.fetchBlank.free = s.free ∧ s.fetchBlank.pending = s.pending ∧ s.fetchBlank.mem.cells = s.mem.cells ∧
    s.fetchBlank.mem.hoopFill = s.mem.hoopFill := by
  unfold State.fetchBlank
  dsimp only
  repeat' split
  all_goals (try simp)
  all_goals (repeat' split)
  all_goals simp_all

@[simp] theorem State.fetchTurn_frame (s : State) :
    s.fetchTurn.now = s.now ∧ s.fetchTurn.boot = s.boot ∧ s.fetchTurn.vin = s.vin ∧ s.fetchTurn.win = s.win ∧ s.fetchTurn.box = s.box ∧
    s.fetchTurn.evq = s.evq ∧ s.fetchTurn.log = s.log ∧ s.fetchTurn.stat = s.stat ∧ s.fetchTurn.eyes = s.eyes ∧ s.fetchTurn.par = s.par ∧
    s.fetchTurn.fn = s.fn ∧ s.fetchTurn.tab = s.tab ∧ s.fetchTurn.pwr = s.pwr ∧ s.fetchTurn.thm = s.thm ∧ s.fetchTurn.cmp = s.cmp ∧ s.fetchTurn.nv = s.nv ∧
    s.fetchTurn.ras = s.ras ∧ s.fetchTurn.pipe = s.pipe ∧ s.fetchTurn.prk = s.prk ∧ s.fetchTurn.apq = s.apq ∧ s.fetchTurn.pnl = s.pnl ∧
    s.fetchTurn.bob = s.bob ∧ s.fetchTurn.sel = s.sel ∧ s.fetchTurn.hl = s.hl ∧ s.fetchTurn.sec = s.sec ∧ s.fetchTurn.tat = s.tat ∧
    s.fetchTurn.free = s.free ∧ s.fetchTurn.pending = s.pending ∧ s.fetchTurn.mem.cells = s.mem.cells ∧ s.fetchTurn.mem.hoopFill = s.mem.hoopFill := by
  unfold State.fetchTurn
  dsimp only
  repeat' split
  all_goals (try simp)
  all_goals (repeat' split)
  all_goals simp_all

@[simp] theorem State.fetchDrop_frame (s : State) :
    s.fetchDrop.now = s.now ∧ s.fetchDrop.boot = s.boot ∧ s.fetchDrop.vin = s.vin ∧ s.fetchDrop.win = s.win ∧ s.fetchDrop.box = s.box ∧
    s.fetchDrop.evq = s.evq ∧ s.fetchDrop.log = s.log ∧ s.fetchDrop.stat = s.stat ∧ s.fetchDrop.eyes = s.eyes ∧ s.fetchDrop.par = s.par ∧
    s.fetchDrop.fn = s.fn ∧ s.fetchDrop.tab = s.tab ∧ s.fetchDrop.pwr = s.pwr ∧ s.fetchDrop.thm = s.thm ∧ s.fetchDrop.cmp = s.cmp ∧ s.fetchDrop.nv = s.nv ∧
    s.fetchDrop.ras = s.ras ∧ s.fetchDrop.pipe = s.pipe ∧ s.fetchDrop.prk = s.prk ∧ s.fetchDrop.apq = s.apq ∧ s.fetchDrop.pnl = s.pnl ∧
    s.fetchDrop.bob = s.bob ∧ s.fetchDrop.sel = s.sel ∧ s.fetchDrop.hl = s.hl ∧ s.fetchDrop.sec = s.sec ∧ s.fetchDrop.tat = s.tat ∧
    s.fetchDrop.free = s.free ∧ s.fetchDrop.pending = s.pending ∧ s.fetchDrop.mem.cells = s.mem.cells ∧ s.fetchDrop.mem.hoopFill = s.mem.hoopFill := by
  unfold State.fetchDrop
  dsimp only
  repeat' split
  all_goals (try simp)
  all_goals (repeat' split)
  all_goals simp_all

@[simp] theorem State.countAbort_frame (s : State) (n : Nat) (l r : List MemClient) :
    (s.countAbort n l r).now = s.now ∧ (s.countAbort n l r).boot = s.boot ∧ (s.countAbort n l r).vin = s.vin ∧ (s.countAbort n l r).box = s.box ∧
    (s.countAbort n l r).eyes = s.eyes ∧ (s.countAbort n l r).par = s.par ∧ (s.countAbort n l r).fn = s.fn ∧ (s.countAbort n l r).tab = s.tab ∧
    (s.countAbort n l r).pwr = s.pwr ∧ (s.countAbort n l r).thm = s.thm ∧ (s.countAbort n l r).cmp = s.cmp ∧ (s.countAbort n l r).nv = s.nv ∧
    (s.countAbort n l r).ras = s.ras ∧ (s.countAbort n l r).pipe = s.pipe ∧ (s.countAbort n l r).prk = s.prk ∧ (s.countAbort n l r).apq = s.apq ∧
    (s.countAbort n l r).pnl = s.pnl ∧ (s.countAbort n l r).bob = s.bob ∧ (s.countAbort n l r).sel = s.sel ∧ (s.countAbort n l r).hl = s.hl ∧
    (s.countAbort n l r).sec = s.sec ∧ (s.countAbort n l r).tat = s.tat ∧ (s.countAbort n l r).free = s.free ∧ (s.countAbort n l r).pending = s.pending ∧
    (s.countAbort n l r).mem.cells = s.mem.cells ∧ (s.countAbort n l r).mem.hoopFill = s.mem.hoopFill := by
  unfold State.countAbort
  repeat' split
  all_goals simp

end Sys2Proof.Machine
end

