-- ==== Sys2Proof/Laws/FramePower.lean ====
section
/-! SUPPORT. What each operation leaves unchanged: panel, reset, power domains, frames and raster. Each lemma lists every field of the state that its operation does not touch, and of a touched memory or flash the contents it leaves alone. -/

namespace Sys2Proof.Machine

@[simp] theorem State.selPut_frame (s : State) (f : Nat) (v : Bool) :
    (s.selPut f v).now = s.now ∧ (s.selPut f v).boot = s.boot ∧ (s.selPut f v).vin = s.vin ∧ (s.selPut f v).win = s.win ∧ (s.selPut f v).box = s.box ∧
    (s.selPut f v).evq = s.evq ∧ (s.selPut f v).log = s.log ∧ (s.selPut f v).stat = s.stat ∧ (s.selPut f v).eyes = s.eyes ∧ (s.selPut f v).par = s.par ∧
    (s.selPut f v).fn = s.fn ∧ (s.selPut f v).tab = s.tab ∧ (s.selPut f v).pwr = s.pwr ∧ (s.selPut f v).thm = s.thm ∧ (s.selPut f v).mem = s.mem ∧
    (s.selPut f v).cmp = s.cmp ∧ (s.selPut f v).nv = s.nv ∧ (s.selPut f v).ras = s.ras ∧ (s.selPut f v).pipe = s.pipe ∧ (s.selPut f v).prk = s.prk ∧
    (s.selPut f v).apq = s.apq ∧ (s.selPut f v).pnl = s.pnl ∧ (s.selPut f v).bob = s.bob ∧ (s.selPut f v).hl = s.hl ∧ (s.selPut f v).sec = s.sec ∧
    (s.selPut f v).tat = s.tat ∧ (s.selPut f v).free = s.free ∧ (s.selPut f v).pending = s.pending := by
  unfold State.selPut
  simp

@[simp] theorem State.runEdges_frame (s : State) (es : List Placed) :
    (s.runEdges es).now = s.now ∧ (s.runEdges es).boot = s.boot ∧ (s.runEdges es).vin = s.vin ∧ (s.runEdges es).win = s.win ∧ (s.runEdges es).box = s.box ∧
    (s.runEdges es).evq = s.evq ∧ (s.runEdges es).log = s.log ∧ (s.runEdges es).stat = s.stat ∧ (s.runEdges es).eyes = s.eyes ∧ (s.runEdges es).par = s.par ∧
    (s.runEdges es).fn = s.fn ∧ (s.runEdges es).tab = s.tab ∧ (s.runEdges es).pwr = s.pwr ∧ (s.runEdges es).thm = s.thm ∧ (s.runEdges es).mem = s.mem ∧
    (s.runEdges es).cmp = s.cmp ∧ (s.runEdges es).nv = s.nv ∧ (s.runEdges es).ras = s.ras ∧ (s.runEdges es).pipe = s.pipe ∧ (s.runEdges es).prk = s.prk ∧
    (s.runEdges es).apq = s.apq ∧ (s.runEdges es).pnl = s.pnl ∧ (s.runEdges es).bob = s.bob ∧ (s.runEdges es).hl = s.hl ∧ (s.runEdges es).sec = s.sec ∧
    (s.runEdges es).tat = s.tat ∧ (s.runEdges es).free = s.free ∧ (s.runEdges es).pending = s.pending := by
  unfold State.runEdges
  simp

@[simp] theorem State.selPlace_frame (s : State) (sense : List Placed) :
    (s.selPlace sense).now = s.now ∧ (s.selPlace sense).boot = s.boot ∧ (s.selPlace sense).vin = s.vin ∧ (s.selPlace sense).win = s.win ∧
    (s.selPlace sense).box = s.box ∧ (s.selPlace sense).evq = s.evq ∧ (s.selPlace sense).log = s.log ∧ (s.selPlace sense).stat = s.stat ∧
    (s.selPlace sense).eyes = s.eyes ∧ (s.selPlace sense).par = s.par ∧ (s.selPlace sense).fn = s.fn ∧ (s.selPlace sense).tab = s.tab ∧
    (s.selPlace sense).pwr = s.pwr ∧ (s.selPlace sense).thm = s.thm ∧ (s.selPlace sense).mem = s.mem ∧ (s.selPlace sense).cmp = s.cmp ∧
    (s.selPlace sense).nv = s.nv ∧ (s.selPlace sense).ras = s.ras ∧ (s.selPlace sense).pipe = s.pipe ∧ (s.selPlace sense).prk = s.prk ∧
    (s.selPlace sense).apq = s.apq ∧ (s.selPlace sense).pnl = s.pnl ∧ (s.selPlace sense).bob = s.bob ∧ (s.selPlace sense).hl = s.hl ∧
    (s.selPlace sense).sec = s.sec ∧ (s.selPlace sense).tat = s.tat ∧ (s.selPlace sense).free = s.free ∧ (s.selPlace sense).pending = s.pending := by
  unfold State.selPlace
  simp

@[simp] theorem State.selAdvance_frame (s : State) :
    s.selAdvance.now = s.now ∧ s.selAdvance.boot = s.boot ∧ s.selAdvance.vin = s.vin ∧ s.selAdvance.win = s.win ∧ s.selAdvance.box = s.box ∧
    s.selAdvance.evq = s.evq ∧ s.selAdvance.log = s.log ∧ s.selAdvance.stat = s.stat ∧ s.selAdvance.eyes = s.eyes ∧ s.selAdvance.par = s.par ∧
    s.selAdvance.fn = s.fn ∧ s.selAdvance.tab = s.tab ∧ s.selAdvance.pwr = s.pwr ∧ s.selAdvance.thm = s.thm ∧ s.selAdvance.mem = s.mem ∧
    s.selAdvance.cmp = s.cmp ∧ s.selAdvance.nv = s.nv ∧ s.selAdvance.ras = s.ras ∧ s.selAdvance.pipe = s.pipe ∧ s.selAdvance.prk = s.prk ∧
    s.selAdvance.apq = s.apq ∧ s.selAdvance.pnl = s.pnl ∧ s.selAdvance.bob = s.bob ∧ s.selAdvance.hl = s.hl ∧ s.selAdvance.sec = s.sec ∧
    s.selAdvance.tat = s.tat ∧ s.selAdvance.free = s.free ∧ s.selAdvance.pending = s.pending := by
  unfold State.selAdvance
  simp

@[simp] theorem State.selFrame_frame (s : State) :
    s.selFrame.now = s.now ∧ s.selFrame.boot = s.boot ∧ s.selFrame.vin = s.vin ∧ s.selFrame.win = s.win ∧ s.selFrame.box = s.box ∧ s.selFrame.evq = s.evq ∧
    s.selFrame.log = s.log ∧ s.selFrame.stat = s.stat ∧ s.selFrame.eyes = s.eyes ∧ s.selFrame.par = s.par ∧ s.selFrame.fn = s.fn ∧ s.selFrame.tab = s.tab ∧
    s.selFrame.pwr = s.pwr ∧ s.selFrame.thm = s.thm ∧ s.selFrame.mem = s.mem ∧ s.selFrame.cmp = s.cmp ∧ s.selFrame.nv = s.nv ∧ s.selFrame.ras = s.ras ∧
    s.selFrame.pipe = s.pipe ∧ s.selFrame.prk = s.prk ∧ s.selFrame.apq = s.apq ∧ s.selFrame.pnl = s.pnl ∧ s.selFrame.bob = s.bob ∧ s.selFrame.hl = s.hl ∧
    s.selFrame.sec = s.sec ∧ s.selFrame.tat = s.tat ∧ s.selFrame.free = s.free ∧ s.selFrame.pending = s.pending := by
  unfold State.selFrame
  simp

@[simp] theorem State.selBlank_frame (s : State) :
    s.selBlank.now = s.now ∧ s.selBlank.boot = s.boot ∧ s.selBlank.vin = s.vin ∧ s.selBlank.win = s.win ∧ s.selBlank.box = s.box ∧ s.selBlank.evq = s.evq ∧
    s.selBlank.log = s.log ∧ s.selBlank.stat = s.stat ∧ s.selBlank.eyes = s.eyes ∧ s.selBlank.par = s.par ∧ s.selBlank.fn = s.fn ∧ s.selBlank.tab = s.tab ∧
    s.selBlank.pwr = s.pwr ∧ s.selBlank.thm = s.thm ∧ s.selBlank.mem = s.mem ∧ s.selBlank.cmp = s.cmp ∧ s.selBlank.nv = s.nv ∧ s.selBlank.ras = s.ras ∧
    s.selBlank.pipe = s.pipe ∧ s.selBlank.prk = s.prk ∧ s.selBlank.apq = s.apq ∧ s.selBlank.pnl = s.pnl ∧ s.selBlank.bob = s.bob ∧ s.selBlank.hl = s.hl ∧
    s.selBlank.sec = s.sec ∧ s.selBlank.tat = s.tat ∧ s.selBlank.free = s.free ∧ s.selBlank.pending = s.pending := by
  unfold State.selBlank
  simp

@[simp] theorem State.emitOff_frame (s : State) :
    s.emitOff.now = s.now ∧ s.emitOff.boot = s.boot ∧ s.emitOff.vin = s.vin ∧ s.emitOff.win = s.win ∧ s.emitOff.box = s.box ∧ s.emitOff.evq = s.evq ∧
    s.emitOff.log = s.log ∧ s.emitOff.stat = s.stat ∧ s.emitOff.eyes = s.eyes ∧ s.emitOff.par = s.par ∧ s.emitOff.fn = s.fn ∧ s.emitOff.tab = s.tab ∧
    s.emitOff.pwr = s.pwr ∧ s.emitOff.thm = s.thm ∧ s.emitOff.mem = s.mem ∧ s.emitOff.cmp = s.cmp ∧ s.emitOff.nv = s.nv ∧ s.emitOff.ras = s.ras ∧
    s.emitOff.pipe = s.pipe ∧ s.emitOff.prk = s.prk ∧ s.emitOff.apq = s.apq ∧ s.emitOff.bob = s.bob ∧ s.emitOff.hl = s.hl ∧ s.emitOff.sec = s.sec ∧
    s.emitOff.tat = s.tat ∧ s.emitOff.free = s.free ∧ s.emitOff.pending = s.pending := by
  unfold State.emitOff
  simp

@[simp] theorem State.emitOn_frame (s : State) :
    s.emitOn.now = s.now ∧ s.emitOn.boot = s.boot ∧ s.emitOn.vin = s.vin ∧ s.emitOn.win = s.win ∧ s.emitOn.box = s.box ∧ s.emitOn.evq = s.evq ∧
    s.emitOn.log = s.log ∧ s.emitOn.stat = s.stat ∧ s.emitOn.eyes = s.eyes ∧ s.emitOn.par = s.par ∧ s.emitOn.fn = s.fn ∧ s.emitOn.tab = s.tab ∧
    s.emitOn.pwr = s.pwr ∧ s.emitOn.thm = s.thm ∧ s.emitOn.mem = s.mem ∧ s.emitOn.cmp = s.cmp ∧ s.emitOn.nv = s.nv ∧ s.emitOn.ras = s.ras ∧
    s.emitOn.pipe = s.pipe ∧ s.emitOn.prk = s.prk ∧ s.emitOn.apq = s.apq ∧ s.emitOn.bob = s.bob ∧ s.emitOn.hl = s.hl ∧ s.emitOn.sec = s.sec ∧
    s.emitOn.tat = s.tat ∧ s.emitOn.free = s.free ∧ s.emitOn.pending = s.pending := by
  unfold State.emitOn
  simp

@[simp] theorem State.panelState_frame (s : State) (st : PanelState) (cause : Nat) :
    (s.panelState st cause).now = s.now ∧ (s.panelState st cause).vin = s.vin ∧ (s.panelState st cause).box = s.box ∧ (s.panelState st cause).eyes = s.eyes ∧
    (s.panelState st cause).par = s.par ∧ (s.panelState st cause).fn = s.fn ∧ (s.panelState st cause).tab = s.tab ∧ (s.panelState st cause).pwr = s.pwr ∧
    (s.panelState st cause).thm = s.thm ∧ (s.panelState st cause).mem = s.mem ∧ (s.panelState st cause).cmp = s.cmp ∧ (s.panelState st cause).nv = s.nv ∧
    (s.panelState st cause).ras = s.ras ∧ (s.panelState st cause).pipe = s.pipe ∧ (s.panelState st cause).prk = s.prk ∧ (s.panelState st cause).apq = s.apq ∧
    (s.panelState st cause).bob = s.bob ∧ (s.panelState st cause).sel = s.sel ∧ (s.panelState st cause).hl = s.hl ∧ (s.panelState st cause).sec = s.sec ∧
    (s.panelState st cause).tat = s.tat ∧ (s.panelState st cause).free = s.free ∧ (s.panelState st cause).pending = s.pending := by
  unfold State.panelState
  simp

@[simp] theorem State.panelStep_frame (s : State) (p : PowerStep) :
    (s.panelStep p).now = s.now ∧ (s.panelStep p).boot = s.boot ∧ (s.panelStep p).vin = s.vin ∧ (s.panelStep p).win = s.win ∧ (s.panelStep p).box = s.box ∧
    (s.panelStep p).evq = s.evq ∧ (s.panelStep p).log = s.log ∧ (s.panelStep p).stat = s.stat ∧ (s.panelStep p).eyes = s.eyes ∧ (s.panelStep p).par = s.par ∧
    (s.panelStep p).fn = s.fn ∧ (s.panelStep p).tab = s.tab ∧ (s.panelStep p).pwr = s.pwr ∧ (s.panelStep p).thm = s.thm ∧ (s.panelStep p).mem = s.mem ∧
    (s.panelStep p).cmp = s.cmp ∧ (s.panelStep p).nv = s.nv ∧ (s.panelStep p).ras = s.ras ∧ (s.panelStep p).pipe = s.pipe ∧ (s.panelStep p).prk = s.prk ∧
    (s.panelStep p).apq = s.apq ∧ (s.panelStep p).bob = s.bob ∧ (s.panelStep p).sel = s.sel ∧ (s.panelStep p).hl = s.hl ∧ (s.panelStep p).sec = s.sec ∧
    (s.panelStep p).tat = s.tat ∧ (s.panelStep p).free = s.free ∧ (s.panelStep p).pending = s.pending := by
  unfold State.panelStep
  simp

@[simp] theorem State.dropTransition_frame (s : State) :
    s.dropTransition.now = s.now ∧ s.dropTransition.boot = s.boot ∧ s.dropTransition.vin = s.vin ∧ s.dropTransition.eyes = s.eyes ∧
    s.dropTransition.fn = s.fn ∧ s.dropTransition.tab = s.tab ∧ s.dropTransition.pwr = s.pwr ∧ s.dropTransition.mem = s.mem ∧ s.dropTransition.cmp = s.cmp ∧
    s.dropTransition.nv = s.nv ∧ s.dropTransition.pipe = s.pipe ∧ s.dropTransition.prk = s.prk ∧ s.dropTransition.apq = s.apq ∧
    s.dropTransition.pnl = s.pnl ∧ s.dropTransition.bob = s.bob ∧ s.dropTransition.sel = s.sel ∧ s.dropTransition.hl = s.hl ∧ s.dropTransition.sec = s.sec ∧
    s.dropTransition.tat = s.tat ∧ s.dropTransition.free = s.free ∧ s.dropTransition.pending = s.pending := by
  unfold State.dropTransition
  repeat' split
  all_goals simp

@[simp] theorem State.rasterStop_frame (s : State) :
    s.rasterStop.now = s.now ∧ s.rasterStop.boot = s.boot ∧ s.rasterStop.vin = s.vin ∧ s.rasterStop.eyes = s.eyes ∧ s.rasterStop.tab = s.tab ∧
    s.rasterStop.cmp = s.cmp ∧ s.rasterStop.nv = s.nv ∧ s.rasterStop.pnl = s.pnl ∧ s.rasterStop.sel = s.sel ∧ s.rasterStop.pending = s.pending ∧
    s.rasterStop.mem.hoopFill = s.mem.hoopFill := by
  unfold State.rasterStop
  repeat' split
  all_goals simp

@[simp] theorem State.restEnd_frame (s : State) (how : Nat) :
    (s.restEnd how).now = s.now ∧ (s.restEnd how).boot = s.boot ∧ (s.restEnd how).vin = s.vin ∧ (s.restEnd how).box = s.box ∧ (s.restEnd how).eyes = s.eyes ∧
    (s.restEnd how).par = s.par ∧ (s.restEnd how).fn = s.fn ∧ (s.restEnd how).tab = s.tab ∧ (s.restEnd how).pwr = s.pwr ∧ (s.restEnd how).thm = s.thm ∧
    (s.restEnd how).mem = s.mem ∧ (s.restEnd how).cmp = s.cmp ∧ (s.restEnd how).nv = s.nv ∧ (s.restEnd how).ras = s.ras ∧ (s.restEnd how).pipe = s.pipe ∧
    (s.restEnd how).apq = s.apq ∧ (s.restEnd how).pnl = s.pnl ∧ (s.restEnd how).bob = s.bob ∧ (s.restEnd how).sel = s.sel ∧ (s.restEnd how).hl = s.hl ∧
    (s.restEnd how).sec = s.sec ∧ (s.restEnd how).tat = s.tat ∧ (s.restEnd how).free = s.free ∧ (s.restEnd how).pending = s.pending := by
  unfold State.restEnd
  simp

@[simp] theorem State.discharge_frame (s : State) (cause : Nat) :
    (s.discharge cause).now = s.now ∧ (s.discharge cause).vin = s.vin ∧ (s.discharge cause).eyes = s.eyes ∧ (s.discharge cause).tab = s.tab ∧
    (s.discharge cause).cmp = s.cmp ∧ (s.discharge cause).nv = s.nv ∧ (s.discharge cause).pending = s.pending ∧
    (s.discharge cause).mem.hoopFill = s.mem.hoopFill := by
  unfold State.discharge
  simp

@[simp] theorem State.afterDark_frame (s : State) :
    s.afterDark.now = s.now ∧ s.afterDark.vin = s.vin ∧ s.afterDark.eyes = s.eyes ∧ s.afterDark.tab = s.tab ∧ s.afterDark.cmp = s.cmp ∧
    s.afterDark.nv = s.nv ∧ s.afterDark.pending = s.pending ∧ s.afterDark.mem.hoopFill = s.mem.hoopFill := by
  unfold State.afterDark
  repeat' split
  all_goals simp

@[simp] theorem State.unshow_frame (s : State) :
    s.unshow.now = s.now ∧ s.unshow.boot = s.boot ∧ s.unshow.vin = s.vin ∧ s.unshow.win = s.win ∧ s.unshow.box = s.box ∧ s.unshow.evq = s.evq ∧
    s.unshow.log = s.log ∧ s.unshow.stat = s.stat ∧ s.unshow.eyes = s.eyes ∧ s.unshow.par = s.par ∧ s.unshow.fn = s.fn ∧ s.unshow.tab = s.tab ∧
    s.unshow.pwr = s.pwr ∧ s.unshow.thm = s.thm ∧ s.unshow.mem = s.mem ∧ s.unshow.cmp = s.cmp ∧ s.unshow.nv = s.nv ∧ s.unshow.ras = s.ras ∧
    s.unshow.pipe = s.pipe ∧ s.unshow.prk = s.prk ∧ s.unshow.apq = s.apq ∧ s.unshow.pnl = s.pnl ∧ s.unshow.bob = s.bob ∧ s.unshow.sel = s.sel ∧
    s.unshow.sec = s.sec ∧ s.unshow.tat = s.tat ∧ s.unshow.free = s.free ∧ s.unshow.pending = s.pending := by
  unfold State.unshow
  simp

@[simp] theorem State.endPanelOn_frame (s : State) (status : Nat) :
    (s.endPanelOn status).now = s.now ∧ (s.endPanelOn status).boot = s.boot ∧ (s.endPanelOn status).vin = s.vin ∧ (s.endPanelOn status).eyes = s.eyes ∧
    (s.endPanelOn status).par = s.par ∧ (s.endPanelOn status).fn = s.fn ∧ (s.endPanelOn status).tab = s.tab ∧ (s.endPanelOn status).pwr = s.pwr ∧
    (s.endPanelOn status).thm = s.thm ∧ (s.endPanelOn status).mem = s.mem ∧ (s.endPanelOn status).cmp = s.cmp ∧ (s.endPanelOn status).nv = s.nv ∧
    (s.endPanelOn status).ras = s.ras ∧ (s.endPanelOn status).pipe = s.pipe ∧ (s.endPanelOn status).prk = s.prk ∧ (s.endPanelOn status).apq = s.apq ∧
    (s.endPanelOn status).pnl = s.pnl ∧ (s.endPanelOn status).bob = s.bob ∧ (s.endPanelOn status).sel = s.sel ∧ (s.endPanelOn status).hl = s.hl ∧
    (s.endPanelOn status).sec = s.sec ∧ (s.endPanelOn status).tat = s.tat ∧ (s.endPanelOn status).free = s.free ∧ (s.endPanelOn status).pending = s.pending := by
  unfold State.endPanelOn
  simp

@[simp] theorem State.darken_frame (s : State) (cause : Nat) (rest : Bool) :
    (s.darken cause rest).now = s.now ∧ (s.darken cause rest).vin = s.vin ∧ (s.darken cause rest).eyes = s.eyes ∧ (s.darken cause rest).tab = s.tab ∧
    (s.darken cause rest).cmp = s.cmp ∧ (s.darken cause rest).nv = s.nv ∧ (s.darken cause rest).pending = s.pending ∧
    (s.darken cause rest).mem.hoopFill = s.mem.hoopFill := by
  unfold State.darken
  dsimp only
  repeat' split
  all_goals simp

@[simp] theorem State.panelStop_frame (s : State) (cause : Nat) (rest : Bool) :
    (s.panelStop cause rest).now = s.now ∧ (s.panelStop cause rest).vin = s.vin ∧ (s.panelStop cause rest).eyes = s.eyes ∧
    (s.panelStop cause rest).tab = s.tab ∧ (s.panelStop cause rest).cmp = s.cmp ∧ (s.panelStop cause rest).nv = s.nv ∧
    (s.panelStop cause rest).pending = s.pending ∧ (s.panelStop cause rest).mem.hoopFill = s.mem.hoopFill := by
  unfold State.panelStop
  repeat' split
  all_goals simp

@[simp] theorem State.hardStop_frame (s : State) :
    s.hardStop.now = s.now ∧ s.hardStop.vin = s.vin ∧ s.hardStop.eyes = s.eyes ∧ s.hardStop.tab = s.tab ∧ s.hardStop.cmp = s.cmp ∧ s.hardStop.nv = s.nv ∧
    s.hardStop.pending = s.pending ∧ s.hardStop.mem.hoopFill = s.mem.hoopFill := by
  unfold State.hardStop
  repeat' split
  all_goals simp

@[simp] theorem State.panelPfw_frame (s : State) :
    s.panelPfw.now = s.now ∧ s.panelPfw.vin = s.vin ∧ s.panelPfw.eyes = s.eyes ∧ s.panelPfw.tab = s.tab ∧ s.panelPfw.cmp = s.cmp ∧ s.panelPfw.nv = s.nv ∧
    s.panelPfw.pending = s.pending ∧ s.panelPfw.mem.hoopFill = s.mem.hoopFill := by
  unfold State.panelPfw
  repeat' split
  all_goals simp

@[simp] theorem State.idleSafeStop_frame (s : State) :
    s.idleSafeStop.now = s.now ∧ s.idleSafeStop.vin = s.vin ∧ s.idleSafeStop.eyes = s.eyes ∧ s.idleSafeStop.tab = s.tab ∧ s.idleSafeStop.cmp = s.cmp ∧
    s.idleSafeStop.nv = s.nv ∧ s.idleSafeStop.pending = s.pending ∧ s.idleSafeStop.mem.hoopFill = s.mem.hoopFill := by
  unfold State.idleSafeStop
  repeat' split
  all_goals simp

@[simp] theorem State.panelOffDone_frame (s : State) :
    s.panelOffDone.now = s.now ∧ s.panelOffDone.vin = s.vin ∧ s.panelOffDone.eyes = s.eyes ∧ s.panelOffDone.par = s.par ∧ s.panelOffDone.fn = s.fn ∧
    s.panelOffDone.tab = s.tab ∧ s.panelOffDone.pwr = s.pwr ∧ s.panelOffDone.thm = s.thm ∧ s.panelOffDone.cmp = s.cmp ∧ s.panelOffDone.ras = s.ras ∧
    s.panelOffDone.apq = s.apq ∧ s.panelOffDone.hl = s.hl ∧ s.panelOffDone.sec = s.sec ∧ s.panelOffDone.tat = s.tat ∧ s.panelOffDone.free = s.free ∧
    s.panelOffDone.pending = s.pending ∧ s.panelOffDone.mem.cells = s.mem.cells ∧ s.panelOffDone.mem.hoopFill = s.mem.hoopFill ∧
    s.panelOffDone.nv.nand = s.nv.nand := by
  unfold State.panelOffDone
  dsimp only
  repeat' split
  all_goals simp

@[simp] theorem State.panelStart_frame (s : State) :
    s.panelStart.now = s.now ∧ s.panelStart.vin = s.vin ∧ s.panelStart.box = s.box ∧ s.panelStart.eyes = s.eyes ∧ s.panelStart.par = s.par ∧
    s.panelStart.fn = s.fn ∧ s.panelStart.tab = s.tab ∧ s.panelStart.pwr = s.pwr ∧ s.panelStart.thm = s.thm ∧ s.panelStart.mem = s.mem ∧
    s.panelStart.cmp = s.cmp ∧ s.panelStart.nv = s.nv ∧ s.panelStart.ras = s.ras ∧ s.panelStart.prk = s.prk ∧ s.panelStart.apq = s.apq ∧
    s.panelStart.hl = s.hl ∧ s.panelStart.sec = s.sec ∧ s.panelStart.tat = s.tat ∧ s.panelStart.free = s.free ∧ s.panelStart.pending = s.pending := by
  unfold State.panelStart
  simp

@[simp] theorem State.trainAttempt_frame (s : State) (n : Nat) :
    (s.trainAttempt n).now = s.now ∧ (s.trainAttempt n).boot = s.boot ∧ (s.trainAttempt n).vin = s.vin ∧ (s.trainAttempt n).win = s.win ∧
    (s.trainAttempt n).box = s.box ∧ (s.trainAttempt n).evq = s.evq ∧ (s.trainAttempt n).log = s.log ∧ (s.trainAttempt n).eyes = s.eyes ∧
    (s.trainAttempt n).par = s.par ∧ (s.trainAttempt n).fn = s.fn ∧ (s.trainAttempt n).tab = s.tab ∧ (s.trainAttempt n).pwr = s.pwr ∧
    (s.trainAttempt n).thm = s.thm ∧ (s.trainAttempt n).mem = s.mem ∧ (s.trainAttempt n).cmp = s.cmp ∧ (s.trainAttempt n).nv = s.nv ∧
    (s.trainAttempt n).ras = s.ras ∧ (s.trainAttempt n).pipe = s.pipe ∧ (s.trainAttempt n).prk = s.prk ∧ (s.trainAttempt n).apq = s.apq ∧
    (s.trainAttempt n).pnl = s.pnl ∧ (s.trainAttempt n).sel = s.sel ∧ (s.trainAttempt n).hl = s.hl ∧ (s.trainAttempt n).sec = s.sec ∧
    (s.trainAttempt n).tat = s.tat ∧ (s.trainAttempt n).pending = s.pending := by
  unfold State.trainAttempt
  dsimp only
  repeat' split
  all_goals (try simp)
  all_goals (repeat' split)
  all_goals simp_all

@[simp] theorem State.beginTraining_frame (s : State) :
    s.beginTraining.now = s.now ∧ s.beginTraining.vin = s.vin ∧ s.beginTraining.box = s.box ∧ s.beginTraining.eyes = s.eyes ∧ s.beginTraining.par = s.par ∧
    s.beginTraining.fn = s.fn ∧ s.beginTraining.tab = s.tab ∧ s.beginTraining.pwr = s.pwr ∧ s.beginTraining.thm = s.thm ∧ s.beginTraining.mem = s.mem ∧
    s.beginTraining.cmp = s.cmp ∧ s.beginTraining.nv = s.nv ∧ s.beginTraining.ras = s.ras ∧ s.beginTraining.pipe = s.pipe ∧ s.beginTraining.prk = s.prk ∧
    s.beginTraining.apq = s.apq ∧ s.beginTraining.sel = s.sel ∧ s.beginTraining.hl = s.hl ∧ s.beginTraining.sec = s.sec ∧ s.beginTraining.tat = s.tat ∧
    s.beginTraining.pending = s.pending := by
  unfold State.beginTraining
  simp

@[simp] theorem State.assertEnable_frame (s : State) (k : Nat) :
    (s.assertEnable k).now = s.now ∧ (s.assertEnable k).boot = s.boot ∧ (s.assertEnable k).vin = s.vin ∧ (s.assertEnable k).win = s.win ∧
    (s.assertEnable k).box = s.box ∧ (s.assertEnable k).evq = s.evq ∧ (s.assertEnable k).log = s.log ∧ (s.assertEnable k).stat = s.stat ∧
    (s.assertEnable k).eyes = s.eyes ∧ (s.assertEnable k).par = s.par ∧ (s.assertEnable k).fn = s.fn ∧ (s.assertEnable k).tab = s.tab ∧
    (s.assertEnable k).pwr = s.pwr ∧ (s.assertEnable k).thm = s.thm ∧ (s.assertEnable k).mem = s.mem ∧ (s.assertEnable k).cmp = s.cmp ∧
    (s.assertEnable k).nv = s.nv ∧ (s.assertEnable k).ras = s.ras ∧ (s.assertEnable k).pipe = s.pipe ∧ (s.assertEnable k).prk = s.prk ∧
    (s.assertEnable k).apq = s.apq ∧ (s.assertEnable k).bob = s.bob ∧ (s.assertEnable k).hl = s.hl ∧ (s.assertEnable k).sec = s.sec ∧
    (s.assertEnable k).tat = s.tat ∧ (s.assertEnable k).free = s.free ∧ (s.assertEnable k).pending = s.pending := by
  unfold State.assertEnable
  simp

@[simp] theorem State.powerNext_frame (s : State) (hold k : Nat) :
    (s.powerNext hold k).vin = s.vin ∧ (s.powerNext hold k).box = s.box ∧ (s.powerNext hold k).eyes = s.eyes ∧ (s.powerNext hold k).par = s.par ∧
    (s.powerNext hold k).fn = s.fn ∧ (s.powerNext hold k).tab = s.tab ∧ (s.powerNext hold k).thm = s.thm ∧ (s.powerNext hold k).mem = s.mem ∧
    (s.powerNext hold k).cmp = s.cmp ∧ (s.powerNext hold k).ras = s.ras ∧ (s.powerNext hold k).pipe = s.pipe ∧ (s.powerNext hold k).prk = s.prk ∧
    (s.powerNext hold k).apq = s.apq ∧ (s.powerNext hold k).hl = s.hl ∧ (s.powerNext hold k).sec = s.sec ∧ (s.powerNext hold k).tat = s.tat ∧
    (s.powerNext hold k).pending = s.pending ∧ (s.powerNext hold k).nv.nor = s.nv.nor ∧ (s.powerNext hold k).nv.nand = s.nv.nand := by
  unfold State.powerNext
  repeat' split
  all_goals simp

@[simp] theorem State.configDrivers_frame (s : State) :
    s.configDrivers.now = s.now ∧ s.configDrivers.boot = s.boot ∧ s.configDrivers.vin = s.vin ∧ s.configDrivers.eyes = s.eyes ∧ s.configDrivers.par = s.par ∧
    s.configDrivers.fn = s.fn ∧ s.configDrivers.tab = s.tab ∧ s.configDrivers.thm = s.thm ∧ s.configDrivers.cmp = s.cmp ∧ s.configDrivers.nv = s.nv ∧
    s.configDrivers.pipe = s.pipe ∧ s.configDrivers.prk = s.prk ∧ s.configDrivers.pnl = s.pnl ∧ s.configDrivers.sel = s.sel ∧
    s.configDrivers.pending = s.pending ∧ s.configDrivers.mem.hoopFill = s.mem.hoopFill := by
  unfold State.configDrivers
  dsimp only
  repeat' split
  all_goals (try simp)
  all_goals (repeat' split)
  all_goals simp_all

@[simp] theorem State.trained_frame (s : State) :
    s.trained.now = s.now ∧ s.trained.vin = s.vin ∧ s.trained.box = s.box ∧ s.trained.eyes = s.eyes ∧ s.trained.par = s.par ∧ s.trained.fn = s.fn ∧
    s.trained.tab = s.tab ∧ s.trained.pwr = s.pwr ∧ s.trained.thm = s.thm ∧ s.trained.mem = s.mem ∧ s.trained.cmp = s.cmp ∧ s.trained.nv = s.nv ∧
    s.trained.ras = s.ras ∧ s.trained.pipe = s.pipe ∧ s.trained.prk = s.prk ∧ s.trained.apq = s.apq ∧ s.trained.sel = s.sel ∧ s.trained.hl = s.hl ∧
    s.trained.sec = s.sec ∧ s.trained.tat = s.tat ∧ s.trained.pending = s.pending := by
  unfold State.trained
  dsimp only
  repeat' split
  all_goals (try simp)
  all_goals (repeat' split)
  all_goals simp_all

@[simp] theorem State.trainFailed_frame (s : State) :
    s.trainFailed.now = s.now ∧ s.trainFailed.vin = s.vin ∧ s.trainFailed.eyes = s.eyes ∧ s.trainFailed.tab = s.tab ∧ s.trainFailed.cmp = s.cmp ∧
    s.trainFailed.nv = s.nv ∧ s.trainFailed.pending = s.pending ∧ s.trainFailed.mem.hoopFill = s.mem.hoopFill := by
  unfold State.trainFailed
  repeat' split
  all_goals simp

@[simp] theorem State.lockBlank_frame (s : State) :
    s.lockBlank.now = s.now ∧ s.lockBlank.boot = s.boot ∧ s.lockBlank.vin = s.vin ∧ s.lockBlank.box = s.box ∧ s.lockBlank.eyes = s.eyes ∧
    s.lockBlank.par = s.par ∧ s.lockBlank.fn = s.fn ∧ s.lockBlank.tab = s.tab ∧ s.lockBlank.pwr = s.pwr ∧ s.lockBlank.thm = s.thm ∧ s.lockBlank.mem = s.mem ∧
    s.lockBlank.cmp = s.cmp ∧ s.lockBlank.nv = s.nv ∧ s.lockBlank.ras = s.ras ∧ s.lockBlank.pipe = s.pipe ∧ s.lockBlank.prk = s.prk ∧
    s.lockBlank.apq = s.apq ∧ s.lockBlank.pnl = s.pnl ∧ s.lockBlank.sel = s.sel ∧ s.lockBlank.hl = s.hl ∧ s.lockBlank.sec = s.sec ∧ s.lockBlank.tat = s.tat ∧
    s.lockBlank.free = s.free ∧ s.lockBlank.pending = s.pending := by
  unfold State.lockBlank
  simp

@[simp] theorem State.lockFrame_frame (s : State) :
    s.lockFrame.now = s.now ∧ s.lockFrame.boot = s.boot ∧ s.lockFrame.vin = s.vin ∧ s.lockFrame.win = s.win ∧ s.lockFrame.box = s.box ∧
    s.lockFrame.evq = s.evq ∧ s.lockFrame.log = s.log ∧ s.lockFrame.eyes = s.eyes ∧ s.lockFrame.par = s.par ∧ s.lockFrame.fn = s.fn ∧
    s.lockFrame.tab = s.tab ∧ s.lockFrame.pwr = s.pwr ∧ s.lockFrame.thm = s.thm ∧ s.lockFrame.mem = s.mem ∧ s.lockFrame.cmp = s.cmp ∧ s.lockFrame.nv = s.nv ∧
    s.lockFrame.ras = s.ras ∧ s.lockFrame.pipe = s.pipe ∧ s.lockFrame.prk = s.prk ∧ s.lockFrame.apq = s.apq ∧ s.lockFrame.pnl = s.pnl ∧
    s.lockFrame.sel = s.sel ∧ s.lockFrame.hl = s.hl ∧ s.lockFrame.sec = s.sec ∧ s.lockFrame.tat = s.tat ∧ s.lockFrame.free = s.free ∧
    s.lockFrame.pending = s.pending := by
  unfold State.lockFrame
  simp

@[simp] theorem State.takeStaged_frame (s : State) (f : Func) :
    (s.takeStaged f).now = s.now ∧ (s.takeStaged f).vin = s.vin ∧ (s.takeStaged f).win = s.win ∧ (s.takeStaged f).box = s.box ∧
    (s.takeStaged f).evq = s.evq ∧ (s.takeStaged f).log = s.log ∧ (s.takeStaged f).stat = s.stat ∧ (s.takeStaged f).eyes = s.eyes ∧
    (s.takeStaged f).fn = s.fn ∧ (s.takeStaged f).tab = s.tab ∧ (s.takeStaged f).pwr = s.pwr ∧ (s.takeStaged f).thm = s.thm ∧ (s.takeStaged f).mem = s.mem ∧
    (s.takeStaged f).cmp = s.cmp ∧ (s.takeStaged f).nv = s.nv ∧ (s.takeStaged f).pnl = s.pnl ∧ (s.takeStaged f).bob = s.bob ∧ (s.takeStaged f).sel = s.sel ∧
    (s.takeStaged f).hl = s.hl ∧ (s.takeStaged f).sec = s.sec ∧ (s.takeStaged f).tat = s.tat ∧ (s.takeStaged f).free = s.free ∧
    (s.takeStaged f).pending = s.pending := by
  unfold State.takeStaged
  simp

@[simp] theorem State.wipe_frame (s : State) (c : Nat) :
    (s.wipe c).now = s.now ∧ (s.wipe c).vin = s.vin ∧ (s.wipe c).free = s.free ∧ (s.wipe c).pending = s.pending ∧ (s.wipe c).nv.nor = s.nv.nor ∧
    (s.wipe c).nv.nand = s.nv.nand := by
  unfold State.wipe
  simp [Nv.cut]

@[simp] theorem State.restart_frame (s : State) (sessionCause : Nat) :
    (s.restart sessionCause).now = s.now ∧ (s.restart sessionCause).vin = s.vin ∧ (s.restart sessionCause).free = s.free ∧
    (s.restart sessionCause).pending = s.pending ∧ (s.restart sessionCause).nv.nor = s.nv.nor ∧ (s.restart sessionCause).nv.nand = s.nv.nand := by
  unfold State.restart
  simp

@[simp] theorem State.ctrlStarts_frame (s : State) :
    s.ctrlStarts.now = s.now ∧ s.ctrlStarts.boot = s.boot ∧ s.ctrlStarts.vin = s.vin ∧ s.ctrlStarts.box = s.box ∧ s.ctrlStarts.evq = s.evq ∧
    s.ctrlStarts.log = s.log ∧ s.ctrlStarts.stat = s.stat ∧ s.ctrlStarts.eyes = s.eyes ∧ s.ctrlStarts.par = s.par ∧ s.ctrlStarts.fn = s.fn ∧
    s.ctrlStarts.tab = s.tab ∧ s.ctrlStarts.thm = s.thm ∧ s.ctrlStarts.mem = s.mem ∧ s.ctrlStarts.cmp = s.cmp ∧ s.ctrlStarts.nv = s.nv ∧
    s.ctrlStarts.ras = s.ras ∧ s.ctrlStarts.pipe = s.pipe ∧ s.ctrlStarts.prk = s.prk ∧ s.ctrlStarts.apq = s.apq ∧ s.ctrlStarts.pnl = s.pnl ∧
    s.ctrlStarts.bob = s.bob ∧ s.ctrlStarts.sel = s.sel ∧ s.ctrlStarts.hl = s.hl ∧ s.ctrlStarts.sec = s.sec ∧ s.ctrlStarts.tat = s.tat ∧
    s.ctrlStarts.free = s.free ∧ s.ctrlStarts.pending = s.pending := by
  unfold State.ctrlStarts
  simp

@[simp] theorem State.enterRecovery_frame (s : State) :
    s.enterRecovery.now = s.now ∧ s.enterRecovery.vin = s.vin ∧ s.enterRecovery.box = s.box ∧ s.enterRecovery.evq = s.evq ∧ s.enterRecovery.log = s.log ∧
    s.enterRecovery.stat = s.stat ∧ s.enterRecovery.eyes = s.eyes ∧ s.enterRecovery.par = s.par ∧ s.enterRecovery.fn = s.fn ∧ s.enterRecovery.tab = s.tab ∧
    s.enterRecovery.pwr = s.pwr ∧ s.enterRecovery.thm = s.thm ∧ s.enterRecovery.mem = s.mem ∧ s.enterRecovery.cmp = s.cmp ∧ s.enterRecovery.nv = s.nv ∧
    s.enterRecovery.ras = s.ras ∧ s.enterRecovery.pipe = s.pipe ∧ s.enterRecovery.prk = s.prk ∧ s.enterRecovery.apq = s.apq ∧ s.enterRecovery.pnl = s.pnl ∧
    s.enterRecovery.bob = s.bob ∧ s.enterRecovery.sel = s.sel ∧ s.enterRecovery.hl = s.hl ∧ s.enterRecovery.sec = s.sec ∧ s.enterRecovery.tat = s.tat ∧
    s.enterRecovery.free = s.free ∧ s.enterRecovery.pending = s.pending := by
  unfold State.enterRecovery
  simp

@[simp] theorem State.romStart_frame (s : State) :
    s.romStart.now = s.now ∧ s.romStart.vin = s.vin ∧ s.romStart.box = s.box ∧ s.romStart.evq = s.evq ∧ s.romStart.log = s.log ∧ s.romStart.stat = s.stat ∧
    s.romStart.eyes = s.eyes ∧ s.romStart.par = s.par ∧ s.romStart.fn = s.fn ∧ s.romStart.tab = s.tab ∧ s.romStart.thm = s.thm ∧ s.romStart.mem = s.mem ∧
    s.romStart.cmp = s.cmp ∧ s.romStart.nv = s.nv ∧ s.romStart.ras = s.ras ∧ s.romStart.pipe = s.pipe ∧ s.romStart.prk = s.prk ∧ s.romStart.apq = s.apq ∧
    s.romStart.pnl = s.pnl ∧ s.romStart.bob = s.bob ∧ s.romStart.sel = s.sel ∧ s.romStart.hl = s.hl ∧ s.romStart.sec = s.sec ∧ s.romStart.tat = s.tat ∧
    s.romStart.free = s.free ∧ s.romStart.pending = s.pending := by
  unfold State.romStart
  simp

@[simp] theorem State.limpMark_frame (s : State) (why : Nat) :
    (s.limpMark why).now = s.now ∧ (s.limpMark why).vin = s.vin ∧ (s.limpMark why).box = s.box ∧ (s.limpMark why).evq = s.evq ∧
    (s.limpMark why).eyes = s.eyes ∧ (s.limpMark why).par = s.par ∧ (s.limpMark why).fn = s.fn ∧ (s.limpMark why).tab = s.tab ∧
    (s.limpMark why).pwr = s.pwr ∧ (s.limpMark why).thm = s.thm ∧ (s.limpMark why).mem = s.mem ∧ (s.limpMark why).cmp = s.cmp ∧ (s.limpMark why).nv = s.nv ∧
    (s.limpMark why).ras = s.ras ∧ (s.limpMark why).pipe = s.pipe ∧ (s.limpMark why).prk = s.prk ∧ (s.limpMark why).apq = s.apq ∧
    (s.limpMark why).pnl = s.pnl ∧ (s.limpMark why).bob = s.bob ∧ (s.limpMark why).sel = s.sel ∧ (s.limpMark why).hl = s.hl ∧ (s.limpMark why).sec = s.sec ∧
    (s.limpMark why).tat = s.tat ∧ (s.limpMark why).free = s.free ∧ (s.limpMark why).pending = s.pending := by
  unfold State.limpMark
  simp

@[simp] theorem State.limpRuns_frame (s : State) :
    s.limpRuns.now = s.now ∧ s.limpRuns.vin = s.vin ∧ s.limpRuns.box = s.box ∧ s.limpRuns.evq = s.evq ∧ s.limpRuns.log = s.log ∧ s.limpRuns.stat = s.stat ∧
    s.limpRuns.eyes = s.eyes ∧ s.limpRuns.par = s.par ∧ s.limpRuns.fn = s.fn ∧ s.limpRuns.tab = s.tab ∧ s.limpRuns.thm = s.thm ∧ s.limpRuns.mem = s.mem ∧
    s.limpRuns.cmp = s.cmp ∧ s.limpRuns.nv = s.nv ∧ s.limpRuns.ras = s.ras ∧ s.limpRuns.pipe = s.pipe ∧ s.limpRuns.prk = s.prk ∧ s.limpRuns.apq = s.apq ∧
    s.limpRuns.pnl = s.pnl ∧ s.limpRuns.bob = s.bob ∧ s.limpRuns.sel = s.sel ∧ s.limpRuns.hl = s.hl ∧ s.limpRuns.sec = s.sec ∧ s.limpRuns.tat = s.tat ∧
    s.limpRuns.free = s.free ∧ s.limpRuns.pending = s.pending := by
  unfold State.limpRuns
  simp

@[simp] theorem State.enterLimp_frame (s : State) (why : Nat) :
    (s.enterLimp why).now = s.now ∧ (s.enterLimp why).vin = s.vin ∧ (s.enterLimp why).box = s.box ∧ (s.enterLimp why).evq = s.evq ∧
    (s.enterLimp why).eyes = s.eyes ∧ (s.enterLimp why).par = s.par ∧ (s.enterLimp why).fn = s.fn ∧ (s.enterLimp why).tab = s.tab ∧
    (s.enterLimp why).thm = s.thm ∧ (s.enterLimp why).mem = s.mem ∧ (s.enterLimp why).cmp = s.cmp ∧ (s.enterLimp why).nv = s.nv ∧
    (s.enterLimp why).ras = s.ras ∧ (s.enterLimp why).pipe = s.pipe ∧ (s.enterLimp why).prk = s.prk ∧ (s.enterLimp why).apq = s.apq ∧
    (s.enterLimp why).pnl = s.pnl ∧ (s.enterLimp why).bob = s.bob ∧ (s.enterLimp why).sel = s.sel ∧ (s.enterLimp why).hl = s.hl ∧
    (s.enterLimp why).sec = s.sec ∧ (s.enterLimp why).tat = s.tat ∧ (s.enterLimp why).free = s.free ∧ (s.enterLimp why).pending = s.pending := by
  unfold State.enterLimp
  simp

@[simp] theorem State.resetCore_frame (s : State) (causes earliest : BitVec 32) (coincide : Bool) :
    (s.resetCore causes earliest coincide).now = s.now ∧ (s.resetCore causes earliest coincide).vin = s.vin ∧
    (s.resetCore causes earliest coincide).free = s.free ∧ (s.resetCore causes earliest coincide).pending = s.pending ∧
    (s.resetCore causes earliest coincide).nv.nor = s.nv.nor ∧ (s.resetCore causes earliest coincide).nv.nand = s.nv.nand := by
  unfold State.resetCore
  simp

@[simp] theorem State.resetTakes_frame (s : State) (causes earliest : BitVec 32) (coincide : Bool) :
    (s.resetTakes causes earliest coincide).now = s.now ∧ (s.resetTakes causes earliest coincide).vin = s.vin ∧
    (s.resetTakes causes earliest coincide).free = s.free ∧ (s.resetTakes causes earliest coincide).pending = s.pending ∧
    (s.resetTakes causes earliest coincide).nv.nor = s.nv.nor ∧ (s.resetTakes causes earliest coincide).nv.nand = s.nv.nand := by
  unfold State.resetTakes
  simp

@[simp] theorem State.resetDue_frame (s : State) :
    s.resetDue.now = s.now ∧ s.resetDue.vin = s.vin ∧ s.resetDue.free = s.free ∧ s.resetDue.pending = s.pending ∧ s.resetDue.nv.nor = s.nv.nor ∧
    s.resetDue.nv.nand = s.nv.nand := by
  unfold State.resetDue
  repeat' split
  all_goals simp

@[simp] theorem State.resetCause_frame (s : State) (cause : Nat) :
    (s.resetCause cause).now = s.now ∧ (s.resetCause cause).vin = s.vin ∧ (s.resetCause cause).pending = s.pending ∧ (s.resetCause cause).nv.nor = s.nv.nor ∧
    (s.resetCause cause).nv.nand = s.nv.nand := by
  unfold State.resetCause
  dsimp only
  repeat' split
  all_goals simp

@[simp] theorem State.keyedReset_frame (s : State) (swap : Bool) :
    (s.keyedReset swap).now = s.now ∧ (s.keyedReset swap).vin = s.vin ∧ (s.keyedReset swap).pending = s.pending ∧ (s.keyedReset swap).nv.nor = s.nv.nor ∧
    (s.keyedReset swap).nv.nand = s.nv.nand := by
  unfold State.keyedReset
  repeat' split
  all_goals simp

@[simp] theorem State.grant_frame (s : State) (d : Fin 19) :
    (s.grant d).now = s.now ∧ (s.grant d).boot = s.boot ∧ (s.grant d).vin = s.vin ∧ (s.grant d).win = s.win ∧ (s.grant d).box = s.box ∧
    (s.grant d).evq = s.evq ∧ (s.grant d).log = s.log ∧ (s.grant d).stat = s.stat ∧ (s.grant d).eyes = s.eyes ∧ (s.grant d).par = s.par ∧
    (s.grant d).fn = s.fn ∧ (s.grant d).tab = s.tab ∧ (s.grant d).thm = s.thm ∧ (s.grant d).mem = s.mem ∧ (s.grant d).cmp = s.cmp ∧ (s.grant d).nv = s.nv ∧
    (s.grant d).ras = s.ras ∧ (s.grant d).pipe = s.pipe ∧ (s.grant d).prk = s.prk ∧ (s.grant d).apq = s.apq ∧ (s.grant d).pnl = s.pnl ∧
    (s.grant d).bob = s.bob ∧ (s.grant d).sel = s.sel ∧ (s.grant d).hl = s.hl ∧ (s.grant d).sec = s.sec ∧ (s.grant d).tat = s.tat ∧
    (s.grant d).free = s.free ∧ (s.grant d).pending = s.pending := by
  unfold State.grant
  simp

@[simp] theorem State.grantWalk_frame (s : State) (ds : List (Fin 19)) :
    (s.grantWalk ds).now = s.now ∧ (s.grantWalk ds).boot = s.boot ∧ (s.grantWalk ds).vin = s.vin ∧ (s.grantWalk ds).win = s.win ∧
    (s.grantWalk ds).box = s.box ∧ (s.grantWalk ds).evq = s.evq ∧ (s.grantWalk ds).log = s.log ∧ (s.grantWalk ds).stat = s.stat ∧
    (s.grantWalk ds).eyes = s.eyes ∧ (s.grantWalk ds).par = s.par ∧ (s.grantWalk ds).fn = s.fn ∧ (s.grantWalk ds).tab = s.tab ∧
    (s.grantWalk ds).thm = s.thm ∧ (s.grantWalk ds).mem = s.mem ∧ (s.grantWalk ds).cmp = s.cmp ∧ (s.grantWalk ds).nv = s.nv ∧ (s.grantWalk ds).ras = s.ras ∧
    (s.grantWalk ds).pipe = s.pipe ∧ (s.grantWalk ds).prk = s.prk ∧ (s.grantWalk ds).apq = s.apq ∧ (s.grantWalk ds).pnl = s.pnl ∧
    (s.grantWalk ds).bob = s.bob ∧ (s.grantWalk ds).sel = s.sel ∧ (s.grantWalk ds).hl = s.hl ∧ (s.grantWalk ds).sec = s.sec ∧ (s.grantWalk ds).tat = s.tat ∧
    (s.grantWalk ds).free = s.free ∧ (s.grantWalk ds).pending = s.pending := by
  induction ds generalizing s with
  | nil => simp [State.grantWalk]
  | cons d ds ih =>
    unfold State.grantWalk
    repeat' split
    all_goals simp_all

@[simp] theorem State.linkHalt_frame (s : State) :
    s.linkHalt.now = s.now ∧ s.linkHalt.boot = s.boot ∧ s.linkHalt.vin = s.vin ∧ s.linkHalt.eyes = s.eyes ∧ s.linkHalt.par = s.par ∧ s.linkHalt.fn = s.fn ∧
    s.linkHalt.tab = s.tab ∧ s.linkHalt.thm = s.thm ∧ s.linkHalt.cmp = s.cmp ∧ s.linkHalt.nv = s.nv ∧ s.linkHalt.pipe = s.pipe ∧ s.linkHalt.prk = s.prk ∧
    s.linkHalt.apq = s.apq ∧ s.linkHalt.pnl = s.pnl ∧ s.linkHalt.bob = s.bob ∧ s.linkHalt.sel = s.sel ∧ s.linkHalt.free = s.free ∧
    s.linkHalt.pending = s.pending ∧ s.linkHalt.mem.hoopFill = s.mem.hoopFill := by
  unfold State.linkHalt
  repeat' split
  all_goals simp

@[simp] theorem State.memGone_frame (s : State) :
    s.memGone.now = s.now ∧ s.memGone.vin = s.vin ∧ s.memGone.win = s.win ∧ s.memGone.box = s.box ∧ s.memGone.evq = s.evq ∧ s.memGone.log = s.log ∧
    s.memGone.eyes = s.eyes ∧ s.memGone.par = s.par ∧ s.memGone.fn = s.fn ∧ s.memGone.pwr = s.pwr ∧ s.memGone.thm = s.thm ∧ s.memGone.cmp = s.cmp ∧
    s.memGone.ras = s.ras ∧ s.memGone.pipe = s.pipe ∧ s.memGone.pnl = s.pnl ∧ s.memGone.bob = s.bob ∧ s.memGone.sel = s.sel ∧ s.memGone.hl = s.hl ∧
    s.memGone.sec = s.sec ∧ s.memGone.tat = s.tat ∧ s.memGone.free = s.free ∧ s.memGone.pending = s.pending ∧ s.memGone.nv.nand = s.nv.nand := by
  unfold State.memGone
  simp

@[simp] theorem State.domLost_frame (s : State) (d : Fin 19) (low : DomState) :
    (s.domLost d low).now = s.now ∧ (s.domLost d low).vin = s.vin ∧ (s.domLost d low).eyes = s.eyes ∧ (s.domLost d low).par = s.par ∧
    (s.domLost d low).fn = s.fn ∧ (s.domLost d low).thm = s.thm ∧ (s.domLost d low).cmp = s.cmp ∧ (s.domLost d low).pnl = s.pnl ∧
    (s.domLost d low).bob = s.bob ∧ (s.domLost d low).sel = s.sel ∧ (s.domLost d low).free = s.free ∧ (s.domLost d low).pending = s.pending ∧
    (s.domLost d low).nv.nand = s.nv.nand := by
  unfold State.domLost
  simp

@[simp] theorem State.withdrawWakes_frame (s : State) :
    s.withdrawWakes.now = s.now ∧ s.withdrawWakes.boot = s.boot ∧ s.withdrawWakes.vin = s.vin ∧ s.withdrawWakes.win = s.win ∧ s.withdrawWakes.box = s.box ∧
    s.withdrawWakes.evq = s.evq ∧ s.withdrawWakes.log = s.log ∧ s.withdrawWakes.stat = s.stat ∧ s.withdrawWakes.eyes = s.eyes ∧ s.withdrawWakes.par = s.par ∧
    s.withdrawWakes.fn = s.fn ∧ s.withdrawWakes.tab = s.tab ∧ s.withdrawWakes.thm = s.thm ∧ s.withdrawWakes.mem = s.mem ∧ s.withdrawWakes.cmp = s.cmp ∧
    s.withdrawWakes.nv = s.nv ∧ s.withdrawWakes.ras = s.ras ∧ s.withdrawWakes.pipe = s.pipe ∧ s.withdrawWakes.prk = s.prk ∧ s.withdrawWakes.apq = s.apq ∧
    s.withdrawWakes.pnl = s.pnl ∧ s.withdrawWakes.bob = s.bob ∧ s.withdrawWakes.sel = s.sel ∧ s.withdrawWakes.hl = s.hl ∧ s.withdrawWakes.sec = s.sec ∧
    s.withdrawWakes.tat = s.tat ∧ s.withdrawWakes.free = s.free ∧ s.withdrawWakes.pending = s.pending := by
  unfold State.withdrawWakes
  simp

@[simp] theorem State.runCheck_frame (s : State) :
    s.runCheck.now = s.now ∧ s.runCheck.boot = s.boot ∧ s.runCheck.vin = s.vin ∧ s.runCheck.eyes = s.eyes ∧ s.runCheck.par = s.par ∧ s.runCheck.fn = s.fn ∧
    s.runCheck.tab = s.tab ∧ s.runCheck.pwr = s.pwr ∧ s.runCheck.thm = s.thm ∧ s.runCheck.mem = s.mem ∧ s.runCheck.cmp = s.cmp ∧ s.runCheck.nv = s.nv ∧
    s.runCheck.ras = s.ras ∧ s.runCheck.pipe = s.pipe ∧ s.runCheck.prk = s.prk ∧ s.runCheck.apq = s.apq ∧ s.runCheck.pnl = s.pnl ∧ s.runCheck.bob = s.bob ∧
    s.runCheck.sel = s.sel ∧ s.runCheck.hl = s.hl ∧ s.runCheck.sec = s.sec ∧ s.runCheck.tat = s.tat ∧ s.runCheck.free = s.free ∧
    s.runCheck.pending = s.pending := by
  unfold State.runCheck
  simp

@[simp] theorem State.autoPanel_frame (s : State) :
    s.autoPanel.now = s.now ∧ s.autoPanel.vin = s.vin ∧ s.autoPanel.box = s.box ∧ s.autoPanel.eyes = s.eyes ∧ s.autoPanel.par = s.par ∧
    s.autoPanel.fn = s.fn ∧ s.autoPanel.tab = s.tab ∧ s.autoPanel.pwr = s.pwr ∧ s.autoPanel.thm = s.thm ∧ s.autoPanel.mem = s.mem ∧ s.autoPanel.cmp = s.cmp ∧
    s.autoPanel.nv = s.nv ∧ s.autoPanel.ras = s.ras ∧ s.autoPanel.prk = s.prk ∧ s.autoPanel.apq = s.apq ∧ s.autoPanel.hl = s.hl ∧ s.autoPanel.sec = s.sec ∧
    s.autoPanel.tat = s.tat ∧ s.autoPanel.free = s.free ∧ s.autoPanel.pending = s.pending := by
  unfold State.autoPanel
  repeat' split
  all_goals simp

@[simp] theorem State.beginResume_frame (s : State) :
    s.beginResume.now = s.now ∧ s.beginResume.vin = s.vin ∧ s.beginResume.box = s.box ∧ s.beginResume.evq = s.evq ∧ s.beginResume.log = s.log ∧
    s.beginResume.stat = s.stat ∧ s.beginResume.eyes = s.eyes ∧ s.beginResume.par = s.par ∧ s.beginResume.fn = s.fn ∧ s.beginResume.tab = s.tab ∧
    s.beginResume.thm = s.thm ∧ s.beginResume.mem = s.mem ∧ s.beginResume.cmp = s.cmp ∧ s.beginResume.ras = s.ras ∧ s.beginResume.pipe = s.pipe ∧
    s.beginResume.prk = s.prk ∧ s.beginResume.apq = s.apq ∧ s.beginResume.pnl = s.pnl ∧ s.beginResume.bob = s.bob ∧ s.beginResume.sel = s.sel ∧
    s.beginResume.hl = s.hl ∧ s.beginResume.sec = s.sec ∧ s.beginResume.tat = s.tat ∧ s.beginResume.free = s.free ∧ s.beginResume.pending = s.pending ∧
    s.beginResume.nv.nor = s.nv.nor ∧ s.beginResume.nv.nand = s.nv.nand := by
  unfold State.beginResume
  simp

@[simp] theorem State.resumed_frame (s : State) :
    s.resumed.now = s.now ∧ s.resumed.vin = s.vin ∧ s.resumed.box = s.box ∧ s.resumed.eyes = s.eyes ∧ s.resumed.par = s.par ∧ s.resumed.fn = s.fn ∧
    s.resumed.tab = s.tab ∧ s.resumed.thm = s.thm ∧ s.resumed.mem = s.mem ∧ s.resumed.cmp = s.cmp ∧ s.resumed.nv = s.nv ∧ s.resumed.ras = s.ras ∧
    s.resumed.prk = s.prk ∧ s.resumed.apq = s.apq ∧ s.resumed.sec = s.sec ∧ s.resumed.tat = s.tat ∧ s.resumed.free = s.free ∧ s.resumed.pending = s.pending := by
  unfold State.resumed
  simp

@[simp] theorem State.warmStage_frame (s : State) :
    s.warmStage.now = s.now ∧ s.warmStage.vin = s.vin ∧ s.warmStage.box = s.box ∧ s.warmStage.evq = s.evq ∧ s.warmStage.log = s.log ∧
    s.warmStage.stat = s.stat ∧ s.warmStage.eyes = s.eyes ∧ s.warmStage.par = s.par ∧ s.warmStage.fn = s.fn ∧ s.warmStage.tab = s.tab ∧
    s.warmStage.pwr = s.pwr ∧ s.warmStage.thm = s.thm ∧ s.warmStage.mem = s.mem ∧ s.warmStage.cmp = s.cmp ∧ s.warmStage.nv = s.nv ∧ s.warmStage.ras = s.ras ∧
    s.warmStage.pipe = s.pipe ∧ s.warmStage.prk = s.prk ∧ s.warmStage.apq = s.apq ∧ s.warmStage.pnl = s.pnl ∧ s.warmStage.bob = s.bob ∧
    s.warmStage.sel = s.sel ∧ s.warmStage.hl = s.hl ∧ s.warmStage.sec = s.sec ∧ s.warmStage.tat = s.tat ∧ s.warmStage.free = s.free ∧
    s.warmStage.pending = s.pending := by
  unfold State.warmStage
  simp

@[simp] theorem State.ctrlOn_frame (s : State) (fromOff : Bool) :
    (s.ctrlOn fromOff).now = s.now ∧ (s.ctrlOn fromOff).vin = s.vin ∧ (s.ctrlOn fromOff).free = s.free ∧ (s.ctrlOn fromOff).pending = s.pending ∧
    (s.ctrlOn fromOff).nv.nor = s.nv.nor ∧ (s.ctrlOn fromOff).nv.nand = s.nv.nand := by
  unfold State.ctrlOn
  repeat' split
  all_goals simp

@[simp] theorem State.holdAgain_frame (s : State) (d : Fin 19) :
    (s.holdAgain d).now = s.now ∧ (s.holdAgain d).boot = s.boot ∧ (s.holdAgain d).vin = s.vin ∧ (s.holdAgain d).win = s.win ∧ (s.holdAgain d).box = s.box ∧
    (s.holdAgain d).evq = s.evq ∧ (s.holdAgain d).log = s.log ∧ (s.holdAgain d).stat = s.stat ∧ (s.holdAgain d).eyes = s.eyes ∧ (s.holdAgain d).par = s.par ∧
    (s.holdAgain d).fn = s.fn ∧ (s.holdAgain d).tab = s.tab ∧ (s.holdAgain d).pwr = s.pwr ∧ (s.holdAgain d).thm = s.thm ∧ (s.holdAgain d).mem = s.mem ∧
    (s.holdAgain d).cmp = s.cmp ∧ (s.holdAgain d).nv = s.nv ∧ (s.holdAgain d).ras = s.ras ∧ (s.holdAgain d).pipe = s.pipe ∧ (s.holdAgain d).prk = s.prk ∧
    (s.holdAgain d).apq = s.apq ∧ (s.holdAgain d).bob = s.bob ∧ (s.holdAgain d).sel = s.sel ∧ (s.holdAgain d).hl = s.hl ∧ (s.holdAgain d).sec = s.sec ∧
    (s.holdAgain d).tat = s.tat ∧ (s.holdAgain d).free = s.free ∧ (s.holdAgain d).pending = s.pending := by
  unfold State.holdAgain
  simp

@[simp] theorem State.wakeServe_frame (s : State) (w : WakeSource) :
    (s.wakeServe w).now = s.now ∧ (s.wakeServe w).vin = s.vin ∧ (s.wakeServe w).free = s.free ∧ (s.wakeServe w).pending = s.pending ∧
    (s.wakeServe w).nv.nor = s.nv.nor ∧ (s.wakeServe w).nv.nand = s.nv.nand := by
  unfold State.wakeServe
  repeat' split
  all_goals simp

@[simp] theorem State.qualify_frame (s : State) (w : WakeSource) :
    (s.qualify w).now = s.now ∧ (s.qualify w).vin = s.vin ∧ (s.qualify w).free = s.free ∧ (s.qualify w).pending = s.pending ∧
    (s.qualify w).nv.nor = s.nv.nor ∧ (s.qualify w).nv.nand = s.nv.nand := by
  unfold State.qualify
  repeat' split
  all_goals simp

@[simp] theorem State.markFailed_frame (s : State) (d : Fin 19) :
    (s.markFailed d).now = s.now ∧ (s.markFailed d).vin = s.vin ∧ (s.markFailed d).eyes = s.eyes ∧ (s.markFailed d).par = s.par ∧
    (s.markFailed d).fn = s.fn ∧ (s.markFailed d).thm = s.thm ∧ (s.markFailed d).cmp = s.cmp ∧ (s.markFailed d).pnl = s.pnl ∧ (s.markFailed d).bob = s.bob ∧
    (s.markFailed d).sel = s.sel ∧ (s.markFailed d).free = s.free ∧ (s.markFailed d).pending = s.pending ∧ (s.markFailed d).nv.nand = s.nv.nand := by
  unfold State.markFailed
  simp

@[simp] theorem State.failedResponse_frame (s : State) (d : Fin 19) :
    (s.failedResponse d).now = s.now ∧ (s.failedResponse d).vin = s.vin ∧ (s.failedResponse d).eyes = s.eyes ∧ (s.failedResponse d).pending = s.pending ∧
    (s.failedResponse d).nv.nand = s.nv.nand := by
  unfold State.failedResponse
  simp

@[simp] theorem State.askStandby_frame (s : State) (deep : Bool) :
    (s.askStandby deep).now = s.now ∧ (s.askStandby deep).boot = s.boot ∧ (s.askStandby deep).vin = s.vin ∧ (s.askStandby deep).win = s.win ∧
    (s.askStandby deep).box = s.box ∧ (s.askStandby deep).evq = s.evq ∧ (s.askStandby deep).log = s.log ∧ (s.askStandby deep).stat = s.stat ∧
    (s.askStandby deep).eyes = s.eyes ∧ (s.askStandby deep).par = s.par ∧ (s.askStandby deep).fn = s.fn ∧ (s.askStandby deep).tab = s.tab ∧
    (s.askStandby deep).thm = s.thm ∧ (s.askStandby deep).mem = s.mem ∧ (s.askStandby deep).cmp = s.cmp ∧ (s.askStandby deep).nv = s.nv ∧
    (s.askStandby deep).ras = s.ras ∧ (s.askStandby deep).pipe = s.pipe ∧ (s.askStandby deep).prk = s.prk ∧ (s.askStandby deep).apq = s.apq ∧
    (s.askStandby deep).pnl = s.pnl ∧ (s.askStandby deep).bob = s.bob ∧ (s.askStandby deep).sel = s.sel ∧ (s.askStandby deep).hl = s.hl ∧
    (s.askStandby deep).sec = s.sec ∧ (s.askStandby deep).tat = s.tat ∧ (s.askStandby deep).free = s.free ∧ (s.askStandby deep).pending = s.pending := by
  unfold State.askStandby
  simp

@[simp] theorem State.standbyPut_frame (s : State) (deep : Bool) (d : Fin 19) :
    (s.standbyPut deep d).now = s.now ∧ (s.standbyPut deep d).vin = s.vin ∧ (s.standbyPut deep d).eyes = s.eyes ∧ (s.standbyPut deep d).par = s.par ∧
    (s.standbyPut deep d).fn = s.fn ∧ (s.standbyPut deep d).thm = s.thm ∧ (s.standbyPut deep d).cmp = s.cmp ∧ (s.standbyPut deep d).pnl = s.pnl ∧
    (s.standbyPut deep d).bob = s.bob ∧ (s.standbyPut deep d).sel = s.sel ∧ (s.standbyPut deep d).free = s.free ∧ (s.standbyPut deep d).pending = s.pending ∧
    (s.standbyPut deep d).nv.nand = s.nv.nand := by
  unfold State.standbyPut
  simp

@[simp] theorem State.clipWatch_frame (s : State) :
    s.clipWatch.now = s.now ∧ s.clipWatch.boot = s.boot ∧ s.clipWatch.vin = s.vin ∧ s.clipWatch.win = s.win ∧ s.clipWatch.box = s.box ∧
    s.clipWatch.evq = s.evq ∧ s.clipWatch.log = s.log ∧ s.clipWatch.stat = s.stat ∧ s.clipWatch.eyes = s.eyes ∧ s.clipWatch.par = s.par ∧
    s.clipWatch.fn = s.fn ∧ s.clipWatch.tab = s.tab ∧ s.clipWatch.pwr = s.pwr ∧ s.clipWatch.thm = s.thm ∧ s.clipWatch.mem = s.mem ∧ s.clipWatch.cmp = s.cmp ∧
    s.clipWatch.nv = s.nv ∧ s.clipWatch.pipe = s.pipe ∧ s.clipWatch.prk = s.prk ∧ s.clipWatch.pnl = s.pnl ∧ s.clipWatch.bob = s.bob ∧
    s.clipWatch.sel = s.sel ∧ s.clipWatch.hl = s.hl ∧ s.clipWatch.sec = s.sec ∧ s.clipWatch.tat = s.tat ∧ s.clipWatch.free = s.free ∧
    s.clipWatch.pending = s.pending := by
  unfold State.clipWatch
  simp

@[simp] theorem State.clipEvent_frame (s : State) (cause inst : Nat) :
    (s.clipEvent cause inst).now = s.now ∧ (s.clipEvent cause inst).boot = s.boot ∧ (s.clipEvent cause inst).vin = s.vin ∧
    (s.clipEvent cause inst).box = s.box ∧ (s.clipEvent cause inst).eyes = s.eyes ∧ (s.clipEvent cause inst).par = s.par ∧
    (s.clipEvent cause inst).fn = s.fn ∧ (s.clipEvent cause inst).tab = s.tab ∧ (s.clipEvent cause inst).pwr = s.pwr ∧ (s.clipEvent cause inst).thm = s.thm ∧
    (s.clipEvent cause inst).mem = s.mem ∧ (s.clipEvent cause inst).cmp = s.cmp ∧ (s.clipEvent cause inst).nv = s.nv ∧ (s.clipEvent cause inst).ras = s.ras ∧
    (s.clipEvent cause inst).pipe = s.pipe ∧ (s.clipEvent cause inst).prk = s.prk ∧ (s.clipEvent cause inst).apq = s.apq ∧
    (s.clipEvent cause inst).pnl = s.pnl ∧ (s.clipEvent cause inst).bob = s.bob ∧ (s.clipEvent cause inst).sel = s.sel ∧ (s.clipEvent cause inst).hl = s.hl ∧
    (s.clipEvent cause inst).sec = s.sec ∧ (s.clipEvent cause inst).tat = s.tat ∧ (s.clipEvent cause inst).free = s.free ∧
    (s.clipEvent cause inst).pending = s.pending := by
  unfold State.clipEvent
  simp

@[simp] theorem State.clipBegin_frame (s : State) (t0 : Nat) :
    (s.clipBegin t0).now = s.now ∧ (s.clipBegin t0).boot = s.boot ∧ (s.clipBegin t0).vin = s.vin ∧ (s.clipBegin t0).box = s.box ∧
    (s.clipBegin t0).eyes = s.eyes ∧ (s.clipBegin t0).par = s.par ∧ (s.clipBegin t0).fn = s.fn ∧ (s.clipBegin t0).tab = s.tab ∧
    (s.clipBegin t0).pwr = s.pwr ∧ (s.clipBegin t0).thm = s.thm ∧ (s.clipBegin t0).mem = s.mem ∧ (s.clipBegin t0).cmp = s.cmp ∧ (s.clipBegin t0).nv = s.nv ∧
    (s.clipBegin t0).ras = s.ras ∧ (s.clipBegin t0).pipe = s.pipe ∧ (s.clipBegin t0).prk = s.prk ∧ (s.clipBegin t0).pnl = s.pnl ∧
    (s.clipBegin t0).bob = s.bob ∧ (s.clipBegin t0).sel = s.sel ∧ (s.clipBegin t0).hl = s.hl ∧ (s.clipBegin t0).sec = s.sec ∧ (s.clipBegin t0).tat = s.tat ∧
    (s.clipBegin t0).free = s.free ∧ (s.clipBegin t0).pending = s.pending := by
  unfold State.clipBegin
  simp

@[simp] theorem State.clipStop_frame (s : State) (c : ClipPlay) :
    (s.clipStop c).now = s.now ∧ (s.clipStop c).boot = s.boot ∧ (s.clipStop c).vin = s.vin ∧ (s.clipStop c).box = s.box ∧ (s.clipStop c).eyes = s.eyes ∧
    (s.clipStop c).par = s.par ∧ (s.clipStop c).fn = s.fn ∧ (s.clipStop c).tab = s.tab ∧ (s.clipStop c).pwr = s.pwr ∧ (s.clipStop c).thm = s.thm ∧
    (s.clipStop c).mem = s.mem ∧ (s.clipStop c).cmp = s.cmp ∧ (s.clipStop c).nv = s.nv ∧ (s.clipStop c).ras = s.ras ∧ (s.clipStop c).pipe = s.pipe ∧
    (s.clipStop c).prk = s.prk ∧ (s.clipStop c).pnl = s.pnl ∧ (s.clipStop c).bob = s.bob ∧ (s.clipStop c).sel = s.sel ∧ (s.clipStop c).hl = s.hl ∧
    (s.clipStop c).sec = s.sec ∧ (s.clipStop c).tat = s.tat ∧ (s.clipStop c).free = s.free ∧ (s.clipStop c).pending = s.pending := by
  unfold State.clipStop
  simp

@[simp] theorem State.clipFrame_frame (s : State) :
    s.clipFrame.now = s.now ∧ s.clipFrame.boot = s.boot ∧ s.clipFrame.vin = s.vin ∧ s.clipFrame.box = s.box ∧ s.clipFrame.eyes = s.eyes ∧
    s.clipFrame.par = s.par ∧ s.clipFrame.fn = s.fn ∧ s.clipFrame.tab = s.tab ∧ s.clipFrame.pwr = s.pwr ∧ s.clipFrame.thm = s.thm ∧ s.clipFrame.mem = s.mem ∧
    s.clipFrame.cmp = s.cmp ∧ s.clipFrame.nv = s.nv ∧ s.clipFrame.pipe = s.pipe ∧ s.clipFrame.prk = s.prk ∧ s.clipFrame.pnl = s.pnl ∧
    s.clipFrame.bob = s.bob ∧ s.clipFrame.sel = s.sel ∧ s.clipFrame.hl = s.hl ∧ s.clipFrame.sec = s.sec ∧ s.clipFrame.tat = s.tat ∧
    s.clipFrame.free = s.free ∧ s.clipFrame.pending = s.pending := by
  unfold State.clipFrame
  dsimp only
  repeat' split
  all_goals simp

@[simp] theorem State.absence_frame (s : State) (live : Bool) :
    (s.absence live).now = s.now ∧ (s.absence live).boot = s.boot ∧ (s.absence live).vin = s.vin ∧ (s.absence live).win = s.win ∧
    (s.absence live).box = s.box ∧ (s.absence live).evq = s.evq ∧ (s.absence live).log = s.log ∧ (s.absence live).stat = s.stat ∧
    (s.absence live).eyes = s.eyes ∧ (s.absence live).par = s.par ∧ (s.absence live).fn = s.fn ∧ (s.absence live).tab = s.tab ∧
    (s.absence live).pwr = s.pwr ∧ (s.absence live).thm = s.thm ∧ (s.absence live).mem = s.mem ∧ (s.absence live).cmp = s.cmp ∧ (s.absence live).nv = s.nv ∧
    (s.absence live).pipe = s.pipe ∧ (s.absence live).prk = s.prk ∧ (s.absence live).apq = s.apq ∧ (s.absence live).pnl = s.pnl ∧
    (s.absence live).bob = s.bob ∧ (s.absence live).sel = s.sel ∧ (s.absence live).hl = s.hl ∧ (s.absence live).sec = s.sec ∧ (s.absence live).tat = s.tat ∧
    (s.absence live).free = s.free ∧ (s.absence live).pending = s.pending := by
  unfold State.absence
  simp

@[simp] theorem State.cacheFrame_frame (s : State) :
    s.cacheFrame.now = s.now ∧ s.cacheFrame.boot = s.boot ∧ s.cacheFrame.vin = s.vin ∧ s.cacheFrame.win = s.win ∧ s.cacheFrame.box = s.box ∧
    s.cacheFrame.evq = s.evq ∧ s.cacheFrame.log = s.log ∧ s.cacheFrame.stat = s.stat ∧ s.cacheFrame.eyes = s.eyes ∧ s.cacheFrame.par = s.par ∧
    s.cacheFrame.fn = s.fn ∧ s.cacheFrame.tab = s.tab ∧ s.cacheFrame.pwr = s.pwr ∧ s.cacheFrame.thm = s.thm ∧ s.cacheFrame.mem = s.mem ∧
    s.cacheFrame.cmp = s.cmp ∧ s.cacheFrame.nv = s.nv ∧ s.cacheFrame.ras = s.ras ∧ s.cacheFrame.pipe = s.pipe ∧ s.cacheFrame.prk = s.prk ∧
    s.cacheFrame.pnl = s.pnl ∧ s.cacheFrame.bob = s.bob ∧ s.cacheFrame.sel = s.sel ∧ s.cacheFrame.hl = s.hl ∧ s.cacheFrame.sec = s.sec ∧
    s.cacheFrame.tat = s.tat ∧ s.cacheFrame.free = s.free ∧ s.cacheFrame.pending = s.pending := by
  unfold State.cacheFrame
  simp

@[simp] theorem State.ditherFrame_frame (s : State) :
    s.ditherFrame.now = s.now ∧ s.ditherFrame.boot = s.boot ∧ s.ditherFrame.vin = s.vin ∧ s.ditherFrame.win = s.win ∧ s.ditherFrame.box = s.box ∧
    s.ditherFrame.evq = s.evq ∧ s.ditherFrame.log = s.log ∧ s.ditherFrame.eyes = s.eyes ∧ s.ditherFrame.par = s.par ∧ s.ditherFrame.fn = s.fn ∧
    s.ditherFrame.tab = s.tab ∧ s.ditherFrame.pwr = s.pwr ∧ s.ditherFrame.thm = s.thm ∧ s.ditherFrame.mem = s.mem ∧ s.ditherFrame.cmp = s.cmp ∧
    s.ditherFrame.nv = s.nv ∧ s.ditherFrame.ras = s.ras ∧ s.ditherFrame.prk = s.prk ∧ s.ditherFrame.apq = s.apq ∧ s.ditherFrame.pnl = s.pnl ∧
    s.ditherFrame.bob = s.bob ∧ s.ditherFrame.sel = s.sel ∧ s.ditherFrame.hl = s.hl ∧ s.ditherFrame.sec = s.sec ∧ s.ditherFrame.tat = s.tat ∧
    s.ditherFrame.free = s.free ∧ s.ditherFrame.pending = s.pending := by
  unfold State.ditherFrame
  simp

@[simp] theorem State.pipeFrame_frame (s : State) :
    s.pipeFrame.now = s.now ∧ s.pipeFrame.boot = s.boot ∧ s.pipeFrame.vin = s.vin ∧ s.pipeFrame.win = s.win ∧ s.pipeFrame.box = s.box ∧
    s.pipeFrame.evq = s.evq ∧ s.pipeFrame.log = s.log ∧ s.pipeFrame.eyes = s.eyes ∧ s.pipeFrame.par = s.par ∧ s.pipeFrame.fn = s.fn ∧
    s.pipeFrame.tab = s.tab ∧ s.pipeFrame.pwr = s.pwr ∧ s.pipeFrame.thm = s.thm ∧ s.pipeFrame.mem = s.mem ∧ s.pipeFrame.cmp = s.cmp ∧ s.pipeFrame.nv = s.nv ∧
    s.pipeFrame.ras = s.ras ∧ s.pipeFrame.prk = s.prk ∧ s.pipeFrame.apq = s.apq ∧ s.pipeFrame.pnl = s.pnl ∧ s.pipeFrame.bob = s.bob ∧
    s.pipeFrame.sel = s.sel ∧ s.pipeFrame.hl = s.hl ∧ s.pipeFrame.sec = s.sec ∧ s.pipeFrame.tat = s.tat ∧ s.pipeFrame.free = s.free ∧
    s.pipeFrame.pending = s.pending := by
  unfold State.pipeFrame
  simp

@[simp] theorem State.goIsland_frame (s : State) :
    s.goIsland.now = s.now ∧ s.goIsland.boot = s.boot ∧ s.goIsland.vin = s.vin ∧ s.goIsland.box = s.box ∧ s.goIsland.eyes = s.eyes ∧ s.goIsland.par = s.par ∧
    s.goIsland.fn = s.fn ∧ s.goIsland.tab = s.tab ∧ s.goIsland.pwr = s.pwr ∧ s.goIsland.thm = s.thm ∧ s.goIsland.mem = s.mem ∧ s.goIsland.cmp = s.cmp ∧
    s.goIsland.nv = s.nv ∧ s.goIsland.pipe = s.pipe ∧ s.goIsland.prk = s.prk ∧ s.goIsland.apq = s.apq ∧ s.goIsland.pnl = s.pnl ∧ s.goIsland.bob = s.bob ∧
    s.goIsland.sel = s.sel ∧ s.goIsland.hl = s.hl ∧ s.goIsland.sec = s.sec ∧ s.goIsland.free = s.free ∧ s.goIsland.pending = s.pending := by
  unfold State.goIsland
  simp

@[simp] theorem State.heldFrame_frame (s : State) :
    s.heldFrame.now = s.now ∧ s.heldFrame.boot = s.boot ∧ s.heldFrame.vin = s.vin ∧ s.heldFrame.box = s.box ∧ s.heldFrame.eyes = s.eyes ∧
    s.heldFrame.par = s.par ∧ s.heldFrame.fn = s.fn ∧ s.heldFrame.tab = s.tab ∧ s.heldFrame.pwr = s.pwr ∧ s.heldFrame.thm = s.thm ∧ s.heldFrame.mem = s.mem ∧
    s.heldFrame.cmp = s.cmp ∧ s.heldFrame.nv = s.nv ∧ s.heldFrame.pipe = s.pipe ∧ s.heldFrame.prk = s.prk ∧ s.heldFrame.apq = s.apq ∧
    s.heldFrame.pnl = s.pnl ∧ s.heldFrame.bob = s.bob ∧ s.heldFrame.sel = s.sel ∧ s.heldFrame.hl = s.hl ∧ s.heldFrame.sec = s.sec ∧
    s.heldFrame.pending = s.pending := by
  unfold State.heldFrame
  repeat' split
  all_goals simp

@[simp] theorem State.transitionFrame_frame (s : State) :
    s.transitionFrame.now = s.now ∧ s.transitionFrame.boot = s.boot ∧ s.transitionFrame.vin = s.vin ∧ s.transitionFrame.eyes = s.eyes ∧
    s.transitionFrame.par = s.par ∧ s.transitionFrame.fn = s.fn ∧ s.transitionFrame.tab = s.tab ∧ s.transitionFrame.pwr = s.pwr ∧
    s.transitionFrame.thm = s.thm ∧ s.transitionFrame.mem = s.mem ∧ s.transitionFrame.cmp = s.cmp ∧ s.transitionFrame.nv = s.nv ∧
    s.transitionFrame.pipe = s.pipe ∧ s.transitionFrame.prk = s.prk ∧ s.transitionFrame.apq = s.apq ∧ s.transitionFrame.pnl = s.pnl ∧
    s.transitionFrame.bob = s.bob ∧ s.transitionFrame.sel = s.sel ∧ s.transitionFrame.hl = s.hl ∧ s.transitionFrame.sec = s.sec ∧
    s.transitionFrame.pending = s.pending := by
  unfold State.transitionFrame
  repeat' split
  all_goals simp

@[simp] theorem State.t4Check_frame (s : State) :
    s.t4Check.now = s.now ∧ s.t4Check.boot = s.boot ∧ s.t4Check.vin = s.vin ∧ s.t4Check.win = s.win ∧ s.t4Check.box = s.box ∧ s.t4Check.evq = s.evq ∧
    s.t4Check.log = s.log ∧ s.t4Check.stat = s.stat ∧ s.t4Check.eyes = s.eyes ∧ s.t4Check.par = s.par ∧ s.t4Check.fn = s.fn ∧ s.t4Check.tab = s.tab ∧
    s.t4Check.pwr = s.pwr ∧ s.t4Check.mem = s.mem ∧ s.t4Check.cmp = s.cmp ∧ s.t4Check.nv = s.nv ∧ s.t4Check.pipe = s.pipe ∧ s.t4Check.prk = s.prk ∧
    s.t4Check.apq = s.apq ∧ s.t4Check.pnl = s.pnl ∧ s.t4Check.bob = s.bob ∧ s.t4Check.sel = s.sel ∧ s.t4Check.hl = s.hl ∧ s.t4Check.sec = s.sec ∧
    s.t4Check.tat = s.tat ∧ s.t4Check.free = s.free ∧ s.t4Check.pending = s.pending := by
  unfold State.t4Check
  repeat' split
  all_goals simp

@[simp] theorem State.liveTimed_frame (s : State) :
    s.liveTimed.now = s.now ∧ s.liveTimed.boot = s.boot ∧ s.liveTimed.vin = s.vin ∧ s.liveTimed.box = s.box ∧ s.liveTimed.eyes = s.eyes ∧
    s.liveTimed.par = s.par ∧ s.liveTimed.fn = s.fn ∧ s.liveTimed.tab = s.tab ∧ s.liveTimed.pwr = s.pwr ∧ s.liveTimed.thm = s.thm ∧ s.liveTimed.mem = s.mem ∧
    s.liveTimed.cmp = s.cmp ∧ s.liveTimed.nv = s.nv ∧ s.liveTimed.pipe = s.pipe ∧ s.liveTimed.prk = s.prk ∧ s.liveTimed.apq = s.apq ∧
    s.liveTimed.pnl = s.pnl ∧ s.liveTimed.bob = s.bob ∧ s.liveTimed.sel = s.sel ∧ s.liveTimed.hl = s.hl ∧ s.liveTimed.sec = s.sec ∧ s.liveTimed.tat = s.tat ∧
    s.liveTimed.free = s.free ∧ s.liveTimed.pending = s.pending := by
  unfold State.liveTimed
  simp

@[simp] theorem State.captureInput_frame (s : State) :
    s.captureInput.now = s.now ∧ s.captureInput.boot = s.boot ∧ s.captureInput.vin = s.vin ∧ s.captureInput.win = s.win ∧ s.captureInput.box = s.box ∧
    s.captureInput.evq = s.evq ∧ s.captureInput.log = s.log ∧ s.captureInput.stat = s.stat ∧ s.captureInput.eyes = s.eyes ∧ s.captureInput.par = s.par ∧
    s.captureInput.fn = s.fn ∧ s.captureInput.tab = s.tab ∧ s.captureInput.pwr = s.pwr ∧ s.captureInput.thm = s.thm ∧ s.captureInput.mem = s.mem ∧
    s.captureInput.cmp = s.cmp ∧ s.captureInput.nv = s.nv ∧ s.captureInput.ras = s.ras ∧ s.captureInput.pipe = s.pipe ∧ s.captureInput.prk = s.prk ∧
    s.captureInput.apq = s.apq ∧ s.captureInput.pnl = s.pnl ∧ s.captureInput.bob = s.bob ∧ s.captureInput.sel = s.sel ∧ s.captureInput.sec = s.sec ∧
    s.captureInput.tat = s.tat ∧ s.captureInput.free = s.free ∧ s.captureInput.pending = s.pending := by
  unfold State.captureInput
  simp

@[simp] theorem State.frameKind_frame (s : State) (want : FrameKind) :
    (s.frameKind want).now = s.now ∧ (s.frameKind want).boot = s.boot ∧ (s.frameKind want).vin = s.vin ∧ (s.frameKind want).eyes = s.eyes ∧
    (s.frameKind want).par = s.par ∧ (s.frameKind want).tab = s.tab ∧ (s.frameKind want).thm = s.thm ∧ (s.frameKind want).cmp = s.cmp ∧
    (s.frameKind want).nv = s.nv ∧ (s.frameKind want).pipe = s.pipe ∧ (s.frameKind want).prk = s.prk ∧ (s.frameKind want).apq = s.apq ∧
    (s.frameKind want).pnl = s.pnl ∧ (s.frameKind want).bob = s.bob ∧ (s.frameKind want).sel = s.sel ∧ (s.frameKind want).sec = s.sec ∧
    (s.frameKind want).free = s.free ∧ (s.frameKind want).pending = s.pending ∧ (s.frameKind want).mem.cells = s.mem.cells ∧
    (s.frameKind want).mem.hoopFill = s.mem.hoopFill := by
  unfold State.frameKind
  dsimp only
  repeat' split
  all_goals simp

@[simp] theorem State.renumber_frame (s : State) (d : BitVec 32) :
    (s.renumber d).now = s.now ∧ (s.renumber d).boot = s.boot ∧ (s.renumber d).vin = s.vin ∧ (s.renumber d).win = s.win ∧ (s.renumber d).box = s.box ∧
    (s.renumber d).evq = s.evq ∧ (s.renumber d).log = s.log ∧ (s.renumber d).stat = s.stat ∧ (s.renumber d).eyes = s.eyes ∧ (s.renumber d).tab = s.tab ∧
    (s.renumber d).pwr = s.pwr ∧ (s.renumber d).thm = s.thm ∧ (s.renumber d).mem = s.mem ∧ (s.renumber d).cmp = s.cmp ∧ (s.renumber d).nv = s.nv ∧
    (s.renumber d).pipe = s.pipe ∧ (s.renumber d).prk = s.prk ∧ (s.renumber d).apq = s.apq ∧ (s.renumber d).pnl = s.pnl ∧ (s.renumber d).bob = s.bob ∧
    (s.renumber d).sel = s.sel ∧ (s.renumber d).hl = s.hl ∧ (s.renumber d).sec = s.sec ∧ (s.renumber d).tat = s.tat ∧ (s.renumber d).free = s.free ∧
    (s.renumber d).pending = s.pending := by
  unfold State.renumber
  simp

@[simp] theorem State.frameAdvance_frame (s : State) (num : BitVec 32) (rowTime : Nat) :
    (s.frameAdvance num rowTime).now = s.now ∧ (s.frameAdvance num rowTime).boot = s.boot ∧ (s.frameAdvance num rowTime).vin = s.vin ∧
    (s.frameAdvance num rowTime).win = s.win ∧ (s.frameAdvance num rowTime).box = s.box ∧ (s.frameAdvance num rowTime).evq = s.evq ∧
    (s.frameAdvance num rowTime).log = s.log ∧ (s.frameAdvance num rowTime).stat = s.stat ∧ (s.frameAdvance num rowTime).eyes = s.eyes ∧
    (s.frameAdvance num rowTime).par = s.par ∧ (s.frameAdvance num rowTime).fn = s.fn ∧ (s.frameAdvance num rowTime).tab = s.tab ∧
    (s.frameAdvance num rowTime).pwr = s.pwr ∧ (s.frameAdvance num rowTime).thm = s.thm ∧ (s.frameAdvance num rowTime).mem = s.mem ∧
    (s.frameAdvance num rowTime).cmp = s.cmp ∧ (s.frameAdvance num rowTime).nv = s.nv ∧ (s.frameAdvance num rowTime).pnl = s.pnl ∧
    (s.frameAdvance num rowTime).sel = s.sel ∧ (s.frameAdvance num rowTime).hl = s.hl ∧ (s.frameAdvance num rowTime).sec = s.sec ∧
    (s.frameAdvance num rowTime).tat = s.tat ∧ (s.frameAdvance num rowTime).free = s.free ∧ (s.frameAdvance num rowTime).pending = s.pending := by
  unfold State.frameAdvance
  simp

@[simp] theorem State.firstFrame_frame (s : State) :
    s.firstFrame.now = s.now ∧ s.firstFrame.vin = s.vin ∧ s.firstFrame.eyes = s.eyes ∧ s.firstFrame.par = s.par ∧ s.firstFrame.fn = s.fn ∧
    s.firstFrame.tab = s.tab ∧ s.firstFrame.thm = s.thm ∧ s.firstFrame.mem = s.mem ∧ s.firstFrame.cmp = s.cmp ∧ s.firstFrame.nv = s.nv ∧
    s.firstFrame.ras = s.ras ∧ s.firstFrame.pipe = s.pipe ∧ s.firstFrame.apq = s.apq ∧ s.firstFrame.pnl = s.pnl ∧ s.firstFrame.bob = s.bob ∧
    s.firstFrame.sel = s.sel ∧ s.firstFrame.hl = s.hl ∧ s.firstFrame.tat = s.tat ∧ s.firstFrame.free = s.free ∧ s.firstFrame.pending = s.pending := by
  unfold State.firstFrame
  simp

@[simp] theorem State.roleFrame_frame (s : State) :
    s.roleFrame.now = s.now ∧ s.roleFrame.boot = s.boot ∧ s.roleFrame.vin = s.vin ∧ s.roleFrame.box = s.box ∧ s.roleFrame.eyes = s.eyes ∧
    s.roleFrame.par = s.par ∧ s.roleFrame.fn = s.fn ∧ s.roleFrame.tab = s.tab ∧ s.roleFrame.pwr = s.pwr ∧ s.roleFrame.thm = s.thm ∧ s.roleFrame.mem = s.mem ∧
    s.roleFrame.cmp = s.cmp ∧ s.roleFrame.nv = s.nv ∧ s.roleFrame.ras = s.ras ∧ s.roleFrame.pipe = s.pipe ∧ s.roleFrame.prk = s.prk ∧
    s.roleFrame.apq = s.apq ∧ s.roleFrame.pnl = s.pnl ∧ s.roleFrame.bob = s.bob ∧ s.roleFrame.sel = s.sel ∧ s.roleFrame.hl = s.hl ∧ s.roleFrame.sec = s.sec ∧
    s.roleFrame.free = s.free ∧ s.roleFrame.pending = s.pending := by
  unfold State.roleFrame
  simp

@[simp] theorem State.netFrame_frame (s : State) :
    s.netFrame.now = s.now ∧ s.netFrame.boot = s.boot ∧ s.netFrame.vin = s.vin ∧ s.netFrame.eyes = s.eyes ∧ s.netFrame.par = s.par ∧ s.netFrame.fn = s.fn ∧
    s.netFrame.tab = s.tab ∧ s.netFrame.pwr = s.pwr ∧ s.netFrame.thm = s.thm ∧ s.netFrame.mem = s.mem ∧ s.netFrame.cmp = s.cmp ∧ s.netFrame.nv = s.nv ∧
    s.netFrame.ras = s.ras ∧ s.netFrame.pipe = s.pipe ∧ s.netFrame.prk = s.prk ∧ s.netFrame.apq = s.apq ∧ s.netFrame.pnl = s.pnl ∧ s.netFrame.bob = s.bob ∧
    s.netFrame.sel = s.sel ∧ s.netFrame.hl = s.hl ∧ s.netFrame.sec = s.sec ∧ s.netFrame.free = s.free ∧ s.netFrame.pending = s.pending := by
  unfold State.netFrame
  dsimp only
  repeat' split
  all_goals simp

@[simp] theorem State.eyeHoldFrame_frame (s : State) :
    s.eyeHoldFrame.now = s.now ∧ s.eyeHoldFrame.boot = s.boot ∧ s.eyeHoldFrame.vin = s.vin ∧ s.eyeHoldFrame.par = s.par ∧ s.eyeHoldFrame.tab = s.tab ∧
    s.eyeHoldFrame.thm = s.thm ∧ s.eyeHoldFrame.cmp = s.cmp ∧ s.eyeHoldFrame.nv = s.nv ∧ s.eyeHoldFrame.pnl = s.pnl ∧ s.eyeHoldFrame.sel = s.sel ∧
    s.eyeHoldFrame.pending = s.pending ∧ s.eyeHoldFrame.mem.hoopFill = s.mem.hoopFill := by
  unfold State.eyeHoldFrame
  dsimp only
  repeat' split
  all_goals simp

@[simp] theorem State.mapFrame_frame (s : State) :
    s.mapFrame.now = s.now ∧ s.mapFrame.vin = s.vin ∧ s.mapFrame.win = s.win ∧ s.mapFrame.box = s.box ∧ s.mapFrame.evq = s.evq ∧ s.mapFrame.log = s.log ∧
    s.mapFrame.stat = s.stat ∧ s.mapFrame.eyes = s.eyes ∧ s.mapFrame.par = s.par ∧ s.mapFrame.fn = s.fn ∧ s.mapFrame.tab = s.tab ∧ s.mapFrame.pwr = s.pwr ∧
    s.mapFrame.thm = s.thm ∧ s.mapFrame.mem = s.mem ∧ s.mapFrame.cmp = s.cmp ∧ s.mapFrame.nv = s.nv ∧ s.mapFrame.ras = s.ras ∧ s.mapFrame.pipe = s.pipe ∧
    s.mapFrame.prk = s.prk ∧ s.mapFrame.apq = s.apq ∧ s.mapFrame.pnl = s.pnl ∧ s.mapFrame.bob = s.bob ∧ s.mapFrame.sel = s.sel ∧ s.mapFrame.hl = s.hl ∧
    s.mapFrame.sec = s.sec ∧ s.mapFrame.tat = s.tat ∧ s.mapFrame.free = s.free ∧ s.mapFrame.pending = s.pending := by
  unfold State.mapFrame
  simp

@[simp] theorem State.modeFrame_frame (s : State) :
    s.modeFrame.now = s.now ∧ s.modeFrame.boot = s.boot ∧ s.modeFrame.vin = s.vin ∧ s.modeFrame.eyes = s.eyes ∧ s.modeFrame.par = s.par ∧
    s.modeFrame.fn = s.fn ∧ s.modeFrame.tab = s.tab ∧ s.modeFrame.pwr = s.pwr ∧ s.modeFrame.thm = s.thm ∧ s.modeFrame.mem = s.mem ∧ s.modeFrame.cmp = s.cmp ∧
    s.modeFrame.nv = s.nv ∧ s.modeFrame.pipe = s.pipe ∧ s.modeFrame.prk = s.prk ∧ s.modeFrame.apq = s.apq ∧ s.modeFrame.pnl = s.pnl ∧
    s.modeFrame.bob = s.bob ∧ s.modeFrame.sel = s.sel ∧ s.modeFrame.hl = s.hl ∧ s.modeFrame.sec = s.sec ∧ s.modeFrame.tat = s.tat ∧
    s.modeFrame.free = s.free ∧ s.modeFrame.pending = s.pending := by
  unfold State.modeFrame
  simp

@[simp] theorem State.residenceStart_frame (s : State) :
    s.residenceStart.now = s.now ∧ s.residenceStart.boot = s.boot ∧ s.residenceStart.vin = s.vin ∧ s.residenceStart.box = s.box ∧
    s.residenceStart.eyes = s.eyes ∧ s.residenceStart.par = s.par ∧ s.residenceStart.fn = s.fn ∧ s.residenceStart.tab = s.tab ∧
    s.residenceStart.pwr = s.pwr ∧ s.residenceStart.thm = s.thm ∧ s.residenceStart.cmp = s.cmp ∧ s.residenceStart.nv = s.nv ∧
    s.residenceStart.pipe = s.pipe ∧ s.residenceStart.prk = s.prk ∧ s.residenceStart.apq = s.apq ∧ s.residenceStart.pnl = s.pnl ∧
    s.residenceStart.bob = s.bob ∧ s.residenceStart.sel = s.sel ∧ s.residenceStart.hl = s.hl ∧ s.residenceStart.sec = s.sec ∧ s.residenceStart.tat = s.tat ∧
    s.residenceStart.free = s.free ∧ s.residenceStart.pending = s.pending ∧ s.residenceStart.mem.cells = s.mem.cells ∧
    s.residenceStart.mem.hoopFill = s.mem.hoopFill := by
  unfold State.residenceStart
  simp

@[simp] theorem State.emitFrame_frame (s : State) :
    s.emitFrame.now = s.now ∧ s.emitFrame.boot = s.boot ∧ s.emitFrame.vin = s.vin ∧ s.emitFrame.win = s.win ∧ s.emitFrame.box = s.box ∧
    s.emitFrame.evq = s.evq ∧ s.emitFrame.log = s.log ∧ s.emitFrame.stat = s.stat ∧ s.emitFrame.eyes = s.eyes ∧ s.emitFrame.par = s.par ∧
    s.emitFrame.fn = s.fn ∧ s.emitFrame.tab = s.tab ∧ s.emitFrame.pwr = s.pwr ∧ s.emitFrame.thm = s.thm ∧ s.emitFrame.mem = s.mem ∧ s.emitFrame.cmp = s.cmp ∧
    s.emitFrame.nv = s.nv ∧ s.emitFrame.ras = s.ras ∧ s.emitFrame.pipe = s.pipe ∧ s.emitFrame.prk = s.prk ∧ s.emitFrame.apq = s.apq ∧
    s.emitFrame.bob = s.bob ∧ s.emitFrame.hl = s.hl ∧ s.emitFrame.sec = s.sec ∧ s.emitFrame.tat = s.tat ∧ s.emitFrame.free = s.free ∧
    s.emitFrame.pending = s.pending := by
  unfold State.emitFrame
  simp

@[simp] theorem State.pairSend_frame (s : State) :
    s.pairSend.now = s.now ∧ s.pairSend.boot = s.boot ∧ s.pairSend.vin = s.vin ∧ s.pairSend.win = s.win ∧ s.pairSend.box = s.box ∧ s.pairSend.evq = s.evq ∧
    s.pairSend.log = s.log ∧ s.pairSend.stat = s.stat ∧ s.pairSend.eyes = s.eyes ∧ s.pairSend.par = s.par ∧ s.pairSend.fn = s.fn ∧ s.pairSend.tab = s.tab ∧
    s.pairSend.pwr = s.pwr ∧ s.pairSend.thm = s.thm ∧ s.pairSend.mem = s.mem ∧ s.pairSend.cmp = s.cmp ∧ s.pairSend.nv = s.nv ∧ s.pairSend.ras = s.ras ∧
    s.pairSend.pipe = s.pipe ∧ s.pairSend.prk = s.prk ∧ s.pairSend.apq = s.apq ∧ s.pairSend.pnl = s.pnl ∧ s.pairSend.bob = s.bob ∧ s.pairSend.sel = s.sel ∧
    s.pairSend.hl = s.hl ∧ s.pairSend.sec = s.sec ∧ s.pairSend.free = s.free ∧ s.pairSend.pending = s.pending := by
  unfold State.pairSend
  simp

@[simp] theorem State.linkGone_frame (s : State) (before : Bool) :
    (s.linkGone before).now = s.now ∧ (s.linkGone before).vin = s.vin ∧ (s.linkGone before).eyes = s.eyes ∧ (s.linkGone before).tab = s.tab ∧
    (s.linkGone before).cmp = s.cmp ∧ (s.linkGone before).nv = s.nv ∧ (s.linkGone before).pending = s.pending ∧
    (s.linkGone before).mem.hoopFill = s.mem.hoopFill := by
  unfold State.linkGone
  simp

@[simp] theorem State.beginFrame_frame (s : State) (t : Nat) (want : FrameKind) (num : BitVec 32) (rowTime : Nat) :
    (s.beginFrame t want num rowTime).vin = s.vin ∧ (s.beginFrame t want num rowTime).tab = s.tab ∧ (s.beginFrame t want num rowTime).cmp = s.cmp ∧
    (s.beginFrame t want num rowTime).pending = s.pending ∧ (s.beginFrame t want num rowTime).mem.hoopFill = s.mem.hoopFill ∧
    (s.beginFrame t want num rowTime).nv.nor = s.nv.nor ∧ (s.beginFrame t want num rowTime).nv.nand = s.nv.nand := by
  unfold State.beginFrame
  dsimp only
  repeat' split
  all_goals (try simp)
  all_goals (repeat' split)
  all_goals simp_all

@[simp] theorem State.sampleFifo_frame (s : State) (a b : BitVec 6) :
    (s.sampleFifo a b).now = s.now ∧ (s.sampleFifo a b).boot = s.boot ∧ (s.sampleFifo a b).vin = s.vin ∧ (s.sampleFifo a b).win = s.win ∧
    (s.sampleFifo a b).box = s.box ∧ (s.sampleFifo a b).evq = s.evq ∧ (s.sampleFifo a b).log = s.log ∧ (s.sampleFifo a b).stat = s.stat ∧
    (s.sampleFifo a b).eyes = s.eyes ∧ (s.sampleFifo a b).par = s.par ∧ (s.sampleFifo a b).fn = s.fn ∧ (s.sampleFifo a b).tab = s.tab ∧
    (s.sampleFifo a b).pwr = s.pwr ∧ (s.sampleFifo a b).thm = s.thm ∧ (s.sampleFifo a b).mem = s.mem ∧ (s.sampleFifo a b).cmp = s.cmp ∧
    (s.sampleFifo a b).nv = s.nv ∧ (s.sampleFifo a b).ras = s.ras ∧ (s.sampleFifo a b).pipe = s.pipe ∧ (s.sampleFifo a b).prk = s.prk ∧
    (s.sampleFifo a b).apq = s.apq ∧ (s.sampleFifo a b).pnl = s.pnl ∧ (s.sampleFifo a b).bob = s.bob ∧ (s.sampleFifo a b).sel = s.sel ∧
    (s.sampleFifo a b).sec = s.sec ∧ (s.sampleFifo a b).tat = s.tat ∧ (s.sampleFifo a b).free = s.free ∧ (s.sampleFifo a b).pending = s.pending := by
  unfold State.sampleFifo
  simp

@[simp] theorem State.hoopStart_frame (s : State) (t : Nat) :
    (s.hoopStart t).vin = s.vin ∧ (s.hoopStart t).tab = s.tab ∧ (s.hoopStart t).cmp = s.cmp ∧ (s.hoopStart t).pending = s.pending ∧
    (s.hoopStart t).mem.hoopFill = s.mem.hoopFill ∧ (s.hoopStart t).nv.nor = s.nv.nor ∧ (s.hoopStart t).nv.nand = s.nv.nand := by
  unfold State.hoopStart
  simp

@[simp] theorem State.netStart_frame (s : State) (t : Nat) (num : BitVec 32) (rowTime : Nat) (mayLive : Bool) :
    (s.netStart t num rowTime mayLive).vin = s.vin ∧ (s.netStart t num rowTime mayLive).tab = s.tab ∧ (s.netStart t num rowTime mayLive).cmp = s.cmp ∧
    (s.netStart t num rowTime mayLive).pending = s.pending ∧ (s.netStart t num rowTime mayLive).mem.hoopFill = s.mem.hoopFill ∧
    (s.netStart t num rowTime mayLive).nv.nor = s.nv.nor ∧ (s.netStart t num rowTime mayLive).nv.nand = s.nv.nand := by
  unfold State.netStart
  repeat' split
  all_goals simp

@[simp] theorem State.beaconStart_frame (s : State) (b : BeaconTiming) :
    (s.beaconStart b).vin = s.vin ∧ (s.beaconStart b).tab = s.tab ∧ (s.beaconStart b).cmp = s.cmp ∧ (s.beaconStart b).pending = s.pending ∧
    (s.beaconStart b).mem.hoopFill = s.mem.hoopFill ∧ (s.beaconStart b).nv.nor = s.nv.nor ∧ (s.beaconStart b).nv.nand = s.nv.nand := by
  unfold State.beaconStart
  simp

@[simp] theorem State.blackStart_frame (s : State) :
    s.blackStart.vin = s.vin ∧ s.blackStart.tab = s.tab ∧ s.blackStart.cmp = s.cmp ∧ s.blackStart.pending = s.pending ∧
    s.blackStart.mem.hoopFill = s.mem.hoopFill ∧ s.blackStart.nv.nor = s.nv.nor ∧ s.blackStart.nv.nand = s.nv.nand := by
  unfold State.blackStart
  repeat' split
  all_goals simp

@[simp] theorem State.transitionApply_frame (s : State) :
    s.transitionApply.now = s.now ∧ s.transitionApply.boot = s.boot ∧ s.transitionApply.vin = s.vin ∧ s.transitionApply.box = s.box ∧
    s.transitionApply.eyes = s.eyes ∧ s.transitionApply.fn = s.fn ∧ s.transitionApply.tab = s.tab ∧ s.transitionApply.pwr = s.pwr ∧
    s.transitionApply.mem = s.mem ∧ s.transitionApply.cmp = s.cmp ∧ s.transitionApply.nv = s.nv ∧ s.transitionApply.pnl = s.pnl ∧
    s.transitionApply.bob = s.bob ∧ s.transitionApply.sel = s.sel ∧ s.transitionApply.hl = s.hl ∧ s.transitionApply.sec = s.sec ∧
    s.transitionApply.tat = s.tat ∧ s.transitionApply.pending = s.pending := by
  unfold State.transitionApply
  repeat' split
  all_goals simp

@[simp] theorem State.t4Blank_frame (s : State) :
    s.t4Blank.now = s.now ∧ s.t4Blank.boot = s.boot ∧ s.t4Blank.vin = s.vin ∧ s.t4Blank.win = s.win ∧ s.t4Blank.box = s.box ∧ s.t4Blank.evq = s.evq ∧
    s.t4Blank.log = s.log ∧ s.t4Blank.stat = s.stat ∧ s.t4Blank.eyes = s.eyes ∧ s.t4Blank.par = s.par ∧ s.t4Blank.fn = s.fn ∧ s.t4Blank.tab = s.tab ∧
    s.t4Blank.pwr = s.pwr ∧ s.t4Blank.mem = s.mem ∧ s.t4Blank.cmp = s.cmp ∧ s.t4Blank.nv = s.nv ∧ s.t4Blank.ras = s.ras ∧ s.t4Blank.pipe = s.pipe ∧
    s.t4Blank.prk = s.prk ∧ s.t4Blank.apq = s.apq ∧ s.t4Blank.pnl = s.pnl ∧ s.t4Blank.bob = s.bob ∧ s.t4Blank.sel = s.sel ∧ s.t4Blank.hl = s.hl ∧
    s.t4Blank.sec = s.sec ∧ s.t4Blank.tat = s.tat ∧ s.t4Blank.free = s.free ∧ s.t4Blank.pending = s.pending := by
  unfold State.t4Blank
  simp

@[simp] theorem State.pairApply_frame (s : State) :
    s.pairApply.now = s.now ∧ s.pairApply.boot = s.boot ∧ s.pairApply.vin = s.vin ∧ s.pairApply.win = s.win ∧ s.pairApply.box = s.box ∧
    s.pairApply.evq = s.evq ∧ s.pairApply.log = s.log ∧ s.pairApply.stat = s.stat ∧ s.pairApply.eyes = s.eyes ∧ s.pairApply.fn = s.fn ∧
    s.pairApply.tab = s.tab ∧ s.pairApply.pwr = s.pwr ∧ s.pairApply.thm = s.thm ∧ s.pairApply.mem = s.mem ∧ s.pairApply.cmp = s.cmp ∧ s.pairApply.nv = s.nv ∧
    s.pairApply.pnl = s.pnl ∧ s.pairApply.bob = s.bob ∧ s.pairApply.sel = s.sel ∧ s.pairApply.hl = s.hl ∧ s.pairApply.sec = s.sec ∧
    s.pairApply.free = s.free ∧ s.pairApply.pending = s.pending := by
  unfold State.pairApply
  simp

@[simp] theorem State.blankApply_frame (s : State) :
    s.blankApply.now = s.now ∧ s.blankApply.boot = s.boot ∧ s.blankApply.vin = s.vin ∧ s.blankApply.fn = s.fn ∧ s.blankApply.tab = s.tab ∧
    s.blankApply.cmp = s.cmp ∧ s.blankApply.nv = s.nv ∧ s.blankApply.pnl = s.pnl ∧ s.blankApply.bob = s.bob ∧ s.blankApply.sel = s.sel ∧
    s.blankApply.hl = s.hl ∧ s.blankApply.sec = s.sec ∧ s.blankApply.pending = s.pending ∧ s.blankApply.mem.cells = s.mem.cells ∧
    s.blankApply.mem.hoopFill = s.mem.hoopFill := by
  unfold State.blankApply
  simp

@[simp] theorem State.scanOver_frame (s : State) :
    s.scanOver.now = s.now ∧ s.scanOver.boot = s.boot ∧ s.scanOver.vin = s.vin ∧ s.scanOver.win = s.win ∧ s.scanOver.box = s.box ∧ s.scanOver.evq = s.evq ∧
    s.scanOver.log = s.log ∧ s.scanOver.stat = s.stat ∧ s.scanOver.eyes = s.eyes ∧ s.scanOver.par = s.par ∧ s.scanOver.fn = s.fn ∧ s.scanOver.tab = s.tab ∧
    s.scanOver.pwr = s.pwr ∧ s.scanOver.thm = s.thm ∧ s.scanOver.cmp = s.cmp ∧ s.scanOver.nv = s.nv ∧ s.scanOver.ras = s.ras ∧ s.scanOver.pipe = s.pipe ∧
    s.scanOver.prk = s.prk ∧ s.scanOver.apq = s.apq ∧ s.scanOver.pnl = s.pnl ∧ s.scanOver.bob = s.bob ∧ s.scanOver.sel = s.sel ∧ s.scanOver.hl = s.hl ∧
    s.scanOver.sec = s.sec ∧ s.scanOver.tat = s.tat ∧ s.scanOver.free = s.free ∧ s.scanOver.pending = s.pending ∧ s.scanOver.mem.cells = s.mem.cells ∧
    s.scanOver.mem.hoopFill = s.mem.hoopFill := by
  unfold State.scanOver
  simp

@[simp] theorem State.settledBlank_frame (s : State) :
    s.settledBlank.now = s.now ∧ s.settledBlank.boot = s.boot ∧ s.settledBlank.vin = s.vin ∧ s.settledBlank.win = s.win ∧ s.settledBlank.box = s.box ∧
    s.settledBlank.evq = s.evq ∧ s.settledBlank.log = s.log ∧ s.settledBlank.eyes = s.eyes ∧ s.settledBlank.par = s.par ∧ s.settledBlank.fn = s.fn ∧
    s.settledBlank.tab = s.tab ∧ s.settledBlank.pwr = s.pwr ∧ s.settledBlank.thm = s.thm ∧ s.settledBlank.mem = s.mem ∧ s.settledBlank.cmp = s.cmp ∧
    s.settledBlank.nv = s.nv ∧ s.settledBlank.prk = s.prk ∧ s.settledBlank.apq = s.apq ∧ s.settledBlank.pnl = s.pnl ∧ s.settledBlank.bob = s.bob ∧
    s.settledBlank.sel = s.sel ∧ s.settledBlank.hl = s.hl ∧ s.settledBlank.sec = s.sec ∧ s.settledBlank.tat = s.tat ∧ s.settledBlank.free = s.free ∧
    s.settledBlank.pending = s.pending := by
  unfold State.settledBlank
  simp

@[simp] theorem State.abortFrame_frame (s : State) (n : Nat) :
    (s.abortFrame n).now = s.now ∧ (s.abortFrame n).boot = s.boot ∧ (s.abortFrame n).vin = s.vin ∧ (s.abortFrame n).fn = s.fn ∧
    (s.abortFrame n).tab = s.tab ∧ (s.abortFrame n).cmp = s.cmp ∧ (s.abortFrame n).nv = s.nv ∧ (s.abortFrame n).pnl = s.pnl ∧ (s.abortFrame n).sec = s.sec ∧
    (s.abortFrame n).pending = s.pending ∧ (s.abortFrame n).mem.cells = s.mem.cells ∧ (s.abortFrame n).mem.hoopFill = s.mem.hoopFill := by
  unfold State.abortFrame
  dsimp only
  repeat' split
  all_goals (try simp)
  all_goals (repeat' split)
  all_goals simp_all

@[simp] theorem State.sendRow_frame (s : State) (r : Nat) (ground : List Nat) (concealed : Bool) :
    (s.sendRow r ground concealed).boot = s.boot ∧ (s.sendRow r ground concealed).vin = s.vin ∧ (s.sendRow r ground concealed).win = s.win ∧
    (s.sendRow r ground concealed).box = s.box ∧ (s.sendRow r ground concealed).evq = s.evq ∧ (s.sendRow r ground concealed).log = s.log ∧
    (s.sendRow r ground concealed).par = s.par ∧ (s.sendRow r ground concealed).fn = s.fn ∧ (s.sendRow r ground concealed).tab = s.tab ∧
    (s.sendRow r ground concealed).pwr = s.pwr ∧ (s.sendRow r ground concealed).thm = s.thm ∧ (s.sendRow r ground concealed).cmp = s.cmp ∧
    (s.sendRow r ground concealed).nv = s.nv ∧ (s.sendRow r ground concealed).ras = s.ras ∧ (s.sendRow r ground concealed).apq = s.apq ∧
    (s.sendRow r ground concealed).pnl = s.pnl ∧ (s.sendRow r ground concealed).sel = s.sel ∧ (s.sendRow r ground concealed).hl = s.hl ∧
    (s.sendRow r ground concealed).sec = s.sec ∧ (s.sendRow r ground concealed).tat = s.tat ∧ (s.sendRow r ground concealed).pending = s.pending ∧
    (s.sendRow r ground concealed).mem.hoopFill = s.mem.hoopFill := by
  unfold State.sendRow
  dsimp only
  repeat' split
  all_goals (try simp)
  all_goals (repeat' split)
  all_goals simp_all

@[simp] theorem State.judgeHalf_frame (s : State) (i : Side) (r : Nat) :
    (s.judgeHalf i r).now = s.now ∧ (s.judgeHalf i r).boot = s.boot ∧ (s.judgeHalf i r).vin = s.vin ∧ (s.judgeHalf i r).box = s.box ∧
    (s.judgeHalf i r).eyes = s.eyes ∧ (s.judgeHalf i r).par = s.par ∧ (s.judgeHalf i r).fn = s.fn ∧ (s.judgeHalf i r).tab = s.tab ∧
    (s.judgeHalf i r).pwr = s.pwr ∧ (s.judgeHalf i r).thm = s.thm ∧ (s.judgeHalf i r).cmp = s.cmp ∧ (s.judgeHalf i r).nv = s.nv ∧
    (s.judgeHalf i r).pipe = s.pipe ∧ (s.judgeHalf i r).prk = s.prk ∧ (s.judgeHalf i r).apq = s.apq ∧ (s.judgeHalf i r).pnl = s.pnl ∧
    (s.judgeHalf i r).bob = s.bob ∧ (s.judgeHalf i r).sel = s.sel ∧ (s.judgeHalf i r).sec = s.sec ∧ (s.judgeHalf i r).free = s.free ∧
    (s.judgeHalf i r).pending = s.pending ∧ (s.judgeHalf i r).mem.hoopFill = s.mem.hoopFill := by
  unfold State.judgeHalf
  repeat' split
  all_goals simp

@[simp] theorem State.liveRow_frame (s : State) (r : Nat) :
    (s.liveRow r).boot = s.boot ∧ (s.liveRow r).vin = s.vin ∧ (s.liveRow r).box = s.box ∧ (s.liveRow r).par = s.par ∧ (s.liveRow r).fn = s.fn ∧
    (s.liveRow r).tab = s.tab ∧ (s.liveRow r).pwr = s.pwr ∧ (s.liveRow r).thm = s.thm ∧ (s.liveRow r).cmp = s.cmp ∧ (s.liveRow r).nv = s.nv ∧
    (s.liveRow r).apq = s.apq ∧ (s.liveRow r).pnl = s.pnl ∧ (s.liveRow r).sel = s.sel ∧ (s.liveRow r).sec = s.sec ∧ (s.liveRow r).pending = s.pending ∧
    (s.liveRow r).mem.hoopFill = s.mem.hoopFill := by
  unfold State.liveRow
  simp

@[simp] theorem State.startRow_frame (s : State) (r : Nat) :
    (s.startRow r).boot = s.boot ∧ (s.startRow r).vin = s.vin ∧ (s.startRow r).box = s.box ∧ (s.startRow r).par = s.par ∧ (s.startRow r).fn = s.fn ∧
    (s.startRow r).tab = s.tab ∧ (s.startRow r).pwr = s.pwr ∧ (s.startRow r).thm = s.thm ∧ (s.startRow r).cmp = s.cmp ∧ (s.startRow r).nv = s.nv ∧
    (s.startRow r).pnl = s.pnl ∧ (s.startRow r).sel = s.sel ∧ (s.startRow r).sec = s.sec ∧ (s.startRow r).pending = s.pending ∧
    (s.startRow r).mem.hoopFill = s.mem.hoopFill := by
  unfold State.startRow
  dsimp only
  repeat' split
  all_goals (try simp)
  all_goals (repeat' split)
  all_goals simp_all

@[simp] theorem State.rowGo_frame (s : State) (n : Nat) :
    (s.rowGo n).boot = s.boot ∧ (s.rowGo n).vin = s.vin ∧ (s.rowGo n).box = s.box ∧ (s.rowGo n).par = s.par ∧ (s.rowGo n).fn = s.fn ∧
    (s.rowGo n).tab = s.tab ∧ (s.rowGo n).pwr = s.pwr ∧ (s.rowGo n).thm = s.thm ∧ (s.rowGo n).cmp = s.cmp ∧ (s.rowGo n).nv = s.nv ∧ (s.rowGo n).pnl = s.pnl ∧
    (s.rowGo n).sec = s.sec ∧ (s.rowGo n).pending = s.pending ∧ (s.rowGo n).mem.hoopFill = s.mem.hoopFill := by
  unfold State.rowGo
  simp

@[simp] theorem State.underrunAt_frame (s : State) (n : Nat) (l r : List MemClient) :
    (s.underrunAt n l r).boot = s.boot ∧ (s.underrunAt n l r).vin = s.vin ∧ (s.underrunAt n l r).fn = s.fn ∧ (s.underrunAt n l r).tab = s.tab ∧
    (s.underrunAt n l r).cmp = s.cmp ∧ (s.underrunAt n l r).nv = s.nv ∧ (s.underrunAt n l r).pnl = s.pnl ∧ (s.underrunAt n l r).sec = s.sec ∧
    (s.underrunAt n l r).pending = s.pending ∧ (s.underrunAt n l r).mem.hoopFill = s.mem.hoopFill := by
  unfold State.underrunAt
  dsimp only
  repeat' split
  all_goals (try simp)
  all_goals (repeat' split)
  all_goals simp_all

@[simp] theorem State.clearAttained_frame (s : State) :
    s.clearAttained.now = s.now ∧ s.clearAttained.boot = s.boot ∧ s.clearAttained.vin = s.vin ∧ s.clearAttained.win = s.win ∧ s.clearAttained.box = s.box ∧
    s.clearAttained.evq = s.evq ∧ s.clearAttained.log = s.log ∧ s.clearAttained.stat = s.stat ∧ s.clearAttained.eyes = s.eyes ∧ s.clearAttained.par = s.par ∧
    s.clearAttained.fn = s.fn ∧ s.clearAttained.tab = s.tab ∧ s.clearAttained.pwr = s.pwr ∧ s.clearAttained.thm = s.thm ∧ s.clearAttained.cmp = s.cmp ∧
    s.clearAttained.nv = s.nv ∧ s.clearAttained.ras = s.ras ∧ s.clearAttained.prk = s.prk ∧ s.clearAttained.apq = s.apq ∧ s.clearAttained.pnl = s.pnl ∧
    s.clearAttained.bob = s.bob ∧ s.clearAttained.sel = s.sel ∧ s.clearAttained.hl = s.hl ∧ s.clearAttained.sec = s.sec ∧ s.clearAttained.tat = s.tat ∧
    s.clearAttained.free = s.free ∧ s.clearAttained.pending = s.pending ∧ s.clearAttained.mem.hoopFill = s.mem.hoopFill := by
  unfold State.clearAttained
  simp

@[simp] theorem State.rasterGo_frame (s : State) :
    s.rasterGo.vin = s.vin ∧ s.rasterGo.tab = s.tab ∧ s.rasterGo.cmp = s.cmp ∧ s.rasterGo.pending = s.pending ∧ s.rasterGo.mem.hoopFill = s.mem.hoopFill ∧
    s.rasterGo.nv.nor = s.nv.nor ∧ s.rasterGo.nv.nand = s.nv.nand := by
  unfold State.rasterGo
  dsimp only
  repeat' split
  all_goals (try simp)
  all_goals (repeat' split)
  all_goals simp_all

@[simp] theorem State.modeNow_frame (s : State) (m : Mode) :
    (s.modeNow m).vin = s.vin ∧ (s.modeNow m).tab = s.tab ∧ (s.modeNow m).cmp = s.cmp ∧ (s.modeNow m).pending = s.pending ∧
    (s.modeNow m).mem.hoopFill = s.mem.hoopFill ∧ (s.modeNow m).nv.nor = s.nv.nor ∧ (s.modeNow m).nv.nand = s.nv.nand := by
  unfold State.modeNow
  simp

@[simp] theorem State.modeBegin_frame (s : State) (m : Mode) :
    (s.modeBegin m).now = s.now ∧ (s.modeBegin m).boot = s.boot ∧ (s.modeBegin m).vin = s.vin ∧ (s.modeBegin m).win = s.win ∧ (s.modeBegin m).box = s.box ∧
    (s.modeBegin m).evq = s.evq ∧ (s.modeBegin m).log = s.log ∧ (s.modeBegin m).stat = s.stat ∧ (s.modeBegin m).eyes = s.eyes ∧ (s.modeBegin m).fn = s.fn ∧
    (s.modeBegin m).tab = s.tab ∧ (s.modeBegin m).pwr = s.pwr ∧ (s.modeBegin m).thm = s.thm ∧ (s.modeBegin m).mem = s.mem ∧ (s.modeBegin m).cmp = s.cmp ∧
    (s.modeBegin m).nv = s.nv ∧ (s.modeBegin m).pipe = s.pipe ∧ (s.modeBegin m).prk = s.prk ∧ (s.modeBegin m).apq = s.apq ∧ (s.modeBegin m).pnl = s.pnl ∧
    (s.modeBegin m).bob = s.bob ∧ (s.modeBegin m).sel = s.sel ∧ (s.modeBegin m).hl = s.hl ∧ (s.modeBegin m).sec = s.sec ∧ (s.modeBegin m).tat = s.tat ∧
    (s.modeBegin m).free = s.free ∧ (s.modeBegin m).pending = s.pending := by
  unfold State.modeBegin
  simp

end Sys2Proof.Machine
end

