-- ==== Sys2Proof/Laws/FrameRest.lean ====
section
/-! SUPPORT. What each operation leaves unchanged: training, host link packets, Tatting, pairs, thermal, boot, ports, readouts and commands. Each lemma lists every field of the state that its operation does not touch, and of a touched memory or flash the contents it leaves alone. -/

namespace Sys2Proof.Machine

@[simp] theorem State.adaptLane_frame (s : State) (n : Nat) (e : LaneEye) :
    (s.adaptLane n e).now = s.now ∧ (s.adaptLane n e).boot = s.boot ∧ (s.adaptLane n e).vin = s.vin ∧ (s.adaptLane n e).win = s.win ∧
    (s.adaptLane n e).box = s.box ∧ (s.adaptLane n e).evq = s.evq ∧ (s.adaptLane n e).log = s.log ∧ (s.adaptLane n e).stat = s.stat ∧
    (s.adaptLane n e).eyes = s.eyes ∧ (s.adaptLane n e).par = s.par ∧ (s.adaptLane n e).fn = s.fn ∧ (s.adaptLane n e).tab = s.tab ∧
    (s.adaptLane n e).pwr = s.pwr ∧ (s.adaptLane n e).thm = s.thm ∧ (s.adaptLane n e).mem = s.mem ∧ (s.adaptLane n e).cmp = s.cmp ∧
    (s.adaptLane n e).nv = s.nv ∧ (s.adaptLane n e).ras = s.ras ∧ (s.adaptLane n e).pipe = s.pipe ∧ (s.adaptLane n e).prk = s.prk ∧
    (s.adaptLane n e).apq = s.apq ∧ (s.adaptLane n e).pnl = s.pnl ∧ (s.adaptLane n e).bob = s.bob ∧ (s.adaptLane n e).sel = s.sel ∧
    (s.adaptLane n e).sec = s.sec ∧ (s.adaptLane n e).tat = s.tat ∧ (s.adaptLane n e).pending = s.pending := by
  unfold State.adaptLane
  simp

@[simp] theorem State.eqActive_frame (s : State) (n : Nat) :
    (s.eqActive n).now = s.now ∧ (s.eqActive n).boot = s.boot ∧ (s.eqActive n).vin = s.vin ∧ (s.eqActive n).win = s.win ∧ (s.eqActive n).box = s.box ∧
    (s.eqActive n).evq = s.evq ∧ (s.eqActive n).log = s.log ∧ (s.eqActive n).stat = s.stat ∧ (s.eqActive n).eyes = s.eyes ∧ (s.eqActive n).fn = s.fn ∧
    (s.eqActive n).tab = s.tab ∧ (s.eqActive n).pwr = s.pwr ∧ (s.eqActive n).thm = s.thm ∧ (s.eqActive n).mem = s.mem ∧ (s.eqActive n).cmp = s.cmp ∧
    (s.eqActive n).nv = s.nv ∧ (s.eqActive n).ras = s.ras ∧ (s.eqActive n).pipe = s.pipe ∧ (s.eqActive n).prk = s.prk ∧ (s.eqActive n).apq = s.apq ∧
    (s.eqActive n).pnl = s.pnl ∧ (s.eqActive n).bob = s.bob ∧ (s.eqActive n).sel = s.sel ∧ (s.eqActive n).hl = s.hl ∧ (s.eqActive n).sec = s.sec ∧
    (s.eqActive n).tat = s.tat ∧ (s.eqActive n).free = s.free ∧ (s.eqActive n).pending = s.pending := by
  unfold State.eqActive
  simp

@[simp] theorem State.blockError_frame (s : State) (i : Side) (lane : Nat) :
    (s.blockError i lane).now = s.now ∧ (s.blockError i lane).boot = s.boot ∧ (s.blockError i lane).vin = s.vin ∧ (s.blockError i lane).eyes = s.eyes ∧
    (s.blockError i lane).par = s.par ∧ (s.blockError i lane).fn = s.fn ∧ (s.blockError i lane).tab = s.tab ∧ (s.blockError i lane).thm = s.thm ∧
    (s.blockError i lane).cmp = s.cmp ∧ (s.blockError i lane).nv = s.nv ∧ (s.blockError i lane).pipe = s.pipe ∧ (s.blockError i lane).prk = s.prk ∧
    (s.blockError i lane).apq = s.apq ∧ (s.blockError i lane).pnl = s.pnl ∧ (s.blockError i lane).bob = s.bob ∧ (s.blockError i lane).sel = s.sel ∧
    (s.blockError i lane).free = s.free ∧ (s.blockError i lane).pending = s.pending ∧ (s.blockError i lane).mem.hoopFill = s.mem.hoopFill := by
  unfold State.blockError
  simp

@[simp] theorem State.setErrors_frame (s : State) (i : Side) (wrong : LaneGroup → LinkBlock → Bool) (set : List LinkBlock) :
    (s.setErrors i wrong set).now = s.now ∧ (s.setErrors i wrong set).boot = s.boot ∧ (s.setErrors i wrong set).vin = s.vin ∧
    (s.setErrors i wrong set).eyes = s.eyes ∧ (s.setErrors i wrong set).par = s.par ∧ (s.setErrors i wrong set).fn = s.fn ∧
    (s.setErrors i wrong set).tab = s.tab ∧ (s.setErrors i wrong set).thm = s.thm ∧ (s.setErrors i wrong set).cmp = s.cmp ∧
    (s.setErrors i wrong set).nv = s.nv ∧ (s.setErrors i wrong set).pipe = s.pipe ∧ (s.setErrors i wrong set).prk = s.prk ∧
    (s.setErrors i wrong set).apq = s.apq ∧ (s.setErrors i wrong set).pnl = s.pnl ∧ (s.setErrors i wrong set).bob = s.bob ∧
    (s.setErrors i wrong set).sel = s.sel ∧ (s.setErrors i wrong set).free = s.free ∧ (s.setErrors i wrong set).pending = s.pending ∧
    (s.setErrors i wrong set).mem.hoopFill = s.mem.hoopFill := by
  unfold State.setErrors
  simp

@[simp] theorem State.bcTransmit_frame (s : State) (m : BcMsg) :
    (s.bcTransmit m).now = s.now ∧ (s.bcTransmit m).boot = s.boot ∧ (s.bcTransmit m).vin = s.vin ∧ (s.bcTransmit m).win = s.win ∧
    (s.bcTransmit m).box = s.box ∧ (s.bcTransmit m).evq = s.evq ∧ (s.bcTransmit m).log = s.log ∧ (s.bcTransmit m).stat = s.stat ∧
    (s.bcTransmit m).eyes = s.eyes ∧ (s.bcTransmit m).par = s.par ∧ (s.bcTransmit m).fn = s.fn ∧ (s.bcTransmit m).tab = s.tab ∧
    (s.bcTransmit m).pwr = s.pwr ∧ (s.bcTransmit m).thm = s.thm ∧ (s.bcTransmit m).mem = s.mem ∧ (s.bcTransmit m).cmp = s.cmp ∧ (s.bcTransmit m).nv = s.nv ∧
    (s.bcTransmit m).ras = s.ras ∧ (s.bcTransmit m).pipe = s.pipe ∧ (s.bcTransmit m).prk = s.prk ∧ (s.bcTransmit m).apq = s.apq ∧
    (s.bcTransmit m).pnl = s.pnl ∧ (s.bcTransmit m).bob = s.bob ∧ (s.bcTransmit m).sel = s.sel ∧ (s.bcTransmit m).sec = s.sec ∧
    (s.bcTransmit m).tat = s.tat ∧ (s.bcTransmit m).free = s.free ∧ (s.bcTransmit m).pending = s.pending := by
  unfold State.bcTransmit
  simp

@[simp] theorem State.unknownPkt_frame (s : State) :
    s.unknownPkt.now = s.now ∧ s.unknownPkt.boot = s.boot ∧ s.unknownPkt.vin = s.vin ∧ s.unknownPkt.win = s.win ∧ s.unknownPkt.box = s.box ∧
    s.unknownPkt.evq = s.evq ∧ s.unknownPkt.log = s.log ∧ s.unknownPkt.eyes = s.eyes ∧ s.unknownPkt.par = s.par ∧ s.unknownPkt.fn = s.fn ∧
    s.unknownPkt.tab = s.tab ∧ s.unknownPkt.pwr = s.pwr ∧ s.unknownPkt.thm = s.thm ∧ s.unknownPkt.mem = s.mem ∧ s.unknownPkt.cmp = s.cmp ∧
    s.unknownPkt.nv = s.nv ∧ s.unknownPkt.ras = s.ras ∧ s.unknownPkt.pipe = s.pipe ∧ s.unknownPkt.prk = s.prk ∧ s.unknownPkt.apq = s.apq ∧
    s.unknownPkt.pnl = s.pnl ∧ s.unknownPkt.bob = s.bob ∧ s.unknownPkt.sel = s.sel ∧ s.unknownPkt.hl = s.hl ∧ s.unknownPkt.sec = s.sec ∧
    s.unknownPkt.tat = s.tat ∧ s.unknownPkt.free = s.free ∧ s.unknownPkt.pending = s.pending := by
  unfold State.unknownPkt
  simp

@[simp] theorem State.countReject_frame (s : State) (p : List Byte) :
    (s.countReject p).now = s.now ∧ (s.countReject p).boot = s.boot ∧ (s.countReject p).vin = s.vin ∧ (s.countReject p).box = s.box ∧
    (s.countReject p).eyes = s.eyes ∧ (s.countReject p).par = s.par ∧ (s.countReject p).fn = s.fn ∧ (s.countReject p).tab = s.tab ∧
    (s.countReject p).pwr = s.pwr ∧ (s.countReject p).thm = s.thm ∧ (s.countReject p).mem = s.mem ∧ (s.countReject p).cmp = s.cmp ∧
    (s.countReject p).nv = s.nv ∧ (s.countReject p).ras = s.ras ∧ (s.countReject p).pipe = s.pipe ∧ (s.countReject p).prk = s.prk ∧
    (s.countReject p).apq = s.apq ∧ (s.countReject p).pnl = s.pnl ∧ (s.countReject p).bob = s.bob ∧ (s.countReject p).sel = s.sel ∧
    (s.countReject p).sec = s.sec ∧ (s.countReject p).tat = s.tat ∧ (s.countReject p).free = s.free ∧ (s.countReject p).pending = s.pending := by
  unfold State.countReject
  simp

@[simp] theorem State.preempt_frame (s : State) :
    s.preempt.now = s.now ∧ s.preempt.boot = s.boot ∧ s.preempt.vin = s.vin ∧ s.preempt.win = s.win ∧ s.preempt.box = s.box ∧ s.preempt.evq = s.evq ∧
    s.preempt.log = s.log ∧ s.preempt.eyes = s.eyes ∧ s.preempt.par = s.par ∧ s.preempt.fn = s.fn ∧ s.preempt.tab = s.tab ∧ s.preempt.pwr = s.pwr ∧
    s.preempt.thm = s.thm ∧ s.preempt.cmp = s.cmp ∧ s.preempt.nv = s.nv ∧ s.preempt.pipe = s.pipe ∧ s.preempt.prk = s.prk ∧ s.preempt.apq = s.apq ∧
    s.preempt.pnl = s.pnl ∧ s.preempt.bob = s.bob ∧ s.preempt.sel = s.sel ∧ s.preempt.hl = s.hl ∧ s.preempt.sec = s.sec ∧ s.preempt.free = s.free ∧
    s.preempt.pending = s.pending ∧ s.preempt.mem.cells = s.mem.cells ∧ s.preempt.mem.hoopFill = s.mem.hoopFill := by
  unfold State.preempt
  simp

@[simp] theorem State.fsAccept_frame (s : State) (p : List Byte) :
    (s.fsAccept p).now = s.now ∧ (s.fsAccept p).boot = s.boot ∧ (s.fsAccept p).vin = s.vin ∧ (s.fsAccept p).win = s.win ∧ (s.fsAccept p).box = s.box ∧
    (s.fsAccept p).evq = s.evq ∧ (s.fsAccept p).log = s.log ∧ (s.fsAccept p).eyes = s.eyes ∧ (s.fsAccept p).par = s.par ∧ (s.fsAccept p).fn = s.fn ∧
    (s.fsAccept p).tab = s.tab ∧ (s.fsAccept p).pwr = s.pwr ∧ (s.fsAccept p).thm = s.thm ∧ (s.fsAccept p).cmp = s.cmp ∧ (s.fsAccept p).nv = s.nv ∧
    (s.fsAccept p).pipe = s.pipe ∧ (s.fsAccept p).prk = s.prk ∧ (s.fsAccept p).apq = s.apq ∧ (s.fsAccept p).pnl = s.pnl ∧ (s.fsAccept p).bob = s.bob ∧
    (s.fsAccept p).sel = s.sel ∧ (s.fsAccept p).sec = s.sec ∧ (s.fsAccept p).free = s.free ∧ (s.fsAccept p).pending = s.pending ∧
    (s.fsAccept p).mem.cells = s.mem.cells ∧ (s.fsAccept p).mem.hoopFill = s.mem.hoopFill := by
  unfold State.fsAccept
  dsimp only
  repeat' split
  all_goals simp

@[simp] theorem State.fsJudge_frame (s : State) (p : List Byte) :
    (s.fsJudge p).now = s.now ∧ (s.fsJudge p).boot = s.boot ∧ (s.fsJudge p).vin = s.vin ∧ (s.fsJudge p).box = s.box ∧ (s.fsJudge p).eyes = s.eyes ∧
    (s.fsJudge p).par = s.par ∧ (s.fsJudge p).fn = s.fn ∧ (s.fsJudge p).tab = s.tab ∧ (s.fsJudge p).pwr = s.pwr ∧ (s.fsJudge p).thm = s.thm ∧
    (s.fsJudge p).cmp = s.cmp ∧ (s.fsJudge p).nv = s.nv ∧ (s.fsJudge p).pipe = s.pipe ∧ (s.fsJudge p).prk = s.prk ∧ (s.fsJudge p).apq = s.apq ∧
    (s.fsJudge p).pnl = s.pnl ∧ (s.fsJudge p).bob = s.bob ∧ (s.fsJudge p).sel = s.sel ∧ (s.fsJudge p).sec = s.sec ∧ (s.fsJudge p).free = s.free ∧
    (s.fsJudge p).pending = s.pending ∧ (s.fsJudge p).mem.cells = s.mem.cells ∧ (s.fsJudge p).mem.hoopFill = s.mem.hoopFill := by
  unfold State.fsJudge
  repeat' split
  all_goals simp

@[simp] theorem State.fsOther_frame (s : State) (p : List Byte) :
    (s.fsOther p).now = s.now ∧ (s.fsOther p).boot = s.boot ∧ (s.fsOther p).vin = s.vin ∧ (s.fsOther p).box = s.box ∧ (s.fsOther p).eyes = s.eyes ∧
    (s.fsOther p).par = s.par ∧ (s.fsOther p).fn = s.fn ∧ (s.fsOther p).tab = s.tab ∧ (s.fsOther p).pwr = s.pwr ∧ (s.fsOther p).thm = s.thm ∧
    (s.fsOther p).cmp = s.cmp ∧ (s.fsOther p).nv = s.nv ∧ (s.fsOther p).ras = s.ras ∧ (s.fsOther p).pipe = s.pipe ∧ (s.fsOther p).prk = s.prk ∧
    (s.fsOther p).apq = s.apq ∧ (s.fsOther p).pnl = s.pnl ∧ (s.fsOther p).bob = s.bob ∧ (s.fsOther p).sel = s.sel ∧ (s.fsOther p).sec = s.sec ∧
    (s.fsOther p).tat = s.tat ∧ (s.fsOther p).free = s.free ∧ (s.fsOther p).pending = s.pending ∧ (s.fsOther p).mem.cells = s.mem.cells ∧
    (s.fsOther p).mem.hoopFill = s.mem.hoopFill := by
  unfold State.fsOther
  repeat' split
  all_goals simp

@[simp] theorem State.fsTry_frame (s : State) :
    s.fsTry.now = s.now ∧ s.fsTry.boot = s.boot ∧ s.fsTry.vin = s.vin ∧ s.fsTry.box = s.box ∧ s.fsTry.eyes = s.eyes ∧ s.fsTry.par = s.par ∧
    s.fsTry.fn = s.fn ∧ s.fsTry.tab = s.tab ∧ s.fsTry.pwr = s.pwr ∧ s.fsTry.thm = s.thm ∧ s.fsTry.cmp = s.cmp ∧ s.fsTry.nv = s.nv ∧ s.fsTry.pipe = s.pipe ∧
    s.fsTry.prk = s.prk ∧ s.fsTry.apq = s.apq ∧ s.fsTry.pnl = s.pnl ∧ s.fsTry.bob = s.bob ∧ s.fsTry.sel = s.sel ∧ s.fsTry.sec = s.sec ∧
    s.fsTry.free = s.free ∧ s.fsTry.pending = s.pending ∧ s.fsTry.mem.cells = s.mem.cells ∧ s.fsTry.mem.hoopFill = s.mem.hoopFill := by
  unfold State.fsTry
  simp

@[simp] theorem State.openPending_frame (s : State) :
    s.openPending.now = s.now ∧ s.openPending.boot = s.boot ∧ s.openPending.vin = s.vin ∧ s.openPending.box = s.box ∧ s.openPending.eyes = s.eyes ∧
    s.openPending.par = s.par ∧ s.openPending.fn = s.fn ∧ s.openPending.tab = s.tab ∧ s.openPending.pwr = s.pwr ∧ s.openPending.thm = s.thm ∧
    s.openPending.cmp = s.cmp ∧ s.openPending.nv = s.nv ∧ s.openPending.pipe = s.pipe ∧ s.openPending.prk = s.prk ∧ s.openPending.apq = s.apq ∧
    s.openPending.pnl = s.pnl ∧ s.openPending.bob = s.bob ∧ s.openPending.sel = s.sel ∧ s.openPending.sec = s.sec ∧ s.openPending.free = s.free ∧
    s.openPending.pending = s.pending ∧ s.openPending.mem.cells = s.mem.cells ∧ s.openPending.mem.hoopFill = s.mem.hoopFill := by
  unfold State.openPending
  simp

@[simp] theorem State.fsIn_frame (s : State) (i : Side) (p : List Byte) :
    (s.fsIn i p).now = s.now ∧ (s.fsIn i p).boot = s.boot ∧ (s.fsIn i p).vin = s.vin ∧ (s.fsIn i p).box = s.box ∧ (s.fsIn i p).eyes = s.eyes ∧
    (s.fsIn i p).par = s.par ∧ (s.fsIn i p).fn = s.fn ∧ (s.fsIn i p).tab = s.tab ∧ (s.fsIn i p).pwr = s.pwr ∧ (s.fsIn i p).thm = s.thm ∧
    (s.fsIn i p).cmp = s.cmp ∧ (s.fsIn i p).nv = s.nv ∧ (s.fsIn i p).pipe = s.pipe ∧ (s.fsIn i p).prk = s.prk ∧ (s.fsIn i p).apq = s.apq ∧
    (s.fsIn i p).pnl = s.pnl ∧ (s.fsIn i p).bob = s.bob ∧ (s.fsIn i p).sel = s.sel ∧ (s.fsIn i p).free = s.free ∧ (s.fsIn i p).pending = s.pending ∧
    (s.fsIn i p).mem.hoopFill = s.mem.hoopFill := by
  unfold State.fsIn
  simp

@[simp] theorem State.capture_frame (s : State) (n : Nat) :
    (s.capture n).now = s.now ∧ (s.capture n).boot = s.boot ∧ (s.capture n).vin = s.vin ∧ (s.capture n).win = s.win ∧ (s.capture n).box = s.box ∧
    (s.capture n).evq = s.evq ∧ (s.capture n).log = s.log ∧ (s.capture n).eyes = s.eyes ∧ (s.capture n).par = s.par ∧ (s.capture n).fn = s.fn ∧
    (s.capture n).tab = s.tab ∧ (s.capture n).pwr = s.pwr ∧ (s.capture n).thm = s.thm ∧ (s.capture n).mem = s.mem ∧ (s.capture n).cmp = s.cmp ∧
    (s.capture n).nv = s.nv ∧ (s.capture n).ras = s.ras ∧ (s.capture n).pipe = s.pipe ∧ (s.capture n).prk = s.prk ∧ (s.capture n).apq = s.apq ∧
    (s.capture n).pnl = s.pnl ∧ (s.capture n).bob = s.bob ∧ (s.capture n).sel = s.sel ∧ (s.capture n).sec = s.sec ∧ (s.capture n).tat = s.tat ∧
    (s.capture n).free = s.free ∧ (s.capture n).pending = s.pending := by
  unfold State.capture
  simp

@[simp] theorem State.rowZero_frame (s : State) :
    s.rowZero.now = s.now ∧ s.rowZero.boot = s.boot ∧ s.rowZero.vin = s.vin ∧ s.rowZero.win = s.win ∧ s.rowZero.box = s.box ∧ s.rowZero.evq = s.evq ∧
    s.rowZero.log = s.log ∧ s.rowZero.eyes = s.eyes ∧ s.rowZero.par = s.par ∧ s.rowZero.fn = s.fn ∧ s.rowZero.tab = s.tab ∧ s.rowZero.pwr = s.pwr ∧
    s.rowZero.thm = s.thm ∧ s.rowZero.mem = s.mem ∧ s.rowZero.cmp = s.cmp ∧ s.rowZero.nv = s.nv ∧ s.rowZero.pipe = s.pipe ∧ s.rowZero.prk = s.prk ∧
    s.rowZero.apq = s.apq ∧ s.rowZero.pnl = s.pnl ∧ s.rowZero.bob = s.bob ∧ s.rowZero.sel = s.sel ∧ s.rowZero.sec = s.sec ∧ s.rowZero.tat = s.tat ∧
    s.rowZero.free = s.free ∧ s.rowZero.pending = s.pending := by
  unfold State.rowZero
  simp

@[simp] theorem State.rowSeen_frame (s : State) (i : Side) (r : Nat) :
    (s.rowSeen i r).now = s.now ∧ (s.rowSeen i r).boot = s.boot ∧ (s.rowSeen i r).vin = s.vin ∧ (s.rowSeen i r).win = s.win ∧ (s.rowSeen i r).box = s.box ∧
    (s.rowSeen i r).evq = s.evq ∧ (s.rowSeen i r).log = s.log ∧ (s.rowSeen i r).stat = s.stat ∧ (s.rowSeen i r).eyes = s.eyes ∧ (s.rowSeen i r).par = s.par ∧
    (s.rowSeen i r).fn = s.fn ∧ (s.rowSeen i r).tab = s.tab ∧ (s.rowSeen i r).pwr = s.pwr ∧ (s.rowSeen i r).thm = s.thm ∧ (s.rowSeen i r).mem = s.mem ∧
    (s.rowSeen i r).cmp = s.cmp ∧ (s.rowSeen i r).nv = s.nv ∧ (s.rowSeen i r).ras = s.ras ∧ (s.rowSeen i r).pipe = s.pipe ∧ (s.rowSeen i r).prk = s.prk ∧
    (s.rowSeen i r).apq = s.apq ∧ (s.rowSeen i r).pnl = s.pnl ∧ (s.rowSeen i r).bob = s.bob ∧ (s.rowSeen i r).sel = s.sel ∧ (s.rowSeen i r).sec = s.sec ∧
    (s.rowSeen i r).tat = s.tat ∧ (s.rowSeen i r).free = s.free ∧ (s.rowSeen i r).pending = s.pending := by
  unfold State.rowSeen
  simp

@[simp] theorem State.rowUnusable_frame (s : State) (i : Side) (f : InputFrame) (r : Nat) :
    (s.rowUnusable i f r).now = s.now ∧ (s.rowUnusable i f r).boot = s.boot ∧ (s.rowUnusable i f r).vin = s.vin ∧ (s.rowUnusable i f r).box = s.box ∧
    (s.rowUnusable i f r).eyes = s.eyes ∧ (s.rowUnusable i f r).par = s.par ∧ (s.rowUnusable i f r).fn = s.fn ∧ (s.rowUnusable i f r).tab = s.tab ∧
    (s.rowUnusable i f r).pwr = s.pwr ∧ (s.rowUnusable i f r).thm = s.thm ∧ (s.rowUnusable i f r).cmp = s.cmp ∧ (s.rowUnusable i f r).nv = s.nv ∧
    (s.rowUnusable i f r).pipe = s.pipe ∧ (s.rowUnusable i f r).prk = s.prk ∧ (s.rowUnusable i f r).apq = s.apq ∧ (s.rowUnusable i f r).pnl = s.pnl ∧
    (s.rowUnusable i f r).bob = s.bob ∧ (s.rowUnusable i f r).sel = s.sel ∧ (s.rowUnusable i f r).sec = s.sec ∧ (s.rowUnusable i f r).free = s.free ∧
    (s.rowUnusable i f r).pending = s.pending ∧ (s.rowUnusable i f r).mem.hoopFill = s.mem.hoopFill := by
  unfold State.rowUnusable
  simp

@[simp] theorem State.rowGood_frame (s : State) (i : Side) (f : InputFrame) (r : Nat) (enc : Bool) (p : List Byte) :
    (s.rowGood i f r enc p).now = s.now ∧ (s.rowGood i f r enc p).boot = s.boot ∧ (s.rowGood i f r enc p).vin = s.vin ∧ (s.rowGood i f r enc p).box = s.box ∧
    (s.rowGood i f r enc p).eyes = s.eyes ∧ (s.rowGood i f r enc p).par = s.par ∧ (s.rowGood i f r enc p).fn = s.fn ∧ (s.rowGood i f r enc p).tab = s.tab ∧
    (s.rowGood i f r enc p).pwr = s.pwr ∧ (s.rowGood i f r enc p).thm = s.thm ∧ (s.rowGood i f r enc p).cmp = s.cmp ∧ (s.rowGood i f r enc p).nv = s.nv ∧
    (s.rowGood i f r enc p).pipe = s.pipe ∧ (s.rowGood i f r enc p).prk = s.prk ∧ (s.rowGood i f r enc p).apq = s.apq ∧ (s.rowGood i f r enc p).pnl = s.pnl ∧
    (s.rowGood i f r enc p).bob = s.bob ∧ (s.rowGood i f r enc p).sel = s.sel ∧ (s.rowGood i f r enc p).sec = s.sec ∧ (s.rowGood i f r enc p).free = s.free ∧
    (s.rowGood i f r enc p).pending = s.pending ∧ (s.rowGood i f r enc p).mem.hoopFill = s.mem.hoopFill := by
  unfold State.rowGood
  repeat' split
  all_goals simp

@[simp] theorem State.rowIn_frame (s : State) (i : Side) (f : InputFrame) (enc : Bool) (p : List Byte) :
    (s.rowIn i f enc p).now = s.now ∧ (s.rowIn i f enc p).boot = s.boot ∧ (s.rowIn i f enc p).vin = s.vin ∧ (s.rowIn i f enc p).box = s.box ∧
    (s.rowIn i f enc p).eyes = s.eyes ∧ (s.rowIn i f enc p).par = s.par ∧ (s.rowIn i f enc p).fn = s.fn ∧ (s.rowIn i f enc p).tab = s.tab ∧
    (s.rowIn i f enc p).pwr = s.pwr ∧ (s.rowIn i f enc p).thm = s.thm ∧ (s.rowIn i f enc p).cmp = s.cmp ∧ (s.rowIn i f enc p).nv = s.nv ∧
    (s.rowIn i f enc p).pipe = s.pipe ∧ (s.rowIn i f enc p).prk = s.prk ∧ (s.rowIn i f enc p).apq = s.apq ∧ (s.rowIn i f enc p).pnl = s.pnl ∧
    (s.rowIn i f enc p).bob = s.bob ∧ (s.rowIn i f enc p).sel = s.sel ∧ (s.rowIn i f enc p).sec = s.sec ∧ (s.rowIn i f enc p).free = s.free ∧
    (s.rowIn i f enc p).pending = s.pending ∧ (s.rowIn i f enc p).mem.hoopFill = s.mem.hoopFill := by
  unfold State.rowIn
  dsimp only
  repeat' split
  all_goals simp

@[simp] theorem State.rowPacket_frame (s : State) (i : Side) (enc : Bool) (p : List Byte) :
    (s.rowPacket i enc p).now = s.now ∧ (s.rowPacket i enc p).boot = s.boot ∧ (s.rowPacket i enc p).vin = s.vin ∧ (s.rowPacket i enc p).box = s.box ∧
    (s.rowPacket i enc p).eyes = s.eyes ∧ (s.rowPacket i enc p).par = s.par ∧ (s.rowPacket i enc p).fn = s.fn ∧ (s.rowPacket i enc p).tab = s.tab ∧
    (s.rowPacket i enc p).pwr = s.pwr ∧ (s.rowPacket i enc p).thm = s.thm ∧ (s.rowPacket i enc p).cmp = s.cmp ∧ (s.rowPacket i enc p).nv = s.nv ∧
    (s.rowPacket i enc p).pipe = s.pipe ∧ (s.rowPacket i enc p).prk = s.prk ∧ (s.rowPacket i enc p).apq = s.apq ∧ (s.rowPacket i enc p).pnl = s.pnl ∧
    (s.rowPacket i enc p).bob = s.bob ∧ (s.rowPacket i enc p).sel = s.sel ∧ (s.rowPacket i enc p).sec = s.sec ∧ (s.rowPacket i enc p).free = s.free ∧
    (s.rowPacket i enc p).pending = s.pending ∧ (s.rowPacket i enc p).mem.hoopFill = s.mem.hoopFill := by
  unfold State.rowPacket
  dsimp only
  repeat' split
  all_goals simp

@[simp] theorem State.frameWhole_frame (s : State) :
    s.frameWhole.now = s.now ∧ s.frameWhole.boot = s.boot ∧ s.frameWhole.vin = s.vin ∧ s.frameWhole.box = s.box ∧ s.frameWhole.eyes = s.eyes ∧
    s.frameWhole.par = s.par ∧ s.frameWhole.fn = s.fn ∧ s.frameWhole.tab = s.tab ∧ s.frameWhole.pwr = s.pwr ∧ s.frameWhole.thm = s.thm ∧
    s.frameWhole.cmp = s.cmp ∧ s.frameWhole.nv = s.nv ∧ s.frameWhole.pipe = s.pipe ∧ s.frameWhole.prk = s.prk ∧ s.frameWhole.apq = s.apq ∧
    s.frameWhole.pnl = s.pnl ∧ s.frameWhole.bob = s.bob ∧ s.frameWhole.sel = s.sel ∧ s.frameWhole.free = s.free ∧ s.frameWhole.pending = s.pending ∧
    s.frameWhole.mem.hoopFill = s.mem.hoopFill := by
  unfold State.frameWhole
  repeat' split
  all_goals simp

@[simp] theorem State.fePacket_frame (s : State) (i : Side) (p : List Byte) :
    (s.fePacket i p).now = s.now ∧ (s.fePacket i p).boot = s.boot ∧ (s.fePacket i p).vin = s.vin ∧ (s.fePacket i p).box = s.box ∧
    (s.fePacket i p).eyes = s.eyes ∧ (s.fePacket i p).par = s.par ∧ (s.fePacket i p).fn = s.fn ∧ (s.fePacket i p).tab = s.tab ∧
    (s.fePacket i p).pwr = s.pwr ∧ (s.fePacket i p).thm = s.thm ∧ (s.fePacket i p).cmp = s.cmp ∧ (s.fePacket i p).nv = s.nv ∧
    (s.fePacket i p).pipe = s.pipe ∧ (s.fePacket i p).prk = s.prk ∧ (s.fePacket i p).apq = s.apq ∧ (s.fePacket i p).pnl = s.pnl ∧
    (s.fePacket i p).bob = s.bob ∧ (s.fePacket i p).sel = s.sel ∧ (s.fePacket i p).free = s.free ∧ (s.fePacket i p).pending = s.pending ∧
    (s.fePacket i p).mem.hoopFill = s.mem.hoopFill := by
  unfold State.fePacket
  dsimp only
  repeat' split
  all_goals simp

@[simp] theorem State.surfPacket_frame (s : State) (i : Side) (enc : Bool) (p : List Byte) :
    (s.surfPacket i enc p).now = s.now ∧ (s.surfPacket i enc p).boot = s.boot ∧ (s.surfPacket i enc p).vin = s.vin ∧ (s.surfPacket i enc p).win = s.win ∧
    (s.surfPacket i enc p).box = s.box ∧ (s.surfPacket i enc p).evq = s.evq ∧ (s.surfPacket i enc p).log = s.log ∧ (s.surfPacket i enc p).eyes = s.eyes ∧
    (s.surfPacket i enc p).par = s.par ∧ (s.surfPacket i enc p).fn = s.fn ∧ (s.surfPacket i enc p).tab = s.tab ∧ (s.surfPacket i enc p).pwr = s.pwr ∧
    (s.surfPacket i enc p).thm = s.thm ∧ (s.surfPacket i enc p).cmp = s.cmp ∧ (s.surfPacket i enc p).nv = s.nv ∧ (s.surfPacket i enc p).pipe = s.pipe ∧
    (s.surfPacket i enc p).prk = s.prk ∧ (s.surfPacket i enc p).pnl = s.pnl ∧ (s.surfPacket i enc p).bob = s.bob ∧ (s.surfPacket i enc p).sel = s.sel ∧
    (s.surfPacket i enc p).hl = s.hl ∧ (s.surfPacket i enc p).sec = s.sec ∧ (s.surfPacket i enc p).tat = s.tat ∧ (s.surfPacket i enc p).free = s.free ∧
    (s.surfPacket i enc p).pending = s.pending ∧ (s.surfPacket i enc p).mem.hoopFill = s.mem.hoopFill := by
  unfold State.surfPacket
  simp

@[simp] theorem State.discardPartial_frame (s : State) (mb : Mb) :
    (s.discardPartial mb).now = s.now ∧ (s.discardPartial mb).boot = s.boot ∧ (s.discardPartial mb).vin = s.vin ∧ (s.discardPartial mb).win = s.win ∧
    (s.discardPartial mb).evq = s.evq ∧ (s.discardPartial mb).log = s.log ∧ (s.discardPartial mb).eyes = s.eyes ∧ (s.discardPartial mb).par = s.par ∧
    (s.discardPartial mb).fn = s.fn ∧ (s.discardPartial mb).tab = s.tab ∧ (s.discardPartial mb).pwr = s.pwr ∧ (s.discardPartial mb).thm = s.thm ∧
    (s.discardPartial mb).mem = s.mem ∧ (s.discardPartial mb).cmp = s.cmp ∧ (s.discardPartial mb).nv = s.nv ∧ (s.discardPartial mb).ras = s.ras ∧
    (s.discardPartial mb).pipe = s.pipe ∧ (s.discardPartial mb).prk = s.prk ∧ (s.discardPartial mb).apq = s.apq ∧ (s.discardPartial mb).pnl = s.pnl ∧
    (s.discardPartial mb).bob = s.bob ∧ (s.discardPartial mb).sel = s.sel ∧ (s.discardPartial mb).hl = s.hl ∧ (s.discardPartial mb).sec = s.sec ∧
    (s.discardPartial mb).tat = s.tat ∧ (s.discardPartial mb).free = s.free ∧ (s.discardPartial mb).pending = s.pending := by
  unfold State.discardPartial
  simp

@[simp] theorem State.ctlFragment_frame (s : State) (mb : Mb) (p : List Byte) :
    (s.ctlFragment mb p).now = s.now ∧ (s.ctlFragment mb p).boot = s.boot ∧ (s.ctlFragment mb p).vin = s.vin ∧ (s.ctlFragment mb p).evq = s.evq ∧
    (s.ctlFragment mb p).log = s.log ∧ (s.ctlFragment mb p).eyes = s.eyes ∧ (s.ctlFragment mb p).par = s.par ∧ (s.ctlFragment mb p).fn = s.fn ∧
    (s.ctlFragment mb p).tab = s.tab ∧ (s.ctlFragment mb p).pwr = s.pwr ∧ (s.ctlFragment mb p).thm = s.thm ∧ (s.ctlFragment mb p).mem = s.mem ∧
    (s.ctlFragment mb p).cmp = s.cmp ∧ (s.ctlFragment mb p).nv = s.nv ∧ (s.ctlFragment mb p).ras = s.ras ∧ (s.ctlFragment mb p).pipe = s.pipe ∧
    (s.ctlFragment mb p).prk = s.prk ∧ (s.ctlFragment mb p).apq = s.apq ∧ (s.ctlFragment mb p).pnl = s.pnl ∧ (s.ctlFragment mb p).bob = s.bob ∧
    (s.ctlFragment mb p).sel = s.sel ∧ (s.ctlFragment mb p).hl = s.hl ∧ (s.ctlFragment mb p).sec = s.sec ∧ (s.ctlFragment mb p).tat = s.tat ∧
    (s.ctlFragment mb p).free = s.free ∧ (s.ctlFragment mb p).pending = s.pending := by
  unfold State.ctlFragment
  simp

@[simp] theorem State.ctlIn_frame (s : State) (p : List Byte) :
    (s.ctlIn p).now = s.now ∧ (s.ctlIn p).boot = s.boot ∧ (s.ctlIn p).vin = s.vin ∧ (s.ctlIn p).evq = s.evq ∧ (s.ctlIn p).log = s.log ∧
    (s.ctlIn p).eyes = s.eyes ∧ (s.ctlIn p).par = s.par ∧ (s.ctlIn p).fn = s.fn ∧ (s.ctlIn p).tab = s.tab ∧ (s.ctlIn p).pwr = s.pwr ∧
    (s.ctlIn p).thm = s.thm ∧ (s.ctlIn p).mem = s.mem ∧ (s.ctlIn p).cmp = s.cmp ∧ (s.ctlIn p).nv = s.nv ∧ (s.ctlIn p).ras = s.ras ∧
    (s.ctlIn p).pipe = s.pipe ∧ (s.ctlIn p).prk = s.prk ∧ (s.ctlIn p).apq = s.apq ∧ (s.ctlIn p).pnl = s.pnl ∧ (s.ctlIn p).bob = s.bob ∧
    (s.ctlIn p).sel = s.sel ∧ (s.ctlIn p).hl = s.hl ∧ (s.ctlIn p).sec = s.sec ∧ (s.ctlIn p).tat = s.tat ∧ (s.ctlIn p).free = s.free ∧
    (s.ctlIn p).pending = s.pending := by
  unfold State.ctlIn
  repeat' split
  all_goals simp

@[simp] theorem State.sleepPacket_frame (s : State) (i : Side) (p : List Byte) :
    (s.sleepPacket i p).now = s.now ∧ (s.sleepPacket i p).boot = s.boot ∧ (s.sleepPacket i p).vin = s.vin ∧ (s.sleepPacket i p).box = s.box ∧
    (s.sleepPacket i p).eyes = s.eyes ∧ (s.sleepPacket i p).par = s.par ∧ (s.sleepPacket i p).fn = s.fn ∧ (s.sleepPacket i p).tab = s.tab ∧
    (s.sleepPacket i p).pwr = s.pwr ∧ (s.sleepPacket i p).thm = s.thm ∧ (s.sleepPacket i p).cmp = s.cmp ∧ (s.sleepPacket i p).nv = s.nv ∧
    (s.sleepPacket i p).pipe = s.pipe ∧ (s.sleepPacket i p).prk = s.prk ∧ (s.sleepPacket i p).apq = s.apq ∧ (s.sleepPacket i p).pnl = s.pnl ∧
    (s.sleepPacket i p).bob = s.bob ∧ (s.sleepPacket i p).sel = s.sel ∧ (s.sleepPacket i p).free = s.free ∧ (s.sleepPacket i p).pending = s.pending ∧
    (s.sleepPacket i p).mem.hoopFill = s.mem.hoopFill := by
  unfold State.sleepPacket
  simp

@[simp] theorem State.packet_frame (s : State) (i : Side) (type : Nat) (enc : Bool) (p : List Byte) :
    (s.packet i type enc p).now = s.now ∧ (s.packet i type enc p).boot = s.boot ∧ (s.packet i type enc p).vin = s.vin ∧
    (s.packet i type enc p).eyes = s.eyes ∧ (s.packet i type enc p).par = s.par ∧ (s.packet i type enc p).fn = s.fn ∧ (s.packet i type enc p).tab = s.tab ∧
    (s.packet i type enc p).thm = s.thm ∧ (s.packet i type enc p).cmp = s.cmp ∧ (s.packet i type enc p).nv = s.nv ∧ (s.packet i type enc p).pipe = s.pipe ∧
    (s.packet i type enc p).prk = s.prk ∧ (s.packet i type enc p).pnl = s.pnl ∧ (s.packet i type enc p).bob = s.bob ∧ (s.packet i type enc p).sel = s.sel ∧
    (s.packet i type enc p).pending = s.pending ∧ (s.packet i type enc p).mem.hoopFill = s.mem.hoopFill := by
  unfold State.packet
  repeat' split
  all_goals simp

@[simp] theorem State.headerLost_frame (s : State) (i : Side) :
    (s.headerLost i).now = s.now ∧ (s.headerLost i).boot = s.boot ∧ (s.headerLost i).vin = s.vin ∧ (s.headerLost i).win = s.win ∧
    (s.headerLost i).box = s.box ∧ (s.headerLost i).evq = s.evq ∧ (s.headerLost i).log = s.log ∧ (s.headerLost i).eyes = s.eyes ∧
    (s.headerLost i).par = s.par ∧ (s.headerLost i).fn = s.fn ∧ (s.headerLost i).tab = s.tab ∧ (s.headerLost i).pwr = s.pwr ∧ (s.headerLost i).thm = s.thm ∧
    (s.headerLost i).mem = s.mem ∧ (s.headerLost i).cmp = s.cmp ∧ (s.headerLost i).nv = s.nv ∧ (s.headerLost i).ras = s.ras ∧
    (s.headerLost i).pipe = s.pipe ∧ (s.headerLost i).prk = s.prk ∧ (s.headerLost i).apq = s.apq ∧ (s.headerLost i).pnl = s.pnl ∧
    (s.headerLost i).bob = s.bob ∧ (s.headerLost i).sel = s.sel ∧ (s.headerLost i).sec = s.sec ∧ (s.headerLost i).tat = s.tat ∧
    (s.headerLost i).free = s.free ∧ (s.headerLost i).pending = s.pending := by
  unfold State.headerLost
  simp

@[simp] theorem State.heard_frame (s : State) (i : Side) (a : Heard) :
    (s.heard i a).now = s.now ∧ (s.heard i a).boot = s.boot ∧ (s.heard i a).vin = s.vin ∧ (s.heard i a).eyes = s.eyes ∧ (s.heard i a).par = s.par ∧
    (s.heard i a).fn = s.fn ∧ (s.heard i a).tab = s.tab ∧ (s.heard i a).thm = s.thm ∧ (s.heard i a).cmp = s.cmp ∧ (s.heard i a).nv = s.nv ∧
    (s.heard i a).pipe = s.pipe ∧ (s.heard i a).prk = s.prk ∧ (s.heard i a).pnl = s.pnl ∧ (s.heard i a).bob = s.bob ∧ (s.heard i a).sel = s.sel ∧
    (s.heard i a).pending = s.pending ∧ (s.heard i a).mem.hoopFill = s.mem.hoopFill := by
  unfold State.heard
  repeat' split
  all_goals simp

@[simp] theorem State.judgeSets_frame (s : State) (i : Side) (sets : List (List LinkBlock)) :
    (s.judgeSets i sets).now = s.now ∧ (s.judgeSets i sets).boot = s.boot ∧ (s.judgeSets i sets).vin = s.vin ∧ (s.judgeSets i sets).eyes = s.eyes ∧
    (s.judgeSets i sets).par = s.par ∧ (s.judgeSets i sets).fn = s.fn ∧ (s.judgeSets i sets).tab = s.tab ∧ (s.judgeSets i sets).thm = s.thm ∧
    (s.judgeSets i sets).cmp = s.cmp ∧ (s.judgeSets i sets).nv = s.nv ∧ (s.judgeSets i sets).pipe = s.pipe ∧ (s.judgeSets i sets).prk = s.prk ∧
    (s.judgeSets i sets).apq = s.apq ∧ (s.judgeSets i sets).pnl = s.pnl ∧ (s.judgeSets i sets).bob = s.bob ∧ (s.judgeSets i sets).sel = s.sel ∧
    (s.judgeSets i sets).free = s.free ∧ (s.judgeSets i sets).pending = s.pending ∧ (s.judgeSets i sets).mem.hoopFill = s.mem.hoopFill := by
  unfold State.judgeSets
  simp

@[simp] theorem State.packetIn_frame (s : State) (side : Side) (at_ : Nat) (sets : List (List LinkBlock)) :
    (s.packetIn side at_ sets).boot = s.boot ∧ (s.packetIn side at_ sets).vin = s.vin ∧ (s.packetIn side at_ sets).eyes = s.eyes ∧
    (s.packetIn side at_ sets).par = s.par ∧ (s.packetIn side at_ sets).fn = s.fn ∧ (s.packetIn side at_ sets).tab = s.tab ∧
    (s.packetIn side at_ sets).thm = s.thm ∧ (s.packetIn side at_ sets).cmp = s.cmp ∧ (s.packetIn side at_ sets).pipe = s.pipe ∧
    (s.packetIn side at_ sets).prk = s.prk ∧ (s.packetIn side at_ sets).pnl = s.pnl ∧ (s.packetIn side at_ sets).bob = s.bob ∧
    (s.packetIn side at_ sets).sel = s.sel ∧ (s.packetIn side at_ sets).pending = s.pending ∧ (s.packetIn side at_ sets).mem.hoopFill = s.mem.hoopFill ∧
    (s.packetIn side at_ sets).nv.nor = s.nv.nor ∧ (s.packetIn side at_ sets).nv.nand = s.nv.nand := by
  unfold State.packetIn
  simp

@[simp] theorem State.tatDown_frame (s : State) (kind : Nat) (payload : List Byte) :
    (s.tatDown kind payload).now = s.now ∧ (s.tatDown kind payload).boot = s.boot ∧ (s.tatDown kind payload).vin = s.vin ∧
    (s.tatDown kind payload).win = s.win ∧ (s.tatDown kind payload).box = s.box ∧ (s.tatDown kind payload).evq = s.evq ∧
    (s.tatDown kind payload).log = s.log ∧ (s.tatDown kind payload).stat = s.stat ∧ (s.tatDown kind payload).eyes = s.eyes ∧
    (s.tatDown kind payload).par = s.par ∧ (s.tatDown kind payload).fn = s.fn ∧ (s.tatDown kind payload).tab = s.tab ∧ (s.tatDown kind payload).pwr = s.pwr ∧
    (s.tatDown kind payload).thm = s.thm ∧ (s.tatDown kind payload).mem = s.mem ∧ (s.tatDown kind payload).cmp = s.cmp ∧ (s.tatDown kind payload).nv = s.nv ∧
    (s.tatDown kind payload).ras = s.ras ∧ (s.tatDown kind payload).pipe = s.pipe ∧ (s.tatDown kind payload).prk = s.prk ∧
    (s.tatDown kind payload).apq = s.apq ∧ (s.tatDown kind payload).pnl = s.pnl ∧ (s.tatDown kind payload).bob = s.bob ∧
    (s.tatDown kind payload).sel = s.sel ∧ (s.tatDown kind payload).hl = s.hl ∧ (s.tatDown kind payload).sec = s.sec ∧
    (s.tatDown kind payload).free = s.free ∧ (s.tatDown kind payload).pending = s.pending := by
  unfold State.tatDown
  simp

@[simp] theorem State.rejoin_frame (s : State) (p : TatPort) :
    (s.rejoin p).now = s.now ∧ (s.rejoin p).boot = s.boot ∧ (s.rejoin p).vin = s.vin ∧ (s.rejoin p).win = s.win ∧ (s.rejoin p).box = s.box ∧
    (s.rejoin p).evq = s.evq ∧ (s.rejoin p).log = s.log ∧ (s.rejoin p).stat = s.stat ∧ (s.rejoin p).eyes = s.eyes ∧ (s.rejoin p).par = s.par ∧
    (s.rejoin p).fn = s.fn ∧ (s.rejoin p).tab = s.tab ∧ (s.rejoin p).pwr = s.pwr ∧ (s.rejoin p).thm = s.thm ∧ (s.rejoin p).mem = s.mem ∧
    (s.rejoin p).cmp = s.cmp ∧ (s.rejoin p).nv = s.nv ∧ (s.rejoin p).ras = s.ras ∧ (s.rejoin p).pipe = s.pipe ∧ (s.rejoin p).prk = s.prk ∧
    (s.rejoin p).apq = s.apq ∧ (s.rejoin p).pnl = s.pnl ∧ (s.rejoin p).bob = s.bob ∧ (s.rejoin p).sel = s.sel ∧ (s.rejoin p).hl = s.hl ∧
    (s.rejoin p).sec = s.sec ∧ (s.rejoin p).free = s.free ∧ (s.rejoin p).pending = s.pending := by
  unfold State.rejoin
  simp

@[simp] theorem State.enumEnd_frame (s : State) (r : EnumRun) :
    (s.enumEnd r).now = s.now ∧ (s.enumEnd r).boot = s.boot ∧ (s.enumEnd r).vin = s.vin ∧ (s.enumEnd r).eyes = s.eyes ∧ (s.enumEnd r).par = s.par ∧
    (s.enumEnd r).fn = s.fn ∧ (s.enumEnd r).tab = s.tab ∧ (s.enumEnd r).pwr = s.pwr ∧ (s.enumEnd r).thm = s.thm ∧ (s.enumEnd r).mem = s.mem ∧
    (s.enumEnd r).cmp = s.cmp ∧ (s.enumEnd r).nv = s.nv ∧ (s.enumEnd r).ras = s.ras ∧ (s.enumEnd r).pipe = s.pipe ∧ (s.enumEnd r).prk = s.prk ∧
    (s.enumEnd r).apq = s.apq ∧ (s.enumEnd r).pnl = s.pnl ∧ (s.enumEnd r).bob = s.bob ∧ (s.enumEnd r).sel = s.sel ∧ (s.enumEnd r).hl = s.hl ∧
    (s.enumEnd r).sec = s.sec ∧ (s.enumEnd r).free = s.free ∧ (s.enumEnd r).pending = s.pending := by
  unfold State.enumEnd
  simp

@[simp] theorem State.enumPorts_frame (s : State) (r : EnumRun) (ps : List TatPort) :
    (s.enumPorts r ps).now = s.now ∧ (s.enumPorts r ps).boot = s.boot ∧ (s.enumPorts r ps).vin = s.vin ∧ (s.enumPorts r ps).eyes = s.eyes ∧
    (s.enumPorts r ps).par = s.par ∧ (s.enumPorts r ps).fn = s.fn ∧ (s.enumPorts r ps).tab = s.tab ∧ (s.enumPorts r ps).pwr = s.pwr ∧
    (s.enumPorts r ps).thm = s.thm ∧ (s.enumPorts r ps).mem = s.mem ∧ (s.enumPorts r ps).cmp = s.cmp ∧ (s.enumPorts r ps).nv = s.nv ∧
    (s.enumPorts r ps).ras = s.ras ∧ (s.enumPorts r ps).pipe = s.pipe ∧ (s.enumPorts r ps).prk = s.prk ∧ (s.enumPorts r ps).apq = s.apq ∧
    (s.enumPorts r ps).pnl = s.pnl ∧ (s.enumPorts r ps).bob = s.bob ∧ (s.enumPorts r ps).sel = s.sel ∧ (s.enumPorts r ps).hl = s.hl ∧
    (s.enumPorts r ps).sec = s.sec ∧ (s.enumPorts r ps).free = s.free ∧ (s.enumPorts r ps).pending = s.pending := by
  induction ps with
  | nil => simp [State.enumPorts]
  | cons p ps ih =>
    unfold State.enumPorts
    split
    all_goals simp_all

@[simp] theorem State.enumStart_frame (s : State) (next limit depth : Nat) :
    (s.enumStart next limit depth).now = s.now ∧ (s.enumStart next limit depth).boot = s.boot ∧ (s.enumStart next limit depth).vin = s.vin ∧
    (s.enumStart next limit depth).eyes = s.eyes ∧ (s.enumStart next limit depth).par = s.par ∧ (s.enumStart next limit depth).fn = s.fn ∧
    (s.enumStart next limit depth).tab = s.tab ∧ (s.enumStart next limit depth).pwr = s.pwr ∧ (s.enumStart next limit depth).thm = s.thm ∧
    (s.enumStart next limit depth).mem = s.mem ∧ (s.enumStart next limit depth).cmp = s.cmp ∧ (s.enumStart next limit depth).nv = s.nv ∧
    (s.enumStart next limit depth).ras = s.ras ∧ (s.enumStart next limit depth).pipe = s.pipe ∧ (s.enumStart next limit depth).prk = s.prk ∧
    (s.enumStart next limit depth).apq = s.apq ∧ (s.enumStart next limit depth).pnl = s.pnl ∧ (s.enumStart next limit depth).bob = s.bob ∧
    (s.enumStart next limit depth).sel = s.sel ∧ (s.enumStart next limit depth).hl = s.hl ∧ (s.enumStart next limit depth).sec = s.sec ∧
    (s.enumStart next limit depth).free = s.free ∧ (s.enumStart next limit depth).pending = s.pending := by
  unfold State.enumStart
  simp

@[simp] theorem State.topologyChanged_frame (s : State) (p : TatPort) :
    (s.topologyChanged p).now = s.now ∧ (s.topologyChanged p).boot = s.boot ∧ (s.topologyChanged p).vin = s.vin ∧ (s.topologyChanged p).eyes = s.eyes ∧
    (s.topologyChanged p).par = s.par ∧ (s.topologyChanged p).fn = s.fn ∧ (s.topologyChanged p).tab = s.tab ∧ (s.topologyChanged p).pwr = s.pwr ∧
    (s.topologyChanged p).thm = s.thm ∧ (s.topologyChanged p).mem = s.mem ∧ (s.topologyChanged p).cmp = s.cmp ∧ (s.topologyChanged p).nv = s.nv ∧
    (s.topologyChanged p).ras = s.ras ∧ (s.topologyChanged p).pipe = s.pipe ∧ (s.topologyChanged p).prk = s.prk ∧ (s.topologyChanged p).apq = s.apq ∧
    (s.topologyChanged p).pnl = s.pnl ∧ (s.topologyChanged p).bob = s.bob ∧ (s.topologyChanged p).sel = s.sel ∧ (s.topologyChanged p).hl = s.hl ∧
    (s.topologyChanged p).sec = s.sec ∧ (s.topologyChanged p).free = s.free ∧ (s.topologyChanged p).pending = s.pending := by
  unfold State.topologyChanged
  simp

@[simp] theorem State.rootBeacon_frame (s : State) :
    s.rootBeacon.now = s.now ∧ s.rootBeacon.boot = s.boot ∧ s.rootBeacon.vin = s.vin ∧ s.rootBeacon.win = s.win ∧ s.rootBeacon.box = s.box ∧
    s.rootBeacon.evq = s.evq ∧ s.rootBeacon.log = s.log ∧ s.rootBeacon.stat = s.stat ∧ s.rootBeacon.eyes = s.eyes ∧ s.rootBeacon.par = s.par ∧
    s.rootBeacon.fn = s.fn ∧ s.rootBeacon.tab = s.tab ∧ s.rootBeacon.pwr = s.pwr ∧ s.rootBeacon.thm = s.thm ∧ s.rootBeacon.mem = s.mem ∧
    s.rootBeacon.cmp = s.cmp ∧ s.rootBeacon.nv = s.nv ∧ s.rootBeacon.ras = s.ras ∧ s.rootBeacon.pipe = s.pipe ∧ s.rootBeacon.prk = s.prk ∧
    s.rootBeacon.apq = s.apq ∧ s.rootBeacon.pnl = s.pnl ∧ s.rootBeacon.bob = s.bob ∧ s.rootBeacon.sel = s.sel ∧ s.rootBeacon.hl = s.hl ∧
    s.rootBeacon.sec = s.sec ∧ s.rootBeacon.free = s.free ∧ s.rootBeacon.pending = s.pending := by
  unfold State.rootBeacon
  simp

@[simp] theorem State.islandBeacon_frame (s : State) :
    s.islandBeacon.now = s.now ∧ s.islandBeacon.boot = s.boot ∧ s.islandBeacon.vin = s.vin ∧ s.islandBeacon.win = s.win ∧ s.islandBeacon.box = s.box ∧
    s.islandBeacon.evq = s.evq ∧ s.islandBeacon.log = s.log ∧ s.islandBeacon.stat = s.stat ∧ s.islandBeacon.eyes = s.eyes ∧ s.islandBeacon.par = s.par ∧
    s.islandBeacon.fn = s.fn ∧ s.islandBeacon.tab = s.tab ∧ s.islandBeacon.pwr = s.pwr ∧ s.islandBeacon.thm = s.thm ∧ s.islandBeacon.mem = s.mem ∧
    s.islandBeacon.cmp = s.cmp ∧ s.islandBeacon.nv = s.nv ∧ s.islandBeacon.ras = s.ras ∧ s.islandBeacon.pipe = s.pipe ∧ s.islandBeacon.prk = s.prk ∧
    s.islandBeacon.apq = s.apq ∧ s.islandBeacon.pnl = s.pnl ∧ s.islandBeacon.bob = s.bob ∧ s.islandBeacon.sel = s.sel ∧ s.islandBeacon.hl = s.hl ∧
    s.islandBeacon.sec = s.sec ∧ s.islandBeacon.free = s.free ∧ s.islandBeacon.pending = s.pending := by
  unfold State.islandBeacon
  simp

@[simp] theorem State.epochNow_frame (s : State) (n : BitVec 32) :
    (s.epochNow n).now = s.now ∧ (s.epochNow n).boot = s.boot ∧ (s.epochNow n).vin = s.vin ∧ (s.epochNow n).fn = s.fn ∧ (s.epochNow n).tab = s.tab ∧
    (s.epochNow n).thm = s.thm ∧ (s.epochNow n).cmp = s.cmp ∧ (s.epochNow n).nv = s.nv ∧ (s.epochNow n).pnl = s.pnl ∧ (s.epochNow n).bob = s.bob ∧
    (s.epochNow n).sel = s.sel ∧ (s.epochNow n).hl = s.hl ∧ (s.epochNow n).sec = s.sec ∧ (s.epochNow n).free = s.free ∧ (s.epochNow n).pending = s.pending ∧
    (s.epochNow n).mem.cells = s.mem.cells ∧ (s.epochNow n).mem.hoopFill = s.mem.hoopFill := by
  unfold State.epochNow
  repeat' split
  all_goals simp

@[simp] theorem State.onStaged_frame (s : State) (f : Epoch → Epoch) :
    (s.onStaged f).now = s.now ∧ (s.onStaged f).boot = s.boot ∧ (s.onStaged f).vin = s.vin ∧ (s.onStaged f).win = s.win ∧ (s.onStaged f).box = s.box ∧
    (s.onStaged f).evq = s.evq ∧ (s.onStaged f).log = s.log ∧ (s.onStaged f).stat = s.stat ∧ (s.onStaged f).eyes = s.eyes ∧ (s.onStaged f).par = s.par ∧
    (s.onStaged f).fn = s.fn ∧ (s.onStaged f).tab = s.tab ∧ (s.onStaged f).pwr = s.pwr ∧ (s.onStaged f).thm = s.thm ∧ (s.onStaged f).mem = s.mem ∧
    (s.onStaged f).cmp = s.cmp ∧ (s.onStaged f).nv = s.nv ∧ (s.onStaged f).ras = s.ras ∧ (s.onStaged f).pipe = s.pipe ∧ (s.onStaged f).prk = s.prk ∧
    (s.onStaged f).apq = s.apq ∧ (s.onStaged f).pnl = s.pnl ∧ (s.onStaged f).bob = s.bob ∧ (s.onStaged f).sel = s.sel ∧ (s.onStaged f).hl = s.hl ∧
    (s.onStaged f).sec = s.sec ∧ (s.onStaged f).free = s.free ∧ (s.onStaged f).pending = s.pending := by
  unfold State.onStaged
  simp

@[simp] theorem State.hearArming_frame (s : State) (n : BitVec 32) (e f : Nat) (fits : Bool) :
    (s.hearArming n e f fits).now = s.now ∧ (s.hearArming n e f fits).boot = s.boot ∧ (s.hearArming n e f fits).vin = s.vin ∧
    (s.hearArming n e f fits).fn = s.fn ∧ (s.hearArming n e f fits).tab = s.tab ∧ (s.hearArming n e f fits).thm = s.thm ∧
    (s.hearArming n e f fits).cmp = s.cmp ∧ (s.hearArming n e f fits).nv = s.nv ∧ (s.hearArming n e f fits).pnl = s.pnl ∧
    (s.hearArming n e f fits).bob = s.bob ∧ (s.hearArming n e f fits).sel = s.sel ∧ (s.hearArming n e f fits).hl = s.hl ∧
    (s.hearArming n e f fits).sec = s.sec ∧ (s.hearArming n e f fits).free = s.free ∧ (s.hearArming n e f fits).pending = s.pending ∧
    (s.hearArming n e f fits).mem.cells = s.mem.cells ∧ (s.hearArming n e f fits).mem.hoopFill = s.mem.hoopFill := by
  unfold State.hearArming
  dsimp only
  repeat' split
  all_goals simp

@[simp] theorem State.hearNoArming_frame (s : State) :
    s.hearNoArming.now = s.now ∧ s.hearNoArming.boot = s.boot ∧ s.hearNoArming.vin = s.vin ∧ s.hearNoArming.win = s.win ∧ s.hearNoArming.box = s.box ∧
    s.hearNoArming.evq = s.evq ∧ s.hearNoArming.log = s.log ∧ s.hearNoArming.stat = s.stat ∧ s.hearNoArming.eyes = s.eyes ∧ s.hearNoArming.par = s.par ∧
    s.hearNoArming.fn = s.fn ∧ s.hearNoArming.tab = s.tab ∧ s.hearNoArming.pwr = s.pwr ∧ s.hearNoArming.thm = s.thm ∧ s.hearNoArming.mem = s.mem ∧
    s.hearNoArming.cmp = s.cmp ∧ s.hearNoArming.nv = s.nv ∧ s.hearNoArming.ras = s.ras ∧ s.hearNoArming.pipe = s.pipe ∧ s.hearNoArming.prk = s.prk ∧
    s.hearNoArming.apq = s.apq ∧ s.hearNoArming.pnl = s.pnl ∧ s.hearNoArming.bob = s.bob ∧ s.hearNoArming.sel = s.sel ∧ s.hearNoArming.hl = s.hl ∧
    s.hearNoArming.sec = s.sec ∧ s.hearNoArming.free = s.free ∧ s.hearNoArming.pending = s.pending := by
  unfold State.hearNoArming
  simp

@[simp] theorem State.hearApplied_frame (s : State) (n : BitVec 32) (a : Nat) :
    (s.hearApplied n a).now = s.now ∧ (s.hearApplied n a).boot = s.boot ∧ (s.hearApplied n a).vin = s.vin ∧ (s.hearApplied n a).fn = s.fn ∧
    (s.hearApplied n a).tab = s.tab ∧ (s.hearApplied n a).thm = s.thm ∧ (s.hearApplied n a).cmp = s.cmp ∧ (s.hearApplied n a).nv = s.nv ∧
    (s.hearApplied n a).pnl = s.pnl ∧ (s.hearApplied n a).bob = s.bob ∧ (s.hearApplied n a).sel = s.sel ∧ (s.hearApplied n a).hl = s.hl ∧
    (s.hearApplied n a).sec = s.sec ∧ (s.hearApplied n a).free = s.free ∧ (s.hearApplied n a).pending = s.pending ∧
    (s.hearApplied n a).mem.cells = s.mem.cells ∧ (s.hearApplied n a).mem.hoopFill = s.mem.hoopFill := by
  unfold State.hearApplied
  dsimp only
  repeat' split
  all_goals simp

@[simp] theorem State.hearEpochs_frame (s : State) (b : BeaconTiming) (p : List Byte) :
    (s.hearEpochs b p).now = s.now ∧ (s.hearEpochs b p).boot = s.boot ∧ (s.hearEpochs b p).vin = s.vin ∧ (s.hearEpochs b p).fn = s.fn ∧
    (s.hearEpochs b p).tab = s.tab ∧ (s.hearEpochs b p).thm = s.thm ∧ (s.hearEpochs b p).cmp = s.cmp ∧ (s.hearEpochs b p).nv = s.nv ∧
    (s.hearEpochs b p).pnl = s.pnl ∧ (s.hearEpochs b p).bob = s.bob ∧ (s.hearEpochs b p).sel = s.sel ∧ (s.hearEpochs b p).hl = s.hl ∧
    (s.hearEpochs b p).sec = s.sec ∧ (s.hearEpochs b p).free = s.free ∧ (s.hearEpochs b p).pending = s.pending ∧ (s.hearEpochs b p).mem.cells = s.mem.cells ∧
    (s.hearEpochs b p).mem.hoopFill = s.mem.hoopFill := by
  unfold State.hearEpochs
  repeat' split
  all_goals simp

@[simp] theorem State.islandNext_frame (s : State) (cause : Nat) (b : BeaconTiming) :
    (s.islandNext cause b).now = s.now ∧ (s.islandNext cause b).boot = s.boot ∧ (s.islandNext cause b).vin = s.vin ∧ (s.islandNext cause b).win = s.win ∧
    (s.islandNext cause b).box = s.box ∧ (s.islandNext cause b).evq = s.evq ∧ (s.islandNext cause b).log = s.log ∧ (s.islandNext cause b).stat = s.stat ∧
    (s.islandNext cause b).eyes = s.eyes ∧ (s.islandNext cause b).par = s.par ∧ (s.islandNext cause b).fn = s.fn ∧ (s.islandNext cause b).tab = s.tab ∧
    (s.islandNext cause b).pwr = s.pwr ∧ (s.islandNext cause b).thm = s.thm ∧ (s.islandNext cause b).mem = s.mem ∧ (s.islandNext cause b).cmp = s.cmp ∧
    (s.islandNext cause b).nv = s.nv ∧ (s.islandNext cause b).pipe = s.pipe ∧ (s.islandNext cause b).prk = s.prk ∧ (s.islandNext cause b).apq = s.apq ∧
    (s.islandNext cause b).pnl = s.pnl ∧ (s.islandNext cause b).bob = s.bob ∧ (s.islandNext cause b).sel = s.sel ∧ (s.islandNext cause b).hl = s.hl ∧
    (s.islandNext cause b).sec = s.sec ∧ (s.islandNext cause b).free = s.free ∧ (s.islandNext cause b).pending = s.pending := by
  unfold State.islandNext
  simp

@[simp] theorem State.beaconTimes_frame (s : State) (b : BeaconTiming) (prev : Option BeaconTiming) (fits : Bool) :
    (s.beaconTimes b prev fits).now = s.now ∧ (s.beaconTimes b prev fits).boot = s.boot ∧ (s.beaconTimes b prev fits).vin = s.vin ∧
    (s.beaconTimes b prev fits).win = s.win ∧ (s.beaconTimes b prev fits).box = s.box ∧ (s.beaconTimes b prev fits).evq = s.evq ∧
    (s.beaconTimes b prev fits).log = s.log ∧ (s.beaconTimes b prev fits).stat = s.stat ∧ (s.beaconTimes b prev fits).eyes = s.eyes ∧
    (s.beaconTimes b prev fits).par = s.par ∧ (s.beaconTimes b prev fits).fn = s.fn ∧ (s.beaconTimes b prev fits).tab = s.tab ∧
    (s.beaconTimes b prev fits).pwr = s.pwr ∧ (s.beaconTimes b prev fits).thm = s.thm ∧ (s.beaconTimes b prev fits).mem = s.mem ∧
    (s.beaconTimes b prev fits).cmp = s.cmp ∧ (s.beaconTimes b prev fits).nv = s.nv ∧ (s.beaconTimes b prev fits).pipe = s.pipe ∧
    (s.beaconTimes b prev fits).prk = s.prk ∧ (s.beaconTimes b prev fits).apq = s.apq ∧ (s.beaconTimes b prev fits).pnl = s.pnl ∧
    (s.beaconTimes b prev fits).bob = s.bob ∧ (s.beaconTimes b prev fits).sel = s.sel ∧ (s.beaconTimes b prev fits).hl = s.hl ∧
    (s.beaconTimes b prev fits).sec = s.sec ∧ (s.beaconTimes b prev fits).free = s.free ∧ (s.beaconTimes b prev fits).pending = s.pending := by
  unfold State.beaconTimes
  repeat' split
  all_goals simp

@[simp] theorem State.forwardBeacon_frame (s : State) (p : List Byte) (arrived sent0 sent1 : Nat) :
    (s.forwardBeacon p arrived sent0 sent1).now = s.now ∧ (s.forwardBeacon p arrived sent0 sent1).boot = s.boot ∧
    (s.forwardBeacon p arrived sent0 sent1).vin = s.vin ∧ (s.forwardBeacon p arrived sent0 sent1).win = s.win ∧
    (s.forwardBeacon p arrived sent0 sent1).box = s.box ∧ (s.forwardBeacon p arrived sent0 sent1).evq = s.evq ∧
    (s.forwardBeacon p arrived sent0 sent1).log = s.log ∧ (s.forwardBeacon p arrived sent0 sent1).stat = s.stat ∧
    (s.forwardBeacon p arrived sent0 sent1).eyes = s.eyes ∧ (s.forwardBeacon p arrived sent0 sent1).par = s.par ∧
    (s.forwardBeacon p arrived sent0 sent1).fn = s.fn ∧ (s.forwardBeacon p arrived sent0 sent1).tab = s.tab ∧
    (s.forwardBeacon p arrived sent0 sent1).pwr = s.pwr ∧ (s.forwardBeacon p arrived sent0 sent1).thm = s.thm ∧
    (s.forwardBeacon p arrived sent0 sent1).mem = s.mem ∧ (s.forwardBeacon p arrived sent0 sent1).cmp = s.cmp ∧
    (s.forwardBeacon p arrived sent0 sent1).nv = s.nv ∧ (s.forwardBeacon p arrived sent0 sent1).ras = s.ras ∧
    (s.forwardBeacon p arrived sent0 sent1).pipe = s.pipe ∧ (s.forwardBeacon p arrived sent0 sent1).prk = s.prk ∧
    (s.forwardBeacon p arrived sent0 sent1).apq = s.apq ∧ (s.forwardBeacon p arrived sent0 sent1).pnl = s.pnl ∧
    (s.forwardBeacon p arrived sent0 sent1).bob = s.bob ∧ (s.forwardBeacon p arrived sent0 sent1).sel = s.sel ∧
    (s.forwardBeacon p arrived sent0 sent1).hl = s.hl ∧ (s.forwardBeacon p arrived sent0 sent1).sec = s.sec ∧
    (s.forwardBeacon p arrived sent0 sent1).free = s.free ∧ (s.forwardBeacon p arrived sent0 sent1).pending = s.pending := by
  unfold State.forwardBeacon
  simp

@[simp] theorem State.beaconAccept_frame (s : State) (b : BeaconTiming) (p : List Byte) (arrived sent0 sent1 : Nat) :
    (s.beaconAccept b p arrived sent0 sent1).now = s.now ∧ (s.beaconAccept b p arrived sent0 sent1).boot = s.boot ∧
    (s.beaconAccept b p arrived sent0 sent1).vin = s.vin ∧ (s.beaconAccept b p arrived sent0 sent1).fn = s.fn ∧
    (s.beaconAccept b p arrived sent0 sent1).tab = s.tab ∧ (s.beaconAccept b p arrived sent0 sent1).thm = s.thm ∧
    (s.beaconAccept b p arrived sent0 sent1).cmp = s.cmp ∧ (s.beaconAccept b p arrived sent0 sent1).nv = s.nv ∧
    (s.beaconAccept b p arrived sent0 sent1).pnl = s.pnl ∧ (s.beaconAccept b p arrived sent0 sent1).bob = s.bob ∧
    (s.beaconAccept b p arrived sent0 sent1).sel = s.sel ∧ (s.beaconAccept b p arrived sent0 sent1).hl = s.hl ∧
    (s.beaconAccept b p arrived sent0 sent1).sec = s.sec ∧ (s.beaconAccept b p arrived sent0 sent1).free = s.free ∧
    (s.beaconAccept b p arrived sent0 sent1).pending = s.pending ∧ (s.beaconAccept b p arrived sent0 sent1).mem.cells = s.mem.cells ∧
    (s.beaconAccept b p arrived sent0 sent1).mem.hoopFill = s.mem.hoopFill := by
  unfold State.beaconAccept
  simp

@[simp] theorem State.holdoverBeacon_frame (s : State) (b : BeaconTiming) :
    (s.holdoverBeacon b).now = s.now ∧ (s.holdoverBeacon b).boot = s.boot ∧ (s.holdoverBeacon b).vin = s.vin ∧ (s.holdoverBeacon b).win = s.win ∧
    (s.holdoverBeacon b).box = s.box ∧ (s.holdoverBeacon b).evq = s.evq ∧ (s.holdoverBeacon b).log = s.log ∧ (s.holdoverBeacon b).stat = s.stat ∧
    (s.holdoverBeacon b).eyes = s.eyes ∧ (s.holdoverBeacon b).par = s.par ∧ (s.holdoverBeacon b).fn = s.fn ∧ (s.holdoverBeacon b).tab = s.tab ∧
    (s.holdoverBeacon b).pwr = s.pwr ∧ (s.holdoverBeacon b).thm = s.thm ∧ (s.holdoverBeacon b).mem = s.mem ∧ (s.holdoverBeacon b).cmp = s.cmp ∧
    (s.holdoverBeacon b).nv = s.nv ∧ (s.holdoverBeacon b).ras = s.ras ∧ (s.holdoverBeacon b).pipe = s.pipe ∧ (s.holdoverBeacon b).prk = s.prk ∧
    (s.holdoverBeacon b).apq = s.apq ∧ (s.holdoverBeacon b).pnl = s.pnl ∧ (s.holdoverBeacon b).bob = s.bob ∧ (s.holdoverBeacon b).sel = s.sel ∧
    (s.holdoverBeacon b).hl = s.hl ∧ (s.holdoverBeacon b).sec = s.sec ∧ (s.holdoverBeacon b).free = s.free ∧ (s.holdoverBeacon b).pending = s.pending := by
  unfold State.holdoverBeacon
  simp

@[simp] theorem State.sendSet_frame (s : State) (p : TatPort) (e : Nat) (bytes : List Byte) :
    (s.sendSet p e bytes).now = s.now ∧ (s.sendSet p e bytes).boot = s.boot ∧ (s.sendSet p e bytes).vin = s.vin ∧ (s.sendSet p e bytes).win = s.win ∧
    (s.sendSet p e bytes).box = s.box ∧ (s.sendSet p e bytes).evq = s.evq ∧ (s.sendSet p e bytes).log = s.log ∧ (s.sendSet p e bytes).stat = s.stat ∧
    (s.sendSet p e bytes).eyes = s.eyes ∧ (s.sendSet p e bytes).par = s.par ∧ (s.sendSet p e bytes).fn = s.fn ∧ (s.sendSet p e bytes).tab = s.tab ∧
    (s.sendSet p e bytes).pwr = s.pwr ∧ (s.sendSet p e bytes).thm = s.thm ∧ (s.sendSet p e bytes).mem = s.mem ∧ (s.sendSet p e bytes).cmp = s.cmp ∧
    (s.sendSet p e bytes).nv = s.nv ∧ (s.sendSet p e bytes).ras = s.ras ∧ (s.sendSet p e bytes).pipe = s.pipe ∧ (s.sendSet p e bytes).prk = s.prk ∧
    (s.sendSet p e bytes).apq = s.apq ∧ (s.sendSet p e bytes).pnl = s.pnl ∧ (s.sendSet p e bytes).bob = s.bob ∧ (s.sendSet p e bytes).sel = s.sel ∧
    (s.sendSet p e bytes).hl = s.hl ∧ (s.sendSet p e bytes).sec = s.sec ∧ (s.sendSet p e bytes).free = s.free ∧ (s.sendSet p e bytes).pending = s.pending := by
  unfold State.sendSet
  simp

@[simp] theorem State.stageDone_frame (s : State) (here : Bool) :
    (s.stageDone here).now = s.now ∧ (s.stageDone here).boot = s.boot ∧ (s.stageDone here).vin = s.vin ∧ (s.stageDone here).fn = s.fn ∧
    (s.stageDone here).tab = s.tab ∧ (s.stageDone here).thm = s.thm ∧ (s.stageDone here).cmp = s.cmp ∧ (s.stageDone here).nv = s.nv ∧
    (s.stageDone here).pnl = s.pnl ∧ (s.stageDone here).bob = s.bob ∧ (s.stageDone here).sel = s.sel ∧ (s.stageDone here).hl = s.hl ∧
    (s.stageDone here).sec = s.sec ∧ (s.stageDone here).free = s.free ∧ (s.stageDone here).pending = s.pending ∧ (s.stageDone here).mem.cells = s.mem.cells ∧
    (s.stageDone here).mem.hoopFill = s.mem.hoopFill := by
  unfold State.stageDone
  dsimp only
  repeat' split
  all_goals simp

@[simp] theorem State.epochDrop_frame (s : State) (e : Nat) :
    (s.epochDrop e).now = s.now ∧ (s.epochDrop e).boot = s.boot ∧ (s.epochDrop e).vin = s.vin ∧ (s.epochDrop e).eyes = s.eyes ∧ (s.epochDrop e).par = s.par ∧
    (s.epochDrop e).fn = s.fn ∧ (s.epochDrop e).tab = s.tab ∧ (s.epochDrop e).pwr = s.pwr ∧ (s.epochDrop e).thm = s.thm ∧ (s.epochDrop e).mem = s.mem ∧
    (s.epochDrop e).cmp = s.cmp ∧ (s.epochDrop e).nv = s.nv ∧ (s.epochDrop e).ras = s.ras ∧ (s.epochDrop e).pipe = s.pipe ∧ (s.epochDrop e).prk = s.prk ∧
    (s.epochDrop e).apq = s.apq ∧ (s.epochDrop e).pnl = s.pnl ∧ (s.epochDrop e).bob = s.bob ∧ (s.epochDrop e).sel = s.sel ∧ (s.epochDrop e).hl = s.hl ∧
    (s.epochDrop e).sec = s.sec ∧ (s.epochDrop e).free = s.free ∧ (s.epochDrop e).pending = s.pending := by
  unfold State.epochDrop
  simp

@[simp] theorem State.peerGather_frame (s : State) (p : List Byte) :
    (s.peerGather p).now = s.now ∧ (s.peerGather p).boot = s.boot ∧ (s.peerGather p).vin = s.vin ∧ (s.peerGather p).win = s.win ∧
    (s.peerGather p).evq = s.evq ∧ (s.peerGather p).log = s.log ∧ (s.peerGather p).stat = s.stat ∧ (s.peerGather p).eyes = s.eyes ∧
    (s.peerGather p).par = s.par ∧ (s.peerGather p).fn = s.fn ∧ (s.peerGather p).tab = s.tab ∧ (s.peerGather p).pwr = s.pwr ∧ (s.peerGather p).thm = s.thm ∧
    (s.peerGather p).mem = s.mem ∧ (s.peerGather p).cmp = s.cmp ∧ (s.peerGather p).nv = s.nv ∧ (s.peerGather p).ras = s.ras ∧
    (s.peerGather p).pipe = s.pipe ∧ (s.peerGather p).prk = s.prk ∧ (s.peerGather p).apq = s.apq ∧ (s.peerGather p).pnl = s.pnl ∧
    (s.peerGather p).bob = s.bob ∧ (s.peerGather p).sel = s.sel ∧ (s.peerGather p).hl = s.hl ∧ (s.peerGather p).sec = s.sec ∧ (s.peerGather p).tat = s.tat ∧
    (s.peerGather p).free = s.free ∧ (s.peerGather p).pending = s.pending := by
  unfold State.peerGather
  simp

@[simp] theorem State.pairHeard_frame (s : State) :
    s.pairHeard.now = s.now ∧ s.pairHeard.boot = s.boot ∧ s.pairHeard.vin = s.vin ∧ s.pairHeard.box = s.box ∧ s.pairHeard.eyes = s.eyes ∧
    s.pairHeard.par = s.par ∧ s.pairHeard.fn = s.fn ∧ s.pairHeard.tab = s.tab ∧ s.pairHeard.pwr = s.pwr ∧ s.pairHeard.thm = s.thm ∧ s.pairHeard.mem = s.mem ∧
    s.pairHeard.cmp = s.cmp ∧ s.pairHeard.nv = s.nv ∧ s.pairHeard.pipe = s.pipe ∧ s.pairHeard.prk = s.prk ∧ s.pairHeard.apq = s.apq ∧
    s.pairHeard.pnl = s.pnl ∧ s.pairHeard.bob = s.bob ∧ s.pairHeard.sel = s.sel ∧ s.pairHeard.hl = s.hl ∧ s.pairHeard.sec = s.sec ∧
    s.pairHeard.free = s.free ∧ s.pairHeard.pending = s.pending := by
  unfold State.pairHeard
  simp

@[simp] theorem State.pairStart_frame (s : State) (frame : BitVec 32) (t : Int) (d extra rowTime : Nat) (hoopOnly : Bool) :
    (s.pairStart frame t d extra rowTime hoopOnly).now = s.now ∧ (s.pairStart frame t d extra rowTime hoopOnly).boot = s.boot ∧
    (s.pairStart frame t d extra rowTime hoopOnly).vin = s.vin ∧ (s.pairStart frame t d extra rowTime hoopOnly).win = s.win ∧
    (s.pairStart frame t d extra rowTime hoopOnly).box = s.box ∧ (s.pairStart frame t d extra rowTime hoopOnly).evq = s.evq ∧
    (s.pairStart frame t d extra rowTime hoopOnly).log = s.log ∧ (s.pairStart frame t d extra rowTime hoopOnly).stat = s.stat ∧
    (s.pairStart frame t d extra rowTime hoopOnly).eyes = s.eyes ∧ (s.pairStart frame t d extra rowTime hoopOnly).par = s.par ∧
    (s.pairStart frame t d extra rowTime hoopOnly).fn = s.fn ∧ (s.pairStart frame t d extra rowTime hoopOnly).tab = s.tab ∧
    (s.pairStart frame t d extra rowTime hoopOnly).pwr = s.pwr ∧ (s.pairStart frame t d extra rowTime hoopOnly).thm = s.thm ∧
    (s.pairStart frame t d extra rowTime hoopOnly).mem = s.mem ∧ (s.pairStart frame t d extra rowTime hoopOnly).cmp = s.cmp ∧
    (s.pairStart frame t d extra rowTime hoopOnly).nv = s.nv ∧ (s.pairStart frame t d extra rowTime hoopOnly).pipe = s.pipe ∧
    (s.pairStart frame t d extra rowTime hoopOnly).prk = s.prk ∧ (s.pairStart frame t d extra rowTime hoopOnly).apq = s.apq ∧
    (s.pairStart frame t d extra rowTime hoopOnly).pnl = s.pnl ∧ (s.pairStart frame t d extra rowTime hoopOnly).bob = s.bob ∧
    (s.pairStart frame t d extra rowTime hoopOnly).sel = s.sel ∧ (s.pairStart frame t d extra rowTime hoopOnly).hl = s.hl ∧
    (s.pairStart frame t d extra rowTime hoopOnly).sec = s.sec ∧ (s.pairStart frame t d extra rowTime hoopOnly).free = s.free ∧
    (s.pairStart frame t d extra rowTime hoopOnly).pending = s.pending := by
  unfold State.pairStart
  simp

@[simp] theorem State.pairMode_frame (s : State) (m : Nat) :
    (s.pairMode m).now = s.now ∧ (s.pairMode m).boot = s.boot ∧ (s.pairMode m).vin = s.vin ∧ (s.pairMode m).box = s.box ∧ (s.pairMode m).eyes = s.eyes ∧
    (s.pairMode m).par = s.par ∧ (s.pairMode m).fn = s.fn ∧ (s.pairMode m).tab = s.tab ∧ (s.pairMode m).pwr = s.pwr ∧ (s.pairMode m).thm = s.thm ∧
    (s.pairMode m).mem = s.mem ∧ (s.pairMode m).cmp = s.cmp ∧ (s.pairMode m).nv = s.nv ∧ (s.pairMode m).pipe = s.pipe ∧ (s.pairMode m).prk = s.prk ∧
    (s.pairMode m).apq = s.apq ∧ (s.pairMode m).pnl = s.pnl ∧ (s.pairMode m).bob = s.bob ∧ (s.pairMode m).sel = s.sel ∧ (s.pairMode m).hl = s.hl ∧
    (s.pairMode m).sec = s.sec ∧ (s.pairMode m).tat = s.tat ∧ (s.pairMode m).pending = s.pending := by
  unfold State.pairMode
  dsimp only
  repeat' split
  all_goals simp

@[simp] theorem State.pairScale_frame (s : State) (mode rowTime : Nat) :
    (s.pairScale mode rowTime).now = s.now ∧ (s.pairScale mode rowTime).boot = s.boot ∧ (s.pairScale mode rowTime).vin = s.vin ∧
    (s.pairScale mode rowTime).win = s.win ∧ (s.pairScale mode rowTime).box = s.box ∧ (s.pairScale mode rowTime).evq = s.evq ∧
    (s.pairScale mode rowTime).log = s.log ∧ (s.pairScale mode rowTime).stat = s.stat ∧ (s.pairScale mode rowTime).eyes = s.eyes ∧
    (s.pairScale mode rowTime).par = s.par ∧ (s.pairScale mode rowTime).fn = s.fn ∧ (s.pairScale mode rowTime).tab = s.tab ∧
    (s.pairScale mode rowTime).pwr = s.pwr ∧ (s.pairScale mode rowTime).mem = s.mem ∧ (s.pairScale mode rowTime).cmp = s.cmp ∧
    (s.pairScale mode rowTime).nv = s.nv ∧ (s.pairScale mode rowTime).ras = s.ras ∧ (s.pairScale mode rowTime).pipe = s.pipe ∧
    (s.pairScale mode rowTime).prk = s.prk ∧ (s.pairScale mode rowTime).apq = s.apq ∧ (s.pairScale mode rowTime).pnl = s.pnl ∧
    (s.pairScale mode rowTime).bob = s.bob ∧ (s.pairScale mode rowTime).sel = s.sel ∧ (s.pairScale mode rowTime).hl = s.hl ∧
    (s.pairScale mode rowTime).sec = s.sec ∧ (s.pairScale mode rowTime).tat = s.tat ∧ (s.pairScale mode rowTime).free = s.free ∧
    (s.pairScale mode rowTime).pending = s.pending := by
  unfold State.pairScale
  simp

@[simp] theorem State.repeatRows_frame (s : State) (row : Nat) :
    (s.repeatRows row).now = s.now ∧ (s.repeatRows row).boot = s.boot ∧ (s.repeatRows row).vin = s.vin ∧ (s.repeatRows row).win = s.win ∧
    (s.repeatRows row).box = s.box ∧ (s.repeatRows row).evq = s.evq ∧ (s.repeatRows row).log = s.log ∧ (s.repeatRows row).stat = s.stat ∧
    (s.repeatRows row).eyes = s.eyes ∧ (s.repeatRows row).par = s.par ∧ (s.repeatRows row).fn = s.fn ∧ (s.repeatRows row).tab = s.tab ∧
    (s.repeatRows row).pwr = s.pwr ∧ (s.repeatRows row).thm = s.thm ∧ (s.repeatRows row).cmp = s.cmp ∧ (s.repeatRows row).nv = s.nv ∧
    (s.repeatRows row).pipe = s.pipe ∧ (s.repeatRows row).prk = s.prk ∧ (s.repeatRows row).apq = s.apq ∧ (s.repeatRows row).pnl = s.pnl ∧
    (s.repeatRows row).bob = s.bob ∧ (s.repeatRows row).sel = s.sel ∧ (s.repeatRows row).hl = s.hl ∧ (s.repeatRows row).sec = s.sec ∧
    (s.repeatRows row).tat = s.tat ∧ (s.repeatRows row).free = s.free ∧ (s.repeatRows row).pending = s.pending ∧ (s.repeatRows row).mem.cells = s.mem.cells ∧
    (s.repeatRows row).mem.hoopFill = s.mem.hoopFill := by
  unfold State.repeatRows
  repeat' split
  all_goals simp

@[simp] theorem State.pairActs_frame (s : State) (kind row : Nat) :
    (s.pairActs kind row).now = s.now ∧ (s.pairActs kind row).boot = s.boot ∧ (s.pairActs kind row).vin = s.vin ∧ (s.pairActs kind row).win = s.win ∧
    (s.pairActs kind row).box = s.box ∧ (s.pairActs kind row).evq = s.evq ∧ (s.pairActs kind row).log = s.log ∧ (s.pairActs kind row).eyes = s.eyes ∧
    (s.pairActs kind row).par = s.par ∧ (s.pairActs kind row).fn = s.fn ∧ (s.pairActs kind row).tab = s.tab ∧ (s.pairActs kind row).pwr = s.pwr ∧
    (s.pairActs kind row).thm = s.thm ∧ (s.pairActs kind row).cmp = s.cmp ∧ (s.pairActs kind row).nv = s.nv ∧ (s.pairActs kind row).pipe = s.pipe ∧
    (s.pairActs kind row).prk = s.prk ∧ (s.pairActs kind row).apq = s.apq ∧ (s.pairActs kind row).pnl = s.pnl ∧ (s.pairActs kind row).bob = s.bob ∧
    (s.pairActs kind row).sel = s.sel ∧ (s.pairActs kind row).hl = s.hl ∧ (s.pairActs kind row).sec = s.sec ∧ (s.pairActs kind row).tat = s.tat ∧
    (s.pairActs kind row).free = s.free ∧ (s.pairActs kind row).pending = s.pending ∧ (s.pairActs kind row).mem.cells = s.mem.cells ∧
    (s.pairActs kind row).mem.hoopFill = s.mem.hoopFill := by
  unfold State.pairActs
  dsimp only
  repeat' split
  all_goals simp

@[simp] theorem State.kind5_frame (s : State) (at4 : Bool) :
    (s.kind5 at4).now = s.now ∧ (s.kind5 at4).boot = s.boot ∧ (s.kind5 at4).vin = s.vin ∧ (s.kind5 at4).win = s.win ∧ (s.kind5 at4).box = s.box ∧
    (s.kind5 at4).evq = s.evq ∧ (s.kind5 at4).log = s.log ∧ (s.kind5 at4).stat = s.stat ∧ (s.kind5 at4).eyes = s.eyes ∧ (s.kind5 at4).par = s.par ∧
    (s.kind5 at4).fn = s.fn ∧ (s.kind5 at4).tab = s.tab ∧ (s.kind5 at4).pwr = s.pwr ∧ (s.kind5 at4).thm = s.thm ∧ (s.kind5 at4).mem = s.mem ∧
    (s.kind5 at4).cmp = s.cmp ∧ (s.kind5 at4).nv = s.nv ∧ (s.kind5 at4).ras = s.ras ∧ (s.kind5 at4).pipe = s.pipe ∧ (s.kind5 at4).prk = s.prk ∧
    (s.kind5 at4).apq = s.apq ∧ (s.kind5 at4).pnl = s.pnl ∧ (s.kind5 at4).bob = s.bob ∧ (s.kind5 at4).sel = s.sel ∧ (s.kind5 at4).hl = s.hl ∧
    (s.kind5 at4).sec = s.sec ∧ (s.kind5 at4).free = s.free ∧ (s.kind5 at4).pending = s.pending := by
  unfold State.kind5
  simp

@[simp] theorem State.crossCheck_frame (s : State) :
    s.crossCheck.now = s.now ∧ s.crossCheck.boot = s.boot ∧ s.crossCheck.vin = s.vin ∧ s.crossCheck.box = s.box ∧ s.crossCheck.eyes = s.eyes ∧
    s.crossCheck.par = s.par ∧ s.crossCheck.fn = s.fn ∧ s.crossCheck.tab = s.tab ∧ s.crossCheck.pwr = s.pwr ∧ s.crossCheck.mem = s.mem ∧
    s.crossCheck.cmp = s.cmp ∧ s.crossCheck.nv = s.nv ∧ s.crossCheck.ras = s.ras ∧ s.crossCheck.pipe = s.pipe ∧ s.crossCheck.prk = s.prk ∧
    s.crossCheck.apq = s.apq ∧ s.crossCheck.pnl = s.pnl ∧ s.crossCheck.bob = s.bob ∧ s.crossCheck.sel = s.sel ∧ s.crossCheck.hl = s.hl ∧
    s.crossCheck.sec = s.sec ∧ s.crossCheck.tat = s.tat ∧ s.crossCheck.free = s.free ∧ s.crossCheck.pending = s.pending := by
  unfold State.crossCheck
  simp

@[simp] theorem State.floorWatch_frame (s : State) :
    s.floorWatch.now = s.now ∧ s.floorWatch.boot = s.boot ∧ s.floorWatch.vin = s.vin ∧ s.floorWatch.win = s.win ∧ s.floorWatch.box = s.box ∧
    s.floorWatch.evq = s.evq ∧ s.floorWatch.eyes = s.eyes ∧ s.floorWatch.par = s.par ∧ s.floorWatch.fn = s.fn ∧ s.floorWatch.tab = s.tab ∧
    s.floorWatch.pwr = s.pwr ∧ s.floorWatch.mem = s.mem ∧ s.floorWatch.cmp = s.cmp ∧ s.floorWatch.nv = s.nv ∧ s.floorWatch.ras = s.ras ∧
    s.floorWatch.pipe = s.pipe ∧ s.floorWatch.prk = s.prk ∧ s.floorWatch.apq = s.apq ∧ s.floorWatch.pnl = s.pnl ∧ s.floorWatch.bob = s.bob ∧
    s.floorWatch.sel = s.sel ∧ s.floorWatch.hl = s.hl ∧ s.floorWatch.sec = s.sec ∧ s.floorWatch.tat = s.tat ∧ s.floorWatch.free = s.free ∧
    s.floorWatch.pending = s.pending := by
  unfold State.floorWatch
  simp

@[simp] theorem State.tcRecord_frame (s : State) :
    s.tcRecord.now = s.now ∧ s.tcRecord.boot = s.boot ∧ s.tcRecord.vin = s.vin ∧ s.tcRecord.win = s.win ∧ s.tcRecord.box = s.box ∧ s.tcRecord.evq = s.evq ∧
    s.tcRecord.log = s.log ∧ s.tcRecord.stat = s.stat ∧ s.tcRecord.eyes = s.eyes ∧ s.tcRecord.par = s.par ∧ s.tcRecord.fn = s.fn ∧ s.tcRecord.tab = s.tab ∧
    s.tcRecord.pwr = s.pwr ∧ s.tcRecord.mem = s.mem ∧ s.tcRecord.cmp = s.cmp ∧ s.tcRecord.nv = s.nv ∧ s.tcRecord.ras = s.ras ∧ s.tcRecord.pipe = s.pipe ∧
    s.tcRecord.prk = s.prk ∧ s.tcRecord.apq = s.apq ∧ s.tcRecord.pnl = s.pnl ∧ s.tcRecord.bob = s.bob ∧ s.tcRecord.sel = s.sel ∧ s.tcRecord.hl = s.hl ∧
    s.tcRecord.sec = s.sec ∧ s.tcRecord.tat = s.tat ∧ s.tcRecord.free = s.free ∧ s.tcRecord.pending = s.pending := by
  unfold State.tcRecord
  simp

@[simp] theorem State.riseUpdate_frame (s : State) :
    s.riseUpdate.now = s.now ∧ s.riseUpdate.boot = s.boot ∧ s.riseUpdate.vin = s.vin ∧ s.riseUpdate.win = s.win ∧ s.riseUpdate.box = s.box ∧
    s.riseUpdate.evq = s.evq ∧ s.riseUpdate.log = s.log ∧ s.riseUpdate.stat = s.stat ∧ s.riseUpdate.eyes = s.eyes ∧ s.riseUpdate.par = s.par ∧
    s.riseUpdate.fn = s.fn ∧ s.riseUpdate.tab = s.tab ∧ s.riseUpdate.pwr = s.pwr ∧ s.riseUpdate.mem = s.mem ∧ s.riseUpdate.cmp = s.cmp ∧
    s.riseUpdate.nv = s.nv ∧ s.riseUpdate.ras = s.ras ∧ s.riseUpdate.pipe = s.pipe ∧ s.riseUpdate.prk = s.prk ∧ s.riseUpdate.apq = s.apq ∧
    s.riseUpdate.pnl = s.pnl ∧ s.riseUpdate.bob = s.bob ∧ s.riseUpdate.sel = s.sel ∧ s.riseUpdate.hl = s.hl ∧ s.riseUpdate.sec = s.sec ∧
    s.riseUpdate.tat = s.tat ∧ s.riseUpdate.free = s.free ∧ s.riseUpdate.pending = s.pending := by
  unfold State.riseUpdate
  repeat' split
  all_goals simp

@[simp] theorem State.thermalRequest_frame (s : State) (cause : Nat) :
    (s.thermalRequest cause).now = s.now ∧ (s.thermalRequest cause).boot = s.boot ∧ (s.thermalRequest cause).vin = s.vin ∧
    (s.thermalRequest cause).box = s.box ∧ (s.thermalRequest cause).eyes = s.eyes ∧ (s.thermalRequest cause).par = s.par ∧
    (s.thermalRequest cause).fn = s.fn ∧ (s.thermalRequest cause).tab = s.tab ∧ (s.thermalRequest cause).pwr = s.pwr ∧ (s.thermalRequest cause).mem = s.mem ∧
    (s.thermalRequest cause).cmp = s.cmp ∧ (s.thermalRequest cause).nv = s.nv ∧ (s.thermalRequest cause).ras = s.ras ∧
    (s.thermalRequest cause).pipe = s.pipe ∧ (s.thermalRequest cause).prk = s.prk ∧ (s.thermalRequest cause).apq = s.apq ∧
    (s.thermalRequest cause).pnl = s.pnl ∧ (s.thermalRequest cause).bob = s.bob ∧ (s.thermalRequest cause).sel = s.sel ∧ (s.thermalRequest cause).hl = s.hl ∧
    (s.thermalRequest cause).sec = s.sec ∧ (s.thermalRequest cause).tat = s.tat ∧ (s.thermalRequest cause).free = s.free ∧
    (s.thermalRequest cause).pending = s.pending := by
  unfold State.thermalRequest
  simp

@[simp] theorem State.stepTo_frame (s : State) (new cause : Nat) :
    (s.stepTo new cause).now = s.now ∧ (s.stepTo new cause).boot = s.boot ∧ (s.stepTo new cause).vin = s.vin ∧ (s.stepTo new cause).box = s.box ∧
    (s.stepTo new cause).eyes = s.eyes ∧ (s.stepTo new cause).par = s.par ∧ (s.stepTo new cause).fn = s.fn ∧ (s.stepTo new cause).tab = s.tab ∧
    (s.stepTo new cause).pwr = s.pwr ∧ (s.stepTo new cause).mem = s.mem ∧ (s.stepTo new cause).cmp = s.cmp ∧ (s.stepTo new cause).nv = s.nv ∧
    (s.stepTo new cause).pipe = s.pipe ∧ (s.stepTo new cause).prk = s.prk ∧ (s.stepTo new cause).apq = s.apq ∧ (s.stepTo new cause).pnl = s.pnl ∧
    (s.stepTo new cause).bob = s.bob ∧ (s.stepTo new cause).sel = s.sel ∧ (s.stepTo new cause).hl = s.hl ∧ (s.stepTo new cause).sec = s.sec ∧
    (s.stepTo new cause).pending = s.pending := by
  unfold State.stepTo
  dsimp only
  repeat' split
  all_goals simp

@[simp] theorem State.stepUp_frame (s : State) (rise : Bool) :
    (s.stepUp rise).now = s.now ∧ (s.stepUp rise).boot = s.boot ∧ (s.stepUp rise).vin = s.vin ∧ (s.stepUp rise).box = s.box ∧ (s.stepUp rise).eyes = s.eyes ∧
    (s.stepUp rise).par = s.par ∧ (s.stepUp rise).fn = s.fn ∧ (s.stepUp rise).tab = s.tab ∧ (s.stepUp rise).pwr = s.pwr ∧ (s.stepUp rise).mem = s.mem ∧
    (s.stepUp rise).cmp = s.cmp ∧ (s.stepUp rise).nv = s.nv ∧ (s.stepUp rise).pipe = s.pipe ∧ (s.stepUp rise).prk = s.prk ∧ (s.stepUp rise).apq = s.apq ∧
    (s.stepUp rise).pnl = s.pnl ∧ (s.stepUp rise).bob = s.bob ∧ (s.stepUp rise).sel = s.sel ∧ (s.stepUp rise).hl = s.hl ∧ (s.stepUp rise).sec = s.sec ∧
    (s.stepUp rise).pending = s.pending := by
  unfold State.stepUp
  simp

@[simp] theorem State.throttle_frame (s : State) :
    s.throttle.now = s.now ∧ s.throttle.vin = s.vin ∧ s.throttle.pending = s.pending ∧ s.throttle.nv.nor = s.nv.nor ∧ s.throttle.nv.nand = s.nv.nand := by
  unfold State.throttle
  dsimp only
  repeat' split
  all_goals simp

@[simp] theorem State.shutdownWatch_frame (s : State) :
    s.shutdownWatch.now = s.now ∧ s.shutdownWatch.vin = s.vin ∧ s.shutdownWatch.pending = s.pending ∧ s.shutdownWatch.nv.nor = s.nv.nor ∧
    s.shutdownWatch.nv.nand = s.nv.nand := by
  unfold State.shutdownWatch
  repeat' split
  all_goals simp

@[simp] theorem State.limpAtCheck_frame (s : State) (why : Nat) :
    (s.limpAtCheck why).now = s.now ∧ (s.limpAtCheck why).vin = s.vin ∧ (s.limpAtCheck why).box = s.box ∧ (s.limpAtCheck why).evq = s.evq ∧
    (s.limpAtCheck why).eyes = s.eyes ∧ (s.limpAtCheck why).par = s.par ∧ (s.limpAtCheck why).fn = s.fn ∧ (s.limpAtCheck why).tab = s.tab ∧
    (s.limpAtCheck why).thm = s.thm ∧ (s.limpAtCheck why).mem = s.mem ∧ (s.limpAtCheck why).cmp = s.cmp ∧ (s.limpAtCheck why).nv = s.nv ∧
    (s.limpAtCheck why).ras = s.ras ∧ (s.limpAtCheck why).pipe = s.pipe ∧ (s.limpAtCheck why).prk = s.prk ∧ (s.limpAtCheck why).apq = s.apq ∧
    (s.limpAtCheck why).pnl = s.pnl ∧ (s.limpAtCheck why).bob = s.bob ∧ (s.limpAtCheck why).sel = s.sel ∧ (s.limpAtCheck why).hl = s.hl ∧
    (s.limpAtCheck why).sec = s.sec ∧ (s.limpAtCheck why).tat = s.tat ∧ (s.limpAtCheck why).free = s.free ∧ (s.limpAtCheck why).pending = s.pending := by
  unfold State.limpAtCheck
  simp

@[simp] theorem State.runSlot_frame (s : State) (slot : Bool) :
    (s.runSlot slot).now = s.now ∧ (s.runSlot slot).vin = s.vin ∧ (s.runSlot slot).box = s.box ∧ (s.runSlot slot).evq = s.evq ∧
    (s.runSlot slot).log = s.log ∧ (s.runSlot slot).stat = s.stat ∧ (s.runSlot slot).eyes = s.eyes ∧ (s.runSlot slot).par = s.par ∧
    (s.runSlot slot).fn = s.fn ∧ (s.runSlot slot).tab = s.tab ∧ (s.runSlot slot).thm = s.thm ∧ (s.runSlot slot).mem = s.mem ∧ (s.runSlot slot).cmp = s.cmp ∧
    (s.runSlot slot).ras = s.ras ∧ (s.runSlot slot).pipe = s.pipe ∧ (s.runSlot slot).prk = s.prk ∧ (s.runSlot slot).apq = s.apq ∧
    (s.runSlot slot).pnl = s.pnl ∧ (s.runSlot slot).bob = s.bob ∧ (s.runSlot slot).sel = s.sel ∧ (s.runSlot slot).hl = s.hl ∧ (s.runSlot slot).sec = s.sec ∧
    (s.runSlot slot).tat = s.tat ∧ (s.runSlot slot).free = s.free ∧ (s.runSlot slot).pending = s.pending ∧ (s.runSlot slot).nv.nor = s.nv.nor ∧
    (s.runSlot slot).nv.nand = s.nv.nand := by
  unfold State.runSlot
  simp

@[simp] theorem State.slotResult_frame (s : State) (slot : Bool) (r : SlotResult) :
    (s.slotResult slot r).now = s.now ∧ (s.slotResult slot r).vin = s.vin ∧ (s.slotResult slot r).win = s.win ∧ (s.slotResult slot r).box = s.box ∧
    (s.slotResult slot r).evq = s.evq ∧ (s.slotResult slot r).eyes = s.eyes ∧ (s.slotResult slot r).par = s.par ∧ (s.slotResult slot r).fn = s.fn ∧
    (s.slotResult slot r).tab = s.tab ∧ (s.slotResult slot r).pwr = s.pwr ∧ (s.slotResult slot r).thm = s.thm ∧ (s.slotResult slot r).mem = s.mem ∧
    (s.slotResult slot r).cmp = s.cmp ∧ (s.slotResult slot r).nv = s.nv ∧ (s.slotResult slot r).ras = s.ras ∧ (s.slotResult slot r).pipe = s.pipe ∧
    (s.slotResult slot r).prk = s.prk ∧ (s.slotResult slot r).apq = s.apq ∧ (s.slotResult slot r).pnl = s.pnl ∧ (s.slotResult slot r).bob = s.bob ∧
    (s.slotResult slot r).sel = s.sel ∧ (s.slotResult slot r).hl = s.hl ∧ (s.slotResult slot r).sec = s.sec ∧ (s.slotResult slot r).tat = s.tat ∧
    (s.slotResult slot r).free = s.free ∧ (s.slotResult slot r).pending = s.pending := by
  unfold State.slotResult
  simp

@[simp] theorem State.profileApply_frame (s : State) (vs : List (Nat × Word)) :
    (s.profileApply vs).now = s.now ∧ (s.profileApply vs).boot = s.boot ∧ (s.profileApply vs).vin = s.vin ∧ (s.profileApply vs).box = s.box ∧
    (s.profileApply vs).fn = s.fn ∧ (s.profileApply vs).tab = s.tab ∧ (s.profileApply vs).thm = s.thm ∧ (s.profileApply vs).cmp = s.cmp ∧
    (s.profileApply vs).nv = s.nv ∧ (s.profileApply vs).pnl = s.pnl ∧ (s.profileApply vs).bob = s.bob ∧ (s.profileApply vs).sel = s.sel ∧
    (s.profileApply vs).hl = s.hl ∧ (s.profileApply vs).sec = s.sec ∧ (s.profileApply vs).free = s.free ∧ (s.profileApply vs).pending = s.pending ∧
    (s.profileApply vs).mem.cells = s.mem.cells ∧ (s.profileApply vs).mem.hoopFill = s.mem.hoopFill := by
  unfold State.profileApply
  simp

@[simp] theorem State.bootReached_frame (s : State) (g : Stage) :
    (s.bootReached g).now = s.now ∧ (s.bootReached g).vin = s.vin ∧ (s.bootReached g).box = s.box ∧ (s.bootReached g).eyes = s.eyes ∧
    (s.bootReached g).par = s.par ∧ (s.bootReached g).fn = s.fn ∧ (s.bootReached g).tab = s.tab ∧ (s.bootReached g).pwr = s.pwr ∧
    (s.bootReached g).thm = s.thm ∧ (s.bootReached g).mem = s.mem ∧ (s.bootReached g).cmp = s.cmp ∧ (s.bootReached g).ras = s.ras ∧
    (s.bootReached g).pipe = s.pipe ∧ (s.bootReached g).prk = s.prk ∧ (s.bootReached g).apq = s.apq ∧ (s.bootReached g).pnl = s.pnl ∧
    (s.bootReached g).bob = s.bob ∧ (s.bootReached g).sel = s.sel ∧ (s.bootReached g).hl = s.hl ∧ (s.bootReached g).tat = s.tat ∧
    (s.bootReached g).free = s.free ∧ (s.bootReached g).pending = s.pending ∧ (s.bootReached g).nv.nand = s.nv.nand := by
  unfold State.bootReached
  simp

@[simp] theorem State.boardProfile_frame (s : State) :
    s.boardProfile.now = s.now ∧ s.boardProfile.vin = s.vin ∧ s.boardProfile.box = s.box ∧ s.boardProfile.fn = s.fn ∧ s.boardProfile.tab = s.tab ∧
    s.boardProfile.thm = s.thm ∧ s.boardProfile.cmp = s.cmp ∧ s.boardProfile.free = s.free ∧ s.boardProfile.pending = s.pending ∧
    s.boardProfile.mem.cells = s.mem.cells ∧ s.boardProfile.mem.hoopFill = s.mem.hoopFill ∧ s.boardProfile.nv.nand = s.nv.nand := by
  unfold State.boardProfile
  repeat' split
  all_goals simp

@[simp] theorem State.builtIn_frame (s : State) :
    s.builtIn.now = s.now ∧ s.builtIn.boot = s.boot ∧ s.builtIn.vin = s.vin ∧ s.builtIn.win = s.win ∧ s.builtIn.box = s.box ∧ s.builtIn.evq = s.evq ∧
    s.builtIn.log = s.log ∧ s.builtIn.stat = s.stat ∧ s.builtIn.eyes = s.eyes ∧ s.builtIn.par = s.par ∧ s.builtIn.fn = s.fn ∧ s.builtIn.pwr = s.pwr ∧
    s.builtIn.thm = s.thm ∧ s.builtIn.cmp = s.cmp ∧ s.builtIn.nv = s.nv ∧ s.builtIn.ras = s.ras ∧ s.builtIn.prk = s.prk ∧ s.builtIn.pnl = s.pnl ∧
    s.builtIn.bob = s.bob ∧ s.builtIn.sel = s.sel ∧ s.builtIn.hl = s.hl ∧ s.builtIn.sec = s.sec ∧ s.builtIn.tat = s.tat ∧ s.builtIn.free = s.free ∧
    s.builtIn.pending = s.pending ∧ s.builtIn.mem.hoopFill = s.mem.hoopFill := by
  unfold State.builtIn
  repeat' split
  all_goals simp

@[simp] theorem State.loadFails_frame (s : State) (id w : Nat) :
    (s.loadFails id w).now = s.now ∧ (s.loadFails id w).boot = s.boot ∧ (s.loadFails id w).vin = s.vin ∧ (s.loadFails id w).win = s.win ∧
    (s.loadFails id w).box = s.box ∧ (s.loadFails id w).evq = s.evq ∧ (s.loadFails id w).log = s.log ∧ (s.loadFails id w).stat = s.stat ∧
    (s.loadFails id w).eyes = s.eyes ∧ (s.loadFails id w).par = s.par ∧ (s.loadFails id w).fn = s.fn ∧ (s.loadFails id w).pwr = s.pwr ∧
    (s.loadFails id w).thm = s.thm ∧ (s.loadFails id w).mem = s.mem ∧ (s.loadFails id w).cmp = s.cmp ∧ (s.loadFails id w).nv = s.nv ∧
    (s.loadFails id w).ras = s.ras ∧ (s.loadFails id w).pipe = s.pipe ∧ (s.loadFails id w).prk = s.prk ∧ (s.loadFails id w).apq = s.apq ∧
    (s.loadFails id w).pnl = s.pnl ∧ (s.loadFails id w).bob = s.bob ∧ (s.loadFails id w).sel = s.sel ∧ (s.loadFails id w).hl = s.hl ∧
    (s.loadFails id w).sec = s.sec ∧ (s.loadFails id w).tat = s.tat ∧ (s.loadFails id w).free = s.free ∧ (s.loadFails id w).pending = s.pending := by
  unfold State.loadFails
  simp

@[simp] theorem State.mapFail_frame (s : State) (cause cls inst : Nat) :
    (s.mapFail cause cls inst).now = s.now ∧ (s.mapFail cause cls inst).boot = s.boot ∧ (s.mapFail cause cls inst).vin = s.vin ∧
    (s.mapFail cause cls inst).box = s.box ∧ (s.mapFail cause cls inst).eyes = s.eyes ∧ (s.mapFail cause cls inst).par = s.par ∧
    (s.mapFail cause cls inst).fn = s.fn ∧ (s.mapFail cause cls inst).tab = s.tab ∧ (s.mapFail cause cls inst).pwr = s.pwr ∧
    (s.mapFail cause cls inst).thm = s.thm ∧ (s.mapFail cause cls inst).mem = s.mem ∧ (s.mapFail cause cls inst).cmp = s.cmp ∧
    (s.mapFail cause cls inst).nv = s.nv ∧ (s.mapFail cause cls inst).ras = s.ras ∧ (s.mapFail cause cls inst).pipe = s.pipe ∧
    (s.mapFail cause cls inst).prk = s.prk ∧ (s.mapFail cause cls inst).apq = s.apq ∧ (s.mapFail cause cls inst).pnl = s.pnl ∧
    (s.mapFail cause cls inst).bob = s.bob ∧ (s.mapFail cause cls inst).sel = s.sel ∧ (s.mapFail cause cls inst).hl = s.hl ∧
    (s.mapFail cause cls inst).sec = s.sec ∧ (s.mapFail cause cls inst).tat = s.tat ∧ (s.mapFail cause cls inst).free = s.free ∧
    (s.mapFail cause cls inst).pending = s.pending := by
  unfold State.mapFail
  simp

@[simp] theorem State.snapJobs_frame (s : State) (tried : List Nat) :
    (s.snapJobs tried).now = s.now ∧ (s.snapJobs tried).boot = s.boot ∧ (s.snapJobs tried).vin = s.vin ∧ (s.snapJobs tried).win = s.win ∧
    (s.snapJobs tried).box = s.box ∧ (s.snapJobs tried).evq = s.evq ∧ (s.snapJobs tried).log = s.log ∧ (s.snapJobs tried).eyes = s.eyes ∧
    (s.snapJobs tried).par = s.par ∧ (s.snapJobs tried).fn = s.fn ∧ (s.snapJobs tried).tab = s.tab ∧ (s.snapJobs tried).pwr = s.pwr ∧
    (s.snapJobs tried).thm = s.thm ∧ (s.snapJobs tried).mem = s.mem ∧ (s.snapJobs tried).nv = s.nv ∧ (s.snapJobs tried).ras = s.ras ∧
    (s.snapJobs tried).pipe = s.pipe ∧ (s.snapJobs tried).prk = s.prk ∧ (s.snapJobs tried).apq = s.apq ∧ (s.snapJobs tried).pnl = s.pnl ∧
    (s.snapJobs tried).bob = s.bob ∧ (s.snapJobs tried).sel = s.sel ∧ (s.snapJobs tried).hl = s.hl ∧ (s.snapJobs tried).sec = s.sec ∧
    (s.snapJobs tried).tat = s.tat ∧ (s.snapJobs tried).free = s.free ∧ (s.snapJobs tried).pending = s.pending := by
  unfold State.snapJobs
  simp

@[simp] theorem State.snapChosen_frame (s : State) (c : Option (Nat × List Byte × IndexExtra × Nat) × Bool) :
    (s.snapChosen c).now = s.now ∧ (s.snapChosen c).boot = s.boot ∧ (s.snapChosen c).vin = s.vin ∧ (s.snapChosen c).box = s.box ∧
    (s.snapChosen c).eyes = s.eyes ∧ (s.snapChosen c).par = s.par ∧ (s.snapChosen c).fn = s.fn ∧ (s.snapChosen c).tab = s.tab ∧
    (s.snapChosen c).pwr = s.pwr ∧ (s.snapChosen c).thm = s.thm ∧ (s.snapChosen c).mem = s.mem ∧ (s.snapChosen c).cmp = s.cmp ∧
    (s.snapChosen c).ras = s.ras ∧ (s.snapChosen c).pipe = s.pipe ∧ (s.snapChosen c).prk = s.prk ∧ (s.snapChosen c).apq = s.apq ∧
    (s.snapChosen c).pnl = s.pnl ∧ (s.snapChosen c).bob = s.bob ∧ (s.snapChosen c).sel = s.sel ∧ (s.snapChosen c).hl = s.hl ∧ (s.snapChosen c).sec = s.sec ∧
    (s.snapChosen c).tat = s.tat ∧ (s.snapChosen c).free = s.free ∧ (s.snapChosen c).pending = s.pending ∧ (s.snapChosen c).nv.nor = s.nv.nor ∧
    (s.snapChosen c).nv.nand = s.nv.nand := by
  unfold State.snapChosen
  repeat' split
  all_goals simp

@[simp] theorem State.planeFromSnap_frame (s : State) (i gen : Nat) (data : List Byte) :
    (s.planeFromSnap i gen data).now = s.now ∧ (s.planeFromSnap i gen data).boot = s.boot ∧ (s.planeFromSnap i gen data).vin = s.vin ∧
    (s.planeFromSnap i gen data).win = s.win ∧ (s.planeFromSnap i gen data).box = s.box ∧ (s.planeFromSnap i gen data).evq = s.evq ∧
    (s.planeFromSnap i gen data).log = s.log ∧ (s.planeFromSnap i gen data).stat = s.stat ∧ (s.planeFromSnap i gen data).eyes = s.eyes ∧
    (s.planeFromSnap i gen data).par = s.par ∧ (s.planeFromSnap i gen data).fn = s.fn ∧ (s.planeFromSnap i gen data).pwr = s.pwr ∧
    (s.planeFromSnap i gen data).thm = s.thm ∧ (s.planeFromSnap i gen data).cmp = s.cmp ∧ (s.planeFromSnap i gen data).nv = s.nv ∧
    (s.planeFromSnap i gen data).ras = s.ras ∧ (s.planeFromSnap i gen data).pnl = s.pnl ∧ (s.planeFromSnap i gen data).bob = s.bob ∧
    (s.planeFromSnap i gen data).sel = s.sel ∧ (s.planeFromSnap i gen data).hl = s.hl ∧ (s.planeFromSnap i gen data).sec = s.sec ∧
    (s.planeFromSnap i gen data).tat = s.tat ∧ (s.planeFromSnap i gen data).free = s.free ∧ (s.planeFromSnap i gen data).pending = s.pending ∧
    (s.planeFromSnap i gen data).mem.hoopFill = s.mem.hoopFill := by
  unfold State.planeFromSnap
  simp

@[simp] theorem State.planeFromSlot_frame (s : State) (i : Nat) :
    (s.planeFromSlot i).now = s.now ∧ (s.planeFromSlot i).boot = s.boot ∧ (s.planeFromSlot i).vin = s.vin ∧ (s.planeFromSlot i).box = s.box ∧
    (s.planeFromSlot i).eyes = s.eyes ∧ (s.planeFromSlot i).par = s.par ∧ (s.planeFromSlot i).fn = s.fn ∧ (s.planeFromSlot i).pwr = s.pwr ∧
    (s.planeFromSlot i).thm = s.thm ∧ (s.planeFromSlot i).nv = s.nv ∧ (s.planeFromSlot i).ras = s.ras ∧ (s.planeFromSlot i).pnl = s.pnl ∧
    (s.planeFromSlot i).bob = s.bob ∧ (s.planeFromSlot i).sel = s.sel ∧ (s.planeFromSlot i).hl = s.hl ∧ (s.planeFromSlot i).sec = s.sec ∧
    (s.planeFromSlot i).tat = s.tat ∧ (s.planeFromSlot i).free = s.free ∧ (s.planeFromSlot i).pending = s.pending ∧
    (s.planeFromSlot i).mem.hoopFill = s.mem.hoopFill := by
  unfold State.planeFromSlot
  repeat' split
  all_goals simp

@[simp] theorem State.fieldPlane_frame (s : State) (i : Nat) (c : Option (Nat × List Byte × IndexExtra × Nat)) :
    (s.fieldPlane i c).now = s.now ∧ (s.fieldPlane i c).boot = s.boot ∧ (s.fieldPlane i c).vin = s.vin ∧ (s.fieldPlane i c).box = s.box ∧
    (s.fieldPlane i c).eyes = s.eyes ∧ (s.fieldPlane i c).par = s.par ∧ (s.fieldPlane i c).fn = s.fn ∧ (s.fieldPlane i c).pwr = s.pwr ∧
    (s.fieldPlane i c).thm = s.thm ∧ (s.fieldPlane i c).nv = s.nv ∧ (s.fieldPlane i c).ras = s.ras ∧ (s.fieldPlane i c).pnl = s.pnl ∧
    (s.fieldPlane i c).bob = s.bob ∧ (s.fieldPlane i c).sel = s.sel ∧ (s.fieldPlane i c).hl = s.hl ∧ (s.fieldPlane i c).sec = s.sec ∧
    (s.fieldPlane i c).tat = s.tat ∧ (s.fieldPlane i c).free = s.free ∧ (s.fieldPlane i c).pending = s.pending ∧
    (s.fieldPlane i c).mem.hoopFill = s.mem.hoopFill := by
  unfold State.fieldPlane
  repeat' split
  all_goals simp

@[simp] theorem State.curveLoad_frame (s : State) :
    s.curveLoad.now = s.now ∧ s.curveLoad.boot = s.boot ∧ s.curveLoad.vin = s.vin ∧ s.curveLoad.box = s.box ∧ s.curveLoad.eyes = s.eyes ∧
    s.curveLoad.par = s.par ∧ s.curveLoad.fn = s.fn ∧ s.curveLoad.pwr = s.pwr ∧ s.curveLoad.thm = s.thm ∧ s.curveLoad.nv = s.nv ∧ s.curveLoad.ras = s.ras ∧
    s.curveLoad.pnl = s.pnl ∧ s.curveLoad.bob = s.bob ∧ s.curveLoad.sel = s.sel ∧ s.curveLoad.hl = s.hl ∧ s.curveLoad.sec = s.sec ∧ s.curveLoad.tat = s.tat ∧
    s.curveLoad.free = s.free ∧ s.curveLoad.pending = s.pending ∧ s.curveLoad.mem.hoopFill = s.mem.hoopFill := by
  unfold State.curveLoad
  repeat' split
  all_goals simp

@[simp] theorem State.stressPlane_frame (s : State) (data : List Byte) :
    (s.stressPlane data).now = s.now ∧ (s.stressPlane data).boot = s.boot ∧ (s.stressPlane data).vin = s.vin ∧ (s.stressPlane data).win = s.win ∧
    (s.stressPlane data).box = s.box ∧ (s.stressPlane data).evq = s.evq ∧ (s.stressPlane data).log = s.log ∧ (s.stressPlane data).stat = s.stat ∧
    (s.stressPlane data).eyes = s.eyes ∧ (s.stressPlane data).par = s.par ∧ (s.stressPlane data).fn = s.fn ∧ (s.stressPlane data).tab = s.tab ∧
    (s.stressPlane data).pwr = s.pwr ∧ (s.stressPlane data).thm = s.thm ∧ (s.stressPlane data).cmp = s.cmp ∧ (s.stressPlane data).nv = s.nv ∧
    (s.stressPlane data).ras = s.ras ∧ (s.stressPlane data).pipe = s.pipe ∧ (s.stressPlane data).prk = s.prk ∧ (s.stressPlane data).apq = s.apq ∧
    (s.stressPlane data).pnl = s.pnl ∧ (s.stressPlane data).bob = s.bob ∧ (s.stressPlane data).sel = s.sel ∧ (s.stressPlane data).hl = s.hl ∧
    (s.stressPlane data).sec = s.sec ∧ (s.stressPlane data).tat = s.tat ∧ (s.stressPlane data).free = s.free ∧ (s.stressPlane data).pending = s.pending ∧
    (s.stressPlane data).mem.hoopFill = s.mem.hoopFill := by
  unfold State.stressPlane
  simp

@[simp] theorem State.pfwPut_frame (s : State) (d : Fin 19) :
    (s.pfwPut d).now = s.now ∧ (s.pfwPut d).vin = s.vin ∧ (s.pfwPut d).eyes = s.eyes ∧ (s.pfwPut d).par = s.par ∧ (s.pfwPut d).fn = s.fn ∧
    (s.pfwPut d).thm = s.thm ∧ (s.pfwPut d).cmp = s.cmp ∧ (s.pfwPut d).pnl = s.pnl ∧ (s.pfwPut d).bob = s.bob ∧ (s.pfwPut d).sel = s.sel ∧
    (s.pfwPut d).free = s.free ∧ (s.pfwPut d).pending = s.pending ∧ (s.pfwPut d).nv.nand = s.nv.nand := by
  unfold State.pfwPut
  simp

@[simp] theorem State.portRefused_frame (s : State) :
    s.portRefused.now = s.now ∧ s.portRefused.boot = s.boot ∧ s.portRefused.vin = s.vin ∧ s.portRefused.box = s.box ∧ s.portRefused.evq = s.evq ∧
    s.portRefused.log = s.log ∧ s.portRefused.stat = s.stat ∧ s.portRefused.eyes = s.eyes ∧ s.portRefused.par = s.par ∧ s.portRefused.fn = s.fn ∧
    s.portRefused.tab = s.tab ∧ s.portRefused.pwr = s.pwr ∧ s.portRefused.thm = s.thm ∧ s.portRefused.mem = s.mem ∧ s.portRefused.cmp = s.cmp ∧
    s.portRefused.nv = s.nv ∧ s.portRefused.ras = s.ras ∧ s.portRefused.pipe = s.pipe ∧ s.portRefused.prk = s.prk ∧ s.portRefused.apq = s.apq ∧
    s.portRefused.pnl = s.pnl ∧ s.portRefused.bob = s.bob ∧ s.portRefused.sel = s.sel ∧ s.portRefused.hl = s.hl ∧ s.portRefused.sec = s.sec ∧
    s.portRefused.tat = s.tat ∧ s.portRefused.free = s.free ∧ s.portRefused.pending = s.pending := by
  unfold State.portRefused
  simp

@[simp] theorem State.timeLatch_frame (s : State) (p : Port) :
    (s.timeLatch p).now = s.now ∧ (s.timeLatch p).boot = s.boot ∧ (s.timeLatch p).vin = s.vin ∧ (s.timeLatch p).box = s.box ∧ (s.timeLatch p).evq = s.evq ∧
    (s.timeLatch p).log = s.log ∧ (s.timeLatch p).stat = s.stat ∧ (s.timeLatch p).eyes = s.eyes ∧ (s.timeLatch p).par = s.par ∧ (s.timeLatch p).fn = s.fn ∧
    (s.timeLatch p).tab = s.tab ∧ (s.timeLatch p).pwr = s.pwr ∧ (s.timeLatch p).thm = s.thm ∧ (s.timeLatch p).mem = s.mem ∧ (s.timeLatch p).cmp = s.cmp ∧
    (s.timeLatch p).nv = s.nv ∧ (s.timeLatch p).ras = s.ras ∧ (s.timeLatch p).pipe = s.pipe ∧ (s.timeLatch p).prk = s.prk ∧ (s.timeLatch p).apq = s.apq ∧
    (s.timeLatch p).pnl = s.pnl ∧ (s.timeLatch p).bob = s.bob ∧ (s.timeLatch p).sel = s.sel ∧ (s.timeLatch p).hl = s.hl ∧ (s.timeLatch p).sec = s.sec ∧
    (s.timeLatch p).tat = s.tat ∧ (s.timeLatch p).free = s.free ∧ (s.timeLatch p).pending = s.pending := by
  unfold State.timeLatch
  repeat' split
  all_goals simp

@[simp] theorem State.readWord_frame (s : State) (p : Port) (a : Nat) :
    (s.readWord p a).2.now = s.now ∧ (s.readWord p a).2.boot = s.boot ∧ (s.readWord p a).2.vin = s.vin ∧ (s.readWord p a).2.box = s.box ∧
    (s.readWord p a).2.evq = s.evq ∧ (s.readWord p a).2.log = s.log ∧ (s.readWord p a).2.stat = s.stat ∧ (s.readWord p a).2.eyes = s.eyes ∧
    (s.readWord p a).2.par = s.par ∧ (s.readWord p a).2.fn = s.fn ∧ (s.readWord p a).2.tab = s.tab ∧ (s.readWord p a).2.pwr = s.pwr ∧
    (s.readWord p a).2.thm = s.thm ∧ (s.readWord p a).2.mem = s.mem ∧ (s.readWord p a).2.cmp = s.cmp ∧ (s.readWord p a).2.nv = s.nv ∧
    (s.readWord p a).2.ras = s.ras ∧ (s.readWord p a).2.pipe = s.pipe ∧ (s.readWord p a).2.prk = s.prk ∧ (s.readWord p a).2.apq = s.apq ∧
    (s.readWord p a).2.pnl = s.pnl ∧ (s.readWord p a).2.bob = s.bob ∧ (s.readWord p a).2.sel = s.sel ∧ (s.readWord p a).2.hl = s.hl ∧
    (s.readWord p a).2.sec = s.sec ∧ (s.readWord p a).2.tat = s.tat ∧ (s.readWord p a).2.free = s.free ∧ (s.readWord p a).2.pending = s.pending := by
  unfold State.readWord
  repeat' split
  all_goals simp

@[simp] theorem State.faultWrite_frame (s : State) (data : Word) :
    (s.faultWrite data).now = s.now ∧ (s.faultWrite data).vin = s.vin ∧ (s.faultWrite data).win = s.win ∧ (s.faultWrite data).box = s.box ∧
    (s.faultWrite data).evq = s.evq ∧ (s.faultWrite data).log = s.log ∧ (s.faultWrite data).stat = s.stat ∧ (s.faultWrite data).eyes = s.eyes ∧
    (s.faultWrite data).par = s.par ∧ (s.faultWrite data).fn = s.fn ∧ (s.faultWrite data).tab = s.tab ∧ (s.faultWrite data).pwr = s.pwr ∧
    (s.faultWrite data).thm = s.thm ∧ (s.faultWrite data).mem = s.mem ∧ (s.faultWrite data).cmp = s.cmp ∧ (s.faultWrite data).nv = s.nv ∧
    (s.faultWrite data).ras = s.ras ∧ (s.faultWrite data).pipe = s.pipe ∧ (s.faultWrite data).prk = s.prk ∧ (s.faultWrite data).apq = s.apq ∧
    (s.faultWrite data).pnl = s.pnl ∧ (s.faultWrite data).bob = s.bob ∧ (s.faultWrite data).sel = s.sel ∧ (s.faultWrite data).hl = s.hl ∧
    (s.faultWrite data).sec = s.sec ∧ (s.faultWrite data).tat = s.tat ∧ (s.faultWrite data).free = s.free ∧ (s.faultWrite data).pending = s.pending := by
  unfold State.faultWrite
  simp

@[simp] theorem State.irqWrite_frame (s : State) (data : Word) :
    (s.irqWrite data).now = s.now ∧ (s.irqWrite data).boot = s.boot ∧ (s.irqWrite data).vin = s.vin ∧ (s.irqWrite data).box = s.box ∧
    (s.irqWrite data).evq = s.evq ∧ (s.irqWrite data).log = s.log ∧ (s.irqWrite data).stat = s.stat ∧ (s.irqWrite data).eyes = s.eyes ∧
    (s.irqWrite data).par = s.par ∧ (s.irqWrite data).fn = s.fn ∧ (s.irqWrite data).tab = s.tab ∧ (s.irqWrite data).pwr = s.pwr ∧
    (s.irqWrite data).thm = s.thm ∧ (s.irqWrite data).mem = s.mem ∧ (s.irqWrite data).cmp = s.cmp ∧ (s.irqWrite data).nv = s.nv ∧
    (s.irqWrite data).ras = s.ras ∧ (s.irqWrite data).pipe = s.pipe ∧ (s.irqWrite data).prk = s.prk ∧ (s.irqWrite data).apq = s.apq ∧
    (s.irqWrite data).pnl = s.pnl ∧ (s.irqWrite data).bob = s.bob ∧ (s.irqWrite data).sel = s.sel ∧ (s.irqWrite data).hl = s.hl ∧
    (s.irqWrite data).sec = s.sec ∧ (s.irqWrite data).tat = s.tat ∧ (s.irqWrite data).free = s.free ∧ (s.irqWrite data).pending = s.pending := by
  unfold State.irqWrite
  simp

@[simp] theorem State.wakeWrite_frame (s : State) (data : Word) :
    (s.wakeWrite data).now = s.now ∧ (s.wakeWrite data).boot = s.boot ∧ (s.wakeWrite data).vin = s.vin ∧ (s.wakeWrite data).box = s.box ∧
    (s.wakeWrite data).evq = s.evq ∧ (s.wakeWrite data).log = s.log ∧ (s.wakeWrite data).stat = s.stat ∧ (s.wakeWrite data).eyes = s.eyes ∧
    (s.wakeWrite data).par = s.par ∧ (s.wakeWrite data).fn = s.fn ∧ (s.wakeWrite data).tab = s.tab ∧ (s.wakeWrite data).pwr = s.pwr ∧
    (s.wakeWrite data).thm = s.thm ∧ (s.wakeWrite data).mem = s.mem ∧ (s.wakeWrite data).cmp = s.cmp ∧ (s.wakeWrite data).nv = s.nv ∧
    (s.wakeWrite data).ras = s.ras ∧ (s.wakeWrite data).pipe = s.pipe ∧ (s.wakeWrite data).prk = s.prk ∧ (s.wakeWrite data).apq = s.apq ∧
    (s.wakeWrite data).pnl = s.pnl ∧ (s.wakeWrite data).bob = s.bob ∧ (s.wakeWrite data).sel = s.sel ∧ (s.wakeWrite data).hl = s.hl ∧
    (s.wakeWrite data).sec = s.sec ∧ (s.wakeWrite data).tat = s.tat ∧ (s.wakeWrite data).free = s.free ∧ (s.wakeWrite data).pending = s.pending := by
  unfold State.wakeWrite
  simp

@[simp] theorem State.portErrorsWrite_frame (s : State) :
    s.portErrorsWrite.now = s.now ∧ s.portErrorsWrite.boot = s.boot ∧ s.portErrorsWrite.vin = s.vin ∧ s.portErrorsWrite.box = s.box ∧
    s.portErrorsWrite.evq = s.evq ∧ s.portErrorsWrite.log = s.log ∧ s.portErrorsWrite.stat = s.stat ∧ s.portErrorsWrite.eyes = s.eyes ∧
    s.portErrorsWrite.par = s.par ∧ s.portErrorsWrite.fn = s.fn ∧ s.portErrorsWrite.tab = s.tab ∧ s.portErrorsWrite.pwr = s.pwr ∧
    s.portErrorsWrite.thm = s.thm ∧ s.portErrorsWrite.mem = s.mem ∧ s.portErrorsWrite.cmp = s.cmp ∧ s.portErrorsWrite.nv = s.nv ∧
    s.portErrorsWrite.ras = s.ras ∧ s.portErrorsWrite.pipe = s.pipe ∧ s.portErrorsWrite.prk = s.prk ∧ s.portErrorsWrite.apq = s.apq ∧
    s.portErrorsWrite.pnl = s.pnl ∧ s.portErrorsWrite.bob = s.bob ∧ s.portErrorsWrite.sel = s.sel ∧ s.portErrorsWrite.hl = s.hl ∧
    s.portErrorsWrite.sec = s.sec ∧ s.portErrorsWrite.tat = s.tat ∧ s.portErrorsWrite.free = s.free ∧ s.portErrorsWrite.pending = s.pending := by
  unfold State.portErrorsWrite
  simp

@[simp] theorem State.doorbell_frame (s : State) (i : Mb) (data : Word) :
    (s.doorbell i data).now = s.now ∧ (s.doorbell i data).boot = s.boot ∧ (s.doorbell i data).vin = s.vin ∧ (s.doorbell i data).evq = s.evq ∧
    (s.doorbell i data).log = s.log ∧ (s.doorbell i data).stat = s.stat ∧ (s.doorbell i data).eyes = s.eyes ∧ (s.doorbell i data).par = s.par ∧
    (s.doorbell i data).fn = s.fn ∧ (s.doorbell i data).tab = s.tab ∧ (s.doorbell i data).pwr = s.pwr ∧ (s.doorbell i data).thm = s.thm ∧
    (s.doorbell i data).mem = s.mem ∧ (s.doorbell i data).cmp = s.cmp ∧ (s.doorbell i data).nv = s.nv ∧ (s.doorbell i data).ras = s.ras ∧
    (s.doorbell i data).pipe = s.pipe ∧ (s.doorbell i data).prk = s.prk ∧ (s.doorbell i data).apq = s.apq ∧ (s.doorbell i data).pnl = s.pnl ∧
    (s.doorbell i data).bob = s.bob ∧ (s.doorbell i data).sel = s.sel ∧ (s.doorbell i data).hl = s.hl ∧ (s.doorbell i data).sec = s.sec ∧
    (s.doorbell i data).tat = s.tat ∧ (s.doorbell i data).free = s.free ∧ (s.doorbell i data).pending = s.pending := by
  unfold State.doorbell
  repeat' split
  all_goals simp

@[simp] theorem State.releaseWrite_frame (s : State) (i : Mb) (data : Word) :
    (s.releaseWrite i data).now = s.now ∧ (s.releaseWrite i data).boot = s.boot ∧ (s.releaseWrite i data).vin = s.vin ∧ (s.releaseWrite i data).win = s.win ∧
    (s.releaseWrite i data).evq = s.evq ∧ (s.releaseWrite i data).log = s.log ∧ (s.releaseWrite i data).stat = s.stat ∧
    (s.releaseWrite i data).eyes = s.eyes ∧ (s.releaseWrite i data).par = s.par ∧ (s.releaseWrite i data).fn = s.fn ∧ (s.releaseWrite i data).tab = s.tab ∧
    (s.releaseWrite i data).thm = s.thm ∧ (s.releaseWrite i data).mem = s.mem ∧ (s.releaseWrite i data).cmp = s.cmp ∧ (s.releaseWrite i data).nv = s.nv ∧
    (s.releaseWrite i data).ras = s.ras ∧ (s.releaseWrite i data).pipe = s.pipe ∧ (s.releaseWrite i data).prk = s.prk ∧ (s.releaseWrite i data).apq = s.apq ∧
    (s.releaseWrite i data).pnl = s.pnl ∧ (s.releaseWrite i data).bob = s.bob ∧ (s.releaseWrite i data).sel = s.sel ∧ (s.releaseWrite i data).hl = s.hl ∧
    (s.releaseWrite i data).sec = s.sec ∧ (s.releaseWrite i data).tat = s.tat ∧ (s.releaseWrite i data).free = s.free ∧
    (s.releaseWrite i data).pending = s.pending := by
  unfold State.releaseWrite
  simp

@[simp] theorem State.bufferWrite_frame (s : State) (i : Mb) (o : Nat) (data : Word) :
    (s.bufferWrite i o data).now = s.now ∧ (s.bufferWrite i o data).boot = s.boot ∧ (s.bufferWrite i o data).vin = s.vin ∧
    (s.bufferWrite i o data).evq = s.evq ∧ (s.bufferWrite i o data).log = s.log ∧ (s.bufferWrite i o data).stat = s.stat ∧
    (s.bufferWrite i o data).eyes = s.eyes ∧ (s.bufferWrite i o data).par = s.par ∧ (s.bufferWrite i o data).fn = s.fn ∧
    (s.bufferWrite i o data).tab = s.tab ∧ (s.bufferWrite i o data).pwr = s.pwr ∧ (s.bufferWrite i o data).thm = s.thm ∧
    (s.bufferWrite i o data).mem = s.mem ∧ (s.bufferWrite i o data).cmp = s.cmp ∧ (s.bufferWrite i o data).nv = s.nv ∧ (s.bufferWrite i o data).ras = s.ras ∧
    (s.bufferWrite i o data).pipe = s.pipe ∧ (s.bufferWrite i o data).prk = s.prk ∧ (s.bufferWrite i o data).apq = s.apq ∧
    (s.bufferWrite i o data).pnl = s.pnl ∧ (s.bufferWrite i o data).bob = s.bob ∧ (s.bufferWrite i o data).sel = s.sel ∧ (s.bufferWrite i o data).hl = s.hl ∧
    (s.bufferWrite i o data).sec = s.sec ∧ (s.bufferWrite i o data).tat = s.tat ∧ (s.bufferWrite i o data).free = s.free ∧
    (s.bufferWrite i o data).pending = s.pending := by
  unfold State.bufferWrite
  simp

@[simp] theorem State.regWrite_frame (s : State) (o : Nat) (data : Word) :
    (s.regWrite o data).now = s.now ∧ (s.regWrite o data).vin = s.vin ∧ (s.regWrite o data).evq = s.evq ∧ (s.regWrite o data).log = s.log ∧
    (s.regWrite o data).stat = s.stat ∧ (s.regWrite o data).eyes = s.eyes ∧ (s.regWrite o data).par = s.par ∧ (s.regWrite o data).fn = s.fn ∧
    (s.regWrite o data).tab = s.tab ∧ (s.regWrite o data).thm = s.thm ∧ (s.regWrite o data).mem = s.mem ∧ (s.regWrite o data).cmp = s.cmp ∧
    (s.regWrite o data).nv = s.nv ∧ (s.regWrite o data).ras = s.ras ∧ (s.regWrite o data).pipe = s.pipe ∧ (s.regWrite o data).prk = s.prk ∧
    (s.regWrite o data).apq = s.apq ∧ (s.regWrite o data).pnl = s.pnl ∧ (s.regWrite o data).bob = s.bob ∧ (s.regWrite o data).sel = s.sel ∧
    (s.regWrite o data).hl = s.hl ∧ (s.regWrite o data).sec = s.sec ∧ (s.regWrite o data).tat = s.tat ∧ (s.regWrite o data).free = s.free ∧
    (s.regWrite o data).pending = s.pending := by
  unfold State.regWrite
  repeat' split
  all_goals simp

@[simp] theorem State.ctlDriven_frame (s : State) (p : Port) :
    (s.ctlDriven p).now = s.now ∧ (s.ctlDriven p).boot = s.boot ∧ (s.ctlDriven p).vin = s.vin ∧ (s.ctlDriven p).box = s.box ∧ (s.ctlDriven p).evq = s.evq ∧
    (s.ctlDriven p).log = s.log ∧ (s.ctlDriven p).stat = s.stat ∧ (s.ctlDriven p).eyes = s.eyes ∧ (s.ctlDriven p).par = s.par ∧ (s.ctlDriven p).fn = s.fn ∧
    (s.ctlDriven p).tab = s.tab ∧ (s.ctlDriven p).pwr = s.pwr ∧ (s.ctlDriven p).thm = s.thm ∧ (s.ctlDriven p).mem = s.mem ∧ (s.ctlDriven p).cmp = s.cmp ∧
    (s.ctlDriven p).nv = s.nv ∧ (s.ctlDriven p).ras = s.ras ∧ (s.ctlDriven p).pipe = s.pipe ∧ (s.ctlDriven p).prk = s.prk ∧ (s.ctlDriven p).apq = s.apq ∧
    (s.ctlDriven p).pnl = s.pnl ∧ (s.ctlDriven p).bob = s.bob ∧ (s.ctlDriven p).sel = s.sel ∧ (s.ctlDriven p).hl = s.hl ∧ (s.ctlDriven p).sec = s.sec ∧
    (s.ctlDriven p).tat = s.tat ∧ (s.ctlDriven p).free = s.free ∧ (s.ctlDriven p).pending = s.pending := by
  unfold State.ctlDriven
  simp

@[simp] theorem State.badOpcode_frame (s : State) :
    s.badOpcode.now = s.now ∧ s.badOpcode.boot = s.boot ∧ s.badOpcode.vin = s.vin ∧ s.badOpcode.box = s.box ∧ s.badOpcode.evq = s.evq ∧
    s.badOpcode.log = s.log ∧ s.badOpcode.stat = s.stat ∧ s.badOpcode.eyes = s.eyes ∧ s.badOpcode.par = s.par ∧ s.badOpcode.fn = s.fn ∧
    s.badOpcode.tab = s.tab ∧ s.badOpcode.pwr = s.pwr ∧ s.badOpcode.thm = s.thm ∧ s.badOpcode.mem = s.mem ∧ s.badOpcode.cmp = s.cmp ∧ s.badOpcode.nv = s.nv ∧
    s.badOpcode.ras = s.ras ∧ s.badOpcode.pipe = s.pipe ∧ s.badOpcode.prk = s.prk ∧ s.badOpcode.apq = s.apq ∧ s.badOpcode.pnl = s.pnl ∧
    s.badOpcode.bob = s.bob ∧ s.badOpcode.sel = s.sel ∧ s.badOpcode.hl = s.hl ∧ s.badOpcode.sec = s.sec ∧ s.badOpcode.tat = s.tat ∧
    s.badOpcode.free = s.free ∧ s.badOpcode.pending = s.pending := by
  unfold State.badOpcode
  simp

@[simp] theorem State.readFree_frame (s : State) :
    s.readFree.2.now = s.now ∧ s.readFree.2.boot = s.boot ∧ s.readFree.2.vin = s.vin ∧ s.readFree.2.win = s.win ∧ s.readFree.2.box = s.box ∧
    s.readFree.2.evq = s.evq ∧ s.readFree.2.log = s.log ∧ s.readFree.2.stat = s.stat ∧ s.readFree.2.eyes = s.eyes ∧ s.readFree.2.par = s.par ∧
    s.readFree.2.fn = s.fn ∧ s.readFree.2.tab = s.tab ∧ s.readFree.2.pwr = s.pwr ∧ s.readFree.2.thm = s.thm ∧ s.readFree.2.mem = s.mem ∧
    s.readFree.2.cmp = s.cmp ∧ s.readFree.2.nv = s.nv ∧ s.readFree.2.ras = s.ras ∧ s.readFree.2.pipe = s.pipe ∧ s.readFree.2.prk = s.prk ∧
    s.readFree.2.apq = s.apq ∧ s.readFree.2.pnl = s.pnl ∧ s.readFree.2.bob = s.bob ∧ s.readFree.2.sel = s.sel ∧ s.readFree.2.hl = s.hl ∧
    s.readFree.2.sec = s.sec ∧ s.readFree.2.tat = s.tat ∧ s.readFree.2.pending = s.pending := by
  unfold State.readFree
  simp

@[simp] theorem State.readOpt_frame (s : State) (id : Nat) (v : Option Nat) :
    (s.readOpt id v).2.now = s.now ∧ (s.readOpt id v).2.boot = s.boot ∧ (s.readOpt id v).2.vin = s.vin ∧ (s.readOpt id v).2.win = s.win ∧
    (s.readOpt id v).2.box = s.box ∧ (s.readOpt id v).2.evq = s.evq ∧ (s.readOpt id v).2.log = s.log ∧ (s.readOpt id v).2.stat = s.stat ∧
    (s.readOpt id v).2.eyes = s.eyes ∧ (s.readOpt id v).2.par = s.par ∧ (s.readOpt id v).2.fn = s.fn ∧ (s.readOpt id v).2.tab = s.tab ∧
    (s.readOpt id v).2.pwr = s.pwr ∧ (s.readOpt id v).2.thm = s.thm ∧ (s.readOpt id v).2.mem = s.mem ∧ (s.readOpt id v).2.cmp = s.cmp ∧
    (s.readOpt id v).2.nv = s.nv ∧ (s.readOpt id v).2.ras = s.ras ∧ (s.readOpt id v).2.pipe = s.pipe ∧ (s.readOpt id v).2.prk = s.prk ∧
    (s.readOpt id v).2.apq = s.apq ∧ (s.readOpt id v).2.pnl = s.pnl ∧ (s.readOpt id v).2.bob = s.bob ∧ (s.readOpt id v).2.sel = s.sel ∧
    (s.readOpt id v).2.hl = s.hl ∧ (s.readOpt id v).2.sec = s.sec ∧ (s.readOpt id v).2.tat = s.tat ∧ (s.readOpt id v).2.free = s.free ∧
    (s.readOpt id v).2.pending = s.pending := by
  unfold State.readOpt
  repeat' split
  all_goals simp

@[simp] theorem State.readClk_frame (s : State) (k : Nat) :
    (s.readClk k).2.now = s.now ∧ (s.readClk k).2.boot = s.boot ∧ (s.readClk k).2.vin = s.vin ∧ (s.readClk k).2.win = s.win ∧ (s.readClk k).2.box = s.box ∧
    (s.readClk k).2.evq = s.evq ∧ (s.readClk k).2.log = s.log ∧ (s.readClk k).2.stat = s.stat ∧ (s.readClk k).2.eyes = s.eyes ∧ (s.readClk k).2.par = s.par ∧
    (s.readClk k).2.fn = s.fn ∧ (s.readClk k).2.tab = s.tab ∧ (s.readClk k).2.pwr = s.pwr ∧ (s.readClk k).2.thm = s.thm ∧ (s.readClk k).2.mem = s.mem ∧
    (s.readClk k).2.cmp = s.cmp ∧ (s.readClk k).2.nv = s.nv ∧ (s.readClk k).2.ras = s.ras ∧ (s.readClk k).2.pipe = s.pipe ∧ (s.readClk k).2.prk = s.prk ∧
    (s.readClk k).2.apq = s.apq ∧ (s.readClk k).2.pnl = s.pnl ∧ (s.readClk k).2.bob = s.bob ∧ (s.readClk k).2.sel = s.sel ∧ (s.readClk k).2.hl = s.hl ∧
    (s.readClk k).2.sec = s.sec ∧ (s.readClk k).2.tat = s.tat ∧ (s.readClk k).2.free = s.free ∧ (s.readClk k).2.pending = s.pending := by
  unfold State.readClk
  repeat' split
  all_goals simp

@[simp] theorem State.readResidency_frame (s : State) (mb k : Nat) :
    (s.readResidency mb k).2.now = s.now ∧ (s.readResidency mb k).2.boot = s.boot ∧ (s.readResidency mb k).2.vin = s.vin ∧
    (s.readResidency mb k).2.win = s.win ∧ (s.readResidency mb k).2.box = s.box ∧ (s.readResidency mb k).2.evq = s.evq ∧
    (s.readResidency mb k).2.log = s.log ∧ (s.readResidency mb k).2.stat = s.stat ∧ (s.readResidency mb k).2.eyes = s.eyes ∧
    (s.readResidency mb k).2.par = s.par ∧ (s.readResidency mb k).2.fn = s.fn ∧ (s.readResidency mb k).2.tab = s.tab ∧ (s.readResidency mb k).2.thm = s.thm ∧
    (s.readResidency mb k).2.mem = s.mem ∧ (s.readResidency mb k).2.cmp = s.cmp ∧ (s.readResidency mb k).2.nv = s.nv ∧ (s.readResidency mb k).2.ras = s.ras ∧
    (s.readResidency mb k).2.pipe = s.pipe ∧ (s.readResidency mb k).2.prk = s.prk ∧ (s.readResidency mb k).2.apq = s.apq ∧
    (s.readResidency mb k).2.pnl = s.pnl ∧ (s.readResidency mb k).2.bob = s.bob ∧ (s.readResidency mb k).2.sel = s.sel ∧ (s.readResidency mb k).2.hl = s.hl ∧
    (s.readResidency mb k).2.sec = s.sec ∧ (s.readResidency mb k).2.tat = s.tat ∧ (s.readResidency mb k).2.free = s.free ∧
    (s.readResidency mb k).2.pending = s.pending := by
  unfold State.readResidency
  repeat' split
  all_goals simp

@[simp] theorem State.readPwr_frame (s : State) (mb k : Nat) :
    (s.readPwr mb k).2.now = s.now ∧ (s.readPwr mb k).2.boot = s.boot ∧ (s.readPwr mb k).2.vin = s.vin ∧ (s.readPwr mb k).2.win = s.win ∧
    (s.readPwr mb k).2.box = s.box ∧ (s.readPwr mb k).2.evq = s.evq ∧ (s.readPwr mb k).2.log = s.log ∧ (s.readPwr mb k).2.stat = s.stat ∧
    (s.readPwr mb k).2.eyes = s.eyes ∧ (s.readPwr mb k).2.par = s.par ∧ (s.readPwr mb k).2.fn = s.fn ∧ (s.readPwr mb k).2.tab = s.tab ∧
    (s.readPwr mb k).2.thm = s.thm ∧ (s.readPwr mb k).2.mem = s.mem ∧ (s.readPwr mb k).2.cmp = s.cmp ∧ (s.readPwr mb k).2.nv = s.nv ∧
    (s.readPwr mb k).2.ras = s.ras ∧ (s.readPwr mb k).2.pipe = s.pipe ∧ (s.readPwr mb k).2.prk = s.prk ∧ (s.readPwr mb k).2.apq = s.apq ∧
    (s.readPwr mb k).2.pnl = s.pnl ∧ (s.readPwr mb k).2.bob = s.bob ∧ (s.readPwr mb k).2.sel = s.sel ∧ (s.readPwr mb k).2.hl = s.hl ∧
    (s.readPwr mb k).2.sec = s.sec ∧ (s.readPwr mb k).2.tat = s.tat ∧ (s.readPwr mb k).2.free = s.free ∧ (s.readPwr mb k).2.pending = s.pending := by
  unfold State.readPwr
  repeat' split
  all_goals simp

@[simp] theorem State.readThm_frame (s : State) (k : Nat) :
    (s.readThm k).2.now = s.now ∧ (s.readThm k).2.boot = s.boot ∧ (s.readThm k).2.vin = s.vin ∧ (s.readThm k).2.win = s.win ∧ (s.readThm k).2.box = s.box ∧
    (s.readThm k).2.evq = s.evq ∧ (s.readThm k).2.log = s.log ∧ (s.readThm k).2.stat = s.stat ∧ (s.readThm k).2.eyes = s.eyes ∧ (s.readThm k).2.par = s.par ∧
    (s.readThm k).2.fn = s.fn ∧ (s.readThm k).2.tab = s.tab ∧ (s.readThm k).2.pwr = s.pwr ∧ (s.readThm k).2.thm = s.thm ∧ (s.readThm k).2.mem = s.mem ∧
    (s.readThm k).2.cmp = s.cmp ∧ (s.readThm k).2.nv = s.nv ∧ (s.readThm k).2.ras = s.ras ∧ (s.readThm k).2.pipe = s.pipe ∧ (s.readThm k).2.prk = s.prk ∧
    (s.readThm k).2.apq = s.apq ∧ (s.readThm k).2.pnl = s.pnl ∧ (s.readThm k).2.bob = s.bob ∧ (s.readThm k).2.sel = s.sel ∧ (s.readThm k).2.hl = s.hl ∧
    (s.readThm k).2.sec = s.sec ∧ (s.readThm k).2.tat = s.tat ∧ (s.readThm k).2.free = s.free ∧ (s.readThm k).2.pending = s.pending := by
  unfold State.readThm
  repeat' split
  all_goals simp

@[simp] theorem State.readSmp_frame (s : State) (k : Nat) :
    (s.readSmp k).2.now = s.now ∧ (s.readSmp k).2.boot = s.boot ∧ (s.readSmp k).2.vin = s.vin ∧ (s.readSmp k).2.win = s.win ∧ (s.readSmp k).2.box = s.box ∧
    (s.readSmp k).2.evq = s.evq ∧ (s.readSmp k).2.log = s.log ∧ (s.readSmp k).2.stat = s.stat ∧ (s.readSmp k).2.eyes = s.eyes ∧ (s.readSmp k).2.par = s.par ∧
    (s.readSmp k).2.fn = s.fn ∧ (s.readSmp k).2.tab = s.tab ∧ (s.readSmp k).2.pwr = s.pwr ∧ (s.readSmp k).2.thm = s.thm ∧ (s.readSmp k).2.mem = s.mem ∧
    (s.readSmp k).2.cmp = s.cmp ∧ (s.readSmp k).2.nv = s.nv ∧ (s.readSmp k).2.ras = s.ras ∧ (s.readSmp k).2.pipe = s.pipe ∧ (s.readSmp k).2.prk = s.prk ∧
    (s.readSmp k).2.apq = s.apq ∧ (s.readSmp k).2.pnl = s.pnl ∧ (s.readSmp k).2.bob = s.bob ∧ (s.readSmp k).2.sel = s.sel ∧ (s.readSmp k).2.hl = s.hl ∧
    (s.readSmp k).2.sec = s.sec ∧ (s.readSmp k).2.tat = s.tat ∧ (s.readSmp k).2.free = s.free ∧ (s.readSmp k).2.pending = s.pending := by
  unfold State.readSmp
  repeat' split
  all_goals simp

@[simp] theorem State.readCmp_frame (s : State) (k : Nat) :
    (s.readCmp k).2.now = s.now ∧ (s.readCmp k).2.boot = s.boot ∧ (s.readCmp k).2.vin = s.vin ∧ (s.readCmp k).2.win = s.win ∧ (s.readCmp k).2.box = s.box ∧
    (s.readCmp k).2.evq = s.evq ∧ (s.readCmp k).2.log = s.log ∧ (s.readCmp k).2.stat = s.stat ∧ (s.readCmp k).2.eyes = s.eyes ∧ (s.readCmp k).2.par = s.par ∧
    (s.readCmp k).2.fn = s.fn ∧ (s.readCmp k).2.tab = s.tab ∧ (s.readCmp k).2.pwr = s.pwr ∧ (s.readCmp k).2.thm = s.thm ∧ (s.readCmp k).2.mem = s.mem ∧
    (s.readCmp k).2.cmp = s.cmp ∧ (s.readCmp k).2.nv = s.nv ∧ (s.readCmp k).2.ras = s.ras ∧ (s.readCmp k).2.pipe = s.pipe ∧ (s.readCmp k).2.prk = s.prk ∧
    (s.readCmp k).2.apq = s.apq ∧ (s.readCmp k).2.pnl = s.pnl ∧ (s.readCmp k).2.bob = s.bob ∧ (s.readCmp k).2.sel = s.sel ∧ (s.readCmp k).2.hl = s.hl ∧
    (s.readCmp k).2.sec = s.sec ∧ (s.readCmp k).2.tat = s.tat ∧ (s.readCmp k).2.free = s.free ∧ (s.readCmp k).2.pending = s.pending := by
  unfold State.readCmp
  repeat' split
  all_goals simp

@[simp] theorem State.readHl_frame (s : State) (k : Nat) :
    (s.readHl k).2.now = s.now ∧ (s.readHl k).2.boot = s.boot ∧ (s.readHl k).2.vin = s.vin ∧ (s.readHl k).2.win = s.win ∧ (s.readHl k).2.box = s.box ∧
    (s.readHl k).2.evq = s.evq ∧ (s.readHl k).2.log = s.log ∧ (s.readHl k).2.stat = s.stat ∧ (s.readHl k).2.eyes = s.eyes ∧ (s.readHl k).2.par = s.par ∧
    (s.readHl k).2.fn = s.fn ∧ (s.readHl k).2.tab = s.tab ∧ (s.readHl k).2.pwr = s.pwr ∧ (s.readHl k).2.thm = s.thm ∧ (s.readHl k).2.mem = s.mem ∧
    (s.readHl k).2.cmp = s.cmp ∧ (s.readHl k).2.nv = s.nv ∧ (s.readHl k).2.ras = s.ras ∧ (s.readHl k).2.pipe = s.pipe ∧ (s.readHl k).2.prk = s.prk ∧
    (s.readHl k).2.apq = s.apq ∧ (s.readHl k).2.pnl = s.pnl ∧ (s.readHl k).2.bob = s.bob ∧ (s.readHl k).2.sel = s.sel ∧ (s.readHl k).2.hl = s.hl ∧
    (s.readHl k).2.sec = s.sec ∧ (s.readHl k).2.tat = s.tat ∧ (s.readHl k).2.free = s.free ∧ (s.readHl k).2.pending = s.pending := by
  unfold State.readHl
  repeat' split
  all_goals simp

@[simp] theorem State.readTim_frame (s : State) (k : Nat) :
    (s.readTim k).2.now = s.now ∧ (s.readTim k).2.boot = s.boot ∧ (s.readTim k).2.vin = s.vin ∧ (s.readTim k).2.win = s.win ∧ (s.readTim k).2.box = s.box ∧
    (s.readTim k).2.evq = s.evq ∧ (s.readTim k).2.log = s.log ∧ (s.readTim k).2.stat = s.stat ∧ (s.readTim k).2.eyes = s.eyes ∧ (s.readTim k).2.par = s.par ∧
    (s.readTim k).2.fn = s.fn ∧ (s.readTim k).2.tab = s.tab ∧ (s.readTim k).2.pwr = s.pwr ∧ (s.readTim k).2.thm = s.thm ∧ (s.readTim k).2.mem = s.mem ∧
    (s.readTim k).2.cmp = s.cmp ∧ (s.readTim k).2.nv = s.nv ∧ (s.readTim k).2.ras = s.ras ∧ (s.readTim k).2.pipe = s.pipe ∧ (s.readTim k).2.prk = s.prk ∧
    (s.readTim k).2.apq = s.apq ∧ (s.readTim k).2.pnl = s.pnl ∧ (s.readTim k).2.bob = s.bob ∧ (s.readTim k).2.sel = s.sel ∧ (s.readTim k).2.hl = s.hl ∧
    (s.readTim k).2.sec = s.sec ∧ (s.readTim k).2.tat = s.tat ∧ (s.readTim k).2.free = s.free ∧ (s.readTim k).2.pending = s.pending := by
  unfold State.readTim
  repeat' split
  all_goals simp

@[simp] theorem State.readMem_frame (s : State) (k : Nat) :
    (s.readMem k).2.now = s.now ∧ (s.readMem k).2.boot = s.boot ∧ (s.readMem k).2.vin = s.vin ∧ (s.readMem k).2.win = s.win ∧ (s.readMem k).2.box = s.box ∧
    (s.readMem k).2.evq = s.evq ∧ (s.readMem k).2.log = s.log ∧ (s.readMem k).2.stat = s.stat ∧ (s.readMem k).2.eyes = s.eyes ∧ (s.readMem k).2.par = s.par ∧
    (s.readMem k).2.fn = s.fn ∧ (s.readMem k).2.tab = s.tab ∧ (s.readMem k).2.pwr = s.pwr ∧ (s.readMem k).2.thm = s.thm ∧ (s.readMem k).2.mem = s.mem ∧
    (s.readMem k).2.cmp = s.cmp ∧ (s.readMem k).2.nv = s.nv ∧ (s.readMem k).2.ras = s.ras ∧ (s.readMem k).2.pipe = s.pipe ∧ (s.readMem k).2.prk = s.prk ∧
    (s.readMem k).2.apq = s.apq ∧ (s.readMem k).2.pnl = s.pnl ∧ (s.readMem k).2.bob = s.bob ∧ (s.readMem k).2.sel = s.sel ∧ (s.readMem k).2.hl = s.hl ∧
    (s.readMem k).2.sec = s.sec ∧ (s.readMem k).2.tat = s.tat ∧ (s.readMem k).2.free = s.free ∧ (s.readMem k).2.pending = s.pending := by
  unfold State.readMem
  repeat' split
  all_goals simp

@[simp] theorem State.readApq_frame (s : State) (k : Nat) :
    (s.readApq k).2.now = s.now ∧ (s.readApq k).2.boot = s.boot ∧ (s.readApq k).2.vin = s.vin ∧ (s.readApq k).2.win = s.win ∧ (s.readApq k).2.box = s.box ∧
    (s.readApq k).2.evq = s.evq ∧ (s.readApq k).2.log = s.log ∧ (s.readApq k).2.stat = s.stat ∧ (s.readApq k).2.eyes = s.eyes ∧ (s.readApq k).2.par = s.par ∧
    (s.readApq k).2.fn = s.fn ∧ (s.readApq k).2.tab = s.tab ∧ (s.readApq k).2.pwr = s.pwr ∧ (s.readApq k).2.thm = s.thm ∧ (s.readApq k).2.mem = s.mem ∧
    (s.readApq k).2.cmp = s.cmp ∧ (s.readApq k).2.nv = s.nv ∧ (s.readApq k).2.ras = s.ras ∧ (s.readApq k).2.pipe = s.pipe ∧ (s.readApq k).2.prk = s.prk ∧
    (s.readApq k).2.apq = s.apq ∧ (s.readApq k).2.pnl = s.pnl ∧ (s.readApq k).2.bob = s.bob ∧ (s.readApq k).2.sel = s.sel ∧ (s.readApq k).2.hl = s.hl ∧
    (s.readApq k).2.sec = s.sec ∧ (s.readApq k).2.tat = s.tat ∧ (s.readApq k).2.free = s.free ∧ (s.readApq k).2.pending = s.pending := by
  unfold State.readApq
  repeat' split
  all_goals simp

@[simp] theorem State.readPrk_frame (s : State) (k : Nat) :
    (s.readPrk k).2.now = s.now ∧ (s.readPrk k).2.boot = s.boot ∧ (s.readPrk k).2.vin = s.vin ∧ (s.readPrk k).2.win = s.win ∧ (s.readPrk k).2.box = s.box ∧
    (s.readPrk k).2.evq = s.evq ∧ (s.readPrk k).2.log = s.log ∧ (s.readPrk k).2.stat = s.stat ∧ (s.readPrk k).2.eyes = s.eyes ∧ (s.readPrk k).2.par = s.par ∧
    (s.readPrk k).2.fn = s.fn ∧ (s.readPrk k).2.tab = s.tab ∧ (s.readPrk k).2.pwr = s.pwr ∧ (s.readPrk k).2.thm = s.thm ∧ (s.readPrk k).2.mem = s.mem ∧
    (s.readPrk k).2.cmp = s.cmp ∧ (s.readPrk k).2.nv = s.nv ∧ (s.readPrk k).2.ras = s.ras ∧ (s.readPrk k).2.pipe = s.pipe ∧ (s.readPrk k).2.prk = s.prk ∧
    (s.readPrk k).2.apq = s.apq ∧ (s.readPrk k).2.pnl = s.pnl ∧ (s.readPrk k).2.bob = s.bob ∧ (s.readPrk k).2.sel = s.sel ∧ (s.readPrk k).2.hl = s.hl ∧
    (s.readPrk k).2.sec = s.sec ∧ (s.readPrk k).2.tat = s.tat ∧ (s.readPrk k).2.free = s.free ∧ (s.readPrk k).2.pending = s.pending := by
  unfold State.readPrk
  repeat' split
  all_goals simp

@[simp] theorem State.readOd_frame (s : State) (id : Nat) :
    (s.readOd id).2.now = s.now ∧ (s.readOd id).2.boot = s.boot ∧ (s.readOd id).2.vin = s.vin ∧ (s.readOd id).2.win = s.win ∧ (s.readOd id).2.box = s.box ∧
    (s.readOd id).2.evq = s.evq ∧ (s.readOd id).2.log = s.log ∧ (s.readOd id).2.stat = s.stat ∧ (s.readOd id).2.eyes = s.eyes ∧ (s.readOd id).2.par = s.par ∧
    (s.readOd id).2.fn = s.fn ∧ (s.readOd id).2.tab = s.tab ∧ (s.readOd id).2.pwr = s.pwr ∧ (s.readOd id).2.thm = s.thm ∧ (s.readOd id).2.mem = s.mem ∧
    (s.readOd id).2.cmp = s.cmp ∧ (s.readOd id).2.nv = s.nv ∧ (s.readOd id).2.ras = s.ras ∧ (s.readOd id).2.pipe = s.pipe ∧ (s.readOd id).2.prk = s.prk ∧
    (s.readOd id).2.apq = s.apq ∧ (s.readOd id).2.pnl = s.pnl ∧ (s.readOd id).2.bob = s.bob ∧ (s.readOd id).2.sel = s.sel ∧ (s.readOd id).2.hl = s.hl ∧
    (s.readOd id).2.sec = s.sec ∧ (s.readOd id).2.tat = s.tat ∧ (s.readOd id).2.free = s.free ∧ (s.readOd id).2.pending = s.pending := by
  unfold State.readOd
  repeat' split
  all_goals simp

@[simp] theorem State.outState_frame (s : State) :
    s.outState.2.now = s.now ∧ s.outState.2.boot = s.boot ∧ s.outState.2.vin = s.vin ∧ s.outState.2.win = s.win ∧ s.outState.2.box = s.box ∧
    s.outState.2.evq = s.evq ∧ s.outState.2.log = s.log ∧ s.outState.2.stat = s.stat ∧ s.outState.2.eyes = s.eyes ∧ s.outState.2.par = s.par ∧
    s.outState.2.fn = s.fn ∧ s.outState.2.tab = s.tab ∧ s.outState.2.pwr = s.pwr ∧ s.outState.2.thm = s.thm ∧ s.outState.2.mem = s.mem ∧
    s.outState.2.cmp = s.cmp ∧ s.outState.2.nv = s.nv ∧ s.outState.2.ras = s.ras ∧ s.outState.2.pipe = s.pipe ∧ s.outState.2.prk = s.prk ∧
    s.outState.2.apq = s.apq ∧ s.outState.2.pnl = s.pnl ∧ s.outState.2.bob = s.bob ∧ s.outState.2.hl = s.hl ∧ s.outState.2.sec = s.sec ∧
    s.outState.2.tat = s.tat ∧ s.outState.2.pending = s.pending := by
  unfold State.outState
  simp

@[simp] theorem State.readEye_frame (s : State) (id : Nat) :
    (s.readEye id).2.now = s.now ∧ (s.readEye id).2.boot = s.boot ∧ (s.readEye id).2.vin = s.vin ∧ (s.readEye id).2.win = s.win ∧
    (s.readEye id).2.box = s.box ∧ (s.readEye id).2.evq = s.evq ∧ (s.readEye id).2.log = s.log ∧ (s.readEye id).2.stat = s.stat ∧
    (s.readEye id).2.eyes = s.eyes ∧ (s.readEye id).2.par = s.par ∧ (s.readEye id).2.fn = s.fn ∧ (s.readEye id).2.tab = s.tab ∧
    (s.readEye id).2.pwr = s.pwr ∧ (s.readEye id).2.thm = s.thm ∧ (s.readEye id).2.mem = s.mem ∧ (s.readEye id).2.cmp = s.cmp ∧ (s.readEye id).2.nv = s.nv ∧
    (s.readEye id).2.ras = s.ras ∧ (s.readEye id).2.pipe = s.pipe ∧ (s.readEye id).2.prk = s.prk ∧ (s.readEye id).2.apq = s.apq ∧
    (s.readEye id).2.pnl = s.pnl ∧ (s.readEye id).2.bob = s.bob ∧ (s.readEye id).2.sel = s.sel ∧ (s.readEye id).2.hl = s.hl ∧ (s.readEye id).2.sec = s.sec ∧
    (s.readEye id).2.tat = s.tat ∧ (s.readEye id).2.free = s.free ∧ (s.readEye id).2.pending = s.pending := by
  unfold State.readEye
  repeat' split
  all_goals simp

@[simp] theorem State.readTat_frame (s : State) (k : Nat) :
    (s.readTat k).2.now = s.now ∧ (s.readTat k).2.boot = s.boot ∧ (s.readTat k).2.vin = s.vin ∧ (s.readTat k).2.win = s.win ∧ (s.readTat k).2.box = s.box ∧
    (s.readTat k).2.evq = s.evq ∧ (s.readTat k).2.log = s.log ∧ (s.readTat k).2.stat = s.stat ∧ (s.readTat k).2.eyes = s.eyes ∧ (s.readTat k).2.par = s.par ∧
    (s.readTat k).2.fn = s.fn ∧ (s.readTat k).2.tab = s.tab ∧ (s.readTat k).2.pwr = s.pwr ∧ (s.readTat k).2.thm = s.thm ∧ (s.readTat k).2.mem = s.mem ∧
    (s.readTat k).2.cmp = s.cmp ∧ (s.readTat k).2.nv = s.nv ∧ (s.readTat k).2.ras = s.ras ∧ (s.readTat k).2.pipe = s.pipe ∧ (s.readTat k).2.prk = s.prk ∧
    (s.readTat k).2.apq = s.apq ∧ (s.readTat k).2.pnl = s.pnl ∧ (s.readTat k).2.bob = s.bob ∧ (s.readTat k).2.sel = s.sel ∧ (s.readTat k).2.hl = s.hl ∧
    (s.readTat k).2.sec = s.sec ∧ (s.readTat k).2.tat = s.tat ∧ (s.readTat k).2.free = s.free ∧ (s.readTat k).2.pending = s.pending := by
  unfold State.readTat
  repeat' split
  all_goals simp

@[simp] theorem State.readK_frame (s : State) (mb id : Nat) :
    (s.readK mb id).2.now = s.now ∧ (s.readK mb id).2.boot = s.boot ∧ (s.readK mb id).2.vin = s.vin ∧ (s.readK mb id).2.win = s.win ∧
    (s.readK mb id).2.box = s.box ∧ (s.readK mb id).2.evq = s.evq ∧ (s.readK mb id).2.log = s.log ∧ (s.readK mb id).2.stat = s.stat ∧
    (s.readK mb id).2.eyes = s.eyes ∧ (s.readK mb id).2.par = s.par ∧ (s.readK mb id).2.fn = s.fn ∧ (s.readK mb id).2.tab = s.tab ∧
    (s.readK mb id).2.thm = s.thm ∧ (s.readK mb id).2.mem = s.mem ∧ (s.readK mb id).2.cmp = s.cmp ∧ (s.readK mb id).2.nv = s.nv ∧
    (s.readK mb id).2.ras = s.ras ∧ (s.readK mb id).2.pipe = s.pipe ∧ (s.readK mb id).2.prk = s.prk ∧ (s.readK mb id).2.apq = s.apq ∧
    (s.readK mb id).2.pnl = s.pnl ∧ (s.readK mb id).2.bob = s.bob ∧ (s.readK mb id).2.hl = s.hl ∧ (s.readK mb id).2.sec = s.sec ∧
    (s.readK mb id).2.tat = s.tat ∧ (s.readK mb id).2.pending = s.pending := by
  unfold State.readK
  repeat' split
  all_goals simp

@[simp] theorem State.readActive_frame (s : State) (mb id : Nat) :
    (s.readActive mb id).2.now = s.now ∧ (s.readActive mb id).2.boot = s.boot ∧ (s.readActive mb id).2.vin = s.vin ∧ (s.readActive mb id).2.win = s.win ∧
    (s.readActive mb id).2.box = s.box ∧ (s.readActive mb id).2.evq = s.evq ∧ (s.readActive mb id).2.log = s.log ∧ (s.readActive mb id).2.stat = s.stat ∧
    (s.readActive mb id).2.eyes = s.eyes ∧ (s.readActive mb id).2.par = s.par ∧ (s.readActive mb id).2.fn = s.fn ∧ (s.readActive mb id).2.tab = s.tab ∧
    (s.readActive mb id).2.thm = s.thm ∧ (s.readActive mb id).2.mem = s.mem ∧ (s.readActive mb id).2.cmp = s.cmp ∧ (s.readActive mb id).2.nv = s.nv ∧
    (s.readActive mb id).2.ras = s.ras ∧ (s.readActive mb id).2.pipe = s.pipe ∧ (s.readActive mb id).2.prk = s.prk ∧ (s.readActive mb id).2.apq = s.apq ∧
    (s.readActive mb id).2.pnl = s.pnl ∧ (s.readActive mb id).2.bob = s.bob ∧ (s.readActive mb id).2.hl = s.hl ∧ (s.readActive mb id).2.sec = s.sec ∧
    (s.readActive mb id).2.tat = s.tat ∧ (s.readActive mb id).2.pending = s.pending := by
  unfold State.readActive
  repeat' split
  all_goals simp

@[simp] theorem State.readParam_frame (s : State) (mb id shadow : Nat) :
    (s.readParam mb id shadow).2.now = s.now ∧ (s.readParam mb id shadow).2.boot = s.boot ∧ (s.readParam mb id shadow).2.vin = s.vin ∧
    (s.readParam mb id shadow).2.win = s.win ∧ (s.readParam mb id shadow).2.box = s.box ∧ (s.readParam mb id shadow).2.evq = s.evq ∧
    (s.readParam mb id shadow).2.log = s.log ∧ (s.readParam mb id shadow).2.stat = s.stat ∧ (s.readParam mb id shadow).2.eyes = s.eyes ∧
    (s.readParam mb id shadow).2.par = s.par ∧ (s.readParam mb id shadow).2.fn = s.fn ∧ (s.readParam mb id shadow).2.tab = s.tab ∧
    (s.readParam mb id shadow).2.thm = s.thm ∧ (s.readParam mb id shadow).2.mem = s.mem ∧ (s.readParam mb id shadow).2.cmp = s.cmp ∧
    (s.readParam mb id shadow).2.nv = s.nv ∧ (s.readParam mb id shadow).2.ras = s.ras ∧ (s.readParam mb id shadow).2.pipe = s.pipe ∧
    (s.readParam mb id shadow).2.prk = s.prk ∧ (s.readParam mb id shadow).2.apq = s.apq ∧ (s.readParam mb id shadow).2.pnl = s.pnl ∧
    (s.readParam mb id shadow).2.bob = s.bob ∧ (s.readParam mb id shadow).2.hl = s.hl ∧ (s.readParam mb id shadow).2.sec = s.sec ∧
    (s.readParam mb id shadow).2.tat = s.tat ∧ (s.readParam mb id shadow).2.pending = s.pending := by
  unfold State.readParam
  dsimp only
  repeat' split
  all_goals simp

@[simp] theorem State.readAll_frame (s : State) (mb sh : Nat) (ids : List Nat) :
    (s.readAll mb sh ids).2.now = s.now ∧ (s.readAll mb sh ids).2.boot = s.boot ∧ (s.readAll mb sh ids).2.vin = s.vin ∧ (s.readAll mb sh ids).2.win = s.win ∧
    (s.readAll mb sh ids).2.box = s.box ∧ (s.readAll mb sh ids).2.evq = s.evq ∧ (s.readAll mb sh ids).2.log = s.log ∧ (s.readAll mb sh ids).2.stat = s.stat ∧
    (s.readAll mb sh ids).2.eyes = s.eyes ∧ (s.readAll mb sh ids).2.par = s.par ∧ (s.readAll mb sh ids).2.fn = s.fn ∧ (s.readAll mb sh ids).2.tab = s.tab ∧
    (s.readAll mb sh ids).2.thm = s.thm ∧ (s.readAll mb sh ids).2.mem = s.mem ∧ (s.readAll mb sh ids).2.cmp = s.cmp ∧ (s.readAll mb sh ids).2.nv = s.nv ∧
    (s.readAll mb sh ids).2.ras = s.ras ∧ (s.readAll mb sh ids).2.pipe = s.pipe ∧ (s.readAll mb sh ids).2.prk = s.prk ∧ (s.readAll mb sh ids).2.apq = s.apq ∧
    (s.readAll mb sh ids).2.pnl = s.pnl ∧ (s.readAll mb sh ids).2.bob = s.bob ∧ (s.readAll mb sh ids).2.hl = s.hl ∧ (s.readAll mb sh ids).2.sec = s.sec ∧
    (s.readAll mb sh ids).2.tat = s.tat ∧ (s.readAll mb sh ids).2.pending = s.pending := by
  induction ids generalizing s with
  | nil => simp [State.readAll]
  | cons d ds ih => unfold State.readAll; simp [ih]

@[simp] theorem State.withEnters_frame (s : State) (vs : List (Nat × Nat)) :
    (s.withEnters vs).now = s.now ∧ (s.withEnters vs).boot = s.boot ∧ (s.withEnters vs).vin = s.vin ∧ (s.withEnters vs).win = s.win ∧
    (s.withEnters vs).box = s.box ∧ (s.withEnters vs).evq = s.evq ∧ (s.withEnters vs).log = s.log ∧ (s.withEnters vs).stat = s.stat ∧
    (s.withEnters vs).eyes = s.eyes ∧ (s.withEnters vs).fn = s.fn ∧ (s.withEnters vs).tab = s.tab ∧ (s.withEnters vs).pwr = s.pwr ∧
    (s.withEnters vs).thm = s.thm ∧ (s.withEnters vs).mem = s.mem ∧ (s.withEnters vs).cmp = s.cmp ∧ (s.withEnters vs).nv = s.nv ∧
    (s.withEnters vs).ras = s.ras ∧ (s.withEnters vs).pipe = s.pipe ∧ (s.withEnters vs).prk = s.prk ∧ (s.withEnters vs).apq = s.apq ∧
    (s.withEnters vs).pnl = s.pnl ∧ (s.withEnters vs).bob = s.bob ∧ (s.withEnters vs).sel = s.sel ∧ (s.withEnters vs).hl = s.hl ∧
    (s.withEnters vs).sec = s.sec ∧ (s.withEnters vs).tat = s.tat ∧ (s.withEnters vs).free = s.free ∧ (s.withEnters vs).pending = s.pending := by
  unfold State.withEnters
  simp

@[simp] theorem State.writeAll_frame (s : State) (vs : List (Nat × Nat)) (source : Nat) :
    (s.writeAll vs source).now = s.now ∧ (s.writeAll vs source).boot = s.boot ∧ (s.writeAll vs source).vin = s.vin ∧ (s.writeAll vs source).box = s.box ∧
    (s.writeAll vs source).tab = s.tab ∧ (s.writeAll vs source).thm = s.thm ∧ (s.writeAll vs source).cmp = s.cmp ∧ (s.writeAll vs source).nv = s.nv ∧
    (s.writeAll vs source).ras = s.ras ∧ (s.writeAll vs source).pipe = s.pipe ∧ (s.writeAll vs source).prk = s.prk ∧ (s.writeAll vs source).apq = s.apq ∧
    (s.writeAll vs source).pnl = s.pnl ∧ (s.writeAll vs source).bob = s.bob ∧ (s.writeAll vs source).sel = s.sel ∧ (s.writeAll vs source).hl = s.hl ∧
    (s.writeAll vs source).sec = s.sec ∧ (s.writeAll vs source).free = s.free ∧ (s.writeAll vs source).pending = s.pending ∧
    (s.writeAll vs source).mem.cells = s.mem.cells ∧ (s.writeAll vs source).mem.hoopFill = s.mem.hoopFill := by
  unfold State.writeAll
  simp

@[simp] theorem State.tatDrain_frame (s : State) :
    s.tatDrain.now = s.now ∧ s.tatDrain.boot = s.boot ∧ s.tatDrain.vin = s.vin ∧ s.tatDrain.win = s.win ∧ s.tatDrain.box = s.box ∧ s.tatDrain.evq = s.evq ∧
    s.tatDrain.log = s.log ∧ s.tatDrain.stat = s.stat ∧ s.tatDrain.eyes = s.eyes ∧ s.tatDrain.par = s.par ∧ s.tatDrain.fn = s.fn ∧ s.tatDrain.tab = s.tab ∧
    s.tatDrain.pwr = s.pwr ∧ s.tatDrain.thm = s.thm ∧ s.tatDrain.mem = s.mem ∧ s.tatDrain.cmp = s.cmp ∧ s.tatDrain.nv = s.nv ∧ s.tatDrain.ras = s.ras ∧
    s.tatDrain.pipe = s.pipe ∧ s.tatDrain.prk = s.prk ∧ s.tatDrain.apq = s.apq ∧ s.tatDrain.pnl = s.pnl ∧ s.tatDrain.bob = s.bob ∧ s.tatDrain.sel = s.sel ∧
    s.tatDrain.hl = s.hl ∧ s.tatDrain.sec = s.sec ∧ s.tatDrain.free = s.free ∧ s.tatDrain.pending = s.pending := by
  unfold State.tatDrain
  simp

@[simp] theorem State.idleTick_frame (s : State) :
    s.idleTick.boot = s.boot ∧ s.idleTick.vin = s.vin ∧ s.idleTick.win = s.win ∧ s.idleTick.box = s.box ∧ s.idleTick.evq = s.evq ∧ s.idleTick.log = s.log ∧
    s.idleTick.eyes = s.eyes ∧ s.idleTick.par = s.par ∧ s.idleTick.fn = s.fn ∧ s.idleTick.tab = s.tab ∧ s.idleTick.thm = s.thm ∧ s.idleTick.mem = s.mem ∧
    s.idleTick.cmp = s.cmp ∧ s.idleTick.ras = s.ras ∧ s.idleTick.pipe = s.pipe ∧ s.idleTick.prk = s.prk ∧ s.idleTick.apq = s.apq ∧ s.idleTick.pnl = s.pnl ∧
    s.idleTick.bob = s.bob ∧ s.idleTick.sel = s.sel ∧ s.idleTick.hl = s.hl ∧ s.idleTick.sec = s.sec ∧ s.idleTick.free = s.free ∧
    s.idleTick.pending = s.pending ∧ s.idleTick.nv.nor = s.nv.nor ∧ s.idleTick.nv.nand = s.nv.nand := by
  unfold State.idleTick
  simp

end Sys2Proof.Machine
end

