-- ==== Sys2Proof/Laws/Memory.lean ====
section
/-! SUPPORT. The canonical form of a memory: what reads give after writes, and that every memory operation keeps the form. -/

namespace Sys2Proof.Machine

/-- Every entry lies above address `k`. -/
def cellsAbove (k : Nat) (l : List Host.Cell) : Prop := ∀ c ∈ l, k < c.1

theorem cellsWf_cons (bg : Nat → Byte) (a : Nat) (v : Byte) (t : List Host.Cell) :
    cellsWf bg ((a, v) :: t) = true ↔ cellsAbove a t ∧ v ≠ bg a ∧ cellsWf bg t = true := by
  induction t generalizing a v with
  | nil => simp [cellsWf, cellsAbove]
  | cons c t ih =>
    obtain ⟨b, w⟩ := c
    have h := ih b w
    constructor
    · intro k
      simp only [cellsWf, Bool.and_eq_true, decide_eq_true_eq] at k
      refine ⟨?_, k.1.2, ?_⟩
      · have k2 := (h.1 (by simpa [cellsWf] using k.2)).1
        intro c hc
        rcases List.mem_cons.1 hc with rfl | hc
        · exact k.1.1
        · exact Nat.lt_trans k.1.1 (k2 c hc)
      · simpa [cellsWf] using k.2
    · rintro ⟨k1, k2, k3⟩
      have : a < b := k1 (b, w) (by simp)
      simp only [cellsWf, Bool.and_eq_true, decide_eq_true_eq]
      exact ⟨⟨this, k2⟩, by simpa [cellsWf] using k3⟩

theorem aget_above {l : List Host.Cell} {k a : Nat} (h : cellsAbove k l) (ha : a ≤ k) (d : Byte) : aget l a d = d := by
  induction l with
  | nil => rfl
  | cons c t ih =>
    obtain ⟨b, w⟩ := c
    have hb : k < b := h (b, w) (by simp)
    have : b ≠ a := by omega
    simp only [aget, this, if_false]
    exact ih fun c hc => h c (by simp [hc])

theorem mem_aset {l : List Host.Cell} {a : Nat} {v : Byte} {c : Host.Cell} (h : c ∈ aset l a v) : c = (a, v) ∨ c ∈ l := by
  induction l with
  | nil => simpa [aset] using h
  | cons x t ih =>
    obtain ⟨b, w⟩ := x
    simp only [aset] at h
    split at h
    · simpa using h
    · split at h
      · rcases List.mem_cons.1 h with h | h
        · exact Or.inl h
        · exact Or.inr (List.mem_cons_of_mem _ h)
      · rcases List.mem_cons.1 h with rfl | h
        · simp
        · rcases ih h with h | h <;> simp [h]

theorem mem_adel {l : List Host.Cell} {a : Nat} {c : Host.Cell} (h : c ∈ adel l a) : c ∈ l := by
  induction l with
  | nil => simp [adel] at h
  | cons x t ih =>
    obtain ⟨b, w⟩ := x
    simp only [adel] at h
    split at h
    · simp [h]
    · rcases List.mem_cons.1 h with rfl | h
      · simp
      · simp [ih h]

theorem cellsWf_aset {bg : Nat → Byte} {l : List Host.Cell} {a : Nat} {v : Byte} (h : cellsWf bg l = true) (hv : v ≠ bg a) :
    cellsWf bg (aset l a v) = true := by
  induction l with
  | nil => simp [aset, cellsWf, hv]
  | cons x t ih =>
    obtain ⟨b, w⟩ := x
    obtain ⟨h1, h2, h3⟩ := (cellsWf_cons bg b w t).1 h
    simp only [aset]
    split
    · rename_i hab
      refine (cellsWf_cons ..).2 ⟨?_, hv, h⟩
      intro c hc
      rcases List.mem_cons.1 hc with rfl | hc
      · exact hab
      · exact Nat.lt_trans hab (h1 c hc)
    · split
      · rename_i hab
        subst hab
        exact (cellsWf_cons ..).2 ⟨h1, hv, h3⟩
      · refine (cellsWf_cons ..).2 ⟨?_, h2, ih h3⟩
        intro c hc
        rcases mem_aset hc with rfl | hc
        · show b < a
          omega
        · exact h1 c hc

theorem cellsWf_adel {bg : Nat → Byte} {l : List Host.Cell} {a : Nat} (h : cellsWf bg l = true) : cellsWf bg (adel l a) = true := by
  induction l with
  | nil => simpa [adel] using h
  | cons x t ih =>
    obtain ⟨b, w⟩ := x
    obtain ⟨h1, h2, h3⟩ := (cellsWf_cons bg b w t).1 h
    simp only [adel]
    split
    · exact h3
    · exact (cellsWf_cons ..).2 ⟨fun c hc => h1 c (mem_adel hc), h2, ih h3⟩

@[simp] theorem cellsWf_filter {bg : Nat → Byte} {l : List Host.Cell} (p : Host.Cell → Bool) (h : cellsWf bg l = true) :
    cellsWf bg (l.filter p) = true := by
  induction l with
  | nil => simpa using h
  | cons x t ih =>
    obtain ⟨b, w⟩ := x
    obtain ⟨h1, h2, h3⟩ := (cellsWf_cons bg b w t).1 h
    simp only [List.filter]
    split
    · exact (cellsWf_cons ..).2 ⟨fun c hc => h1 c (List.mem_filter.1 hc).1, h2, ih h3⟩
    · exact ih h3

/-- A write keeps the canonical form. -/
@[simp] theorem cellsWf_write {bg : Nat → Byte} {l : List Host.Cell} (a : Nat) (v : Byte) (h : cellsWf bg l = true) :
    cellsWf bg (cellWrite bg l a v) = true := by
  unfold cellWrite
  split
  · exact cellsWf_adel h
  · exact cellsWf_aset h ‹_›

/-- A write of several bytes keeps the canonical form. -/
@[simp] theorem cellsWf_writes {bg : Nat → Byte} {l : List Host.Cell} (a : Nat) (vs : List Byte) (h : cellsWf bg l = true) :
    cellsWf bg (cellWrites bg l a vs) = true := by
  induction vs generalizing l a with
  | nil => exact h
  | cons v vs ih => exact ih (a + 1) (cellsWf_write a v h)

theorem aget_aset (l : List Host.Cell) (a b : Nat) (v d : Byte) : aget (aset l a v) b d = if b = a then v else aget l b d := by
  induction l with
  | nil => by_cases h : a = b <;> simp [aset, aget, h, eq_comm]
  | cons x t ih =>
    obtain ⟨c, w⟩ := x
    simp only [aset]
    split
    · by_cases h : a = b <;> simp [aget, h, eq_comm]
    · split
      · rename_i h
        subst h
        by_cases h : a = b <;> simp [aget, h, eq_comm]
      · simp only [aget, ih]
        by_cases h : c = b
        · have : b ≠ a := by omega
          simp [h, this]
        · simp [h]

theorem aget_adel {bg : Nat → Byte} {l : List Host.Cell} (h : cellsWf bg l = true) (a b : Nat) (d : Byte) :
    aget (adel l a) b d = if b = a then d else aget l b d := by
  induction l with
  | nil => simp [adel, aget]
  | cons x t ih =>
    obtain ⟨c, w⟩ := x
    obtain ⟨h1, -, h3⟩ := (cellsWf_cons bg c w t).1 h
    simp only [adel]
    split
    · rename_i hc
      subst hc
      by_cases hb : b = c
      · subst hb
        simp [aget_above h1 (Nat.le_refl _)]
      · have : c ≠ b := fun e => hb e.symm
        simp [aget, hb, this]
    · rename_i hc
      simp only [aget, ih h3]
      by_cases hb : c = b
      · have : b ≠ a := fun e => hc (hb.trans e)
        simp [hb, this]
      · simp [hb]

/-- A read after a write of one byte. -/
theorem cellRead_write {bg : Nat → Byte} {l : List Host.Cell} (h : cellsWf bg l = true) (a b : Nat) (v : Byte) :
    cellRead bg (cellWrite bg l a v) b = if b = a then v else cellRead bg l b := by
  unfold cellRead cellWrite
  split
  · rename_i hv
    rw [aget_adel h]
    split
    · simp_all
    · rfl
  · rw [aget_aset]

/-- A read after a write of several bytes. -/
theorem cellRead_writes {bg : Nat → Byte} {l : List Host.Cell} (h : cellsWf bg l = true) (a : Nat) (vs : List Byte) (b : Nat) :
    cellRead bg (cellWrites bg l a vs) b = if a ≤ b ∧ b < a + vs.length then vs.getD (b - a) 0 else cellRead bg l b := by
  induction vs generalizing l a with
  | nil =>
    have : ¬(a ≤ b ∧ b < a) := by omega
    simp [cellWrites, this]
  | cons v vs ih =>
    rw [cellWrites, ih (cellsWf_write a v h) (a + 1), cellRead_write h]
    by_cases h1 : b = a
    · subst h1
      have : ¬(b + 1 ≤ b ∧ b < b + 1 + vs.length) := by omega
      simp [this]
    · by_cases h2 : a ≤ b ∧ b < a + (v :: vs).length
      · have h3 : a + 1 ≤ b ∧ b < a + 1 + vs.length := by simp at h2; omega
        have h4 : b - a = b - (a + 1) + 1 := by omega
        simp only [h2, h3, and_self, if_true, h4, List.getD_cons_succ]
      · have h3 : ¬(a + 1 ≤ b ∧ b < a + 1 + vs.length) := by simp at h2; omega
        simp only [h2, h3, h1, if_false]

/-- A read after a range has been filtered out. -/
theorem cellRead_filter (bg : Nat → Byte) (l : List Host.Cell) (p : Nat → Bool) (b : Nat) :
    cellRead bg (l.filter fun c => p c.1) b = if p b then cellRead bg l b else bg b := by
  unfold cellRead
  induction l with
  | nil => simp [aget]
  | cons x t ih =>
    obtain ⟨c, w⟩ := x
    by_cases hc : p c = true
    · simp only [List.filter, hc, aget, ih]
      by_cases h : c = b
      · subst h
        simp [hc]
      · simp [h]
    · simp only [List.filter, hc, ih, aget]
      by_cases h : c = b
      · subst h
        simp [hc]
      · simp [h]

end Sys2Proof.Machine
end

