-- ==== Sys2Proof/Laws/Canonical.lean ====
section
/-! SUPPORT. Every operation that writes GDDR7, NOR or NAND keeps its memory in canonical form: one lemma per operation and memory. -/

namespace Sys2Proof.Machine

@[simp] theorem cellsWf_ite (bg : Nat → Byte) (c : Prop) [Decidable c] (x y : List Host.Cell) :
    cellsWf bg (if c then x else y) = if c then cellsWf bg x else cellsWf bg y := by split <;> rfl

@[simp] theorem State.foldl_ramWf {bg : Nat → Byte} {α : Type} (g : State → α → State) (hf : ∀ t x, (g t x).mem.hoopFill = t.mem.hoopFill)
    (hg : ∀ t x, memBg t.mem.hoopFill = bg → cellsWf bg t.mem.cells = true → cellsWf bg (g t x).mem.cells = true)
    (l : List α) (s : State) (hb : memBg s.mem.hoopFill = bg) (h : cellsWf bg s.mem.cells = true) :
    cellsWf bg (l.foldl g s).mem.cells = true := by
  induction l generalizing s with
  | nil => exact h
  | cons x xs ih => exact ih (g s x) (by rw [hf, hb]) (hg s x hb h)

@[simp] theorem State.foldl_memWf {α : Type} (g : State → α → State)
    (hg : ∀ t x, cellsWf (memBg t.mem.hoopFill) t.mem.cells = true → cellsWf (memBg (g t x).mem.hoopFill) (g t x).mem.cells = true)
    (l : List α) (s : State) (h : cellsWf (memBg s.mem.hoopFill) s.mem.cells = true) :
    cellsWf (memBg (l.foldl g s).mem.hoopFill) (l.foldl g s).mem.cells = true := by
  induction l generalizing s with
  | nil => exact h
  | cons x xs ih => exact ih (g s x) (hg s x h)

@[simp] theorem State.foldl_norWf {α : Type} (g : State → α → State)
    (hg : ∀ t x, cellsWf flashBg t.nv.nor = true → cellsWf flashBg (g t x).nv.nor = true) (l : List α) (s : State)
    (h : cellsWf flashBg s.nv.nor = true) : cellsWf flashBg (l.foldl g s).nv.nor = true := by
  induction l generalizing s with
  | nil => exact h
  | cons x xs ih => exact ih (g s x) (hg s x h)

@[simp] theorem State.foldl_nandWf {α : Type} (g : State → α → State)
    (hg : ∀ t x, cellsWf flashBg t.nv.nand = true → cellsWf flashBg (g t x).nv.nand = true) (l : List α) (s : State)
    (h : cellsWf flashBg s.nv.nand = true) : cellsWf flashBg (l.foldl g s).nv.nand = true := by
  induction l generalizing s with
  | nil => exact h
  | cons x xs ih => exact ih (g s x) (hg s x h)

@[simp] theorem State.ramWrite_ramWf {bg : Nat → Byte} (s : State) (a : Nat) (bs : List Byte) (hb : memBg s.mem.hoopFill = bg)
    (h : cellsWf bg s.mem.cells = true) : cellsWf bg (s.ramWrite a bs).mem.cells = true := by
  subst hb
  exact cellsWf_writes a bs h

@[simp] theorem State.norProgram_norWf (s : State) (a : Nat) (bs : List Byte) (h : cellsWf flashBg s.nv.nor = true) :
    cellsWf flashBg (s.norProgram a bs).nv.nor = true := by
  induction bs generalizing s a with
  | nil => exact h
  | cons v vs ih => exact ih _ _ (cellsWf_write a _ h)

@[simp] theorem State.norErase_norWf (s : State) (a n : Nat) (h : cellsWf flashBg s.nv.nor = true) : cellsWf flashBg (s.norErase a n).nv.nor = true := by
  unfold State.norErase
  simp [*]

@[simp] theorem State.nandWrite_nandWf (s : State) (a : Nat) (bs : List Byte) (h : cellsWf flashBg s.nv.nand = true) : cellsWf flashBg (s.nandWrite a bs).nv.nand = true := by
  unfold State.nandWrite
  simp [*]

@[simp] theorem State.nandErase_nandWf (s : State) (a n : Nat) (h : cellsWf flashBg s.nv.nand = true) : cellsWf flashBg (s.nandErase a n).nv.nand = true := by
  unfold State.nandErase
  simp [*]

@[simp] theorem State.poolWrite_ramWf {bg : Nat → Byte} (s : State) (low : Bool) (a : Nat) (bs : List Byte) (hb : memBg s.mem.hoopFill = bg)
    (h : cellsWf bg s.mem.cells = true) : cellsWf bg (s.poolWrite low a bs).mem.cells = true := by
  unfold State.poolWrite
  simp [*]

@[simp] theorem State.cmpSpoil_ramWf {bg : Nat → Byte} (s : State) (a n : Nat) (hb : memBg s.mem.hoopFill = bg)
    (h : cellsWf bg s.mem.cells = true) : cellsWf bg (s.cmpSpoil a n).mem.cells = true := by
  unfold State.cmpSpoil
  simp [*]

@[simp] theorem State.cmpCompress_ramWf {bg : Nat → Byte} (s : State) (j : CmpJob) (hb : memBg s.mem.hoopFill = bg)
    (h : cellsWf bg s.mem.cells = true) : cellsWf bg (s.cmpCompress j).mem.cells = true := by
  unfold State.cmpCompress
  simp [*]

@[simp] theorem State.cmpDecompress_ramWf {bg : Nat → Byte} (s : State) (j : CmpJob) (hb : memBg s.mem.hoopFill = bg)
    (h : cellsWf bg s.mem.cells = true) : cellsWf bg (s.cmpDecompress j).mem.cells = true := by
  unfold State.cmpDecompress
  dsimp only
  repeat' split
  all_goals simp [*]

@[simp] theorem State.formatNext_norWf (s : State) (bank : Bool) (h : cellsWf flashBg s.nv.nor = true) : cellsWf flashBg (s.formatNext bank).nv.nor = true := by
  unfold State.formatNext
  repeat' split
  all_goals simp [*]

@[simp] theorem State.ensureRoom_norWf (s : State) (bank : Bool) (h : cellsWf flashBg s.nv.nor = true) : cellsWf flashBg (s.ensureRoom bank).nv.nor = true := by
  unfold State.ensureRoom
  repeat' split
  all_goals simp [*]

@[simp] theorem State.writeCopy_norWf (s : State) (bank : Bool) (key seq : Nat) (payload : List Byte) (h : cellsWf flashBg s.nv.nor = true) :
    cellsWf flashBg (s.writeCopy bank key seq payload).nv.nor = true := by
  unfold State.writeCopy
  dsimp only
  split
  · exact h
  · simp only [State.count_frame]
    exact State.ensureRoom_norWf _ _ (State.norProgram_norWf _ _ _ (State.norProgram_norWf _ _ _ (State.ensureRoom_norWf _ _ h)))

@[simp] theorem State.recWrite_norWf (s : State) (key : Nat) (payload : List Byte) (h : cellsWf flashBg s.nv.nor = true) : cellsWf flashBg (s.recWrite key payload).nv.nor = true := by
  unfold State.recWrite
  dsimp only
  repeat' split
  all_goals simp +contextual [*]

@[simp] theorem State.settleBank_norWf (s : State) (bank : Bool) (h : cellsWf flashBg s.nv.nor = true) : cellsWf flashBg (s.settleBank bank).nv.nor = true := by
  unfold State.settleBank
  repeat' split
  all_goals simp [*]

@[simp] theorem State.eraseScheduled_norWf (s : State) (h : cellsWf flashBg s.nv.nor = true) : cellsWf flashBg s.eraseScheduled.nv.nor = true := by
  unfold State.eraseScheduled
  dsimp only
  repeat' split
  all_goals simp +contextual [*]

@[simp] theorem State.scanned_norWf (s : State) (bad : List (Bool × Nat)) (h : cellsWf flashBg s.nv.nor = true) : cellsWf flashBg (s.scanned bad).nv.nor = true := by
  unfold State.scanned
  simp [*]

@[simp] theorem State.samplerScan_norWf (s : State) (h : cellsWf flashBg s.nv.nor = true) :
    cellsWf flashBg s.samplerScan.nv.nor = true := by
  unfold State.samplerScan
  dsimp only
  refine State.scanned_norWf _ _ ?_
  refine State.settleBank_norWf _ true ?_
  refine State.settleBank_norWf _ false ?_
  refine State.foldl_norWf _ ?_ _ _ h
  intro t x ht
  split
  · exact ht
  · simpa using ht

@[simp] theorem State.beginCopy_norWf (s : State) (w : NvWrite) (h : cellsWf flashBg s.nv.nor = true) : cellsWf flashBg (s.beginCopy w).nv.nor = true := by
  unfold State.beginCopy
  dsimp only
  repeat' split
  all_goals simp [*]

@[simp] theorem State.beginWrite_norWf (s : State) (w : NvWrite) (h : cellsWf flashBg s.nv.nor = true) : cellsWf flashBg (s.beginWrite w).nv.nor = true := by
  unfold State.beginWrite
  repeat' split
  all_goals simp [*]

@[simp] theorem State.nextWrite_norWf (s : State) (h : cellsWf flashBg s.nv.nor = true) : cellsWf flashBg s.nextWrite.nv.nor = true := by
  unfold State.nextWrite
  repeat' split
  all_goals simp [*]

@[simp] theorem State.endWrite_norWf (s : State) (w : NvWrite) (status : Nat) (h : cellsWf flashBg s.nv.nor = true) : cellsWf flashBg (s.endWrite w status).nv.nor = true := by
  unfold State.endWrite
  simp [*]

@[simp] theorem State.copyDone_norWf (s : State) (w : NvWrite) (h : cellsWf flashBg s.nv.nor = true) : cellsWf flashBg (s.copyDone w).nv.nor = true := by
  unfold State.copyDone
  repeat' split
  all_goals simp [*]

@[simp] theorem State.copyBad_norWf (s : State) (w : NvWrite) (h : cellsWf flashBg s.nv.nor = true) : cellsWf flashBg (s.copyBad w).nv.nor = true := by
  unfold State.copyBad
  simp [*]

@[simp] theorem State.rawProgram_norWf (s : State) (a : Nat) (data : List Byte) (h : cellsWf flashBg s.nv.nor = true) :
    cellsWf flashBg (s.rawProgram a data).nv.nor = true :=
  State.foldl_norWf _ (fun _ _ h => State.norProgram_norWf _ _ _ h) _ _ h

@[simp] theorem State.saveReplaced_norWf (s : State) (h : cellsWf flashBg s.nv.nor = true) : cellsWf flashBg s.saveReplaced.nv.nor = true := by
  unfold State.saveReplaced
  simp [*]

@[simp] theorem State.replaceBlock_norWf (s : State) (b : Nat) (h : cellsWf flashBg s.nv.nor = true) : cellsWf flashBg (s.replaceBlock b).nv.nor = true := by
  unfold State.replaceBlock
  dsimp only
  repeat' split
  all_goals simp [*]

@[simp] theorem State.badBlock_norWf (s : State) (b : Nat) (h : cellsWf flashBg s.nv.nor = true) : cellsWf flashBg (s.badBlock b).nv.nor = true := by
  unfold State.badBlock
  simp [*]

@[simp] theorem State.dirCommit_norWf (s : State) (e : DirEntry) (h : cellsWf flashBg s.nv.nor = true) : cellsWf flashBg (s.dirCommit e).nv.nor = true := by
  unfold State.dirCommit
  simp [*]

@[simp] theorem State.takeGen_norWf (s : State) (h : cellsWf flashBg s.nv.nor = true) : cellsWf flashBg s.takeGen.2.nv.nor = true := by
  unfold State.takeGen
  simp [*]

@[simp] theorem State.writeRun_nandWf (s : State) (first : Nat) (bytes : List Byte) (h : cellsWf flashBg s.nv.nand = true) :
    cellsWf flashBg (s.writeRun first bytes).nv.nand = true :=
  State.foldl_nandWf _ (fun _ _ h => State.nandWrite_nandWf _ _ _ h) _ _ h

@[simp] theorem State.nandStore_norWf (s : State) (o gen level : Nat) (x : IndexExtra) (data : List Byte) (h : cellsWf flashBg s.nv.nor = true) : cellsWf flashBg (s.nandStore o gen level x data).1.nv.nor = true := by
  unfold State.nandStore
  dsimp only
  repeat' split
  all_goals simp [*]

@[simp] theorem State.nandStore_nandWf (s : State) (o gen level : Nat) (x : IndexExtra) (data : List Byte)
    (h : cellsWf flashBg s.nv.nand = true) : cellsWf flashBg (s.nandStore o gen level x data).1.nv.nand = true := by
  unfold State.nandStore
  dsimp only
  repeat' split
  all_goals first
    | (simp [h]; done)
    | (simp only [State.dirCommit_frame]
       refine State.writeRun_nandWf _ _ _ (State.foldl_nandWf _ (fun _ _ h => State.nandErase_nandWf _ _ _ h) _ _ ?_)
       simp [h])

@[simp] theorem State.queueStore_norWf (s : State) (o : Nat) (planeGen : Nat) (data : List Byte) (h : cellsWf flashBg s.nv.nor = true) : cellsWf flashBg (s.queueStore o planeGen data).nv.nor = true := by
  unfold State.queueStore
  simp [*]

@[simp] theorem State.endStore_norWf (s : State) (o : Nat) (failed : Bool) (h : cellsWf flashBg s.nv.nor = true) : cellsWf flashBg (s.endStore o failed).1.nv.nor = true := by
  unfold State.endStore
  repeat' split
  all_goals simp [*]

@[simp] theorem State.endStore_nandWf (s : State) (o : Nat) (failed : Bool) (h : cellsWf flashBg s.nv.nand = true) : cellsWf flashBg (s.endStore o failed).1.nv.nand = true := by
  unfold State.endStore
  repeat' split
  all_goals simp [*]

@[simp] theorem State.saveAlwaysOn_norWf (s : State) (cause : Nat) (h : cellsWf flashBg s.nv.nor = true) : cellsWf flashBg (s.saveAlwaysOn cause).nv.nor = true := by
  unfold State.saveAlwaysOn
  simp [*]

@[simp] theorem State.replaceFactory_norWf (s : State) (h : cellsWf flashBg s.nv.nor = true) : cellsWf flashBg s.replaceFactory.nv.nor = true := by
  unfold State.replaceFactory
  repeat' split
  all_goals (try simp +contextual [*])
  all_goals (repeat' split)
  all_goals (try simp_all +contextual)

@[simp] theorem State.nvPfw_norWf (s : State) (h : cellsWf flashBg s.nv.nor = true) : cellsWf flashBg s.nvPfw.nv.nor = true := by
  unfold State.nvPfw
  repeat' split
  all_goals simp [*]

@[simp] theorem State.prkSet_ramWf {bg : Nat → Byte} (s : State) (x y plane c v : Nat) (hb : memBg s.mem.hoopFill = bg)
    (h : cellsWf bg s.mem.cells = true) : cellsWf bg (s.prkSet x y plane c v).mem.cells = true := by
  unfold State.prkSet
  simp [*]

@[simp] theorem State.writePlane_ramWf {bg : Nat → Byte} (s : State) (plane cols rows : Nat) (vals : List Byte)
    (hb : memBg s.mem.hoopFill = bg) (h : cellsWf bg s.mem.cells = true) :
    cellsWf bg (s.writePlane plane cols rows vals).mem.cells = true :=
  State.foldl_ramWf _ (fun _ _ => by simp) (fun _ _ hb h => State.prkSet_ramWf _ _ _ _ _ _ hb h) _ _ hb h

@[simp] theorem State.install_ramWf {bg : Nat → Byte} (s : State) (id : Nat) (plain : List Byte) (hb : memBg s.mem.hoopFill = bg)
    (h : cellsWf bg s.mem.cells = true) : cellsWf bg (s.install id plain).mem.cells = true := by
  unfold State.install
  repeat' split
  all_goals simp [*]

@[simp] theorem State.afterLoad_norWf (s : State) (id : Nat) (plain : List Byte) (h : cellsWf flashBg s.nv.nor = true) : cellsWf flashBg (s.afterLoad id plain).nv.nor = true := by
  unfold State.afterLoad
  repeat' split
  all_goals simp [*]

@[simp] theorem State.hoopWrite_ramWf {bg : Nat → Byte} (s : State) (slot1 : Bool) (fmt y : Nat) (raw : List Nat) (x0 : Nat) (hb : memBg s.mem.hoopFill = bg)
    (h : cellsWf bg s.mem.cells = true) : cellsWf bg (s.hoopWrite slot1 fmt y raw x0).mem.cells = true := by
  unfold State.hoopWrite
  simp [*]

@[simp] theorem State.hoopCopy_ramWf {bg : Nat → Byte} (s : State) (src dst : Bool) (y x0 n : Nat) (hb : memBg s.mem.hoopFill = bg)
    (h : cellsWf bg s.mem.cells = true) : cellsWf bg (s.hoopCopy src dst y x0 n).mem.cells = true := by
  unfold State.hoopCopy
  simp [*]

@[simp] theorem State.attWrite_ramWf {bg : Nat → Byte} (s : State) (y : Nat) (o : List OdOut) (hb : memBg s.mem.hoopFill = bg)
    (h : cellsWf bg s.mem.cells = true) : cellsWf bg (s.attWrite y o).mem.cells = true := by
  unfold State.attWrite
  simp [*]

@[simp] theorem State.accumulate_ramWf {bg : Nat → Byte} (s : State) (y : Nat) (levels : List Nat) (hb : memBg s.mem.hoopFill = bg)
    (h : cellsWf bg s.mem.cells = true) : cellsWf bg (s.accumulate y levels).mem.cells = true := by
  unfold State.accumulate
  simp [*]

@[simp] theorem State.sendRequests_ramWf {bg : Nat → Byte} (s : State) (ls : List Nat) (hb : memBg s.mem.hoopFill = bg)
    (h : cellsWf bg s.mem.cells = true) : cellsWf bg (s.sendRequests ls).mem.cells = true := by
  unfold State.sendRequests
  simp [*]

@[simp] theorem State.askResults_ramWf {bg : Nat → Byte} (s : State) (rows : Nat) (hb : memBg s.mem.hoopFill = bg)
    (h : cellsWf bg s.mem.cells = true) : cellsWf bg (s.askResults rows).mem.cells = true := by
  unfold State.askResults
  simp [*]

@[simp] theorem State.laneReply_ramWf {bg : Nat → Byte} (s : State) (l : Nat) (p : Option (Nat × Nat × List Byte)) (hb : memBg s.mem.hoopFill = bg)
    (h : cellsWf bg s.mem.cells = true) : cellsWf bg (s.laneReply l p).mem.cells = true := by
  unfold State.laneReply
  repeat' split
  all_goals simp [*]

@[simp] theorem State.senseFrame_ramWf {bg : Nat → Byte} (s : State) (hb : memBg s.mem.hoopFill = bg)
    (h : cellsWf bg s.mem.cells = true) : cellsWf bg s.senseFrame.mem.cells = true := by
  unfold State.senseFrame
  simp [*]

@[simp] theorem State.writeFold_ramWf {bg : Nat → Byte} (s : State) (f : Fold) (hb : memBg s.mem.hoopFill = bg)
    (h : cellsWf bg s.mem.cells = true) : cellsWf bg (s.writeFold f).mem.cells = true := by
  unfold State.writeFold
  simp [*]

@[simp] theorem State.restPair_ramWf {bg : Nat → Byte} (s : State) (px c : Nat) (lo hi : Nat) (hb : memBg s.mem.hoopFill = bg)
    (h : cellsWf bg s.mem.cells = true) : cellsWf bg (s.restPair px c lo hi).mem.cells = true := by
  unfold State.restPair
  dsimp only
  repeat' split
  all_goals simp [*]

@[simp] theorem State.restRow_ramWf {bg : Nat → Byte} (s : State) (results : List (BitVec 16)) (hb : memBg s.mem.hoopFill = bg)
    (h : cellsWf bg s.mem.cells = true) : cellsWf bg (s.restRow results).mem.cells = true := by
  unfold State.restRow
  dsimp only
  repeat' split
  all_goals simp +contextual [*]

@[simp] theorem State.ageOne_ramWf {bg : Nat → Byte} (s : State) (x y c : Nat) (hb : memBg s.mem.hoopFill = bg)
    (h : cellsWf bg s.mem.cells = true) : cellsWf bg (s.ageOne x y c).mem.cells = true := by
  unfold State.ageOne
  simp [*]

@[simp] theorem State.shutdownSaved_norWf (s : State) (h : cellsWf flashBg s.nv.nor = true) : cellsWf flashBg s.shutdownSaved.nv.nor = true := by
  unfold State.shutdownSaved
  simp [*]

@[simp] theorem State.orderlyShutdown_norWf (s : State) (h : cellsWf flashBg s.nv.nor = true) : cellsWf flashBg s.orderlyShutdown.nv.nor = true := by
  unfold State.orderlyShutdown
  simp [*]

@[simp] theorem State.snapFail_norWf (s : State) (h : cellsWf flashBg s.nv.nor = true) : cellsWf flashBg s.snapFail.nv.nor = true := by
  unfold State.snapFail
  simp [*]

@[simp] theorem State.concealInHoop_ramWf {bg : Nat → Byte} (s : State) (f : InputFrame) (i : Side) (r : Nat) (hb : memBg s.mem.hoopFill = bg)
    (h : cellsWf bg s.mem.cells = true) : cellsWf bg (s.concealInHoop f i r).mem.cells = true := by
  unfold State.concealInHoop
  simp [*]

@[simp] theorem State.missRow_ramWf {bg : Nat → Byte} (s : State) (f : InputFrame) (i : Side) (r : Nat) (hb : memBg s.mem.hoopFill = bg)
    (h : cellsWf bg s.mem.cells = true) : cellsWf bg (s.missRow f i r).mem.cells = true := by
  unfold State.missRow
  simp [*]

@[simp] theorem State.missUpTo_ramWf {bg : Nat → Byte} (s : State) (f : InputFrame) (i : Side) (r : Nat) (hb : memBg s.mem.hoopFill = bg)
    (h : cellsWf bg s.mem.cells = true) : cellsWf bg (s.missUpTo f i r).mem.cells = true := by
  unfold State.missUpTo
  dsimp only
  repeat' split
  all_goals simp +contextual [*]

@[simp] theorem State.inputEnd_ramWf {bg : Nat → Byte} (s : State) (cut : Option Nat) (hb : memBg s.mem.hoopFill = bg)
    (h : cellsWf bg s.mem.cells = true) : cellsWf bg (s.inputEnd cut).mem.cells = true := by
  unfold State.inputEnd
  dsimp only
  repeat' split
  all_goals simp +contextual [*]

@[simp] theorem State.linkDown_ramWf {bg : Nat → Byte} (s : State) (cause : Nat) (next : LinkState) (hb : memBg s.mem.hoopFill = bg)
    (h : cellsWf bg s.mem.cells = true) : cellsWf bg (s.linkDown cause next).mem.cells = true := by
  unfold State.linkDown
  simp [*]

@[simp] theorem State.attemptFailed_ramWf {bg : Nat → Byte} (s : State) (i : Side) (lane : Nat) (hb : memBg s.mem.hoopFill = bg)
    (h : cellsWf bg s.mem.cells = true) : cellsWf bg (s.attemptFailed i lane).mem.cells = true := by
  unfold State.attemptFailed
  simp [*]

@[simp] theorem State.linkStop_ramWf {bg : Nat → Byte} (s : State) (hb : memBg s.mem.hoopFill = bg)
    (h : cellsWf bg s.mem.cells = true) : cellsWf bg s.linkStop.mem.cells = true := by
  unfold State.linkStop
  simp [*]

@[simp] theorem State.linkReset_ramWf {bg : Nat → Byte} (s : State) (hb : memBg s.mem.hoopFill = bg)
    (h : cellsWf bg s.mem.cells = true) : cellsWf bg s.linkReset.mem.cells = true := by
  unfold State.linkReset
  simp [*]

@[simp] theorem State.funcClear_ramWf {bg : Nat → Byte} (s : State) (f : Func) (hb : memBg s.mem.hoopFill = bg)
    (h : cellsWf bg s.mem.cells = true) : cellsWf bg (s.funcClear f).mem.cells = true := by
  unfold State.funcClear
  repeat' split
  all_goals simp [*]

@[simp] theorem State.funcTake_ramWf {bg : Nat → Byte} (s : State) (p : FuncPend) (n : BitVec 32) (hb : memBg s.mem.hoopFill = bg)
    (h : cellsWf bg s.mem.cells = true) : cellsWf bg (s.funcTake p n).mem.cells = true := by
  unfold State.funcTake
  repeat' split
  all_goals simp [*]

@[simp] theorem State.funcFrame_ramWf {bg : Nat → Byte} (s : State) (n : BitVec 32) (hb : memBg s.mem.hoopFill = bg)
    (h : cellsWf bg s.mem.cells = true) : cellsWf bg (s.funcFrame n).mem.cells = true := by
  unfold State.funcFrame
  dsimp only
  repeat' split
  all_goals simp +contextual [*]

@[simp] theorem State.funcNow_ramWf {bg : Nat → Byte} (s : State) (p : FuncPend) (hb : memBg s.mem.hoopFill = bg)
    (h : cellsWf bg s.mem.cells = true) : cellsWf bg (s.funcNow p).mem.cells = true := by
  unfold State.funcNow
  dsimp only
  repeat' split
  all_goals simp +contextual [*]

@[simp] theorem State.funcFlush_ramWf {bg : Nat → Byte} (s : State) (hb : memBg s.mem.hoopFill = bg)
    (h : cellsWf bg s.mem.cells = true) : cellsWf bg s.funcFlush.mem.cells = true := by
  unfold State.funcFlush
  dsimp only
  repeat' split
  all_goals simp +contextual [*]

@[simp] theorem State.rasterStop_ramWf {bg : Nat → Byte} (s : State) (hb : memBg s.mem.hoopFill = bg)
    (h : cellsWf bg s.mem.cells = true) : cellsWf bg s.rasterStop.mem.cells = true := by
  unfold State.rasterStop
  simp [*]

@[simp] theorem State.discharge_ramWf {bg : Nat → Byte} (s : State) (cause : Nat) (hb : memBg s.mem.hoopFill = bg)
    (h : cellsWf bg s.mem.cells = true) : cellsWf bg (s.discharge cause).mem.cells = true := by
  unfold State.discharge
  simp [*]

@[simp] theorem State.afterDark_ramWf {bg : Nat → Byte} (s : State) (hb : memBg s.mem.hoopFill = bg)
    (h : cellsWf bg s.mem.cells = true) : cellsWf bg s.afterDark.mem.cells = true := by
  unfold State.afterDark
  simp [*]

@[simp] theorem State.darken_ramWf {bg : Nat → Byte} (s : State) (cause : Nat) (rest : Bool) (hb : memBg s.mem.hoopFill = bg)
    (h : cellsWf bg s.mem.cells = true) : cellsWf bg (s.darken cause rest).mem.cells = true := by
  unfold State.darken
  simp [*]

@[simp] theorem State.panelStop_ramWf {bg : Nat → Byte} (s : State) (cause : Nat) (rest : Bool) (hb : memBg s.mem.hoopFill = bg)
    (h : cellsWf bg s.mem.cells = true) : cellsWf bg (s.panelStop cause rest).mem.cells = true := by
  unfold State.panelStop
  repeat' split
  all_goals simp [*]

@[simp] theorem State.hardStop_ramWf {bg : Nat → Byte} (s : State) (hb : memBg s.mem.hoopFill = bg)
    (h : cellsWf bg s.mem.cells = true) : cellsWf bg s.hardStop.mem.cells = true := by
  unfold State.hardStop
  simp [*]

@[simp] theorem State.panelPfw_ramWf {bg : Nat → Byte} (s : State) (hb : memBg s.mem.hoopFill = bg)
    (h : cellsWf bg s.mem.cells = true) : cellsWf bg s.panelPfw.mem.cells = true := by
  unfold State.panelPfw
  repeat' split
  all_goals simp [*]

@[simp] theorem State.idleSafeStop_ramWf {bg : Nat → Byte} (s : State) (hb : memBg s.mem.hoopFill = bg)
    (h : cellsWf bg s.mem.cells = true) : cellsWf bg s.idleSafeStop.mem.cells = true := by
  unfold State.idleSafeStop
  simp [*]

@[simp] theorem State.panelOffDone_norWf (s : State) (h : cellsWf flashBg s.nv.nor = true) : cellsWf flashBg s.panelOffDone.nv.nor = true := by
  unfold State.panelOffDone
  simp [*]

@[simp] theorem State.configDrivers_ramWf {bg : Nat → Byte} (s : State) (hb : memBg s.mem.hoopFill = bg)
    (h : cellsWf bg s.mem.cells = true) : cellsWf bg s.configDrivers.mem.cells = true := by
  unfold State.configDrivers
  simp [*]

@[simp] theorem State.trainFailed_ramWf {bg : Nat → Byte} (s : State) (hb : memBg s.mem.hoopFill = bg)
    (h : cellsWf bg s.mem.cells = true) : cellsWf bg s.trainFailed.mem.cells = true := by
  unfold State.trainFailed
  simp [*]

@[simp] theorem State.wipe_memWf (s : State) (c : Nat) : cellsWf (memBg (s.wipe c).mem.hoopFill) (s.wipe c).mem.cells = true := rfl

@[simp] theorem State.restart_memWf (s : State) (sessionCause : Nat) (h : cellsWf (memBg s.mem.hoopFill) s.mem.cells = true) :
    cellsWf (memBg (s.restart sessionCause).mem.hoopFill) (s.restart sessionCause).mem.cells = true := by
  unfold State.restart
  simp [*]

@[simp] theorem State.resetCore_memWf (s : State) (causes earliest : BitVec 32) (coincide : Bool) (h : cellsWf (memBg s.mem.hoopFill) s.mem.cells = true) :
    cellsWf (memBg (s.resetCore causes earliest coincide).mem.hoopFill) (s.resetCore causes earliest coincide).mem.cells = true := by
  unfold State.resetCore
  simp [*]

@[simp] theorem State.resetTakes_memWf (s : State) (causes earliest : BitVec 32) (coincide : Bool) (h : cellsWf (memBg s.mem.hoopFill) s.mem.cells = true) :
    cellsWf (memBg (s.resetTakes causes earliest coincide).mem.hoopFill) (s.resetTakes causes earliest coincide).mem.cells = true := by
  unfold State.resetTakes
  simp [*]

@[simp] theorem State.resetDue_memWf (s : State) (h : cellsWf (memBg s.mem.hoopFill) s.mem.cells = true) :
    cellsWf (memBg s.resetDue.mem.hoopFill) s.resetDue.mem.cells = true := by
  unfold State.resetDue
  repeat' split
  all_goals simp [*]

@[simp] theorem State.resetCause_memWf (s : State) (cause : Nat) (h : cellsWf (memBg s.mem.hoopFill) s.mem.cells = true) :
    cellsWf (memBg (s.resetCause cause).mem.hoopFill) (s.resetCause cause).mem.cells = true := by
  unfold State.resetCause
  dsimp only
  repeat' split
  all_goals simp [*]

@[simp] theorem State.keyedReset_memWf (s : State) (swap : Bool) (h : cellsWf (memBg s.mem.hoopFill) s.mem.cells = true) :
    cellsWf (memBg (s.keyedReset swap).mem.hoopFill) (s.keyedReset swap).mem.cells = true := by
  unfold State.keyedReset
  repeat' split
  all_goals simp [*]

@[simp] theorem State.linkHalt_ramWf {bg : Nat → Byte} (s : State) (hb : memBg s.mem.hoopFill = bg)
    (h : cellsWf bg s.mem.cells = true) : cellsWf bg s.linkHalt.mem.cells = true := by
  unfold State.linkHalt
  simp [*]

@[simp] theorem State.memGone_memWf (s : State) : cellsWf (memBg s.memGone.mem.hoopFill) s.memGone.mem.cells = true := rfl

@[simp] theorem State.memGone_norWf (s : State) (h : cellsWf flashBg s.nv.nor = true) : cellsWf flashBg s.memGone.nv.nor = true := by
  unfold State.memGone
  simp [*]

@[simp] theorem State.domLost_memWf (s : State) (d : Fin 19) (low : DomState) (h : cellsWf (memBg s.mem.hoopFill) s.mem.cells = true) :
    cellsWf (memBg (s.domLost d low).mem.hoopFill) (s.domLost d low).mem.cells = true := by
  unfold State.domLost
  dsimp only
  repeat' split
  all_goals simp [*]

@[simp] theorem State.domLost_norWf (s : State) (d : Fin 19) (low : DomState) (h : cellsWf flashBg s.nv.nor = true) : cellsWf flashBg (s.domLost d low).nv.nor = true := by
  unfold State.domLost
  simp [*]

@[simp] theorem State.ctrlOn_memWf (s : State) (fromOff : Bool) (h : cellsWf (memBg s.mem.hoopFill) s.mem.cells = true) :
    cellsWf (memBg (s.ctrlOn fromOff).mem.hoopFill) (s.ctrlOn fromOff).mem.cells = true := by
  unfold State.ctrlOn
  repeat' split
  all_goals simp [*]

@[simp] theorem State.wakeServe_memWf (s : State) (w : WakeSource) (h : cellsWf (memBg s.mem.hoopFill) s.mem.cells = true) :
    cellsWf (memBg (s.wakeServe w).mem.hoopFill) (s.wakeServe w).mem.cells = true := by
  unfold State.wakeServe
  repeat' split
  all_goals simp [*]

@[simp] theorem State.qualify_memWf (s : State) (w : WakeSource) (h : cellsWf (memBg s.mem.hoopFill) s.mem.cells = true) :
    cellsWf (memBg (s.qualify w).mem.hoopFill) (s.qualify w).mem.cells = true := by
  unfold State.qualify
  repeat' split
  all_goals simp [*]

@[simp] theorem State.markFailed_memWf (s : State) (d : Fin 19) (h : cellsWf (memBg s.mem.hoopFill) s.mem.cells = true) :
    cellsWf (memBg (s.markFailed d).mem.hoopFill) (s.markFailed d).mem.cells = true := by
  unfold State.markFailed
  simp [*]

@[simp] theorem State.markFailed_norWf (s : State) (d : Fin 19) (h : cellsWf flashBg s.nv.nor = true) : cellsWf flashBg (s.markFailed d).nv.nor = true := by
  unfold State.markFailed
  simp [*]

@[simp] theorem State.failedResponse_memWf (s : State) (d : Fin 19) (h : cellsWf (memBg s.mem.hoopFill) s.mem.cells = true) :
    cellsWf (memBg (s.failedResponse d).mem.hoopFill) (s.failedResponse d).mem.cells = true := by
  unfold State.failedResponse
  repeat' split
  all_goals simp [*]

@[simp] theorem State.failedResponse_norWf (s : State) (d : Fin 19) (h : cellsWf flashBg s.nv.nor = true) : cellsWf flashBg (s.failedResponse d).nv.nor = true := by
  unfold State.failedResponse
  simp [*]

@[simp] theorem State.standbyPut_memWf (s : State) (deep : Bool) (d : Fin 19) (h : cellsWf (memBg s.mem.hoopFill) s.mem.cells = true) :
    cellsWf (memBg (s.standbyPut deep d).mem.hoopFill) (s.standbyPut deep d).mem.cells = true := by
  unfold State.standbyPut
  dsimp only
  repeat' split
  all_goals simp [*]

@[simp] theorem State.standbyPut_norWf (s : State) (deep : Bool) (d : Fin 19) (h : cellsWf flashBg s.nv.nor = true) : cellsWf flashBg (s.standbyPut deep d).nv.nor = true := by
  unfold State.standbyPut
  simp [*]

@[simp] theorem State.eyeHoldFrame_ramWf {bg : Nat → Byte} (s : State) (hb : memBg s.mem.hoopFill = bg)
    (h : cellsWf bg s.mem.cells = true) : cellsWf bg s.eyeHoldFrame.mem.cells = true := by
  unfold State.eyeHoldFrame
  simp [*]

@[simp] theorem State.linkGone_ramWf {bg : Nat → Byte} (s : State) (before : Bool) (hb : memBg s.mem.hoopFill = bg)
    (h : cellsWf bg s.mem.cells = true) : cellsWf bg (s.linkGone before).mem.cells = true := by
  unfold State.linkGone
  simp [*]

@[simp] theorem State.beginFrame_ramWf {bg : Nat → Byte} (s : State) (t : Nat) (want : FrameKind) (num : BitVec 32) (rowTime : Nat) (hb : memBg s.mem.hoopFill = bg)
    (h : cellsWf bg s.mem.cells = true) : cellsWf bg (s.beginFrame t want num rowTime).mem.cells = true := by
  unfold State.beginFrame
  dsimp only
  split
  all_goals
    simp
    refine State.senseFrame_ramWf _ (by simp [hb]) ?_
    simp
    refine State.linkGone_ramWf _ _ (by simp [hb]) ?_
    simp [*]

@[simp] theorem State.hoopStart_ramWf {bg : Nat → Byte} (s : State) (t : Nat) (hb : memBg s.mem.hoopFill = bg)
    (h : cellsWf bg s.mem.cells = true) : cellsWf bg (s.hoopStart t).mem.cells = true := by
  unfold State.hoopStart
  simp [*]

@[simp] theorem State.netStart_ramWf {bg : Nat → Byte} (s : State) (t : Nat) (num : BitVec 32) (rowTime : Nat) (mayLive : Bool) (hb : memBg s.mem.hoopFill = bg)
    (h : cellsWf bg s.mem.cells = true) : cellsWf bg (s.netStart t num rowTime mayLive).mem.cells = true := by
  unfold State.netStart
  repeat' split
  all_goals simp [*]

@[simp] theorem State.beaconStart_ramWf {bg : Nat → Byte} (s : State) (b : BeaconTiming) (hb : memBg s.mem.hoopFill = bg)
    (h : cellsWf bg s.mem.cells = true) : cellsWf bg (s.beaconStart b).mem.cells = true := by
  unfold State.beaconStart
  simp [*]

@[simp] theorem State.blackStart_ramWf {bg : Nat → Byte} (s : State) (hb : memBg s.mem.hoopFill = bg)
    (h : cellsWf bg s.mem.cells = true) : cellsWf bg s.blackStart.mem.cells = true := by
  unfold State.blackStart
  simp [*]

@[simp] theorem State.sendRow_ramWf {bg : Nat → Byte} (s : State) (r : Nat) (ground : List Nat) (concealed : Bool) (hb : memBg s.mem.hoopFill = bg)
    (h : cellsWf bg s.mem.cells = true) : cellsWf bg (s.sendRow r ground concealed).mem.cells = true := by
  unfold State.sendRow
  simp [*]

@[simp] theorem State.judgeHalf_ramWf {bg : Nat → Byte} (s : State) (i : Side) (r : Nat) (hb : memBg s.mem.hoopFill = bg)
    (h : cellsWf bg s.mem.cells = true) : cellsWf bg (s.judgeHalf i r).mem.cells = true := by
  unfold State.judgeHalf
  repeat' split
  all_goals simp [*]

@[simp] theorem State.liveRow_ramWf {bg : Nat → Byte} (s : State) (r : Nat) (hb : memBg s.mem.hoopFill = bg)
    (h : cellsWf bg s.mem.cells = true) : cellsWf bg (s.liveRow r).mem.cells = true := by
  have h1 : cellsWf bg (s.carriers.foldl (fun t i => t.judgeHalf i r) s).mem.cells = true :=
    State.foldl_ramWf _ (fun _ _ => by simp) (fun _ _ hb h => State.judgeHalf_ramWf _ _ _ hb h) _ _ hb h
  unfold State.liveRow
  dsimp only
  refine State.sendRow_ramWf _ _ _ _ ?_ ?_
  · split <;> simp [hb]
  · split <;> simpa using h1

@[simp] theorem State.startRow_ramWf {bg : Nat → Byte} (s : State) (r : Nat) (hb : memBg s.mem.hoopFill = bg)
    (h : cellsWf bg s.mem.cells = true) : cellsWf bg (s.startRow r).mem.cells = true := by
  unfold State.startRow
  repeat' split
  all_goals simp [*]

@[simp] theorem State.rowGo_ramWf {bg : Nat → Byte} (s : State) (n : Nat) (hb : memBg s.mem.hoopFill = bg)
    (h : cellsWf bg s.mem.cells = true) : cellsWf bg (s.rowGo n).mem.cells = true := by
  unfold State.rowGo
  simp [*]

@[simp] theorem State.underrunAt_ramWf {bg : Nat → Byte} (s : State) (n : Nat) (l r : List MemClient) (hb : memBg s.mem.hoopFill = bg)
    (h : cellsWf bg s.mem.cells = true) : cellsWf bg (s.underrunAt n l r).mem.cells = true := by
  unfold State.underrunAt
  simp [*]

@[simp] theorem State.clearAttained_ramWf {bg : Nat → Byte} (s : State) (hb : memBg s.mem.hoopFill = bg)
    (h : cellsWf bg s.mem.cells = true) : cellsWf bg s.clearAttained.mem.cells = true := by
  unfold State.clearAttained
  simp [*]

@[simp] theorem State.rasterGo_ramWf {bg : Nat → Byte} (s : State) (hb : memBg s.mem.hoopFill = bg)
    (h : cellsWf bg s.mem.cells = true) : cellsWf bg s.rasterGo.mem.cells = true := by
  unfold State.rasterGo
  dsimp only
  repeat' split
  all_goals simp [*]

@[simp] theorem State.modeNow_ramWf {bg : Nat → Byte} (s : State) (m : Mode) (hb : memBg s.mem.hoopFill = bg)
    (h : cellsWf bg s.mem.cells = true) : cellsWf bg (s.modeNow m).mem.cells = true := by
  unfold State.modeNow
  simp [*]

@[simp] theorem State.blockError_ramWf {bg : Nat → Byte} (s : State) (i : Side) (lane : Nat) (hb : memBg s.mem.hoopFill = bg)
    (h : cellsWf bg s.mem.cells = true) : cellsWf bg (s.blockError i lane).mem.cells = true := by
  unfold State.blockError
  simp [*]

@[simp] theorem State.setErrors_ramWf {bg : Nat → Byte} (s : State) (i : Side) (wrong : LaneGroup → LinkBlock → Bool) (set : List LinkBlock) (hb : memBg s.mem.hoopFill = bg)
    (h : cellsWf bg s.mem.cells = true) : cellsWf bg (s.setErrors i wrong set).mem.cells = true := by
  unfold State.setErrors
  dsimp only
  repeat' split
  all_goals simp +contextual [*]

@[simp] theorem State.fsIn_ramWf {bg : Nat → Byte} (s : State) (i : Side) (p : List Byte) (hb : memBg s.mem.hoopFill = bg)
    (h : cellsWf bg s.mem.cells = true) : cellsWf bg (s.fsIn i p).mem.cells = true := by
  unfold State.fsIn
  simp [*]

@[simp] theorem State.rowUnusable_ramWf {bg : Nat → Byte} (s : State) (i : Side) (f : InputFrame) (r : Nat) (hb : memBg s.mem.hoopFill = bg)
    (h : cellsWf bg s.mem.cells = true) : cellsWf bg (s.rowUnusable i f r).mem.cells = true := by
  unfold State.rowUnusable
  simp [*]

@[simp] theorem State.rowGood_ramWf {bg : Nat → Byte} (s : State) (i : Side) (f : InputFrame) (r : Nat) (enc : Bool) (p : List Byte) (hb : memBg s.mem.hoopFill = bg)
    (h : cellsWf bg s.mem.cells = true) : cellsWf bg (s.rowGood i f r enc p).mem.cells = true := by
  unfold State.rowGood
  repeat' split
  all_goals simp [*]

@[simp] theorem State.rowIn_ramWf {bg : Nat → Byte} (s : State) (i : Side) (f : InputFrame) (enc : Bool) (p : List Byte) (hb : memBg s.mem.hoopFill = bg)
    (h : cellsWf bg s.mem.cells = true) : cellsWf bg (s.rowIn i f enc p).mem.cells = true := by
  unfold State.rowIn
  simp [*]

@[simp] theorem State.rowPacket_ramWf {bg : Nat → Byte} (s : State) (i : Side) (enc : Bool) (p : List Byte) (hb : memBg s.mem.hoopFill = bg)
    (h : cellsWf bg s.mem.cells = true) : cellsWf bg (s.rowPacket i enc p).mem.cells = true := by
  unfold State.rowPacket
  dsimp only
  repeat' split
  all_goals simp [*]

@[simp] theorem State.frameWhole_ramWf {bg : Nat → Byte} (s : State) (hb : memBg s.mem.hoopFill = bg)
    (h : cellsWf bg s.mem.cells = true) : cellsWf bg s.frameWhole.mem.cells = true := by
  unfold State.frameWhole
  repeat' split
  all_goals simp [*]

@[simp] theorem State.fePacket_ramWf {bg : Nat → Byte} (s : State) (i : Side) (p : List Byte) (hb : memBg s.mem.hoopFill = bg)
    (h : cellsWf bg s.mem.cells = true) : cellsWf bg (s.fePacket i p).mem.cells = true := by
  unfold State.fePacket
  dsimp only
  repeat' split
  all_goals simp [*]

@[simp] theorem State.surfPacket_ramWf {bg : Nat → Byte} (s : State) (i : Side) (enc : Bool) (p : List Byte) (hb : memBg s.mem.hoopFill = bg)
    (h : cellsWf bg s.mem.cells = true) : cellsWf bg (s.surfPacket i enc p).mem.cells = true := by
  unfold State.surfPacket
  simp [*]

@[simp] theorem State.sleepPacket_ramWf {bg : Nat → Byte} (s : State) (i : Side) (p : List Byte) (hb : memBg s.mem.hoopFill = bg)
    (h : cellsWf bg s.mem.cells = true) : cellsWf bg (s.sleepPacket i p).mem.cells = true := by
  unfold State.sleepPacket
  simp [*]

@[simp] theorem State.packet_ramWf {bg : Nat → Byte} (s : State) (i : Side) (type : Nat) (enc : Bool) (p : List Byte) (hb : memBg s.mem.hoopFill = bg)
    (h : cellsWf bg s.mem.cells = true) : cellsWf bg (s.packet i type enc p).mem.cells = true := by
  unfold State.packet
  repeat' split
  all_goals simp [*]

@[simp] theorem State.heard_ramWf {bg : Nat → Byte} (s : State) (i : Side) (a : Heard) (hb : memBg s.mem.hoopFill = bg)
    (h : cellsWf bg s.mem.cells = true) : cellsWf bg (s.heard i a).mem.cells = true := by
  unfold State.heard
  repeat' split
  all_goals simp [*]

@[simp] theorem State.judgeSets_ramWf {bg : Nat → Byte} (s : State) (i : Side) (sets : List (List LinkBlock)) (hb : memBg s.mem.hoopFill = bg)
    (h : cellsWf bg s.mem.cells = true) : cellsWf bg (s.judgeSets i sets).mem.cells = true := by
  unfold State.judgeSets
  repeat' split
  all_goals (try simp +contextual [*])
  all_goals (repeat' split)
  all_goals (try simp_all +contextual)

@[simp] theorem State.packetIn_ramWf {bg : Nat → Byte} (s : State) (side : Side) (at_ : Nat) (sets : List (List LinkBlock)) (hb : memBg s.mem.hoopFill = bg)
    (h : cellsWf bg s.mem.cells = true) : cellsWf bg (s.packetIn side at_ sets).mem.cells = true := by
  unfold State.packetIn
  dsimp only
  split
  · exact h
  · split <;> simp [*]

@[simp] theorem State.throttle_memWf (s : State) (h : cellsWf (memBg s.mem.hoopFill) s.mem.cells = true) :
    cellsWf (memBg s.throttle.mem.hoopFill) s.throttle.mem.cells = true := by
  unfold State.throttle
  dsimp only
  repeat' split
  all_goals simp [*]

@[simp] theorem State.shutdownWatch_memWf (s : State) (h : cellsWf (memBg s.mem.hoopFill) s.mem.cells = true) :
    cellsWf (memBg s.shutdownWatch.mem.hoopFill) s.shutdownWatch.mem.cells = true := by
  unfold State.shutdownWatch
  repeat' split
  all_goals simp [*]

@[simp] theorem State.bootReached_norWf (s : State) (g : Stage) (h : cellsWf flashBg s.nv.nor = true) : cellsWf flashBg (s.bootReached g).nv.nor = true := by
  unfold State.bootReached
  simp [*]

@[simp] theorem State.boardProfile_norWf (s : State) (h : cellsWf flashBg s.nv.nor = true) : cellsWf flashBg s.boardProfile.nv.nor = true := by
  unfold State.boardProfile
  repeat' split
  all_goals simp [*]

@[simp] theorem State.builtIn_ramWf {bg : Nat → Byte} (s : State) (hb : memBg s.mem.hoopFill = bg)
    (h : cellsWf bg s.mem.cells = true) : cellsWf bg s.builtIn.mem.cells = true := by
  unfold State.builtIn
  simp [*]

@[simp] theorem State.planeFromSnap_ramWf {bg : Nat → Byte} (s : State) (i gen : Nat) (data : List Byte) (hb : memBg s.mem.hoopFill = bg)
    (h : cellsWf bg s.mem.cells = true) : cellsWf bg (s.planeFromSnap i gen data).mem.cells = true := by
  unfold State.planeFromSnap
  simp [*]

@[simp] theorem State.planeFromSlot_ramWf {bg : Nat → Byte} (s : State) (i : Nat) (hb : memBg s.mem.hoopFill = bg)
    (h : cellsWf bg s.mem.cells = true) : cellsWf bg (s.planeFromSlot i).mem.cells = true := by
  unfold State.planeFromSlot
  repeat' split
  all_goals simp [*]

@[simp] theorem State.fieldPlane_ramWf {bg : Nat → Byte} (s : State) (i : Nat) (c : Option (Nat × List Byte × IndexExtra × Nat)) (hb : memBg s.mem.hoopFill = bg)
    (h : cellsWf bg s.mem.cells = true) : cellsWf bg (s.fieldPlane i c).mem.cells = true := by
  unfold State.fieldPlane
  repeat' split
  all_goals simp [*]

@[simp] theorem State.curveLoad_ramWf {bg : Nat → Byte} (s : State) (hb : memBg s.mem.hoopFill = bg)
    (h : cellsWf bg s.mem.cells = true) : cellsWf bg s.curveLoad.mem.cells = true := by
  unfold State.curveLoad
  repeat' split
  all_goals simp [*]

@[simp] theorem State.stressPlane_ramWf {bg : Nat → Byte} (s : State) (data : List Byte) (hb : memBg s.mem.hoopFill = bg)
    (h : cellsWf bg s.mem.cells = true) : cellsWf bg (s.stressPlane data).mem.cells = true := by
  unfold State.stressPlane
  dsimp only
  repeat' split
  all_goals simp +contextual [*]

@[simp] theorem State.pfwPut_memWf (s : State) (d : Fin 19) (h : cellsWf (memBg s.mem.hoopFill) s.mem.cells = true) :
    cellsWf (memBg (s.pfwPut d).mem.hoopFill) (s.pfwPut d).mem.cells = true := by
  unfold State.pfwPut
  dsimp only
  repeat' split
  all_goals simp [*]

@[simp] theorem State.pfwPut_norWf (s : State) (d : Fin 19) (h : cellsWf flashBg s.nv.nor = true) : cellsWf flashBg (s.pfwPut d).nv.nor = true := by
  unfold State.pfwPut
  simp [*]

end Sys2Proof.Machine
end

