-- ==== Sys2Proof/Laws/PerInstr.lean ====
section
/-! SUPPORT. What well-formedness asks of each command, one lemma per constructor. -/

namespace Sys2Proof.Laws.WellFormed

/-- What makes a command well formed: the lengths of its operand lists, and nothing where it has none whose length its source fixes. -/
def Statement (i : Instr) : Prop :=
  match i with
  | .thermalSample die _ _ => i.wf = true ↔ die.length = 12
  | .hlBlockLock _ phases => i.wf = true ↔ phases.length = 8
  | .hlEqualizeDone _ eyes => i.wf = true ↔ eyes.length = 8
  | .hlDeskewDone _ _ lanes => i.wf = true ↔ lanes.delays.length = 8
  | _ => i.wf = true

theorem aonPowerUp (vinMv : BitVec 16) : Statement (.aonPowerUp vinMv) := rfl
theorem strapSample (straps : Straps) : Statement (.strapSample straps) := rfl
theorem resonatorCheck (oscillates : Bool) (milliPercent : BitVec 32) : Statement (.resonatorCheck oscillates milliPercent) := rfl
theorem vinBootMeasure (vinMv : BitVec 16) : Statement (.vinBootMeasure vinMv) := rfl
theorem rootPllLock : Statement .rootPllLock := rfl
theorem bootRomCheckDone (readError : Bool) : Statement (.bootRomCheckDone readError) := rfl
theorem bootWatchdogExpiry : Statement .bootWatchdogExpiry := rfl
theorem firmwareWatchdogExpiry : Statement .firmwareWatchdogExpiry := rfl
theorem samplerScanDone : Statement .samplerScanDone := rfl
theorem memReady : Statement .memReady := rfl
theorem persistedTableLoadDone (table : BitVec 16) : Statement (.persistedTableLoadDone table) := rfl
theorem mapLoadDone : Statement .mapLoadDone := rfl
theorem mapWaitLimitExpiry : Statement .mapWaitLimitExpiry := rfl
theorem rasterStart (tick : FrameTick) : Statement (.rasterStart tick) := rfl
theorem stressSnapshotLoadDone : Statement .stressSnapshotLoadDone := rfl
theorem clipLoadDone (inst : BitVec 8) : Statement (.clipLoadDone inst) := rfl
theorem resetNAssert : Statement .resetNAssert := rfl
theorem resetNRelease (straps : Straps) : Statement (.resetNRelease straps) := rfl
theorem lockstepReset : Statement .lockstepReset := rfl
theorem pllLossOfLock : Statement .pllLossOfLock := rfl
theorem undervoltageLockout : Statement .undervoltageLockout := rfl
theorem hardwareSafeStopEnd : Statement .hardwareSafeStopEnd := rfl
theorem jtagTrst : Statement .jtagTrst := rfl
theorem thermalSample (die : List (BitVec 16)) (mem0 mem1 : BitVec 16) : Statement (.thermalSample die mem0 mem1) := by simp [Statement, Instr.wf]
theorem thmReleaseExpiry : Statement .thmReleaseExpiry := rfl
theorem riseTriggerRearm : Statement .riseTriggerRearm := rfl
theorem thermalRequestRepeat : Statement .thermalRequestRepeat := rfl
theorem pfwAssert (vinMv : BitVec 16) : Statement (.pfwAssert vinMv) := rfl
theorem pfwSaveDone : Statement .pfwSaveDone := rfl
theorem pfwDeassert (vinMv : BitVec 16) : Statement (.pfwDeassert vinMv) := rfl
theorem pfwRecoverExpiry : Statement .pfwRecoverExpiry := rfl
theorem ctlReadStatus : Statement .ctlReadStatus := rfl
theorem regWrite (port : Port) (access : RegAccess) : Statement (.regWrite port access) := rfl
theorem timeLoRead (port : Port) : Statement (.timeLoRead port) := rfl
theorem resetKeyWrite (port : Port) (data : Word) : Statement (.resetKeyWrite port data) := rfl
theorem irqStatusClear (port : Port) (data : Word) : Statement (.irqStatusClear port data) := rfl
theorem faultCauseClear (port : Port) (data : Word) : Statement (.faultCauseClear port data) := rfl
theorem wakeCauseClear (port : Port) (data : Word) : Statement (.wakeCauseClear port data) := rfl
theorem portErrorsClear (port : Port) (data : Word) : Statement (.portErrorsClear port data) := rfl
theorem mbDoorbell (mb : Mb) (data : Word) : Statement (.mbDoorbell mb data) := rfl
theorem mbRelease (mb : Mb) (data : Word) : Statement (.mbRelease mb data) := rfl
theorem ctlPacket (side : Side) (burst : LinkBurst) : Statement (.ctlPacket side burst) := rfl
theorem unknownCommand (mb : Mb) : Statement (.unknownCommand mb) := rfl
theorem ident (mb : Mb) : Statement (.ident mb) := rfl
theorem paramGet (mb : Mb) : Statement (.paramGet mb) := rfl
theorem paramSet (mb : Mb) : Statement (.paramSet mb) := rfl
theorem paramGetMulti (mb : Mb) : Statement (.paramGetMulti mb) := rfl
theorem paramSetMulti (mb : Mb) : Statement (.paramSetMulti mb) := rfl
theorem logClear (mb : Mb) : Statement (.logClear mb) := rfl
theorem logFirstFaultClear (mb : Mb) : Statement (.logFirstFaultClear mb) := rfl
theorem pwrResClear (mb : Mb) : Statement (.pwrResClear mb) := rfl
theorem commit (mb : Mb) : Statement (.commit mb) := rfl
theorem commitStatus (mb : Mb) : Statement (.commitStatus mb) := rfl
theorem discard (mb : Mb) : Statement (.discard mb) := rfl
theorem funcStop (mb : Mb) : Statement (.funcStop mb) := rfl
theorem funcStart (mb : Mb) : Statement (.funcStart mb) := rfl
theorem funcState (mb : Mb) : Statement (.funcState mb) := rfl
theorem modeChange (mb : Mb) : Statement (.modeChange mb) := rfl
theorem funcReset (mb : Mb) : Statement (.funcReset mb) := rfl
theorem tableLoad (mb : Mb) : Statement (.tableLoad mb) := rfl
theorem tableRead (mb : Mb) : Statement (.tableRead mb) := rfl
theorem profileApply (mb : Mb) : Statement (.profileApply mb) := rfl
theorem vote (mb : Mb) : Statement (.vote mb) := rfl
theorem pwrState (mb : Mb) : Statement (.pwrState mb) := rfl
theorem standbyEntry : Statement .standbyEntry := rfl
theorem logRead (mb : Mb) : Statement (.logRead mb) := rfl
theorem statsRead (mb : Mb) : Statement (.statsRead mb) := rfl
theorem nvRead (mb : Mb) (pageFails : Bool) : Statement (.nvRead mb pageFails) := rfl
theorem nvWriteRecord (mb : Mb) : Statement (.nvWriteRecord mb) := rfl
theorem norProgramDone (mismatch : Bool) : Statement (.norProgramDone mismatch) := rfl
theorem nvRawProgram (mb : Mb) : Statement (.nvRawProgram mb) := rfl
theorem nvErase (mb : Mb) : Statement (.nvErase mb) := rfl
theorem nvEraseDone (failed : List Nat) : Statement (.nvEraseDone failed) := rfl
theorem samplerCompaction (bank1 : Bool) : Statement (.samplerCompaction bank1) := rfl
theorem nandStoreDone (object : Word) (failed : Bool) : Statement (.nandStoreDone object failed) := rfl
theorem cmpRun (mb : Mb) : Statement (.cmpRun mb) := rfl
theorem cmpContainerDone : Statement .cmpContainerDone := rfl
theorem secSession (mb : Mb) : Statement (.secSession mb) := rfl
theorem hello (side : Side) (burst : LinkBurst) : Statement (.hello side burst) := rfl
theorem finish (side : Side) (burst : LinkBurst) : Statement (.finish side burst) := rfl
theorem nonceExpiry : Statement .nonceExpiry := rfl
theorem secApprove (mb : Mb) : Statement (.secApprove mb) := rfl
theorem approvalBundleCheckDone : Statement .approvalBundleCheckDone := rfl
theorem secStatus (mb : Mb) : Statement (.secStatus mb) := rfl
theorem secFwUpdate (mb : Mb) : Statement (.secFwUpdate mb) := rfl
theorem fwImageCheckDone : Statement .fwImageCheckDone := rfl
theorem tatEnumerate (mb : Mb) : Statement (.tatEnumerate mb) := rfl
theorem tatStage (mb : Mb) : Statement (.tatStage mb) := rfl
theorem tatArm (mb : Mb) : Statement (.tatArm mb) := rfl
theorem tatAbort (mb : Mb) : Statement (.tatAbort mb) := rfl
theorem tatStatus (mb : Mb) : Statement (.tatStatus mb) := rfl
theorem panelOn (mb : Mb) : Statement (.panelOn mb) := rfl
theorem panelOff (mb : Mb) : Statement (.panelOff mb) := rfl
theorem panelSafeStop (mb : Mb) : Statement (.panelSafeStop mb) := rfl
theorem eyeSet (mb : Mb) : Statement (.eyeSet mb) := rfl
theorem eyeRead (mb : Mb) : Statement (.eyeRead mb) := rfl
theorem hlActivityQualified (side : Side) : Statement (.hlActivityQualified side) := rfl
theorem hlWakePattern (side : Side) : Statement (.hlWakePattern side) := rfl
theorem hlWakeGlitch (side : Side) : Statement (.hlWakeGlitch side) := rfl
theorem hlReceivePllLock (side : Side) (rate : BitVec 14) : Statement (.hlReceivePllLock side rate) := rfl
theorem hlBlockLock (side : Side) (phases : List (BitVec 6)) : Statement (.hlBlockLock side phases) := by simp [Statement, Instr.wf]
theorem hlEqualizeDone (side : Side) (eyes : List LaneEye) : Statement (.hlEqualizeDone side eyes) := by simp [Statement, Instr.wf]
theorem hlDeskewDone (side : Side) (skew : BitVec 16) (lanes : DeskewLanes) : Statement (.hlDeskewDone side skew lanes) := by simp [Statement, Instr.wf]
theorem hlTrainTimeout (side : Side) (lane : BitVec 8) : Statement (.hlTrainTimeout side lane) := rfl
theorem hlTrainBackoffExpiry : Statement .hlTrainBackoffExpiry := rfl
theorem hlClockLost (side : Side) (activity : Bool) : Statement (.hlClockLost side activity) := rfl
theorem hlBlockError (side : Side) (lane : Fin 8) (incoming : Nat × LinkBlock) : Statement (.hlBlockError side lane incoming) := rfl
theorem hlTs1Retrain (incoming : Side × List LinkBlock) : Statement (.hlTs1Retrain incoming) := rfl
theorem hlSof (incoming : Side × List LinkBlock) : Statement (.hlSof incoming) := rfl
theorem hlEios : Statement .hlEios := rfl
theorem hlFs (side : Side) (at_ : Nat) (sets : List (List LinkBlock)) : Statement (.hlFs side at_ sets) := rfl
theorem hlRow (side : Side) (at_ : Nat) (first : List LinkBlock) (rest : List (List LinkBlock)) : Statement (.hlRow side at_ first rest) := rfl
theorem hlFe (side : Side) (at_ : Nat) (sets : List (List LinkBlock)) : Statement (.hlFe side at_ sets) := rfl
theorem hlSurf (side : Side) (at_ : Nat) (sets : List (List LinkBlock)) : Statement (.hlSurf side at_ sets) := rfl
theorem hlSleep (side : Side) (burst : LinkBurst) : Statement (.hlSleep side burst) := rfl
theorem hlKeep (side : Side) (burst : LinkBurst) : Statement (.hlKeep side burst) := rfl
theorem packetHeaderCrcFail (incoming : Side × LinkBurst) : Statement (.packetHeaderCrcFail incoming) := rfl
theorem hlUnknownPkt (incoming : Side × LinkBurst) : Statement (.hlUnknownPkt incoming) := rfl
theorem backChannelSend : Statement .backChannelSend := rfl
theorem statusTimer : Statement .statusTimer := rfl
theorem frameStart (at_ : Nat) (fifoA fifoB : BitVec 6) : Statement (.frameStart at_ fifoA fifoB) := rfl
theorem rowSlotStart (at_ : Nat) (bursts : List Burst) (blockFail nextFail : Bool) : Statement (.rowSlotStart at_ bursts blockFail nextFail) := rfl
theorem verticalBlankStart (at_ : Nat) : Statement (.verticalBlankStart at_) := rfl
theorem repeatDeadline (tick : FrameTick) : Statement (.repeatDeadline tick) := rfl
theorem predictiveRepeat (tick : FrameTick) : Statement (.predictiveRepeat tick) := rfl
theorem timingGeneratorPeriod (tick : FrameTick) : Statement (.timingGeneratorPeriod tick) := rfl
theorem ladderDwellExpiry (at_ : Nat) : Statement (.ladderDwellExpiry at_) := rfl
theorem continuityDelayExpiry (at_ : Nat) : Statement (.continuityDelayExpiry at_) := rfl
theorem clipStepDue (at_ : Nat) : Statement (.clipStepDue at_) := rfl
theorem memSleepEntry (at_ : Nat) (bursts : List Burst) : Statement (.memSleepEntry at_ bursts) := rfl
theorem memSleepExit (at_ : Nat) (bursts : List Burst) : Statement (.memSleepExit at_ bursts) := rfl
theorem residenceCompressDone : Statement .residenceCompressDone := rfl
theorem odTableCopyDone : Statement .odTableCopyDone := rfl
theorem sensedRow (slot : Fin 4) : Statement (.sensedRow slot) := rfl
theorem senseReturnReply (lane : Fin 6) (codes : List (BitVec 10)) : Statement (.senseReturnReply lane codes) := rfl
theorem replyTimeout (lane : Fin 6) : Statement (.replyTimeout lane) := rfl
theorem tempPoll : Statement .tempPoll := rfl
theorem updatePass : Statement .updatePass := rfl
theorem snapshotStart : Statement .snapshotStart := rfl
theorem snapshotComplete (failed : Bool) : Statement (.snapshotComplete failed) := rfl
theorem snapshotOverrun : Statement .snapshotOverrun := rfl
theorem mapStoreDone (table : BitVec 16) (failed : Bool) : Statement (.mapStoreDone table failed) := rfl
theorem restSweepRow (results : List (BitVec 16)) : Statement (.restSweepRow results) := rfl
theorem restLimitExpiry : Statement .restLimitExpiry := rfl
theorem panelPowerOnStep : Statement .panelPowerOnStep := rfl
theorem bobbinTrainingPhaseEnd : Statement .bobbinTrainingPhaseEnd := rfl
theorem bobLockNFall : Statement .bobLockNFall := rfl
theorem bobLockNRise : Statement .bobLockNRise := rfl
theorem dischargeStepEnd : Statement .dischargeStepEnd := rfl
theorem panelPowerOffStep : Statement .panelPowerOffStep := rfl
theorem tatPortUp (port : TatPort) : Statement (.tatPortUp port) := rfl
theorem tatCodeError (port : TatPort) (at_ : Nat) : Statement (.tatCodeError port at_) := rfl
theorem tatPortSilence (port : TatPort) : Statement (.tatPortSilence port) := rfl
theorem tatMsgCrcFail (incoming : TatPort × List (BitVec 10)) : Statement (.tatMsgCrcFail incoming) := rfl
theorem delayReqTimer (sent : Nat) : Statement (.delayReqTimer sent) := rfl
theorem delayReq (port : TatPort) (arrived sent : Nat) (codes : List (BitVec 10)) : Statement (.delayReq port arrived sent codes) := rfl
theorem delayResp (arrived : Nat) (codes : List (BitVec 10)) : Statement (.delayResp arrived codes) := rfl
theorem delayRespTimeout : Statement .delayRespTimeout := rfl
theorem beaconSend : Statement .beaconSend := rfl
theorem beacon (port : TatPort) (arrived sent0 sent1 : Nat) (codes : List (BitVec 10)) : Statement (.beacon port arrived sent0 sent1 codes) := rfl
theorem beaconMissing : Statement .beaconMissing := rfl
theorem enumerate (port : TatPort) (codes : List (BitVec 10)) : Statement (.enumerate port codes) := rfl
theorem enumDone (port : TatPort) (codes : List (BitVec 10)) : Statement (.enumDone port codes) := rfl
theorem enumTimeout (port : TatPort) : Statement (.enumTimeout port) := rfl
theorem stageFragment (port : TatPort) (codes : List (BitVec 10)) : Statement (.stageFragment port codes) := rfl
theorem countUp (port : TatPort) (codes : List (BitVec 10)) : Statement (.countUp port codes) := rfl
theorem tatStageTimeout : Statement .tatStageTimeout := rfl
theorem setReq (port : TatPort) (codes : List (BitVec 10)) : Statement (.setReq port codes) := rfl
theorem abortEpoch (port : TatPort) (codes : List (BitVec 10)) : Statement (.abortEpoch port codes) := rfl
theorem peer (port : TatPort) (codes : List (BitVec 10)) : Statement (.peer port codes) := rfl
theorem pairFrame (arrived : Nat) (codes : List (BitVec 10)) : Statement (.pairFrame arrived codes) := rfl
theorem pairStrobe (arrived : Nat) : Statement (.pairStrobe arrived) := rfl
theorem pairEvent (port : TatPort) (codes : List (BitVec 10)) : Statement (.pairEvent port codes) := rfl
theorem pairEventRepeat : Statement .pairEventRepeat := rfl
theorem ctlCsWake : Statement .ctlCsWake := rfl
theorem svcAddressMatch : Statement .svcAddressMatch := rfl
theorem picotActivity : Statement .picotActivity := rfl
theorem wakeTimerExpiry : Statement .wakeTimerExpiry := rfl
theorem wakeVoteLapse : Statement .wakeVoteLapse := rfl
theorem idleTimerExpiry (d : Fin 19) : Statement (.idleTimerExpiry d) := rfl
theorem domainEntryDone (d : Fin 19) : Statement (.domainEntryDone d) := rfl
theorem wakeGrant : Statement .wakeGrant := rfl
theorem domainWakeDone (d : Fin 19) : Statement (.domainWakeDone d) := rfl
theorem wakeFailureTimeout (d : Fin 19) (clockLock : Bool) : Statement (.wakeFailureTimeout d clockLock) := rfl
theorem retryOffExpiry (d : Fin 19) : Statement (.retryOffExpiry d) := rfl
theorem statMaxTimeExpiry : Statement .statMaxTimeExpiry := rfl
theorem updatePassDone : Statement .updatePassDone := rfl
theorem secKeyAgreementDone : Statement .secKeyAgreementDone := rfl
theorem ctlCsNRise (leftover : BitVec 5) : Statement (.ctlCsNRise leftover) := rfl
theorem svcStop (leftover : BitVec 2) : Statement (.svcStop leftover) := rfl

end Sys2Proof.Laws.WellFormed
end

