-- ==== Sys2Proof/Laws/Serve.lean ====
section
/-! SUPPORT. What serving a mailbox request does: a request that passes the checks gets its command's own reply, any other request changes nothing; what taking, posting and settling leave alone. -/

namespace Sys2Proof.Machine

/-- Votes act on the domains' run alone: every field but `pwr` stays. -/
theorem State.settle_eq (s : State) : ∃ p, s.settle = { s with pwr := p } := by
  unfold State.settle
  split
  · exact ⟨s.pwr, rfl⟩
  · exact ⟨_, rfl⟩

/-- A new target changes what a domain is about to do, never the state it is in. -/
@[simp] theorem Domain.retarget_st (d : Domain) (t : DomState) (now idleUs : Nat) : (d.retarget t now idleUs).st = d.st := by
  unfold Domain.retarget
  dsimp only
  repeat' split
  all_goals rfl

/-- Votes never change the state a domain is in. -/
@[simp] theorem State.settle_st (s : State) (d : Fin 19) : s.settle.pwr.dom[d].st = s.pwr.dom[d].st := by
  unfold State.settle
  split
  · rfl
  · simp [Vector.getElem_mapFinIdx]

@[simp] theorem State.settle_domOn (s : State) (d : Fin 19) : s.settle.domOn d = s.domOn d := by
  unfold State.domOn
  rw [State.settle_st]

@[simp] theorem State.onMb_get (s : State) (i : Mb) (f : Mailbox → Mailbox) : (s.onMb i f).mb i = f (s.mb i) := by
  cases i <;> rfl

@[simp] theorem State.take_req (s : State) (i : Mb) : ((s.take i).mb i).req = (s.mb i).req := by
  cases i <;> rfl

@[simp] theorem State.take_tag (s : State) (i : Mb) : ((s.take i).mb i).tag = (s.mb i).tag := by
  cases i <;> rfl

@[simp] theorem State.take_jobs (s : State) (i : Mb) : (s.take i).box.jobs = s.box.jobs := by
  cases i <;> rfl

@[simp] theorem State.take_macOk (s : State) (i : Mb) (r : List Byte) : (s.take i).macOk r = s.macOk r := by
  cases i <;> rfl

theorem State.taken_jobs (s : State) (i : Mb) : (s.taken i).box.jobs = s.box.jobs := by
  cases i <;> rfl

theorem State.taken_tag (s : State) (i : Mb) : ((s.taken i).mb i).tag = (s.mb i).tag := by
  cases i <;> rfl

theorem State.taken_boot (s : State) (i : Mb) : (s.taken i).boot = s.boot := by
  cases i <;> rfl

/-- A request that reaches its command's meaning gets the reply of that meaning. -/
theorem State.serve_served {s : State} {i : Mb} {c : Cmd} (run : List Byte → State → Reply) (h : s.served i c = true) :
    s.serve i c run = .next (s.replied i c (run (s.reqBody i) (s.taken i))).settle := by
  simp only [State.served, State.allowed, Bool.and_eq_true, beq_iff_eq, Bool.not_eq_true', State.reqBody] at h
  obtain ⟨⟨⟨⟨⟨⟨⟨⟨ht, hc⟩, hp⟩, hs⟩, hf⟩, hl⟩, hlo⟩, hz⟩, hj⟩ := h
  have hj' : (s.taken i).jobRuns c.code = false := by
    unfold State.jobRuns
    rw [State.taken_jobs]
    exact hj
  have e1 : (s.take i).serveTaken i c run = (s.taken i).serveBody i c run (s.reqBody i) := by
    unfold State.serveTaken
    simp only [State.take_req, State.take_macOk, hc, hp.1, hp.2]
    cases i <;> simp_all [State.taken, State.reqBody, State.take_frame]
  have e2 : (s.taken i).serveBody i c run (s.reqBody i) = s.replied i c (run (s.reqBody i) (s.taken i)) := by
    have hl' : ¬ maxPayload i < (s.reqBody i).length := by
      have := of_decide_eq_true hl
      unfold State.reqBody
      omega
    have hlo' : c.lenOk (s.reqBody i) = true := hlo
    have hz' : c.zeroOk (s.reqBody i) = true := hz
    unfold State.serveBody
    simp only [hl', hlo', hz', hj', decide_false, Bool.not_true, Bool.or_self, Bool.false_eq_true, if_false, Bool.false_and]
    cases run (s.reqBody i) (s.taken i) <;> simp [State.replied, State.taken_tag]
  unfold State.serve
  simp [ht, hc, e1, e2, done]

/-- A request of another command, or one that is not the firmware's next, changes nothing here. -/
theorem State.serve_other {s : State} {i : Mb} {c : Cmd} (run : List Byte → State → Reply)
    (h : s.takes i = false ∨ reqCode (s.mb i).req ≠ c.code) : s.serve i c run = .next s := by
  unfold State.serve
  rcases h with h | h <;> simp [h]

/-- Serving a request always gives a next state. -/
theorem State.serve_next (s : State) (i : Mb) (c : Cmd) (run : List Byte → State → Reply) : ∃ t, s.serve i c run = .next t := by
  unfold State.serve done
  split
  · exact ⟨_, rfl⟩
  · exact ⟨s, rfl⟩

end Sys2Proof.Machine
end

