-- ==== Sys2Proof/Tests/Slice0.lean ====
section
/-! SUPPORT. Own tests: helper states, an ill-formed term for each well-formedness check, the spec's worked examples, and for every statement with hypotheses a witness for each of its clauses. -/

open Sys2Proof Sys2Proof.Machine
set_option linter.unusedVariables false
set_option Elab.async false

namespace Sys2Proof.Tests

/-- Every power domain on. -/
def allOn (p : Power) : Power :=
  { p with dom := p.dom.map fun d => { d with st := .on, target := .on }, bootVote := true }

/-- The device with its firmware running and every domain on; the panel is off and the Vorul link idle. -/
def up : State :=
  { State.reset with
    boot := { State.reset.boot with
      stage := .running, strapsDone := true, rootLocked := true, profileOk := true, memReady := true, mapReady := true, mapLoaded := true }
    pwr := allOn State.reset.pwr }

/-- The same device in an earlier stage of start-up. -/
def at_ (g : Stage) : State := { up with boot := { up.boot with stage := g, profileOk := false, memReady := false, mapReady := false, mapLoaded := false } }

/-- Some parameters at other values than their defaults. -/
def withP (vs : List (Nat × Word)) (s : State) : State := { s with par := { s.par with active := vs } }

/-- A rung mailbox. -/
def rung (code : Nat) (p : List Byte) : Mailbox :=
  { Mailbox.initial with st := .pending, tag := 7, req := padBuf (toLe 2 code ++ toLe 2 p.length ++ toLe 2 7 ++ zeros 2 ++ p) }

/-- The state a command gives; the state before it where it stops. -/
def after (c : Instr) (s : State) : State :=
  match exec c s with
  | .next t => t
  | _ => s

/-- A command that gives a next state gives `after`. -/
theorem after_next {c : Instr} {s : State} (h : ∃ t, exec c s = .next t) : exec c s = .next (after c s) := by
  obtain ⟨t, h⟩ := h
  simp [after, h]

/-- A request of a code and payload waits in mailbox `i` as the firmware's next one. -/
def ask (s : State) (i : Mb) (code : Nat) (p : List Byte) : State :=
  { s with box := { s.box.set i (rung code p) with order := [i] } }

/-- One power domain in another state. -/
def dom (d : Fin 19) (f : Domain → Domain) (s : State) : State := { s with pwr := { s.pwr with dom := s.pwr.dom.set d (f s.pwr.dom[d]) } }

/-- The same device with the selected selvedge waveform loaded, so that every set PANEL_ON examines holds. -/
def waved : State := { up with tab := [{ id := 0x600, st := .valid, nextOff := 0, bytes := [] }] }

/-- The panel on with the raster scanning row 3 of frame 5. -/
def scanning : State :=
  { up with
    pnl := { up.pnl with st := .on }
    bob := { up.bob with lockState := 2 }
    sel := { up.sel with driven := true }
    ras := { up.ras with running := true, framesOn := 3, frame := 5, start := 1000000, inBlank := false, rowsStarted := 3, rowEnd := 2160, rowTime := 4595 }
    now := 1013786 }

/-- The same raster in a vertical blank that is over. -/
def blanking : State :=
  { scanning with ras := { scanning.ras with inBlank := true, rowsStarted := 2160, blankAt := 1000000, earliest := 1013000 } }

/-- The Vorul link ACTIVE on both groups. -/
def linked (s : State) : State :=
  { s with hl := { s.hl with a := { s.hl.a with st := .active, clockPresent := true }, b := { s.hl.b with st := .active, clockPresent := true }, attempts := 1 } }

/-- Both groups of the Vorul link in one state. -/
def groups (x : LinkState) : State :=
  { up with hl := { up.hl with a := { up.hl.a with st := x }, b := { up.hl.b with st := x }, attempts := 1 } }

/-- A panel in one state and step of its power sequence. -/
def panel (x : PanelState) (k : PowerStep) : State := { up with pnl := { up.pnl with st := x, step := k } }

/-- A Tatting port that is UP. -/
def portUp (x : TatPortState) : TatPortState := { x with st := .up }

/-- A device of the net with its ports UP; the root by strap when `root`. -/
def net (root : Bool) : State :=
  { up with
    boot := { up.boot with straps := { up.boot.straps with tatRoot := root } }
    tat := { up.tat with up := portUp up.tat.up, dn0 := portUp up.tat.dn0, dn1 := portUp up.tat.dn1, role := if root then 0 else 2 } }

/-- A device asleep, AON alone powered, waiting for a wake. -/
def asleep : State := { State.reset with boot := { State.reset.boot with stage := .running } }

/-- A pair's follower (right panel) and its master, joined by an UP port. -/
def follower : State :=
  { withP [(0x2807, 1)] (net false) with boot := { up.boot with straps := { up.boot.straps with pairRight := true } } }
/-- See `follower`. -/
def master : State := withP [(0x2807, 1)] (net true)

/-- The six planes VALID and taking part in the output. -/
def mapped (s : State) : State :=
  { s with
    boot := { s.boot with compensated := true }
    tab := (List.range 6).map fun i => { id := 0x400 + i, st := .valid, nextOff := 0, bytes := [] } }

/-- A reply of a driver with its CRC. -/
def msgOf (k g : Nat) (p : List Byte) : List Byte :=
  [Byte.of k, Byte.of g] ++ toLe 2 p.length ++ p ++ toLe 2 (crc16 ([Byte.of k, Byte.of g] ++ toLe 2 p.length ++ p))

/-- Bytes with their CRC-32C after them. -/
def crcd (b : List Byte) : List Byte := b ++ toLe 4 (crc32c b)

/-- An FS of frame 9 for a panel of 64 by 64 pixels at 10 bits. -/
def fsOf : List Byte := toLe 4 9 ++ [0, 1] ++ toLe 2 64 ++ toLe 2 64 ++ zeros 6

/-- The left half of row `r` of that frame. -/
def rowOf (r : Nat) : List Byte := crcd (toLe 2 r ++ [0, 1] ++ toLe 2 9 ++ toLe 2 32 ++ zeros 8 ++ List.replicate 120 0x35 ++ zeros 4)

/-- The NOR bank 0 with every sector written to and sector 0 alone formatted. -/
def oldSector : State :=
  (List.range 15).foldl (fun s k => s.norProgram (sectorBase false (k + 1)) [0])
    (up.norProgram (sectorBase false 0) (toLe 2 0x534D ++ [0, 1] ++ toLe 4 1 ++ toLe 4 (crc32c (toLe 2 0x534D ++ [0, 1] ++ toLe 4 1))))

/-- A scanning device whose clients have their next rows in SRAM. -/
def fed (s : State) : State := { s with mem := s.mem.mapFetch fun c f => if c.writes then f else { f with held := 10 } }

/-- A device in a vertical blank whose clients have fetched as far ahead as their buffers go. -/
def fedAll : State := { fed blanking with mem := blanking.mem.mapFetch fun c f => if c.writes then f else { f with ahead := 64 } }

/-- The code groups of a Tatting message. -/
def codesOf (kind : Nat) (p : List Byte) : List (BitVec 10) := (encodeRun (frameChars kind p) true).1

/-- The code groups of a driver's reply behind four K28.5. -/
def repliesOf (k g : Nat) (p : List Byte) : List (BitVec 10) :=
  (encodeRun ([.k28_5, .k28_5, .k28_5, .k28_5, .k27_7] ++ (msgOf k g p).map .data ++ [.k29_7]) true).1

/-- A CRC-32C is a 32-bit number. -/
theorem crcBit_lt (r : Nat) (h : r < 2 ^ 32) : crcBit 0x82F63B78 r < 2 ^ 32 := by
  unfold crcBit
  split
  · exact Nat.xor_lt_two_pow (by omega) (by decide)
  · omega

theorem crcByte_lt (r : Nat) (b : Byte) (h : r < 2 ^ 32) : crcByte 0x82F63B78 r b < 2 ^ 32 := by
  have hb : b.toNat < 2 ^ 32 := by have := b.isLt; omega
  have h0 : r ^^^ b.toNat < 2 ^ 32 := Nat.xor_lt_two_pow h hb
  simp only [crcByte, Nat.repeat]
  iterate 8 apply crcBit_lt
  exact h0

theorem crc32cRun_lt (bs : List Byte) (r : Nat) (h : r < 2 ^ 32) : crc32cRun r bs < 2 ^ 32 := by
  induction bs generalizing r with
  | nil => exact h
  | cons b bs ih => exact ih _ (crcByte_lt r b h)

theorem crc32c_lt (bs : List Byte) : crc32c bs < 2 ^ 32 := Nat.xor_lt_two_pow (crc32cRun_lt bs _ (by decide)) (by decide)

/-- The drive table of set 1 with 0x00 in every node: 13 920 bytes with their CRC. -/
@[irreducible] def driveTable : List Byte := [5, 1, 1, 0] ++ toLe 4 13920 ++ zeros 4 ++ toLe 4 (crc32c (zeros 13904)) ++ zeros 13904

theorem header_crc (z : List Byte) (c : Nat) (h : c < 2 ^ 32) :
    le4 ([5, 1, 1, 0] ++ toLe 4 13920 ++ zeros 4 ++ toLe 4 c ++ z) 12 = c ∧
      ([5, 1, 1, 0] ++ toLe 4 13920 ++ zeros 4 ++ toLe 4 c ++ z).drop 16 = z := by
  constructor
  · simp [le4, leAt, byteAt, toLe, zeros, Byte.of]
    omega
  · rfl

theorem driveTable_crc : le4 driveTable 12 = crc32c (driveTable.drop 16) := by
  have h := header_crc (zeros 13904) (crc32c (zeros 13904)) (crc32c_lt _)
  unfold driveTable
  rw [h.1, h.2]

theorem driveTable_passes (s : State) : s.tableCheck 0x0105 driveTable = some driveTable := by
  have hl : driveTable.length = 13920 := by decide +kernel
  have h4 : le4 driveTable 4 = 13920 := by decide +kernel
  have h0 : le2 driveTable 0 = 0x0105 := by decide +kernel
  have h2 : byteAt driveTable 2 = 1 := by decide +kernel
  have h3 : (byteAt driveTable 3).toNat = 0 := by decide +kernel
  have hc : s.contentOk 0x0105 driveTable = true := by
    show odOk 1 5 driveTable = true
    unfold odOk
    simp [hl]
  have hp : isPackage 0x0105 driveTable = false := by decide +kernel
  have hh : tableHeadOk 0x0105 driveTable = true := by simp [tableHeadOk, hl, h4, h0, h2, h3, driveTable_crc]
  simp [State.tableCheck, State.plainOf, hp, hh, hc]

/-- A container is never longer than its original bytes and a header. -/
theorem container_fits (l : Nat) (a f : Bool) (k : Nat) (o : List Byte) : (container l a f k o).1.length ≤ 24 + o.length := by
  simp only [container]
  split <;> simp_all [containerHeader, toLe] <;> omega

/-- STATUS_TIMER always gives a next state (R202). -/
theorem statusTimer_next {s : State} : ∃ t, exec .statusTimer s = .next t := by
  show ∃ t, execStatusTimer s = .next t
  unfold execStatusTimer
  dsimp only
  split <;> exact ⟨_, rfl⟩

/-! ## Well-formedness: an ill-formed term for each check -/

theorem test_wf_sensors : Instr.wf (.thermalSample (List.replicate 12 0) 0 0) = true ∧ Instr.wf (.thermalSample (List.replicate 11 0) 0 0) = false := by decide
theorem test_wf_phases : Instr.wf (.hlBlockLock .left (List.replicate 8 0)) = true ∧ Instr.wf (.hlBlockLock .left (List.replicate 9 0)) = false := by decide
theorem test_wf_eyes : Instr.wf (.hlEqualizeDone .left []) = false := by decide
theorem test_wf_delays : Instr.wf (.hlDeskewDone .right 0 ⟨List.replicate 7 0, []⟩) = false := by decide

/-! ## Worked examples of the spec and published check values -/

/-- The published check values of the CRCs of R184, R189 and R200 (CRC-32C, and CRC-16 with initial value 0xFFFF) over the digits 1 to 9. -/
theorem test_crc_check_values :
    crc32c (ascii "123456789") = 0xE3069283 ∧ crc16 (ascii "123456789") = 0x29B1 := by decide +kernel

/-- The example after R108: BOOT_STATUS reads 0x4023_C08D in RUNNING at 141 ms and 0x2020_0012 in FW_RUNNING at 18 ms. -/
theorem test_boot_status_example :
    ({ up with boot := { up.boot with result0 := .passed, panelReady := true, compensated := true, stepMs := 141 } } : State).regValue .ctl 0x08 = 0x4023C08D ∧
    ({ up with boot := { (at_ .fwRunning).boot with result0 := .passed, stepMs := 18 } } : State).regValue .svc 0x08 = 0x20200012 := by decide +kernel

/-- The reset column of R118: PORT_CONFIG 0x0000_0002, and 0 in the registers around it. -/
theorem test_reset_registers : [0x10, 0x18, 0x1C, 0x20, 0x2C, 0x30, 0x34, 0x38].map (State.reset.regValue .ctl) = [0, 0, 0, 0, 0, 2, 0, 0] := by decide +kernel

/-- The example of R128's chapter, steps 1 and 4: SYS.MAP_WAIT_LIMIT read through MB0 with TAG 7. -/
theorem test_mailbox_example :
    (match step { ask up .mb0 0x10 (toLe 2 0x0412 ++ zeros 2) with pending := [.paramGet .mb0] } with
    | .next t => [0x1200, 0x1204, 0x1208, 0x120C, 0x44].map fun a => (t.readWord .ctl a).1
    | _ => []) = [0x00080010, 0x00000007, 0x00000412, 0x000000FA, 0x00070003] := by decide +kernel

/-- The request words of the same example, written through the CTL port. -/
theorem test_mailbox_example_words :
    (match exec (.regWrite .ctl (.write 0x1000 0x00040010)) up with
    | .next t => t.box.mb0.req.take 5
    | _ => []) = [0x10, 0x00, 0x04, 0x00, 0x00] := by decide +kernel

/-- The example of R152's chapter: A1 from column 6800 with 1280 columns does not fit 7680, SET_ID 6; from 6300 it does. -/
theorem test_commit_example :
    let s := withP [(0x2801, 7680), (0x3020, 1), (0x3021, 6800), (0x3022, 1700), (0x3023, 800), (0x3024, 400), (0x3026, 0x44000000), (0x3027, 0x44800000)] up
    s.failingSet true false [(0x3023, 1280), (0x3026, 0x48000000)] = some 6 ∧
    s.failingSet true false [(0x3021, 6300), (0x3023, 1280), (0x3026, 0x48000000)] = none := by decide +kernel

/-- The examples of R63 and R65: the power-fail level is 10.2 V from 12.0 V and is clamped to 4.50 V from 5.0 V. -/
theorem test_power_fail_level :
    ({ up with vin := { up.vin with boot := 12000 } } : State).vPfw = 10200 ∧ ({ up with vin := { up.vin with boot := 5000 } } : State).vPfw = 4500 := by
  decide +kernel

/-- The check after R237's parameters: (2160 + 16) × 4595 cycles fits 1/120 s, and one cycle more per row does not. -/
theorem test_raster_defaults :
    up.setRule true up.param 1 = true ∧ (withP [(0x2804, 4596)] up).setRule true (withP [(0x2804, 4596)] up).param 1 = false := by decide +kernel

/-- One idle step from reset: one tick of device time, and nothing waits. -/
theorem test_idle_tick : (match step State.reset with | .next t => (t.devTime, t.pending) | _ => (0, [])) = (1, []) := by decide +kernel

/-- The first step after reset runs the command in front: RESET_N goes low. -/
theorem test_first_step :
    (match step { State.reset with pending := [.resetNAssert] } with | .next t => (t.boot.resetPin, t.boot.resetCause.toNat) | _ => (false, 0)) = (true, 2) := by
  decide +kernel

/-! ## For each statement with hypotheses, a state and operands that meet them, clause by clause -/

theorem test_witness_StepRunsTheFrontCommand :
    (∃ (c : Instr) (rest : List Instr) (s : State), s.pending = c :: rest) :=
  ⟨.jtagTrst, [.statusTimer], { up with pending := [.jtagTrst, .statusTimer] }, by decide +kernel⟩

theorem test_witness_EmptyQueueIsOneTick :
    (∃ (s : State), s.pending = []) :=
  ⟨up, by decide +kernel⟩

theorem test_witness_WellFormedCommandsGoOn :
    (∃ (c : Instr), c.wf = true) ∧
    (∃ (c : Instr), c.wf = false) :=
  ⟨⟨.thermalSample (List.replicate 12 0) 0 0, by decide +kernel⟩,
   ⟨.thermalSample (List.replicate 11 0) 0 0, by decide +kernel⟩⟩

theorem test_witness_StepKeepsMemoryCanonical :
    (∃ (s : State) (t : State), Memory.wf s = true ∧ step s = .next t) :=
  ⟨{ up with pending := [.jtagTrst] }, { up with boot := { up.boot with tapReset := true } }, ⟨by decide +kernel, rfl⟩⟩

theorem test_witness_MemoriesReadBackWhatIsWritten :
    (∃ (s : State) (a : Nat) (bs : List Byte) (b : Nat), Memory.wf s = true ∧ (b < a ∨ a + bs.length ≤ b)) ∧
    (∃ (s : State), Memory.wf s = true) ∧
    (∃ (s : State) (bs : List Byte) (i : Nat), Memory.wf s = true ∧ i < bs.length) :=
  ⟨⟨up, 0x10000000, [1, 0, 2], 0x10000003, by decide +kernel⟩,
   ⟨up, by decide +kernel⟩,
   ⟨up, [1, 0, 2], 2, by decide +kernel⟩⟩

theorem test_witness_PowerUpIsTakenOnce :
    (∃ (v : BitVec 16) (s : State), s.boot.powered = false ∧ 4400 ≤ v.toNat) ∧
    (∃ (v : BitVec 16) (s : State), (s.boot.powered = true ∨ v.toNat < 4400)) ∧
    (∃ (s : State), s.boot.powered = true ∧ s.boot.strapsDone = false) ∧
    (∃ (s : State), s.boot.powered = true ∧ s.vin.bootDone = false) ∧
    (∃ (m : BitVec 32) (s : State), s.boot.powered = true ∧ s.boot.resonatorChecked = false ∧ -15000 ≤ m.toInt ∧ m.toInt ≤ 15000) ∧
    (∃ (o : Bool) (m : BitVec 32) (s : State), s.boot.powered = true ∧ s.boot.resonatorChecked = false ∧ s.boot.resetPin = false ∧ (o = false ∨ m.toInt < -15000 ∨ 15000 < m.toInt)) :=
  ⟨⟨12000, { up with boot := { up.boot with powered := false } }, by decide +kernel⟩,
   ⟨4399, State.reset, by decide +kernel⟩,
   ⟨State.reset, by decide +kernel⟩,
   ⟨State.reset, by decide +kernel⟩,
   ⟨15000, State.reset, by decide +kernel⟩,
   ⟨true, 15001, State.reset, by decide +kernel⟩⟩

theorem test_witness_BootRomTriesTheSlots :
    (∃ (s : State), s.boot.powered = true ∧ s.boot.resetPin = false ∧ s.boot.thermalOff = false ∧ s.boot.limp = false ∧ s.boot.stage = .aonUp ∧ s.boot.pendingReset = none) ∧
    (∃ (slot : Bool) (s : State), s.boot.checking = some slot ∧ s.boot.stage = .romVerify ∧ s.domOn dCtrl = true) :=
  ⟨⟨State.reset, by decide +kernel⟩,
   ⟨false, { at_ .romVerify with boot := { (at_ .romVerify).boot with checking := some false } }, by decide +kernel⟩⟩

theorem test_witness_FirmwareStartsUp :
    (∃ (s : State), s.boot.stage = .fwRunning ∧ s.boot.warm = false ∧ s.domOn dCtrl = true ∧ s.nv.st = .notScanned ∧ s.boot.profileOk = false) ∧
    (∃ (s : State), s.firmwareRuns = true ∧ s.domOn dMem = true ∧ s.boot.memReady = false) ∧
    (∃ (id : BitVec 16) (s : State), s.booted = true ∧ s.boot.memReady = true ∧ s.boot.mapLoaded = false ∧ s.storeLacks = false ∧ tableKnown id.toNat = true ∧ 1 ≤ id.toNat / 256 ∧ id.toNat / 256 ≤ 3) ∧
    (∃ (s : State), s.booted = true ∧ s.boot.memReady = true ∧ s.boot.mapLoaded = false) ∧
    (∃ (s : State), s.booted = true ∧ s.boot.mapReady = false) ∧
    (∃ (s : State), s.booted = true ∧ s.boot.memReady = true ∧ s.param 0x4800 = 1 ∧ s.prk.stress = .off ∧ s.ras.framesOn ≠ 0 ∧ s.storeLacks = false) ∧
    (∃ (n : BitVec 8) (s : State), s.booted = true ∧ s.boot.warm = false ∧ s.boot.memReady = true ∧ s.storeLacks = false ∧ (s.param 0x4800 = 1 → s.prk.stress ≠ .off) ∧ (∀ i, i < n.toNat → s.clipDue i = false) ∧ (s.table (0x0700 + n.toNat)).st = .empty) :=
  ⟨⟨at_ .fwRunning, by decide +kernel⟩,
   ⟨at_ .profileApplied, by decide +kernel⟩,
   ⟨0x0300, { up with boot := { up.boot with mapLoaded := false } }, by decide +kernel⟩,
   ⟨{ up with boot := { up.boot with mapLoaded := false } }, by decide +kernel⟩,
   ⟨{ up with boot := { up.boot with mapReady := false } }, by decide +kernel⟩,
   ⟨withP [(0x4800, 1)] { up with ras := { up.ras with framesOn := 1 } }, by decide +kernel⟩,
   ⟨15, up, by decide +kernel⟩⟩

theorem test_witness_ResetsActAtOnce :
    (∃ (s : State), s.boot.powered = true ∧ s.boot.resetPin = false) ∧
    (∃ (s : State), s.boot.powered = true ∧ s.boot.resetPin = true) ∧
    (∃ (s : State), s.resetsNow = true ∧ s.domOn dCtrl = true) ∧
    (∃ (s : State), s.resetsNow = true ∧ s.firmwareRuns = true) ∧
    (∃ (s : State), s.resetsNow = true ∧ s.boot.bootWdog = true) ∧
    (∃ (s : State) (p : Port) (k : KeyArm), s.resetsNow = true ∧ s.boot.key = some k ∧ s.now ≤ k.at_ + ms 1 ∧ (p = .ctl → s.win.ctlDead = false)) ∧
    (∃ (p : Port) (s : State), s.portDead p = false ∧ s.boot.key = none) ∧
    (∃ (p : Port) (w : Word) (k : KeyArm) (s : State), s.portDead p = false ∧ s.boot.key = some k ∧ (k.at_ + ms 1 < s.now ∨ (w ≠ 0x5A000001 ∧ w ≠ 0x5A000002))) :=
  ⟨⟨scanning, by decide +kernel⟩,
   ⟨{ State.reset with boot := { State.reset.boot with resetPin := true } }, by decide +kernel⟩,
   ⟨up, by decide +kernel⟩,
   ⟨up, by decide +kernel⟩,
   ⟨{ up with boot := { up.boot with bootWdog := true } }, by decide +kernel⟩,
   ⟨{ up with boot := { up.boot with key := some { port := .ctl, at_ := 0, word := 0x0000C3A5 } }, now := ms 1 }, .svc, { port := .ctl, at_ := 0, word := 0x0000C3A5 }, by decide +kernel⟩,
   ⟨.svc, up, by decide +kernel⟩,
   ⟨.ctl, 0x5A000001, { port := .ctl, at_ := 0, word := 0x0000C3A5 }, { up with boot := { up.boot with key := some { port := .ctl, at_ := 0, word := 0x0000C3A5 } }, now := ms 1 + 1 }, by decide +kernel⟩⟩

theorem test_witness_PendingResetsTakeEffect :
    (∃ (s : State), s.domOn dCtrl = true ∧ s.pnl.st ≠ .off ∧ s.boot.pendingReset = none) ∧
    (∃ (p : PendingReset) (s : State), s.domOn dCtrl = true ∧ s.boot.pendingReset = some p) ∧
    (∃ (p : PendingReset) (s : State), s.boot.pendingReset = some p ∧ p.safeStop = true ∧ (s.vin.pfw = false ∨ s.vin.saved = true) ∧ s.boot.resetPin = false ∧ s.boot.limp = false ∧ s.boot.thermalOff = false ∧ p.causes.getLsbD 7 = false) ∧
    (∃ (s : State), s.boot.powered = true ∧ s.boot.resetPin = false ∧ s.boot.limp = false ∧ s.boot.rootLocked = true ∧ s.boot.thermalOff = false ∧ s.boot.pendingReset = none ∧ (s.vin.pfw = false ∨ s.vin.saved = true)) :=
  ⟨⟨scanning, by decide +kernel⟩,
   ⟨{ causes := 16, safeStop := true, earliest := 16, tick := 0, coincide := false }, { up with boot := { up.boot with pendingReset := some { causes := 16, safeStop := true, earliest := 16, tick := 0, coincide := false } } }, by decide +kernel⟩,
   ⟨{ causes := 16, safeStop := true, earliest := 16, tick := 0, coincide := false }, { up with boot := { up.boot with pendingReset := some { causes := 16, safeStop := true, earliest := 16, tick := 0, coincide := false } } }, by decide +kernel⟩,
   ⟨scanning, by decide +kernel⟩⟩

theorem test_witness_PowerFailSavesAndRecovers :
    (∃ (v : BitVec 16) (s : State), s.boot.powered = true ∧ s.vin.pfw = false ∧ v.toNat * 100 < s.vPfw * 102 ∧ s.pwr.asleep = false) ∧
    (∃ (s : State), s.vin.saved = false ∧ (s.vin.pfw = true ∨ s.vin.recovering = true) ∧ s.domOn dCtrl = true ∧ s.boot.pendingReset = none) ∧
    (∃ (v : BitVec 16) (s : State), s.vin.pfw = true ∧ s.vPfw * 98 + 8000 ≤ v.toNat * 100) ∧
    (∃ (a : Nat) (s : State), s.vin.recoverFrom = some a ∧ s.pwr.asleep = false ∧ s.pastProfile = true) :=
  ⟨⟨10199, { up with vin := { up.vin with boot := 12000 } }, by decide +kernel⟩,
   ⟨{ up with vin := { up.vin with boot := 12000, pfw := true } }, by decide +kernel⟩,
   ⟨11999, { up with vin := { up.vin with boot := 12000, pfw := true } }, by decide +kernel⟩,
   ⟨5, { up with vin := { up.vin with recoverFrom := some 5, recovering := true, saved := true } }, by decide +kernel⟩⟩

theorem test_witness_ThermalStepsFollowSamples :
    (∃ (die : List (BitVec 16)) (s : State), die.length = 12 ∧ s.boot.powered = true ∧ s.domOn dCtrl = true) ∧
    (∃ (c : Nat) (s : State), s.thm.coolFrom = some c ∧ s.thm.step ≠ 0 ∧ s.thm.floor < s.thm.step ∧ s.domOn dCtrl = true) ∧
    (∃ (s : State), 3 ≤ s.thm.step ∧ s.thm.reqRate ≤ s.shownRate ∧ s.evq.entries.length < 256) :=
  ⟨⟨List.replicate 12 800, up, by decide +kernel⟩,
   ⟨0, { up with thm := { up.thm with step := 2, coolFrom := some 0 } }, by decide +kernel⟩,
   ⟨{ scanning with thm := { scanning.thm with step := 3, reqRate := 0 } }, by decide +kernel⟩⟩

theorem test_witness_PortReadsHaveTheirEffects :
    (∃ (p : Port) (s : State), s.portDead p = false) ∧
    (∃ (p : Port) (a : BitVec 16) (s : State), s.portDead p = false ∧ a.toNat % 4 = 0 ∧ a.toNat < 0xC0 ∧ a.toNat ≠ 0x24 ∧ (if p = .ctl then (regPorts a.toNat).1 else (regPorts a.toNat).2) = true) ∧
    (∃ (p : Port) (a : BitVec 16) (s : State), s.portDead p = false ∧ s.win.refused < 255 ∧ a.toNat % 4 = 0 ∧ target p a.toNat = .nothing) ∧
    (∃ (a : BitVec 16) (s : State), s.portDead .ctl = false ∧ s.win.refused < 255 ∧ a.toNat % 4 ≠ 0) :=
  ⟨⟨.ctl, up, by decide +kernel⟩,
   ⟨.svc, 0x68, up, by decide +kernel⟩,
   ⟨.ctl, 0x90, up, by decide +kernel⟩,
   ⟨0xBF, up, by decide +kernel⟩⟩

theorem test_witness_PortWritesReachTheirTarget :
    (∃ (s : State), s.portDead .ctl = false) ∧
    (∃ (s : State), s.boot.powered = true) ∧
    (∃ (o : Port) (s : State), s.portDead o = false) ∧
    (∃ (o : Port) (a : BitVec 16) (i : Mb) (k : Nat) (s : State), s.portDead o = false ∧ a.toNat % 4 = 0 ∧ target o a.toNat = .request i k ∧ s.domOn dCtrl = true ∧ (s.mb i).st = .idle ∧ (s.mb i).req.length = 512) ∧
    (∃ (o : Port) (a : BitVec 16) (s : State), (s.portDead o = false ∧ s.win.refused < 255 ∧ a.toNat % 4 = 0) ∧ (target o a.toNat = .nothing ∨ (∃ i k, target o a.toNat = .response i k) ∨ (∃ i k, target o a.toNat = .request i k ∧ (s.domOn dCtrl = false ∨ (s.mb i).st ≠ .idle)) ∨ ∃ k, target o a.toNat = .reg k ∧ [0x00, 0x04, 0x08, 0x0C, 0x20, 0x24, 0x28, 0x2C, 0x44, 0x54, 0x5C, 0x64, 0x70, 0x78, 0x7C, 0x80, 0x84, 0x88, 0x8C].contains k)) ∧
    (∃ (s : State), s.portDead .ctl = false ∧ s.win.ctlFraming < 255) :=
  ⟨⟨up, by decide +kernel⟩,
   ⟨up, by decide +kernel⟩,
   ⟨.ctl, up, by decide +kernel⟩,
   ⟨.ctl, 0x11FC, .mb0, 508, up, by decide +kernel⟩,
   ⟨.svc, 0x90, up, ⟨by decide +kernel, Or.inl rfl⟩⟩,
   ⟨up, by decide +kernel⟩⟩

theorem test_witness_ClearsAndTransactionEndsAct :
    (∃ (o : Port) (s : State), s.portDead o = false) ∧
    (∃ (s : State), s.boot.powered = true ∧ s.win.csLow = true) ∧
    (∃ (n : BitVec 5) (s : State), s.boot.powered = true ∧ s.win.csLow = true ∧ n ≠ 0 ∧ s.win.ctlFraming < 255) ∧
    (∃ (s : State), s.boot.powered = true) ∧
    (∃ (n : BitVec 2) (s : State), s.boot.powered = true ∧ n ≠ 0 ∧ s.win.svcFraming < 255) :=
  ⟨⟨.ctl, { up with win := { up.win with irqStatus := 0x1FF } }, by decide +kernel⟩,
   ⟨{ up with win := { up.win with csLow := true } }, by decide +kernel⟩,
   ⟨31, { up with win := { up.win with csLow := true } }, by decide +kernel⟩,
   ⟨up, by decide +kernel⟩,
   ⟨3, up, by decide +kernel⟩⟩

theorem test_witness_MailboxesAreRungAnsweredAndReleased :
    (∃ (i : Mb) (d : Word) (s : State), s.portDead (mbPort i) = false ∧ i ≠ .mb3 ∧ d.getLsbD 0 = true ∧ (s.mb i).st = .idle) ∧
    (∃ (i : Mb) (d : Word) (s : State), s.portDead (mbPort i) = false ∧ i ≠ .mb3 ∧ d.getLsbD 0 = true ∧ (s.mb i).st ≠ .idle ∧ s.win.dbOverrun < 255) ∧
    (∃ (i : Mb) (d : Word) (s : State), s.portDead (mbPort i) = false ∧ i ≠ .mb3 ∧ d.getLsbD 0 = true) ∧
    (∃ (i : Mb) (d : Word) (s : State), s.portDead (mbPort i) = false ∧ (i = .mb3 ∨ d.getLsbD 0 = false)) ∧
    (∃ (i : Mb) (j : Mb), (i = .mb0 ∨ i = .mb2) ∧ j ≠ i) ∧
    (∃ (i : Mb), (i = .mb0 ∨ i = .mb2)) ∧
    (∃ (e : Session) (st : Nat) (p : List Byte) (s : State), s.session = some e) :=
  ⟨⟨.mb2, 1, up, by decide +kernel⟩,
   ⟨.mb0, 1, ask (up) .mb0 0x0001 ([]), by decide +kernel⟩,
   ⟨.mb1, 1, { up with box := { up.box with mb1 := { up.box.mb1 with st := .done } } }, by decide +kernel⟩,
   ⟨.mb3, 1, up, by decide +kernel⟩,
   ⟨.mb0, .mb1, by decide +kernel⟩,
   ⟨.mb2, by decide +kernel⟩,
   ⟨{ id := 1, keys := { row := [], tag := [], ctl := [], hconf := [], dconf := [] }, switch := 0 }, 0, [1], { up with sec := { up.sec with sessions := [{ id := 1, keys := { row := [], tag := [], ctl := [], hconf := [], dconf := [] }, switch := 0 }] } }, by decide +kernel⟩⟩

theorem test_witness_RequestChecksRunInOrder :
    (∃ (ins : Instr) (i : Mb) (c : Cmd) (s : State), (s.takes i = false ∨ reqCode (s.mb i).req ≠ c.code) ∧ commandOf ins = some (i, c)) ∧
    (∃ (ins : Instr) (i : Mb) (c : Cmd) (s : State), (s.takes i = true ∧ reqCode (s.mb i).req = c.code ∧ s.allowed i c.code = false) ∧ commandOf ins = some (i, c)) ∧
    (∃ (ins : Instr) (i : Mb) (c : Cmd) (s : State), (s.takes i = true ∧ reqCode (s.mb i).req = c.code ∧ s.allowed i c.code = true ∧ (servedIn s.boot.stage c.code = false ∨ reqFlags (s.mb i).req ≠ 0)) ∧ commandOf ins = some (i, c)) ∧
    (∃ (ins : Instr) (i : Mb) (c : Cmd) (s : State), (s.takes i = true ∧ reqCode (s.mb i).req = c.code ∧ s.allowed i c.code = true ∧ servedIn s.boot.stage c.code = true ∧ reqFlags (s.mb i).req = 0 ∧ (maxPayload i < (s.reqBody i).length ∨ c.lenOk (s.reqBody i) = false)) ∧ commandOf ins = some (i, c)) ∧
    (∃ (ins : Instr) (i : Mb) (c : Cmd) (s : State), (s.takes i = true ∧ reqCode (s.mb i).req = c.code ∧ s.allowed i c.code = true ∧ servedIn s.boot.stage c.code = true ∧ reqFlags (s.mb i).req = 0 ∧ (s.reqBody i).length ≤ maxPayload i ∧ c.lenOk (s.reqBody i) = true ∧ c.zeroOk (s.reqBody i) = false) ∧ commandOf ins = some (i, c)) ∧
    (∃ (i : Mb) (s : State), s.takes i = true ∧ servedIn s.boot.stage (reqCode (s.mb i).req) = false) :=
  ⟨⟨.ident .mb0, .mb0, .bare 0x0001, up, ⟨by decide +kernel, rfl⟩⟩,
   ⟨.nvErase .mb0, .mb0, .fixed 0x0093 8 fun p => byteAt p 1 == 0, ask (up) .mb0 0x0093 (zeros 8), ⟨by decide +kernel, rfl⟩⟩,
   ⟨.paramSet .mb0, .mb0, .fixed 0x0011 8 fun p => zeroAt p 2 2, ask (at_ .recovery) .mb0 0x0011 (zeros 8), ⟨by decide +kernel, rfl⟩⟩,
   ⟨.ident .mb0, .mb0, .bare 0x0001, ask (up) .mb0 0x0001 ([0]), ⟨by decide +kernel, rfl⟩⟩,
   ⟨.paramSet .mb0, .mb0, .fixed 0x0011 8 fun p => zeroAt p 2 2, ask (up) .mb0 0x0011 (zeros 2 ++ [1] ++ zeros 5), ⟨by decide +kernel, rfl⟩⟩,
   ⟨.mb0, ask (up) .mb0 0x0099 ([]), by decide +kernel⟩⟩

theorem test_witness_CtlPacketsFillMailboxes :
    (∃ (side : Side) (sets : List (List LinkBlock)) (p : List Byte) (i : Mb) (s : State), s.brings side sets 4 false p = true ∧ s.domOn dCtrl = true ∧ s.win.inbandEn = true ∧ ctlMalformed p = false ∧ (i = .mb0 ∨ i = .mb1) ∧ byteAt p 0 = Byte.of i.num ∧ (s.mb i).st = .idle ∧ ((byteAt p 1).toNat % 2 = 1 ∨ (s.mb i).fill = true) ∧ le2 p 2 + le2 p 4 ≤ 512) ∧
    (∃ (side : Side) (sets : List (List LinkBlock)) (p : List Byte) (i : Mb) (s : State), s.brings side sets 4 false p = true ∧ s.domOn dCtrl = true ∧ s.win.inbandEn = true ∧ ctlMalformed p = false ∧ (i = .mb0 ∨ i = .mb1) ∧ byteAt p 0 = Byte.of i.num ∧ (s.mb i).st ≠ .idle ∧ (byteAt p 1).toNat % 2 = 1 ∧ s.win.dbOverrun < 255) ∧
    (∃ (side : Side) (sets : List (List LinkBlock)) (p : List Byte) (s : State), s.brings side sets 4 false p = true ∧ s.win.inbandEn = true ∧ byteAt p 0 ≠ 0 ∧ byteAt p 0 ≠ 1) ∧
    (∃ (side : Side) (sets : List (List LinkBlock)) (p : List Byte) (s : State), s.brings side sets 4 false p = true ∧ s.win.inbandEn = false) :=
  ⟨⟨.right, (linked up).wire .right 4 false ([0, 3] ++ zeros 2 ++ toLe 2 16 ++ zeros 10 ++ toLe 2 1 ++ zeros 14), [0, 3] ++ zeros 2 ++ toLe 2 16 ++ zeros 10 ++ toLe 2 1 ++ zeros 14, .mb0, linked up, by decide +kernel⟩,
   ⟨.left, (linked (ask (up) .mb0 0x0001 ([]))).wire .left 4 false ([0, 3] ++ zeros 2 ++ toLe 2 16 ++ zeros 10 ++ toLe 2 1 ++ zeros 14), [0, 3] ++ zeros 2 ++ toLe 2 16 ++ zeros 10 ++ toLe 2 1 ++ zeros 14, .mb0, linked (ask (up) .mb0 0x0001 ([])), by decide +kernel⟩,
   ⟨.left, (linked up).wire .left 4 false ([2] ++ zeros 31), [2] ++ zeros 31, linked up, by decide +kernel⟩,
   ⟨.left, ({ linked up with win := { up.win with inbandEn := false } }).wire .left 4 false (zeros 32), zeros 32, { linked up with win := { up.win with inbandEn := false } }, by decide +kernel⟩⟩

theorem test_witness_ParameterReadsAnswer :
    (∃ (i : Mb) (s : State), s.served i (.bare 0x0001) = true) ∧
    (∃ (i : Mb) (c : PClass) (s : State), s.served i (.fixed 0x0010 4 fun _ => true) = true ∧ le2 (s.reqBody i) 2 ≤ 1 ∧ pClass? (le2 (s.reqBody i) 0) = some c) ∧
    (∃ (i : Mb) (s : State), s.served i (.fixed 0x0010 4 fun _ => true) = true ∧ 1 < le2 (s.reqBody i) 2) ∧
    (∃ (i : Mb) (s : State), s.served i (.fixed 0x0010 4 fun _ => true) = true ∧ le2 (s.reqBody i) 2 ≤ 1 ∧ pClass? (le2 (s.reqBody i) 0) = none) ∧
    (∃ (id : Nat) (c : PClass), pClass? id = some c ∧ c ≠ .k ∧ id / 128 ≠ 0x4C00 / 128 ∧ id / 32 ≠ 0x2420 / 32) ∧
    (∃ (i : Mb) (s : State), (s.served i cmdParamGetMulti = true ∧ le2 (s.reqBody i) 2 ≤ 1) ∧ (∀ k, k < le2 (s.reqBody i) 0 → ∃ c, pClass? (le2 (s.reqBody i) (4 + 2 * k)) = some c ∧ c ≠ .k)) :=
  ⟨⟨.mb2, ask (up) .mb2 0x0001 ([]), by decide +kernel⟩,
   ⟨.mb0, .s, ask (up) .mb0 0x0010 (toLe 2 0x2800 ++ toLe 2 1), by decide +kernel⟩,
   ⟨.mb0, ask (up) .mb0 0x0010 (toLe 2 0x2800 ++ toLe 2 2), by decide +kernel⟩,
   ⟨.mb0, ask (up) .mb0 0x0010 (toLe 2 0x7FFF ++ toLe 2 1), by decide +kernel⟩,
   ⟨0x2803, .f, by decide +kernel⟩,
   ⟨.mb0, ask (up) .mb0 0x0012 (toLe 2 2 ++ toLe 2 1 ++ toLe 2 0x2800 ++ toLe 2 0x2803), ⟨by decide +kernel, by
      intro k hk
      have h2 : k < 2 := lt_of_lt_of_eq hk (by decide +kernel)
      have hc : k = 0 ∨ k = 1 := by omega
      rcases hc with rfl | rfl
      · exact ⟨.s, by decide +kernel, by decide⟩
      · exact ⟨.f, by decide +kernel, by decide⟩⟩⟩⟩

theorem test_witness_ParameterSetRefusals :
    (∃ (i : Mb) (id : Nat) (s : State), s.served i (.fixed 0x0011 8 fun p => zeroAt p 2 2) = true ∧ le2 (s.reqBody i) 0 = id ∧ pClass? id = none) ∧
    (∃ (i : Mb) (id : Nat) (s : State), s.served i (.fixed 0x0011 8 fun p => zeroAt p 2 2) = true ∧ le2 (s.reqBody i) 0 = id ∧ pClass? id = some .k) ∧
    (∃ (i : Mb) (id : Nat) (s : State), s.served i (.fixed 0x0011 8 fun p => zeroAt p 2 2) = true ∧ le2 (s.reqBody i) 0 = id ∧ pClass? id = some .p) ∧
    (∃ (i : Mb) (id : Nat) (s : State) (c : PClass), s.served i (.fixed 0x0011 8 fun p => zeroAt p 2 2) = true ∧ le2 (s.reqBody i) 0 = id ∧ pClass? id = some c ∧ (c = .l ∨ c = .f ∨ c = .s) ∧ pInRange id (le4 (s.reqBody i) 4) = false) ∧
    (∃ (i : Mb) (id : Nat) (s : State), s.served i (.fixed 0x0011 8 fun p => zeroAt p 2 2) = true ∧ le2 (s.reqBody i) 0 = id ∧ pClass? id = some .s ∧ pInRange id (le4 (s.reqBody i) 4) = true ∧ s.funcStopped (pOwner id) = false) :=
  ⟨⟨.mb0, 0x7FFF, ask (up) .mb0 0x0011 (toLe 2 0x7FFF ++ zeros 2 ++ toLe 4 0), by decide +kernel⟩,
   ⟨.mb0, 0x2820, ask (up) .mb0 0x0011 (toLe 2 0x2820 ++ zeros 2 ++ toLe 4 0), by decide +kernel⟩,
   ⟨.mb0, 0x2000, ask (up) .mb0 0x0011 (toLe 2 0x2000 ++ zeros 2 ++ toLe 4 1), by decide +kernel⟩,
   ⟨.mb0, 0x2803, ask (up) .mb0 0x0011 (toLe 2 0x2803 ++ zeros 2 ++ toLe 4 15), .f, by decide +kernel⟩,
   ⟨.mb0, 0x2401, ask (up) .mb0 0x0011 (toLe 2 0x2401 ++ zeros 2 ++ toLe 4 8), by decide +kernel⟩⟩

theorem test_witness_ParameterSetWritesOrClears :
    (∃ (i : Mb) (id : Nat) (v : Nat) (c : PClass) (s : State), s.served i (.fixed 0x0011 8 fun p => zeroAt p 2 2) = true ∧ le2 (s.reqBody i) 0 = id ∧ le4 (s.reqBody i) 4 = v ∧ pClass? id = some c ∧ (c = .f ∨ c = .s) ∧ s.setStatus id v = stOk) ∧
    (∃ (i : Mb) (id : Nat) (v : Nat) (s : State), (s.served i (.fixed 0x0011 8 fun p => zeroAt p 2 2) = true ∧ le2 (s.reqBody i) 0 = id ∧ le4 (s.reqBody i) 4 = v ∧ pClass? id = some .l ∧ (¬ [0x1404, 0x1405, 0x0C07].contains id) ∧ id / 128 ≠ 0x4C00 / 128 ∧ s.setStatus id v = stOk) ∧ s.paramsSorted) ∧
    (∃ (i : Mb) (vs : List (Nat × Nat)) (s : State) (k : Nat) (st : Nat), s.served i cmdParamSetMulti = true ∧ vs = (List.range (le2 (s.reqBody i) 0)).map (fun k => (le2 (s.reqBody i) (4 + 6 * k), le4 (s.reqBody i) (6 + 6 * k))) ∧ s.firstBad vs = some (k, st)) ∧
    (∃ (i : Mb) (vs : List (Nat × Nat)) (s : State), s.served i cmdParamSetMulti = true ∧ vs = (List.range (le2 (s.reqBody i) 0)).map (fun k => (le2 (s.reqBody i) (4 + 6 * k), le4 (s.reqBody i) (6 + 6 * k))) ∧ s.firstBad vs = none ∧ (∀ e ∈ vs, pClass? e.1 = some .f ∨ pClass? e.1 = some .s)) ∧
    (∃ (i : Mb) (s : State), s.served i (.fixed 0x0011 8 fun p => zeroAt p 2 2) = true ∧ le2 (s.reqBody i) 0 = 0x1405 ∧ le4 (s.reqBody i) 4 = 1 ∧ s.param 0x1403 = 0) ∧
    (∃ (i : Mb) (s : State), s.served i (.fixed 0x0011 8 fun p => zeroAt p 2 2) = true ∧ le2 (s.reqBody i) 0 = 0x1404 ∧ le4 (s.reqBody i) 4 = 1) ∧
    (∃ (i : Mb) (s : State), s.served i (.fixed 0x0011 8 fun p => zeroAt p 2 2) = true ∧ le2 (s.reqBody i) 0 = 0x0C07 ∧ le4 (s.reqBody i) 4 = 1) ∧
    (∃ (i : Mb) (s : State), le2 (s.reqBody i) 0 ≠ 0x1405) ∧
    (∃ (i : Mb) (s : State), le2 (s.reqBody i) 0 ≠ 0x1404) ∧
    (∃ (i : Mb) (s : State), le2 (s.reqBody i) 0 ≠ 0x0C07) :=
  ⟨⟨.mb0, 0x2803, 1024, .f, ask (up) .mb0 0x0011 (toLe 2 0x2803 ++ zeros 2 ++ toLe 4 1024), by decide +kernel⟩,
   ⟨.mb0, 0x0C03, 0, ask (up) .mb0 0x0011 (toLe 2 0x0C03 ++ zeros 2 ++ toLe 4 0), ⟨by decide +kernel, List.Pairwise.nil⟩⟩,
   ⟨.mb0, [(0x2803, 16), (0x2803, 15)], ask (up) .mb0 0x0013 (toLe 2 2 ++ zeros 2 ++ toLe 2 0x2803 ++ toLe 4 16 ++ toLe 2 0x2803 ++ toLe 4 15), 1, 0x0103, by decide +kernel⟩,
   ⟨.mb0, [(0x2803, 16)], ask (up) .mb0 0x0013 (toLe 2 1 ++ zeros 2 ++ toLe 2 0x2803 ++ toLe 4 16), by decide +kernel⟩,
   ⟨.mb0, ask (up) .mb0 0x0011 (toLe 2 0x1405 ++ zeros 2 ++ toLe 4 1), by decide +kernel⟩,
   ⟨.mb0, ask (up) .mb0 0x0011 (toLe 2 0x1404 ++ zeros 2 ++ toLe 4 1), by decide +kernel⟩,
   ⟨.mb0, ask (up) .mb0 0x0011 (toLe 2 0x0C07 ++ zeros 2 ++ toLe 4 1), by decide +kernel⟩,
   ⟨.mb0, up, by decide +kernel⟩,
   ⟨.mb0, up, by decide +kernel⟩,
   ⟨.mb0, up, by decide +kernel⟩⟩

theorem test_witness_CommitAppliesTogether :
    (∃ (i : Mb) (s : State), s.served i (.bare 0x0020) = true ∧ s.framesRun = false ∧ s.failingSet true false s.stagedF = none ∧ (¬ (s.changesTiming s.stagedF = true ∧ s.isFollower = true))) ∧
    (∃ (i : Mb) (k : Nat) (s : State), s.served i (.bare 0x0020) = true ∧ s.failingSet true false s.stagedF = some k) :=
  ⟨⟨.mb0, ask ({ up with par := { up.par with staged := [(0x280B, 0)] } }) .mb0 0x0020 ([]), by decide +kernel⟩,
   ⟨.mb0, 1, ask ({ up with par := { up.par with staged := [(0x2801, 64)] } }) .mb0 0x0020 ([]), by decide +kernel⟩⟩

theorem test_witness_CommitWaitsForItsFrame :
    (∃ (i : Mb) (s : State), s.served i (.bare 0x0020) = true ∧ s.framesRun = true ∧ s.failingSet true false s.stagedF = none ∧ s.changesTiming s.stagedF = false ∧ s.param 0x2800 ≠ 2 ∧ s.armedFrame = none) :=
  ⟨.mb0, ask (scanning) .mb0 0x0020 ([]), by decide +kernel⟩

theorem test_witness_CommitStatusAndDiscard :
    (∃ (i : Mb) (s : State), s.served i (.bare 0x0021) = true) ∧
    (∃ (i : Mb) (s : State), s.served i (.bare 0x0022) = true ∧ s.par.waiting = []) ∧
    (∃ (i : Mb) (s : State), s.served i (.bare 0x0022) = true ∧ s.par.waiting ≠ []) :=
  ⟨⟨.mb0, ask (up) .mb0 0x0021 ([]), by decide +kernel⟩,
   ⟨.mb0, ask ({ up with par := { up.par with staged := [(0x280B, 0)] } }) .mb0 0x0022 ([]), by decide +kernel⟩,
   ⟨.mb0, ask ({ up with par := { up.par with waiting := [⟨6, [], false⟩] } }) .mb0 0x0022 ([]), by decide +kernel⟩⟩

theorem test_witness_ProfilesApply :
    (∃ (i : Mb) (s : State), s.served i (.fixed 0x0060 4 fun p => zeroAt p 2 2) = true ∧ (∀ f, funcOf? (byteAt (s.reqBody i) 0).toNat = some f → catalogueValues f (byteAt (s.reqBody i) 1).toNat = none)) ∧
    (∃ (i : Mb) (f : Func) (vs : List (Nat × Nat)) (s : State), s.served i (.fixed 0x0060 4 fun p => zeroAt p 2 2) = true ∧ funcOf? (byteAt (s.reqBody i) 0).toNat = some f ∧ catalogueValues f (byteAt (s.reqBody i) 1).toNat = some vs ∧ (f = .sensing → s.param 0x4800 ≠ 0) ∧ s.framesRun = false ∧ s.par.staged = [] ∧ s.isFollower = false ∧ s.failingSet true false (vs.map fun v => (v.1, Word.of v.2)) = none) :=
  ⟨⟨.mb0, ask (up) .mb0 0x0060 ([8, 0, 0, 0]), ⟨by decide +kernel, by
      intro f h
      exact absurd h (by decide +kernel +revert)⟩⟩,
   ⟨.mb0, .dither, [(0x3C00, 1), (0x3C02, 1)], ask (up) .mb0 0x0060 ([4, 1, 0, 0]), by decide +kernel⟩⟩

theorem test_witness_FunctionsStopAndReset :
    (∃ (i : Mb) (f : Func) (s : State), s.served i (.fixed 0x0030 4 fun p => zeroAt p 1 3) = true ∧ funcOf? (byteAt (s.reqBody i) 0).toNat = some f ∧ f ≠ .raster ∧ s.funcFailed f = false ∧ s.isDegraded f = false ∧ s.funcStopped f = false ∧ s.framesRun = true) ∧
    (∃ (i : Mb) (f : Func) (s : State), s.served i (.fixed 0x0030 4 fun p => zeroAt p 1 3) = true ∧ funcOf? (byteAt (s.reqBody i) 0).toNat = some f ∧ f ≠ .raster ∧ s.funcFailed f = false ∧ s.isDegraded f = false ∧ s.funcStopped f = false ∧ s.framesRun = false) ∧
    (∃ (i : Mb) (f : Func) (s : State), s.served i (.fixed 0x0030 4 fun p => zeroAt p 1 3) = true ∧ funcOf? (byteAt (s.reqBody i) 0).toNat = some f ∧ s.funcFailed f = true) ∧
    (∃ (i : Mb) (f : Func) (s : State), s.served i (.fixed 0x0030 4 fun p => zeroAt p 1 3) = true ∧ funcOf? (byteAt (s.reqBody i) 0).toNat = some f ∧ s.funcFailed f = false ∧ f ≠ .raster ∧ s.isDegraded f = false ∧ s.funcStopped f = true) ∧
    (∃ (i : Mb) (f : Func) (s : State), s.served i (.fixed 0x00F0 4 fun p => zeroAt p 1 3) = true ∧ funcOf? (byteAt (s.reqBody i) 0).toNat = some f ∧ f = .raster) ∧
    (∃ (i : Mb) (f : Func) (s : State), s.served i (.fixed 0x00F0 4 fun p => zeroAt p 1 3) = true ∧ funcOf? (byteAt (s.reqBody i) 0).toNat = some f ∧ f ≠ .raster ∧ s.isDegraded f = true) ∧
    (∃ (i : Mb) (f : Func) (s : State), s.served i (.fixed 0x00F0 4 fun p => zeroAt p 1 3) = true ∧ funcOf? (byteAt (s.reqBody i) 0).toNat = some f ∧ f ≠ .raster ∧ s.isDegraded f = false ∧ s.funcFailed f = false ∧ s.framesRun = true) ∧
    (∃ (i : Mb) (s : State), funcOf? (byteAt (s.reqBody i) 0).toNat = none ∧ s.served i (.fixed 0x0030 4 fun p => zeroAt p 1 3) = true) ∧
    (∃ (i : Mb) (s : State), funcOf? (byteAt (s.reqBody i) 0).toNat = none ∧ s.served i (.fixed 0x0031 4 fun p => zeroAt p 1 3) = true) ∧
    (∃ (i : Mb) (s : State), funcOf? (byteAt (s.reqBody i) 0).toNat = none ∧ s.served i (.fixed 0x00F0 4 fun p => zeroAt p 1 3) = true) :=
  ⟨⟨.mb0, .dither, ask (scanning) .mb0 0x0030 ([4, 0, 0, 0]), by decide +kernel⟩,
   ⟨.mb0, .dither, ask (up) .mb0 0x0030 ([4, 0, 0, 0]), by decide +kernel⟩,
   ⟨.mb0, .dither, ask (dom dPipe (fun d => { d with st := .failed }) up) .mb0 0x0030 ([4, 0, 0, 0]), by decide +kernel⟩,
   ⟨.mb0, .dither, ask ({ up with fn := { up.fn with dither := { up.fn.dither with stopped := true } } }) .mb0 0x0030 ([4, 0, 0, 0]), by decide +kernel⟩,
   ⟨.mb0, .raster, ask (up) .mb0 0x00F0 ([7, 0, 0, 0]), by decide +kernel⟩,
   ⟨.mb0, .applique, ask ({ up with mem := { up.mem with degraded := [.applique] } }) .mb0 0x00F0 ([3, 0, 0, 0]), by decide +kernel⟩,
   ⟨.mb0, .applique, ask (scanning) .mb0 0x00F0 ([3, 0, 0, 0]), by decide +kernel⟩,
   ⟨.mb0, ask (up) .mb0 0x0030 ([8, 0, 0, 0]), by decide +kernel⟩,
   ⟨.mb0, ask (up) .mb0 0x0031 ([0, 0, 0, 0]), by decide +kernel⟩,
   ⟨.mb0, ask (up) .mb0 0x00F0 ([255, 0, 0, 0]), by decide +kernel⟩⟩

theorem test_witness_FunctionsStartAndReport :
    (∃ (i : Mb) (f : Func) (s : State), s.served i (.fixed 0x0031 4 fun p => zeroAt p 1 3) = true ∧ funcOf? (byteAt (s.reqBody i) 0).toNat = some f ∧ s.isDegraded f = false ∧ s.funcStopped f = false) ∧
    (∃ (i : Mb) (f : Func) (s : State), s.served i (.fixed 0x0031 4 fun p => zeroAt p 1 3) = true ∧ funcOf? (byteAt (s.reqBody i) 0).toNat = some f ∧ f ≠ .hostLink ∧ f ≠ .raster ∧ s.isDegraded f = false ∧ s.funcStopped f = true ∧ s.funcFailed f = false ∧ s.par.staged = [] ∧ s.framesRun = true) ∧
    (∃ (i : Mb) (f : Func) (s : State), s.served i (.fixed 0x0031 4 fun p => zeroAt p 1 3) = true ∧ funcOf? (byteAt (s.reqBody i) 0).toNat = some f ∧ f ≠ .hostLink ∧ f ≠ .raster ∧ s.isDegraded f = false ∧ s.funcStopped f = true ∧ s.funcFailed f = false ∧ s.par.staged = [] ∧ s.framesRun = false) ∧
    (∃ (i : Mb) (s : State), s.served i (.fixed 0x0031 4 fun p => zeroAt p 1 3) = true ∧ funcOf? (byteAt (s.reqBody i) 0).toNat = some .hostLink ∧ s.isDegraded .hostLink = false ∧ s.fn.hostLink.stopped = true ∧ s.funcFailed .hostLink = false ∧ s.par.staged = [] ∧ s.framesRun = false) ∧
    (∃ (i : Mb) (s : State), s.served i (.fixed 0x0031 4 fun p => zeroAt p 1 3) = true ∧ funcOf? (byteAt (s.reqBody i) 0).toNat = some .raster ∧ s.isDegraded .raster = false ∧ s.ras.running = false ∧ s.pnl.st = .off ∧ s.par.staged = [] ∧ s.panelSetFails true = none ∧ s.funcFailed .raster = false) ∧
    (∃ (i : Mb) (f : Func) (s : State), s.served i (.fixed 0x0032 4 fun p => zeroAt p 1 3) = true ∧ funcOf? (byteAt (s.reqBody i) 0).toNat = some f) ∧
    (∃ (i : Mb) (s : State), s.served i (.fixed 0x0032 4 fun p => zeroAt p 1 3) = true ∧ byteAt (s.reqBody i) 0 = 0xFF) ∧
    (∃ (i : Mb) (s : State), s.served i (.fixed 0x0032 4 fun p => zeroAt p 1 3) = true ∧ byteAt (s.reqBody i) 0 ≠ 0xFF ∧ funcOf? (byteAt (s.reqBody i) 0).toNat = none) :=
  ⟨⟨.mb0, .dither, ask (up) .mb0 0x0031 ([4, 0, 0, 0]), by decide +kernel⟩,
   ⟨.mb0, .dither, ask ({ scanning with fn := { scanning.fn with dither := { scanning.fn.dither with stopped := true } } }) .mb0 0x0031 ([4, 0, 0, 0]), by decide +kernel⟩,
   ⟨.mb0, .dither, ask ({ up with fn := { up.fn with dither := { up.fn.dither with stopped := true } } }) .mb0 0x0031 ([4, 0, 0, 0]), by decide +kernel⟩,
   ⟨.mb0, ask ({ up with fn := { up.fn with hostLink := { up.fn.hostLink with stopped := true } } }) .mb0 0x0031 ([5, 0, 0, 0]), by decide +kernel⟩,
   ⟨.mb0, ask (waved) .mb0 0x0031 ([7, 0, 0, 0]), by decide +kernel⟩,
   ⟨.mb0, .raster, ask (up) .mb0 0x0032 ([7, 0, 0, 0]), by decide +kernel⟩,
   ⟨.mb0, ask (up) .mb0 0x0032 ([255, 0, 0, 0]), by decide +kernel⟩,
   ⟨.mb0, ask (up) .mb0 0x0032 ([0, 0, 0, 0]), by decide +kernel⟩⟩

theorem test_witness_ModeChangesThroughATransition :
    (∃ (i : Mb) (s : State), s.served i (.fixed 0x0040 4 fun p => zeroAt p 1 3) = true ∧ modeOf? (byteAt (s.reqBody i) 0).toNat = none) ∧
    (∃ (i : Mb) (m : Mode) (s : State), s.served i (.fixed 0x0040 4 fun p => zeroAt p 1 3) = true ∧ modeOf? (byteAt (s.reqBody i) 0).toNat = some m ∧ m ≠ .lattice ∧ s.memLost = false ∧ s.par.staged = [] ∧ s.isFollower = false ∧ s.ras.transition = none ∧ s.framesRun = true ∧ s.timMode ≠ m ∧ s.armedFrame = none) ∧
    (∃ (i : Mb) (m : Mode) (s : State), (s.served i (.fixed 0x0040 4 fun p => zeroAt p 1 3) = true ∧ modeOf? (byteAt (s.reqBody i) 0).toNat = some m ∧ m ≠ .lattice ∧ s.memLost = false ∧ s.par.staged = [] ∧ s.isFollower = false ∧ s.ras.transition = none ∧ s.ras.running = false) ∧ s.paramsSorted) :=
  ⟨⟨.mb0, ask (up) .mb0 0x0040 ([4, 0, 0, 0]), by decide +kernel⟩,
   ⟨.mb0, .fixed, ask (scanning) .mb0 0x0040 ([1, 0, 0, 0]), by decide +kernel⟩,
   ⟨.mb0, .hold, ask (up) .mb0 0x0040 ([3, 0, 0, 0]), ⟨by decide +kernel, List.Pairwise.nil⟩⟩⟩

theorem test_witness_TablesLoadAndRead :
    (∃ (i : Mb) (id : Nat) (f : Frag) (s : State), s.served i cmdTableLoad = true ∧ le2 (s.reqBody i) 0 = id ∧ fragAt (s.reqBody i) 4 = f ∧ 1 ≤ id / 256 ∧ id / 256 ≤ 3 ∧ tableKnown id = true ∧ (s.tableInUse id = false ∨ s.tableOwnerRuns id = false) ∧ (if f.first then f.offset = 0 else (s.table id).st = .loading ∧ f.offset = (s.table id).nextOff) ∧ f.last = false) ∧
    (∃ (i : Mb) (id : Nat) (f : Frag) (s : State) (b : List Byte), let old := if f.first then [] else (s.table id).bytes; (s.served i cmdTableLoad = true ∧ le2 (s.reqBody i) 0 = id ∧ fragAt (s.reqBody i) 4 = f ∧ 1 ≤ id / 256 ∧ id / 256 ≤ 3 ∧ tableKnown id = true ∧ (s.tableInUse id = false ∨ s.tableOwnerRuns id = false) ∧ (if f.first then f.offset = 0 else (s.table id).st = .loading ∧ f.offset = (s.table id).nextOff) ∧ f.last = true) ∧ s.tableCheck id (old ++ f.data) = some b) ∧
    (∃ (i : Mb) (id : Nat) (f : Frag) (s : State), let old := if f.first then [] else (s.table id).bytes; s.served i cmdTableLoad = true ∧ le2 (s.reqBody i) 0 = id ∧ fragAt (s.reqBody i) 4 = f ∧ 1 ≤ id / 256 ∧ id / 256 ≤ 3 ∧ tableKnown id = true ∧ (s.tableInUse id = false ∨ s.tableOwnerRuns id = false) ∧ (if f.first then f.offset = 0 else (s.table id).st = .loading ∧ f.offset = (s.table id).nextOff) ∧ f.last = true ∧ s.tableCheck id (old ++ f.data) = none) ∧
    (∃ (i : Mb) (id : Nat) (s : State), s.served i cmdTableLoad = true ∧ le2 (s.reqBody i) 0 = id ∧ tableKnown id = false) ∧
    (∃ (i : Mb) (id : Nat) (s : State), s.served i cmdTableLoad = true ∧ le2 (s.reqBody i) 0 = id ∧ tableKnown id = true ∧ (id / 256 = 0x20 ∨ id / 256 = 0x21)) ∧
    (∃ (i : Mb) (id : Nat) (s : State), s.served i cmdTableLoad = true ∧ le2 (s.reqBody i) 0 = id ∧ tableKnown id = true ∧ 1 ≤ id / 256 ∧ id / 256 ≤ 3 ∧ s.tableInUse id = true ∧ s.tableOwnerRuns id = true) ∧
    (∃ (i : Mb) (f : Frag) (s : State), s.served i cmdTableLoad = true ∧ le2 (s.reqBody i) 0 = 0xFF00 ∧ fragAt (s.reqBody i) 4 = f ∧ f.offset % 4 = 0 ∧ f.offset + f.data.length ≤ 0x40000000 ∧ Memory.wf s = true) ∧
    (∃ (i : Mb) (id : Nat) (s : State), s.served i cmdTableRead = true ∧ le2 (s.reqBody i) 0 = id ∧ tableKnown id = true ∧ id ≠ 0xFF00 ∧ (id / 256 ≤ 3 ∨ 5 ≤ id / 256 ∧ id / 256 ≤ 7)) ∧
    (∃ (i : Mb) (s : State), s.served i cmdTableRead = true ∧ le2 (s.reqBody i) 0 = 0xFF00 ∧ le4 (s.reqBody i) 4 + le2 (s.reqBody i) 2 ≤ 0x40000000) ∧
    (∃ (i : Mb) (s : State), s.served i cmdTableRead = true ∧ tableKnown (le2 (s.reqBody i) 0) = false) :=
  ⟨⟨.mb0, 0x0301, { first := true, last := false, offset := 0, data := zeros 4 }, ask (up) .mb0 0x0050 (toLe 2 0x0301 ++ zeros 2 ++ toLe 2 1 ++ zeros 2 ++ toLe 4 0 ++ (zeros 4)), by decide +kernel⟩,
   ⟨.mb0, 0x0105, { first := false, last := true, offset := 13920, data := [] }, ask ({ up with tab := [{ id := 0x0105, st := .loading, nextOff := 13920, bytes := driveTable }] }) .mb0 0x0050 (toLe 2 0x0105 ++ zeros 2 ++ toLe 2 2 ++ zeros 2 ++ toLe 4 13920 ++ ([])), driveTable, ⟨by decide +kernel, by
      show State.tableCheck _ _ (driveTable ++ []) = some driveTable
      rw [List.append_nil driveTable]
      exact driveTable_passes _⟩⟩,
   ⟨.mb0, 0x0301, { first := true, last := true, offset := 0, data := zeros 4 }, ask (up) .mb0 0x0050 (toLe 2 0x0301 ++ zeros 2 ++ toLe 2 3 ++ zeros 2 ++ toLe 4 0 ++ (zeros 4)), by decide +kernel⟩,
   ⟨.mb0, 0x9999, ask (up) .mb0 0x0050 (toLe 2 0x9999 ++ zeros 2 ++ toLe 2 1 ++ zeros 2 ++ toLe 4 0 ++ (zeros 4)), by decide +kernel⟩,
   ⟨.mb0, 0x2000, ask (up) .mb0 0x0050 (toLe 2 0x2000 ++ zeros 2 ++ toLe 2 1 ++ zeros 2 ++ toLe 4 0 ++ (zeros 4)), by decide +kernel⟩,
   ⟨.mb0, 0x0300, ask (up) .mb0 0x0050 (toLe 2 0x0300 ++ zeros 2 ++ toLe 2 1 ++ zeros 2 ++ toLe 4 0 ++ (zeros 4)), by decide +kernel⟩,
   ⟨.mb0, { first := true, last := false, offset := 0x3FFFFFFC, data := [1, 2, 3, 4] }, ask (up) .mb0 0x0050 (toLe 2 0xFF00 ++ zeros 2 ++ toLe 2 1 ++ zeros 2 ++ toLe 4 0x3FFFFFFC ++ ([1, 2, 3, 4])), by decide +kernel⟩,
   ⟨.mb0, 0x0301, ask (up) .mb0 0x0051 (toLe 2 0x0301 ++ toLe 2 4 ++ toLe 4 0), by decide +kernel⟩,
   ⟨.mb0, ask (up) .mb0 0x0051 (toLe 2 0xFF00 ++ toLe 2 4 ++ toLe 4 0x3FFFFFFC), by decide +kernel⟩,
   ⟨.mb0, ask (up) .mb0 0x0051 (toLe 2 0x9999 ++ toLe 2 4 ++ toLe 4 0), by decide +kernel⟩⟩

theorem test_witness_VotesPowerStatesAndStandby :
    (∃ (i : Mb) (s : State), let m := BitVec.ofNat 32 (le4 (s.reqBody i) 0); s.served i (.fixed 0x0070 8 fun p => zeroAt p 5 3) = true ∧ le4 (s.reqBody i) 0 ≤ 0x7FFFF ∧ (byteAt (s.reqBody i) 4).toNat ≤ 2) ∧
    (∃ (i : Mb) (s : State), s.served i (.fixed 0x0070 8 fun p => zeroAt p 5 3) = true ∧ (0x7FFFF < le4 (s.reqBody i) 0 ∨ 2 < (byteAt (s.reqBody i) 4).toNat)) ∧
    (∃ (i : Mb) (s : State), s.served i (.fixed 0x0071 4 fun p => zeroAt p 1 3) = true ∧ byteAt (s.reqBody i) 0 = 0) ∧
    (∃ (i : Mb) (s : State), s.served i (.fixed 0x0071 4 fun p => zeroAt p 1 3) = true ∧ (byteAt (s.reqBody i) 0 = 2 ∨ byteAt (s.reqBody i) 0 = 3) ∧ s.pnl.st ≠ .off) ∧
    (∃ (i : Mb) (s : State), s.served i (.fixed 0x0071 4 fun p => zeroAt p 1 3) = true ∧ (byteAt (s.reqBody i) 0 = 2 ∨ byteAt (s.reqBody i) 0 = 3) ∧ s.pnl.st = .off) ∧
    (∃ (i : Mb) (s : State), s.served i (.fixed 0x0071 4 fun p => zeroAt p 1 3) = true ∧ byteAt (s.reqBody i) 0 = 1 ∧ (∀ d : Fin 19, (s.param 0x0C02).testBit d.val = true → s.domFailed d = false)) ∧
    (∃ (i : Mb) (s : State), s.served i (.fixed 0x0071 4 fun p => zeroAt p 1 3) = true ∧ 3 < (byteAt (s.reqBody i) 0).toNat) ∧
    (∃ (s : State), (s.pwr.standby = none ∨ s.snapBusy = true ∨ s.flashBusy = true)) ∧
    (∃ (deep : Bool) (s : State), s.pwr.standby = some { deep := deep } ∧ s.snapBusy = false ∧ s.flashBusy = false ∧ s.pwr.wakeLatched = 0 ∧ (∀ d : Fin 19, s.pwr.dom[d].st ≠ .failed)) :=
  ⟨⟨.mb0, ask (up) .mb0 0x0070 (toLe 4 0x7FFFF ++ [2] ++ zeros 3), by decide +kernel⟩,
   ⟨.mb0, ask (up) .mb0 0x0070 (toLe 4 0x80000 ++ [1] ++ zeros 3), by decide +kernel⟩,
   ⟨.mb0, ask (up) .mb0 0x0071 ([0, 0, 0, 0]), by decide +kernel⟩,
   ⟨.mb0, ask (scanning) .mb0 0x0071 ([3, 0, 0, 0]), by decide +kernel⟩,
   ⟨.mb0, ask (up) .mb0 0x0071 ([2, 0, 0, 0]), by decide +kernel⟩,
   ⟨.mb0, ask (up) .mb0 0x0071 ([1, 0, 0, 0]), by decide +kernel⟩,
   ⟨.mb0, ask (up) .mb0 0x0071 ([4, 0, 0, 0]), by decide +kernel⟩,
   ⟨up, by decide +kernel⟩,
   ⟨false, { up with pwr := { up.pwr with standby := some { deep := false } } }, by decide +kernel⟩⟩

theorem test_witness_DomainsEnterAndWake :
    (∃ (d : Fin 19) (n : Nat) (s : State), s.pwr.dom[d].phase = .settled ∧ s.pwr.dom[d].idleFrom = some n ∧ s.pwr.dom[d].target.rank < s.pwr.dom[d].st.rank ∧ s.votesLive = false) ∧
    (∃ (d : Fin 19) (low : DomState) (s : State), s.pwr.dom[d].phase = .entering low) ∧
    (∃ (s : State), s.pwr.dom[dCtrl].phase = .queued ∧ s.inrushUsed + domCost dCtrl (s.pwr.dom[dCtrl].st == .off) ≤ s.param 0x0C00 ∧ (∀ d : Fin 19, d ≠ dCtrl → s.pwr.dom[d].phase ≠ .queued)) ∧
    (∃ (d : Fin 19) (off : Bool) (n : Nat) (s : State), s.pwr.dom[d].phase = .waking off n ∧ d ≠ dCtrl) ∧
    (∃ (d : Fin 19) (off : Bool) (n : Nat) (s : State), s.pwr.dom[d].phase = .waking off n ∧ s.pwr.dom[d].fails = 0) ∧
    (∃ (d : Fin 19) (off : Bool) (n : Nat) (s : State), s.pwr.dom[d].phase = .waking off n ∧ s.pwr.dom[d].fails ≠ 0 ∧ (d = dCodec ∨ d = dSec)) ∧
    (∃ (d : Fin 19) (n : Nat) (s : State), s.pwr.dom[d].phase = .retryOff ∧ s.pwr.dom[d].idleFrom = some n ∧ s.votesLive = false) :=
  ⟨⟨4, 7, dom 4 (fun d => { d with target := .off, idleFrom := some 7 }) { up with boot := { up.boot with stage := .aonUp } }, by decide +kernel⟩,
   ⟨4, .retention, dom 4 (fun d => { d with phase := .entering .retention }) up, by decide +kernel⟩,
   ⟨dom dCtrl (fun d => { d with st := .off, phase := .queued }) up, by decide +kernel⟩,
   ⟨4, true, 0, dom 4 (fun d => { d with st := .off, phase := .waking true 0 }) up, by decide +kernel⟩,
   ⟨4, true, 0, dom 4 (fun d => { d with st := .off, phase := .waking true 0 }) up, by decide +kernel⟩,
   ⟨dCodec, true, 0, dom dCodec (fun d => { d with st := .off, phase := .waking true 0, fails := 1 }) up, by decide +kernel⟩,
   ⟨4, 3, dom 4 (fun d => { d with st := .off, phase := .retryOff, idleFrom := some 3, fails := 1 }) { up with boot := { up.boot with stage := .aonUp } }, by decide +kernel⟩⟩

theorem test_witness_WakeSourcesQualify :
    (∃ (s : State), s.boot.powered = true ∧ s.wakeCounts .ctl = true ∧ s.pwr.asleep = false ∧ s.domOn dCtrl = false) ∧
    (∃ (s : State), s.boot.powered = true ∧ s.wakeCounts .ctl = false) ∧
    (∃ (s : State), s.wakeCounts .svc = true ∧ s.pwr.asleep = false ∧ s.domOn dCtrl = false) ∧
    (∃ (s : State), s.wakeCounts .picot = true ∧ s.pwr.asleep = false ∧ s.domOn dCtrl = false) ∧
    (∃ (n : Nat) (s : State), s.pwr.wakeTimer = some n ∧ s.wakeCounts .timer = true ∧ s.pwr.asleep = false ∧ s.domOn dCtrl = false) ∧
    (∃ (s : State), s.domOn dCtrl = true) :=
  ⟨⟨asleep, by decide +kernel⟩,
   ⟨State.reset, by decide +kernel⟩,
   ⟨withP [(0x0C03, 0x10)] asleep, by decide +kernel⟩,
   ⟨asleep, by decide +kernel⟩,
   ⟨9, { asleep with pwr := { asleep.pwr with wakeTimer := some 9 } }, by decide +kernel⟩,
   ⟨up, by decide +kernel⟩⟩

theorem test_witness_PanelCommandsAct :
    (∃ (i : Mb) (s : State), s.served i (.bare 0x00D0) = true ∧ s.pnl.st = .off ∧ s.anyFailed [dPipe, dSram0, dSram1, dBobl, dBobr] = false ∧ s.panelSetFails true = none) ∧
    (∃ (i : Mb) (s : State), s.served i (.bare 0x00D0) = true ∧ s.pnl.st = .off ∧ s.anyFailed [dPipe, dSram0, dSram1, dBobl, dBobr] = true) ∧
    (∃ (i : Mb) (s : State), s.served i (.bare 0x00D0) = true ∧ s.pnl.st = .off ∧ s.anyFailed [dPipe, dSram0, dSram1, dBobl, dBobr] = false ∧ s.panelSetFails true ≠ none) ∧
    (∃ (i : Mb) (s : State), s.served i (.bare 0x00D0) = true ∧ s.pnl.st = .on) ∧
    (∃ (i : Mb) (s : State), s.served i (.bare 0x00D0) = true ∧ s.pnl.st ≠ .off ∧ s.pnl.st ≠ .on) ∧
    (∃ (i : Mb) (s : State), s.served i (.fixed 0x00D1 4 fun p => le4 p 0 < 2) = true ∧ s.pnl.st = .off) ∧
    (∃ (i : Mb) (s : State), s.served i (.fixed 0x00D1 4 fun p => le4 p 0 < 2) = true ∧ s.pnl.st = .on ∧ s.ras.running = true) ∧
    (∃ (i : Mb) (s : State), s.served i (.bare 0x00D2) = true ∧ s.pnl.st = .off) ∧
    (∃ (i : Mb) (s : State), s.served i (.bare 0x00D2) = true ∧ s.pnl.st = .on ∧ s.ras.running = true) :=
  ⟨⟨.mb0, ask (waved) .mb0 0x00D0 ([]), by decide +kernel⟩,
   ⟨.mb0, ask (dom dPipe (fun d => { d with st := .failed }) up) .mb0 0x00D0 ([]), by decide +kernel⟩,
   ⟨.mb0, ask (withP [(0x4801, 64)] up) .mb0 0x00D0 ([]), by decide +kernel⟩,
   ⟨.mb0, ask (scanning) .mb0 0x00D0 ([]), by decide +kernel⟩,
   ⟨.mb0, ask (panel .training .none) .mb0 0x00D0 ([]), by decide +kernel⟩,
   ⟨.mb0, ask (up) .mb0 0x00D1 (toLe 4 1), by decide +kernel⟩,
   ⟨.mb0, ask (scanning) .mb0 0x00D1 (toLe 4 1), by decide +kernel⟩,
   ⟨.mb0, ask (up) .mb0 0x00D2 ([]), by decide +kernel⟩,
   ⟨.mb0, ask (scanning) .mb0 0x00D2 ([]), by decide +kernel⟩⟩

theorem test_witness_PanelSequenceSteps :
    (∃ (j : Nat) (s : State), s.pnl.st = .poweringOn ∧ s.domOn dBobl = true ∧ s.domOn dBobr = true ∧ s.pnl.step = .hold ∧ s.enableFrom 0 = some j) ∧
    (∃ (j : Nat) (s : State) (k : Nat), s.pnl.st = .poweringOn ∧ s.domOn dBobl = true ∧ s.domOn dBobr = true ∧ s.pnl.step = .enable k ∧ s.enableFrom (k + 1) = some j) ∧
    (∃ (s : State), s.pnl.st = .poweringOn ∧ s.domOn dBobl = true ∧ s.domOn dBobr = true ∧ s.pnl.step = .settle) ∧
    (∃ (s : State), s.pnl.st = .training ∧ s.bob.phase = 1) ∧
    (∃ (s : State), s.pnl.st = .training ∧ s.bob.phase = 2) ∧
    (∃ (s : State), s.pnl.st = .training ∧ s.bob.phase = 3) ∧
    (∃ (s : State), s.pnl.st = .training ∧ s.bob.phase = 4 ∧ s.driversLeft = []) ∧
    (∃ (s : State), s.pnl.st = .training ∧ s.bob.phase = 4 ∧ s.driversLeft ≠ [] ∧ s.bob.attempt < s.param 0x4007) ∧
    (∃ (s : State), s.pnl.st = .training ∧ s.bob.phase = 4 ∧ s.driversLeft ≠ [] ∧ s.param 0x4007 ≤ s.bob.attempt) ∧
    (∃ (s : State) (k : Nat), (s.pnl.step = .discharge ∧ k < 4 ∧ (s.param 0x4807).testBit k = true) ∧ (∀ j, k < j → j < 4 → (s.param 0x4807).testBit j = false)) ∧
    (∃ (s : State), s.pnl.step = .discharge ∧ (∀ j, j < 4 → (s.param 0x4807).testBit j = false)) ∧
    (∃ (k : Nat) (s : State) (j : Nat), (k < 4 ∧ s.pnl.step = .disable k ∧ j < k ∧ (s.param 0x4807).testBit j = true) ∧ (∀ m, j < m → m < k → (s.param 0x4807).testBit m = false)) ∧
    (∃ (k : Nat) (s : State), k < 4 ∧ s.pnl.step = .disable k ∧ (∀ j, j < k → (s.param 0x4807).testBit j = false)) ∧
    (∃ (s : State), s.pnl.st = .restSweep ∧ s.prk.restRows + 1 < s.param 0x2802) ∧
    (∃ (s : State), s.pnl.st = .restSweep ∧ s.param 0x2802 ≤ s.prk.restRows + 1) ∧
    (∃ (s : State), s.pnl.st = .restSweep) :=
  ⟨⟨0, withP [(0x4807, 1)] (panel .poweringOn .hold), by decide +kernel⟩,
   ⟨3, withP [(0x4807, 9)] (panel .poweringOn (.enable 0)), 0, by decide +kernel⟩,
   ⟨panel .poweringOn .settle, by decide +kernel⟩,
   ⟨{ panel .training .none with bob := { up.bob with phase := 1 } }, by decide +kernel⟩,
   ⟨{ panel .training .none with bob := { up.bob with phase := 2 } }, by decide +kernel⟩,
   ⟨{ panel .training .none with bob := { up.bob with phase := 3 } }, by decide +kernel⟩,
   ⟨{ panel .training .none with bob := { up.bob with phase := 4, driversOk := 0xFFFFFF } }, by decide +kernel⟩,
   ⟨{ panel .training .none with bob := { up.bob with phase := 4, attempt := 1 } }, by decide +kernel⟩,
   ⟨{ panel .training .none with bob := { up.bob with phase := 4, attempt := 15 } }, by decide +kernel⟩,
   ⟨withP [(0x4807, 9)] (panel .poweringOff .discharge), 3, ⟨by decide +kernel, by intro j h1 h2; omega⟩⟩,
   ⟨panel .poweringOff .discharge, ⟨by decide +kernel, by decide +kernel⟩⟩,
   ⟨3, withP [(0x4807, 9)] (panel .poweringOff (.disable 3)), 0, ⟨by decide +kernel, by
      intro m h1 h2
      have hc : m = 1 ∨ m = 2 := by omega
      rcases hc with rfl | rfl <;> decide +kernel⟩⟩,
   ⟨0, panel .poweringOff (.disable 0), by decide +kernel⟩,
   ⟨panel .restSweep .none, by decide +kernel⟩,
   ⟨{ panel .restSweep .none with prk := { up.prk with restRows := 2159 } }, by decide +kernel⟩,
   ⟨panel .restSweep .none, by decide +kernel⟩⟩

theorem test_witness_SensingAndUpdatesAct :
    (∃ (k : Fin 4) (r : Nat) (s : State), s.ras.inBlank = true ∧ k.val = s.prk.blank.rows.length ∧ s.prk.senseDue[k.val]? = some r) ∧
    (∃ (s : State), s.blankSenses true = true ∧ s.thm.step < 2 ∧ s.prk.sweepK + s.param 0x3408 ≤ s.param 0x2802) ∧
    (∃ (l : Fin 6) (r : LaneReq) (rest : List LaneReq) (s : State), s.bob.lane l = r :: rest) ∧
    (∃ (l : Fin 6) (m : List (BitVec 10)) (p : List Byte) (g : Nat) (rest : List LaneReq) (s : State), s.bob.lane l = .caps g :: rest ∧ g < 24 ∧ senseHear m = some (2, g, p) ∧ p.length = 12 ∧ le2 p 0 = 0 ∧ byteAt p 2 = 4 ∧ s.param 0x4002 ≤ bits (le2 p 10) 15 12 ∧ s.param 0x4003 ≤ bits (le2 p 10) 11 0) ∧
    (∃ (s : State), (s.bob.lockState = 2 ∨ s.bob.lockState = 3)) ∧
    (∃ (s : State), s.ras.running = true ∧ s.prkNeutral = false ∧ s.param 0x4800 = 1 ∧ s.param 0x3410 = 1 ∧ s.prk.passOn = false) ∧
    (∃ (s : State), s.prk.passOn = true) ∧
    (∃ (f : Fold) (s : State), s.prk.passOn = true ∧ s.prkNeutral = false ∧ s.prk.folds = [f] ∧ s.ageingActs = false ∧ Memory.wf s = true ∧ f.c < 3 ∧ -128 ≤ f.offset ∧ f.offset ≤ 127 ∧ -128 ≤ f.gain ∧ f.gain ≤ 127) ∧
    (∃ (s : State), s.prk.snap = .none ∧ s.param 0x4800 = 1 ∧ s.param 0x3410 = 1 ∧ s.prk.stress ≠ .off ∧ s.ras.running = true ∧ s.prk.snapWaitUntil = none ∧ s.memLost = false ∧ s.storeLacks = false) ∧
    (∃ (s : State), (s.prk.snap = .copying ∨ s.prk.snap = .compressing) ∧ s.prk.shutdownSnap = false ∧ s.storeLacks = false) ∧
    (∃ (s : State), s.prk.snap ≠ .none ∧ s.prk.snapOverrun = false) ∧
    (∃ (i : Nat) (x : NandStore) (s : State), i < 6 ∧ s.nv.stores = [x] ∧ x.object = objPlane i 0) :=
  ⟨⟨3, 7, { blanking with prk := { up.prk with senseDue := [4, 5, 6, 7], blank := { frame := 5, rows := [0, 1, 2], results := [] }, sweepK := 2159 } }, by decide +kernel⟩,
   ⟨withP [(0x4800, 1), (0x3408, 2)] { blanking with prk := { up.prk with sweepK := 2158 } }, by decide +kernel⟩,
   ⟨0, .poll 1, [.poll 0], { scanning with bob := { up.bob with lanes := up.bob.lanes.set 0 [.poll 1, .poll 0] } }, by decide +kernel⟩,
   ⟨0, repliesOf 2 23 (toLe 2 0 ++ [4] ++ zeros 7 ++ toLe 2 0xFFFF), toLe 2 0 ++ [4] ++ zeros 7 ++ toLe 2 0xFFFF, 23, [.poll 0], { panel .training .none with bob := { up.bob with lanes := up.bob.lanes.set 0 [.caps 23, .poll 0] } }, by decide +kernel⟩,
   ⟨scanning, by decide +kernel⟩,
   ⟨withP [(0x4800, 1)] (mapped scanning), by decide +kernel⟩,
   ⟨{ up with prk := { up.prk with passOn := true } }, by decide +kernel⟩,
   ⟨{ px := 64, c := 2, offset := -128, gain := 127 }, mapped { up with prk := { up.prk with passOn := true, folds := [{ px := 64, c := 2, offset := -128, gain := 127 }] } }, by decide +kernel⟩,
   ⟨withP [(0x4800, 1)] { scanning with prk := { up.prk with stress := .running } }, by decide +kernel⟩,
   ⟨{ up with prk := { up.prk with snap := .copying } }, by decide +kernel⟩,
   ⟨{ up with prk := { up.prk with snap := .wanted } }, by decide +kernel⟩,
   ⟨5, { object := objPlane 5 0, gen := 1, firstBlock := 0, blocks := 0, data := [], planeGen := 0, containers := 0 }, { up with nv := { up.nv with stores := [{ object := objPlane 5 0, gen := 1, firstBlock := 0, blocks := 0, data := [], planeGen := 0, containers := 0 }] } }, by decide +kernel⟩⟩

theorem test_witness_FlashCommandsAct :
    (∃ (i : Mb) (s : State), s.served i cmdNvRead = true ∧ s.domFailed dNvm = false ∧ byteAt (s.reqBody i) 0 = 1 ∧ le4 (s.reqBody i) 4 ≤ 0x7FFFFF ∧ le4 (s.reqBody i) 4 + le2 (s.reqBody i) 2 ≤ 0x800000) ∧
    (∃ (i : Mb) (s : State), s.served i cmdNvRead = true ∧ s.domFailed dNvm = false ∧ byteAt (s.reqBody i) 0 = 2 ∧ le4 (s.reqBody i) 4 < 0x20000000 ∧ le4 (s.reqBody i) 4 % 4096 + le2 (s.reqBody i) 2 ≤ 4096) ∧
    (∃ (i : Mb) (s : State) (r : SmpRec), s.served i cmdNvRead = true ∧ s.domFailed dNvm = false ∧ byteAt (s.reqBody i) 0 = 0 ∧ keyUse (le4 (s.reqBody i) 4) ≠ .unassigned ∧ s.winner (le4 (s.reqBody i) 4) = some r) ∧
    (∃ (i : Mb) (w : NvWrite) (s : State), s.served i cmdNvWrite = true ∧ s.domFailed dNvm = false ∧ keyUse (le2 (s.reqBody i) 0) = .free ∧ 4 < (s.reqBody i).length ∧ s.liveBytes + footprint ((s.reqBody i).drop 4).length ≤ 24576 ∧ s.vin.pfw = false ∧ s.nv.write = some w) ∧
    (∃ (w : NvWrite) (s : State), s.nv.write = some w ∧ w.marker = false ∧ s.norBytes w.addr (recordBody w.key w.seq w.payload).length = recordBody w.key w.seq w.payload) ∧
    (∃ (w : NvWrite) (s : State), s.nv.write = some w ∧ w.marker = true ∧ w.second = none ∧ s.nv.queue = [] ∧ (s.norProgram (w.addr + (recordBody w.key w.seq w.payload).length) [0x5A]).norByte (w.addr + (recordBody w.key w.seq w.payload).length) = 0x5A ∧ (s.mb w.mb).st = .busy ∧ (s.mb w.mb).wait = .nvWrite ∧ (w.mb = .mb0 ∨ w.mb = .mb2)) ∧
    (∃ (i : Mb) (a : Nat) (d : List Byte) (s : State), s.served i cmdNvRaw = true ∧ s.domFailed dNvm = false ∧ le4 (s.reqBody i) 0 = a ∧ (s.reqBody i).drop 8 = d ∧ s.vin.pfw = false ∧ Memory.wf s = true ∧ s.param 0x1800 = 1 ∧ 0x720000 ≤ a ∧ a < 0x7F0000) ∧
    (∃ (i : Mb) (a : Nat) (d : List Byte) (s : State), s.served i cmdNvRaw = true ∧ s.domFailed dNvm = false ∧ le4 (s.reqBody i) 0 = a ∧ (s.reqBody i).drop 8 = d ∧ s.vin.pfw = false ∧ Memory.wf s = true ∧ (s.param 0x1800 ≠ 1 ∨ a < 0x700000 ∨ 0x7F0000 ≤ a)) ∧
    (∃ (i : Mb) (n : Nat) (a : Nat) (s : State), s.served i (.fixed 0x0093 8 fun p => byteAt p 1 == 0) = true ∧ s.domFailed dNvm = false ∧ byteAt (s.reqBody i) 0 = 0 ∧ le2 (s.reqBody i) 2 = n ∧ le4 (s.reqBody i) 4 = a ∧ a % 4096 = 0 ∧ a + n * 4096 ≤ 0x800000 ∧ s.param 0x1800 = 1 ∧ 0x700000 ≤ a ∧ a + n * 4096 ≤ 0x7F0000 ∧ s.vin.pfw = false) ∧
    (∃ (i : Mb) (n : Nat) (a : Nat) (s : State), s.served i (.fixed 0x0093 8 fun p => byteAt p 1 == 0) = true ∧ s.domFailed dNvm = false ∧ byteAt (s.reqBody i) 0 = 0 ∧ le2 (s.reqBody i) 2 = n ∧ le4 (s.reqBody i) 4 = a ∧ a % 4096 = 0 ∧ a + n * 4096 ≤ 0x800000 ∧ (s.param 0x1800 ≠ 1 ∨ a < 0x700000 ∨ 0x7F0000 < a + n * 4096)) ∧
    (∃ (e : NvErase) (s : State), s.nv.erase = some e ∧ e.nand = false ∧ e.suspended = false ∧ 0x720000 ≤ e.addr ∧ Memory.wf s = true) ∧
    (∃ (bank : Bool) (k : Nat) (s : State), k < 16 ∧ s.sectorInUse bank k = true ∧ (∀ j, j < 16 → j ≠ k → s.sectorInUse bank j = true → s.sectorGen bank k < s.sectorGen bank j) ∧ (s.erasedSectors bank).length < s.param 0x1801 ∧ s.nv.write = none ∧ s.vin.pfw = false ∧ Memory.wf s = true) ∧
    (∃ (i : Mb) (s : State), s.domFailed dNvm = true ∧ s.served i cmdNvRead = true) ∧
    (∃ (i : Mb) (s : State), s.domFailed dNvm = true ∧ s.served i cmdNvRaw = true) ∧
    (∃ (i : Mb) (s : State), s.domFailed dNvm = true ∧ s.served i (.fixed 0x0093 8 fun p => byteAt p 1 == 0) = true) ∧
    (∃ (o : Word) (x : NandStore) (s : State), s.nv.stores = [x] ∧ x.object = o.toNat ∧ s.storeLacks = false) ∧
    (∃ (o : Word) (x : NandStore) (s : State), s.nv.stores = [x] ∧ x.object = o.toNat) :=
  ⟨⟨.mb0, ask (up) .mb0 0x0090 ([1, 0] ++ toLe 2 1 ++ toLe 4 0x7FFFFF), by decide +kernel⟩,
   ⟨.mb0, ask (up) .mb0 0x0090 ([2, 0] ++ toLe 2 1 ++ toLe 4 0x1FFFFFFF), by decide +kernel⟩,
   ⟨.mb0, ask (oldSector.norProgram (sectorBase false 0 + 16) (recordBody 0x1000 1 [1] ++ [0x5A])) .mb0 0x0090 ([0, 0] ++ toLe 2 1 ++ toLe 4 0x1000), { bank := false, sector := 0, gen := 1, off := 16, header := true, valid := true, key := 4096, seq := 1, payload := [1] }, by decide +kernel⟩,
   ⟨.mb0, { key := 0x0100, payload := [1], bank := false, seq := 1, addr := 0x720010, marker := false, retried := false, second := none, firstSeq := 1, mb := .mb0 }, ask ({ up with nv := { up.nv with write := some { key := 0x0100, payload := [1], bank := false, seq := 1, addr := 0x720010, marker := false, retried := false, second := none, firstSeq := 1, mb := .mb0 } } }) .mb0 0x0091 (toLe 2 0x1000 ++ toLe 2 1 ++ [9]), by decide +kernel⟩,
   ⟨{ key := 0x1000, payload := [1], bank := false, seq := 1, addr := 0x720010, marker := false, retried := false, second := none, firstSeq := 1, mb := .mb0 }, { up.norProgram 0x720010 (recordBody 0x1000 1 [1]) with nv := { (up.norProgram 0x720010 (recordBody 0x1000 1 [1])).nv with write := some { key := 0x1000, payload := [1], bank := false, seq := 1, addr := 0x720010, marker := false, retried := false, second := none, firstSeq := 1, mb := .mb0 } } }, by decide +kernel⟩,
   ⟨{ key := 0x0100, payload := [1], bank := false, seq := 1, addr := 0x720010, marker := true, retried := false, second := none, firstSeq := 1, mb := .mb0 }, { up with nv := { up.nv with write := some { key := 0x0100, payload := [1], bank := false, seq := 1, addr := 0x720010, marker := true, retried := false, second := none, firstSeq := 1, mb := .mb0 } }, box := { up.box with mb0 := { rung 0x91 [] with st := .busy, wait := .nvWrite } } }, by decide +kernel⟩,
   ⟨.mb2, 0x720000, [0x0F, 0xF0], ask (withP [(0x1800, 1)] up) .mb2 0x0092 (toLe 4 0x720000 ++ toLe 2 2 ++ zeros 2 ++ [0x0F, 0xF0]), by decide +kernel⟩,
   ⟨.mb2, 0x720000, [0x0F, 0xF0], ask (up) .mb2 0x0092 (toLe 4 0x720000 ++ toLe 2 2 ++ zeros 2 ++ [0x0F, 0xF0]), by decide +kernel⟩,
   ⟨.mb2, 1, 0x7EF000, ask (withP [(0x1800, 1)] up) .mb2 0x0093 ([0, 0] ++ toLe 2 1 ++ toLe 4 0x7EF000), by decide +kernel⟩,
   ⟨.mb2, 1, 0x7FF000, ask (withP [(0x1800, 1)] up) .mb2 0x0093 ([0, 0] ++ toLe 2 1 ++ toLe 4 0x7FF000), by decide +kernel⟩,
   ⟨{ nand := false, addr := 0x720000, count := 1, suspended := false }, { up with nv := { up.nv with erase := some { nand := false, addr := 0x720000, count := 1, suspended := false } } }, by decide +kernel⟩,
   ⟨false, 0, oldSector, by decide +kernel⟩,
   ⟨.mb0, ask (dom dNvm (fun d => { d with st := .failed }) up) .mb0 0x0090 ([1, 0] ++ toLe 2 1 ++ toLe 4 0), by decide +kernel⟩,
   ⟨.mb2, ask (dom dNvm (fun d => { d with st := .failed }) up) .mb2 0x0092 (toLe 4 0x720000 ++ toLe 2 2 ++ zeros 2 ++ [0x0F, 0xF0]), by decide +kernel⟩,
   ⟨.mb2, ask (dom dNvm (fun d => { d with st := .failed }) up) .mb2 0x0093 ([0, 0] ++ toLe 2 1 ++ toLe 4 0x7EF000), by decide +kernel⟩,
   ⟨7, { object := 7, gen := 1, firstBlock := 0, blocks := 0, data := [], planeGen := 0, containers := 0 }, { up with nv := { up.nv with stores := [{ object := 7, gen := 1, firstBlock := 0, blocks := 0, data := [], planeGen := 0, containers := 0 }] } }, by decide +kernel⟩,
   ⟨7, { object := 7, gen := 1, firstBlock := 0, blocks := 0, data := [], planeGen := 0, containers := 0 }, { up with nv := { up.nv with stores := [{ object := 7, gen := 1, firstBlock := 0, blocks := 0, data := [], planeGen := 0, containers := 0 }] } }, by decide +kernel⟩⟩

theorem test_witness_LogsStatisticsAndEyelets :
    (∃ (i : Mb) (s : State), s.served i cmdLogRead = true ∧ byteAt (s.reqBody i) 0 = 0 ∧ le4 (s.reqBody i) 4 = 0xFFFFFFFF) ∧
    (∃ (s : State), s.served .mb0 cmdLogRead = true ∧ byteAt (s.reqBody .mb0) 0 = 1) ∧
    (∃ (i : Mb) (s : State), s.served i cmdLogRead = true ∧ i ≠ .mb0 ∧ byteAt (s.reqBody i) 0 = 1) ∧
    (∃ (i : Mb) (s : State), s.served i cmdStatsRead = true ∧ le2 (s.reqBody i) 0 + le2 (s.reqBody i) 2 ≤ 1344) ∧
    (∃ (i : Mb) (s : State), s.served i cmdStatsRead = true ∧ 1344 < le2 (s.reqBody i) 0 + le2 (s.reqBody i) 2) ∧
    (∃ (i : Mb) (s : State), let r := eyeRecAt (s.reqBody i) 4; let n := (byteAt (s.reqBody i) 0).toNat; s.served i cmdEyeSet = true ∧ n ≤ 15 ∧ 0 < r.w ∧ 0 < r.h ∧ r.x + r.w ≤ s.param 0x2801 ∧ r.y + r.h ≤ s.param 0x2802 ∧ r.tap ≤ 3 ∧ r.frames ≠ 3) ∧
    (∃ (i : Mb) (s : State), let r := eyeRecAt (s.reqBody i) 4; let n := (byteAt (s.reqBody i) 0).toNat; s.served i cmdEyeSet = true ∧ (15 < n ∨ r.w = 0 ∨ r.h = 0 ∨ s.param 0x2801 < r.x + r.w ∨ s.param 0x2802 < r.y + r.h ∨ 3 < r.tap ∨ r.frames = 3)) ∧
    (∃ (i : Mb) (s : State), s.served i (.fixed 0x00E1 4 fun p => zeroAt p 1 3) = true ∧ (byteAt (s.reqBody i) 0).toNat ≤ 15) :=
  ⟨⟨.mb0, ask (up) .mb0 0x0080 ([0, 29] ++ zeros 2 ++ toLe 4 0xFFFFFFFF), by decide +kernel⟩,
   ⟨ask ({ up with evq := { up.evq with entries := up.log.ring, overflow := true, dropped := 3 } }) .mb0 0x0080 ([1, 1] ++ zeros 6), by decide +kernel⟩,
   ⟨.mb2, ask (up) .mb2 0x0080 ([1, 1] ++ zeros 6), by decide +kernel⟩,
   ⟨.mb0, ask (up) .mb0 0x0081 (toLe 2 1343 ++ toLe 2 1), by decide +kernel⟩,
   ⟨.mb0, ask (up) .mb0 0x0081 (toLe 2 1343 ++ toLe 2 2), by decide +kernel⟩,
   ⟨.mb0, ask (up) .mb0 0x00E0 ([15] ++ zeros 3 ++ (toLe 2 3839 ++ toLe 2 2159 ++ toLe 2 1 ++ toLe 2 1 ++ [3, 0x10] ++ zeros 2 ++ toLe 4 0)), by decide +kernel⟩,
   ⟨.mb0, ask (up) .mb0 0x00E0 ([16] ++ zeros 3 ++ (toLe 2 3839 ++ toLe 2 2159 ++ toLe 2 1 ++ toLe 2 1 ++ [3, 0x10] ++ zeros 2 ++ toLe 4 0)), by decide +kernel⟩,
   ⟨.mb0, ask (up) .mb0 0x00E1 ([15, 0, 0, 0]), by decide +kernel⟩⟩

theorem test_witness_CompressionRuns :
    (∃ (i : Mb) (s : State), s.served i cmdCmpRun = true ∧ s.param 0x1C01 = 0) ∧
    (∃ (i : Mb) (s : State), s.served i cmdCmpRun = true ∧ s.param 0x1C01 ≠ 0 ∧ (byteAt (s.reqBody i) 2).toNat.testBit 1 = false ∧ le4 (s.reqBody i) 20 = 0 ∧ cmpFieldsOk (s.reqBody i) = false) ∧
    (∃ (i : Mb) (s : State), s.served i cmdCmpRun = true ∧ s.param 0x1C01 ≠ 0 ∧ (byteAt (s.reqBody i) 2).toNat.testBit 1 = false ∧ le4 (s.reqBody i) 20 = 0 ∧ cmpFieldsOk (s.reqBody i) = true ∧ s.domFailed dCodec = false) ∧
    (∃ (j : CmpJob) (rest : List CmpJob) (s : State), let src := s.ramBytes (j.srcAddr + j.inPos) (j.srcBytes - j.inPos); let c := container j.level true false j.block src; (s.cmp.jobs = j :: rest ∧ s.domOn dCodec = true ∧ s.lanesTaken = false ∧ j.op = .compress ∧ j.image = none ∧ j.store = true ∧ j.verify = false ∧ j.index = false ∧ j.blockBytes = 65536 ∧ j.inPos < j.srcBytes ∧ j.srcBytes ≤ j.inPos + 65536 ∧ j.stored = 0 ∧ Memory.wf s = true) ∧ j.outPos + c.1.length ≤ j.dstBytes) ∧
    (∃ (j : CmpJob) (rest : List CmpJob) (s : State), let left := j.srcBytes - j.inPos; s.cmp.jobs = j :: rest ∧ s.domOn dCodec = true ∧ s.lanesTaken = false ∧ j.op = .check) :=
  ⟨⟨.mb0, ask (withP [(0x1C01, 0)] up) .mb0 0x00A0 ([0, 6, 0, 0] ++ toLe 4 0x44000000 ++ toLe 4 16 ++ toLe 4 0x44100000 ++ toLe 4 4096 ++ toLe 4 0 ++ zeros 8), by decide +kernel⟩,
   ⟨.mb0, ask (up) .mb0 0x00A0 ([0, 10, 0, 0] ++ toLe 4 0x44000000 ++ toLe 4 16 ++ toLe 4 0x44100000 ++ toLe 4 4096 ++ toLe 4 0 ++ zeros 8), by decide +kernel⟩,
   ⟨.mb0, ask (up) .mb0 0x00A0 ([0, 6, 0, 0] ++ toLe 4 0x44000000 ++ toLe 4 16 ++ toLe 4 0x44100000 ++ toLe 4 4096 ++ toLe 4 0 ++ zeros 8), by decide +kernel⟩,
   ⟨{ user := 4, op := .compress, level := 1, store := true, test := false, verify := false, index := false, image := none, srcAddr := 0x44000000, srcBytes := 16, dstAddr := 0x44100000, dstBytes := 4096, blockBytes := 65536, inPos := 0, outPos := 0, block := 0, lastIndex := none, blocks := 0, stored := 0, offsets := [], job := 1, mb := .mb0, tag := 7, startAt := 0 }, [], { up with cmp := { up.cmp with jobs := [{ user := 4, op := .compress, level := 1, store := true, test := false, verify := false, index := false, image := none, srcAddr := 0x44000000, srcBytes := 16, dstAddr := 0x44100000, dstBytes := 4096, blockBytes := 65536, inPos := 0, outPos := 0, block := 0, lastIndex := none, blocks := 0, stored := 0, offsets := [], job := 1, mb := .mb0, tag := 7, startAt := 0 }] } }, ⟨by decide +kernel, by
      show 0 + (container 1 true false 0 _).1.length ≤ 4096
      exact Nat.le_trans (Nat.add_le_add_left (container_fits ..) 0) (by decide +kernel)⟩⟩,
   ⟨{ user := 4, op := .check, level := 1, store := true, test := false, verify := false, index := false, image := none, srcAddr := 0x44000000, srcBytes := 16, dstAddr := 0x44100000, dstBytes := 4096, blockBytes := 65536, inPos := 0, outPos := 0, block := 0, lastIndex := none, blocks := 0, stored := 0, offsets := [], job := 1, mb := .mb0, tag := 7, startAt := 0 }, [], { up with cmp := { up.cmp with jobs := [{ user := 4, op := .check, level := 1, store := true, test := false, verify := false, index := false, image := none, srcAddr := 0x44000000, srcBytes := 16, dstAddr := 0x44100000, dstBytes := 4096, blockBytes := 65536, inPos := 0, outPos := 0, block := 0, lastIndex := none, blocks := 0, stored := 0, offsets := [], job := 1, mb := .mb0, tag := 7, startAt := 0 }] } }, by decide +kernel⟩⟩

theorem test_witness_HandshakesEstablishSessions :
    (∃ (i : Mb) (s : State), s.served i cmdSecSession = true ∧ s.domFailed dSec = false ∧ byteAt (s.reqBody i) 0 = 1 ∧ s.param 0x2001 ≠ 1 ∧ s.sec.unlocked = false ∧ helloOk (s.reqBody i) = true ∧ s.sec.handshake = none) ∧
    (∃ (i : Mb) (s : State), s.served i cmdSecSession = true ∧ s.domFailed dSec = false ∧ byteAt (s.reqBody i) 0 = 1 ∧ s.param 0x2001 ≠ 1 ∧ s.sec.unlocked = false ∧ helloOk (s.reqBody i) = false ∧ (i = .mb0 ∨ i = .mb2)) ∧
    (∃ (side : Side) (sets : List (List LinkBlock)) (p : List Byte) (m : List Byte) (s : State), s.brings side sets 8 false p = true ∧ s.stream side = .left ∧ protMessage p = some m ∧ byteAt m 0 = 1 ∧ s.param 0x2001 ≠ 1 ∧ s.sec.unlocked = false ∧ helloOk m = true ∧ s.sec.handshake = none) ∧
    (∃ (h : Handshake) (s : State), let id := if s.sec.idCounter + 1 = 0 then 1 else s.sec.idCounter + 1; s.sec.handshake = some h ∧ h.deviceHello = none) ∧
    (∃ (side : Side) (at_ : Nat) (sets : List (List LinkBlock)) (p : List Byte) (m : List Byte) (dh : List Byte) (h : Handshake) (k : Keys) (s : State), s.brings side sets 8 false p = true ∧ s.stream side = .left ∧ protMessage p = some m ∧ finishOk m = true ∧ s.sec.handshake = some h ∧ h.deviceHello = some dh ∧ h.keys = some k ∧ (s.arrived side at_ sets).now ≤ h.sentAt + ms 1000) :=
  ⟨⟨.mb0, ask (up) .mb0 0x00B0 ([1, 1] ++ toLe 2 88 ++ zeros 84), by decide +kernel⟩,
   ⟨.mb0, ask (up) .mb0 0x00B0 ([1, 2] ++ toLe 2 88 ++ zeros 84), by decide +kernel⟩,
   ⟨.left, (linked up).wire .left 8 false ([1, 1] ++ toLe 2 88 ++ zeros 92), [1, 1] ++ toLe 2 88 ++ zeros 92, [1, 1] ++ toLe 2 88 ++ zeros 84, linked up, by decide +kernel⟩,
   ⟨{ hello := [1, 1] ++ toLe 2 88 ++ zeros 84, path := none, draw := 0, deviceHello := none, id := 0, keys := none, sentAt := 0, renew := false }, { linked up with sec := { up.sec with handshake := some { hello := [1, 1] ++ toLe 2 88 ++ zeros 84, path := none, draw := 0, deviceHello := none, id := 0, keys := none, sentAt := 0, renew := false } } }, by decide +kernel⟩,
   ⟨.left, 5, ({ linked up with sec := { up.sec with handshake := some { hello := [1, 1] ++ toLe 2 88 ++ zeros 84, path := none, draw := 0, deviceHello := some [], id := 1, keys := some { row := [], tag := [], ctl := [], hconf := [], dconf := [] }, sentAt := 0, renew := false } } }).wire .left 8 false ([3, 1] ++ toLe 2 48 ++ zeros 44), [3, 1] ++ toLe 2 48 ++ zeros 44, [3, 1] ++ toLe 2 48 ++ zeros 44, [], { hello := [1, 1] ++ toLe 2 88 ++ zeros 84, path := none, draw := 0, deviceHello := some [], id := 1, keys := some { row := [], tag := [], ctl := [], hconf := [], dconf := [] }, sentAt := 0, renew := false }, { row := [], tag := [], ctl := [], hconf := [], dconf := [] }, { linked up with sec := { up.sec with handshake := some { hello := [1, 1] ++ toLe 2 88 ++ zeros 84, path := none, draw := 0, deviceHello := some [], id := 1, keys := some { row := [], tag := [], ctl := [], hconf := [], dconf := [] }, sentAt := 0, renew := false } } }, by decide +kernel⟩⟩

theorem test_witness_ApprovalsChangeProtectedSettings :
    (∃ (i : Mb) (s : State), s.served i (.bare 0x00B2) = true) ∧
    (∃ (i : Mb) (f : Frag) (s : State), let old := if f.first then [] else s.sec.bundle.bytes; s.served i cmdSecApprove = true ∧ fragAt (s.reqBody i) 0 = f ∧ (if f.first then f.offset = 0 else s.sec.bundle.open_ = true ∧ f.offset = s.sec.bundle.nextOff) ∧ f.offset + f.data.length ≤ 2 ^ 32 ∧ f.last = false) ∧
    (∃ (i : Mb) (f : Frag) (s : State), let old := if f.first then [] else s.sec.bundle.bytes; s.served i cmdSecApprove = true ∧ fragAt (s.reqBody i) 0 = f ∧ (if f.first then f.offset = 0 else s.sec.bundle.open_ = true ∧ f.offset = s.sec.bundle.nextOff) ∧ f.offset + f.data.length ≤ 2 ^ 32 ∧ f.last = true) ∧
    (∃ (i : Mb) (s : State), s.served i cmdSecApprove = true ∧ (fragAt (s.reqBody i) 0).first = true ∧ (fragAt (s.reqBody i) 0).offset ≠ 0) ∧
    (∃ (s : State), s.sec.bundle.checking = true) :=
  ⟨⟨.mb0, ask (up) .mb0 0x00B2 ([]), by decide +kernel⟩,
   ⟨.mb2, { first := true, last := false, offset := 0, data := zeros 4 }, ask (up) .mb2 0x00B1 (toLe 2 1 ++ zeros 2 ++ toLe 4 0 ++ zeros 4), by decide +kernel⟩,
   ⟨.mb2, { first := true, last := true, offset := 0, data := zeros 4 }, ask (up) .mb2 0x00B1 (toLe 2 3 ++ zeros 2 ++ toLe 4 0 ++ zeros 4), by decide +kernel⟩,
   ⟨.mb2, ask (up) .mb2 0x00B1 (toLe 2 1 ++ zeros 2 ++ toLe 4 4 ++ zeros 4), by decide +kernel⟩,
   ⟨{ up with sec := { up.sec with bundle := { open_ := false, nextOff := 4, bytes := zeros 4, checking := true } } }, by decide +kernel⟩⟩

theorem test_witness_FirmwareImagesAreProgrammed :
    (∃ (i : Mb) (f : Frag) (slot : Bool) (s : State), s.served i cmdFwUpdate = true ∧ fragAt (s.reqBody i) 0 = f ∧ s.vin.pfw = false ∧ f.first = true ∧ f.offset = 0 ∧ s.boot.stage ≠ .recovery ∧ slot = !s.boot.slot ∧ Memory.wf s = true) ∧
    (∃ (i : Mb) (f : Frag) (s : State), s.served i cmdFwUpdate = true ∧ fragAt (s.reqBody i) 0 = f ∧ s.vin.pfw = false ∧ f.first = false ∧ s.sec.image.open_ = true ∧ f.offset = s.sec.image.nextOff ∧ f.offset + f.data.length ≤ slotSize ∧ Memory.wf s = true) ∧
    (∃ (s : State), s.sec.image.checking = true) :=
  ⟨⟨.mb0, { first := true, last := false, offset := 0, data := [1, 2, 3, 4] }, true, ask (up) .mb0 0x00B3 (toLe 2 1 ++ zeros 2 ++ toLe 4 0 ++ [1, 2, 3, 4]), by decide +kernel⟩,
   ⟨.mb0, { first := false, last := true, offset := 4, data := [1, 2, 3, 4] }, ask ({ up with sec := { up.sec with imageSlot := true, image := { open_ := true, nextOff := 4, bytes := [], checking := false } } }) .mb0 0x00B3 (toLe 2 2 ++ zeros 2 ++ toLe 4 4 ++ [1, 2, 3, 4]), by decide +kernel⟩,
   ⟨{ up with sec := { up.sec with imageSlot := true, image := { open_ := false, nextOff := 4, bytes := [], checking := true } } }, by decide +kernel⟩⟩

theorem test_witness_LinkWakesAndLeavesActive :
    (∃ (side : Side) (s : State), s.hl.a.st = .idle ∧ s.hl.b.st = .idle ∧ (s.hl.group side).idleSeen = true ∧ (s.param 0x2406).testBit 0 = true ∧ s.wakeCounts .hlActivity = true ∧ s.pwr.asleep = false ∧ s.fn.hostLink.stopped = false ∧ s.domOn dHla = true ∧ s.domOn dHlb = true) ∧
    (∃ (s : State), s.hl.a.st = .idle ∧ s.hl.b.st = .idle ∧ (s.param 0x2406).testBit 1 = true ∧ s.wakeCounts .hlWake = true ∧ s.pwr.asleep = false ∧ s.fn.hostLink.stopped = false ∧ s.domOn dHla = true ∧ s.domOn dHlb = true) ∧
    (∃ (side : Side) (s : State), (s.hl.group side).st ≠ .idle) ∧
    (∃ (side : Side) (s : State), (s.hl.group side).st = .idle) ∧
    (∃ (s : State), s.hl.backoff = true ∧ (s.hl.a.clockPresent = true ∨ s.hl.b.clockPresent = true) ∧ s.hl.a.st = .idle ∧ s.hl.b.st = .idle ∧ s.fn.hostLink.stopped = false ∧ s.domOn dHla = true ∧ s.domOn dHlb = true) ∧
    (∃ (side : Side) (lane : Fin 8) (at_ : Nat) (block : LinkBlock) (s : State), let recent := (s.hl.group side).blockErrs.filter fun e => max s.now at_ < e + ms 1; (s.hl.group side).st = .active ∧ lane.val < s.param 0x2401 / 2 ∧ (s.hl.group side).blockWrong block = true ∧ recent.length + 1 ≤ s.param 0x2408) ∧
    (∃ (side : Side) (lane : Fin 8) (at_ : Nat) (block : LinkBlock) (s : State), let recent := (s.hl.group side).blockErrs.filter fun e => max s.now at_ < e + ms 1; (s.hl.group side).st = .active ∧ lane.val < s.param 0x2401 / 2 ∧ (s.hl.group side).blockWrong block = true ∧ s.param 0x2408 < recent.length + 1) ∧
    (∃ (side : Side) (block : LinkBlock) (s : State), ((s.hl.group side).st ≠ .active ∨ (s.hl.group side).blockWrong block = false)) ∧
    (∃ (side : Side) (blocks : List LinkBlock) (s : State), (s.hl.group (s.stream side)).st = .active ∧ s.setIs (s.stream side) .ts1 blocks = true) ∧
    (∃ (side : Side) (s : State), (s.hl.group side).st = .active) ∧
    (∃ (idle : Word) (s : State), s.hl.sleepIdle = some idle ∧ s.hl.a.st = .active ∧ s.hl.b.st = .active) ∧
    (∃ (side : Side) (blocks : List LinkBlock) (s : State), (s.hl.group (s.stream side)).st = .active ∧ s.setIs (s.stream side) .sof blocks = true) :=
  ⟨⟨.right, up, by decide +kernel⟩,
   ⟨up, by decide +kernel⟩,
   ⟨.left, groups .phase, by decide +kernel⟩,
   ⟨.left, { up with hl := { up.hl with a := { up.hl.a with clockPresent := true } } }, by decide +kernel⟩,
   ⟨{ up with hl := { up.hl with backoff := true, a := { up.hl.a with clockPresent := true } } }, by decide +kernel⟩,
   ⟨.left, 7, 1013786, 3, linked up, by decide +kernel⟩,
   ⟨.left, 7, 1013786, orderedBlock [0x11], linked { up with hl := { up.hl with a := { up.hl.a with blockErrs := List.replicate 16 1013786 } } }, by decide +kernel⟩,
   ⟨.left, 2, linked up, by decide +kernel⟩,
   ⟨.right, (List.range 8).map fun n => orderedBlock (tsBytes 0x1E 0x45 n (.right : Side).code 120), linked scanning, by decide +kernel⟩,
   ⟨.right, linked scanning, by decide +kernel⟩,
   ⟨100, linked { up with hl := { up.hl with sleepIdle := some 100 } }, by decide +kernel⟩,
   ⟨.right, List.replicate 8 (orderedBlock (0x4B :: zeros 15)), linked { up with hl := { up.hl with b := { up.hl.b with skipToSof := true } } }, by decide +kernel⟩⟩

theorem test_witness_LinkTrainsStateByState :
    (∃ (side : Side) (s : State), (s.hl.group side).st = .clkDetect) ∧
    (∃ (side : Side) (ph : List (BitVec 6)) (s : State), ph.length = 8 ∧ (s.hl.group side).st = .phase) ∧
    (∃ (side : Side) (eyes : List LaneEye) (d : LaneEye) (s : State), eyes.length = 8 ∧ (s.hl.group side).st = .equalize ∧ s.param 0x2401 / 2 ≤ 8 ∧ (∀ k, k < s.param 0x2401 / 2 → 30 ≤ (eyes.getD k d).height.toNat ∧ 20 ≤ (eyes.getD k d).width.toNat)) ∧
    (∃ (side : Side) (eyes : List LaneEye) (d : LaneEye) (s : State), eyes.length = 8 ∧ (s.hl.group side).st = .equalize ∧ s.param 0x2401 / 2 ≤ 8 ∧ (∃ k, k < s.param 0x2401 / 2 ∧ ((eyes.getD k d).height.toNat < 30 ∨ (eyes.getD k d).width.toNat < 20)) ∧ s.hl.attempts < s.param 0x2409) ∧
    (∃ (side : Side) (skew : BitVec 16) (ds : List (BitVec 5)) (ts2 : List LinkBlock) (s : State), ds.length = 8 ∧ (s.hl.group side).st = .deskew ∧ (∀ k, k < s.param 0x2401 / 2 → (ds.getD k 0).toNat ≤ 16) ∧ (s.param 0x2400 = 1 → skew.toInt.natAbs ≤ 4000) ∧ (∀ n, n < s.param 0x2401 / 2 → ts2.getD n 0 = orderedBlock (tsBytes 0x2D 0x45 n side.code (s.param 0x2402)))) ∧
    (∃ (side : Side) (skew : BitVec 16) (ds : List (BitVec 5)) (ts2 : List LinkBlock) (s : State), ds.length = 8 ∧ (s.hl.group side).st = .deskew ∧ (∃ k, k < s.param 0x2401 / 2 ∧ 16 < (ds.getD k 0).toNat) ∨ (s.param 0x2400 = 1 ∧ 4000 < skew.toInt.natAbs) ∨ (∃ n, n < s.param 0x2401 / 2 ∧ ts2.getD n 0 ≠ orderedBlock (tsBytes 0x2D 0x45 n side.code (s.param 0x2402))) ∧ s.hl.attempts < s.param 0x2409) ∧
    (∃ (side : Side) (s : State), (s.hl.group side).st ≠ .idle ∧ (s.hl.group side).st ≠ .active ∧ s.hl.attempts < s.param 0x2409) ∧
    (∃ (side : Side) (s : State), (s.hl.group side).st ≠ .idle ∧ (s.hl.group side).st ≠ .active ∧ s.param 0x2409 ≤ s.hl.attempts) ∧
    (∃ (side : Side) (s : State), (s.hl.group side).st ≠ .idle ∧ (s.hl.group side).st ≠ .active) :=
  ⟨⟨.left, groups .clkDetect, by decide +kernel⟩,
   ⟨.right, List.replicate 8 63, groups .phase, by decide +kernel⟩,
   ⟨.left, List.replicate 8 { heights := [], height := 30, width := 20 }, { heights := [], height := 0, width := 0 }, groups .equalize, by decide +kernel⟩,
   ⟨.left, List.replicate 8 { heights := [], height := 30, width := 19 }, { heights := [], height := 0, width := 0 }, groups .equalize, by decide +kernel⟩,
   ⟨.right, 4000, List.replicate 8 16, (List.range 8).map fun n => orderedBlock (tsBytes 0x2D 0x45 n (.right : Side).code 120), groups .deskew, by decide +kernel⟩,
   ⟨.right, 0, List.replicate 8 16, ((List.range 8).map fun n => orderedBlock (tsBytes 0x2D 0x45 n (.right : Side).code 120)).reverse, groups .deskew, by decide +kernel⟩,
   ⟨.left, groups .deskew, by decide +kernel⟩,
   ⟨.left, { groups .phase with hl := { (groups .phase).hl with attempts := 3 } }, by decide +kernel⟩,
   ⟨.left, groups .clkDetect, by decide +kernel⟩⟩

theorem test_witness_FramesAreReceived :
    (∃ (side : Side) (o : Side) (sets : List (List LinkBlock)) (p : List Byte) (s : State), s.brings side sets 1 false p = true ∧ s.hl.frame = none ∧ o ≠ s.stream side ∧ (s.hl.group (s.stream side)).fs = [] ∧ (byteAt p 5).toNat = s.param 0x2403 ∧ le2 p 6 = s.param 0x2801 ∧ le2 p 8 = s.param 0x2802 ∧ (s.param 0x2000 = 1 → (byteAt p 4).toNat.testBit 2 = true) ∧ (s.param 0x2400 = 1 ∨ (s.hl.group o).fs = p)) ∧
    (∃ (side : Side) (o : Side) (sets : List (List LinkBlock)) (p : List Byte) (s : State), s.brings side sets 1 false p = true ∧ s.hl.frame = none ∧ o ≠ s.stream side ∧ (s.hl.group (s.stream side)).fs = [] ∧ (byteAt p 5).toNat = s.param 0x2403 ∧ le2 p 6 = s.param 0x2801 ∧ le2 p 8 = s.param 0x2802 ∧ (s.param 0x2000 = 1 → (byteAt p 4).toNat.testBit 2 = true) ∧ s.param 0x2400 ≠ 1 ∧ (s.hl.group o).fs = []) ∧
    (∃ (side : Side) (o : Side) (sets : List (List LinkBlock)) (p : List Byte) (s : State), s.brings side sets 1 false p = true ∧ s.hl.frame = none ∧ o ≠ s.stream side ∧ (s.hl.group (s.stream side)).fs = [] ∧ ((byteAt p 5).toNat ≠ s.param 0x2403 ∨ le2 p 6 ≠ s.param 0x2801 ∨ le2 p 8 ≠ s.param 0x2802) ∧ (s.stream side = .left ∨ s.hl.a.fs = p)) ∧
    (∃ (side : Side) (o : Side) (sets : List (List LinkBlock)) (p : List Byte) (s : State), s.brings side sets 1 false p = true ∧ s.hl.frame = none ∧ o ≠ s.stream side ∧ (s.hl.group (s.stream side)).fs = [] ∧ s.param 0x2400 ≠ 1 ∧ (s.hl.group o).fs ≠ [] ∧ (s.hl.group o).fs ≠ p) ∧
    (∃ (side : Side) (r : Nat) (first : List LinkBlock) (sets : List (List LinkBlock)) (p : List Byte) (f : InputFrame) (s : State), let i := s.stream side; let x0 := (s.halfCols i).1; let n := (s.halfCols i).2; let bitsN := formatBits f.format; let data := slice p 16 ((3 * bitsN * n + 7) / 8); s.brings side (first :: sets) 2 false p = true ∧ s.hl.frame = some f ∧ f.use = .captured ∧ (s.hl.group (s.stream side)).fs ≠ [] ∧ (s.hl.group (s.stream side)).fe = none ∧ crc32c (p.take (p.length - 4)) = le4 p (p.length - 4) ∧ le2 p 0 = r ∧ r < s.param 0x2802 ∧ (s.hl.group (s.stream side)).lastRow.elim 0 (· + 1) = r ∧ s.rowFits (s.stream side) f p = true ∧ s.memLost = false ∧ Memory.wf s = true) ∧
    (∃ (side : Side) (sets : List (List LinkBlock)) (p : List Byte) (f : InputFrame) (s : State), s.brings side sets 3 false p = true ∧ s.hl.frame = some f ∧ f.use = .captured ∧ f.bad = [] ∧ f.prot = false ∧ s.frozen = false ∧ (s.hl.group (s.stream side)).fs ≠ [] ∧ le4 p 0 = le4 (s.hl.group (s.stream side)).fs 0 ∧ (s.hl.group (s.stream side)).lastRow.elim 0 (· + 1) = s.param 0x2802 ∧ (∀ k, k ∈ s.carriers → k ≠ s.stream side → (s.hl.group k).fe.isSome = true)) ∧
    (∃ (side : Side) (sets : List (List LinkBlock)) (p : List Byte) (f : InputFrame) (s : State) (k : Side), s.brings side sets 3 false p = true ∧ s.hl.frame = some f ∧ f.use = .captured ∧ f.bad = [] ∧ f.prot = false ∧ s.frozen = false ∧ (s.hl.group (s.stream side)).fs ≠ [] ∧ le4 p 0 = le4 (s.hl.group (s.stream side)).fs 0 ∧ (s.hl.group (s.stream side)).lastRow.elim 0 (· + 1) = s.param 0x2802 ∧ k ∈ s.carriers ∧ k ≠ s.stream side ∧ (s.hl.group k).fe = none) :=
  ⟨⟨.left, .right, ({ linked up with hl := { (linked up).hl with b := { (linked up).hl.b with fs := toLe 4 9 ++ [0, 1] ++ toLe 2 3840 ++ toLe 2 2160 ++ zeros 6 } } }).wire .left 1 false (toLe 4 9 ++ [0, 1] ++ toLe 2 3840 ++ toLe 2 2160 ++ zeros 6), toLe 4 9 ++ [0, 1] ++ toLe 2 3840 ++ toLe 2 2160 ++ zeros 6, { linked up with hl := { (linked up).hl with b := { (linked up).hl.b with fs := toLe 4 9 ++ [0, 1] ++ toLe 2 3840 ++ toLe 2 2160 ++ zeros 6 } } }, by decide +kernel⟩,
   ⟨.left, .right, (linked up).wire .left 1 false (toLe 4 9 ++ [0, 1] ++ toLe 2 3840 ++ toLe 2 2160 ++ zeros 6), toLe 4 9 ++ [0, 1] ++ toLe 2 3840 ++ toLe 2 2160 ++ zeros 6, linked up, by decide +kernel⟩,
   ⟨.left, .right, (linked up).wire .left 1 false (toLe 4 9 ++ [0, 2] ++ toLe 2 3840 ++ toLe 2 2160 ++ zeros 6), toLe 4 9 ++ [0, 2] ++ toLe 2 3840 ++ toLe 2 2160 ++ zeros 6, linked up, by decide +kernel⟩,
   ⟨.left, .right, ({ linked up with hl := { (linked up).hl with b := { (linked up).hl.b with fs := toLe 4 9 ++ [0, 1] ++ toLe 2 3840 ++ toLe 2 2160 ++ zeros 6 } } }).wire .left 1 false (toLe 4 8 ++ [0, 1] ++ toLe 2 3840 ++ toLe 2 2160 ++ zeros 6), toLe 4 8 ++ [0, 1] ++ toLe 2 3840 ++ toLe 2 2160 ++ zeros 6, { linked up with hl := { (linked up).hl with b := { (linked up).hl.b with fs := toLe 4 9 ++ [0, 1] ++ toLe 2 3840 ++ toLe 2 2160 ++ zeros 6 } } }, by decide +kernel⟩,
   ⟨.left, 0, (({ withP [(0x2801, 64), (0x2802, 64), (0x4801, 64), (0x4802, 64)] (linked up) with hl := { (withP [(0x2801, 64), (0x2802, 64), (0x4801, 64), (0x4802, 64)] (linked up)).hl with frame := some { src := 9, flags := 0, format := 1, use := .captured, slot1 := true, bad := [], judged := 0, hoopRepeat := false, started := false, fsBytes := fsOf, slotAt := none, decided := true, fsAt := 0 }, fsLast := some 9, a := { (linked up).hl.a with fs := fsOf, lastRow := none }, b := { (linked up).hl.b with fs := fsOf, lastRow := none, fe := none } } }).wire .left 2 false (rowOf 0)).headD [], (({ withP [(0x2801, 64), (0x2802, 64), (0x4801, 64), (0x4802, 64)] (linked up) with hl := { (withP [(0x2801, 64), (0x2802, 64), (0x4801, 64), (0x4802, 64)] (linked up)).hl with frame := some { src := 9, flags := 0, format := 1, use := .captured, slot1 := true, bad := [], judged := 0, hoopRepeat := false, started := false, fsBytes := fsOf, slotAt := none, decided := true, fsAt := 0 }, fsLast := some 9, a := { (linked up).hl.a with fs := fsOf, lastRow := none }, b := { (linked up).hl.b with fs := fsOf, lastRow := none, fe := none } } }).wire .left 2 false (rowOf 0)).tail, rowOf 0, { src := 9, flags := 0, format := 1, use := .captured, slot1 := true, bad := [], judged := 0, hoopRepeat := false, started := false, fsBytes := fsOf, slotAt := none, decided := true, fsAt := 0 }, { withP [(0x2801, 64), (0x2802, 64), (0x4801, 64), (0x4802, 64)] (linked up) with hl := { (withP [(0x2801, 64), (0x2802, 64), (0x4801, 64), (0x4802, 64)] (linked up)).hl with frame := some { src := 9, flags := 0, format := 1, use := .captured, slot1 := true, bad := [], judged := 0, hoopRepeat := false, started := false, fsBytes := fsOf, slotAt := none, decided := true, fsAt := 0 }, fsLast := some 9, a := { (linked up).hl.a with fs := fsOf, lastRow := none }, b := { (linked up).hl.b with fs := fsOf, lastRow := none, fe := none } } }, by decide +kernel⟩,
   ⟨.left, ({ withP [(0x2801, 64), (0x2802, 64), (0x4801, 64), (0x4802, 64)] (linked up) with hl := { (withP [(0x2801, 64), (0x2802, 64), (0x4801, 64), (0x4802, 64)] (linked up)).hl with frame := some { src := 9, flags := 0, format := 1, use := .captured, slot1 := true, bad := [], judged := 0, hoopRepeat := false, started := false, fsBytes := fsOf, slotAt := none, decided := true, fsAt := 0 }, fsLast := some 9, a := { (linked up).hl.a with fs := fsOf, lastRow := some 63 }, b := { (linked up).hl.b with fs := fsOf, lastRow := some 63, fe := some (toLe 4 9 ++ zeros 28) } } }).wire .left 3 false (toLe 4 9 ++ zeros 28), toLe 4 9 ++ zeros 28, { src := 9, flags := 0, format := 1, use := .captured, slot1 := true, bad := [], judged := 0, hoopRepeat := false, started := false, fsBytes := fsOf, slotAt := none, decided := true, fsAt := 0 }, { withP [(0x2801, 64), (0x2802, 64), (0x4801, 64), (0x4802, 64)] (linked up) with hl := { (withP [(0x2801, 64), (0x2802, 64), (0x4801, 64), (0x4802, 64)] (linked up)).hl with frame := some { src := 9, flags := 0, format := 1, use := .captured, slot1 := true, bad := [], judged := 0, hoopRepeat := false, started := false, fsBytes := fsOf, slotAt := none, decided := true, fsAt := 0 }, fsLast := some 9, a := { (linked up).hl.a with fs := fsOf, lastRow := some 63 }, b := { (linked up).hl.b with fs := fsOf, lastRow := some 63, fe := some (toLe 4 9 ++ zeros 28) } } }, by decide +kernel⟩,
   ⟨.left, ({ withP [(0x2801, 64), (0x2802, 64), (0x4801, 64), (0x4802, 64)] (linked up) with hl := { (withP [(0x2801, 64), (0x2802, 64), (0x4801, 64), (0x4802, 64)] (linked up)).hl with frame := some { src := 9, flags := 0, format := 1, use := .captured, slot1 := true, bad := [], judged := 0, hoopRepeat := false, started := false, fsBytes := fsOf, slotAt := none, decided := true, fsAt := 0 }, fsLast := some 9, a := { (linked up).hl.a with fs := fsOf, lastRow := some 63 }, b := { (linked up).hl.b with fs := fsOf, lastRow := some 63, fe := none } } }).wire .left 3 false (toLe 4 9 ++ zeros 28), toLe 4 9 ++ zeros 28, { src := 9, flags := 0, format := 1, use := .captured, slot1 := true, bad := [], judged := 0, hoopRepeat := false, started := false, fsBytes := fsOf, slotAt := none, decided := true, fsAt := 0 }, { withP [(0x2801, 64), (0x2802, 64), (0x4801, 64), (0x4802, 64)] (linked up) with hl := { (withP [(0x2801, 64), (0x2802, 64), (0x4801, 64), (0x4802, 64)] (linked up)).hl with frame := some { src := 9, flags := 0, format := 1, use := .captured, slot1 := true, bad := [], judged := 0, hoopRepeat := false, started := false, fsBytes := fsOf, slotAt := none, decided := true, fsAt := 0 }, fsLast := some 9, a := { (linked up).hl.a with fs := fsOf, lastRow := some 63 }, b := { (linked up).hl.b with fs := fsOf, lastRow := some 63, fe := none } } }, .right, by decide +kernel⟩⟩

theorem test_witness_OtherPacketsAct :
    (∃ (side : Side) (enc : Bool) (sets : List (List LinkBlock)) (p : List Byte) (s : State), s.brings side sets 5 enc p = true ∧ crc32c (p.take (p.length - 4)) ≠ le4 p (p.length - 4)) ∧
    (∃ (side : Side) (enc : Bool) (sets : List (List LinkBlock)) (p : List Byte) (s : State), let a := le4 p 0; let n := le4 p 4; s.brings side sets 5 enc p = true ∧ crc32c (p.take (p.length - 4)) = le4 p (p.length - 4) ∧ s.param 0x2405 ≠ 0 ∧ s.memLost = false ∧ a % 16 = 0 ∧ 0 < n ∧ n + 20 ≤ p.length ∧ 0x44000000 ≤ a ∧ a + n ≤ 0x84000000 ∧ Memory.wf s = true ∧ enc = false ∧ s.sec.linkEnc = false) ∧
    (∃ (side : Side) (enc : Bool) (sets : List (List LinkBlock)) (p : List Byte) (s : State) (src : Word) (e : Session), let i := s.stream side; let a := le4 p 0; let n := le4 p 4; s.brings side sets 5 enc p = true ∧ crc32c (p.take (p.length - 4)) = le4 p (p.length - 4) ∧ s.param 0x2405 ≠ 0 ∧ s.memLost = false ∧ a % 16 = 0 ∧ 0 < n ∧ n + 20 ≤ p.length ∧ 0x44000000 ≤ a ∧ a + n ≤ 0x84000000 ∧ Memory.wf s = true ∧ enc = true ∧ (s.hl.group i).lastFs = some src ∧ s.sessionFor src = some e) ∧
    (∃ (side : Side) (enc : Bool) (sets : List (List LinkBlock)) (p : List Byte) (s : State), let i := s.stream side; let a := le4 p 0; let n := le4 p 4; s.brings side sets 5 enc p = true ∧ crc32c (p.take (p.length - 4)) = le4 p (p.length - 4) ∧ (s.param 0x2405 = 0 ∨ a % 16 ≠ 0 ∨ a < 0x44000000 ∨ 0x84000000 < a + n ∨ (s.sec.linkEnc = true ∧ enc = false) ∨ (enc = true ∧ ∀ src, src ∈ (s.hl.group i).lastFs → s.sessionFor src = none))) ∧
    (∃ (side : Side) (sets : List (List LinkBlock)) (p : List Byte) (s : State), s.brings side sets 6 false p = true ∧ s.hl.frame = none ∧ s.hl.a.fs = []) ∧
    (∃ (side : Side) (sets : List (List LinkBlock)) (p : List Byte) (s : State), s.brings side sets 7 false p = true) ∧
    (∃ (side : Side) (sets : List (List LinkBlock)) (s : State), s.hears side sets .badHeader = true) ∧
    (∃ (side : Side) (sets : List (List LinkBlock)) (s : State), s.hears side sets .unknown = true) ∧
    (∃ (side : Side) (at_ : Nat) (sets : List (List LinkBlock)) (s : State) (first : List LinkBlock) (c : Instr), s.receives (s.stream side) = false ∧ c ∈ [Instr.hlFs side at_ sets, .hlRow side at_ first sets, .hlFe side at_ sets, .hlSurf side at_ sets, .hlSleep side ⟨at_, sets⟩, .hlKeep side ⟨at_, sets⟩, .ctlPacket side ⟨at_, sets⟩, .hello side ⟨at_, sets⟩, .finish side ⟨at_, sets⟩, .packetHeaderCrcFail (side, ⟨at_, sets⟩), .hlUnknownPkt (side, ⟨at_, sets⟩)]) ∧
    (∃ (s : State), s.bcDriven = true ∧ (s.hl.a.st ≠ .active ∨ s.hl.statusDue = true)) ∧
    (∃ (m : BcMsg) (rest : List BcMsg) (s : State), s.hl.tx = m :: rest ∧ s.bcDriven = true) :=
  ⟨⟨.left, false, (linked up).wire .left 5 false (toLe 4 0x44000000 ++ toLe 4 16 ++ zeros 40), toLe 4 0x44000000 ++ toLe 4 16 ++ zeros 40, linked up, by decide +kernel⟩,
   ⟨.right, false, (linked up).wire .right 5 false (crcd (toLe 4 0x83FFFFF0 ++ toLe 4 16 ++ zeros 8 ++ List.replicate 16 5 ++ zeros 12)), crcd (toLe 4 0x83FFFFF0 ++ toLe 4 16 ++ zeros 8 ++ List.replicate 16 5 ++ zeros 12), linked up, by decide +kernel⟩,
   ⟨.left, true, ({ linked up with sec := { up.sec with sessions := [{ id := 1, keys := { row := [], tag := [], ctl := [], hconf := [], dconf := [] }, switch := 0 }] }, hl := { (linked up).hl with a := { (linked up).hl.a with lastFs := some 9 } } }).wire .left 5 true (crcd (toLe 4 0x44000000 ++ toLe 4 16 ++ zeros 8 ++ zeros 16 ++ zeros 12)), crcd (toLe 4 0x44000000 ++ toLe 4 16 ++ zeros 8 ++ zeros 16 ++ zeros 12), { linked up with sec := { up.sec with sessions := [{ id := 1, keys := { row := [], tag := [], ctl := [], hconf := [], dconf := [] }, switch := 0 }] }, hl := { (linked up).hl with a := { (linked up).hl.a with lastFs := some 9 } } }, 9, { id := 1, keys := { row := [], tag := [], ctl := [], hconf := [], dconf := [] }, switch := 0 }, by decide +kernel⟩,
   ⟨.right, false, (linked up).wire .right 5 false (crcd (toLe 4 0x84000000 ++ toLe 4 16 ++ zeros 8 ++ zeros 16 ++ zeros 12)), crcd (toLe 4 0x84000000 ++ toLe 4 16 ++ zeros 8 ++ zeros 16 ++ zeros 12), linked up, by decide +kernel⟩,
   ⟨.left, (linked up).wire .left 6 false (toLe 4 50 ++ [1] ++ zeros 11), toLe 4 50 ++ [1] ++ zeros 11, linked up, by decide +kernel⟩,
   ⟨.left, (linked up).wire .left 7 false ([]), [], linked up, by decide +kernel⟩,
   ⟨.left, [List.replicate 8 (dataBlock 0)], linked up, by decide +kernel⟩,
   ⟨.left, (linked up).wire .left 9 false ([]), linked up, by decide +kernel⟩,
   ⟨.left, 5, [], up, [], .hlKeep .left ⟨5, []⟩, by decide +kernel⟩,
   ⟨groups .phase, by decide +kernel⟩,
   ⟨{ kind := 1, payload := [], last := some .mb0 }, [], { linked up with hl := { (linked up).hl with tx := [{ kind := 1, payload := [], last := some .mb0 }] } }, by decide +kernel⟩⟩

theorem test_witness_FramesStart :
    (∃ (s : State), s.pnl.st = .on ∧ s.ras.running = false ∧ (s.memLost = true ∨ s.boot.memReady = true ∧ (s.boot.mapReady = true ∨ s.boot.mapWaitOver = true))) ∧
    (∃ (at_ : Nat) (q : Nat) (s : State), s.ras.running = true ∧ s.ras.inBlank = true ∧ s.pnl.st = .on ∧ s.netNext = false ∧ s.ras.aborted = false ∧ s.liveSlot = some q ∧ s.ras.earliest ≤ q ∧ q ≤ at_ ∧ s.fn.pend = [] ∧ s.eyes.holdDue = false ∧ s.ras.transition = none ∧ s.ras.tagHold = false) ∧
    (∃ (at_ : Nat) (s : State), s.ras.running = true ∧ s.ras.inBlank = true ∧ s.pnl.st = .on ∧ s.netNext = false ∧ s.ras.aborted = true ∧ s.nextMode ≠ .lattice ∧ s.ras.earliest ≤ at_) ∧
    (∃ (at_ : Nat) (s : State), s.mayStart = true ∧ s.liveSlot = none ∧ (s.nextMode = .fixed ∨ s.nextMode = .hold ∨ s.nextMode = .source ∧ s.ras.pull.isSome = true) ∧ max s.genDue s.ras.earliest ≤ at_) ∧
    (∃ (at_ : Nat) (s : State), s.mayStart = true ∧ s.liveSlot = none ∧ s.nextMode = .source ∧ s.memLost = false ∧ max (s.ras.start + s.deadlineTicks) s.ras.earliest ≤ at_) ∧
    (∃ (at_ : Nat) (h : Nat) (rest : List Nat) (s : State), s.ras.repeats = h :: rest ∧ s.mayStart = true ∧ s.liveSlot = none ∧ s.nextMode = .source ∧ s.memLost = false ∧ max h s.ras.earliest ≤ at_) :=
  ⟨⟨{ up with pnl := { up.pnl with st := .on } }, by decide +kernel⟩,
   ⟨2000000, 1500000, linked { blanking with hl := { blanking.hl with frame := some { src := 9, flags := 0, format := 1, use := .live, slot1 := true, bad := [], judged := 0, hoopRepeat := false, started := false, fsBytes := [], slotAt := some 1500000, decided := true, fsAt := 0 } } }, by decide +kernel⟩,
   ⟨1013000, { blanking with ras := { blanking.ras with aborted := true } }, by decide +kernel⟩,
   ⟨40000000, withP [(0x2800, 1)] { blanking with ras := { blanking.ras with active := .fixed } }, by decide +kernel⟩,
   ⟨80000000, blanking, by decide +kernel⟩,
   ⟨3000000, 3000000, [], { blanking with ras := { blanking.ras with repeats := [3000000] } }, by decide +kernel⟩⟩

theorem test_witness_RowsBlanksAndTimersFollow :
    (∃ (at_ : Nat) (bursts : List Burst) (s : State), s.ras.running = true ∧ s.ras.inBlank = false ∧ s.ras.rowsStarted < s.ras.rowEnd ∧ s.ras.start + s.ras.rowsStarted * s.ras.rowTime ≤ at_ ∧ s.ras.abortAt = none ∧ (s.slotState bursts).missing .left s.ras.rowsStarted = [] ∧ (s.slotState bursts).missing .right s.ras.rowsStarted = []) ∧
    (∃ (at_ : Nat) (bursts : List Burst) (i : Side) (s : State), s.ras.running = true ∧ s.ras.inBlank = false ∧ s.ras.rowsStarted < s.ras.rowEnd ∧ s.ras.start + s.ras.rowsStarted * s.ras.rowTime ≤ at_ ∧ s.ras.abortAt = none ∧ (s.slotState bursts).missing i s.ras.rowsStarted ≠ [] ∧ s.param 0x2807 ≠ 1) ∧
    (∃ (at_ : Nat) (s : State), s.ras.running = true ∧ s.ras.inBlank = false ∧ s.ras.rowEnd ≤ s.ras.rowsStarted ∧ s.ras.start + s.ras.rowEnd * s.ras.rowTime ≤ at_) ∧
    (∃ (at_ : Nat) (s : State), at_ < s.ras.start + s.ras.rowsStarted * s.ras.rowTime) ∧
    (∃ (at_ : Nat) (s : State), at_ < s.ras.start + s.ras.rowEnd * s.ras.rowTime) ∧
    (∃ (at_ : Nat) (s : State), s.ras.running = true ∧ s.ladderRuns = true ∧ s.ras.transition = none ∧ s.ras.ladderStep < (s.ladderSteps s.ras.active).length ∧ s.ras.dwellFrom + ms (s.param 0x280A) ≤ max s.now at_) ∧
    (∃ (at_ : Nat) (s : State), s.ras.running = true ∧ s.ladderRuns = true ∧ s.ras.transition = none ∧ s.ras.ladderStep < (s.ladderSteps s.ras.active).length ∧ max s.now at_ < s.ras.dwellFrom + ms (s.param 0x280A)) ∧
    (∃ (at_ : Nat) (f : Nat) (s : State), s.ras.absentFrom = some f ∧ f + ms (s.param 0x2810) ≤ max s.now at_) ∧
    (∃ (at_ : Nat) (f : Nat) (s : State), s.ras.absentFrom = some f ∧ max s.now at_ < f + ms (s.param 0x2810)) ∧
    (∃ (at_ : Nat) (c : ClipPlay) (s : State), let step := clipStepAt (s.table (0x700 + c.inst)).bytes (max s.now at_ - c.time0); s.apq.clip = some c ∧ step ≠ c.step) ∧
    (∃ (at_ : Nat) (c : ClipPlay) (s : State), let step := clipStepAt (s.table (0x700 + c.inst)).bytes (max s.now at_ - c.time0); s.apq.clip = some c ∧ step = c.step) :=
  ⟨⟨1013785, [], fed scanning, by decide +kernel⟩,
   ⟨1013785, [{ bytes := 32, edcFail := true }], .right, scanning, by decide +kernel⟩,
   ⟨10925200, { scanning with ras := { scanning.ras with rowsStarted := 2160 } }, by decide +kernel⟩,
   ⟨1013784, scanning, by decide +kernel⟩,
   ⟨1013784, scanning, by decide +kernel⟩,
   ⟨300000000, withP [(0x280A, 250)] ({ scanning with ras := { scanning.ras with active := .fixed, dwellFrom := 0 } }), by decide +kernel⟩,
   ⟨299999999, { scanning with ras := { scanning.ras with active := .fixed, dwellFrom := 0 } }, by decide +kernel⟩,
   ⟨ms 20000, 0, { scanning with ras := { scanning.ras with absentFrom := some 0 } }, by decide +kernel⟩,
   ⟨1, 2000000, { scanning with ras := { scanning.ras with absentFrom := some 2000000 } }, by decide +kernel⟩,
   ⟨0, { inst := 0, time0 := 0, step := 3 }, { scanning with apq := { up.apq with clip := some { inst := 0, time0 := 0, step := 3 } }, ras := { scanning.ras with ladderStep := 1 } }, by decide +kernel⟩,
   ⟨0, { inst := 0, time0 := 0, step := 0 }, { scanning with apq := { up.apq with clip := some { inst := 0, time0 := 0, step := 0 } }, ras := { scanning.ras with ladderStep := 1 } }, by decide +kernel⟩⟩

theorem test_witness_MemorySleepsAndCompresses :
    (∃ (at_ : Nat) (bursts : List Burst) (s : State) (u : State), u = (s.elapse at_).grantBursts bursts ∧ s.domOn dMem = true ∧ u.memQueued = false ∧ u.mem.sleep ≠ .selfRefresh ∧ s.param 0x2C00 = 2 ∧ (∀ w, w ∈ u.tolMin → 3000 + s.param 0x2C01 + 1000 * s.param 0x2C02 < w)) ∧
    (∃ (at_ : Nat) (bursts : List Burst) (s : State) (u : State), u = (s.elapse at_).grantBursts bursts ∧ s.domOn dMem = true ∧ u.memQueued = false ∧ u.mem.sleep = .active ∧ s.param 0x2C00 = 1 ∧ (∀ w, w ∈ u.tolMin → 40 + s.param 0x2C01 < w)) ∧
    (∃ (at_ : Nat) (bursts : List Burst) (s : State) (u : State), u = (s.elapse at_).grantBursts bursts ∧ (s.param 0x2C00 = 0 ∨ u.memQueued = true)) ∧
    (∃ (at_ : Nat) (bursts : List Burst) (s : State) (u : State), let exit := match s.mem.sleep with | .active => 0 | .powerDown => 40 | .selfRefresh => 3000; u = (s.elapse at_).grantBursts bursts ∧ (u.mem.asks ≠ [] ∨ (∃ w, w ∈ u.tolMin ∧ w ≤ exit + s.param 0x2C01))) ∧
    (∃ (at_ : Nat) (bursts : List Burst) (s : State) (u : State), let exit := match s.mem.sleep with | .active => 0 | .powerDown => 40 | .selfRefresh => 3000; u = (s.elapse at_).grantBursts bursts ∧ u.mem.asks = [] ∧ (∀ w, w ∈ u.tolMin → exit + s.param 0x2C01 < w)) ∧
    (∃ (s : State), let cs := chunks 65536 (s.param 0x2801 * s.param 0x2802 / 16384 + 1) s.markedBytes; let blocks := (List.range cs.length).map fun k => container s.mem.resLevel (k + 1 == cs.length) false k (cs.getD k []); s.mem.residence = .compressing) ∧
    (∃ (s : State), s.mem.residence ≠ .compressing) ∧
    (∃ (at_ : Nat) (bursts : List Burst) (s : State), s.ras.running = true ∧ s.ras.inBlank = false ∧ s.ras.rowsStarted < s.ras.rowEnd ∧ s.ras.start + s.ras.rowsStarted * s.ras.rowTime ≤ at_ ∧ s.ras.abortAt = none ∧ (s.slotState bursts).missing .left s.ras.rowsStarted = [] ∧ (s.slotState bursts).missing .right s.ras.rowsStarted = [] ∧ s.mem.residence = .resident ∧ s.ras.kind = .hoop) ∧
    (∃ (moved : Bool) (timing : Bool) (s : State), s.mem.residence = .resident ∧ s.mem.resOver = true ∧ s.ras.active = .hold ∧ 2 ≤ s.mem.resFails) ∧
    (∃ (moved : Bool) (timing : Bool) (s : State), s.mem.residence = .resident ∧ s.mem.resOver = true ∧ s.ras.active = .hold ∧ s.mem.resFails < 2 ∧ s.residenceMay = true) ∧
    (∃ (moved : Bool) (timing : Bool) (s : State), s.mem.residence = .resident ∧ s.mem.resOver = true ∧ s.ras.active = .hold ∧ s.mem.resFails < 2 ∧ s.residenceMay = false) ∧
    (∃ (moved : Bool) (timing : Bool) (s : State), s.mem.residence = .resident ∧ s.mem.resOver = true ∧ s.ras.active = .hold) ∧
    (∃ (s : State), s.domFailed dMem = false) ∧
    (∃ (s : State), s.domFailed dMem = true) :=
  ⟨⟨0, [], fedAll, ((fedAll).elapse 0).grantBursts [], by decide +kernel⟩,
   ⟨0, [], withP [(0x2C00, 1)] fedAll, ((withP [(0x2C00, 1)] fedAll).elapse 0).grantBursts [], by decide +kernel⟩,
   ⟨0, [], scanning, ((scanning).elapse 0).grantBursts [], by decide +kernel⟩,
   ⟨0, [], { scanning with mem := { up.mem with sleep := .selfRefresh } }, (({ scanning with mem := { up.mem with sleep := .selfRefresh } }).elapse 0).grantBursts [], by decide +kernel⟩,
   ⟨0, [], up, ((up).elapse 0).grantBursts [], by decide +kernel⟩,
   ⟨withP [(0x2801, 64), (0x2802, 64)] { up with mem := { up.mem with residence := .compressing } }, by decide +kernel⟩,
   ⟨up, by decide +kernel⟩,
   ⟨1013785, [], fed { scanning with mem := { up.mem with residence := .resident, sleep := .selfRefresh } }, by decide +kernel⟩,
   ⟨false, true, (fun (u : State) => { u with ras := { u.ras with active := .hold }, mem := { u.mem with residence := .resident, resOver := true, resFails := 2 } }) (scanning), by decide +kernel⟩,
   ⟨false, true, (fun (u : State) => { u with ras := { u.ras with active := .hold }, mem := { u.mem with residence := .resident, resOver := true, resFails := 1 } }) (withP [(0x2C04, 1)] scanning), by decide +kernel⟩,
   ⟨false, true, (fun (u : State) => { u with ras := { u.ras with active := .hold }, mem := { u.mem with residence := .resident, resOver := true, resFails := 1 } }) (withP [(0x2C04, 0)] scanning), by decide +kernel⟩,
   ⟨false, true, (fun (u : State) => { u with ras := { u.ras with active := .hold }, mem := { u.mem with residence := .resident, resOver := true, resFails := 1 } }) (scanning), by decide +kernel⟩,
   ⟨up, by decide +kernel⟩,
   ⟨dom dMem (fun d => { d with st := .failed }) up, by decide +kernel⟩⟩

theorem test_witness_TattingCommandsAct :
    (∃ (i : Mb) (s : State), s.served i (.bare 0x00C0) = true ∧ s.domFailed dTat = true) ∧
    (∃ (i : Mb) (s : State), s.served i (.bare 0x00C0) = true ∧ s.domFailed dTat = false ∧ s.isRoot = false) ∧
    (∃ (i : Mb) (s : State), s.served i (.bare 0x00C0) = true ∧ s.domFailed dTat = false ∧ s.isRoot = true ∧ s.epochOpen = true) ∧
    (∃ (i : Mb) (s : State), s.served i (.bare 0x00C0) = true ∧ s.domFailed dTat = false ∧ s.isRoot = true ∧ s.epochOpen = false ∧ s.tat.dn0.st ≠ .up ∧ s.tat.dn1.st ≠ .up) ∧
    (∃ (i : Mb) (s : State), s.served i (.bare 0x00C0) = true ∧ s.domFailed dTat = false ∧ s.isRoot = true ∧ s.epochOpen = false ∧ s.tat.dn0.st = .up ∧ s.tatDriven = true) ∧
    (∃ (i : Mb) (f : Frag) (s : State), let e := le4 (s.reqBody i) 0; (s.served i cmdTatStage = true ∧ i ≠ .mb3 ∧ s.domFailed dTat = false ∧ s.isRoot = true ∧ fragAt (s.reqBody i) 4 = f ∧ s.epochOld e = false ∧ f.first = true ∧ f.offset = 0 ∧ f.last = false) ∧ (∀ x, s.tat.staged = some x → x.st ≠ .armed)) ∧
    (∃ (i : Mb) (f : Frag) (s : State), let e := le4 (s.reqBody i) 0; (s.served i cmdTatStage = true ∧ i ≠ .mb3 ∧ s.domFailed dTat = false ∧ s.isRoot = true ∧ fragAt (s.reqBody i) 4 = f ∧ s.epochOld e = false ∧ f.first = true ∧ f.offset = 0 ∧ f.last = true) ∧ (∀ x, s.tat.staged = some x → x.st ≠ .armed)) ∧
    (∃ (i : Mb) (s : State), s.served i cmdTatStage = true ∧ i ≠ .mb3 ∧ s.domFailed dTat = false ∧ s.isRoot = false) ∧
    (∃ (i : Mb) (s : State), s.served i cmdTatStage = true ∧ i ≠ .mb3 ∧ s.domFailed dTat = false ∧ s.isRoot = true ∧ s.epochOld (le4 (s.reqBody i) 0) = true) ∧
    (∃ (i : Mb) (ep : Epoch) (s : State), s.served i (.fixed 0x00C2 8 fun _ => true) = true ∧ s.domFailed dTat = false ∧ s.tat.staged = some ep ∧ s.isRoot = false) ∧
    (∃ (i : Mb) (ep : Epoch) (s : State), s.served i (.fixed 0x00C2 8 fun _ => true) = true ∧ s.domFailed dTat = false ∧ s.tat.staged = some ep ∧ s.isRoot = true ∧ ep.st = .armed) ∧
    (∃ (i : Mb) (ep : Epoch) (s : State), s.served i (.fixed 0x00C2 8 fun _ => true) = true ∧ s.domFailed dTat = false ∧ s.tat.staged = some ep ∧ s.isRoot = true ∧ ep.st ≠ .armed ∧ (ep.e ≠ le4 (s.reqBody i) 0 ∨ ep.st ≠ .staged)) ∧
    (∃ (i : Mb) (ep : Epoch) (s : State), s.served i (.fixed 0x00C2 8 fun _ => true) = true ∧ s.domFailed dTat = false ∧ s.tat.staged = some ep ∧ s.isRoot = true ∧ ep.st = .staged ∧ ep.e = le4 (s.reqBody i) 0 ∧ le4 (s.reqBody i) 4 = 0) ∧
    (∃ (i : Mb) (ep : Epoch) (s : State), s.served i (.fixed 0x00C3 4 fun _ => true) = true ∧ s.domFailed dTat = false ∧ s.isRoot = true ∧ s.tat.staged = some ep ∧ ep.e = le4 (s.reqBody i) 0 ∧ (ep.st = .staging ∨ ep.st = .staged)) ∧
    (∃ (i : Mb) (s : State), s.served i (.fixed 0x00C3 4 fun _ => true) = true ∧ s.domFailed dTat = false ∧ s.isRoot = false) ∧
    (∃ (i : Mb) (s : State), s.served i (.fixed 0x00C3 4 fun _ => true) = true ∧ s.domFailed dTat = false ∧ s.isRoot = true ∧ s.epochRec (le4 (s.reqBody i) 0) = none) ∧
    (∃ (i : Mb) (s : State), let e := le4 (s.reqBody i) 0; s.served i (.fixed 0x00C4 4 fun _ => true) = true ∧ (s.epochRec e).isSome = true ∨ (e = s.tat.wantE ∧ e ≠ 0)) ∧
    (∃ (i : Mb) (s : State), let e := le4 (s.reqBody i) 0; s.served i (.fixed 0x00C4 4 fun _ => true) = true ∧ s.epochRec e = none ∧ e ≠ s.tat.wantE) :=
  ⟨⟨.mb0, ask (dom dTat (fun d => { d with st := .failed }) (net true)) .mb0 0x00C0 ([]), by decide +kernel⟩,
   ⟨.mb0, ask (net false) .mb0 0x00C0 ([]), by decide +kernel⟩,
   ⟨.mb0, ask ({ net true with tat := { (net true).tat with staged := some { e := 1, bytes := [], nextOff := 0, st := .staging, f := 0 } } }) .mb0 0x00C0 ([]), by decide +kernel⟩,
   ⟨.mb0, ask ({ net true with tat := up.tat }) .mb0 0x00C0 ([]), by decide +kernel⟩,
   ⟨.mb0, ask (net true) .mb0 0x00C0 ([]), by decide +kernel⟩,
   ⟨.mb0, { first := true, last := false, offset := 0, data := zeros 4 }, ask (net true) .mb0 0x00C1 (toLe 4 1 ++ toLe 2 1 ++ zeros 2 ++ toLe 4 0 ++ zeros 4), ⟨by decide +kernel, by intro x h; exact absurd h (by decide +kernel +revert)⟩⟩,
   ⟨.mb0, { first := true, last := true, offset := 0, data := zeros 4 }, ask (net true) .mb0 0x00C1 (toLe 4 1 ++ toLe 2 3 ++ zeros 2 ++ toLe 4 0 ++ zeros 4), ⟨by decide +kernel, by intro x h; exact absurd h (by decide +kernel +revert)⟩⟩,
   ⟨.mb0, ask (net false) .mb0 0x00C1 (toLe 4 1 ++ toLe 2 1 ++ zeros 2 ++ toLe 4 0 ++ zeros 4), by decide +kernel⟩,
   ⟨.mb0, ask (net true) .mb0 0x00C1 (toLe 4 0 ++ toLe 2 1 ++ zeros 2 ++ toLe 4 0 ++ zeros 4), by decide +kernel⟩,
   ⟨.mb0, { e := 1, bytes := [], nextOff := 0, st := .staged, f := 0 }, ask ({ net false with tat := { (net false).tat with staged := some { e := 1, bytes := [], nextOff := 0, st := .staged, f := 0 } } }) .mb0 0x00C2 (toLe 4 1 ++ toLe 4 0), by decide +kernel⟩,
   ⟨.mb0, { e := 1, bytes := [], nextOff := 0, st := .armed, f := 0 }, ask ({ net true with tat := { (net true).tat with staged := some { e := 1, bytes := [], nextOff := 0, st := .armed, f := 0 } } }) .mb0 0x00C2 (toLe 4 1 ++ toLe 4 0), by decide +kernel⟩,
   ⟨.mb0, { e := 1, bytes := [], nextOff := 0, st := .failed, f := 0 }, ask ({ net true with tat := { (net true).tat with staged := some { e := 1, bytes := [], nextOff := 0, st := .failed, f := 0 } } }) .mb0 0x00C2 (toLe 4 1 ++ toLe 4 0), by decide +kernel⟩,
   ⟨.mb0, { e := 1, bytes := [], nextOff := 0, st := .staged, f := 0 }, ask ({ net true with tat := { (net true).tat with staged := some { e := 1, bytes := [], nextOff := 0, st := .staged, f := 0 } } }) .mb0 0x00C2 (toLe 4 1 ++ toLe 4 0), by decide +kernel⟩,
   ⟨.mb0, { e := 1, bytes := [], nextOff := 0, st := .staged, f := 0 }, ask ({ net true with tat := { (net true).tat with staged := some { e := 1, bytes := [], nextOff := 0, st := .staged, f := 0 } } }) .mb0 0x00C3 (toLe 4 1), by decide +kernel⟩,
   ⟨.mb0, ask (net false) .mb0 0x00C3 (toLe 4 1), by decide +kernel⟩,
   ⟨.mb0, ask (net true) .mb0 0x00C3 (toLe 4 1), by decide +kernel⟩,
   ⟨.mb0, ask ({ net true with tat := { (net true).tat with staged := some { e := 1, bytes := [], nextOff := 0, st := .armed, f := 0 } } }) .mb0 0x00C4 (toLe 4 1), by decide +kernel⟩,
   ⟨.mb0, ask ({ net true with tat := { (net true).tat with staged := some { e := 1, bytes := [], nextOff := 0, st := .armed, f := 0 } } }) .mb0 0x00C4 (toLe 4 2), by decide +kernel⟩⟩

theorem test_witness_PortsComeUpAndMeasure :
    (∃ (p : TatPort) (s : State), (s.tat.port p).st = .down ∧ s.portOn p = true ∧ s.domOn dTat = true) ∧
    (∃ (p : TatPort) (at_ : Nat) (s : State), let recent := (s.tat.port p).errs.filter fun e => max s.now at_ < e + ms 1; (s.tat.port p).st ≠ .down ∧ recent.length + 1 < 16) ∧
    (∃ (p : TatPort) (at_ : Nat) (s : State), let recent := (s.tat.port p).errs.filter fun e => max s.now at_ < e + ms 1; (s.tat.port p).st ≠ .down ∧ 16 ≤ recent.length + 1) ∧
    (∃ (p : TatPort) (s : State) (codes : List (BitVec 10)) (a : Nat) (b : Nat) (c : Instr), (s.tat.port p).st ≠ .down ∧ tatHear codes = none ∧ c ∈ [Instr.tatMsgCrcFail (p, codes), .delayReq p a b codes, .beacon p a b b codes, .enumerate p codes, .enumDone p codes, .stageFragment p codes, .countUp p codes, .setReq p codes, .abortEpoch p codes, .peer p codes, .pairEvent p codes]) ∧
    (∃ (p : TatPort) (s : State), (s.tat.port p).st ≠ .down) ∧
    (∃ (s : State), s.isRoot = false ∧ s.tat.up.st ≠ .down ∧ s.tatDriven = true) ∧
    (∃ (p : TatPort) (codes : List (BitVec 10)) (m : List Byte) (s : State), tatHear codes = some (0x11, m) ∧ p ≠ .up ∧ m.length = 16 ∧ (s.tat.port p).st ≠ .down ∧ s.tatDriven = true) ∧
    (∃ (t1 : Nat) (codes : List (BitVec 10)) (m : List Byte) (s : State), tatHear codes = some (0x12, m) ∧ s.tat.reqAt = some t1 ∧ m.length = 16 ∧ le2 m 0 = s.tat.seq ∧ s.tat.up.st ≠ .down ∧ s.tat.hops.length ≤ 16) :=
  ⟨⟨.up, up, by decide +kernel⟩,
   ⟨.dn1, 0, net false, by decide +kernel⟩,
   ⟨.dn1, 0, { net false with tat := { (net false).tat with dn1 := { (net false).tat.dn1 with errs := List.replicate 15 0 } } }, by decide +kernel⟩,
   ⟨.dn0, net true, [], 0, 0, .tatMsgCrcFail (.dn0, []), by decide +kernel⟩,
   ⟨.dn0, net true, by decide +kernel⟩,
   ⟨net false, by decide +kernel⟩,
   ⟨.dn0, codesOf 0x11 (toLe 2 1 ++ zeros 14), toLe 2 1 ++ zeros 14, net true, by decide +kernel⟩,
   ⟨100, codesOf 0x12 (toLe 2 0 ++ zeros 14), toLe 2 0 ++ zeros 14, { net false with tat := { (net false).tat with reqAt := some 100, seq := 0 } }, by decide +kernel⟩⟩

theorem test_witness_BeaconsTimeFrames :
    (∃ (s : State), s.ras.running = true ∧ s.isRoot = true ∧ s.ras.active = .lattice ∧ s.tat.dn0.st ≠ .down ∧ s.tatDriven = true ∧ s.tat.armE = 0) ∧
    (∃ (a : Nat) (codes : List (BitVec 10)) (p : List Byte) (b : BeaconTiming) (s : State), tatHear codes = some (0x10, p) ∧ s.tat.up.st = .up ∧ p.length = 48 ∧ (byteAt p 14).toNat ≤ 15 ∧ s.beaconTiming a p = (b, true) ∧ s.isFollower = false ∧ s.timingFits b.periodNs b.rowTime = true ∧ s.tat.lock ≠ .islanded ∧ byteAt p 15 = 0 ∧ s.tat.armE = 0 ∧ s.tat.armUnfit = false ∧ le4 p 24 ≤ s.appliedE) ∧
    (∃ (a : Nat) (codes : List (BitVec 10)) (p : List Byte) (b : BeaconTiming) (s : State), tatHear codes = some (0x10, p) ∧ s.tat.up.st = .up ∧ p.length = 48 ∧ (byteAt p 14).toNat ≤ 15 ∧ s.beaconTiming a p = (b, false)) ∧
    (∃ (q : BeaconTiming) (s : State), s.isFollower = false ∧ s.isRoot = false ∧ s.tat.last = some q ∧ s.tat.lock ≠ .islanded ∧ s.onNet = true ∧ s.tat.next = none ∧ s.tat.armUnfit = false ∧ s.tat.missed < 255) :=
  ⟨⟨{ net true with ras := { scanning.ras with active := .lattice } }, by decide +kernel⟩,
   ⟨0, codesOf 0x10 (toLe 4 6 ++ toLe 4 320000 ++ toLe 4 16666667 ++ toLe 2 4595 ++ [15, 0] ++ zeros 32), toLe 4 6 ++ toLe 4 320000 ++ toLe 4 16666667 ++ toLe 2 4595 ++ [15, 0] ++ zeros 32, { frame := 6, t16 := 320000, start := 24000, periodNs := 16666667, period := 20000000, rowTime := 4595, flags := 0, armedE := 0, applyF := 0, appliedE := 0, hoopOnly := false }, net false, by decide +kernel⟩,
   ⟨0, codesOf 0x10 (toLe 4 6 ++ toLe 4 319999 ++ toLe 4 16666667 ++ toLe 2 4595 ++ [15, 0] ++ zeros 32), toLe 4 6 ++ toLe 4 319999 ++ toLe 4 16666667 ++ toLe 2 4595 ++ [15, 0] ++ zeros 32, { frame := 6, t16 := 319999, start := 24000, periodNs := 16666667, period := 20000000, rowTime := 4595, flags := 0, armedE := 0, applyF := 0, appliedE := 0, hoopOnly := false }, net false, by decide +kernel⟩,
   ⟨{ frame := 5, t16 := 0, start := 0, periodNs := 16666667, period := 20000000, rowTime := 4595, flags := 0, armedE := 0, applyF := 0, appliedE := 0, hoopOnly := false }, withP [(0x2800, 2)] { net false with ras := { scanning.ras with active := .lattice }, tat := { (net false).tat with last := some { frame := 5, t16 := 0, start := 0, periodNs := 16666667, period := 20000000, rowTime := 4595, flags := 0, armedE := 0, applyF := 0, appliedE := 0, hoopOnly := false } } }, by decide +kernel⟩⟩

theorem test_witness_EnumerationGivesIds :
    (∃ (codes : List (BitVec 10)) (m : List Byte) (s : State), tatHear codes = some (0x20, m) ∧ s.tatDriven = true ∧ m.length = 8 ∧ s.isRoot = false ∧ (byteAt m 4).toNat ≤ 16 ∧ le2 m 0 ≤ le2 m 2 ∧ s.tat.up.st ≠ .down ∧ s.tat.dn0.st ≠ .up ∧ s.tat.dn1.st ≠ .up) ∧
    (∃ (codes : List (BitVec 10)) (m : List Byte) (r : EnumRun) (s : State), tatHear codes = some (0x21, m) ∧ s.tat.dn1.st ≠ .down ∧ m.length = 8 ∧ s.isRoot = true ∧ s.tat.enum_ = some r ∧ r.port = .dn1) ∧
    (∃ (r : EnumRun) (s : State), s.isRoot = true ∧ s.tat.enum_ = some r ∧ r.port = .dn1) :=
  ⟨⟨codesOf 0x20 (toLe 2 5 ++ toLe 2 5 ++ [16] ++ zeros 3), toLe 2 5 ++ toLe 2 5 ++ [16] ++ zeros 3, { net false with tat := { up.tat with up := portUp up.tat.up } }, by decide +kernel⟩,
   ⟨codesOf 0x21 (toLe 2 4 ++ [2] ++ zeros 5), toLe 2 4 ++ [2] ++ zeros 5, { next := 2, limit := 16383, depth := 0, dmax := 0, err := 0, port := .dn1 }, { net true with tat := { (net true).tat with enum_ := some { next := 2, limit := 16383, depth := 0, dmax := 0, err := 0, port := .dn1 } } }, by decide +kernel⟩,
   ⟨{ next := 2, limit := 16383, depth := 0, dmax := 0, err := 0, port := .dn1 }, { net true with tat := { (net true).tat with enum_ := some { next := 2, limit := 16383, depth := 0, dmax := 0, err := 0, port := .dn1 } } }, by decide +kernel⟩⟩

theorem test_witness_EpochTrafficIsCarried :
    (∃ (codes : List (BitVec 10)) (m : List Byte) (s : State), tatHear codes = some (0x30, m) ∧ s.tat.up.st ≠ .down ∧ 8 ≤ m.length ∧ m.length ≤ 256 ∧ s.isRoot = false ∧ s.tatDriven = true ∧ s.box.peers = [] ∧ s.box.mb3.st = .idle) ∧
    (∃ (p : TatPort) (codes : List (BitVec 10)) (m : List Byte) (s : State), tatHear codes = some (0x31, m) ∧ (s.tat.port p).st ≠ .down ∧ p ≠ .up ∧ m.length = 28) ∧
    (∃ (s : State), s.isRoot = true) ∧
    (∃ (p : TatPort) (codes : List (BitVec 10)) (m : List Byte) (x : Epoch) (s : State), tatHear codes = some (0x32, m) ∧ s.tatDriven = true ∧ p ≠ .up ∧ m.length = 8 ∧ s.epochRec (le4 m 0) = some x ∧ x.held = true ∧ (s.tat.port p).st ≠ .down ∧ 0 < x.bytes.length ∧ x.bytes.length ≤ 248) ∧
    (∃ (codes : List (BitVec 10)) (m : List Byte) (x : Epoch) (s : State), tatHear codes = some (0x33, m) ∧ s.tat.up.st ≠ .down ∧ m.length = 8 ∧ s.isRoot = false ∧ s.tat.staged = some x ∧ x.e = le4 m 0 ∧ x.st ≠ .aborted) ∧
    (∃ (p : TatPort) (codes : List (BitVec 10)) (m : List Byte) (s : State), tatHear codes = some (0x40, m) ∧ (s.tat.port p).st ≠ .down ∧ 8 ≤ m.length ∧ m.length ≤ 256 ∧ le2 m 0 ≠ s.tat.id ∧ s.tat.dn0.first ≤ le2 m 0 ∧ le2 m 0 ≤ s.tat.dn0.last ∧ s.tat.dn0.st ≠ .down ∧ s.tatDriven = true) ∧
    (∃ (p : TatPort) (codes : List (BitVec 10)) (m : List Byte) (s : State), tatHear codes = some (0x40, m) ∧ (s.tat.port p).st ≠ .down ∧ 8 ≤ m.length ∧ m.length ≤ 256 ∧ le2 m 0 = s.tat.id ∧ le2 m 0 ≠ 0 ∧ s.box.peers = [] ∧ s.box.mb3.st = .idle ∧ (byteAt m 4).toNat % 4 = 3 ∧ le2 m 6 = 0) :=
  ⟨⟨codesOf 0x30 (toLe 4 1 ++ zeros 2 ++ [3, 0] ++ zeros 4), toLe 4 1 ++ zeros 2 ++ [3, 0] ++ zeros 4, net false, by decide +kernel⟩,
   ⟨.dn1, codesOf 0x31 (zeros 28), zeros 28, net false, by decide +kernel⟩,
   ⟨net true, by decide +kernel⟩,
   ⟨.dn1, codesOf 0x32 (toLe 4 1 ++ zeros 4), toLe 4 1 ++ zeros 4, { e := 1, bytes := zeros 248, nextOff := 0, st := .staged, f := 0 }, { net false with tat := { (net false).tat with staged := some { e := 1, bytes := zeros 248, nextOff := 0, st := .staged, f := 0 } } }, by decide +kernel⟩,
   ⟨codesOf 0x33 (toLe 4 1 ++ zeros 4), toLe 4 1 ++ zeros 4, { e := 1, bytes := [], nextOff := 0, st := .staged, f := 0 }, { net false with tat := { (net false).tat with staged := some { e := 1, bytes := [], nextOff := 0, st := .staged, f := 0 } } }, by decide +kernel⟩,
   ⟨.up, codesOf 0x40 (toLe 2 9 ++ zeros 6), toLe 2 9 ++ zeros 6, { net false with tat := { (net false).tat with id := 5, dn0 := { (net false).tat.dn0 with first := 6, last := 9 } } }, by decide +kernel⟩,
   ⟨.dn1, codesOf 0x40 (toLe 2 5 ++ zeros 2 ++ [3] ++ zeros 3 ++ toLe 2 1 ++ zeros 6), toLe 2 5 ++ zeros 2 ++ [3] ++ zeros 3 ++ toLe 2 1 ++ zeros 6, { net false with tat := { (net false).tat with id := 5 } }, by decide +kernel⟩⟩

theorem test_witness_PairsRunTogether :
    (∃ (codes : List (BitVec 10)) (m : List Byte) (s : State), tatHear codes = some (0x50, m) ∧ s.isFollower = true ∧ s.pairOpen .up = true ∧ m.length = 16 ∧ BitVec.ofNat 32 (le4 m 0) = s.ras.frame) ∧
    (∃ (codes : List (BitVec 10)) (m : List Byte) (s : State), tatHear codes = some (0x50, m) ∧ s.isFollower = true ∧ s.pairOpen .up = true ∧ m.length = 16 ∧ BitVec.ofNat 32 (le4 m 0) ≠ s.ras.frame) ∧
    (∃ (s : State), s.isFollower = true ∧ s.pairOpen .up = true) ∧
    (∃ (p : TatPort) (codes : List (BitVec 10)) (m : List Byte) (s : State), tatHear codes = some (0x51, m) ∧ s.pairOpen p = true ∧ m.length = 16 ∧ byteAt m 4 = 2 ∧ s.ras.running = true ∧ s.ras.inBlank = false ∧ s.ras.frame.toNat = le4 m 0) ∧
    (∃ (p : TatPort) (codes : List (BitVec 10)) (m : List Byte) (s : State), tatHear codes = some (0x51, m) ∧ s.pairOpen p = true ∧ m.length = 16 ∧ byteAt m 4 = 3 ∧ s.ras.running = true ∧ s.ras.inBlank = false ∧ s.ras.frame.toNat = le4 m 0 ∧ s.ras.kind = .live) ∧
    (∃ (p : TatPort) (codes : List (BitVec 10)) (m : List Byte) (s : State), tatHear codes = some (0x51, m) ∧ s.pairOpen p = true ∧ m.length = 16 ∧ byteAt m 4 = 1 ∧ s.isFollower = true ∧ s.ras.running = true ∧ s.ras.inBlank = false ∧ s.ras.frame.toNat = le4 m 0 ∧ s.ras.kind = .hoop) ∧
    (∃ (p : TatPort) (codes : List (BitVec 10)) (m : List Byte) (s : State), tatHear codes = some (0x51, m) ∧ s.pairOpen p = true ∧ m.length = 16 ∧ byteAt m 4 = 4) ∧
    (∃ (p : TatPort) (codes : List (BitVec 10)) (m : List Byte) (s : State), tatHear codes = some (0x51, m) ∧ s.pairOpen p = true ∧ m.length = 16 ∧ byteAt m 4 = 5 ∧ s.isFollower = false ∧ s.ras.running = false) ∧
    (∃ (p : TatPort) (codes : List (BitVec 10)) (m : List Byte) (s : State), tatHear codes = some (0x51, m) ∧ s.pairOpen p = true ∧ m.length = 16 ∧ byteAt m 4 = 5 ∧ s.isFollower = true) ∧
    (∃ (s : State), s.isFollower = true ∧ s.scaled ≠ s.tat.lastKind5 ∧ s.tat.up.st ≠ .down ∧ s.tatDriven = true) ∧
    (∃ (s : State), (s.isFollower = false ∨ s.scaled = s.tat.lastKind5)) :=
  ⟨⟨codesOf 0x50 (toLe 4 5 ++ zeros 4 ++ toLe 2 4595 ++ zeros 6), toLe 4 5 ++ zeros 4 ++ toLe 2 4595 ++ zeros 6, { follower with ras := scanning.ras }, by decide +kernel⟩,
   ⟨codesOf 0x50 (toLe 4 6 ++ zeros 4 ++ toLe 2 4595 ++ zeros 6), toLe 4 6 ++ zeros 4 ++ toLe 2 4595 ++ zeros 6, { follower with ras := scanning.ras }, by decide +kernel⟩,
   ⟨{ follower with ras := scanning.ras }, by decide +kernel⟩,
   ⟨.up, codesOf 0x51 (toLe 4 5 ++ [2, 0] ++ toLe 2 9 ++ zeros 8), toLe 4 5 ++ [2, 0] ++ toLe 2 9 ++ zeros 8, { follower with ras := scanning.ras }, by decide +kernel⟩,
   ⟨.dn1, codesOf 0x51 (toLe 4 5 ++ [3, 0] ++ toLe 2 9 ++ zeros 8), toLe 4 5 ++ [3, 0] ++ toLe 2 9 ++ zeros 8, { master with ras := { scanning.ras with kind := .live } }, by decide +kernel⟩,
   ⟨.up, codesOf 0x51 (toLe 4 5 ++ [1, 0] ++ toLe 2 9 ++ zeros 8), toLe 4 5 ++ [1, 0] ++ toLe 2 9 ++ zeros 8, { follower with ras := scanning.ras }, by decide +kernel⟩,
   ⟨.dn1, codesOf 0x51 (toLe 4 5 ++ [4, 0] ++ toLe 2 0 ++ zeros 8), toLe 4 5 ++ [4, 0] ++ toLe 2 0 ++ zeros 8, { master with ras := scanning.ras }, by decide +kernel⟩,
   ⟨.dn1, codesOf 0x51 (toLe 4 5 ++ [5, 0] ++ toLe 2 1 ++ zeros 8), toLe 4 5 ++ [5, 0] ++ toLe 2 1 ++ zeros 8, master, by decide +kernel⟩,
   ⟨.up, codesOf 0x51 (toLe 4 5 ++ [5, 0] ++ toLe 2 1 ++ zeros 8), toLe 4 5 ++ [5, 0] ++ toLe 2 1 ++ zeros 8, { follower with ras := scanning.ras }, by decide +kernel⟩,
   ⟨{ follower with tat := { follower.tat with lastKind5 := true } }, by decide +kernel⟩,
   ⟨up, by decide +kernel⟩⟩

theorem test_witness_MailboxCommandsLeaveTheRest :
    (∃ (c : Instr) (s : State) (t : State) (p : Part), (Family.of c = .mailbox ∧ p ∉ changes c) ∧ exec c s = .next t) ∧
    (∃ (c : Instr) (s : State) (t : State), Family.of c = .mailbox ∧ exec c s = .next t) :=
  ⟨⟨.ident .mb0, ask (up) .mb0 0x0001 ([]), after (.ident .mb0) (ask (up) .mb0 0x0001 ([])), .gddr7, ⟨by decide +kernel, after_next (State.serve_next ..)⟩⟩,
   ⟨.ident .mb0, ask (up) .mb0 0x0001 ([]), after (.ident .mb0) (ask (up) .mb0 0x0001 ([])), ⟨by decide +kernel, after_next (State.serve_next ..)⟩⟩⟩

theorem test_witness_DeviceCommandsLeaveTheRest :
    (∃ (c : Instr) (s : State) (t : State) (p : Part), (Family.of c = .device ∧ p ∉ changes c) ∧ exec c s = .next t) ∧
    (∃ (c : Instr) (s : State) (t : State), Family.of c = .device ∧ exec c s = .next t) :=
  ⟨⟨.portErrorsClear .ctl 0, { up with win := { up.win with refused := 3 } }, after (.portErrorsClear .ctl 0) ({ up with win := { up.win with refused := 3 } }), .gddr7, ⟨by decide +kernel, rfl⟩⟩,
   ⟨.portErrorsClear .ctl 0, { up with win := { up.win with refused := 3 } }, after (.portErrorsClear .ctl 0) ({ up with win := { up.win with refused := 3 } }), ⟨by decide +kernel, rfl⟩⟩⟩

theorem test_witness_LinkAndNetCommandsLeaveTheRest :
    (∃ (c : Instr) (s : State) (t : State) (p : Part), (Family.of c = .link ∧ p ∉ changes c) ∧ exec c s = .next t) ∧
    (∃ (c : Instr) (s : State) (t : State), Family.of c = .link ∧ exec c s = .next t) :=
  ⟨⟨.statusTimer, groups .phase, after .statusTimer (groups .phase), .gddr7, ⟨by decide +kernel, after_next statusTimer_next⟩⟩,
   ⟨.statusTimer, groups .phase, after .statusTimer (groups .phase), ⟨by decide +kernel, after_next statusTimer_next⟩⟩⟩

theorem test_witness_RasterAndPanelCommandsLeaveTheRest :
    (∃ (c : Instr) (s : State) (t : State) (p : Part), (Family.of c = .raster ∧ p ∉ changes c) ∧ exec c s = .next t) ∧
    (∃ (c : Instr) (s : State) (t : State), Family.of c = .raster ∧ exec c s = .next t) :=
  ⟨⟨.bobLockNFall, scanning, after (.bobLockNFall) (scanning), .gddr7, ⟨by decide +kernel, rfl⟩⟩,
   ⟨.bobLockNFall, scanning, after (.bobLockNFall) (scanning), ⟨by decide +kernel, rfl⟩⟩⟩

end Sys2Proof.Tests
end

section
/-! SUPPORT. COMMIT with the raster stopped, COMMIT_STATUS and DISCARD: what a taken request leaves of what COMMIT judges by, what a commit that applies at once makes of the parameters, and the statements themselves (R150, R152, R154, R155, R159, R160). -/

namespace Sys2Proof.Machine

/-! ## Served requests -/

/-- A served command that replies at once posts that reply. -/
theorem State.serve_reply {s t : State} {i : Mb} {c : Cmd} {run : List Byte → State → Reply} {st : Nat} {p : List Byte}
    (h : s.served i c = true) (hr : run (s.reqBody i) (s.taken i) = .reply st p t) :
    s.serve i c run = t.answered i st p := by
  rw [State.serve_served run h, hr]
  rfl

/-- Taking a request touches the mailboxes and the control window's counters alone. -/
theorem State.taken_eq (s : State) (i : Mb) : ∃ b w, s.taken i = { s with box := b, win := w } := by
  cases i <;> exact ⟨_, _, rfl⟩

@[simp] theorem State.taken_par (s : State) (i : Mb) : (s.taken i).par = s.par := by
  obtain ⟨b, w, h⟩ := s.taken_eq i
  rw [h]

@[simp] theorem State.taken_ras (s : State) (i : Mb) : (s.taken i).ras = s.ras := by
  obtain ⟨b, w, h⟩ := s.taken_eq i
  rw [h]

@[simp] theorem State.taken_framesRun (s : State) (i : Mb) : (s.taken i).framesRun = s.framesRun := by
  simp [State.framesRun]

@[simp] theorem State.taken_stagedF (s : State) (i : Mb) : (s.taken i).stagedF = s.stagedF := by
  simp [State.stagedF]

@[simp] theorem State.taken_isFollower (s : State) (i : Mb) : (s.taken i).isFollower = s.isFollower := by
  simp [State.isFollower, State.param, State.taken_boot]

@[simp] theorem State.taken_changesTiming (s : State) (i : Mb) (vs : List (Nat × Word)) :
    (s.taken i).changesTiming vs = s.changesTiming vs := by
  simp [State.changesTiming, State.soon, State.waitVal?, State.param]

@[simp] theorem State.taken_failingSet (s : State) (i : Mb) (tab every : Bool) (vs : List (Nat × Word)) :
    (s.taken i).failingSet tab every vs = s.failingSet tab every vs := by
  obtain ⟨b, w, h⟩ := s.taken_eq i
  rw [h]
  rfl

/-! ## Values that become active -/

/-- Writing active values changes the list of active values alone, and the outcome depends on that list alone. -/
theorem Params.foldl_put (vs : List (Nat × Word)) {p q : Params} (h : p.active = q.active) :
    vs.foldl (fun p v => p.put v.1 v.2) p = { p with active := (vs.foldl (fun p v => p.put v.1 v.2) q).active } := by
  induction vs generalizing p q with
  | nil => simp [← h]
  | cons v vs ih =>
    have hput : (p.put v.1 v.2).active = (q.put v.1 v.2).active := by simp [Params.put, h]
    simp only [List.foldl_cons]
    rw [ih hput]
    rfl

/-- What values make of the parameters, from those of any state with the same active values. -/
theorem State.setParams_par {s t : State} (h : t.par.active = s.par.active) (vs : List (Nat × Word)) :
    (t.setParams vs).par = { t.par with active := (s.setParams vs).par.active } :=
  Params.foldl_put vs h

@[simp] theorem State.applyValues_par (s : State) (vs : List (Nat × Word)) : (s.applyValues vs).par = (s.setParams vs).par := by
  simp [State.applyValues]

@[simp] theorem State.applyCommit_par (s : State) (c : Commit) :
    (s.applyCommit c).par = { (s.setParams c.values).par with applied := true } := by
  simp [State.applyCommit]

/-! ## COMMIT -/

/-- The state after a COMMIT that applies at once: every staged F value is active and no F shadow stays (R155). -/
def State.committed (s : State) : State :=
  let s1 := { s with par := { s.par with staged := dropF s.par.staged, lastTarget := s.ras.frame + 1 } }
  (s1.applyCommit ⟨s.ras.frame + 1, s.stagedF, false⟩).raiseRetired

theorem State.committed_par (s : State) :
    s.committed.par =
      { s.par with active := (s.stagedF.foldl (fun p v => p.put v.1 v.2) s.par).active, staged := dropF s.par.staged,
                   lastTarget := s.ras.frame + 1, applied := true } := by
  simp only [State.committed, State.raiseRetired_frame, State.applyCommit_par]
  rw [State.setParams_par (s := s)]
  · rfl
  · rfl

/-- An agreement set that fails refuses the commit, before a follower's timing or a running transition is judged (R150, R152; log entry 21). -/
theorem State.commit_of_failing {s : State} {k : Nat} (h : s.failingSet true false s.stagedF = some k) :
    s.commit = ⟨stMismatch, 0, k, s⟩ := by
  simp [State.commit, h]

/-- While no frames run a commit whose sets hold applies at once, unless it is a follower's change of its timing (R155, R267). -/
theorem State.commit_of_stopped {s : State} (hrun : s.framesRun = false) (hset : s.failingSet true false s.stagedF = none)
    (hfol : ¬ (s.changesTiming s.stagedF = true ∧ s.isFollower = true)) :
    s.commit = ⟨stOk, (s.ras.frame + 1).toNat, 0, s.committed⟩ := by
  have hfol' : (s.changesTiming s.stagedF && s.isFollower) = false := by simpa using hfol
  simp [State.commit, hset, hfol', hrun, State.committed]

theorem CommitResult.reply_of_ok (target set : Nat) (t s : State) :
    CommitResult.reply ⟨stOk, target, set, t⟩ s = .reply stOk (commitResp target 0) t := by
  simp [CommitResult.reply]

theorem CommitResult.reply_of_mismatch (target set : Nat) (t s : State) :
    CommitResult.reply ⟨stMismatch, target, set, t⟩ s = .reply stMismatch (commitResp 0 set) s := by
  simp [CommitResult.reply, stOk, stDeferred, stMismatch]

theorem exec_commit (i : Mb) (s : State) : exec (.commit i) s = s.serve i (.bare 0x0020) fun _ t => t.commit.reply t := rfl

/-- Settles O24: the sets, the frames and the follower's role are judged on the taken state as on the one before it, and each of the two outcomes of COMMIT has its own equation. -/
theorem commitAppliesTogether : Obligations.CommitAppliesTogether := by
  unfold Obligations.CommitAppliesTogether
  constructor
  · intro i s hserved hrun hset hfol
    have hcommit := State.commit_of_stopped (s := s.taken i) (by simpa using hrun) (by simpa using hset) (by simpa using hfol)
    refine ⟨(s.taken i).committed, (exec_commit i s).trans (State.serve_reply hserved ?_), ?_⟩
    · rw [hcommit, CommitResult.reply_of_ok, State.taken_ras]
    · simp [State.committed_par]
  · intro i k s hserved hset
    have hcommit := State.commit_of_failing (s := s.taken i) (k := k) (by simpa using hset)
    rw [exec_commit, State.serve_reply hserved (by rw [hcommit, CommitResult.reply_of_mismatch])]

/-! ## COMMIT_STATUS and DISCARD -/

theorem exec_commitStatus (i : Mb) (s : State) :
    exec (.commitStatus i) s = s.serve i (.bare 0x0021) fun _ t => .reply stOk t.commitStatusBytes t := rfl

theorem exec_discard (i : Mb) (s : State) : exec (.discard i) s = s.serve i (.bare 0x0022) runDiscard := rfl

@[simp] theorem State.taken_commitStatusBytes (s : State) (i : Mb) : (s.taken i).commitStatusBytes = s.commitStatusBytes := by
  simp [State.commitStatusBytes, State.commitState]

/-- STATE is 2 while a commit waits, else 3 where the last one has applied, else 0 or 1 as nothing or something is staged (R160). -/
theorem State.commitState_eq (s : State) :
    s.commitState = if s.par.waiting ≠ [] then 2 else if s.par.applied then 3 else if s.par.staged = [] then 0 else 1 := by
  simp [State.commitState, List.isEmpty_iff]

/-- With no commit waiting DISCARD empties every shadow and reports their number (R159). -/
theorem runDiscard_of_none_waiting {s : State} (h : s.par.waiting = []) (p : List Byte) :
    runDiscard p s = .reply stOk (toLe 2 s.par.staged.length ++ zeros 2) { s with par := { s.par with staged := [] } } := by
  simp [runDiscard, h]

/-- A waiting commit keeps DISCARD off (R154). -/
theorem runDiscard_of_waiting {s : State} (h : s.par.waiting ≠ []) (p : List Byte) :
    runDiscard p s = .reply stBusy [] s := by
  simp [runDiscard, h, Reply.refuse]

/-- Settles O26: each command replies at once, from parameters that the taking of its request leaves alone. -/
theorem commitStatusAndDiscard : Obligations.CommitStatusAndDiscard := by
  unfold Obligations.CommitStatusAndDiscard
  refine ⟨?status, ?discarded, ?busy⟩
  case status =>
    intro i s hserved
    rw [exec_commitStatus, State.serve_reply (run := fun _ t => .reply stOk t.commitStatusBytes t) hserved rfl,
      State.taken_commitStatusBytes, State.commitStatusBytes, State.commitState_eq]
  case discarded =>
    intro i s hserved hwait
    rw [exec_discard, State.serve_reply hserved (runDiscard_of_none_waiting (by simpa using hwait) _), State.taken_par]
  case busy =>
    intro i s hserved hwait
    rw [exec_discard, State.serve_reply hserved (runDiscard_of_waiting (by simpa using hwait) _)]

end Sys2Proof.Machine
end

section
/-! One process compiles this whole text: the proofs below are elaborated one after another, which bounds its memory. -/

set_option Elab.async false

section
/-! SUPPORT. Footprints: what a command's outcome keeps of the state before it, how footprints compose, and what serving a mailbox request keeps besides the command's own effect. -/

namespace Sys2Proof.Machine

/-- Where an outcome is a next state, that state has a property. -/
def Leads (o : Out) (R : State → Prop) : Prop := ∀ t, o = .next t → R t

@[simp] theorem leads_next (t : State) (R : State → Prop) : Leads (.next t) R ↔ R t := by simp [Leads]

@[simp] theorem leads_fault (f : Fault) (R : State → Prop) : Leads (.fault f) R ↔ True := by simp [Leads]

@[simp] theorem leads_done (t : State) (R : State → Prop) : Leads (done t) R ↔ R t.settle := by simp [done]

/-- A part stays: it is equal in both states, and of a memory the listed cells are. -/
def Part.same (p : Part) (s t : State) : Prop :=
  match p with
  | .gddr7 => t.mem.cells = s.mem.cells ∧ t.mem.hoopFill = s.mem.hoopFill
  | .nor => t.nv.nor = s.nv.nor
  | .nand => t.nv.nand = s.nv.nand
  | p => p.kept s t

/-- The parts outside `ps` and the queue stay. -/
def State.keeps (s t : State) (ps : List Part) : Prop := t.pending = s.pending ∧ ∀ p, p ∉ ps → p.same s t

theorem State.keeps_iff (s t : State) (ps : List Part) : s.keeps t ps ↔ t.pending = s.pending ∧
    (.now ∉ ps → t.now = s.now) ∧ (.boot ∉ ps → t.boot = s.boot) ∧ (.vin ∉ ps → t.vin = s.vin) ∧ (.win ∉ ps → t.win = s.win) ∧
    (.box ∉ ps → t.box = s.box) ∧ (.evq ∉ ps → t.evq = s.evq) ∧ (.log ∉ ps → t.log = s.log) ∧ (.stat ∉ ps → t.stat = s.stat) ∧
    (.eyes ∉ ps → t.eyes = s.eyes) ∧ (.par ∉ ps → t.par = s.par) ∧ (.fn ∉ ps → t.fn = s.fn) ∧ (.tab ∉ ps → t.tab = s.tab) ∧
    (.pwr ∉ ps → t.pwr = s.pwr) ∧ (.thm ∉ ps → t.thm = s.thm) ∧ (.mem ∉ ps → t.mem = s.mem) ∧ (.cmp ∉ ps → t.cmp = s.cmp) ∧
    (.nv ∉ ps → t.nv = s.nv) ∧ (.ras ∉ ps → t.ras = s.ras) ∧ (.pipe ∉ ps → t.pipe = s.pipe) ∧ (.prk ∉ ps → t.prk = s.prk) ∧
    (.apq ∉ ps → t.apq = s.apq) ∧ (.pnl ∉ ps → t.pnl = s.pnl) ∧ (.bob ∉ ps → t.bob = s.bob) ∧ (.sel ∉ ps → t.sel = s.sel) ∧
    (.hl ∉ ps → t.hl = s.hl) ∧ (.sec ∉ ps → t.sec = s.sec) ∧ (.tat ∉ ps → t.tat = s.tat) ∧ (.free ∉ ps → t.free = s.free) ∧
    (.gddr7 ∉ ps → t.mem.cells = s.mem.cells ∧ t.mem.hoopFill = s.mem.hoopFill) ∧ (.nor ∉ ps → t.nv.nor = s.nv.nor) ∧
    (.nand ∉ ps → t.nv.nand = s.nv.nand) := by
  constructor
  · rintro ⟨h, k⟩
    exact ⟨h, k .now, k .boot, k .vin, k .win, k .box, k .evq, k .log, k .stat, k .eyes, k .par, k .fn, k .tab, k .pwr, k .thm, k .mem, k .cmp,
      k .nv, k .ras, k .pipe, k .prk, k .apq, k .pnl, k .bob, k .sel, k .hl, k .sec, k .tat, k .free, k .gddr7, k .nor, k .nand⟩
  · rintro ⟨h, k0, k1, k2, k3, k4, k5, k6, k7, k8, k9, k10, k11, k12, k13, k14, k15, k16, k17, k18, k19, k20, k21, k22, k23, k24, k25, k26, k27,
      k28, k29, k30⟩
    refine ⟨h, fun p => ?_⟩
    cases p
    all_goals assumption

theorem Part.same.trans {p : Part} {s t u : State} (h : p.same s t) (k : p.same t u) : p.same s u := by
  cases p
  case gddr7 => exact ⟨k.1.trans h.1, k.2.trans h.2⟩
  all_goals exact Eq.trans k h

/-- A part that stays holds what it held; a memory reads as before. -/
theorem Part.same.kept {p : Part} {s t : State} (h : p.same s t) : p.kept s t := by
  cases p
  case gddr7 =>
    obtain ⟨hcells, hfill⟩ := h
    exact fun a => by simp [State.ram, hcells, hfill]
  case nor => exact fun a => congrArg (cellRead flashBg · a) h
  case nand => exact fun a => congrArg (cellRead flashBg · a) h
  all_goals exact h

theorem State.keeps.trans {s t u : State} {ps : List Part} (h : s.keeps t ps) (k : t.keeps u ps) : s.keeps u ps :=
  ⟨k.1.trans h.1, fun p hp => (h.2 p hp).trans (k.2 p hp)⟩

theorem State.keeps.mono {s t : State} {ps qs : List Part} (h : s.keeps t ps) (hq : ps ⊆ qs) : s.keeps t qs :=
  ⟨h.1, fun p hp => h.2 p fun hps => hp (hq hps)⟩

theorem State.keeps_refl (s : State) (ps : List Part) : s.keeps s ps := by simp [State.keeps_iff]

/-- A footprint is what a frame asks for. -/
theorem Leads.frame {o : Out} {s t : State} {ps : List Part} (h : Leads o (s.keeps · ps)) (ht : o = .next t) :
    t.pending = s.pending ∧ ∀ p : Part, p ∉ ps → p.kept s t :=
  ⟨(h t ht).1, fun p hp => ((h t ht).2 p hp).kept⟩

/-! ## Serving a request -/

/-- What taking a request and answering it may change besides the command's own effect (R117, R124, R127). -/
abbrev answerParts : List Part := [.win, .box, .pwr, .hl, .tat]

/-- A reply has a property where each state it goes on from has it, and an A job's first action keeps it. -/
def Reply.leads (r : Reply) (R : State → Prop) : Prop :=
  match r with
  | .reply _ _ t => R t
  | .hold _ t => R t
  | .accept _ t after => R t ∧ ∀ u, R u → R (after u)

@[simp] theorem Reply.reply_leads (st : Nat) (p : List Byte) (t : State) (R : State → Prop) : (Reply.reply st p t).leads R ↔ R t := Iff.rfl

@[simp] theorem Reply.refuse_leads (st : Nat) (t : State) (R : State → Prop) : (Reply.refuse st t).leads R ↔ R t := Iff.rfl

@[simp] theorem Reply.hold_leads (w : Wait) (t : State) (R : State → Prop) : (Reply.hold w t).leads R ↔ R t := Iff.rfl

@[simp] theorem Reply.accept_leads (p : List Byte) (t : State) (f : State → State) (R : State → Prop) :
    (Reply.accept p t f).leads R ↔ R t ∧ ∀ u, R u → R (f u) := Iff.rfl

theorem State.take_keeps (s : State) (i : Mb) : s.keeps (s.take i) answerParts := by simp [State.keeps_iff]

theorem State.postWith_keeps (s : State) (i : Mb) (b : Bool) (st : Nat) (p : List Byte) : s.keeps (s.postWith i b st p) answerParts := by
  simp [State.keeps_iff]

theorem State.settle_keeps (s : State) : s.keeps s.settle answerParts := by simp [State.keeps_iff]

section
variable {R : State → Prop} (hR : ∀ t u, R t → t.keeps u answerParts → R u)
include hR

/-- The checks of a taken request and its answer keep what its command's reply keeps. -/
theorem State.serveBody_leads {s : State} {i : Mb} {c : Cmd} {run : List Byte → State → Reply} (p : List Byte) (hs : R s)
    (hrun : (run p s).leads R) : R (s.serveBody i c run p) := by
  have hpost (t : State) (st : Nat) (q : List Byte) (h : R t) : R (t.post i st q) := hR _ _ h (t.postWith_keeps i true st q)
  unfold State.serveBody
  split
  · exact hpost _ _ _ hs
  split
  · exact hpost _ _ _ hs
  dsimp only
  split
  case h_1 t heq =>
    rw [heq] at hrun
    split
    · exact hpost _ _ _ hs
    · exact hpost _ _ _ hrun
  case h_2 w t heq =>
    rw [heq] at hrun
    split
    · exact hpost _ _ _ hs
    · exact hR _ _ hrun (by simp [State.keeps_iff])
  case h_3 q t after heq =>
    rw [heq] at hrun
    split
    · exact hpost _ _ _ hs
    · exact hrun.2 _ (hpost _ _ _ (hR _ _ hrun.1 (by simp [State.keeps_iff])))

theorem State.serveTaken_leads {s : State} {i : Mb} {c : Cmd} {run : List Byte → State → Reply} (hs : R s)
    (hrun : ∀ p t, R t → (run p t).leads R) : R (s.serveTaken i c run) := by
  unfold State.serveTaken
  dsimp only
  split
  · exact hR _ _ hs (State.keeps.trans (by split <;> simp [State.keeps_iff]) (State.postWith_keeps _ _ _ _ _))
  have hcheck (u : State) (hu : R u) : R (if !servedIn u.boot.stage (reqCode (s.mb i).req) || reqFlags (s.mb i).req != 0 then u.post i stBadCommand []
      else u.serveBody i c run (reqPayload (s.mb i).req)) := by
    split
    · exact hR _ _ hu (State.postWith_keeps _ _ _ _ _)
    · exact serveBody_leads hR _ hu (hrun _ _ hu)
  split
  · exact hcheck _ (hR _ _ hs (by simp [State.keeps_iff]))
  · exact hcheck _ (hR _ _ hs (by simp [State.keeps_iff]))
  · exact hcheck _ hs

theorem State.serve_leads {s : State} {i : Mb} {c : Cmd} {run : List Byte → State → Reply} (hs : R s)
    (hrun : ∀ p t, R t → (run p t).leads R) : Leads (s.serve i c run) R := by
  unfold State.serve
  split
  · rw [leads_done]
    exact hR _ _ (serveTaken_leads hR (hR _ _ hs (s.take_keeps i)) hrun) (State.settle_keeps _)
  · exact (leads_next _ _).2 hs
end

/-- A command's reply changes, of the state it starts from, `ps` alone; so does an A job's first action. -/
def Reply.keeps (r : Reply) (s : State) (ps : List Part) : Prop :=
  match r with
  | .reply _ _ t => s.keeps t ps
  | .hold _ t => s.keeps t ps
  | .accept _ t after => s.keeps t ps ∧ ∀ u : State, u.keeps (after u) ps

@[simp] theorem Reply.reply_keeps (st : Nat) (p : List Byte) (s t : State) (ps : List Part) : (Reply.reply st p t).keeps s ps ↔ s.keeps t ps := Iff.rfl

@[simp] theorem Reply.refuse_keeps (st : Nat) (s t : State) (ps : List Part) : (Reply.refuse st t).keeps s ps ↔ s.keeps t ps := Iff.rfl

@[simp] theorem Reply.hold_keeps (w : Wait) (s t : State) (ps : List Part) : (Reply.hold w t).keeps s ps ↔ s.keeps t ps := Iff.rfl

@[simp] theorem Reply.accept_keeps (p : List Byte) (s t : State) (f : State → State) (ps : List Part) :
    (Reply.accept p t f).keeps s ps ↔ s.keeps t ps ∧ ∀ u : State, u.keeps (f u) ps := Iff.rfl

/-- A served command changes the answer's parts and what its own reply changes. -/
theorem State.serve_keeps {s : State} {i : Mb} {c : Cmd} {run : List Byte → State → Reply} {ps : List Part} (hps : answerParts ⊆ ps)
    (hrun : ∀ p t, (run p t).keeps t ps) : Leads (s.serve i c run) (s.keeps · ps) := by
  refine State.serve_leads (fun _ _ h k => h.trans (k.mono hps)) (s.keeps_refl ps) fun p t h => ?_
  have ht := hrun p t
  cases hr : run p t with
  | reply st q u => exact h.trans (by rwa [hr] at ht)
  | hold w u => exact h.trans (by rwa [hr] at ht)
  | accept q u after =>
    rw [hr] at ht
    exact ⟨h.trans ht.1, fun v hv => hv.trans (ht.2 v)⟩

/-- A message of the net that is heard as its command's changes the statistics and what the command's own meaning changes. -/
theorem State.tatTake_keeps {s : State} {port : TatPort} {kind : Nat} {codes : List (BitVec 10)} {f : List Byte → State → Out} {ps : List Part}
    (hps : .stat ∈ ps) (hf : ∀ p, Leads (f p s) (s.keeps · ps)) : Leads (s.tatTake port kind codes f) (s.keeps · ps) := by
  unfold State.tatTake
  split
  · simp [State.keeps_refl]
  · split
    · simp [State.keeps_iff, hps]
    · split
      · exact hf _
      · simp [State.keeps_refl]

end Sys2Proof.Machine
end

section
/-! SUPPORT. The footprint of the commands of start-up, reset, supply, power domains, temperature, ports, flash and timers: each command keeps every part that `changes` does not list for it. -/

namespace Sys2Proof.Machine

theorem execAonPowerUp_keeps (vinMv : BitVec 16) (s : State) : Leads (execAonPowerUp vinMv s) (s.keeps · (changes (.aonPowerUp vinMv))) := by
  unfold execAonPowerUp
  repeat' split
  all_goals simp +decide [State.keeps_iff, changes.eq_def, -List.mem_cons]

theorem execStrapSample_keeps (straps : Straps) (s : State) : Leads (execStrapSample straps s) (s.keeps · (changes (.strapSample straps))) := by
  unfold execStrapSample
  repeat' split
  all_goals simp +decide [State.keeps_iff, changes.eq_def, -List.mem_cons]

theorem execResonatorCheck_keeps (oscillates : Bool) (milliPercent : BitVec 32) (s : State) : Leads (execResonatorCheck oscillates milliPercent s) (s.keeps · (changes (.resonatorCheck oscillates milliPercent))) := by
  unfold execResonatorCheck
  dsimp only
  repeat' split
  all_goals simp +decide [State.keeps_iff, changes.eq_def, -List.mem_cons]

theorem execVinBootMeasure_keeps (vinMv : BitVec 16) (s : State) : Leads (execVinBootMeasure vinMv s) (s.keeps · (changes (.vinBootMeasure vinMv))) := by
  unfold execVinBootMeasure
  repeat' split
  all_goals simp +decide [State.keeps_iff, changes.eq_def, -List.mem_cons]

theorem execRootPllLock_keeps (s : State) : Leads (execRootPllLock s) (s.keeps · (changes .rootPllLock)) := by
  unfold execRootPllLock
  dsimp only
  repeat' split
  all_goals simp +decide [State.keeps_iff, changes.eq_def, -List.mem_cons]

theorem execBootRomCheckDone_keeps (readError : Bool) (s : State) : Leads (execBootRomCheckDone readError s) (s.keeps · (changes (.bootRomCheckDone readError))) := by
  unfold execBootRomCheckDone
  dsimp only
  repeat' split
  all_goals simp +decide [State.keeps_iff, changes.eq_def, -List.mem_cons]

theorem execBootWatchdogExpiry_keeps (s : State) : Leads (execBootWatchdogExpiry s) (s.keeps · (changes .bootWatchdogExpiry)) := by
  unfold execBootWatchdogExpiry
  repeat' split
  all_goals simp +decide [State.keeps_iff, changes.eq_def, -List.mem_cons]

theorem execFirmwareWatchdogExpiry_keeps (s : State) : Leads (execFirmwareWatchdogExpiry s) (s.keeps · (changes .firmwareWatchdogExpiry)) := by
  unfold execFirmwareWatchdogExpiry
  repeat' split
  all_goals simp +decide [State.keeps_iff, changes.eq_def, -List.mem_cons]

theorem execSamplerScanDone_keeps (s : State) : Leads (execSamplerScanDone s) (s.keeps · (changes .samplerScanDone)) := by
  unfold execSamplerScanDone
  repeat' split
  all_goals simp +decide [State.keeps_iff, changes.eq_def, -List.mem_cons]

theorem execMemReady_keeps (s : State) : Leads (execMemReady s) (s.keeps · (changes .memReady)) := by
  unfold execMemReady
  repeat' split
  all_goals simp +decide [State.keeps_iff, changes.eq_def, -List.mem_cons]

theorem execPersistedTableLoadDone_keeps (table : BitVec 16) (s : State) : Leads (execPersistedTableLoadDone table s) (s.keeps · (changes (.persistedTableLoadDone table))) := by
  unfold execPersistedTableLoadDone
  dsimp only
  repeat' split
  all_goals simp +decide [State.keeps_iff, changes.eq_def, -List.mem_cons]

theorem execMapLoadDone_keeps (s : State) : Leads (execMapLoadDone s) (s.keeps · (changes .mapLoadDone)) := by
  unfold execMapLoadDone
  repeat' split
  all_goals simp +decide [State.keeps_iff, changes.eq_def, -List.mem_cons]

theorem execMapWaitLimitExpiry_keeps (s : State) : Leads (execMapWaitLimitExpiry s) (s.keeps · (changes .mapWaitLimitExpiry)) := by
  unfold execMapWaitLimitExpiry
  repeat' split
  all_goals simp +decide [State.keeps_iff, changes.eq_def, -List.mem_cons]

theorem execStressSnapshotLoadDone_keeps (s : State) : Leads (execStressSnapshotLoadDone s) (s.keeps · (changes .stressSnapshotLoadDone)) := by
  unfold execStressSnapshotLoadDone
  dsimp only
  repeat' split
  all_goals simp +decide [State.keeps_iff, changes.eq_def, -List.mem_cons]

theorem execClipLoadDone_keeps (inst : BitVec 8) (s : State) : Leads (execClipLoadDone inst s) (s.keeps · (changes (.clipLoadDone inst))) := by
  unfold execClipLoadDone
  repeat' split
  all_goals simp +decide [State.keeps_iff, changes.eq_def, -List.mem_cons]

theorem execResetNAssert_keeps (s : State) : Leads (execResetNAssert s) (s.keeps · (changes .resetNAssert)) := by
  unfold execResetNAssert
  repeat' split
  all_goals simp +decide [State.keeps_iff, changes.eq_def, -List.mem_cons]

theorem execResetNRelease_keeps (straps : Straps) (s : State) : Leads (execResetNRelease straps s) (s.keeps · (changes (.resetNRelease straps))) := by
  unfold execResetNRelease
  dsimp only
  repeat' split
  all_goals simp +decide [State.keeps_iff, changes.eq_def, -List.mem_cons]

theorem execLockstepReset_keeps (s : State) : Leads (execLockstepReset s) (s.keeps · (changes .lockstepReset)) := by
  unfold execLockstepReset
  repeat' split
  all_goals simp +decide [State.keeps_iff, changes.eq_def, -List.mem_cons]

theorem execPllLossOfLock_keeps (s : State) : Leads (execPllLossOfLock s) (s.keeps · (changes .pllLossOfLock)) := by
  unfold execPllLossOfLock
  repeat' split
  all_goals simp +decide [State.keeps_iff, changes.eq_def, -List.mem_cons]

theorem execUndervoltageLockout_keeps (s : State) : Leads (execUndervoltageLockout s) (s.keeps · (changes .undervoltageLockout)) := by
  simp +decide [execUndervoltageLockout, State.keeps_iff, changes.eq_def, -List.mem_cons]

theorem execHardwareSafeStopEnd_keeps (s : State) : Leads (execHardwareSafeStopEnd s) (s.keeps · (changes .hardwareSafeStopEnd)) := by
  unfold execHardwareSafeStopEnd
  repeat' split
  all_goals simp +decide [State.keeps_iff, changes.eq_def, -List.mem_cons]

theorem execJtagTrst_keeps (s : State) : Leads (execJtagTrst s) (s.keeps · (changes .jtagTrst)) := by
  simp +decide [execJtagTrst, State.keeps_iff, changes.eq_def, -List.mem_cons]

theorem execThermalSample_keeps (die : List (BitVec 16)) (mem0 mem1 : BitVec 16) (s : State) : Leads (execThermalSample die mem0 mem1 s) (s.keeps · (changes (.thermalSample die mem0 mem1))) := by
  unfold execThermalSample
  repeat' split
  all_goals simp +decide [State.keeps_iff, changes.eq_def, -List.mem_cons]

theorem execThmReleaseExpiry_keeps (s : State) : Leads (execThmReleaseExpiry s) (s.keeps · (changes .thmReleaseExpiry)) := by
  unfold execThmReleaseExpiry
  repeat' split
  all_goals simp +decide [State.keeps_iff, changes.eq_def, -List.mem_cons]

theorem execRiseTriggerRearm_keeps (s : State) : Leads (execRiseTriggerRearm s) (s.keeps · (changes .riseTriggerRearm)) := by
  simp +decide [execRiseTriggerRearm, State.keeps_iff, changes.eq_def, -List.mem_cons]

theorem execThermalRequestRepeat_keeps (s : State) : Leads (execThermalRequestRepeat s) (s.keeps · (changes .thermalRequestRepeat)) := by
  unfold execThermalRequestRepeat
  repeat' split
  all_goals simp +decide [State.keeps_iff, changes.eq_def, -List.mem_cons]

theorem execPfwAssert_keeps (vinMv : BitVec 16) (s : State) : Leads (execPfwAssert vinMv s) (s.keeps · (changes (.pfwAssert vinMv))) := by
  unfold execPfwAssert
  repeat' split
  all_goals simp +decide [State.keeps_iff, changes.eq_def, -List.mem_cons]

theorem execPfwSaveDone_keeps (s : State) : Leads (execPfwSaveDone s) (s.keeps · (changes .pfwSaveDone)) := by
  unfold execPfwSaveDone
  dsimp only
  repeat' split
  all_goals simp +decide [State.keeps_iff, changes.eq_def, -List.mem_cons]

theorem execPfwDeassert_keeps (vinMv : BitVec 16) (s : State) : Leads (execPfwDeassert vinMv s) (s.keeps · (changes (.pfwDeassert vinMv))) := by
  unfold execPfwDeassert
  repeat' split
  all_goals simp +decide [State.keeps_iff, changes.eq_def, -List.mem_cons]

theorem execPfwRecoverExpiry_keeps (s : State) : Leads (execPfwRecoverExpiry s) (s.keeps · (changes .pfwRecoverExpiry)) := by
  unfold execPfwRecoverExpiry
  dsimp only
  repeat' split
  all_goals simp +decide [State.keeps_iff, changes.eq_def, -List.mem_cons]

theorem execCtlReadStatus_keeps (s : State) : Leads (execCtlReadStatus s) (s.keeps · (changes .ctlReadStatus)) := by
  unfold execCtlReadStatus
  repeat' split
  all_goals simp +decide [State.keeps_iff, changes.eq_def, -List.mem_cons]

theorem execResetKeyWrite_keeps (port : Port) (data : Word) (s : State) : Leads (execResetKeyWrite port data s) (s.keeps · (changes (.resetKeyWrite port data))) := by
  unfold execResetKeyWrite
  dsimp only
  repeat' split
  all_goals simp +decide [State.keeps_iff, changes.eq_def, -List.mem_cons]

theorem execRegWrite_keeps (port : Port) (access : RegAccess) (s : State) :
    Leads (execRegWrite port access s) (s.keeps · (changes (.regWrite port access))) := by
  unfold execRegWrite
  repeat' split
  case h_1 a d =>
    unfold State.writeWord
    repeat' split
    case h_1.isTrue => exact execResetKeyWrite_keeps port d s
    all_goals simp +decide [State.keeps_iff, changes.eq_def, -List.mem_cons]
  all_goals simp +decide [State.keeps_iff, changes.eq_def, -List.mem_cons]

theorem execTimeLoRead_keeps (port : Port) (s : State) : Leads (execTimeLoRead port s) (s.keeps · (changes (.timeLoRead port))) := by
  unfold execTimeLoRead
  repeat' split
  all_goals simp +decide [State.keeps_iff, changes.eq_def, -List.mem_cons]

theorem execIrqStatusClear_keeps (port : Port) (data : Word) (s : State) : Leads (execIrqStatusClear port data s) (s.keeps · (changes (.irqStatusClear port data))) := by
  unfold execIrqStatusClear
  repeat' split
  all_goals simp +decide [State.keeps_iff, changes.eq_def, -List.mem_cons]

theorem execFaultCauseClear_keeps (port : Port) (data : Word) (s : State) : Leads (execFaultCauseClear port data s) (s.keeps · (changes (.faultCauseClear port data))) := by
  unfold execFaultCauseClear
  repeat' split
  all_goals simp +decide [State.keeps_iff, changes.eq_def, -List.mem_cons]

theorem execWakeCauseClear_keeps (port : Port) (data : Word) (s : State) : Leads (execWakeCauseClear port data s) (s.keeps · (changes (.wakeCauseClear port data))) := by
  unfold execWakeCauseClear
  repeat' split
  all_goals simp +decide [State.keeps_iff, changes.eq_def, -List.mem_cons]

theorem execPortErrorsClear_keeps (port : Port) (data : Word) (s : State) : Leads (execPortErrorsClear port data s) (s.keeps · (changes (.portErrorsClear port data))) := by
  unfold execPortErrorsClear
  repeat' split
  all_goals simp +decide [State.keeps_iff, changes.eq_def, -List.mem_cons]

theorem execMbDoorbell_keeps (mb : Mb) (data : Word) (s : State) : Leads (execMbDoorbell mb data s) (s.keeps · (changes (.mbDoorbell mb data))) := by
  unfold execMbDoorbell
  repeat' split
  all_goals simp +decide [State.keeps_iff, changes.eq_def, -List.mem_cons]

theorem execMbRelease_keeps (mb : Mb) (data : Word) (s : State) : Leads (execMbRelease mb data s) (s.keeps · (changes (.mbRelease mb data))) := by
  unfold execMbRelease
  repeat' split
  all_goals simp +decide [State.keeps_iff, changes.eq_def, -List.mem_cons]

theorem execStandbyEntry_keeps (s : State) : Leads (execStandbyEntry s) (s.keeps · (changes .standbyEntry)) := by
  unfold execStandbyEntry
  repeat' split
  all_goals simp +decide [State.keeps_iff, changes.eq_def, -List.mem_cons]

theorem execNorProgramDone_keeps (mismatch : Bool) (s : State) : Leads (execNorProgramDone mismatch s) (s.keeps · (changes (.norProgramDone mismatch))) := by
  unfold execNorProgramDone
  dsimp only
  repeat' split
  all_goals simp +decide [State.keeps_iff, changes.eq_def, -List.mem_cons]

theorem execNvEraseDone_keeps (failed : List Nat) (s : State) : Leads (execNvEraseDone failed s) (s.keeps · (changes (.nvEraseDone failed))) := by
  unfold execNvEraseDone
  repeat' split
  all_goals simp +decide [State.keeps_iff, changes.eq_def, -List.mem_cons]

theorem execSamplerCompaction_keeps (bank1 : Bool) (s : State) :
    Leads (execSamplerCompaction bank1 s) (s.keeps · (changes (.samplerCompaction bank1))) := by
  unfold execSamplerCompaction
  dsimp only
  split
  · simp [State.keeps_refl]
  split
  · simp [State.keeps_refl]
  generalize hmoved : List.foldl _ s _ = s1
  have h1 : s.keeps s1 (changes (.samplerCompaction bank1)) := by
    subst hmoved
    refine List.foldlRecOn _ _ (motive := fun t => s.keeps t _) (s.keeps_refl _) fun t ht r _ => ht.trans ?_
    split
    · exact t.keeps_refl _
    · simp +decide [State.keeps_iff, changes.eq_def, -List.mem_cons]
  exact (leads_done _ _).2 (h1.trans (by simp +decide [State.keeps_iff, changes.eq_def, -List.mem_cons]))

theorem execNandStoreDone_keeps (object : Word) (failed : Bool) (s : State) : Leads (execNandStoreDone object failed s) (s.keeps · (changes (.nandStoreDone object failed))) := by
  simp +decide [execNandStoreDone, State.keeps_iff, changes.eq_def, -List.mem_cons]

theorem execCmpContainerDone_keeps (s : State) : Leads (execCmpContainerDone s) (s.keeps · (changes .cmpContainerDone)) := by
  unfold execCmpContainerDone
  repeat' split
  all_goals simp +decide [State.keeps_iff, changes.eq_def, -List.mem_cons]

theorem execNonceExpiry_keeps (s : State) : Leads (execNonceExpiry s) (s.keeps · (changes .nonceExpiry)) := by
  simp +decide [execNonceExpiry, State.keeps_iff, changes.eq_def, -List.mem_cons]

theorem execApprovalBundleCheckDone_keeps (s : State) : Leads (execApprovalBundleCheckDone s) (s.keeps · (changes .approvalBundleCheckDone)) := by
  unfold execApprovalBundleCheckDone
  dsimp only
  repeat' split
  all_goals simp +decide [State.keeps_iff, changes.eq_def, -List.mem_cons]

theorem execFwImageCheckDone_keeps (s : State) : Leads (execFwImageCheckDone s) (s.keeps · (changes .fwImageCheckDone)) := by
  unfold execFwImageCheckDone
  repeat' split
  all_goals simp +decide [State.keeps_iff, changes.eq_def, -List.mem_cons]

theorem execCtlCsWake_keeps (s : State) : Leads (execCtlCsWake s) (s.keeps · (changes .ctlCsWake)) := by
  unfold execCtlCsWake
  repeat' split
  all_goals simp +decide [State.keeps_iff, changes.eq_def, -List.mem_cons]

theorem execSvcAddressMatch_keeps (s : State) : Leads (execSvcAddressMatch s) (s.keeps · (changes .svcAddressMatch)) := by
  simp +decide [execSvcAddressMatch, State.keeps_iff, changes.eq_def, -List.mem_cons]

theorem execPicotActivity_keeps (s : State) : Leads (execPicotActivity s) (s.keeps · (changes .picotActivity)) := by
  simp +decide [execPicotActivity, State.keeps_iff, changes.eq_def, -List.mem_cons]

theorem execWakeTimerExpiry_keeps (s : State) : Leads (execWakeTimerExpiry s) (s.keeps · (changes .wakeTimerExpiry)) := by
  unfold execWakeTimerExpiry
  repeat' split
  all_goals simp +decide [State.keeps_iff, changes.eq_def, -List.mem_cons]

theorem execWakeVoteLapse_keeps (s : State) : Leads (execWakeVoteLapse s) (s.keeps · (changes .wakeVoteLapse)) := by
  unfold execWakeVoteLapse
  repeat' split
  all_goals simp +decide [State.keeps_iff, changes.eq_def, -List.mem_cons]

theorem execIdleTimerExpiry_keeps (d : Fin 19) (s : State) : Leads (execIdleTimerExpiry d s) (s.keeps · (changes (.idleTimerExpiry d))) := by
  unfold execIdleTimerExpiry
  dsimp only
  repeat' split
  all_goals simp +decide [State.keeps_iff, changes.eq_def, -List.mem_cons]

theorem execDomainEntryDone_keeps (d : Fin 19) (s : State) : Leads (execDomainEntryDone d s) (s.keeps · (changes (.domainEntryDone d))) := by
  unfold execDomainEntryDone
  repeat' split
  all_goals simp +decide [State.keeps_iff, changes.eq_def, -List.mem_cons]

theorem execWakeGrant_keeps (s : State) : Leads (execWakeGrant s) (s.keeps · (changes .wakeGrant)) := by
  simp +decide [execWakeGrant, State.keeps_iff, changes.eq_def, -List.mem_cons]

theorem execDomainWakeDone_keeps (d : Fin 19) (s : State) : Leads (execDomainWakeDone d s) (s.keeps · (changes (.domainWakeDone d))) := by
  unfold execDomainWakeDone
  repeat' split
  all_goals simp +decide [State.keeps_iff, changes.eq_def, -List.mem_cons]

theorem execWakeFailureTimeout_keeps (d : Fin 19) (clockLock : Bool) (s : State) : Leads (execWakeFailureTimeout d clockLock s) (s.keeps · (changes (.wakeFailureTimeout d clockLock))) := by
  unfold execWakeFailureTimeout
  repeat' split
  all_goals simp +decide [State.keeps_iff, changes.eq_def, -List.mem_cons]

theorem execRetryOffExpiry_keeps (d : Fin 19) (s : State) : Leads (execRetryOffExpiry d s) (s.keeps · (changes (.retryOffExpiry d))) := by
  unfold execRetryOffExpiry
  repeat' split
  all_goals simp +decide [State.keeps_iff, changes.eq_def, -List.mem_cons]

theorem execStatMaxTimeExpiry_keeps (s : State) : Leads (execStatMaxTimeExpiry s) (s.keeps · (changes .statMaxTimeExpiry)) := by
  simp +decide [execStatMaxTimeExpiry, State.keeps_iff, changes.eq_def, -List.mem_cons]

theorem execSecKeyAgreementDone_keeps (s : State) : Leads (execSecKeyAgreementDone s) (s.keeps · (changes .secKeyAgreementDone)) := by
  unfold execSecKeyAgreementDone
  repeat' split
  all_goals simp +decide [State.keeps_iff, changes.eq_def, -List.mem_cons]

theorem execCtlCsNRise_keeps (leftover : BitVec 5) (s : State) : Leads (execCtlCsNRise leftover s) (s.keeps · (changes (.ctlCsNRise leftover))) := by
  unfold execCtlCsNRise
  repeat' split
  all_goals simp +decide [State.keeps_iff, changes.eq_def, -List.mem_cons]

theorem execSvcStop_keeps (leftover : BitVec 2) (s : State) : Leads (execSvcStop leftover s) (s.keeps · (changes (.svcStop leftover))) := by
  unfold execSvcStop
  repeat' split
  all_goals simp +decide [State.keeps_iff, changes.eq_def, -List.mem_cons]

end Sys2Proof.Machine
end

section
/-! SUPPORT. The footprint of the mailbox commands: each command keeps every part that `changes` does not list for it. -/

namespace Sys2Proof.Machine

theorem execUnknownCommand_keeps (mb : Mb) (s : State) : Leads (execUnknownCommand mb s) (s.keeps · (changes (.unknownCommand mb))) := by
  have hR : ∀ t u, s.keeps t answerParts → t.keeps u answerParts → s.keeps u answerParts := fun _ _ h k => h.trans k
  have hps : answerParts ⊆ changes (.unknownCommand mb) := by simp [changes.eq_def]
  unfold execUnknownCommand
  dsimp only
  split
  · refine (leads_done _ _).2 ((hR _ _ ?_ (State.settle_keeps _)).mono hps)
    exact State.serveTaken_leads hR (s.take_keeps mb) fun _ _ h => h
  · simp [State.keeps_refl]

theorem execIdent_keeps (mb : Mb) (s : State) : Leads (execIdent mb s) (s.keeps · (changes (.ident mb))) := by
  unfold execIdent
  refine State.serve_keeps (by simp +decide [changes.eq_def, -List.mem_cons]) fun p t => ?_
  simp +decide [State.keeps_iff, changes.eq_def, -List.mem_cons]

theorem execParamGet_keeps (mb : Mb) (s : State) : Leads (execParamGet mb s) (s.keeps · (changes (.paramGet mb))) := by
  unfold execParamGet
  refine State.serve_keeps (by simp +decide [changes.eq_def, -List.mem_cons]) fun p t => ?_
  unfold runParamGet
  dsimp only
  repeat' split
  all_goals simp +decide [State.keeps_iff, changes.eq_def, -List.mem_cons]

theorem execParamSet_keeps (mb : Mb) (s : State) : Leads (execParamSet mb s) (s.keeps · (changes (.paramSet mb))) := by
  unfold execParamSet
  refine State.serve_keeps (by simp +decide [changes.eq_def, -List.mem_cons]) fun p t => ?_
  unfold runParamSet
  dsimp only
  repeat' split
  all_goals simp +decide [State.keeps_iff, changes.eq_def, -List.mem_cons]

theorem execParamGetMulti_keeps (mb : Mb) (s : State) : Leads (execParamGetMulti mb s) (s.keeps · (changes (.paramGetMulti mb))) := by
  unfold execParamGetMulti
  refine State.serve_keeps (by simp +decide [changes.eq_def, -List.mem_cons]) fun p t => ?_
  unfold runParamGetMulti
  dsimp only
  repeat' split
  all_goals simp +decide [State.keeps_iff, changes.eq_def, -List.mem_cons]

theorem execParamSetMulti_keeps (mb : Mb) (s : State) : Leads (execParamSetMulti mb s) (s.keeps · (changes (.paramSetMulti mb))) := by
  unfold execParamSetMulti
  refine State.serve_keeps (by simp +decide [changes.eq_def, -List.mem_cons]) fun p t => ?_
  unfold runParamSetMulti
  dsimp only
  repeat' split
  all_goals simp +decide [State.keeps_iff, changes.eq_def, -List.mem_cons]

/-- A PARAM_SET changes what its parameter's write changes. -/
theorem State.serveSetOf_keeps (s : State) (mb : Mb) (id : Nat) : Leads (s.serveSetOf mb id) (s.keeps · (changes (.paramSet mb))) := by
  unfold State.serveSetOf
  split
  · exact execParamSet_keeps mb s
  · simp [State.keeps_refl]

theorem execLogClear_keeps (mb : Mb) (s : State) : Leads (execLogClear mb s) (s.keeps · (changes (.logClear mb))) :=
  s.serveSetOf_keeps mb 0x1405

theorem execLogFirstFaultClear_keeps (mb : Mb) (s : State) :
    Leads (execLogFirstFaultClear mb s) (s.keeps · (changes (.logFirstFaultClear mb))) :=
  s.serveSetOf_keeps mb 0x1404

theorem execPwrResClear_keeps (mb : Mb) (s : State) : Leads (execPwrResClear mb s) (s.keeps · (changes (.pwrResClear mb))) :=
  s.serveSetOf_keeps mb 0x0C07

/-- A commit's reply goes on from the commit's own state or from the state it was asked in. -/
theorem CommitResult.reply_keeps {r : CommitResult} {s : State} {ps : List Part} (h : s.keeps r.state ps) : (r.reply s).keeps s ps := by
  unfold CommitResult.reply
  repeat' split
  · exact h
  all_goals exact s.keeps_refl ps

theorem Reply.keeps_ite {c : Prop} [Decidable c] {a b : Reply} {s : State} {ps : List Part} (ha : a.keeps s ps) (hb : b.keeps s ps) :
    (if c then a else b).keeps s ps := by
  split <;> assumption

theorem execCommit_keeps (mb : Mb) (s : State) : Leads (execCommit mb s) (s.keeps · (changes (.commit mb))) :=
  State.serve_keeps (by simp +decide [changes.eq_def, -List.mem_cons]) fun _ t => CommitResult.reply_keeps (by simp +decide [State.keeps_iff, changes.eq_def, -List.mem_cons])

theorem execCommitStatus_keeps (mb : Mb) (s : State) : Leads (execCommitStatus mb s) (s.keeps · (changes (.commitStatus mb))) := by
  unfold execCommitStatus
  refine State.serve_keeps (by simp +decide [changes.eq_def, -List.mem_cons]) fun p t => ?_
  simp +decide [State.keeps_iff, changes.eq_def, -List.mem_cons]

theorem execDiscard_keeps (mb : Mb) (s : State) : Leads (execDiscard mb s) (s.keeps · (changes (.discard mb))) := by
  unfold execDiscard
  refine State.serve_keeps (by simp +decide [changes.eq_def, -List.mem_cons]) fun p t => ?_
  unfold runDiscard
  repeat' split
  all_goals simp +decide [State.keeps_iff, changes.eq_def, -List.mem_cons]

theorem execFuncStop_keeps (mb : Mb) (s : State) : Leads (execFuncStop mb s) (s.keeps · (changes (.funcStop mb))) := by
  refine State.serve_keeps (by simp +decide [changes.eq_def, -List.mem_cons]) fun p t => ?_
  unfold runFuncStop State.funcAsk State.safeStopReply
  dsimp only
  repeat' split
  all_goals simp +decide [State.keeps_iff, changes.eq_def, -List.mem_cons]

theorem execFuncStart_keeps (mb : Mb) (s : State) : Leads (execFuncStart mb s) (s.keeps · (changes (.funcStart mb))) := by
  refine State.serve_keeps (by simp +decide [changes.eq_def, -List.mem_cons]) fun p t => ?_
  unfold runFuncStart State.funcAsk State.panelOnReply State.startLink
  dsimp only
  repeat' split
  all_goals simp +decide [State.keeps_iff, changes.eq_def, -List.mem_cons]

theorem execFuncState_keeps (mb : Mb) (s : State) : Leads (execFuncState mb s) (s.keeps · (changes (.funcState mb))) := by
  unfold execFuncState
  refine State.serve_keeps (by simp +decide [changes.eq_def, -List.mem_cons]) fun p t => ?_
  unfold runFuncState
  dsimp only
  repeat' split
  all_goals simp +decide [State.keeps_iff, changes.eq_def, -List.mem_cons]

theorem execModeChange_keeps (mb : Mb) (s : State) : Leads (execModeChange mb s) (s.keeps · (changes (.modeChange mb))) := by
  refine State.serve_keeps (by simp +decide [changes.eq_def, -List.mem_cons]) fun p t => ?_
  unfold runModeChange State.modeCommit
  dsimp only
  repeat' split
  all_goals simp +decide [State.keeps_iff, changes.eq_def, -List.mem_cons]

/-- A change of a function's state is asked for, or acts at once. -/
theorem State.funcAsk_keeps (s : State) (f : Func) (c : FuncChange) (mb : Mb) : (s.funcAsk f c mb).keeps s (changes (.funcReset mb)) := by
  unfold State.funcAsk
  dsimp only
  split
  all_goals simp +decide [State.keeps_iff, changes.eq_def, -List.mem_cons]

theorem execFuncReset_keeps (mb : Mb) (s : State) : Leads (execFuncReset mb s) (s.keeps · (changes (.funcReset mb))) := by
  refine State.serve_keeps (by simp +decide [changes.eq_def, -List.mem_cons]) fun p t => ?_
  unfold runFuncReset
  repeat' split
  case isFalse.isFalse.isFalse => exact t.funcAsk_keeps _ _ mb
  all_goals exact t.keeps_refl _

theorem State.poolLoad_keeps (s : State) (f : Frag) (mb : Mb) : (s.poolLoad f).keeps s (changes (.tableLoad mb)) := by
  unfold State.poolLoad
  split
  all_goals simp +decide [State.keeps_iff, changes.eq_def, -List.mem_cons]

theorem State.loadOn_keeps (s : State) (t : Table) (f : Frag) (mb : Mb) : (s.loadOn t f).keeps s (changes (.tableLoad mb)) := by
  unfold State.loadOn
  dsimp only
  repeat' split
  all_goals simp +decide [State.keeps_iff, changes.eq_def, -List.mem_cons]

theorem execTableLoad_keeps (mb : Mb) (s : State) : Leads (execTableLoad mb s) (s.keeps · (changes (.tableLoad mb))) := by
  refine State.serve_keeps (by simp +decide [changes.eq_def, -List.mem_cons]) fun p t => ?_
  unfold runTableLoad
  dsimp only
  have hstay : (t.keeps t (changes (.tableLoad mb))) := t.keeps_refl _
  refine Reply.keeps_ite hstay (Reply.keeps_ite hstay (Reply.keeps_ite (t.poolLoad_keeps _ mb) (Reply.keeps_ite hstay (Reply.keeps_ite hstay
    (Reply.keeps_ite (Reply.keeps_ite hstay (t.loadOn_keeps _ _ mb)) (Reply.keeps_ite hstay (Reply.keeps_ite ?_ (t.loadOn_keeps _ _ mb))))))))
  simp +decide [State.keeps_iff, changes.eq_def, -List.mem_cons]

theorem execTableRead_keeps (mb : Mb) (s : State) : Leads (execTableRead mb s) (s.keeps · (changes (.tableRead mb))) := by
  unfold execTableRead
  refine State.serve_keeps (by simp +decide [changes.eq_def, -List.mem_cons]) fun p t => ?_
  unfold runTableRead
  dsimp only
  repeat' split
  all_goals simp +decide [State.keeps_iff, changes.eq_def, -List.mem_cons]

theorem execProfileApply_keeps (mb : Mb) (s : State) : Leads (execProfileApply mb s) (s.keeps · (changes (.profileApply mb))) := by
  refine State.serve_keeps (by simp +decide [changes.eq_def, -List.mem_cons]) fun p t => ?_
  unfold runProfileApply
  dsimp only
  repeat' split
  case h_2.isFalse => exact CommitResult.reply_keeps (by simp +decide [State.keeps_iff, changes.eq_def, -List.mem_cons])
  all_goals exact t.keeps_refl _

theorem execVote_keeps (mb : Mb) (s : State) : Leads (execVote mb s) (s.keeps · (changes (.vote mb))) := by
  unfold execVote
  refine State.serve_keeps (by simp +decide [changes.eq_def, -List.mem_cons]) fun p t => ?_
  unfold runVote
  dsimp only
  repeat' split
  all_goals simp +decide [State.keeps_iff, changes.eq_def, -List.mem_cons]

theorem execPwrState_keeps (mb : Mb) (s : State) : Leads (execPwrState mb s) (s.keeps · (changes (.pwrState mb))) := by
  unfold execPwrState
  refine State.serve_keeps (by simp +decide [changes.eq_def, -List.mem_cons]) fun p t => ?_
  unfold runPwrState
  repeat' split
  all_goals simp +decide [State.keeps_iff, changes.eq_def, -List.mem_cons]

theorem execLogRead_keeps (mb : Mb) (s : State) : Leads (execLogRead mb s) (s.keeps · (changes (.logRead mb))) := by
  unfold execLogRead
  refine State.serve_keeps (by simp +decide [changes.eq_def, -List.mem_cons]) fun p t => ?_
  unfold runLogRead
  dsimp only
  repeat' split
  all_goals simp +decide [State.keeps_iff, changes.eq_def, -List.mem_cons]

theorem execStatsRead_keeps (mb : Mb) (s : State) : Leads (execStatsRead mb s) (s.keeps · (changes (.statsRead mb))) := by
  unfold execStatsRead
  refine State.serve_keeps (by simp +decide [changes.eq_def, -List.mem_cons]) fun p t => ?_
  unfold runStatsRead
  dsimp only
  repeat' split
  all_goals simp +decide [State.keeps_iff, changes.eq_def, -List.mem_cons]

theorem execNvRead_keeps (mb : Mb) (pageFails : Bool) (s : State) : Leads (execNvRead mb pageFails s) (s.keeps · (changes (.nvRead mb pageFails))) := by
  unfold execNvRead
  refine State.serve_keeps (by simp +decide [changes.eq_def, -List.mem_cons]) fun p t => ?_
  unfold State.needing runNvRead
  dsimp only
  repeat' split
  all_goals simp +decide [State.keeps_iff, changes.eq_def, -List.mem_cons]

theorem execNvWriteRecord_keeps (mb : Mb) (s : State) : Leads (execNvWriteRecord mb s) (s.keeps · (changes (.nvWriteRecord mb))) := by
  have hserve : Leads (s.serve mb cmdNvWrite fun p t => t.needing dNvm (runNvWrite mb p t)) (s.keeps · (changes (.nvWriteRecord mb))) := by
    refine State.serve_keeps (by simp +decide [changes.eq_def, -List.mem_cons]) fun p t => ?_
    unfold State.needing runNvWrite
    dsimp only
    repeat' split
    all_goals simp +decide [State.keeps_iff, changes.eq_def, -List.mem_cons]
  unfold execNvWriteRecord
  split
  case h_1 t ht => exact (leads_done _ _).2 ((hserve t ht).trans (by simp +decide [State.keeps_iff, changes.eq_def, -List.mem_cons]))
  case h_2 => exact hserve

theorem execNvRawProgram_keeps (mb : Mb) (s : State) : Leads (execNvRawProgram mb s) (s.keeps · (changes (.nvRawProgram mb))) := by
  unfold execNvRawProgram
  refine State.serve_keeps (by simp +decide [changes.eq_def, -List.mem_cons]) fun p t => ?_
  unfold State.needing runNvRaw
  dsimp only
  repeat' split
  all_goals simp +decide [State.keeps_iff, changes.eq_def, -List.mem_cons]

theorem execNvErase_keeps (mb : Mb) (s : State) : Leads (execNvErase mb s) (s.keeps · (changes (.nvErase mb))) := by
  unfold execNvErase
  refine State.serve_keeps (by simp +decide [changes.eq_def, -List.mem_cons]) fun p t => ?_
  unfold State.needing runNvErase
  dsimp only
  repeat' split
  all_goals simp +decide [State.keeps_iff, changes.eq_def, -List.mem_cons]

theorem execCmpRun_keeps (mb : Mb) (s : State) : Leads (execCmpRun mb s) (s.keeps · (changes (.cmpRun mb))) := by
  unfold execCmpRun
  refine State.serve_keeps (by simp +decide [changes.eq_def, -List.mem_cons]) fun p t => ?_
  unfold runCmpRun
  dsimp only
  split
  · exact t.keeps_refl _
  split
  · exact t.keeps_refl _
  split
  · exact t.keeps_refl _
  · simp +decide [State.keeps_iff, changes.eq_def, -List.mem_cons]

theorem execSecSession_keeps (mb : Mb) (s : State) : Leads (execSecSession mb s) (s.keeps · (changes (.secSession mb))) := by
  have hserve : Leads (s.serve mb cmdSecSession runSecSession) (s.keeps · (changes (.secSession mb))) := by
    refine State.serve_keeps (by simp +decide [changes.eq_def, -List.mem_cons]) fun p t => ?_
    unfold runSecSession
    split
    all_goals simp [State.keeps_refl]
  unfold execSecSession
  split
  case h_1 t ht =>
    split
    · exact (leads_done _ _).2 ((hserve t ht).trans (by simp +decide [State.keeps_iff, changes.eq_def, -List.mem_cons]))
    · exact (leads_next _ _).2 (hserve t ht)
  case h_2 => exact hserve

theorem execSecApprove_keeps (mb : Mb) (s : State) : Leads (execSecApprove mb s) (s.keeps · (changes (.secApprove mb))) := by
  unfold execSecApprove
  refine State.serve_keeps (by simp +decide [changes.eq_def, -List.mem_cons]) fun p t => ?_
  unfold runSecApprove
  dsimp only
  repeat' split
  all_goals simp +decide [State.keeps_iff, changes.eq_def, -List.mem_cons]

theorem execSecStatus_keeps (mb : Mb) (s : State) : Leads (execSecStatus mb s) (s.keeps · (changes (.secStatus mb))) := by
  unfold execSecStatus
  refine State.serve_keeps (by simp +decide [changes.eq_def, -List.mem_cons]) fun p t => ?_
  simp +decide [runSecStatus, State.keeps_iff, changes.eq_def, -List.mem_cons]

theorem execSecFwUpdate_keeps (mb : Mb) (s : State) : Leads (execSecFwUpdate mb s) (s.keeps · (changes (.secFwUpdate mb))) := by
  unfold execSecFwUpdate
  refine State.serve_keeps (by simp +decide [changes.eq_def, -List.mem_cons]) fun p t => ?_
  unfold runFwUpdate
  dsimp only
  repeat' split
  all_goals simp +decide [State.keeps_iff, changes.eq_def, -List.mem_cons]

theorem execTatEnumerate_keeps (mb : Mb) (s : State) : Leads (execTatEnumerate mb s) (s.keeps · (changes (.tatEnumerate mb))) := by
  unfold execTatEnumerate
  refine State.serve_keeps (by simp +decide [changes.eq_def, -List.mem_cons]) fun p t => ?_
  unfold State.needing runTatEnumerate
  repeat' split
  all_goals simp +decide [State.keeps_iff, changes.eq_def, -List.mem_cons]

theorem execTatStage_keeps (mb : Mb) (s : State) : Leads (execTatStage mb s) (s.keeps · (changes (.tatStage mb))) := by
  unfold execTatStage
  refine State.serve_keeps (by simp +decide [changes.eq_def, -List.mem_cons]) fun p t => ?_
  unfold State.needing runTatStage
  dsimp only
  repeat' split
  all_goals simp +decide [State.keeps_iff, changes.eq_def, -List.mem_cons]

theorem execTatArm_keeps (mb : Mb) (s : State) : Leads (execTatArm mb s) (s.keeps · (changes (.tatArm mb))) := by
  unfold execTatArm
  refine State.serve_keeps (by simp +decide [changes.eq_def, -List.mem_cons]) fun p t => ?_
  unfold State.needing runTatArm
  dsimp only
  repeat' split
  all_goals simp +decide [State.keeps_iff, changes.eq_def, -List.mem_cons]

theorem execTatAbort_keeps (mb : Mb) (s : State) : Leads (execTatAbort mb s) (s.keeps · (changes (.tatAbort mb))) := by
  unfold execTatAbort
  refine State.serve_keeps (by simp +decide [changes.eq_def, -List.mem_cons]) fun p t => ?_
  unfold State.needing runTatAbort
  dsimp only
  repeat' split
  all_goals simp +decide [State.keeps_iff, changes.eq_def, -List.mem_cons]

theorem execTatStatus_keeps (mb : Mb) (s : State) : Leads (execTatStatus mb s) (s.keeps · (changes (.tatStatus mb))) := by
  unfold execTatStatus
  refine State.serve_keeps (by simp +decide [changes.eq_def, -List.mem_cons]) fun p t => ?_
  unfold runTatStatus
  dsimp only
  repeat' split
  all_goals simp +decide [State.keeps_iff, changes.eq_def, -List.mem_cons]

theorem execPanelOn_keeps (mb : Mb) (s : State) : Leads (execPanelOn mb s) (s.keeps · (changes (.panelOn mb))) := by
  refine State.serve_keeps (by simp +decide [changes.eq_def, -List.mem_cons]) fun p t => ?_
  unfold State.panelOnReply
  repeat' split
  all_goals simp +decide [State.keeps_iff, changes.eq_def, -List.mem_cons]

theorem execPanelOff_keeps (mb : Mb) (s : State) : Leads (execPanelOff mb s) (s.keeps · (changes (.panelOff mb))) := by
  unfold execPanelOff
  refine State.serve_keeps (by simp +decide [changes.eq_def, -List.mem_cons]) fun p t => ?_
  unfold runPanelOff
  repeat' split
  all_goals simp +decide [State.keeps_iff, changes.eq_def, -List.mem_cons]

theorem execPanelSafeStop_keeps (mb : Mb) (s : State) : Leads (execPanelSafeStop mb s) (s.keeps · (changes (.panelSafeStop mb))) := by
  refine State.serve_keeps (by simp +decide [changes.eq_def, -List.mem_cons]) fun p t => ?_
  unfold State.safeStopReply
  split
  all_goals simp +decide [State.keeps_iff, changes.eq_def, -List.mem_cons]

theorem execEyeSet_keeps (mb : Mb) (s : State) : Leads (execEyeSet mb s) (s.keeps · (changes (.eyeSet mb))) := by
  unfold execEyeSet
  refine State.serve_keeps (by simp +decide [changes.eq_def, -List.mem_cons]) fun p t => ?_
  unfold runEyeSet
  dsimp only
  repeat' split
  all_goals simp +decide [State.keeps_iff, changes.eq_def, -List.mem_cons]

theorem execEyeRead_keeps (mb : Mb) (s : State) : Leads (execEyeRead mb s) (s.keeps · (changes (.eyeRead mb))) := by
  unfold execEyeRead
  refine State.serve_keeps (by simp +decide [changes.eq_def, -List.mem_cons]) fun p t => ?_
  unfold runEyeRead
  repeat' split
  all_goals simp +decide [State.keeps_iff, changes.eq_def, -List.mem_cons]

end Sys2Proof.Machine
end

section
/-! SUPPORT. The footprint of the commands of the Vorul link, the Tatting net and pairs: each command keeps every part that `changes` does not list for it. -/

namespace Sys2Proof.Machine

theorem execCtlPacket_keeps (side : Side) (burst : LinkBurst) (s : State) : Leads (execCtlPacket side burst s) (s.keeps · (changes (.ctlPacket side burst))) := by
  simp +decide [execCtlPacket, State.keeps_iff, changes.eq_def, -List.mem_cons]

theorem execHello_keeps (side : Side) (burst : LinkBurst) (s : State) : Leads (execHello side burst s) (s.keeps · (changes (.hello side burst))) := by
  simp +decide [execHello, State.keeps_iff, changes.eq_def, -List.mem_cons]

theorem execFinish_keeps (side : Side) (burst : LinkBurst) (s : State) : Leads (execFinish side burst s) (s.keeps · (changes (.finish side burst))) := by
  simp +decide [execFinish, State.keeps_iff, changes.eq_def, -List.mem_cons]

theorem execHlActivityQualified_keeps (side : Side) (s : State) : Leads (execHlActivityQualified side s) (s.keeps · (changes (.hlActivityQualified side))) := by
  unfold execHlActivityQualified
  dsimp only
  repeat' split
  all_goals simp +decide [State.keeps_iff, changes.eq_def, -List.mem_cons]

theorem execHlWakePattern_keeps (side : Side) (s : State) : Leads (execHlWakePattern side s) (s.keeps · (changes (.hlWakePattern side))) := by
  unfold execHlWakePattern
  dsimp only
  repeat' split
  all_goals simp +decide [State.keeps_iff, changes.eq_def, -List.mem_cons]

theorem execHlWakeGlitch_keeps (side : Side) (s : State) : Leads (execHlWakeGlitch side s) (s.keeps · (changes (.hlWakeGlitch side))) := by
  unfold execHlWakeGlitch
  repeat' split
  all_goals simp +decide [State.keeps_iff, changes.eq_def, -List.mem_cons]

theorem execHlReceivePllLock_keeps (side : Side) (rate : BitVec 14) (s : State) : Leads (execHlReceivePllLock side rate s) (s.keeps · (changes (.hlReceivePllLock side rate))) := by
  unfold execHlReceivePllLock
  repeat' split
  all_goals simp +decide [State.keeps_iff, changes.eq_def, -List.mem_cons]

theorem execHlBlockLock_keeps (side : Side) (phases : List (BitVec 6)) (s : State) : Leads (execHlBlockLock side phases s) (s.keeps · (changes (.hlBlockLock side phases))) := by
  unfold execHlBlockLock
  repeat' split
  all_goals simp +decide [State.keeps_iff, changes.eq_def, -List.mem_cons]

theorem execHlEqualizeDone_keeps (side : Side) (eyes : List LaneEye) (s : State) : Leads (execHlEqualizeDone side eyes s) (s.keeps · (changes (.hlEqualizeDone side eyes))) := by
  unfold execHlEqualizeDone
  dsimp only
  repeat' split
  all_goals simp +decide [State.keeps_iff, changes.eq_def, -List.mem_cons]

theorem execHlDeskewDone_keeps (side : Side) (skew : BitVec 16) (lanes : DeskewLanes) (s : State) : Leads (execHlDeskewDone side skew lanes s) (s.keeps · (changes (.hlDeskewDone side skew lanes))) := by
  unfold execHlDeskewDone
  dsimp only
  repeat' split
  all_goals simp +decide [State.keeps_iff, changes.eq_def, -List.mem_cons]

theorem execHlTrainTimeout_keeps (side : Side) (lane : BitVec 8) (s : State) : Leads (execHlTrainTimeout side lane s) (s.keeps · (changes (.hlTrainTimeout side lane))) := by
  unfold execHlTrainTimeout
  repeat' split
  all_goals simp +decide [State.keeps_iff, changes.eq_def, -List.mem_cons]

theorem execHlTrainBackoffExpiry_keeps (s : State) : Leads (execHlTrainBackoffExpiry s) (s.keeps · (changes .hlTrainBackoffExpiry)) := by
  unfold execHlTrainBackoffExpiry
  repeat' split
  all_goals simp +decide [State.keeps_iff, changes.eq_def, -List.mem_cons]

theorem execHlClockLost_keeps (side : Side) (activity : Bool) (s : State) : Leads (execHlClockLost side activity s) (s.keeps · (changes (.hlClockLost side activity))) := by
  unfold execHlClockLost
  dsimp only
  repeat' split
  all_goals simp +decide [State.keeps_iff, changes.eq_def, -List.mem_cons]

theorem execHlBlockError_keeps (side : Side) (lane : Fin 8) (incoming : Nat × LinkBlock) (s : State) : Leads (execHlBlockError side lane incoming s) (s.keeps · (changes (.hlBlockError side lane incoming))) := by
  unfold execHlBlockError
  repeat' split
  all_goals simp +decide [State.keeps_iff, changes.eq_def, -List.mem_cons]

theorem execHlTs1Retrain_keeps (incoming : Side × List LinkBlock) (s : State) : Leads (execHlTs1Retrain incoming s) (s.keeps · (changes (.hlTs1Retrain incoming))) := by
  unfold execHlTs1Retrain
  dsimp only
  repeat' split
  all_goals simp +decide [State.keeps_iff, changes.eq_def, -List.mem_cons]

theorem execHlSof_keeps (incoming : Side × List LinkBlock) (s : State) : Leads (execHlSof incoming s) (s.keeps · (changes (.hlSof incoming))) := by
  unfold execHlSof
  dsimp only
  repeat' split
  all_goals simp +decide [State.keeps_iff, changes.eq_def, -List.mem_cons]

theorem execHlEios_keeps (s : State) : Leads (execHlEios s) (s.keeps · (changes .hlEios)) := by
  unfold execHlEios
  repeat' split
  all_goals simp +decide [State.keeps_iff, changes.eq_def, -List.mem_cons]

theorem execHlFs_keeps (side : Side) (at_ : Nat) (sets : List (List LinkBlock)) (s : State) : Leads (execHlFs side at_ sets s) (s.keeps · (changes (.hlFs side at_ sets))) := by
  simp +decide [execHlFs, State.keeps_iff, changes.eq_def, -List.mem_cons]

theorem execHlRow_keeps (side : Side) (at_ : Nat) (first : List LinkBlock) (rest : List (List LinkBlock)) (s : State) : Leads (execHlRow side at_ first rest s) (s.keeps · (changes (.hlRow side at_ first rest))) := by
  simp +decide [execHlRow, State.keeps_iff, changes.eq_def, -List.mem_cons]

theorem execHlFe_keeps (side : Side) (at_ : Nat) (sets : List (List LinkBlock)) (s : State) : Leads (execHlFe side at_ sets s) (s.keeps · (changes (.hlFe side at_ sets))) := by
  simp +decide [execHlFe, State.keeps_iff, changes.eq_def, -List.mem_cons]

theorem execHlSurf_keeps (side : Side) (at_ : Nat) (sets : List (List LinkBlock)) (s : State) : Leads (execHlSurf side at_ sets s) (s.keeps · (changes (.hlSurf side at_ sets))) := by
  simp +decide [execHlSurf, State.keeps_iff, changes.eq_def, -List.mem_cons]

theorem execHlSleep_keeps (side : Side) (burst : LinkBurst) (s : State) : Leads (execHlSleep side burst s) (s.keeps · (changes (.hlSleep side burst))) := by
  simp +decide [execHlSleep, State.keeps_iff, changes.eq_def, -List.mem_cons]

theorem execHlKeep_keeps (side : Side) (burst : LinkBurst) (s : State) : Leads (execHlKeep side burst s) (s.keeps · (changes (.hlKeep side burst))) := by
  simp +decide [execHlKeep, State.keeps_iff, changes.eq_def, -List.mem_cons]

theorem execPacketHeaderCrcFail_keeps (incoming : Side × LinkBurst) (s : State) : Leads (execPacketHeaderCrcFail incoming s) (s.keeps · (changes (.packetHeaderCrcFail incoming))) := by
  simp +decide [execPacketHeaderCrcFail, State.keeps_iff, changes.eq_def, -List.mem_cons]

theorem execHlUnknownPkt_keeps (incoming : Side × LinkBurst) (s : State) : Leads (execHlUnknownPkt incoming s) (s.keeps · (changes (.hlUnknownPkt incoming))) := by
  simp +decide [execHlUnknownPkt, State.keeps_iff, changes.eq_def, -List.mem_cons]

theorem execBackChannelSend_keeps (s : State) : Leads (execBackChannelSend s) (s.keeps · (changes .backChannelSend)) := by
  unfold execBackChannelSend
  repeat' split
  all_goals simp +decide [State.keeps_iff, changes.eq_def, -List.mem_cons]

theorem execStatusTimer_keeps (s : State) : Leads (execStatusTimer s) (s.keeps · (changes .statusTimer)) := by
  unfold execStatusTimer
  dsimp only
  repeat' split
  all_goals simp +decide [State.keeps_iff, changes.eq_def, -List.mem_cons]

theorem execTatPortUp_keeps (port : TatPort) (s : State) : Leads (execTatPortUp port s) (s.keeps · (changes (.tatPortUp port))) := by
  unfold execTatPortUp
  dsimp only
  repeat' split
  all_goals simp +decide [State.keeps_iff, changes.eq_def, -List.mem_cons]

theorem execTatCodeError_keeps (port : TatPort) (at_ : Nat) (s : State) : Leads (execTatCodeError port at_ s) (s.keeps · (changes (.tatCodeError port at_))) := by
  unfold execTatCodeError
  dsimp only
  repeat' split
  all_goals simp +decide [State.keeps_iff, changes.eq_def, -List.mem_cons]

theorem execTatPortSilence_keeps (port : TatPort) (s : State) : Leads (execTatPortSilence port s) (s.keeps · (changes (.tatPortSilence port))) := by
  simp +decide [execTatPortSilence, State.keeps_iff, changes.eq_def, -List.mem_cons]

theorem execTatMsgCrcFail_keeps (incoming : TatPort × List (BitVec 10)) (s : State) :
    Leads (execTatMsgCrcFail incoming s) (s.keeps · (changes (.tatMsgCrcFail incoming))) :=
  State.tatTake_keeps (by simp +decide [changes.eq_def, -List.mem_cons]) fun _ => by simp [State.keeps_refl]

theorem execDelayReqTimer_keeps (sent : Nat) (s : State) : Leads (execDelayReqTimer sent s) (s.keeps · (changes (.delayReqTimer sent))) := by
  unfold execDelayReqTimer
  repeat' split
  all_goals simp +decide [State.keeps_iff, changes.eq_def, -List.mem_cons]

theorem execDelayReq_keeps (port : TatPort) (arrived sent : Nat) (codes : List (BitVec 10)) (s : State) :
    Leads (execDelayReq port arrived sent codes s) (s.keeps · (changes (.delayReq port arrived sent codes))) := by
  refine State.tatTake_keeps (by simp +decide [changes.eq_def, -List.mem_cons]) fun p => ?_
  unfold runDelayReq
  repeat' split
  all_goals simp +decide [State.keeps_iff, changes.eq_def, -List.mem_cons]

theorem execDelayResp_keeps (arrived : Nat) (codes : List (BitVec 10)) (s : State) :
    Leads (execDelayResp arrived codes s) (s.keeps · (changes (.delayResp arrived codes))) := by
  refine State.tatTake_keeps (by simp +decide [changes.eq_def, -List.mem_cons]) fun p => ?_
  unfold runDelayResp
  dsimp only
  repeat' split
  all_goals simp +decide [State.keeps_iff, changes.eq_def, -List.mem_cons]

theorem execDelayRespTimeout_keeps (s : State) : Leads (execDelayRespTimeout s) (s.keeps · (changes .delayRespTimeout)) := by
  simp +decide [execDelayRespTimeout, State.keeps_iff, changes.eq_def, -List.mem_cons]

theorem execBeaconSend_keeps (s : State) : Leads (execBeaconSend s) (s.keeps · (changes .beaconSend)) := by
  unfold execBeaconSend
  repeat' split
  all_goals simp +decide [State.keeps_iff, changes.eq_def, -List.mem_cons]

theorem execBeacon_keeps (port : TatPort) (arrived sent0 sent1 : Nat) (codes : List (BitVec 10)) (s : State) :
    Leads (execBeacon port arrived sent0 sent1 codes s) (s.keeps · (changes (.beacon port arrived sent0 sent1 codes))) := by
  refine State.tatTake_keeps (by simp +decide [changes.eq_def, -List.mem_cons]) fun p => ?_
  unfold runBeacon
  repeat' split
  all_goals simp +decide [State.keeps_iff, changes.eq_def, -List.mem_cons]

theorem execBeaconMissing_keeps (s : State) : Leads (execBeaconMissing s) (s.keeps · (changes .beaconMissing)) := by
  unfold execBeaconMissing
  dsimp only
  repeat' split
  all_goals simp +decide [State.keeps_iff, changes.eq_def, -List.mem_cons]

theorem execEnumerate_keeps (port : TatPort) (codes : List (BitVec 10)) (s : State) :
    Leads (execEnumerate port codes s) (s.keeps · (changes (.enumerate port codes))) := by
  refine State.tatTake_keeps (by simp +decide [changes.eq_def, -List.mem_cons]) fun p => ?_
  unfold runEnumerate
  repeat' split
  all_goals simp +decide [State.keeps_iff, changes.eq_def, -List.mem_cons]

theorem execEnumDone_keeps (port : TatPort) (codes : List (BitVec 10)) (s : State) :
    Leads (execEnumDone port codes s) (s.keeps · (changes (.enumDone port codes))) := by
  refine State.tatTake_keeps (by simp +decide [changes.eq_def, -List.mem_cons]) fun p => ?_
  unfold runEnumDone
  dsimp only
  repeat' split
  all_goals simp +decide [State.keeps_iff, changes.eq_def, -List.mem_cons]

theorem execEnumTimeout_keeps (port : TatPort) (s : State) : Leads (execEnumTimeout port s) (s.keeps · (changes (.enumTimeout port))) := by
  unfold execEnumTimeout
  repeat' split
  all_goals simp +decide [State.keeps_iff, changes.eq_def, -List.mem_cons]

theorem execStageFragment_keeps (port : TatPort) (codes : List (BitVec 10)) (s : State) :
    Leads (execStageFragment port codes s) (s.keeps · (changes (.stageFragment port codes))) := by
  refine State.tatTake_keeps (by simp +decide [changes.eq_def, -List.mem_cons]) fun p => ?_
  unfold runStageFragment
  dsimp only
  repeat' split
  all_goals simp +decide [State.keeps_iff, changes.eq_def, -List.mem_cons]

theorem execCountUp_keeps (port : TatPort) (codes : List (BitVec 10)) (s : State) :
    Leads (execCountUp port codes s) (s.keeps · (changes (.countUp port codes))) := by
  refine State.tatTake_keeps (by simp +decide [changes.eq_def, -List.mem_cons]) fun p => ?_
  unfold runCountUp
  dsimp only
  repeat' split
  all_goals simp +decide [State.keeps_iff, changes.eq_def, -List.mem_cons]

theorem execTatStageTimeout_keeps (s : State) : Leads (execTatStageTimeout s) (s.keeps · (changes .tatStageTimeout)) := by
  unfold execTatStageTimeout
  repeat' split
  all_goals simp +decide [State.keeps_iff, changes.eq_def, -List.mem_cons]

theorem execSetReq_keeps (port : TatPort) (codes : List (BitVec 10)) (s : State) :
    Leads (execSetReq port codes s) (s.keeps · (changes (.setReq port codes))) := by
  refine State.tatTake_keeps (by simp +decide [changes.eq_def, -List.mem_cons]) fun p => ?_
  unfold runSetReq
  dsimp only
  repeat' split
  all_goals simp +decide [State.keeps_iff, changes.eq_def, -List.mem_cons]

theorem execAbortEpoch_keeps (port : TatPort) (codes : List (BitVec 10)) (s : State) :
    Leads (execAbortEpoch port codes s) (s.keeps · (changes (.abortEpoch port codes))) := by
  refine State.tatTake_keeps (by simp +decide [changes.eq_def, -List.mem_cons]) fun p => ?_
  unfold runAbortEpoch
  repeat' split
  all_goals simp +decide [State.keeps_iff, changes.eq_def, -List.mem_cons]

theorem execPeer_keeps (port : TatPort) (codes : List (BitVec 10)) (s : State) :
    Leads (execPeer port codes s) (s.keeps · (changes (.peer port codes))) := by
  refine State.tatTake_keeps (by simp +decide [changes.eq_def, -List.mem_cons]) fun p => ?_
  unfold runPeer
  dsimp only
  repeat' split
  all_goals simp +decide [State.keeps_iff, changes.eq_def, -List.mem_cons]

theorem execPairFrame_keeps (arrived : Nat) (codes : List (BitVec 10)) (s : State) :
    Leads (execPairFrame arrived codes s) (s.keeps · (changes (.pairFrame arrived codes))) := by
  refine State.tatTake_keeps (by simp +decide [changes.eq_def, -List.mem_cons]) fun p => ?_
  unfold runPairFrame
  dsimp only
  repeat' split
  all_goals simp +decide [State.keeps_iff, changes.eq_def, -List.mem_cons]

theorem execPairStrobe_keeps (arrived : Nat) (s : State) : Leads (execPairStrobe arrived s) (s.keeps · (changes (.pairStrobe arrived))) := by
  unfold execPairStrobe
  repeat' split
  all_goals simp +decide [State.keeps_iff, changes.eq_def, -List.mem_cons]

theorem execPairEvent_keeps (port : TatPort) (codes : List (BitVec 10)) (s : State) :
    Leads (execPairEvent port codes s) (s.keeps · (changes (.pairEvent port codes))) := by
  refine State.tatTake_keeps (by simp +decide [changes.eq_def, -List.mem_cons]) fun p => ?_
  unfold runPairEvent
  dsimp only
  repeat' split
  all_goals simp +decide [State.keeps_iff, changes.eq_def, -List.mem_cons]

theorem execPairEventRepeat_keeps (s : State) : Leads (execPairEventRepeat s) (s.keeps · (changes .pairEventRepeat)) := by
  unfold execPairEventRepeat
  repeat' split
  all_goals simp +decide [State.keeps_iff, changes.eq_def, -List.mem_cons]

end Sys2Proof.Machine
end

section
/-! SUPPORT. The footprint of the commands of the raster, the memory subsystem, sensing and the panel: each command keeps every part that `changes` does not list for it. -/

namespace Sys2Proof.Machine

theorem execRasterStart_keeps (tick : FrameTick) (s : State) : Leads (execRasterStart tick s) (s.keeps · (changes (.rasterStart tick))) := by
  unfold execRasterStart
  dsimp only
  repeat' split
  all_goals simp +decide [State.keeps_iff, changes.eq_def, -List.mem_cons]

theorem execFrameStart_keeps (at_ : Nat) (fifoA fifoB : BitVec 6) (s : State) : Leads (execFrameStart at_ fifoA fifoB s) (s.keeps · (changes (.frameStart at_ fifoA fifoB))) := by
  unfold execFrameStart
  dsimp only
  repeat' split
  all_goals simp +decide [State.keeps_iff, changes.eq_def, -List.mem_cons]

theorem execRowSlotStart_keeps (at_ : Nat) (bursts : List Burst) (blockFail nextFail : Bool) (s : State) : Leads (execRowSlotStart at_ bursts blockFail nextFail s) (s.keeps · (changes (.rowSlotStart at_ bursts blockFail nextFail))) := by
  unfold execRowSlotStart
  dsimp only
  repeat' split
  all_goals simp +decide [State.keeps_iff, changes.eq_def, -List.mem_cons]

theorem execVerticalBlankStart_keeps (at_ : Nat) (s : State) : Leads (execVerticalBlankStart at_ s) (s.keeps · (changes (.verticalBlankStart at_))) := by
  unfold execVerticalBlankStart
  dsimp only
  repeat' split
  all_goals simp +decide [State.keeps_iff, changes.eq_def, -List.mem_cons]

theorem execRepeatDeadline_keeps (tick : FrameTick) (s : State) : Leads (execRepeatDeadline tick s) (s.keeps · (changes (.repeatDeadline tick))) := by
  unfold execRepeatDeadline
  dsimp only
  repeat' split
  all_goals simp +decide [State.keeps_iff, changes.eq_def, -List.mem_cons]

theorem execPredictiveRepeat_keeps (tick : FrameTick) (s : State) : Leads (execPredictiveRepeat tick s) (s.keeps · (changes (.predictiveRepeat tick))) := by
  unfold execPredictiveRepeat
  dsimp only
  repeat' split
  all_goals simp +decide [State.keeps_iff, changes.eq_def, -List.mem_cons]

theorem execTimingGeneratorPeriod_keeps (tick : FrameTick) (s : State) : Leads (execTimingGeneratorPeriod tick s) (s.keeps · (changes (.timingGeneratorPeriod tick))) := by
  unfold execTimingGeneratorPeriod
  dsimp only
  repeat' split
  all_goals simp +decide [State.keeps_iff, changes.eq_def, -List.mem_cons]

theorem execLadderDwellExpiry_keeps (at_ : Nat) (s : State) : Leads (execLadderDwellExpiry at_ s) (s.keeps · (changes (.ladderDwellExpiry at_))) := by
  unfold execLadderDwellExpiry
  dsimp only
  repeat' split
  all_goals simp +decide [State.keeps_iff, changes.eq_def, -List.mem_cons]

theorem execContinuityDelayExpiry_keeps (at_ : Nat) (s : State) : Leads (execContinuityDelayExpiry at_ s) (s.keeps · (changes (.continuityDelayExpiry at_))) := by
  unfold execContinuityDelayExpiry
  dsimp only
  repeat' split
  all_goals simp +decide [State.keeps_iff, changes.eq_def, -List.mem_cons]

theorem execClipStepDue_keeps (at_ : Nat) (s : State) : Leads (execClipStepDue at_ s) (s.keeps · (changes (.clipStepDue at_))) := by
  unfold execClipStepDue
  dsimp only
  repeat' split
  all_goals simp +decide [State.keeps_iff, changes.eq_def, -List.mem_cons]

theorem execMemSleepEntry_keeps (at_ : Nat) (bursts : List Burst) (s : State) : Leads (execMemSleepEntry at_ bursts s) (s.keeps · (changes (.memSleepEntry at_ bursts))) := by
  unfold execMemSleepEntry
  dsimp only
  repeat' split
  all_goals simp +decide [State.keeps_iff, changes.eq_def, -List.mem_cons]

theorem execMemSleepExit_keeps (at_ : Nat) (bursts : List Burst) (s : State) : Leads (execMemSleepExit at_ bursts s) (s.keeps · (changes (.memSleepExit at_ bursts))) := by
  unfold execMemSleepExit
  dsimp only
  repeat' split
  all_goals simp +decide [State.keeps_iff, changes.eq_def, -List.mem_cons]

theorem execResidenceCompressDone_keeps (s : State) : Leads (execResidenceCompressDone s) (s.keeps · (changes .residenceCompressDone)) := by
  unfold execResidenceCompressDone
  dsimp only
  repeat' split
  all_goals simp +decide [State.keeps_iff, changes.eq_def, -List.mem_cons]

theorem execOdTableCopyDone_keeps (s : State) : Leads (execOdTableCopyDone s) (s.keeps · (changes .odTableCopyDone)) := by
  simp +decide [execOdTableCopyDone, State.keeps_iff, changes.eq_def, -List.mem_cons]

theorem execSensedRow_keeps (slot : Fin 4) (s : State) : Leads (execSensedRow slot s) (s.keeps · (changes (.sensedRow slot))) := by
  unfold execSensedRow
  dsimp only
  repeat' split
  all_goals simp +decide [State.keeps_iff, changes.eq_def, -List.mem_cons]

theorem execSenseReturnReply_keeps (lane : Fin 6) (codes : List (BitVec 10)) (s : State) : Leads (execSenseReturnReply lane codes s) (s.keeps · (changes (.senseReturnReply lane codes))) := by
  simp +decide [execSenseReturnReply, State.keeps_iff, changes.eq_def, -List.mem_cons]

theorem execReplyTimeout_keeps (lane : Fin 6) (s : State) : Leads (execReplyTimeout lane s) (s.keeps · (changes (.replyTimeout lane))) := by
  simp +decide [execReplyTimeout, State.keeps_iff, changes.eq_def, -List.mem_cons]

theorem execTempPoll_keeps (s : State) : Leads (execTempPoll s) (s.keeps · (changes .tempPoll)) := by
  unfold execTempPoll
  repeat' split
  all_goals simp +decide [State.keeps_iff, changes.eq_def, -List.mem_cons]

theorem execUpdatePass_keeps (s : State) : Leads (execUpdatePass s) (s.keeps · (changes .updatePass)) := by
  unfold execUpdatePass
  repeat' split
  all_goals simp +decide [State.keeps_iff, changes.eq_def, -List.mem_cons]

theorem execSnapshotStart_keeps (s : State) : Leads (execSnapshotStart s) (s.keeps · (changes .snapshotStart)) := by
  unfold execSnapshotStart
  dsimp only
  repeat' split
  all_goals simp +decide [State.keeps_iff, changes.eq_def, -List.mem_cons]

theorem execSnapshotComplete_keeps (failed : Bool) (s : State) : Leads (execSnapshotComplete failed s) (s.keeps · (changes (.snapshotComplete failed))) := by
  unfold execSnapshotComplete
  dsimp only
  repeat' split
  all_goals simp +decide [State.keeps_iff, changes.eq_def, -List.mem_cons]

theorem execSnapshotOverrun_keeps (s : State) : Leads (execSnapshotOverrun s) (s.keeps · (changes .snapshotOverrun)) := by
  unfold execSnapshotOverrun
  repeat' split
  all_goals simp +decide [State.keeps_iff, changes.eq_def, -List.mem_cons]

theorem execMapStoreDone_keeps (table : BitVec 16) (failed : Bool) (s : State) : Leads (execMapStoreDone table failed s) (s.keeps · (changes (.mapStoreDone table failed))) := by
  unfold execMapStoreDone
  dsimp only
  repeat' split
  all_goals simp +decide [State.keeps_iff, changes.eq_def, -List.mem_cons]

theorem execRestSweepRow_keeps (results : List (BitVec 16)) (s : State) : Leads (execRestSweepRow results s) (s.keeps · (changes (.restSweepRow results))) := by
  unfold execRestSweepRow
  dsimp only
  repeat' split
  all_goals simp +decide [State.keeps_iff, changes.eq_def, -List.mem_cons]

theorem execRestLimitExpiry_keeps (s : State) : Leads (execRestLimitExpiry s) (s.keeps · (changes .restLimitExpiry)) := by
  unfold execRestLimitExpiry
  repeat' split
  all_goals simp +decide [State.keeps_iff, changes.eq_def, -List.mem_cons]

theorem execPanelPowerOnStep_keeps (s : State) : Leads (execPanelPowerOnStep s) (s.keeps · (changes .panelPowerOnStep)) := by
  unfold execPanelPowerOnStep
  repeat' split
  all_goals simp +decide [State.keeps_iff, changes.eq_def, -List.mem_cons]

theorem execBobbinTrainingPhaseEnd_keeps (s : State) : Leads (execBobbinTrainingPhaseEnd s) (s.keeps · (changes .bobbinTrainingPhaseEnd)) := by
  unfold execBobbinTrainingPhaseEnd
  repeat' split
  all_goals simp +decide [State.keeps_iff, changes.eq_def, -List.mem_cons]

theorem execBobLockNFall_keeps (s : State) : Leads (execBobLockNFall s) (s.keeps · (changes .bobLockNFall)) := by
  unfold execBobLockNFall
  repeat' split
  all_goals simp +decide [State.keeps_iff, changes.eq_def, -List.mem_cons]

theorem execBobLockNRise_keeps (s : State) : Leads (execBobLockNRise s) (s.keeps · (changes .bobLockNRise)) := by
  simp +decide [execBobLockNRise, State.keeps_iff, changes.eq_def, -List.mem_cons]

theorem execDischargeStepEnd_keeps (s : State) : Leads (execDischargeStepEnd s) (s.keeps · (changes .dischargeStepEnd)) := by
  unfold execDischargeStepEnd
  split
  · simp [State.keeps_refl]
  · extract_lets es last len s1
    have h1 : s.keeps s1 (changes .dischargeStepEnd) := by simp +decide [s1, State.keeps_iff, changes.eq_def, -List.mem_cons]
    split
    · exact (leads_done _ _).2 (h1.trans (by simp +decide [State.keeps_iff, changes.eq_def, -List.mem_cons]))
    · exact (leads_done _ _).2 (h1.trans (by simp +decide [State.keeps_iff, changes.eq_def, -List.mem_cons]))

theorem execPanelPowerOffStep_keeps (s : State) : Leads (execPanelPowerOffStep s) (s.keeps · (changes .panelPowerOffStep)) := by
  unfold execPanelPowerOffStep
  dsimp only
  repeat' split
  all_goals simp +decide [State.keeps_iff, changes.eq_def, -List.mem_cons]

theorem execUpdatePassDone_keeps (s : State) : Leads (execUpdatePassDone s) (s.keeps · (changes .updatePassDone)) := by
  unfold execUpdatePassDone
  dsimp only
  repeat' split
  all_goals simp +decide [State.keeps_iff, changes.eq_def, -List.mem_cons]

end Sys2Proof.Machine
end

section
/-! SUPPORT. The footprint of every command, and the four statements on frames. -/

namespace Sys2Proof.Machine

/-- Every command keeps the queue and the parts that `changes` does not list for it. -/
theorem exec_keeps : (c : Instr) → (s : State) → Leads (exec c s) (s.keeps · (changes c))
  | .aonPowerUp vinMv, s => execAonPowerUp_keeps vinMv s
  | .strapSample straps, s => execStrapSample_keeps straps s
  | .resonatorCheck oscillates milliPercent, s => execResonatorCheck_keeps oscillates milliPercent s
  | .vinBootMeasure vinMv, s => execVinBootMeasure_keeps vinMv s
  | .rootPllLock, s => execRootPllLock_keeps s
  | .bootRomCheckDone readError, s => execBootRomCheckDone_keeps readError s
  | .bootWatchdogExpiry, s => execBootWatchdogExpiry_keeps s
  | .firmwareWatchdogExpiry, s => execFirmwareWatchdogExpiry_keeps s
  | .samplerScanDone, s => execSamplerScanDone_keeps s
  | .memReady, s => execMemReady_keeps s
  | .persistedTableLoadDone table, s => execPersistedTableLoadDone_keeps table s
  | .mapLoadDone, s => execMapLoadDone_keeps s
  | .mapWaitLimitExpiry, s => execMapWaitLimitExpiry_keeps s
  | .rasterStart tick, s => execRasterStart_keeps tick s
  | .stressSnapshotLoadDone, s => execStressSnapshotLoadDone_keeps s
  | .clipLoadDone inst, s => execClipLoadDone_keeps inst s
  | .resetNAssert, s => execResetNAssert_keeps s
  | .resetNRelease straps, s => execResetNRelease_keeps straps s
  | .lockstepReset, s => execLockstepReset_keeps s
  | .pllLossOfLock, s => execPllLossOfLock_keeps s
  | .undervoltageLockout, s => execUndervoltageLockout_keeps s
  | .hardwareSafeStopEnd, s => execHardwareSafeStopEnd_keeps s
  | .jtagTrst, s => execJtagTrst_keeps s
  | .thermalSample die mem0 mem1, s => execThermalSample_keeps die mem0 mem1 s
  | .thmReleaseExpiry, s => execThmReleaseExpiry_keeps s
  | .riseTriggerRearm, s => execRiseTriggerRearm_keeps s
  | .thermalRequestRepeat, s => execThermalRequestRepeat_keeps s
  | .pfwAssert vinMv, s => execPfwAssert_keeps vinMv s
  | .pfwSaveDone, s => execPfwSaveDone_keeps s
  | .pfwDeassert vinMv, s => execPfwDeassert_keeps vinMv s
  | .pfwRecoverExpiry, s => execPfwRecoverExpiry_keeps s
  | .ctlReadStatus, s => execCtlReadStatus_keeps s
  | .regWrite port access, s => execRegWrite_keeps port access s
  | .timeLoRead port, s => execTimeLoRead_keeps port s
  | .resetKeyWrite port data, s => execResetKeyWrite_keeps port data s
  | .irqStatusClear port data, s => execIrqStatusClear_keeps port data s
  | .faultCauseClear port data, s => execFaultCauseClear_keeps port data s
  | .wakeCauseClear port data, s => execWakeCauseClear_keeps port data s
  | .portErrorsClear port data, s => execPortErrorsClear_keeps port data s
  | .mbDoorbell mb data, s => execMbDoorbell_keeps mb data s
  | .mbRelease mb data, s => execMbRelease_keeps mb data s
  | .ctlPacket side burst, s => execCtlPacket_keeps side burst s
  | .unknownCommand mb, s => execUnknownCommand_keeps mb s
  | .ident mb, s => execIdent_keeps mb s
  | .paramGet mb, s => execParamGet_keeps mb s
  | .paramSet mb, s => execParamSet_keeps mb s
  | .paramGetMulti mb, s => execParamGetMulti_keeps mb s
  | .paramSetMulti mb, s => execParamSetMulti_keeps mb s
  | .logClear mb, s => execLogClear_keeps mb s
  | .logFirstFaultClear mb, s => execLogFirstFaultClear_keeps mb s
  | .pwrResClear mb, s => execPwrResClear_keeps mb s
  | .commit mb, s => execCommit_keeps mb s
  | .commitStatus mb, s => execCommitStatus_keeps mb s
  | .discard mb, s => execDiscard_keeps mb s
  | .funcStop mb, s => execFuncStop_keeps mb s
  | .funcStart mb, s => execFuncStart_keeps mb s
  | .funcState mb, s => execFuncState_keeps mb s
  | .modeChange mb, s => execModeChange_keeps mb s
  | .funcReset mb, s => execFuncReset_keeps mb s
  | .tableLoad mb, s => execTableLoad_keeps mb s
  | .tableRead mb, s => execTableRead_keeps mb s
  | .profileApply mb, s => execProfileApply_keeps mb s
  | .vote mb, s => execVote_keeps mb s
  | .pwrState mb, s => execPwrState_keeps mb s
  | .standbyEntry, s => execStandbyEntry_keeps s
  | .logRead mb, s => execLogRead_keeps mb s
  | .statsRead mb, s => execStatsRead_keeps mb s
  | .nvRead mb pageFails, s => execNvRead_keeps mb pageFails s
  | .nvWriteRecord mb, s => execNvWriteRecord_keeps mb s
  | .norProgramDone mismatch, s => execNorProgramDone_keeps mismatch s
  | .nvRawProgram mb, s => execNvRawProgram_keeps mb s
  | .nvErase mb, s => execNvErase_keeps mb s
  | .nvEraseDone failed, s => execNvEraseDone_keeps failed s
  | .samplerCompaction bank1, s => execSamplerCompaction_keeps bank1 s
  | .nandStoreDone object failed, s => execNandStoreDone_keeps object failed s
  | .cmpRun mb, s => execCmpRun_keeps mb s
  | .cmpContainerDone, s => execCmpContainerDone_keeps s
  | .secSession mb, s => execSecSession_keeps mb s
  | .hello side burst, s => execHello_keeps side burst s
  | .finish side burst, s => execFinish_keeps side burst s
  | .nonceExpiry, s => execNonceExpiry_keeps s
  | .secApprove mb, s => execSecApprove_keeps mb s
  | .approvalBundleCheckDone, s => execApprovalBundleCheckDone_keeps s
  | .secStatus mb, s => execSecStatus_keeps mb s
  | .secFwUpdate mb, s => execSecFwUpdate_keeps mb s
  | .fwImageCheckDone, s => execFwImageCheckDone_keeps s
  | .tatEnumerate mb, s => execTatEnumerate_keeps mb s
  | .tatStage mb, s => execTatStage_keeps mb s
  | .tatArm mb, s => execTatArm_keeps mb s
  | .tatAbort mb, s => execTatAbort_keeps mb s
  | .tatStatus mb, s => execTatStatus_keeps mb s
  | .panelOn mb, s => execPanelOn_keeps mb s
  | .panelOff mb, s => execPanelOff_keeps mb s
  | .panelSafeStop mb, s => execPanelSafeStop_keeps mb s
  | .eyeSet mb, s => execEyeSet_keeps mb s
  | .eyeRead mb, s => execEyeRead_keeps mb s
  | .hlActivityQualified side, s => execHlActivityQualified_keeps side s
  | .hlWakePattern side, s => execHlWakePattern_keeps side s
  | .hlWakeGlitch side, s => execHlWakeGlitch_keeps side s
  | .hlReceivePllLock side rate, s => execHlReceivePllLock_keeps side rate s
  | .hlBlockLock side phases, s => execHlBlockLock_keeps side phases s
  | .hlEqualizeDone side eyes, s => execHlEqualizeDone_keeps side eyes s
  | .hlDeskewDone side skew lanes, s => execHlDeskewDone_keeps side skew lanes s
  | .hlTrainTimeout side lane, s => execHlTrainTimeout_keeps side lane s
  | .hlTrainBackoffExpiry, s => execHlTrainBackoffExpiry_keeps s
  | .hlClockLost side activity, s => execHlClockLost_keeps side activity s
  | .hlBlockError side lane incoming, s => execHlBlockError_keeps side lane incoming s
  | .hlTs1Retrain incoming, s => execHlTs1Retrain_keeps incoming s
  | .hlSof incoming, s => execHlSof_keeps incoming s
  | .hlEios, s => execHlEios_keeps s
  | .hlFs side at_ sets, s => execHlFs_keeps side at_ sets s
  | .hlRow side at_ first rest, s => execHlRow_keeps side at_ first rest s
  | .hlFe side at_ sets, s => execHlFe_keeps side at_ sets s
  | .hlSurf side at_ sets, s => execHlSurf_keeps side at_ sets s
  | .hlSleep side burst, s => execHlSleep_keeps side burst s
  | .hlKeep side burst, s => execHlKeep_keeps side burst s
  | .packetHeaderCrcFail incoming, s => execPacketHeaderCrcFail_keeps incoming s
  | .hlUnknownPkt incoming, s => execHlUnknownPkt_keeps incoming s
  | .backChannelSend, s => execBackChannelSend_keeps s
  | .statusTimer, s => execStatusTimer_keeps s
  | .frameStart at_ fifoA fifoB, s => execFrameStart_keeps at_ fifoA fifoB s
  | .rowSlotStart at_ bursts blockFail nextFail, s => execRowSlotStart_keeps at_ bursts blockFail nextFail s
  | .verticalBlankStart at_, s => execVerticalBlankStart_keeps at_ s
  | .repeatDeadline tick, s => execRepeatDeadline_keeps tick s
  | .predictiveRepeat tick, s => execPredictiveRepeat_keeps tick s
  | .timingGeneratorPeriod tick, s => execTimingGeneratorPeriod_keeps tick s
  | .ladderDwellExpiry at_, s => execLadderDwellExpiry_keeps at_ s
  | .continuityDelayExpiry at_, s => execContinuityDelayExpiry_keeps at_ s
  | .clipStepDue at_, s => execClipStepDue_keeps at_ s
  | .memSleepEntry at_ bursts, s => execMemSleepEntry_keeps at_ bursts s
  | .memSleepExit at_ bursts, s => execMemSleepExit_keeps at_ bursts s
  | .residenceCompressDone, s => execResidenceCompressDone_keeps s
  | .odTableCopyDone, s => execOdTableCopyDone_keeps s
  | .sensedRow slot, s => execSensedRow_keeps slot s
  | .senseReturnReply lane codes, s => execSenseReturnReply_keeps lane codes s
  | .replyTimeout lane, s => execReplyTimeout_keeps lane s
  | .tempPoll, s => execTempPoll_keeps s
  | .updatePass, s => execUpdatePass_keeps s
  | .snapshotStart, s => execSnapshotStart_keeps s
  | .snapshotComplete failed, s => execSnapshotComplete_keeps failed s
  | .snapshotOverrun, s => execSnapshotOverrun_keeps s
  | .mapStoreDone table failed, s => execMapStoreDone_keeps table failed s
  | .restSweepRow results, s => execRestSweepRow_keeps results s
  | .restLimitExpiry, s => execRestLimitExpiry_keeps s
  | .panelPowerOnStep, s => execPanelPowerOnStep_keeps s
  | .bobbinTrainingPhaseEnd, s => execBobbinTrainingPhaseEnd_keeps s
  | .bobLockNFall, s => execBobLockNFall_keeps s
  | .bobLockNRise, s => execBobLockNRise_keeps s
  | .dischargeStepEnd, s => execDischargeStepEnd_keeps s
  | .panelPowerOffStep, s => execPanelPowerOffStep_keeps s
  | .tatPortUp port, s => execTatPortUp_keeps port s
  | .tatCodeError port at_, s => execTatCodeError_keeps port at_ s
  | .tatPortSilence port, s => execTatPortSilence_keeps port s
  | .tatMsgCrcFail incoming, s => execTatMsgCrcFail_keeps incoming s
  | .delayReqTimer sent, s => execDelayReqTimer_keeps sent s
  | .delayReq port arrived sent codes, s => execDelayReq_keeps port arrived sent codes s
  | .delayResp arrived codes, s => execDelayResp_keeps arrived codes s
  | .delayRespTimeout, s => execDelayRespTimeout_keeps s
  | .beaconSend, s => execBeaconSend_keeps s
  | .beacon port arrived sent0 sent1 codes, s => execBeacon_keeps port arrived sent0 sent1 codes s
  | .beaconMissing, s => execBeaconMissing_keeps s
  | .enumerate port codes, s => execEnumerate_keeps port codes s
  | .enumDone port codes, s => execEnumDone_keeps port codes s
  | .enumTimeout port, s => execEnumTimeout_keeps port s
  | .stageFragment port codes, s => execStageFragment_keeps port codes s
  | .countUp port codes, s => execCountUp_keeps port codes s
  | .tatStageTimeout, s => execTatStageTimeout_keeps s
  | .setReq port codes, s => execSetReq_keeps port codes s
  | .abortEpoch port codes, s => execAbortEpoch_keeps port codes s
  | .peer port codes, s => execPeer_keeps port codes s
  | .pairFrame arrived codes, s => execPairFrame_keeps arrived codes s
  | .pairStrobe arrived, s => execPairStrobe_keeps arrived s
  | .pairEvent port codes, s => execPairEvent_keeps port codes s
  | .pairEventRepeat, s => execPairEventRepeat_keeps s
  | .ctlCsWake, s => execCtlCsWake_keeps s
  | .svcAddressMatch, s => execSvcAddressMatch_keeps s
  | .picotActivity, s => execPicotActivity_keeps s
  | .wakeTimerExpiry, s => execWakeTimerExpiry_keeps s
  | .wakeVoteLapse, s => execWakeVoteLapse_keeps s
  | .idleTimerExpiry d, s => execIdleTimerExpiry_keeps d s
  | .domainEntryDone d, s => execDomainEntryDone_keeps d s
  | .wakeGrant, s => execWakeGrant_keeps s
  | .domainWakeDone d, s => execDomainWakeDone_keeps d s
  | .wakeFailureTimeout d clockLock, s => execWakeFailureTimeout_keeps d clockLock s
  | .retryOffExpiry d, s => execRetryOffExpiry_keeps d s
  | .statMaxTimeExpiry, s => execStatMaxTimeExpiry_keeps s
  | .updatePassDone, s => execUpdatePassDone_keeps s
  | .secKeyAgreementDone, s => execSecKeyAgreementDone_keeps s
  | .ctlCsNRise leftover, s => execCtlCsNRise_keeps leftover s
  | .svcStop leftover, s => execSvcStop_keeps leftover s

/-- Settles O57: a frame is what the command's footprint says of the parts that `changes` does not list. -/
theorem mailboxCommandsLeaveTheRest : Obligations.MailboxCommandsLeaveTheRest :=
  fun c s _ _ ht => (exec_keeps c s).frame ht

/-- Settles O58: a frame is what the command's footprint says of the parts that `changes` does not list. -/
theorem deviceCommandsLeaveTheRest : Obligations.DeviceCommandsLeaveTheRest :=
  fun c s _ _ ht => (exec_keeps c s).frame ht

/-- Settles O59: a frame is what the command's footprint says of the parts that `changes` does not list. -/
theorem linkAndNetCommandsLeaveTheRest : Obligations.LinkAndNetCommandsLeaveTheRest :=
  fun c s _ _ ht => (exec_keeps c s).frame ht

/-- Settles O60: a frame is what the command's footprint says of the parts that `changes` does not list. -/
theorem rasterAndPanelCommandsLeaveTheRest : Obligations.RasterAndPanelCommandsLeaveTheRest :=
  fun c s _ _ ht => (exec_keeps c s).frame ht

end Sys2Proof.Machine
end

section
/-! SUPPORT. GDDR7 and flash stay canonical over serving a request, over a fold of steps that keep them so, and over commands whose proof needs more than their operations' own lemmas. -/

namespace Sys2Proof.Machine

theorem Memory.wf_iff (s : State) : Memory.wf s = true ↔
    cellsWf (memBg s.mem.hoopFill) s.mem.cells = true ∧ cellsWf flashBg s.nv.nor = true ∧ cellsWf flashBg s.nv.nand = true := by
  simp [Memory.wf, and_assoc]

/-- A command that may change none of the three memories keeps their form. -/
theorem State.keeps.memoryWf {s t : State} {ps : List Part} (h : s.keeps t ps) (hs : Memory.wf s = true) (hram : .gddr7 ∉ ps := by simp [changes.eq_def])
    (hnor : .nor ∉ ps := by simp [changes.eq_def]) (hnand : .nand ∉ ps := by simp [changes.eq_def]) : Memory.wf t = true := by
  obtain ⟨hcells, hfill⟩ := h.2 .gddr7 hram
  have hnor := h.2 .nor hnor
  have hnand := h.2 .nand hnand
  simp only [Part.same] at hnor hnand
  rw [Memory.wf_iff] at hs ⊢
  rwa [hcells, hfill, hnor, hnand]

theorem Memory.foldl_wf {α : Type} (g : State → α → State) (hg : ∀ t x, Memory.wf t = true → Memory.wf (g t x) = true) (l : List α) {s : State}
    (h : Memory.wf s = true) : Memory.wf (l.foldl g s) = true :=
  List.foldlRecOn l g h fun t ht x _ => hg t x ht

/-- The form is that of GDDR7 and the flash memories alone. -/
theorem Memory.wf_of_eq {s t : State} (h : Memory.wf s = true) (hmem : t.mem = s.mem) (hnor : t.nv.nor = s.nv.nor)
    (hnand : t.nv.nand = s.nv.nand) : Memory.wf t = true := by
  rw [Memory.wf_iff] at h ⊢
  rwa [hmem, hnor, hnand]

/-- A request is served within the memories' form if its command's own reply stays within it. -/
theorem State.serve_wf {s : State} {i : Mb} {c : Cmd} {run : List Byte → State → Reply} (h : Memory.wf s = true)
    (hrun : ∀ p t, Memory.wf t = true → (run p t).leads (Memory.wf · = true)) : Leads (s.serve i c run) (Memory.wf · = true) :=
  State.serve_leads (fun _ _ ht k => k.memoryWf ht) h hrun

theorem execAonPowerUp_wf (vinMv : BitVec 16) (s : State) (h : Memory.wf s = true) : Leads (execAonPowerUp vinMv s) (Memory.wf · = true) := by
  obtain ⟨-, hnor, hnand⟩ := (Memory.wf_iff s).1 h
  unfold execAonPowerUp
  split
  · simpa using h
  · simp only [leads_next, Memory.wf_iff]
    exact ⟨rfl, hnor, hnand⟩

theorem execUndervoltageLockout_wf (s : State) (h : Memory.wf s = true) : Leads (execUndervoltageLockout s) (Memory.wf · = true) := by
  obtain ⟨-, hnor, hnand⟩ := (Memory.wf_iff s).1 h
  simp only [execUndervoltageLockout, leads_next, Memory.wf_iff]
  exact ⟨rfl, hnor, hnand⟩

theorem execSamplerScanDone_wf (s : State) (h : Memory.wf s = true) : Leads (execSamplerScanDone s) (Memory.wf · = true) := by
  unfold execSamplerScanDone
  split
  · simpa using h
  extract_lets s1 s2
  have h1 : Memory.wf s1 = true := by
    obtain ⟨hram, hnor, hnand⟩ := (Memory.wf_iff s).1 h
    simp [s1, Memory.wf_iff, *]
  have h2 : Memory.wf s2 = true := by
    obtain ⟨hram, hnor, hnand⟩ := (Memory.wf_iff s1).1 h1
    unfold s2
    split
    all_goals simp [Memory.wf_iff, *]
  obtain ⟨hram, hnor, hnand⟩ := (Memory.wf_iff s2).1 h2
  simp [Memory.wf_iff, *]

/-- A new fill colour leaves the cells outside the hoop, which read 0x00 where unlisted under any colour. -/
theorem cellsWf_refill {f g : Word} {l : List Host.Cell} (h : cellsWf (memBg f) l = true) :
    cellsWf (memBg g) (l.filter fun c => 0x10000000 ≤ c.1) = true := by
  induction l with
  | nil => rfl
  | cons c t ih =>
    obtain ⟨a, v⟩ := c
    obtain ⟨habove, hv, ht⟩ := (cellsWf_cons _ a v t).1 h
    simp only [List.filter_cons]
    split
    case isTrue ha =>
      refine (cellsWf_cons _ a v _).2 ⟨fun c hc => habove c (List.mem_filter.mp hc).1, ?_, ih ht⟩
      have ha' : ¬ a < 0x10000000 := by simpa using ha
      simpa [memBg, ha'] using hv
    case isFalse => exact ih ht

theorem execMemReady_wf (s : State) (h : Memory.wf s = true) : Leads (execMemReady s) (Memory.wf · = true) := by
  obtain ⟨hram, hnor, hnand⟩ := (Memory.wf_iff s).1 h
  unfold execMemReady
  split
  · simpa using h
  · simp [Memory.wf_iff, hnor, hnand, cellsWf_refill hram]

theorem execMapLoadDone_wf (s : State) (h : Memory.wf s = true) : Leads (execMapLoadDone s) (Memory.wf · = true) := by
  have hslot (t : State) (i : Nat) (ht : Memory.wf t = true) : Memory.wf (t.planeFromSlot i) = true := by
    obtain ⟨hram, hnor, hnand⟩ := (Memory.wf_iff t).1 ht
    simp [Memory.wf_iff, *]
  have hfield (c : Option (Nat × List Byte × IndexExtra × Nat)) (t : State) (i : Nat) (ht : Memory.wf t = true) :
      Memory.wf (t.fieldPlane i c) = true := by
    obtain ⟨hram, hnor, hnand⟩ := (Memory.wf_iff t).1 ht
    simp [Memory.wf_iff, *]
  unfold execMapLoadDone
  split
  · simpa using h
  extract_lets oled on s1 s2 c s3 b p
  have h1 : Memory.wf s1 = true := by
    obtain ⟨hram, hnor, hnand⟩ := (Memory.wf_iff s).1 h
    unfold s1
    split
    all_goals simp [Memory.wf_iff, *]
  have h2 : Memory.wf s2 = true := Memory.foldl_wf _ hslot _ h1
  have hchosen : Memory.wf ((s2.snapJobs s2.snapTried).snapChosen c) = true := by
    obtain ⟨hram, hnor, hnand⟩ := (Memory.wf_iff s2).1 h2
    simp [Memory.wf_iff, *]
  have h3 : Memory.wf s3 = true := by
    unfold s3
    split
    · exact Memory.foldl_wf _ hslot _ h2
    split
    · exact Memory.foldl_wf _ (hfield c.1) _ hchosen
    · exact h2
  obtain ⟨hram, hnor, hnand⟩ := (Memory.wf_iff s3).1 h3
  simp [Memory.wf_iff, *]

theorem execPfwSaveDone_wf (s : State) (h : Memory.wf s = true) : Leads (execPfwSaveDone s) (Memory.wf · = true) := by
  have hput (t : State) (d : Fin 19) (ht : Memory.wf t = true) : Memory.wf (t.pfwPut d) = true := by
    obtain ⟨hram, hnor, hnand⟩ := (Memory.wf_iff t).1 ht
    simp [Memory.wf_iff, *]
  unfold execPfwSaveDone
  split
  · simpa using h
  extract_lets s1 _ s2 s3 _ _ s4
  have h2 : Memory.wf s2 = true := by
    obtain ⟨hram, hnor, hnand⟩ := (Memory.wf_iff s).1 h
    simp [s2, s1, Memory.wf_iff, *]
  have h3 : Memory.wf s3 = true := by
    unfold s3
    exact Memory.foldl_wf _ hput _ h2
  clear_value s3
  have h4 : Memory.wf s4 = true := Memory.wf_of_eq h3 rfl rfl rfl
  obtain ⟨hram, hnor, hnand⟩ := (Memory.wf_iff s4).1 h4
  repeat' split
  all_goals simp [Memory.wf_iff, *]

theorem execStandbyEntry_wf (s : State) (h : Memory.wf s = true) : Leads (execStandbyEntry s) (Memory.wf · = true) := by
  have hput (deep : Bool) (t : State) (d : Fin 19) (ht : Memory.wf t = true) : Memory.wf (t.standbyPut deep d) = true := by
    obtain ⟨hram, hnor, hnand⟩ := (Memory.wf_iff t).1 ht
    simp [Memory.wf_iff, *]
  have hserve (t : State) (w : WakeSource) (ht : Memory.wf t = true) : Memory.wf (t.wakeServe w) = true := by
    obtain ⟨hram, hnor, hnand⟩ := (Memory.wf_iff t).1 ht
    simp [Memory.wf_iff, *]
  unfold execStandbyEntry
  split
  · simpa using h
  split
  · simpa using h
  extract_lets s0 s1 s2 timer _ p _ s3 late
  have h0 : Memory.wf s0 = true := by
    obtain ⟨hram, hnor, hnand⟩ := (Memory.wf_iff s).1 h
    unfold s0
    split
    all_goals simp [Memory.wf_iff, *]
  have h1 : Memory.wf s1 = true := by
    unfold s1
    exact Memory.foldl_wf _ (hput _) _ h0
  have h2 : Memory.wf s2 = true := by
    unfold s2
    refine hput _ _ _ ?_
    obtain ⟨hram, hnor, hnand⟩ := (Memory.wf_iff s1).1 h1
    simp [Memory.wf_iff, *]
  clear_value s2
  have h3 : Memory.wf s3 = true := Memory.wf_of_eq h2 rfl rfl rfl
  have hlate : Memory.wf (late.foldl (fun t w => t.wakeServe w) s3) = true := Memory.foldl_wf _ hserve _ h3
  exact (leads_done _ _).2 ((State.settle_keeps _).memoryWf hlate)

theorem execNvEraseDone_wf (failed : List Nat) (s : State) (h : Memory.wf s = true) : Leads (execNvEraseDone failed s) (Memory.wf · = true) := by
  have hbad (t : State) (b : Nat) (ht : Memory.wf t = true) : Memory.wf (t.badBlock b) = true := by
    obtain ⟨hram, hnor, hnand⟩ := (Memory.wf_iff t).1 ht
    simp [Memory.wf_iff, *]
  unfold execNvEraseDone
  split
  · simpa using h
  split
  · simpa using h
  extract_lets _ s1 s2 s3 s4
  have h2 : Memory.wf s2 = true := by
    obtain ⟨hram, hnor, hnand⟩ := (Memory.wf_iff s1).1 (Memory.wf_of_eq h rfl rfl rfl)
    unfold s2
    split
    all_goals simp [Memory.wf_iff, *]
  have h3 : Memory.wf s3 = true := by
    unfold s3
    split
    · exact Memory.foldl_wf _ hbad _ h2
    · exact h2
  obtain ⟨hram, hnor, hnand⟩ := (Memory.wf_iff s3).1 h3
  unfold s4
  split
  all_goals simp [Memory.wf_iff, *]

theorem execSamplerCompaction_wf (bank1 : Bool) (s : State) (h : Memory.wf s = true) :
    Leads (execSamplerCompaction bank1 s) (Memory.wf · = true) := by
  unfold execSamplerCompaction
  dsimp only
  split
  · simpa using h
  split
  · simpa using h
  generalize hmoved : List.foldl _ s _ = s1
  have h1 : Memory.wf s1 = true := by
    subst hmoved
    refine Memory.foldl_wf _ (fun t r ht => ?_) _ h
    split
    · exact ht
    · obtain ⟨hram, hnor, hnand⟩ := (Memory.wf_iff t).1 ht
      have hroom : cellsWf flashBg (t.ensureRoom bank1).nv.nor = true := State.ensureRoom_norWf _ _ hnor
      rw [Memory.wf_iff]
      exact ⟨by simpa using hram, State.ensureRoom_norWf _ _ (State.norProgram_norWf _ _ _ (State.norProgram_norWf _ _ _ hroom)),
        by simpa using hnand⟩
  obtain ⟨hram, hnor, hnand⟩ := (Memory.wf_iff s1).1 h1
  simp [Memory.wf_iff, *]

theorem execDischargeStepEnd_wf (s : State) (h : Memory.wf s = true) : Leads (execDischargeStepEnd s) (Memory.wf · = true) := by
  unfold execDischargeStepEnd
  split
  · simpa using h
  extract_lets es last len s1
  obtain ⟨hram, hnor, hnand⟩ := (Memory.wf_iff s).1 h
  have h1 : Memory.wf s1 = true := by simp [s1, Memory.wf_iff, *]
  obtain ⟨hram1, hnor1, hnand1⟩ := (Memory.wf_iff s1).1 h1
  split
  all_goals simp [Memory.wf_iff, *]

theorem execUpdatePassDone_wf (s : State) (h : Memory.wf s = true) : Leads (execUpdatePassDone s) (Memory.wf · = true) := by
  have hage (x y c : Nat) (t : State) (ht : Memory.wf t = true) : Memory.wf (t.ageOne x y c) = true := by
    obtain ⟨hram, hnor, hnand⟩ := (Memory.wf_iff t).1 ht
    simp [Memory.wf_iff, *]
  have hfold (t : State) (f : Fold) (ht : Memory.wf t = true) : Memory.wf (t.writeFold f) = true := by
    obtain ⟨hram, hnor, hnand⟩ := (Memory.wf_iff t).1 ht
    simp [Memory.wf_iff, *]
  unfold execUpdatePassDone
  split
  · simpa using h
  split
  · exact (leads_next _ _).2 h
  extract_lets w s1 s2 _ s3
  have h1 : Memory.wf s1 = true := by
    unfold s1
    split
    · exact Memory.foldl_wf _ (fun t _ ht => hage _ _ _ t ht) _ h
    · exact h
  have h2 : Memory.wf s2 = true := by
    unfold s2
    exact Memory.foldl_wf _ hfold _ h1
  have h3 : Memory.wf s3 = true := Memory.wf_of_eq h2 rfl rfl rfl
  obtain ⟨hram, hnor, hnand⟩ := (Memory.wf_iff s3).1 h3
  split
  · exact (leads_done _ _).2 (s3.settle_keeps.memoryWf h3)
  · simp [Memory.wf_iff, hram, hnor, hnand]

theorem execSnapshotComplete_wf (failed : Bool) (s : State) (h : Memory.wf s = true) :
    Leads (execSnapshotComplete failed s) (Memory.wf · = true) := by
  obtain ⟨hram, hnor, hnand⟩ := (Memory.wf_iff s).1 h
  have hstored (o g l : Nat) (x : IndexExtra) (d : List Byte) : Memory.wf (s.takeGen.2.nandStore o g l x d).1 = true := by
    simp [Memory.wf_iff, *]
  unfold execSnapshotComplete
  split
  · simpa using h
  dsimp only
  split
  · simp [Memory.wf_iff, *]
  generalize hst : s.takeGen.2.nandStore _ _ _ _ _ = st
  have hst' : Memory.wf st.1 = true := hst ▸ hstored _ _ _ _ _
  obtain ⟨hram1, hnor1, hnand1⟩ := (Memory.wf_iff st.1).1 hst'
  repeat' split
  all_goals simp [Memory.wf_iff, *]

end Sys2Proof.Machine
end

section
/-! SUPPORT. The mailbox commands that store, and the jobs they go on with, keep the memories' form. -/

namespace Sys2Proof.Machine

theorem State.panelStop_wf (s : State) (cause : Nat) (rest : Bool) (h : Memory.wf s = true) : Memory.wf (s.panelStop cause rest) = true := by
  obtain ⟨hram, hnor, hnand⟩ := (Memory.wf_iff s).1 h
  simp [Memory.wf_iff, *]

theorem State.panelStart_wf (s : State) (h : Memory.wf s = true) : Memory.wf s.panelStart = true := by
  obtain ⟨hram, hnor, hnand⟩ := (Memory.wf_iff s).1 h
  simp [Memory.wf_iff, *]

theorem State.modeNow_wf (s : State) (m : Mode) (h : Memory.wf s = true) : Memory.wf (s.modeNow m) = true := by
  obtain ⟨hram, hnor, hnand⟩ := (Memory.wf_iff s).1 h
  simp [Memory.wf_iff, *]

theorem State.modeBegin_wf (s : State) (m : Mode) (h : Memory.wf s = true) : Memory.wf (s.modeBegin m) = true := by
  obtain ⟨hram, hnor, hnand⟩ := (Memory.wf_iff s).1 h
  simp [Memory.wf_iff, *]

theorem State.funcAsk_wf (s : State) (f : Func) (c : FuncChange) (mb : Mb) (h : Memory.wf s = true) : (s.funcAsk f c mb).leads (Memory.wf · = true) := by
  obtain ⟨hram, hnor, hnand⟩ := (Memory.wf_iff s).1 h
  unfold State.funcAsk
  dsimp only
  split
  all_goals simp [Memory.wf_iff, *]

theorem State.safeStopReply_wf (s : State) (payload : List Byte) (h : Memory.wf s = true) : (s.safeStopReply payload).leads (Memory.wf · = true) := by
  unfold State.safeStopReply
  split
  · exact h
  · exact ⟨h, fun u hu => State.panelStop_wf _ _ _ ((Memory.wf_of_eq hu (by simp) (by simp) (by simp)))⟩

theorem State.panelOnReply_wf (s : State) (payload : List Byte) (h : Memory.wf s = true) : (s.panelOnReply payload).leads (Memory.wf · = true) := by
  unfold State.panelOnReply
  repeat' split
  case h_2.isFalse.isFalse => exact ⟨h, State.panelStart_wf⟩
  all_goals exact h

theorem State.takeStaged_wf (s : State) (f : Func) (h : Memory.wf s = true) : Memory.wf (s.takeStaged f) = true := by
  obtain ⟨hram, hnor, hnand⟩ := (Memory.wf_iff s).1 h
  simp [Memory.wf_iff, *]

theorem State.startLink_wf (s : State) (mb : Mb) (h : Memory.wf s = true) : (s.startLink mb).leads (Memory.wf · = true) := by
  obtain ⟨hram, hnor, hnand⟩ := (Memory.wf_iff s).1 h
  unfold State.startLink
  dsimp only
  split
  all_goals simp [Memory.wf_iff, *]

theorem State.loadOn_wf (s : State) (t : Table) (f : Frag) (h : Memory.wf s = true) : (s.loadOn t f).leads (Memory.wf · = true) := by
  obtain ⟨hram, hnor, hnand⟩ := (Memory.wf_iff s).1 h
  unfold State.loadOn
  dsimp only
  repeat' split
  all_goals simp [Memory.wf_iff, *]

theorem execFuncStop_wf (mb : Mb) (s : State) (h : Memory.wf s = true) : Leads (execFuncStop mb s) (Memory.wf · = true) := by
  refine State.serve_wf h fun p t ht => ?_
  obtain ⟨hram, hnor, hnand⟩ := (Memory.wf_iff t).1 ht
  unfold runFuncStop
  dsimp only
  repeat' split
  case h_2.isFalse.isTrue.isFalse => exact t.safeStopReply_wf _ ht
  case h_2.isFalse.isFalse.isFalse.isFalse => exact t.funcAsk_wf _ _ _ ht
  all_goals simp [Memory.wf_iff, *]

theorem execFuncStart_wf (mb : Mb) (s : State) (h : Memory.wf s = true) : Leads (execFuncStart mb s) (Memory.wf · = true) := by
  refine State.serve_wf h fun p t ht => ?_
  have hstaged (f : Func) := t.takeStaged_wf f ht
  unfold runFuncStart
  split
  · exact ht
  next f _ =>
    dsimp only
    generalize (if f = .raster then _ else _ : Option Nat) = fails
    split
    · exact ht
    split
    · exact ht
    split
    · exact t.panelOnReply_wf _ ht
    repeat' split
    case h_1 => exact Memory.wf_of_eq ht (by simp) (by simp) (by simp)
    case h_2.isTrue => exact ht
    case h_2.isFalse.isTrue => exact State.panelOnReply_wf _ _ (hstaged f)
    case h_2.isFalse.isFalse.isTrue => exact State.startLink_wf _ _ (hstaged f)
    case h_2.isFalse.isFalse.isFalse => exact State.funcAsk_wf _ _ _ _ (hstaged f)

theorem State.modeCommit_wf (s : State) (mb : Mb) (h : Memory.wf s = true) : (s.modeCommit mb).leads (Memory.wf · = true) := by
  obtain ⟨hram, hnor, hnand⟩ := (Memory.wf_iff s).1 h
  unfold State.modeCommit
  dsimp only
  repeat' split
  all_goals simp [Memory.wf_iff, *]

theorem execModeChange_wf (mb : Mb) (s : State) (h : Memory.wf s = true) : Leads (execModeChange mb s) (Memory.wf · = true) := by
  refine State.serve_wf h fun p t ht => ?_
  unfold runModeChange
  dsimp only
  repeat' split
  case h_2.isFalse.isFalse.isTrue => exact ⟨ht, fun u hu => u.modeNow_wf _ hu⟩
  case h_2.isFalse.isFalse.isFalse.isTrue => exact t.modeCommit_wf mb ht
  case h_2.isFalse.isFalse.isFalse.isFalse.isFalse => exact ⟨ht, fun u hu => u.modeBegin_wf _ hu⟩
  all_goals exact ht

theorem execFuncReset_wf (mb : Mb) (s : State) (h : Memory.wf s = true) : Leads (execFuncReset mb s) (Memory.wf · = true) := by
  refine State.serve_wf h fun p t ht => ?_
  unfold runFuncReset
  repeat' split
  case h_2.isFalse.isFalse.isFalse => exact t.funcAsk_wf _ _ mb ht
  all_goals exact ht

theorem State.poolLoad_wf (s : State) (f : Frag) (h : Memory.wf s = true) : (s.poolLoad f).leads (Memory.wf · = true) := by
  obtain ⟨hram, hnor, hnand⟩ := (Memory.wf_iff s).1 h
  unfold State.poolLoad
  split
  all_goals simp [Memory.wf_iff, *]

theorem Reply.leads_ite {c : Prop} [Decidable c] {a b : Reply} {R : State → Prop} (ha : a.leads R) (hb : b.leads R) :
    (if c then a else b).leads R := by
  split
  · exact ha
  · exact hb

theorem execTableLoad_wf (mb : Mb) (s : State) (h : Memory.wf s = true) : Leads (execTableLoad mb s) (Memory.wf · = true) := by
  refine State.serve_wf h fun p t ht => ?_
  unfold runTableLoad
  dsimp only
  have hload (u : Table) (f : Frag) := t.loadOn_wf u f ht
  refine Reply.leads_ite ht (Reply.leads_ite ht (Reply.leads_ite (t.poolLoad_wf _ ht) (Reply.leads_ite ht (Reply.leads_ite ht
    (Reply.leads_ite (Reply.leads_ite ht (hload _ _)) (Reply.leads_ite ht (Reply.leads_ite ?_ (hload _ _))))))))
  exact Memory.wf_of_eq ht (by simp) (by simp) (by simp)

theorem execNvWriteRecord_wf (mb : Mb) (s : State) (h : Memory.wf s = true) : Leads (execNvWriteRecord mb s) (Memory.wf · = true) := by
  have hserve : Leads (s.serve mb cmdNvWrite fun p t => t.needing dNvm (runNvWrite mb p t)) (Memory.wf · = true) := by
    refine State.serve_wf h fun p t ht => ?_
    unfold State.needing runNvWrite
    dsimp only
    repeat' split
    all_goals exact ht
  unfold execNvWriteRecord
  split
  case h_1 t ht =>
    obtain ⟨hram, hnor, hnand⟩ := (Memory.wf_iff t).1 (hserve t ht)
    simp [Memory.wf_iff, *]
  case h_2 => exact hserve

theorem execPanelOff_wf (mb : Mb) (s : State) (h : Memory.wf s = true) : Leads (execPanelOff mb s) (Memory.wf · = true) := by
  refine State.serve_wf h fun p t ht => ?_
  unfold runPanelOff
  split
  · exact ht
  · exact ⟨ht, fun u hu => u.panelStop_wf _ _ hu⟩

theorem execPanelSafeStop_wf (mb : Mb) (s : State) (h : Memory.wf s = true) : Leads (execPanelSafeStop mb s) (Memory.wf · = true) :=
  State.serve_wf h fun _ t ht => t.safeStopReply_wf _ ht

theorem execResetKeyWrite_wf (port : Port) (data : Word) (s : State) (h : Memory.wf s = true) :
    Leads (execResetKeyWrite port data s) (Memory.wf · = true) := by
  obtain ⟨hram, hnor, hnand⟩ := (Memory.wf_iff s).1 h
  unfold execResetKeyWrite
  dsimp only
  repeat' split
  all_goals simp [Memory.wf_iff, *]

theorem execRegWrite_wf (port : Port) (access : RegAccess) (s : State) (h : Memory.wf s = true) :
    Leads (execRegWrite port access s) (Memory.wf · = true) := by
  obtain ⟨hram, hnor, hnand⟩ := (Memory.wf_iff s).1 h
  unfold execRegWrite
  repeat' split
  case h_1 a d =>
    unfold State.writeWord
    repeat' split
    case h_1.isTrue => exact execResetKeyWrite_wf port d s h
    all_goals simp [Memory.wf_iff, *]
  all_goals simp [Memory.wf_iff, *]

end Sys2Proof.Machine
end

section
/-! SUPPORT. Every other command that may store in a memory keeps the memories' form: each of its operations does. -/

namespace Sys2Proof.Machine

theorem execBootWatchdogExpiry_wf (s : State) (h : Memory.wf s = true) : Leads (execBootWatchdogExpiry s) (Memory.wf · = true) := by
  obtain ⟨hram, hnor, hnand⟩ := (Memory.wf_iff s).1 h
  unfold execBootWatchdogExpiry
  repeat' split
  all_goals simp [Memory.wf_iff, *]

theorem execFirmwareWatchdogExpiry_wf (s : State) (h : Memory.wf s = true) : Leads (execFirmwareWatchdogExpiry s) (Memory.wf · = true) := by
  obtain ⟨hram, hnor, hnand⟩ := (Memory.wf_iff s).1 h
  unfold execFirmwareWatchdogExpiry
  repeat' split
  all_goals simp [Memory.wf_iff, *]

theorem execPersistedTableLoadDone_wf (table : BitVec 16) (s : State) (h : Memory.wf s = true) :
    Leads (execPersistedTableLoadDone table s) (Memory.wf · = true) := by
  obtain ⟨hram, hnor, hnand⟩ := (Memory.wf_iff s).1 h
  unfold execPersistedTableLoadDone
  dsimp only
  repeat' split
  all_goals simp [Memory.wf_iff, *]

theorem execRasterStart_wf (tick : FrameTick) (s : State) (h : Memory.wf s = true) :
    Leads (execRasterStart tick s) (Memory.wf · = true) := by
  obtain ⟨hram, hnor, hnand⟩ := (Memory.wf_iff s).1 h
  unfold execRasterStart
  dsimp only
  repeat' split
  all_goals simp [Memory.wf_iff, *]

theorem execStressSnapshotLoadDone_wf (s : State) (h : Memory.wf s = true) : Leads (execStressSnapshotLoadDone s) (Memory.wf · = true) := by
  obtain ⟨hram, hnor, hnand⟩ := (Memory.wf_iff s).1 h
  unfold execStressSnapshotLoadDone
  dsimp only
  repeat' split
  all_goals simp [Memory.wf_iff, *]

theorem execClipLoadDone_wf (inst : BitVec 8) (s : State) (h : Memory.wf s = true) :
    Leads (execClipLoadDone inst s) (Memory.wf · = true) := by
  obtain ⟨hram, hnor, hnand⟩ := (Memory.wf_iff s).1 h
  unfold execClipLoadDone
  repeat' split
  all_goals simp [Memory.wf_iff, *]

theorem execResetNAssert_wf (s : State) (h : Memory.wf s = true) : Leads (execResetNAssert s) (Memory.wf · = true) := by
  obtain ⟨hram, hnor, hnand⟩ := (Memory.wf_iff s).1 h
  unfold execResetNAssert
  repeat' split
  all_goals simp [Memory.wf_iff, *]

theorem execLockstepReset_wf (s : State) (h : Memory.wf s = true) : Leads (execLockstepReset s) (Memory.wf · = true) := by
  obtain ⟨hram, hnor, hnand⟩ := (Memory.wf_iff s).1 h
  unfold execLockstepReset
  repeat' split
  all_goals simp [Memory.wf_iff, *]

theorem execPllLossOfLock_wf (s : State) (h : Memory.wf s = true) : Leads (execPllLossOfLock s) (Memory.wf · = true) := by
  obtain ⟨hram, hnor, hnand⟩ := (Memory.wf_iff s).1 h
  unfold execPllLossOfLock
  repeat' split
  all_goals simp [Memory.wf_iff, *]

theorem execHardwareSafeStopEnd_wf (s : State) (h : Memory.wf s = true) : Leads (execHardwareSafeStopEnd s) (Memory.wf · = true) := by
  obtain ⟨hram, hnor, hnand⟩ := (Memory.wf_iff s).1 h
  unfold execHardwareSafeStopEnd
  repeat' split
  all_goals simp [Memory.wf_iff, *]

theorem execThermalSample_wf (die : List (BitVec 16)) (mem0 mem1 : BitVec 16) (s : State) (h : Memory.wf s = true) :
    Leads (execThermalSample die mem0 mem1 s) (Memory.wf · = true) := by
  obtain ⟨hram, hnor, hnand⟩ := (Memory.wf_iff s).1 h
  unfold execThermalSample
  repeat' split
  all_goals simp [Memory.wf_iff, *]

theorem execPfwAssert_wf (vinMv : BitVec 16) (s : State) (h : Memory.wf s = true) : Leads (execPfwAssert vinMv s) (Memory.wf · = true) := by
  obtain ⟨hram, hnor, hnand⟩ := (Memory.wf_iff s).1 h
  unfold execPfwAssert
  repeat' split
  all_goals simp [Memory.wf_iff, *]

theorem execCtlPacket_wf (side : Side) (burst : LinkBurst) (s : State) (h : Memory.wf s = true) :
    Leads (execCtlPacket side burst s) (Memory.wf · = true) := by
  obtain ⟨hram, hnor, hnand⟩ := (Memory.wf_iff s).1 h
  simp [execCtlPacket, Memory.wf_iff, *]

theorem execNorProgramDone_wf (mismatch : Bool) (s : State) (h : Memory.wf s = true) :
    Leads (execNorProgramDone mismatch s) (Memory.wf · = true) := by
  obtain ⟨hram, hnor, hnand⟩ := (Memory.wf_iff s).1 h
  unfold execNorProgramDone
  dsimp only
  repeat' split
  all_goals simp [Memory.wf_iff, *]

theorem execNvRawProgram_wf (mb : Mb) (s : State) (h : Memory.wf s = true) : Leads (execNvRawProgram mb s) (Memory.wf · = true) := by
  unfold execNvRawProgram
  refine State.serve_wf h fun p t ht => ?_
  obtain ⟨hram, hnor, hnand⟩ := (Memory.wf_iff t).1 ht
  unfold State.needing runNvRaw
  dsimp only
  repeat' split
  all_goals simp [Memory.wf_iff, *]

theorem execNandStoreDone_wf (object : Word) (failed : Bool) (s : State) (h : Memory.wf s = true) :
    Leads (execNandStoreDone object failed s) (Memory.wf · = true) := by
  obtain ⟨hram, hnor, hnand⟩ := (Memory.wf_iff s).1 h
  simp [execNandStoreDone, Memory.wf_iff, *]

theorem execCmpContainerDone_wf (s : State) (h : Memory.wf s = true) : Leads (execCmpContainerDone s) (Memory.wf · = true) := by
  obtain ⟨hram, hnor, hnand⟩ := (Memory.wf_iff s).1 h
  unfold execCmpContainerDone
  repeat' split
  all_goals simp [Memory.wf_iff, *]

theorem execHello_wf (side : Side) (burst : LinkBurst) (s : State) (h : Memory.wf s = true) :
    Leads (execHello side burst s) (Memory.wf · = true) := by
  obtain ⟨hram, hnor, hnand⟩ := (Memory.wf_iff s).1 h
  simp [execHello, Memory.wf_iff, *]

theorem execFinish_wf (side : Side) (burst : LinkBurst) (s : State) (h : Memory.wf s = true) :
    Leads (execFinish side burst s) (Memory.wf · = true) := by
  obtain ⟨hram, hnor, hnand⟩ := (Memory.wf_iff s).1 h
  simp [execFinish, Memory.wf_iff, *]

theorem execApprovalBundleCheckDone_wf (s : State) (h : Memory.wf s = true) :
    Leads (execApprovalBundleCheckDone s) (Memory.wf · = true) := by
  obtain ⟨hram, hnor, hnand⟩ := (Memory.wf_iff s).1 h
  unfold execApprovalBundleCheckDone
  dsimp only
  repeat' split
  all_goals simp [Memory.wf_iff, *]

theorem execSecFwUpdate_wf (mb : Mb) (s : State) (h : Memory.wf s = true) : Leads (execSecFwUpdate mb s) (Memory.wf · = true) := by
  unfold execSecFwUpdate
  refine State.serve_wf h fun p t ht => ?_
  obtain ⟨hram, hnor, hnand⟩ := (Memory.wf_iff t).1 ht
  unfold runFwUpdate
  dsimp only
  repeat' split
  all_goals simp [Memory.wf_iff, *]

theorem execHlActivityQualified_wf (side : Side) (s : State) (h : Memory.wf s = true) :
    Leads (execHlActivityQualified side s) (Memory.wf · = true) := by
  obtain ⟨hram, hnor, hnand⟩ := (Memory.wf_iff s).1 h
  unfold execHlActivityQualified
  dsimp only
  repeat' split
  all_goals simp [Memory.wf_iff, *]

theorem execHlWakePattern_wf (side : Side) (s : State) (h : Memory.wf s = true) :
    Leads (execHlWakePattern side s) (Memory.wf · = true) := by
  obtain ⟨hram, hnor, hnand⟩ := (Memory.wf_iff s).1 h
  unfold execHlWakePattern
  dsimp only
  repeat' split
  all_goals simp [Memory.wf_iff, *]

theorem execHlEqualizeDone_wf (side : Side) (eyes : List LaneEye) (s : State) (h : Memory.wf s = true) :
    Leads (execHlEqualizeDone side eyes s) (Memory.wf · = true) := by
  obtain ⟨hram, hnor, hnand⟩ := (Memory.wf_iff s).1 h
  unfold execHlEqualizeDone
  dsimp only
  repeat' split
  all_goals simp [Memory.wf_iff, *]

theorem execHlDeskewDone_wf (side : Side) (skew : BitVec 16) (lanes : DeskewLanes) (s : State) (h : Memory.wf s = true) :
    Leads (execHlDeskewDone side skew lanes s) (Memory.wf · = true) := by
  obtain ⟨hram, hnor, hnand⟩ := (Memory.wf_iff s).1 h
  unfold execHlDeskewDone
  dsimp only
  repeat' split
  all_goals simp [Memory.wf_iff, *]

theorem execHlTrainTimeout_wf (side : Side) (lane : BitVec 8) (s : State) (h : Memory.wf s = true) :
    Leads (execHlTrainTimeout side lane s) (Memory.wf · = true) := by
  obtain ⟨hram, hnor, hnand⟩ := (Memory.wf_iff s).1 h
  unfold execHlTrainTimeout
  repeat' split
  all_goals simp [Memory.wf_iff, *]

theorem execHlClockLost_wf (side : Side) (activity : Bool) (s : State) (h : Memory.wf s = true) :
    Leads (execHlClockLost side activity s) (Memory.wf · = true) := by
  obtain ⟨hram, hnor, hnand⟩ := (Memory.wf_iff s).1 h
  unfold execHlClockLost
  dsimp only
  repeat' split
  all_goals simp [Memory.wf_iff, *]

theorem execHlBlockError_wf (side : Side) (lane : Fin 8) (incoming : Nat × LinkBlock) (s : State) (h : Memory.wf s = true) :
    Leads (execHlBlockError side lane incoming s) (Memory.wf · = true) := by
  obtain ⟨hram, hnor, hnand⟩ := (Memory.wf_iff s).1 h
  unfold execHlBlockError
  repeat' split
  all_goals simp [Memory.wf_iff, *]

theorem execHlTs1Retrain_wf (incoming : Side × List LinkBlock) (s : State) (h : Memory.wf s = true) :
    Leads (execHlTs1Retrain incoming s) (Memory.wf · = true) := by
  obtain ⟨hram, hnor, hnand⟩ := (Memory.wf_iff s).1 h
  unfold execHlTs1Retrain
  dsimp only
  repeat' split
  all_goals simp [Memory.wf_iff, *]

theorem execHlSof_wf (incoming : Side × List LinkBlock) (s : State) (h : Memory.wf s = true) :
    Leads (execHlSof incoming s) (Memory.wf · = true) := by
  obtain ⟨hram, hnor, hnand⟩ := (Memory.wf_iff s).1 h
  unfold execHlSof
  dsimp only
  repeat' split
  all_goals simp [Memory.wf_iff, *]

theorem execHlEios_wf (s : State) (h : Memory.wf s = true) : Leads (execHlEios s) (Memory.wf · = true) := by
  obtain ⟨hram, hnor, hnand⟩ := (Memory.wf_iff s).1 h
  unfold execHlEios
  repeat' split
  all_goals simp [Memory.wf_iff, *]

theorem execHlFs_wf (side : Side) (at_ : Nat) (sets : List (List LinkBlock)) (s : State) (h : Memory.wf s = true) :
    Leads (execHlFs side at_ sets s) (Memory.wf · = true) := by
  obtain ⟨hram, hnor, hnand⟩ := (Memory.wf_iff s).1 h
  simp [execHlFs, Memory.wf_iff, *]

theorem execHlRow_wf (side : Side) (at_ : Nat) (first : List LinkBlock) (rest : List (List LinkBlock)) (s : State) (h : Memory.wf s = true) :
    Leads (execHlRow side at_ first rest s) (Memory.wf · = true) := by
  obtain ⟨hram, hnor, hnand⟩ := (Memory.wf_iff s).1 h
  simp [execHlRow, Memory.wf_iff, *]

theorem execHlFe_wf (side : Side) (at_ : Nat) (sets : List (List LinkBlock)) (s : State) (h : Memory.wf s = true) :
    Leads (execHlFe side at_ sets s) (Memory.wf · = true) := by
  obtain ⟨hram, hnor, hnand⟩ := (Memory.wf_iff s).1 h
  simp [execHlFe, Memory.wf_iff, *]

theorem execHlSurf_wf (side : Side) (at_ : Nat) (sets : List (List LinkBlock)) (s : State) (h : Memory.wf s = true) :
    Leads (execHlSurf side at_ sets s) (Memory.wf · = true) := by
  obtain ⟨hram, hnor, hnand⟩ := (Memory.wf_iff s).1 h
  simp [execHlSurf, Memory.wf_iff, *]

theorem execHlSleep_wf (side : Side) (burst : LinkBurst) (s : State) (h : Memory.wf s = true) :
    Leads (execHlSleep side burst s) (Memory.wf · = true) := by
  obtain ⟨hram, hnor, hnand⟩ := (Memory.wf_iff s).1 h
  simp [execHlSleep, Memory.wf_iff, *]

theorem execHlKeep_wf (side : Side) (burst : LinkBurst) (s : State) (h : Memory.wf s = true) :
    Leads (execHlKeep side burst s) (Memory.wf · = true) := by
  obtain ⟨hram, hnor, hnand⟩ := (Memory.wf_iff s).1 h
  simp [execHlKeep, Memory.wf_iff, *]

theorem execPacketHeaderCrcFail_wf (incoming : Side × LinkBurst) (s : State) (h : Memory.wf s = true) :
    Leads (execPacketHeaderCrcFail incoming s) (Memory.wf · = true) := by
  obtain ⟨hram, hnor, hnand⟩ := (Memory.wf_iff s).1 h
  simp [execPacketHeaderCrcFail, Memory.wf_iff, *]

theorem execHlUnknownPkt_wf (incoming : Side × LinkBurst) (s : State) (h : Memory.wf s = true) :
    Leads (execHlUnknownPkt incoming s) (Memory.wf · = true) := by
  obtain ⟨hram, hnor, hnand⟩ := (Memory.wf_iff s).1 h
  simp [execHlUnknownPkt, Memory.wf_iff, *]

theorem execFrameStart_wf (at_ : Nat) (fifoA fifoB : BitVec 6) (s : State) (h : Memory.wf s = true) :
    Leads (execFrameStart at_ fifoA fifoB s) (Memory.wf · = true) := by
  obtain ⟨hram, hnor, hnand⟩ := (Memory.wf_iff s).1 h
  unfold execFrameStart
  dsimp only
  repeat' split
  all_goals simp [Memory.wf_iff, *]

theorem execRowSlotStart_wf (at_ : Nat) (bursts : List Burst) (blockFail nextFail : Bool) (s : State) (h : Memory.wf s = true) :
    Leads (execRowSlotStart at_ bursts blockFail nextFail s) (Memory.wf · = true) := by
  obtain ⟨hram, hnor, hnand⟩ := (Memory.wf_iff s).1 h
  unfold execRowSlotStart
  dsimp only
  repeat' split
  all_goals simp [Memory.wf_iff, *]

theorem execRepeatDeadline_wf (tick : FrameTick) (s : State) (h : Memory.wf s = true) :
    Leads (execRepeatDeadline tick s) (Memory.wf · = true) := by
  obtain ⟨hram, hnor, hnand⟩ := (Memory.wf_iff s).1 h
  unfold execRepeatDeadline
  dsimp only
  repeat' split
  all_goals simp [Memory.wf_iff, *]

theorem execPredictiveRepeat_wf (tick : FrameTick) (s : State) (h : Memory.wf s = true) :
    Leads (execPredictiveRepeat tick s) (Memory.wf · = true) := by
  obtain ⟨hram, hnor, hnand⟩ := (Memory.wf_iff s).1 h
  unfold execPredictiveRepeat
  dsimp only
  repeat' split
  all_goals simp [Memory.wf_iff, *]

theorem execTimingGeneratorPeriod_wf (tick : FrameTick) (s : State) (h : Memory.wf s = true) :
    Leads (execTimingGeneratorPeriod tick s) (Memory.wf · = true) := by
  obtain ⟨hram, hnor, hnand⟩ := (Memory.wf_iff s).1 h
  unfold execTimingGeneratorPeriod
  dsimp only
  repeat' split
  all_goals simp [Memory.wf_iff, *]

theorem execSenseReturnReply_wf (lane : Fin 6) (codes : List (BitVec 10)) (s : State) (h : Memory.wf s = true) :
    Leads (execSenseReturnReply lane codes s) (Memory.wf · = true) := by
  obtain ⟨hram, hnor, hnand⟩ := (Memory.wf_iff s).1 h
  simp [execSenseReturnReply, Memory.wf_iff, *]

theorem execReplyTimeout_wf (lane : Fin 6) (s : State) (h : Memory.wf s = true) : Leads (execReplyTimeout lane s) (Memory.wf · = true) := by
  obtain ⟨hram, hnor, hnand⟩ := (Memory.wf_iff s).1 h
  simp [execReplyTimeout, Memory.wf_iff, *]

theorem execTempPoll_wf (s : State) (h : Memory.wf s = true) : Leads (execTempPoll s) (Memory.wf · = true) := by
  obtain ⟨hram, hnor, hnand⟩ := (Memory.wf_iff s).1 h
  unfold execTempPoll
  repeat' split
  all_goals simp [Memory.wf_iff, *]

theorem execMapStoreDone_wf (table : BitVec 16) (failed : Bool) (s : State) (h : Memory.wf s = true) :
    Leads (execMapStoreDone table failed s) (Memory.wf · = true) := by
  obtain ⟨hram, hnor, hnand⟩ := (Memory.wf_iff s).1 h
  unfold execMapStoreDone
  dsimp only
  repeat' split
  all_goals simp [Memory.wf_iff, *]

theorem execRestSweepRow_wf (results : List (BitVec 16)) (s : State) (h : Memory.wf s = true) :
    Leads (execRestSweepRow results s) (Memory.wf · = true) := by
  obtain ⟨hram, hnor, hnand⟩ := (Memory.wf_iff s).1 h
  unfold execRestSweepRow
  dsimp only
  repeat' split
  all_goals simp [Memory.wf_iff, *]

theorem execRestLimitExpiry_wf (s : State) (h : Memory.wf s = true) : Leads (execRestLimitExpiry s) (Memory.wf · = true) := by
  obtain ⟨hram, hnor, hnand⟩ := (Memory.wf_iff s).1 h
  unfold execRestLimitExpiry
  repeat' split
  all_goals simp [Memory.wf_iff, *]

theorem execBobbinTrainingPhaseEnd_wf (s : State) (h : Memory.wf s = true) : Leads (execBobbinTrainingPhaseEnd s) (Memory.wf · = true) := by
  obtain ⟨hram, hnor, hnand⟩ := (Memory.wf_iff s).1 h
  unfold execBobbinTrainingPhaseEnd
  repeat' split
  all_goals simp [Memory.wf_iff, *]

theorem execPanelPowerOffStep_wf (s : State) (h : Memory.wf s = true) : Leads (execPanelPowerOffStep s) (Memory.wf · = true) := by
  obtain ⟨hram, hnor, hnand⟩ := (Memory.wf_iff s).1 h
  unfold execPanelPowerOffStep
  dsimp only
  repeat' split
  all_goals simp [Memory.wf_iff, *]

theorem execCtlCsWake_wf (s : State) (h : Memory.wf s = true) : Leads (execCtlCsWake s) (Memory.wf · = true) := by
  obtain ⟨hram, hnor, hnand⟩ := (Memory.wf_iff s).1 h
  unfold execCtlCsWake
  repeat' split
  all_goals simp [Memory.wf_iff, *]

theorem execSvcAddressMatch_wf (s : State) (h : Memory.wf s = true) : Leads (execSvcAddressMatch s) (Memory.wf · = true) := by
  obtain ⟨hram, hnor, hnand⟩ := (Memory.wf_iff s).1 h
  simp [execSvcAddressMatch, Memory.wf_iff, *]

theorem execPicotActivity_wf (s : State) (h : Memory.wf s = true) : Leads (execPicotActivity s) (Memory.wf · = true) := by
  obtain ⟨hram, hnor, hnand⟩ := (Memory.wf_iff s).1 h
  simp [execPicotActivity, Memory.wf_iff, *]

theorem execWakeTimerExpiry_wf (s : State) (h : Memory.wf s = true) : Leads (execWakeTimerExpiry s) (Memory.wf · = true) := by
  obtain ⟨hram, hnor, hnand⟩ := (Memory.wf_iff s).1 h
  unfold execWakeTimerExpiry
  repeat' split
  all_goals simp [Memory.wf_iff, *]

theorem execDomainEntryDone_wf (d : Fin 19) (s : State) (h : Memory.wf s = true) :
    Leads (execDomainEntryDone d s) (Memory.wf · = true) := by
  obtain ⟨hram, hnor, hnand⟩ := (Memory.wf_iff s).1 h
  unfold execDomainEntryDone
  repeat' split
  all_goals simp [Memory.wf_iff, *]

theorem execDomainWakeDone_wf (d : Fin 19) (s : State) (h : Memory.wf s = true) : Leads (execDomainWakeDone d s) (Memory.wf · = true) := by
  obtain ⟨hram, hnor, hnand⟩ := (Memory.wf_iff s).1 h
  unfold execDomainWakeDone
  repeat' split
  all_goals simp [Memory.wf_iff, *]

theorem execWakeFailureTimeout_wf (d : Fin 19) (clockLock : Bool) (s : State) (h : Memory.wf s = true) :
    Leads (execWakeFailureTimeout d clockLock s) (Memory.wf · = true) := by
  obtain ⟨hram, hnor, hnand⟩ := (Memory.wf_iff s).1 h
  unfold execWakeFailureTimeout
  repeat' split
  all_goals simp [Memory.wf_iff, *]

end Sys2Proof.Machine
end

section
/-! CLAIM O6. Each command keeps the memories' form: one that may not change a memory by its frame, the others by their own lemmas. -/

namespace Sys2Proof.Machine

theorem exec_wf_of_changes (c : Instr) (s : State) (h : Memory.wf s = true) (hram : .gddr7 ∉ changes c := by simp [changes.eq_def])
    (hnor : .nor ∉ changes c := by simp [changes.eq_def]) (hnand : .nand ∉ changes c := by simp [changes.eq_def]) : Leads (exec c s) (Memory.wf · = true) :=
  fun t ht => (exec_keeps c s t ht).memoryWf h hram hnor hnand

theorem exec_wf (c : Instr) (s : State) (h : Memory.wf s = true) : Leads (exec c s) (Memory.wf · = true) := by
  cases c
  case aonPowerUp vinMv => exact execAonPowerUp_wf vinMv s h
  case bootWatchdogExpiry => exact execBootWatchdogExpiry_wf s h
  case firmwareWatchdogExpiry => exact execFirmwareWatchdogExpiry_wf s h
  case samplerScanDone => exact execSamplerScanDone_wf s h
  case memReady => exact execMemReady_wf s h
  case persistedTableLoadDone table => exact execPersistedTableLoadDone_wf table s h
  case mapLoadDone => exact execMapLoadDone_wf s h
  case rasterStart tick => exact execRasterStart_wf tick s h
  case stressSnapshotLoadDone => exact execStressSnapshotLoadDone_wf s h
  case clipLoadDone inst => exact execClipLoadDone_wf inst s h
  case resetNAssert => exact execResetNAssert_wf s h
  case lockstepReset => exact execLockstepReset_wf s h
  case pllLossOfLock => exact execPllLossOfLock_wf s h
  case undervoltageLockout => exact execUndervoltageLockout_wf s h
  case hardwareSafeStopEnd => exact execHardwareSafeStopEnd_wf s h
  case thermalSample die mem0 mem1 => exact execThermalSample_wf die mem0 mem1 s h
  case pfwAssert vinMv => exact execPfwAssert_wf vinMv s h
  case pfwSaveDone => exact execPfwSaveDone_wf s h
  case regWrite port access => exact execRegWrite_wf port access s h
  case resetKeyWrite port data => exact execResetKeyWrite_wf port data s h
  case ctlPacket side burst => exact execCtlPacket_wf side burst s h
  case funcStop mb => exact execFuncStop_wf mb s h
  case funcStart mb => exact execFuncStart_wf mb s h
  case modeChange mb => exact execModeChange_wf mb s h
  case funcReset mb => exact execFuncReset_wf mb s h
  case tableLoad mb => exact execTableLoad_wf mb s h
  case standbyEntry => exact execStandbyEntry_wf s h
  case nvWriteRecord mb => exact execNvWriteRecord_wf mb s h
  case norProgramDone mismatch => exact execNorProgramDone_wf mismatch s h
  case nvRawProgram mb => exact execNvRawProgram_wf mb s h
  case nvEraseDone failed => exact execNvEraseDone_wf failed s h
  case samplerCompaction bank1 => exact execSamplerCompaction_wf bank1 s h
  case nandStoreDone object failed => exact execNandStoreDone_wf object failed s h
  case cmpContainerDone => exact execCmpContainerDone_wf s h
  case hello side burst => exact execHello_wf side burst s h
  case finish side burst => exact execFinish_wf side burst s h
  case approvalBundleCheckDone => exact execApprovalBundleCheckDone_wf s h
  case secFwUpdate mb => exact execSecFwUpdate_wf mb s h
  case panelOff mb => exact execPanelOff_wf mb s h
  case panelSafeStop mb => exact execPanelSafeStop_wf mb s h
  case hlActivityQualified side => exact execHlActivityQualified_wf side s h
  case hlWakePattern side => exact execHlWakePattern_wf side s h
  case hlEqualizeDone side eyes => exact execHlEqualizeDone_wf side eyes s h
  case hlDeskewDone side skew lanes => exact execHlDeskewDone_wf side skew lanes s h
  case hlTrainTimeout side lane => exact execHlTrainTimeout_wf side lane s h
  case hlClockLost side activity => exact execHlClockLost_wf side activity s h
  case hlBlockError side lane incoming => exact execHlBlockError_wf side lane incoming s h
  case hlTs1Retrain incoming => exact execHlTs1Retrain_wf incoming s h
  case hlSof incoming => exact execHlSof_wf incoming s h
  case hlEios => exact execHlEios_wf s h
  case hlFs side at_ sets => exact execHlFs_wf side at_ sets s h
  case hlRow side at_ first rest => exact execHlRow_wf side at_ first rest s h
  case hlFe side at_ sets => exact execHlFe_wf side at_ sets s h
  case hlSurf side at_ sets => exact execHlSurf_wf side at_ sets s h
  case hlSleep side burst => exact execHlSleep_wf side burst s h
  case hlKeep side burst => exact execHlKeep_wf side burst s h
  case packetHeaderCrcFail incoming => exact execPacketHeaderCrcFail_wf incoming s h
  case hlUnknownPkt incoming => exact execHlUnknownPkt_wf incoming s h
  case frameStart at_ fifoA fifoB => exact execFrameStart_wf at_ fifoA fifoB s h
  case rowSlotStart at_ bursts blockFail nextFail => exact execRowSlotStart_wf at_ bursts blockFail nextFail s h
  case repeatDeadline tick => exact execRepeatDeadline_wf tick s h
  case predictiveRepeat tick => exact execPredictiveRepeat_wf tick s h
  case timingGeneratorPeriod tick => exact execTimingGeneratorPeriod_wf tick s h
  case senseReturnReply lane codes => exact execSenseReturnReply_wf lane codes s h
  case replyTimeout lane => exact execReplyTimeout_wf lane s h
  case tempPoll => exact execTempPoll_wf s h
  case snapshotComplete failed => exact execSnapshotComplete_wf failed s h
  case mapStoreDone table failed => exact execMapStoreDone_wf table failed s h
  case restSweepRow results => exact execRestSweepRow_wf results s h
  case restLimitExpiry => exact execRestLimitExpiry_wf s h
  case bobbinTrainingPhaseEnd => exact execBobbinTrainingPhaseEnd_wf s h
  case dischargeStepEnd => exact execDischargeStepEnd_wf s h
  case panelPowerOffStep => exact execPanelPowerOffStep_wf s h
  case ctlCsWake => exact execCtlCsWake_wf s h
  case svcAddressMatch => exact execSvcAddressMatch_wf s h
  case picotActivity => exact execPicotActivity_wf s h
  case wakeTimerExpiry => exact execWakeTimerExpiry_wf s h
  case domainEntryDone d => exact execDomainEntryDone_wf d s h
  case domainWakeDone d => exact execDomainWakeDone_wf d s h
  case wakeFailureTimeout d clockLock => exact execWakeFailureTimeout_wf d clockLock s h
  case updatePassDone => exact execUpdatePassDone_wf s h
  all_goals exact exec_wf_of_changes _ s h

theorem State.idleTick_wf (s : State) (h : Memory.wf s = true) : Memory.wf s.idleTick = true :=
  Memory.wf_of_eq h (by simp) (by simp) (by simp)

/-- Settles O6: the idle tick touches no memory, and every command keeps the form. -/
theorem stepKeepsMemoryCanonical : Obligations.StepKeepsMemoryCanonical := by
  intro s t h ht
  unfold step at ht
  split at ht
  · cases ht
    exact s.idleTick_wf h
  next c rest _ => exact exec_wf c { s with pending := rest } (Memory.wf_of_eq h rfl rfl rfl) t ht

end Sys2Proof.Machine
end

section
/-! CLAIMS O1, O2, O4, O5, O7. A step, the idle tick, the state after reset, and the memories read back. -/

namespace Sys2Proof.Machine

/-- Settles O1: the head of the queue decides the branch of `step`. -/
theorem stepRunsTheFrontCommand : Obligations.StepRunsTheFrontCommand := by
  intro c rest s h
  simp only [step, h]

theorem State.elapse_of_lt {s : State} {t : Nat} (h : s.now < t) : s.elapse t = { s.passTicks (t / 1000 - s.now / 1000) with now := t } :=
  if_neg (Nat.not_le.2 h)

@[simp] theorem State.elapse_now (s : State) (t : Nat) : (s.elapse t).now = max s.now t := by
  unfold State.elapse
  split
  · omega
  · simp only
    omega

@[simp] theorem State.idleTick_now (s : State) : s.idleTick.now = s.now + 1000 := by
  simp [State.idleTick, State.tatDrain]

theorem State.idleTick_devTime (s : State) : s.idleTick.devTime = (s.devTime + 1) % 2 ^ 48 := by
  simp only [State.devTime, State.idleTick_now]
  omega

/-- A port whose latest message has left goes on to the next; any other keeps its queue. -/
theorem TatPortState.send_tx (p : TatPortState) (now : Nat) : (p.send now).tx = if now < p.txAt then p.tx else p.tx.drop 1 := by
  unfold TatPortState.send
  split
  next h => simp [h]
  next h =>
    rw [h]
    split
    · exact h
    · rfl

theorem State.tatDrain_port (s : State) (p : TatPort) : s.tatDrain.tat.port p = (s.tat.port p).send s.now := by
  cases p <;> rfl

/-- Settles O2: the tick is `idleTick`, which lets time pass and then drains the Tatting ports. -/
theorem emptyQueueIsOneTick : Obligations.EmptyQueueIsOneTick := by
  intro s h
  refine ⟨s.idleTick, by simp only [step, h], s.idleTick_now, s.idleTick_devTime, fun p => ?_, by simp, by simp, by simp, by simp, by simp, by simp [h]⟩
  rw [State.idleTick, State.tatDrain_port, TatPortState.send_tx]
  simp [State.tatDrain]

/-- Settles O4: the reset state is closed, so each component is read off it. -/
theorem resetLeavesAonUp : Obligations.ResetLeavesAonUp := by
  refine ⟨rfl, rfl, rfl, rfl, rfl, rfl, by decide, fun i => ?_, rfl, rfl, rfl, rfl, rfl, rfl, rfl, rfl, rfl, rfl, rfl, rfl, rfl, rfl, rfl, rfl⟩
  cases i <;> rfl

/-- Settles O5: no cell of any memory is kept after reset. -/
theorem resetMemoryCanonical : Obligations.ResetMemoryCanonical := rfl

/-! ## Reading back -/

theorem State.ramWrite_ram {s : State} (h : Memory.wf s = true) (a : Nat) (bs : List Byte) (b : Nat) :
    (s.ramWrite a bs).ram b = if a ≤ b ∧ b < a + bs.length then bs.getD (b - a) 0 else s.ram b :=
  cellRead_writes ((Memory.wf_iff s).1 h).1 a bs b

/-- Bytes written to GDDR7 read back as they were written. -/
theorem State.ramWrite_ramBytes {s : State} (h : Memory.wf s = true) (a : Nat) (bs : List Byte) :
    (s.ramWrite a bs).ramBytes a bs.length = bs := by
  refine List.ext_getElem (by simp [State.ramBytes]) fun i hi hb => ?_
  simp [State.ramBytes, State.ramWrite_ram h, hb]

/-- NOR programming only clears bits, in the bytes it covers alone (R475). -/
theorem State.norProgram_norByte {s : State} (h : cellsWf flashBg s.nv.nor = true) (a : Nat) (bs : List Byte) (b : Nat) :
    (s.norProgram a bs).norByte b = if a ≤ b ∧ b < a + bs.length then s.norByte b &&& bs.getD (b - a) 0 else s.norByte b := by
  induction bs generalizing s a with
  | nil =>
    have : ¬(a ≤ b ∧ b < a) := by omega
    simp [State.norProgram, this]
  | cons v vs ih =>
    rw [State.norProgram, ih (cellsWf_write _ _ h)]
    simp only [State.norByte, cellRead_write h, List.length_cons]
    by_cases hb : b = a
    · have hout : ¬(a + 1 ≤ a ∧ a < a + 1 + vs.length) := by omega
      rw [hb, if_neg hout, if_pos rfl, if_pos (by omega)]
      simp
    · have hiff : (a + 1 ≤ b ∧ b < a + 1 + vs.length) ↔ a ≤ b ∧ b < a + (vs.length + 1) := by omega
      simp only [hiff, hb, if_false]
      split
      · have hsub : b - a = b - (a + 1) + 1 := by omega
        rw [hsub, List.getD_cons_succ]
      · rfl

theorem State.norErase_norByte (s : State) (a n b : Nat) : (s.norErase a n).norByte b = if a ≤ b ∧ b < a + n then 0xFF else s.norByte b := by
  have hread := cellRead_filter flashBg s.nv.nor (fun x => decide (x < a) || decide (a + n ≤ x)) b
  simp only [State.norByte, State.norErase, hread]
  by_cases hb : a ≤ b ∧ b < a + n
  · have hout : (decide (b < a) || decide (a + n ≤ b)) = false := by simp; omega
    simp [hout, hb, flashBg]
  · have hout : (decide (b < a) || decide (a + n ≤ b)) = true := by simp; omega
    simp [hout, hb]

/-- Settles O7: both memories are canonical lists of cells, read and written cell by cell. -/
theorem memoriesReadBackWhatIsWritten : Obligations.MemoriesReadBackWhatIsWritten := by
  refine ⟨fun s a bs h => ⟨State.ramWrite_ramBytes h a bs, fun b hb => ?_, ?_⟩, fun s a bs h => ⟨fun i hi => ?_, fun b hb => ?_, State.norErase_norByte s a⟩⟩
  · have hout : ¬(a ≤ b ∧ b < a + bs.length) := by omega
    simp [State.ramWrite_ram h, hout]
  · obtain ⟨hram, hnor, hnand⟩ := (Memory.wf_iff s).1 h
    exact (Memory.wf_iff _).2 ⟨cellsWf_writes a bs hram, hnor, hnand⟩
  · simp [State.norProgram_norByte ((Memory.wf_iff s).1 h).2.1, hi, byteAt]
  · have hout : ¬(a ≤ b ∧ b < a + bs.length) := by omega
    simp [State.norProgram_norByte ((Memory.wf_iff s).1 h).2.1, hout]

/-! ## The command's own definition -/

theorem exec_resonatorCheck (oscillates : Bool) (milliPercent : BitVec 32) (s : State) : exec (.resonatorCheck oscillates milliPercent) s = execResonatorCheck oscillates milliPercent s := rfl

theorem exec_bootRomCheckDone (readError : Bool) (s : State) : exec (.bootRomCheckDone readError) s = execBootRomCheckDone readError s := rfl

theorem exec_hardwareSafeStopEnd (s : State) : exec .hardwareSafeStopEnd s = execHardwareSafeStopEnd s := rfl

theorem exec_pfwRecoverExpiry (s : State) : exec .pfwRecoverExpiry s = execPfwRecoverExpiry s := rfl

theorem exec_thmReleaseExpiry (s : State) : exec .thmReleaseExpiry s = execThmReleaseExpiry s := rfl

theorem exec_ctlReadStatus (s : State) : exec .ctlReadStatus s = execCtlReadStatus s := rfl

theorem exec_timeLoRead (port : Port) (s : State) : exec (.timeLoRead port) s = execTimeLoRead port s := rfl

theorem exec_regWrite (port : Port) (access : RegAccess) (s : State) : exec (.regWrite port access) s = execRegWrite port access s := rfl

theorem exec_svcStop (leftover : BitVec 2) (s : State) : exec (.svcStop leftover) s = execSvcStop leftover s := rfl

theorem exec_ctlCsNRise (leftover : BitVec 5) (s : State) : exec (.ctlCsNRise leftover) s = execCtlCsNRise leftover s := rfl

end Sys2Proof.Machine
end

section
/-! SUPPORT. What the operations of start-up and reset make of STAGE, FAULT_CAUSE and the domains. -/

namespace Sys2Proof.Machine

theorem BitVec.or_twoPow_of_getLsbD {x : BitVec 32} {b : Nat} (h : x.getLsbD b = true) : x ||| BitVec.ofNat 32 (2 ^ b) = x := by
  refine BitVec.eq_of_getLsbD_eq fun i hi => ?_
  rw [BitVec.getLsbD_or, BitVec.getLsbD_ofNat, Nat.testBit_two_pow]
  by_cases hb : b = i
  · simp [← hb, h]
  · simp [hb]

@[simp] theorem State.setStage_boot (s : State) (g : Stage) : (s.setStage g).boot =
    { s.boot with stage := g, stepMs := if s.boot.stage = g then s.boot.stepMs else sat 4095 ((s.now + s.boot.startLead - s.boot.startAt) / ms 1) } := by
  unfold State.setStage
  split
  next h => simp [← h]
  next h => simp [State.irq]

@[simp] theorem State.faultBit_boot (s : State) (b : Nat) : (s.faultBit b).boot =
    { s.boot with faultCause := s.boot.faultCause ||| BitVec.ofNat 32 (2 ^ b) } := by
  unfold State.faultBit
  split
  next h => rw [BitVec.or_twoPow_of_getLsbD h]
  next h => rfl

@[simp] theorem State.faultClear_boot (s : State) (b : Nat) : (s.faultClear b).boot =
    { s.boot with faultCause := s.boot.faultCause &&& ~~~(BitVec.ofNat 32 (2 ^ b)) } := rfl

@[simp] theorem State.limpMark_boot (s : State) (why : Nat) : (s.limpMark why).boot =
    { s.boot with limp := true, rootLocked := false, faultCause := s.boot.faultCause ||| 1#32 } := by
  simp [State.limpMark]

theorem State.onDom_st (s : State) (d e : Fin 19) (f : Domain → Domain) :
    (s.onDom d f).pwr.dom[e].st = if e = d then (f s.pwr.dom[d]).st else s.pwr.dom[e].st := by
  unfold State.onDom
  simp only [Fin.getElem_fin, Vector.getElem_set]
  by_cases h : e = d
  · simp [h]
  · simp [h, Fin.val_ne_of_ne (Ne.symm h)]

/-- CTRL is on once it starts, and no other domain's state is touched. -/
theorem State.ctrlStarts_st (s : State) (d : Fin 19) : s.ctrlStarts.pwr.dom[d].st = if d = dCtrl then .on else s.pwr.dom[d].st := by
  simp only [State.ctrlStarts, State.irq_frame]
  exact s.onDom_st dCtrl d _

@[simp] theorem State.ctrlStarts_domOn (s : State) : s.ctrlStarts.domOn dCtrl = true := by
  rw [State.domOn, s.ctrlStarts_st dCtrl]
  rfl

@[simp] theorem State.setStage_domOn (s : State) (g : Stage) (d : Fin 19) : (s.setStage g).domOn d = s.domOn d := by
  simp [State.domOn]

@[simp] theorem State.faultBit_domOn (s : State) (b : Nat) (d : Fin 19) : (s.faultBit b).domOn d = s.domOn d := by
  simp [State.domOn]

@[simp] theorem State.limpRuns_boot (s : State) : s.limpRuns.boot = (s.setStage .limp).boot := by
  simp [State.limpRuns]

@[simp] theorem State.limpRuns_domOn (s : State) : s.limpRuns.domOn dCtrl = true := by
  rw [State.limpRuns, State.setStage_domOn, State.ctrlStarts_domOn]

/-- An event joins the queue's end while there is room for it (R450). -/
theorem State.event_entries (s : State) (code : Nat) (sev : Severity) (logged : Bool) (source data : Nat) (h : s.evq.entries.length < 256) :
    ∃ e, (s.event code sev logged source data).evq.entries = s.evq.entries ++ [e] ∧ e.code = BitVec.ofNat 16 code ∧ e.source = BitVec.ofNat 8 source := by
  refine ⟨s.entry code sev (logged && decide (sev.code ≥ s.param 0x1403)) source data, ?_, rfl, rfl⟩
  have hroom : ¬ s.evq.entries.length ≥ 256 := Nat.not_le.2 h
  unfold State.event State.queueEvent
  dsimp only
  rw [if_neg hroom]
  split
  all_goals simp [State.irq]

theorem State.settle_boot (s : State) : s.settle.boot = s.boot := by simp

theorem State.settle_vin (s : State) : s.settle.vin = s.vin := by simp

theorem State.settle_thm (s : State) : s.settle.thm = s.thm := by simp

theorem State.settle_nv (s : State) : s.settle.nv = s.nv := by simp

theorem State.settle_pnl (s : State) : s.settle.pnl = s.pnl := by simp

theorem State.settle_mem (s : State) : s.settle.mem = s.mem := by simp

end Sys2Proof.Machine
end

section
/-! CLAIMS O8, O9. AON power-up, the checks taken once, and the boot ROM's slots. -/

namespace Sys2Proof.Machine

/-- In limp mode CTRL runs and FAULT_CAUSE names the clock (R103). -/
theorem State.enterLimp_runs (s : State) (why : Nat) : (s.enterLimp why).boot.limp = true ∧ (s.enterLimp why).boot.stage = .limp ∧
    (s.enterLimp why).boot.faultCause.getLsbD 0 = true ∧ (s.enterLimp why).domOn dCtrl = true := by
  have hboot : (s.enterLimp why).boot = ((s.limpMark why).setStage .limp).boot := State.limpRuns_boot _
  exact ⟨by simp [hboot], by simp [hboot], by simp [hboot], State.limpRuns_domOn _⟩

/-- Settles O8: a power-up and a lockout rebuild the state, and each strap input is refused once it is taken. -/
theorem powerUpIsTakenOnce : Obligations.PowerUpIsTakenOnce := by
  refine ⟨?powerUp, ?ignored, ?lockout, ?straps, ?vinBoot, ?resonator, ?limp⟩
  case powerUp =>
    intro v s hoff hv
    have hgood : ¬ v.toNat < vinGoodMv := by simpa [vinGoodMv] using hv
    have hgo : ¬ (s.boot.powered || v.toNat < vinGoodMv) = true := by simp [hoff, hgood]
    exact ⟨_, if_neg hgo, rfl, rfl, rfl, rfl, rfl, rfl, rfl, rfl, rfl⟩
  case ignored =>
    intro v s h
    have h' : s.boot.powered = true ∨ v.toNat < vinGoodMv := h
    exact if_pos (by simpa using h')
  case lockout =>
    intro s
    have hoff : ∀ d : Fin 19, State.reset.pwr.dom[d].st = .off := by decide
    exact ⟨_, rfl, rfl, rfl, rfl, hoff, rfl, rfl, rfl⟩
  case straps =>
    intro x s hp hd
    exact if_neg (by simp [hp, hd])
  case vinBoot =>
    intro v s hp hd
    exact if_neg (by simp [hp, hd])
  case resonator =>
    intro m s hp hd hlo hhi
    simp [exec_resonatorCheck, execResonatorCheck, hp, hd, hlo, hhi]
  case limp =>
    intro o m s hp hd hpin hbad
    have hbad' : (o && (decide (-15000 ≤ m.toInt) && decide (m.toInt ≤ 15000))) = false := by
      rcases hbad with h | h | h
      · simp [h]
      · simp [Int.not_le.2 h]
      · simp [Int.not_le.2 h]
    have hstep : exec (.resonatorCheck o m) s = done (State.limpAtCheck { s with
        boot := { s.boot with resonatorChecked := true, resonatorPpm10 := (State.takeFree s).1.toInt }, free := s.free + 1 } (if o then 2 else 1)) := by
      simp [exec_resonatorCheck, execResonatorCheck, hp, hd, hbad', State.takeFree]
    rw [State.limpAtCheck, if_neg (by simp [hpin])] at hstep
    obtain ⟨hlimp, hstage, hfault, hctrl⟩ := State.enterLimp_runs _ _
    exact ⟨_, hstep, by simpa using hlimp, by simpa using hstage, by simpa using hfault, by simpa using hctrl⟩

/-! ## The boot ROM -/

theorem State.enterRecovery_runs (s : State) : s.enterRecovery.boot.stage = .recovery ∧ s.enterRecovery.boot.faultCause.getLsbD 1 = true := by
  simp [State.enterRecovery]

@[simp] theorem State.enterRecovery_domOn (s : State) (d : Fin 19) : s.enterRecovery.domOn d = s.domOn d := by
  simp [State.domOn]

@[simp] theorem State.romStart_domOn (s : State) : s.romStart.domOn dCtrl = true := by
  unfold State.romStart
  dsimp only
  split
  · rw [State.enterRecovery_domOn, State.setStage_domOn, State.ctrlStarts_domOn]
  · exact (State.setStage_domOn _ _ _).trans (State.ctrlStarts_domOn _)

/-- With both slots marked the ROM goes straight to recovery; otherwise it checks the slot of R87 (R87, R89). -/
theorem State.romStart_boot (s : State) :
    s.romStart.boot.rootLocked = true ∧
    (if s.boot.failed0 && s.boot.failed1 then s.romStart.boot.stage = .recovery ∧ s.romStart.boot.faultCause.getLsbD 1 = true
     else s.romStart.boot.stage = .romVerify ∧ s.romStart.boot.checking = some s.slotTried ∧ s.romStart.boot.swapOnce = false) := by
  unfold State.romStart
  by_cases h : (s.boot.failed0 && s.boot.failed1) = true
  · simp [h, State.enterRecovery]
  · simp [h, State.slotTried, State.firstSlot]

/-- Unless both slots are marked, the slot of R87 is not. -/
theorem State.slotTried_not_failed (s : State) (h : (s.boot.failed0 && s.boot.failed1) = false) :
    (if s.slotTried then s.boot.failed1 else s.boot.failed0) = false := by
  unfold State.slotTried
  dsimp only
  by_cases hf : (if s.firstSlot then s.boot.failed1 else s.boot.failed0) = true
  · rw [if_pos hf]
    cases hslot : s.firstSlot
    · simpa [show s.boot.failed0 = true by simpa [hslot] using hf] using h
    · simpa [show s.boot.failed1 = true by simpa [hslot] using hf] using h
  · rw [if_neg hf]
    simpa using hf

/-- A check's outcome is kept for its slot alone. -/
theorem State.slotResult_kept (s : State) (slot : Bool) (r : SlotResult) :
    (if slot then (s.slotResult slot r).boot.result1 else (s.slotResult slot r).boot.result0) = r ∧ (s.slotResult slot r).boot.stage = s.boot.stage := by
  cases slot
  all_goals simp [State.slotResult]

/-- A slot that passes runs under the boot watchdog and counts as a boot (R87, R89). -/
theorem State.runSlot_runs (s : State) (slot : Bool) : (s.runSlot slot).boot.stage = .fwRunning ∧ (s.runSlot slot).boot.slot = slot ∧
    (s.runSlot slot).boot.checking = none ∧ (s.runSlot slot).boot.bootWdog = true ∧ (s.runSlot slot).nv.bootCount = s.nv.bootCount + 1 ∧
    (s.runSlot slot).boot.result0 = s.boot.result0 ∧ (s.runSlot slot).boot.result1 = s.boot.result1 := by
  simp [State.runSlot]

/-- Settles O9: the lock's slot and the failed check's follow-up are read off the boot part that `romStart` leaves. -/
theorem bootRomTriesTheSlots : Obligations.BootRomTriesTheSlots := by
  refine ⟨?lock, ?check⟩
  case lock =>
    intro s hp hpin hth hlimp hst hpr
    have hgo : exec .rootPllLock s = done s.romStart := if_neg (by simp [hp, hpin, hth, hlimp, hst, hpr])
    obtain ⟨hlock, hslot⟩ := s.romStart_boot
    refine ⟨_, hgo, by simp, by simpa using hlock, ?_⟩
    simp only [State.settle_frame]
    by_cases hboth : (s.boot.failed0 && s.boot.failed1) = true
    · rw [if_pos hboth] at hslot ⊢
      exact hslot
    · rw [if_neg hboth] at hslot ⊢
      obtain ⟨hst, hchecking, hswap⟩ := hslot
      exact ⟨hst, hchecking, s.slotTried_not_failed (by simpa using hboth), hswap⟩
  case check =>
    intro e slot s hc hst hon
    have hstep : exec (.bootRomCheckDone e) s = (if s.checkSlot slot e = .passed then done ((s.slotResult slot (s.checkSlot slot e)).runSlot slot)
        else if slot = s.boot.firstSlot && !(if !slot then s.boot.failed1 else s.boot.failed0) then
          done { s.slotResult slot (s.checkSlot slot e) with boot := { (s.slotResult slot (s.checkSlot slot e)).boot with checking := some (!slot) } }
        else done (s.slotResult slot (s.checkSlot slot e)).enterRecovery) := by
      simp [exec_bootRomCheckDone, execBootRomCheckDone, hc, hst, hon]
    have hother : (if !slot then s.boot.failed1 else s.boot.failed0) = if slot then s.boot.failed0 else s.boot.failed1 := by
      cases slot <;> rfl
    rw [hother] at hstep
    obtain ⟨hresult, hstage⟩ := s.slotResult_kept slot (s.checkSlot slot e)
    have hnv : (s.slotResult slot (s.checkSlot slot e)).nv = s.nv := by simp
    generalize s.slotResult slot (s.checkSlot slot e) = u at hstep hresult hstage hnv
    by_cases hpass : s.checkSlot slot e = .passed
    · rw [if_pos hpass] at hstep
      obtain ⟨hrun, hslot, hnone, hdog, hcount, h0, h1⟩ := u.runSlot_runs slot
      refine ⟨_, hstep, ?_, ?_⟩
      · simpa [h0, h1] using hresult
      · rw [if_pos hpass]
        simp [hrun, hslot, hnone, hdog, hcount, hnv]
    · rw [if_neg hpass] at hstep
      by_cases hgo : slot = s.boot.firstSlot ∧ (if slot then s.boot.failed0 else s.boot.failed1) = false
      · rw [if_pos (by simpa using hgo)] at hstep
        refine ⟨_, hstep, ?_, ?_⟩
        · simpa using hresult
        · rw [if_neg hpass, if_pos hgo]
          simp [hstage, hst]
      · rw [if_neg (by simpa using hgo)] at hstep
        refine ⟨_, hstep, ?_, ?_⟩
        · simpa [State.enterRecovery] using hresult
        · rw [if_neg hpass, if_neg hgo]
          simpa using u.enterRecovery_runs

end Sys2Proof.Machine
end

section
/-! SUPPORT. What a reset leaves of the device (R99, R102, R106). -/

namespace Sys2Proof.Machine

/-- `t` comes of `s` by a reset of `causes`: the parts that every reset restores, and those that it leaves. -/
structure State.resetTo (s t : State) (causes : BitVec 32) : Prop where
  par : t.par = State.reset.par
  box : t.box = State.reset.box
  cells : t.mem.cells = []
  nor : t.nv.nor = s.nv.nor
  nand : t.nv.nand = s.nv.nand
  now : t.now = s.now
  frame : t.ras.frame = s.ras.frame
  running : t.ras.running = false
  pnl : t.pnl.st = .off
  driven : t.sel.driven = false
  scratch : t.win.scratch0 = s.win.scratch0
  cause : t.boot.resetCause &&& causes = causes
  key : t.boot.key = none
  pending : t.boot.pendingReset = none
  failed0 : t.boot.failed0 = s.boot.failed0
  failed1 : t.boot.failed1 = s.boot.failed1
  swapOnce : t.boot.swapOnce = s.boot.swapOnce
  resetPin : t.boot.resetPin = s.boot.resetPin

theorem BitVec.or_and_self_right (x y : BitVec 32) : (x ||| y) &&& y = y := by
  ext i
  simp only [BitVec.getElem_and, BitVec.getElem_or]
  cases x[i] <;> simp

@[simp] theorem State.endSessions_atProfile_win (s : State) (cause : Nat) : (s.endSessions cause .atProfile).win = s.win := by
  unfold State.endSessions
  split
  · rfl
  · simp

@[simp] theorem State.faultBit_scratch0 (s : State) (b : Nat) : (s.faultBit b).win.scratch0 = s.win.scratch0 := by
  unfold State.faultBit
  split
  all_goals rfl

theorem State.resetCore_boot (s : State) (causes earliest : BitVec 32) (coincide : Bool) :
    (s.resetCore causes earliest coincide).boot = 
      { s.boot.cut s.now with
        resetCause := (s.resetCore causes earliest coincide).boot.resetCause, faultCause := (s.resetCore causes earliest coincide).boot.faultCause,
        updated := false, key := none, resetAt := some s.now, resetFirst := (s.resetCore causes earliest coincide).boot.resetFirst } := by
  unfold State.resetCore
  dsimp only
  split
  all_goals simp [State.wipe]

theorem State.resetCore_cause (s : State) (causes earliest : BitVec 32) (coincide : Bool) :
    (s.resetCore causes earliest coincide).boot.resetCause &&& causes = causes := by
  have hcause : (s.resetCore causes earliest coincide).boot.resetCause =
      if (s.boot.resetAt.any fun t => t / 1000 == s.now / 1000) then s.boot.resetCause ||| causes else causes := by
    unfold State.resetCore
    dsimp only
    split
    all_goals simp
  rw [hcause]
  split
  · exact BitVec.or_and_self_right _ _
  · exact BitVec.and_self

/-- A lockstep error is in FAULT_CAUSE after its reset. -/
theorem State.resetCore_lockstep (s : State) (causes earliest : BitVec 32) (coincide : Bool) (h : causes.getLsbD 3 = true) :
    (s.resetCore causes earliest coincide).boot.faultCause.getLsbD 3 = true := by
  unfold State.resetCore
  dsimp only
  rw [if_pos h]
  simp

theorem State.resetCore_st (s : State) (causes earliest : BitVec 32) (coincide : Bool) (d : Fin 19) :
    (s.resetCore causes earliest coincide).pwr.dom[d].st = .off := by
  unfold State.resetCore
  dsimp only
  split
  all_goals simp [State.wipe, Domain.cut, Domain.initial]

theorem State.resetCore_resetTo (s : State) (causes earliest : BitVec 32) (coincide : Bool) : s.resetTo (s.resetCore causes earliest coincide) causes := by
  have hboot := s.resetCore_boot causes earliest coincide
  have hcause := s.resetCore_cause causes earliest coincide
  constructor
  case cause => exact hcause
  case key => rw [hboot]
  case pending => rw [hboot]; rfl
  case failed0 => rw [hboot]; rfl
  case failed1 => rw [hboot]; rfl
  case swapOnce => rw [hboot]; rfl
  case resetPin => rw [hboot]; rfl
  all_goals
    unfold State.resetCore
    dsimp only
    split
    all_goals simp [State.wipe, Nv.cut, Window.afterReset, Mem.initial, Raster.initial, Panel.initial, State.reset]

/-- What follows a reset within its command changes no part that `resetTo` speaks of. -/
theorem State.resetTo.trans {s t u : State} {c : BitVec 32} (h : s.resetTo t c) (hpar : u.par = t.par := by simp) (hbox : u.box = t.box := by simp)
    (hmem : u.mem = t.mem := by simp) (hnv : u.nv = t.nv := by simp) (hnow : u.now = t.now := by simp) (hras : u.ras = t.ras := by simp)
    (hpnl : u.pnl = t.pnl := by simp) (hsel : u.sel = t.sel := by simp) (hwin : u.win.scratch0 = t.win.scratch0 := by simp)
    (hcause : u.boot.resetCause = t.boot.resetCause := by simp) (hkey : u.boot.key = t.boot.key := by simp)
    (hpending : u.boot.pendingReset = t.boot.pendingReset := by simp) (h0 : u.boot.failed0 = t.boot.failed0 := by simp)
    (h1 : u.boot.failed1 = t.boot.failed1 := by simp) (hswap : u.boot.swapOnce = t.boot.swapOnce := by simp)
    (hpin : u.boot.resetPin = t.boot.resetPin := by simp) : s.resetTo u c where
  par := hpar ▸ h.par
  box := hbox ▸ h.box
  cells := hmem ▸ h.cells
  nor := hnv ▸ h.nor
  nand := hnv ▸ h.nand
  now := hnow ▸ h.now
  frame := hras ▸ h.frame
  running := hras ▸ h.running
  pnl := hpnl ▸ h.pnl
  driven := hsel ▸ h.driven
  scratch := hwin ▸ h.scratch
  cause := hcause ▸ h.cause
  key := hkey ▸ h.key
  pending := hpending ▸ h.pending
  failed0 := h0 ▸ h.failed0
  failed1 := h1 ▸ h.failed1
  swapOnce := hswap ▸ h.swapOnce
  resetPin := hpin ▸ h.resetPin

@[simp] theorem State.setStage_scratch0 (s : State) (g : Stage) : (s.setStage g).win.scratch0 = s.win.scratch0 := by
  unfold State.setStage
  split
  all_goals rfl

@[simp] theorem State.limpMark_scratch0 (s : State) (why : Nat) : (s.limpMark why).win.scratch0 = s.win.scratch0 := by
  simp [State.limpMark]

@[simp] theorem State.limpRuns_scratch0 (s : State) : s.limpRuns.win.scratch0 = s.win.scratch0 := by
  simp [State.limpRuns, State.ctrlStarts, State.irq]

/-- The state that a reset leaves before its STAGE is set: a thermal shutdown and a PLL loss are marked (R99, R102, R103). -/
def State.resetMarks (s : State) (causes earliest : BitVec 32) (coincide : Bool) : State :=
  let s1 := s.resetCore causes earliest coincide
  let s2 := if causes.getLsbD 6 then State.faultBit { s1 with boot := { s1.boot with thermalOff := true } } 2 else s1
  if causes.getLsbD 7 && !s2.boot.limp then s2.limpMark 3 else s2

theorem State.resetTakes_eq (s : State) (causes earliest : BitVec 32) (coincide : Bool) : s.resetTakes causes earliest coincide =
    let u := s.resetMarks causes earliest coincide
    if u.boot.thermalOff then u.setStage .shutdown
    else if u.boot.resetPin then u.setStage .aonUp
    else if u.boot.limp then u.limpRuns
    else u.setStage .aonUp := rfl

theorem State.resetMarks_resetTo (s : State) (causes earliest : BitVec 32) (coincide : Bool) : s.resetTo (s.resetMarks causes earliest coincide) causes := by
  unfold State.resetMarks
  dsimp only
  have hcore := s.resetCore_resetTo causes earliest coincide
  split
  all_goals split
  all_goals exact hcore.trans

theorem State.resetMarks_boot (s : State) (causes earliest : BitVec 32) (coincide : Bool) :
    (s.resetMarks causes earliest coincide).boot.thermalOff = (s.boot.thermalOff || causes.getLsbD 6) ∧
    (s.resetMarks causes earliest coincide).boot.limp = (s.boot.limp || causes.getLsbD 7) := by
  have hthermal : (s.resetCore causes earliest coincide).boot.thermalOff = s.boot.thermalOff := by rw [s.resetCore_boot]; rfl
  have hlimp : (s.resetCore causes earliest coincide).boot.limp = s.boot.limp := by rw [s.resetCore_boot]; rfl
  unfold State.resetMarks
  cases h6 : causes.getLsbD 6
  all_goals cases h7 : causes.getLsbD 7
  all_goals cases hl : s.boot.limp
  all_goals simp [hthermal, hlimp, hl]

theorem State.resetMarks_st (s : State) (causes earliest : BitVec 32) (coincide : Bool) (d : Fin 19) :
    (s.resetMarks causes earliest coincide).pwr.dom[d].st = .off := by
  have hst := s.resetCore_st causes earliest coincide d
  unfold State.resetMarks
  dsimp only
  split
  all_goals split
  all_goals simpa using hst

theorem State.resetTakes_resetTo (s : State) (causes earliest : BitVec 32) (coincide : Bool) : s.resetTo (s.resetTakes causes earliest coincide) causes := by
  have hmarks := s.resetMarks_resetTo causes earliest coincide
  rw [State.resetTakes_eq]
  dsimp only
  repeat' split
  all_goals exact hmarks.trans

theorem State.settle_resetTo {s t : State} {c : BitVec 32} (h : s.resetTo t c) : s.resetTo t.settle c := h.trans

end Sys2Proof.Machine
end

section
/-! CLAIMS O11, O12. RESET_N, the causes that reset at once, and those that wait for the safe stop. -/

namespace Sys2Proof.Machine

theorem State.resetMarks_faultCause (s : State) (causes earliest : BitVec 32) (coincide : Bool) (b : Nat)
    (h : (s.resetCore causes earliest coincide).boot.faultCause.getLsbD b = true) :
    (s.resetMarks causes earliest coincide).boot.faultCause.getLsbD b = true := by
  unfold State.resetMarks
  dsimp only
  split
  all_goals split
  all_goals simp [h]

theorem State.resetTakes_faultCause (s : State) (causes earliest : BitVec 32) (coincide : Bool) :
    (s.resetTakes causes earliest coincide).boot.faultCause = (s.resetMarks causes earliest coincide).boot.faultCause := by
  rw [State.resetTakes_eq]
  dsimp only
  repeat' split
  all_goals simp

/-- A reset that nothing holds in a shutdown, at the pin or in limp mode leaves AON_UP with every domain off (R99). -/
theorem State.resetTakes_aonUp {s : State} {causes : BitVec 32} (earliest : BitVec 32) (coincide : Bool) (hthermal : s.boot.thermalOff = false)
    (hlimp : s.boot.limp = false) (h6 : causes.getLsbD 6 = false) (h7 : causes.getLsbD 7 = false) :
    (s.resetTakes causes earliest coincide).boot.stage = .aonUp ∧ ∀ d : Fin 19, (s.resetTakes causes earliest coincide).pwr.dom[d].st = .off := by
  obtain ⟨hoff, hlim⟩ := s.resetMarks_boot causes earliest coincide
  have hst := s.resetMarks_st causes earliest coincide
  rw [State.resetTakes_eq]
  simp only [hoff, hthermal, h6, hlim, hlimp, h7, Bool.or_false, Bool.false_eq_true, if_false]
  split
  all_goals exact ⟨by simp, fun d => by simpa using hst d⟩

/-- A cause that nothing holds back resets within its own command (R99). -/
theorem State.resetCause_of_resetsNow {s : State} (h : s.resetsNow = true) (c : Nat) : ∃ p : PendingReset, s.resetCause c =
    State.resetTakes { s with boot := { s.boot with pendingReset := some p } } (BitVec.ofNat 32 c) (BitVec.ofNat 32 c) false := by
  simp only [State.resetsNow, Bool.and_eq_true, Option.isNone_iff_eq_none, beq_iff_eq, Bool.or_eq_true, Bool.not_eq_true'] at h
  obtain ⟨⟨⟨⟨⟨⟨hpow, hpin⟩, hlimp⟩, hth⟩, hpend⟩, hpnl⟩, hsave⟩ := h
  have hdue : (s.vin.pfw && !s.vin.saved) = false := by
    rcases hsave with h | h
    all_goals simp [h]
  refine ⟨{ causes := BitVec.ofNat 32 c, safeStop := false, earliest := BitVec.ofNat 32 c, tick := s.now / 1000, coincide := false }, ?_⟩
  simp [State.resetCause, hpend, hpnl, State.resetDue, hdue]

/-- Such a reset, seen from the state before it. -/
theorem State.resetsNow_wasReset {s u : State} (h : u.resetsNow = true) {c b : Nat} (hb : (BitVec.ofNat 32 c).getLsbD b = true)
    (h6 : (BitVec.ofNat 32 c).getLsbD 6 = false) (h7 : (BitVec.ofNat 32 c).getLsbD 7 = false) (hnv : u.nv = s.nv := by simp) (hnow : u.now = s.now := by simp)
    (hras : u.ras = s.ras := by simp) : s.wasReset (u.resetCause c).settle b := by
  obtain ⟨p, hp⟩ := u.resetCause_of_resetsNow h c
  have hr := State.settle_resetTo (State.resetTakes_resetTo { u with boot := { u.boot with pendingReset := some p } } (BitVec.ofNat 32 c) (BitVec.ofNat 32 c) false)
  simp only [State.resetsNow, Bool.and_eq_true, Option.isNone_iff_eq_none, beq_iff_eq, Bool.or_eq_true, Bool.not_eq_true'] at h
  obtain ⟨⟨⟨⟨⟨⟨hpow, hpin⟩, hlimp⟩, hth⟩, hpend⟩, hpnl⟩, hsave⟩ := h
  obtain ⟨hstage, hst⟩ := State.resetTakes_aonUp (s := { u with boot := { u.boot with pendingReset := some p } }) (BitVec.ofNat 32 c) false hth hlimp h6 h7
  rw [hp]
  refine ⟨by simpa using hstage, ?_, fun d => (State.settle_st _ d).trans (hst d), hr.par, hr.box, hr.cells, hr.nor.trans (hnv ▸ rfl), hr.nand.trans (hnv ▸ rfl),
    hr.now.trans hnow, hr.frame.trans (hras ▸ rfl), hr.key⟩
  have hc := congrArg (BitVec.getLsbD · b) hr.cause
  simpa [hb] using hc

theorem State.logOnly_resetsNow (s : State) (code : Nat) (sev : Severity) (source data : Nat) :
    (s.logOnly code sev source data).resetsNow = s.resetsNow := by
  simp [State.resetsNow]

/-- The shutdown that a thermal cause is waiting for keeps its stage over RESET_N; any other state goes to AON_UP (R98, R100). -/
theorem State.resetTakes_stage_of_pin (s : State) (causes earliest : BitVec 32) (coincide : Bool) (hpin : s.boot.resetPin = true) :
    (s.resetTakes causes earliest coincide).boot.stage = (if s.boot.thermalOff || causes.getLsbD 6 then .shutdown else .aonUp) ∧
    ∀ d : Fin 19, (s.resetTakes causes earliest coincide).pwr.dom[d].st = .off := by
  obtain ⟨hoff, -⟩ := s.resetMarks_boot causes earliest coincide
  have hst := s.resetMarks_st causes earliest coincide
  have hpin' := (s.resetMarks_resetTo causes earliest coincide).resetPin.trans hpin
  rw [State.resetTakes_eq]
  dsimp only
  rw [hoff, hpin']
  split
  next h => exact ⟨by simp, fun d => by simpa using hst d⟩
  next h => exact ⟨by simp, fun d => by simpa using hst d⟩

theorem State.causesWith_getLsbD (s : State) (c b : Nat) (hb : b < 32) :
    (s.causesWith c).getLsbD b = (s.boot.pendingReset.any (fun p => p.causes.getLsbD b) || c.testBit b) := by
  cases h : s.boot.pendingReset
  all_goals simp [State.causesWith, h, BitVec.getLsbD_or, BitVec.getLsbD_ofNat, hb, -BitVec.getLsbD_eq_getElem]

theorem resetNAssert_resets (s : State) (hp : s.boot.powered = true) (hpin : s.boot.resetPin = false) :
    ∃ t, exec .resetNAssert s = .next t ∧ t.boot.resetPin = true ∧
      t.boot.stage = (if s.boot.thermalOff || s.boot.pendingReset.any (fun p => p.causes.getLsbD 6) then .shutdown else .aonUp) ∧ t.boot.resetCause.getLsbD 1 = true ∧
      (∀ d : Fin 19, t.pwr.dom[d].st = .off) ∧ t.pnl.st = .off ∧ t.sel.driven = false ∧ t.mem.cells = [] ∧ t.par = State.reset.par ∧
      t.now = s.now ∧ t.ras.frame = s.ras.frame ∧ t.ras.running = false ∧ t.nv.nor = s.nv.nor ∧ t.nv.nand = s.nv.nand ∧
      t.win.scratch0 = s.win.scratch0 ∧ t.boot.failed0 = s.boot.failed0 ∧ t.boot.failed1 = s.boot.failed1 := by
  have hgo : exec .resetNAssert s = done (State.resetTakes { s with boot := { s.boot with resetPin := true } } (s.causesWith rcPin)
      (s.earliestCause rcPin) s.coincides) := if_neg (by simp [hp, hpin])
  have hr := State.settle_resetTo (State.resetTakes_resetTo { s with boot := { s.boot with resetPin := true } } (s.causesWith rcPin)
    (s.earliestCause rcPin) s.coincides)
  obtain ⟨hstage, hst⟩ := State.resetTakes_stage_of_pin { s with boot := { s.boot with resetPin := true } } (s.causesWith rcPin)
    (s.earliestCause rcPin) s.coincides rfl
  have hc := congrArg (BitVec.getLsbD · 1) hr.cause
  refine ⟨_, hgo, hr.resetPin, ?_, ?_, fun d => (State.settle_st _ d).trans (hst d), hr.pnl, hr.driven, hr.cells, hr.par, hr.now, hr.frame, hr.running,
    hr.nor, hr.nand, hr.scratch, hr.failed0, hr.failed1⟩
  · have h6 := s.causesWith_getLsbD rcPin 6 (by decide)
    rw [show rcPin.testBit 6 = false from rfl, Bool.or_false] at h6
    rw [← h6]
    simpa using hstage
  · have h1 := s.causesWith_getLsbD rcPin 1 (by decide)
    rw [show rcPin.testBit 1 = true from rfl, Bool.or_true] at h1
    simp only [BitVec.getLsbD_and, h1, Bool.and_true] at hc
    exact hc

/-- The state in which the released pin's device picks its stage (R46, R100). -/
def State.releasePin (s : State) (x : Straps) : State :=
  { s with
    boot := { s.boot with resetPin := false, startAt := s.now, straps := { x with vioHigh := s.boot.straps.vioHigh },
                          thermalOff := s.boot.thermalOff && !s.coolEnough }
    win := { s.win with svcAddr := 0x58 + x.svcAddr.toNat } }

@[simp] theorem State.setStage_svcAddr (s : State) (g : Stage) : (s.setStage g).win.svcAddr = s.win.svcAddr := by
  unfold State.setStage
  split
  all_goals rfl

@[simp] theorem State.limpRuns_svcAddr (s : State) : s.limpRuns.win.svcAddr = s.win.svcAddr := by
  simp [State.limpRuns, State.ctrlStarts, State.irq]

theorem resetNRelease_goesOn (x : Straps) (s : State) (hp : s.boot.powered = true) (hpin : s.boot.resetPin = true) :
    ∃ t, exec (.resetNRelease x) s = .next t ∧ t.boot.resetPin = false ∧ t.boot.straps = { x with vioHigh := s.boot.straps.vioHigh } ∧
      t.win.svcAddr = 0x58 + x.svcAddr.toNat ∧ t.boot.startAt = s.now ∧
      (if s.boot.thermalOff ∧ s.coolEnough = false then t.boot.stage = .shutdown ∧ t.boot.thermalOff = true
       else if s.boot.limp then t.boot.stage = .limp ∧ t.domOn dCtrl = true ∧ t.boot.thermalOff = false
       else t.boot.stage = .aonUp ∧ t.boot.thermalOff = false) := by
  have hgo : exec (.resetNRelease x) s = if (s.releasePin x).boot.thermalOff then done ((s.releasePin x).setStage .shutdown)
      else if (s.releasePin x).boot.limp then done (s.releasePin x).limpRuns else done ((s.releasePin x).setStage .aonUp) :=
    if_neg (by simp [hp, hpin])
  have hcool : (s.boot.thermalOff ∧ s.coolEnough = false) ↔ (s.releasePin x).boot.thermalOff = true := by simp [State.releasePin]
  by_cases hoff : (s.releasePin x).boot.thermalOff = true
  · rw [if_pos hoff] at hgo
    refine ⟨_, hgo, by simp [State.releasePin], by simp [State.releasePin], by simp [State.releasePin], by simp [State.releasePin], ?_⟩
    rw [if_pos (hcool.2 hoff)]
    simpa using hoff
  · rw [if_neg hoff] at hgo
    have hoff' : ¬(s.boot.thermalOff ∧ s.coolEnough = false) := mt hcool.1 hoff
    cases hlimp : s.boot.limp
    · have hlimp' : ¬(s.releasePin x).boot.limp = true := by simp [State.releasePin, hlimp]
      rw [if_neg hlimp'] at hgo
      refine ⟨_, hgo, by simp [State.releasePin], by simp [State.releasePin], by simp [State.releasePin], by simp [State.releasePin], ?_⟩
      rw [if_neg hoff']
      simpa using hoff
    · have hlimp' : (s.releasePin x).boot.limp = true := by simp [State.releasePin, hlimp]
      rw [if_pos hlimp'] at hgo
      refine ⟨_, hgo, by simp [State.releasePin], by simp [State.releasePin], by simp [State.releasePin], by simp [State.releasePin], ?_⟩
      rw [if_neg hoff']
      simpa using hoff

theorem State.resetTakes_results_core (s : State) (causes earliest : BitVec 32) (coincide : Bool) :
    (s.resetTakes causes earliest coincide).boot.result0 = (s.resetCore causes earliest coincide).boot.result0 ∧
    (s.resetTakes causes earliest coincide).boot.result1 = (s.resetCore causes earliest coincide).boot.result1 := by
  rw [State.resetTakes_eq]
  unfold State.resetMarks
  dsimp only
  repeat' split
  all_goals simp

/-- After a reset the slots' outcomes are unknown but for a hung slot's (R89). -/
theorem State.resetTakes_results (s : State) (causes earliest : BitVec 32) (coincide : Bool) :
    (s.resetTakes causes earliest coincide).boot.result0 = (if s.boot.failed0 then .bootWatchdog else .notTried) ∧
    (s.resetTakes causes earliest coincide).boot.result1 = (if s.boot.failed1 then .bootWatchdog else .notTried) := by
  rw [(s.resetTakes_results_core _ _ _).1, (s.resetTakes_results_core _ _ _).2, s.resetCore_boot causes earliest coincide]
  exact ⟨rfl, rfl⟩

theorem lockstepReset_resets (s : State) (h : s.resetsNow = true) (hon : s.domOn dCtrl = true) :
    ∃ t, exec .lockstepReset s = .next t ∧ s.wasReset t 3 ∧ t.boot.faultCause.getLsbD 3 = true := by
  have hgo : exec .lockstepReset s = done (s.resetCause rcLockstep) := if_neg (by simp [hon])
  refine ⟨_, hgo, State.resetsNow_wasReset h (by decide) (by decide) (by decide), ?_⟩
  obtain ⟨p, hp⟩ := s.resetCause_of_resetsNow h rcLockstep
  rw [hp]
  have hfault := State.resetMarks_faultCause _ _ _ _ 3 (State.resetCore_lockstep { s with boot := { s.boot with pendingReset := some p } }
    (BitVec.ofNat 32 rcLockstep) (BitVec.ofNat 32 rcLockstep) false (by decide))
  simpa [State.resetTakes_faultCause] using hfault

theorem State.resetCause_slots {u : State} (h : u.resetsNow = true) (c : Nat) :
    (u.resetCause c).boot.failed0 = u.boot.failed0 ∧ (u.resetCause c).boot.failed1 = u.boot.failed1 ∧
    (u.resetCause c).boot.result0 = (if u.boot.failed0 then .bootWatchdog else .notTried) ∧
    (u.resetCause c).boot.result1 = (if u.boot.failed1 then .bootWatchdog else .notTried) := by
  obtain ⟨p, hp⟩ := u.resetCause_of_resetsNow h c
  have hr := State.resetTakes_resetTo { u with boot := { u.boot with pendingReset := some p } } (BitVec.ofNat 32 c) (BitVec.ofNat 32 c) false
  obtain ⟨h0, h1⟩ := State.resetTakes_results { u with boot := { u.boot with pendingReset := some p } } (BitVec.ofNat 32 c) (BitVec.ofNat 32 c) false
  rw [hp]
  exact ⟨hr.failed0, hr.failed1, h0, h1⟩

/-- The state that the boot watchdog resets: the hung slot is marked (R89). -/
def State.slotHung (s : State) : State :=
  let b := if s.boot.slot then { s.boot with failed1 := true, result1 := .bootWatchdog } else { s.boot with failed0 := true, result0 := .bootWatchdog }
  State.logOnly { s with boot := { b with bootWdog := false } } 0x0501 .error (b2n s.boot.slot) 5

theorem State.slotHung_boot (s : State) : s.slotHung.resetsNow = s.resetsNow ∧
    (if s.boot.slot then s.slotHung.boot.failed1 else s.slotHung.boot.failed0) = true := by
  unfold State.slotHung
  cases h : s.boot.slot
  all_goals simp [State.resetsNow]

theorem bootWatchdogExpiry_resets (s : State) (h : s.resetsNow = true) (hon : s.boot.bootWdog = true) :
    ∃ t, exec .bootWatchdogExpiry s = .next t ∧ s.wasReset t 5 ∧
      (if s.boot.slot then t.boot.failed1 = true ∧ t.boot.result1 = .bootWatchdog else t.boot.failed0 = true ∧ t.boot.result0 = .bootWatchdog) := by
  have hgo : exec .bootWatchdogExpiry s = done (s.slotHung.resetCause rcBootWdog) := if_neg (by simp [hon])
  obtain ⟨hnow, hmark⟩ := s.slotHung_boot
  refine ⟨_, hgo, State.resetsNow_wasReset (hnow.trans h) (by decide) (by decide) (by decide) (by simp [State.slotHung]) (by simp [State.slotHung])
    (by simp [State.slotHung]), ?_⟩
  obtain ⟨h0, h1, hres0, hres1⟩ := State.resetCause_slots (hnow.trans h) rcBootWdog
  cases hslot : s.boot.slot
  all_goals
    rw [hslot] at hmark
    simp only [Bool.false_eq_true, if_false, if_true] at hmark ⊢
    simp [h0, h1, hres0, hres1, hmark]

/-- A keyed reset that nothing holds back; RESET_SWAP marks SWAP_ONCE too (R101). -/
theorem State.keyedReset_resets {s u : State} (h : u.resetsNow = true) (swap : Bool) (hnv : u.nv = s.nv) (hnow : u.now = s.now) (hras : u.ras = s.ras) :
    s.wasReset (u.keyedReset swap).settle 2 ∧ (u.keyedReset swap).settle.boot.swapOnce = (u.boot.swapOnce || swap) := by
  have hthermal : u.boot.thermalOff = false := by
    simp only [State.resetsNow, Bool.and_eq_true, Bool.not_eq_true'] at h
    exact h.1.1.1.2
  have hu : State.resetsNow { u with boot := { u.boot with swapOnce := u.boot.swapOnce || swap } } = true := h
  have heq : u.keyedReset swap = State.resetCause { u with boot := { u.boot with swapOnce := u.boot.swapOnce || swap } } rcKeyed := if_neg (by simp [hthermal])
  rw [heq]
  refine ⟨State.resetsNow_wasReset hu (by decide) (by decide) (by decide) hnv hnow hras, ?_⟩
  obtain ⟨p, hp⟩ := State.resetCause_of_resetsNow hu rcKeyed
  rw [hp]
  exact (State.settle_resetTo (State.resetTakes_resetTo _ _ _ _)).swapOnce

/-- Settles O11: each cause is brought to the state `resetsNow` makes, whose parts are read off once. -/
theorem resetsActAtOnce : Obligations.ResetsActAtOnce := by
  refine ⟨⟨resetNAssert_resets, resetNRelease_goesOn⟩, ⟨fun s h => ⟨lockstepReset_resets s h, ?firmware, bootWatchdogExpiry_resets s h, ?keyed⟩, ?first, ?second⟩⟩
  case firmware =>
    intro hruns
    have hgo : exec .firmwareWatchdogExpiry s = done (s.resetCause rcFwWdog) := if_neg (by simp [hruns])
    exact ⟨_, hgo, State.resetsNow_wasReset h (by decide) (by decide) (by decide)⟩
  case keyed =>
    intro p k hkey hlate hctl
    have hpow : s.boot.powered = true := by
      simp only [State.resetsNow, Bool.and_eq_true] at h
      exact h.1.1.1.1.1.1
    have hdead : ¬(!s.boot.powered || (p == .ctl && s.win.ctlDead)) = true := by
      cases p
      all_goals simp [hpow]
      simpa using hctl rfl
    have hu : State.resetsNow { s with boot := { s.boot with key := none } } = true := h
    obtain ⟨hkeyed, hkeep⟩ := State.keyedReset_resets (s := s) hu false rfl rfl rfl
    obtain ⟨hswapped, hswap⟩ := State.keyedReset_resets (s := s) hu true rfl rfl rfl
    have hstep (w : Word) : exec (.resetKeyWrite p w) s = _ := if_neg hdead
    refine ⟨⟨_, ?_, hkeyed, by simpa using hkeep⟩, ⟨_, ?_, hswapped, by simpa using hswap⟩⟩
    · rw [hstep, hkey]
      simp [hlate]
      rfl
    · rw [hstep, hkey]
      simp [hlate]
      rfl
  case first =>
    intro p s hdead hkey
    have hstep : exec (.resetKeyWrite p 0x0000C3A5) s = _ := if_neg (by simpa [State.portDead] using hdead)
    rw [hstep, hkey]
    rfl
  case second =>
    intro p w k s hdead hkey hlate
    have hstep : exec (.resetKeyWrite p w) s = _ := if_neg (by simpa [State.portDead] using hdead)
    have h1 : ¬(s.now ≤ k.at_ + ms 1 ∧ w = 0x5A000001) := by
      rintro ⟨ht, rfl⟩
      rcases hlate with h | h
      · omega
      · exact h.1 rfl
    have h2 : ¬(s.now ≤ k.at_ + ms 1 ∧ w = 0x5A000002) := by
      rintro ⟨ht, rfl⟩
      rcases hlate with h | h
      · omega
      · exact h.2 rfl
    rw [hstep, hkey]
    simp only [h1, h2, if_false]
    exact ⟨_, rfl, by simp, by simp, by simp⟩

/-! ## Pending resets -/

/-- From `s` to `t` nothing of `boot` changes but PANEL_READY. -/
def State.bootReady (s t : State) : Prop := ∃ ready, t.boot = { s.boot with panelReady := ready }

theorem State.bootReady_of_eq {s t : State} (h : t.boot = s.boot := by simp) : s.bootReady t := ⟨s.boot.panelReady, h⟩

theorem State.bootReady.trans {s t u : State} (h : s.bootReady t) (k : t.bootReady u) : s.bootReady u := by
  obtain ⟨r, h⟩ := h
  obtain ⟨q, k⟩ := k
  exact ⟨q, by rw [k, h]⟩

theorem State.panelState_boot (s : State) (st : PanelState) (cause : Nat) : s.bootReady (s.panelState st cause) := by
  unfold State.panelState
  split
  · exact State.bootReady_of_eq
  · exact ⟨_, by rw [(State.event_frame _ _ _ _ _ _).2.1]⟩

theorem State.discharge_boot (s : State) (cause : Nat) : s.bootReady (s.discharge cause) :=
  (State.bootReady_of_eq (t := s.rasterStop.emitOff)).trans (State.panelState_boot s.rasterStop.emitOff .poweringOff cause)

theorem State.afterDark_boot (s : State) : s.bootReady s.afterDark := by
  unfold State.afterDark
  split
  · exact (State.bootReady_of_eq (t := s.rasterStop.emitOff)).trans (State.panelState_boot s.rasterStop.emitOff .restSweep s.pnl.cause)
  · exact s.discharge_boot _

theorem State.darken_boot (s : State) (cause : Nat) (rest : Bool) : s.bootReady (s.darken cause rest) := by
  have hdark : s.bootReady ((s.endPanelOn stBusy).dropTransition.panelState .darkening cause) :=
    (State.bootReady_of_eq (t := (s.endPanelOn stBusy).dropTransition)).trans (State.panelState_boot _ _ _)
  unfold State.darken
  dsimp only
  split
  · exact hdark.trans (State.afterDark_boot _)
  split
  · exact hdark
  · exact hdark.trans (State.bootReady_of_eq (by simp [State.unshow]))

theorem State.panelStop_boot (s : State) (cause : Nat) (rest : Bool) : s.bootReady (s.panelStop cause rest) := by
  unfold State.panelStop
  repeat' split
  case h_3 | h_4 => exact (State.bootReady_of_eq (t := s.endPanelOn stBusy)).trans (State.discharge_boot _ _)
  case h_5 => exact (State.bootReady_of_eq (t := s.senseCut)).trans (State.darken_boot _ _ _)
  case h_7.isFalse => exact (State.bootReady_of_eq (t := s.restEnd 3)).trans (State.discharge_boot _ _)
  all_goals exact State.bootReady_of_eq

theorem State.hardStop_boot (s : State) : s.bootReady s.hardStop := by
  unfold State.hardStop
  split
  · exact State.bootReady_of_eq rfl
  · exact (State.bootReady_of_eq (t := s.count 1028 1)).trans (State.panelStop_boot _ _ _)

/-- The pending reset after a cause that meets a powered panel (R99). -/
theorem State.resetCause_of_panel {s : State} (hpnl : s.pnl.st ≠ .off) (hnone : s.boot.pendingReset = none) (c : Nat) :
    ∃ p : PendingReset, (s.resetCause c).boot.pendingReset = some p ∧ (s.resetCause c).boot.stage = s.boot.stage ∧
      p.causes = BitVec.ofNat 32 c ∧ p.safeStop = true := by
  let p : PendingReset := { causes := BitVec.ofNat 32 c, safeStop := true, earliest := BitVec.ofNat 32 c, tick := s.now / 1000, coincide := false }
  have heq : s.resetCause c = State.hardStop { s with boot := { s.boot with pendingReset := some p } } := by
    rw [State.resetCause, hnone]
    dsimp only
    rw [show (s.pnl.st != .off) = true by simpa using hpnl]
    rfl
  obtain ⟨ready, h⟩ := State.hardStop_boot { s with boot := { s.boot with pendingReset := some p } }
  exact ⟨p, by rw [heq, h], by rw [heq, h], rfl, rfl⟩

/-- A cause joins the reset that waits (R99, R102). -/
theorem State.resetCause_of_pending {s : State} {p : PendingReset} (h : s.boot.pendingReset = some p) (c : Nat) :
    ∃ q : PendingReset, (s.resetCause c).boot.pendingReset = some q ∧ q.causes = p.causes ||| BitVec.ofNat 32 c ∧ q.earliest = p.earliest := by
  refine ⟨{ p with causes := p.causes ||| BitVec.ofNat 32 c, coincide := p.coincide || p.tick == s.now / 1000 }, ?_, rfl, rfl⟩
  simp [State.resetCause, h]

/-- A reset that is due and that no power-fail save holds back is made (R102). -/
theorem State.resetDue_of_pending {s : State} {p : PendingReset} (h : s.boot.pendingReset = some p) (hsave : s.vin.pfw = false ∨ s.vin.saved = true) :
    s.resetDue = s.resetTakes p.causes p.earliest p.coincide := by
  have hdue : (s.vin.pfw && !s.vin.saved) = false := by
    rcases hsave with h | h
    all_goals simp [h]
  simp [State.resetDue, h, hdue]

/-- A thermal shutdown is marked in FAULT_CAUSE and holds the device (R98). -/
theorem State.resetTakes_shutdown (s : State) {causes : BitVec 32} (earliest : BitVec 32) (coincide : Bool) (h6 : causes.getLsbD 6 = true) :
    (s.resetTakes causes earliest coincide).boot.stage = .shutdown ∧ (s.resetTakes causes earliest coincide).boot.thermalOff = true ∧
    (s.resetTakes causes earliest coincide).boot.faultCause.getLsbD 2 = true ∧
    ∀ d : Fin 19, (s.resetTakes causes earliest coincide).pwr.dom[d].st = .off := by
  obtain ⟨hoff, -⟩ := s.resetMarks_boot causes earliest coincide
  have hst := s.resetMarks_st causes earliest coincide
  have hoff' : (s.resetMarks causes earliest coincide).boot.thermalOff = true := by simp [hoff, h6, -BitVec.getLsbD_eq_getElem]
  have hfault : (s.resetMarks causes earliest coincide).boot.faultCause.getLsbD 2 = true := by
    unfold State.resetMarks
    dsimp only
    rw [if_pos h6]
    split
    all_goals simp
  rw [State.resetTakes_eq]
  dsimp only
  rw [if_pos hoff']
  exact ⟨by simp, by simpa using hoff', by simpa using hfault, fun d => by simpa using hst d⟩

/-- The loss of the root PLL leaves the device in limp mode with CTRL running (R103). -/
theorem State.resetTakes_limp {s : State} {causes : BitVec 32} (earliest : BitVec 32) (coincide : Bool) (hthermal : s.boot.thermalOff = false)
    (hpin : s.boot.resetPin = false) (hlimp : s.boot.limp = false) (h6 : causes.getLsbD 6 = false) (h7 : causes.getLsbD 7 = true) :
    (s.resetTakes causes earliest coincide).boot.limp = true ∧ (s.resetTakes causes earliest coincide).boot.stage = .limp ∧
    (s.resetTakes causes earliest coincide).boot.faultCause.getLsbD 0 = true ∧ (s.resetTakes causes earliest coincide).domOn dCtrl = true := by
  obtain ⟨hoff, hlim⟩ := s.resetMarks_boot causes earliest coincide
  have hoff' : (s.resetMarks causes earliest coincide).boot.thermalOff = false := by rw [hoff, hthermal, h6]; rfl
  have hlim' : (s.resetMarks causes earliest coincide).boot.limp = true := by rw [hlim, h7]; simp
  have hpin' := (s.resetMarks_resetTo causes earliest coincide).resetPin.trans hpin
  have hfault : (s.resetMarks causes earliest coincide).boot.faultCause.getLsbD 0 = true := by
    have hcore : (s.resetCore causes earliest coincide).boot.limp = false := by rw [s.resetCore_boot]; exact hlimp
    unfold State.resetMarks
    simp only [h6, h7, Bool.false_eq_true, if_false, hcore]
    simp
  rw [State.resetTakes_eq]
  simp only [hoff', hpin', hlim', Bool.false_eq_true, if_false, if_true]
  exact ⟨by simpa using hlim', by simp, by simpa using hfault, State.limpRuns_domOn _⟩

/-- The panel's outputs are released at once when the root PLL is lost (R103). -/
def State.panelCut (s : State) : State := { s with pnl := .initial, sel := State.reset.sel, boot := { s.boot with panelReady := false } }

theorem State.resetDue_of_none {s : State} (h : s.boot.pendingReset = none) : s.resetDue = s := by
  simp [State.resetDue, h]

theorem pllLossOfLock_limps (s : State) (hp : s.boot.powered = true) (hpin : s.boot.resetPin = false) (hlimp : s.boot.limp = false)
    (hlock : s.boot.rootLocked = true) (hth : s.boot.thermalOff = false) (hnone : s.boot.pendingReset = none)
    (hsave : s.vin.pfw = false ∨ s.vin.saved = true) :
    ∃ t, exec .pllLossOfLock s = .next t ∧ t.boot.limp = true ∧ t.boot.stage = .limp ∧ t.boot.resetCause.getLsbD 7 = true ∧
      t.boot.faultCause.getLsbD 0 = true ∧ t.pnl.st = .off ∧ t.sel.driven = false ∧ t.domOn dCtrl = true := by
  have hgo : exec .pllLossOfLock s = done (s.panelCut.resetCause rcPll).resetDue := if_neg (by simp [hp, hpin, hlimp, hlock])
  have hready : s.panelCut.resetsNow = true := by
    simpa [State.resetsNow, State.panelCut, Panel.initial, hp, hpin, hlimp, hth, hnone] using hsave
  obtain ⟨p, hp⟩ := s.panelCut.resetCause_of_resetsNow hready rcPll
  have hr := State.resetTakes_resetTo { s.panelCut with boot := { s.panelCut.boot with pendingReset := some p } } (BitVec.ofNat 32 rcPll)
    (BitVec.ofNat 32 rcPll) false
  obtain ⟨hlimp', hstage, hfault, hctrl⟩ := State.resetTakes_limp (s := { s.panelCut with boot := { s.panelCut.boot with pendingReset := some p } })
    (causes := BitVec.ofNat 32 rcPll)
    (BitVec.ofNat 32 rcPll) false hth hpin hlimp (by decide) (by decide)
  rw [hp, State.resetDue_of_none hr.pending] at hgo
  have hc := congrArg (BitVec.getLsbD · 7) hr.cause
  simp only [BitVec.getLsbD_and, show (BitVec.ofNat 32 rcPll).getLsbD 7 = true from rfl, Bool.and_true] at hc
  exact ⟨_, hgo, by simpa using hlimp', by simpa using hstage, by simpa using hc, by simpa using hfault, by simpa using hr.pnl, by simpa using hr.driven,
    by simpa using hctrl⟩

/-- Settles O12: a cause either opens a pending reset, joins one, or meets the end of its sequence. -/
theorem pendingResetsTakeEffect : Obligations.PendingResetsTakeEffect := by
  refine ⟨?waits, ?joins, ?takes, pllLossOfLock_limps, fun _ => rfl⟩
  case waits =>
    intro s hon hpnl hnone
    have hgo : exec .lockstepReset s = done (s.resetCause rcLockstep) := if_neg (by simp [hon])
    obtain ⟨p, hpend, hstage, hcauses, hsafe⟩ := State.resetCause_of_panel hpnl hnone rcLockstep
    exact ⟨_, p, hgo, by simpa using hpend, hcauses, hsafe, by simpa using hstage⟩
  case joins =>
    intro p s hon hpend
    have hgo : exec .lockstepReset s = done (s.resetCause rcLockstep) := if_neg (by simp [hon])
    obtain ⟨q, hboot, hcauses, hearliest⟩ := State.resetCause_of_pending hpend rcLockstep
    exact ⟨_, q, hgo, by simpa using hboot, hcauses, hearliest⟩
  case takes =>
    intro p s hpend hstop hsave hpin hlimp hth h7
    have hgo : exec .hardwareSafeStopEnd s = done (s.resetTakes p.causes p.earliest p.coincide) := by
      simp [exec_hardwareSafeStopEnd, execHardwareSafeStopEnd, hpend, hstop, State.resetDue_of_pending hpend hsave]
    have hr := State.settle_resetTo (s.resetTakes_resetTo p.causes p.earliest p.coincide)
    cases h6 : p.causes.getLsbD 6
    · obtain ⟨hstage, hst⟩ := State.resetTakes_aonUp p.earliest p.coincide hth hlimp h6 h7
      exact ⟨_, hgo, hr.pending, hr.cause, fun d => (State.settle_st _ d).trans (hst d), by simpa using hstage⟩
    · obtain ⟨hstage, hoff, hfault, hst⟩ := s.resetTakes_shutdown p.earliest p.coincide h6
      exact ⟨_, hgo, hr.pending, hr.cause, fun d => (State.settle_st _ d).trans (hst d), by simpa using ⟨hstage, hoff, hfault⟩⟩

end Sys2Proof.Machine
end

section
/-! SUPPORT. Tables by their ID: what storing one makes of each. -/

namespace Sys2Proof.Machine

theorem find?_tableInsert (t : Table) (l : List Table) (id : Nat) :
    (tableInsert t l).find? (fun x => x.id == id) = if id = t.id then some t else l.find? fun x => x.id == id := by
  induction l with
  | nil =>
    by_cases h : id = t.id
    · simp [tableInsert, h]
    · simp [tableInsert, h, Ne.symm h]
  | cons x xs ih =>
    unfold tableInsert
    by_cases h : id = t.id
    · split
      · simp [h]
      split
      · simp [h]
      next hne =>
        have hx : ¬x.id = t.id := fun e => hne e.symm
        rw [List.find?_cons_of_neg (by simpa [h] using hx), ih, if_pos h]
    · split
      · simp [Ne.symm h]
      split
      next heq =>
        have hx : ¬x.id = id := fun e => h (e.symm.trans heq.symm)
        simp [Ne.symm h, hx]
      · rw [List.find?_cons, List.find?_cons, ih]
        simp [h]

theorem State.setTable_table (s : State) (t : Table) (id : Nat) : (s.setTable t).table id = if id = t.id then t else s.table id := by
  simp only [State.table, State.setTable, find?_tableInsert]
  split
  all_goals rfl

@[simp] theorem State.setTable_table_self (s : State) (t : Table) : (s.setTable t).table t.id = t := by
  simp [State.setTable_table]

/-- The table found under an ID carries that ID. -/
@[simp] theorem State.table_id (s : State) (id : Nat) : (s.table id).id = id := by
  unfold State.table
  cases h : s.tab.find? fun t => t.id == id with
  | none => rfl
  | some t => simpa using List.find?_some h

theorem State.table_congr {s t : State} (h : t.tab = s.tab) (id : Nat) : t.table id = s.table id := by
  simp only [State.table, h]

/-- A table that a check has passed is VALID with its bytes; of a plane only the header is kept apart from GDDR7 (R134, R167). -/
theorem State.install_tab (s : State) (id : Nat) (plain : List Byte) : (s.install id plain).tab =
    (s.setTable { id := id, st := .valid, nextOff := plain.length, bytes := if id / 256 = 4 then plain.take 32 else plain }).tab := by
  unfold State.install
  dsimp only
  split
  all_goals simp

theorem State.install_table (s : State) (id j : Nat) (plain : List Byte) : (s.install id plain).table j =
    if j = id then { id := id, st := .valid, nextOff := plain.length, bytes := if id / 256 = 4 then plain.take 32 else plain } else s.table j := by
  rw [State.table_congr (s.install_tab id plain), State.setTable_table]

theorem State.install_valid (s : State) (id : Nat) (plain : List Byte) : (s.install id plain).tableValid id = true := by
  simp [State.tableValid, State.install_table]

theorem State.tableValid_congr {s t : State} (h : t.tab = s.tab) (id : Nat) : t.tableValid id = s.tableValid id := by
  simp only [State.tableValid, State.table_congr h]

theorem State.planesValid_congr {s t : State} (hpar : s.par = t.par) (htab : s.tab = t.tab) : s.planesValid = t.planesValid := by
  simp only [State.planesValid, State.param, State.tableValid, State.table, hpar, htab]

@[simp] theorem State.settle_table (s : State) (id : Nat) : s.settle.table id = s.table id := State.table_congr (by simp) id

@[simp] theorem State.settle_tableValid (s : State) (id : Nat) : s.settle.tableValid id = s.tableValid id := State.tableValid_congr (by simp) id

@[simp] theorem State.settle_planesValid (s : State) : s.settle.planesValid = s.planesValid := State.planesValid_congr (by simp) (by simp)

@[simp] theorem State.clipWatch_table (s : State) (id : Nat) : s.clipWatch.table id = s.table id := State.table_congr (by simp) id

@[simp] theorem State.clipWatch_tableValid (s : State) (id : Nat) : s.clipWatch.tableValid id = s.tableValid id := State.tableValid_congr (by simp) id

end Sys2Proof.Machine
end

section
/-! CLAIM O10. Firmware start-up. -/

namespace Sys2Proof.Machine

/-! ## The Sampler's state over its own writes -/

@[simp] theorem State.norProgram_st (s : State) (a : Nat) (bs : List Byte) : (s.norProgram a bs).nv.st = s.nv.st := by
  induction bs generalizing s a with
  | nil => rfl
  | cons v vs ih => rw [State.norProgram, ih]

@[simp] theorem State.formatNext_st (s : State) (bank : Bool) : (s.formatNext bank).nv.st = s.nv.st := by
  unfold State.formatNext
  split
  · rfl
  · simp

@[simp] theorem State.ensureRoom_st (s : State) (bank : Bool) : (s.ensureRoom bank).nv.st = s.nv.st := by
  unfold State.ensureRoom
  repeat' split
  all_goals simp

@[simp] theorem State.writeCopy_st (s : State) (bank : Bool) (key seq : Nat) (payload : List Byte) : (s.writeCopy bank key seq payload).nv.st = s.nv.st := by
  unfold State.writeCopy
  dsimp only
  split
  · rfl
  · simp

@[simp] theorem State.recWrite_st (s : State) (key : Nat) (payload : List Byte) : (s.recWrite key payload).nv.st = s.nv.st := by
  unfold State.recWrite
  split
  · rfl
  · exact List.foldlRecOn (motive := fun t : State => t.nv.st = s.nv.st) _ _ rfl fun t ht p _ => by simp [ht]

@[simp] theorem State.replaceBlock_st (s : State) (b : Nat) : (s.replaceBlock b).nv.st = s.nv.st := by
  unfold State.replaceBlock State.saveReplaced
  dsimp only
  split
  · rfl
  · simp

@[simp] theorem State.replaceFactory_st (s : State) : s.replaceFactory.nv.st = s.nv.st := by
  unfold State.replaceFactory
  exact List.foldlRecOn (motive := fun t : State => t.nv.st = s.nv.st) _ _ rfl fun t ht p _ => by simp [ht]

@[simp] theorem State.eraseScheduled_st (s : State) : s.eraseScheduled.nv.st = s.nv.st := by
  unfold State.eraseScheduled
  exact List.foldlRecOn (motive := fun t : State => t.nv.st = s.nv.st) _ _ rfl fun t ht p _ => ht

@[simp] theorem State.raiseTies_st (s : State) : s.raiseTies.nv.st = s.nv.st := by
  simp [State.raiseTies]

@[simp] theorem State.scanned_st (s : State) (bad : List (Bool × Nat)) : (s.scanned bad).nv.st = .ready := by
  unfold State.scanned
  dsimp only
  split
  all_goals simp

/-! ## The board profile -/

@[simp] theorem State.bootReached_boot (s : State) (g : Stage) : (s.bootReached g).boot =
    (State.setStage { s with boot := { s.boot with failed0 := false, failed1 := false, bootWdog := false } } g).boot := by
  unfold State.bootReached
  dsimp only
  split
  all_goals simp

@[simp] theorem State.bootReached_st (s : State) (g : Stage) : (s.bootReached g).nv.st = s.nv.st := by
  unfold State.bootReached
  dsimp only
  split
  all_goals simp

theorem State.autoPanel_boot (s : State) : s.bootReady s.autoPanel := by
  unfold State.autoPanel State.panelStart
  repeat' split
  case h_2 => exact s.panelState_boot .poweringOn 1
  all_goals exact State.bootReady_of_eq

/-- The state in which a valid profile has been applied, before the panel is started (R93). -/
def State.profiled (s : State) (id : Word) (vs : List (Nat × Word)) : State :=
  let s1 := s.profileApply vs
  let s2 := State.bootReached { s1 with boot := { s1.boot with profileId := id, profileOk := true } } .profileApplied
  (State.portsCheck { s2 with hl := { s2.hl with vote := true } }).tatLeave

theorem State.boardProfile_of_ok {s : State} {id : Word} {vs : List (Nat × Word)} (h : s.readProfile = .ok (id, vs)) :
    s.boardProfile = (s.profiled id vs).autoPanel := by
  rw [State.boardProfile, h]
  rfl

theorem State.profiled_boot (s : State) (id : Word) (vs : List (Nat × Word)) : (s.profiled id vs).boot.bootWdog = false ∧
    (s.profiled id vs).boot.failed0 = false ∧ (s.profiled id vs).boot.failed1 = false ∧ (s.profiled id vs).boot.stage = .profileApplied ∧
    (s.profiled id vs).boot.profileOk = true := by
  simp [State.profiled]

/-- Once the profile is read the watchdog is off, no slot is marked and STAGE says whether a profile applies (R92, R93). -/
theorem State.boardProfile_boot (s : State) (h : s.boot.profileOk = false) : s.boardProfile.boot.bootWdog = false ∧ s.boardProfile.boot.failed0 = false ∧
    s.boardProfile.boot.failed1 = false ∧ s.boardProfile.boot.stage = if s.boardProfile.boot.profileOk then .profileApplied else .unconfigured := by
  cases hread : s.readProfile with
  | error d => simp [State.boardProfile, hread, h]
  | ok r =>
    obtain ⟨id, vs⟩ := r
    obtain ⟨hdog, h0, h1, hstage, hok⟩ := s.profiled_boot id vs
    obtain ⟨ready, hboot⟩ := (s.profiled id vs).autoPanel_boot
    rw [State.boardProfile_of_ok hread, hboot]
    simp [hdog, h0, h1, hstage, hok]

theorem State.boardProfile_st (s : State) : s.boardProfile.nv.st = s.nv.st := by
  unfold State.boardProfile
  split
  all_goals simp

/-! ## The commands -/

theorem State.samplerScan_st (s : State) : s.samplerScan.nv.st = .ready := by
  simp [State.samplerScan]

theorem samplerScanDone_applies (s : State) (hrun : s.boot.stage = .fwRunning) (hwarm : s.boot.warm = false) (hon : s.domOn dCtrl = true)
    (hscan : s.nv.st = .notScanned) (hok : s.boot.profileOk = false) :
    ∃ t, exec .samplerScanDone s = .next t ∧ t.nv.st = .ready ∧ t.boot.bootWdog = false ∧ t.boot.failed0 = false ∧ t.boot.failed1 = false ∧
      t.boot.stage = if t.boot.profileOk then .profileApplied else .unconfigured := by
  have hgo : exec .samplerScanDone s = done (State.loadPsr (if s.samplerScan.nv.firstScan then s.samplerScan.loadAlwaysOn.replaceFactory
      else s.samplerScan)).builtIn.boardProfile := if_neg (by simp [hrun, hwarm, hon, hscan])
  generalize hu : (if s.samplerScan.nv.firstScan then s.samplerScan.loadAlwaysOn.replaceFactory else s.samplerScan) = u at hgo
  have huok : u.boot.profileOk = false := by
    rw [← hu]
    split
    all_goals simp [hok]
  have hust : u.nv.st = .ready := by
    rw [← hu]
    split
    all_goals simp [State.loadAlwaysOn, State.samplerScan_st]
  obtain ⟨hdog, h0, h1, hstage⟩ := State.boardProfile_boot u.loadPsr.builtIn (by simpa using huok)
  exact ⟨_, hgo, by simp [State.boardProfile_st, hust], by simpa using hdog, by simpa using h0, by simpa using h1, by simpa using hstage⟩

/-- The built-in dither tile takes no byte of GDDR7. -/
theorem State.builtIn_mem (s : State) : ∃ asks, s.builtIn.mem = { s.mem with asks := asks } := by
  unfold State.builtIn
  split
  · exact ⟨_, rfl⟩
  · exact ⟨s.mem.asks ++ [{ low := true, write := true, left := builtInTile.length }], by simp [State.install, State.memAsk]⟩

/-- The bytes of a word are those of the number it holds. -/
theorem Word.toNat_of_div (n a : Nat) : (Word.of n).toNat / 256 ^ (a % 4) % 256 = n / 256 ^ (a % 4) % 256 := by
  have hn : (Word.of n).toNat = n % 2 ^ 32 := BitVec.toNat_ofNat n 32
  have ha : a % 4 < 4 := Nat.mod_lt _ (by decide)
  generalize a % 4 = k at ha
  obtain rfl | rfl | rfl | rfl : k = 0 ∨ k = 1 ∨ k = 2 ∨ k = 3 := by omega
  all_goals omega

theorem memReady_fills (s : State) (hrun : s.firmwareRuns = true) (hon : s.domOn dMem = true) (hready : s.boot.memReady = false) :
    ∃ t, exec .memReady s = .next t ∧ t.boot.memReady = true ∧ t.mem.h0.role = .marked ∧ t.mem.h1.role = .free ∧
      ∀ a, a < 0x10000000 → t.ram a = Byte.of (s.param 0x0411 / 256 ^ (a % 4) % 256) := by
  have hgo : exec .memReady s = _ := if_neg (by simp [hrun, hon, hready])
  obtain ⟨asks, hmem⟩ := State.builtIn_mem { s with
    mem := { s.mem with hoopFill := Word.of (s.param 0x0411), cells := s.mem.cells.filter fun c => 0x10000000 ≤ c.1, h0 := .initial .marked,
                        h1 := .initial .free }
    boot := { s.boot with memReady := true } }
  refine ⟨_, hgo, by simp, ?_, ?_, fun a ha => ?_⟩
  · rw [State.settle_mem, hmem]
    rfl
  · rw [State.settle_mem, hmem]
    rfl
  · rw [State.ram, State.settle_mem, hmem]
    dsimp only
    rw [cellRead_filter _ _ fun x => decide (0x10000000 ≤ x)]
    simp only [Nat.not_le.2 ha, decide_false, Bool.false_eq_true, if_false, memBg, ha, if_true, Word.toNat_of_div]

theorem persistedTableLoadDone_loads (id : BitVec 16) (s : State) (hboot : s.booted = true) (hmem : s.boot.memReady = true)
    (hmap : s.boot.mapLoaded = false) (hstore : s.storeLacks = false) (hknown : tableKnown id.toNat = true) (hlo : 1 ≤ id.toNat / 256)
    (hhi : id.toNat / 256 ≤ 3) :
    ∃ t, exec (.persistedTableLoadDone id) s = .next t ∧
      match s.loadTable (objTable (id.toNat / 256) (id.toNat % 256)) id.toNat with
      | .ok (b, _) => t.tableValid id.toNat = true ∧ (t.table id.toNat).bytes = b
      | .error w => if w = lfMissing then t.tab = s.tab else (t.table id.toNat).st = .invalid := by
  have hgo : exec (.persistedTableLoadDone id) s = _ := if_neg (by simp [hboot, hmem, hmap, hstore, hknown]; omega)
  rw [hgo]
  cases hload : s.loadTable (objTable (id.toNat / 256) (id.toNat % 256)) id.toNat with
  | ok r =>
    obtain ⟨b, x⟩ := r
    refine ⟨_, rfl, ?_, ?_⟩
    · simp [State.install_valid]
    · simp [State.install_table]
      omega
  | error w =>
    refine ⟨_, rfl, ?_⟩
    dsimp only
    split
    next hw => simp [State.loadFails, hw]
    next hw => simp [State.loadFails, hw, State.setTable_table]

theorem mapLoadDone_loads (s : State) (hboot : s.booted = true) (hmem : s.boot.memReady = true) (hmap : s.boot.mapLoaded = false) :
    ∃ t, exec .mapLoadDone s = .next t ∧ t.boot.mapLoaded = true ∧ t.boot.mapReady = t.planesValid ∧
      (t.planesValid = false → t.boot.mapWaitOver = true) := by
  have hgo : exec .mapLoadDone s = _ := if_neg (by simp [hboot, hmem, hmap])
  generalize hs3 : (if s.fieldsOn && s.storeLacks then _ else _ : State) = s3 at hgo
  refine ⟨_, hgo, by simp, ?_, ?_⟩
  · simp only [State.settle_planesValid, State.settle_frame]
    exact State.planesValid_congr rfl rfl
  · simp only [State.settle_planesValid, State.settle_frame]
    intro h
    have h3 : s3.planesValid = false := (State.planesValid_congr rfl rfl).trans h
    simp [h3]

theorem clipLoadDone_loads (n : BitVec 8) (s : State) (hboot : s.booted = true) (hwarm : s.boot.warm = false) (hmem : s.boot.memReady = true)
    (hstore : s.storeLacks = false) (hstress : s.param 0x4800 = 1 → s.prk.stress ≠ .off) (hdue : ∀ i, i < n.toNat → s.clipDue i = false)
    (hempty : (s.table (0x0700 + n.toNat)).st = .empty) :
    ∃ t, exec (.clipLoadDone n) s = .next t ∧
      match s.loadTable (objClip n.toNat) (0x0700 + n.toNat) with
      | .ok (b, _) => t.tableValid (0x0700 + n.toNat) = true ∧ (t.table (0x0700 + n.toNat)).bytes = b
      | .error w => if w = lfMissing then t = s else (t.table (0x0700 + n.toNat)).st = .invalid := by
  have hbefore : (List.range n.toNat).any s.clipDue = false := by
    simpa using hdue
  have hclip : s.storedClip n.toNat = match s.loadTable (objClip n.toNat) (0x0700 + n.toNat) with
      | .error w => .error w
      | .ok (data, _) => .ok data := if_neg (by simp [hempty])
  have hunstressed : ¬(s.param 0x4800 = 1 ∧ s.prk.stress = .off) := fun h => hstress h.1 h.2
  cases hload : s.loadTable (objClip n.toNat) (0x0700 + n.toNat) with
  | ok r =>
    obtain ⟨b, x⟩ := r
    rw [hload] at hclip
    have hgo : exec (.clipLoadDone n) s = _ := if_neg (by simp [hboot, hwarm, hmem, hstore, hunstressed, hbefore, State.clipDue, hclip])
    rw [hgo, hclip]
    refine ⟨_, rfl, ?_, ?_⟩
    · simp [State.install_valid]
    · simp [State.install_table]
      omega
  | error w =>
    rw [hload] at hclip
    dsimp only at hclip ⊢
    by_cases hw : w = lfMissing
    · have hgo : exec (.clipLoadDone n) s = .next s := if_pos (by simp [State.clipDue, hclip, hw])
      exact ⟨_, hgo, by rw [if_pos hw]⟩
    · have hgo : exec (.clipLoadDone n) s = _ := if_neg (by simp [hboot, hwarm, hmem, hstore, hunstressed, hbefore, State.clipDue, hclip, hw])
      rw [hgo, hclip]
      refine ⟨_, rfl, ?_⟩
      simp [State.loadFails, hw, State.setTable_table]

/-- Settles O10 (log entries 37 and 40): each loading command has a lemma of its own for what it puts in place. -/
theorem firmwareStartsUp : Obligations.FirmwareStartsUp := by
  refine ⟨samplerScanDone_applies, memReady_fills, persistedTableLoadDone_loads, mapLoadDone_loads, ?wait, ?snapshot, clipLoadDone_loads⟩
  case wait =>
    intro s hboot hready
    have hgo : exec .mapWaitLimitExpiry s = _ := if_neg (by simp [hboot, hready])
    exact ⟨_, hgo, rfl, by simp, by simpa using hready⟩
  case snapshot =>
    intro s hboot hmem hparam hstress hframes hstore
    have hgo : exec .stressSnapshotLoadDone s = _ := if_neg (by simp [hboot, hmem, hparam, hstress, hframes, hstore])
    rw [hgo]
    dsimp only
    split
    next h => exact ⟨_, rfl, by simp [h]⟩
    next h => exact ⟨_, rfl, by simp [h]⟩

end Sys2Proof.Machine
end

section
/-! SUPPORT. What leaves the power domains alone, and in which state each command puts a domain. -/

namespace Sys2Proof.Machine

theorem State.st_of_pwr {s t : State} (h : t.pwr = s.pwr) (d : Fin 19) : t.pwr.dom[d].st = s.pwr.dom[d].st := by
  simp only [h]

@[simp] theorem State.settle_asleep (s : State) : s.settle.pwr.asleep = s.pwr.asleep := by
  unfold State.settle
  split
  all_goals rfl

/-- Time that passes changes the residency counts of a domain, never its state. -/
theorem State.passTicks_st (s : State) (n : Nat) (d : Fin 19) : (s.passTicks n).pwr.dom[d].st = s.pwr.dom[d].st := by
  unfold State.passTicks
  dsimp only
  split
  · rfl
  repeat' split
  all_goals simp
  all_goals split
  all_goals rfl

theorem State.elapse_st (s : State) (t : Nat) (d : Fin 19) : (s.elapse t).pwr.dom[d].st = s.pwr.dom[d].st := by
  unfold State.elapse
  split
  · rfl
  · exact s.passTicks_st _ d

@[simp] theorem State.elapse_domOn (s : State) (t : Nat) (d : Fin 19) : (s.elapse t).domOn d = s.domOn d := by
  rw [State.domOn, State.elapse_st, State.domOn]

@[simp] theorem State.elapse_asleep (s : State) (t : Nat) : (s.elapse t).pwr.asleep = s.pwr.asleep := by
  unfold State.elapse State.passTicks
  dsimp only
  repeat' split
  all_goals simp

@[simp] theorem State.release_pwr (s : State) (i : Mb) : (s.release i).pwr = s.pwr := by
  unfold State.release
  split
  · simp
  · rfl

@[simp] theorem State.answer_pwr (s : State) (i : Mb) (bytes : List Byte) : (s.answer i bytes).pwr = s.pwr := by
  unfold State.answer
  dsimp only
  repeat' split
  all_goals simp

@[simp] theorem State.postWith_pwr (s : State) (i : Mb) (b : Bool) (st : Nat) (p : List Byte) : (s.postWith i b st p).pwr = s.pwr := by
  unfold State.postWith
  dsimp only
  split
  all_goals simp

@[simp] theorem State.post_pwr (s : State) (i : Mb) (st : Nat) (p : List Byte) : (s.post i st p).pwr = s.pwr := s.postWith_pwr i true st p

@[simp] theorem State.answerHeld_pwr (s : State) (i : Mb) (w : Wait) (st : Nat) (p : List Byte) : (s.answerHeld i w st p).pwr = s.pwr := by
  unfold State.answerHeld
  split
  · simp
  · rfl

@[simp] theorem State.bcLost_pwr (s : State) : s.bcLost.pwr = s.pwr := by
  unfold State.bcLost
  exact List.foldlRecOn (motive := fun t : State => t.pwr = s.pwr) _ _ rfl fun t ht m _ => by
    cases h : m.last
    all_goals simp [ht]

@[simp] theorem State.linkIdle_pwr (s : State) : s.linkIdle.pwr = s.pwr := by
  simp [State.linkIdle]

@[simp] theorem State.linkHalt_pwr (s : State) : s.linkHalt.pwr = s.pwr := by
  unfold State.linkHalt
  split
  · rfl
  · simp

@[simp] theorem State.sendHandshake_pwr (s : State) (path : Option Mb) (msg : List Byte) : (s.sendHandshake path msg).pwr = s.pwr := by
  unfold State.sendHandshake
  split
  all_goals simp

@[simp] theorem State.dropHandshake_pwr (s : State) : s.dropHandshake.pwr = s.pwr := by
  unfold State.dropHandshake
  repeat' split
  all_goals simp

@[simp] theorem State.secOff_pwr (s : State) : s.secOff.pwr = s.pwr := by
  simp [State.secOff]

/-- What a domain that loses its state takes with it is never another domain's state (R506). -/
@[simp] theorem State.domLost_pwr (s : State) (d : Fin 19) (low : DomState) : (s.domLost d low).pwr = s.pwr := by
  unfold State.domLost
  dsimp only
  repeat' split
  all_goals simp

@[simp] theorem State.nvPfw_pwr (s : State) : s.nvPfw.pwr = s.pwr := by
  unfold State.nvPfw
  dsimp only
  cases s.nv.write
  all_goals simp

@[simp] theorem State.linkDown_pwr (s : State) (cause : Nat) (next : LinkState) : (s.linkDown cause next).pwr = s.pwr := by
  unfold State.linkDown
  dsimp only
  repeat' split
  all_goals simp

@[simp] theorem State.linkStop_pwr (s : State) : (s.linkStop).pwr = s.pwr := by
  unfold State.linkStop
  dsimp only
  repeat' split
  all_goals simp

@[simp] theorem State.linkReset_pwr (s : State) : (s.linkReset).pwr = s.pwr := by
  unfold State.linkReset
  repeat' split
  all_goals simp

@[simp] theorem State.answerFunc_pwr (s : State) (m : Option Mb) (f : Func) (n : BitVec 32) : (s.answerFunc m f n).pwr = s.pwr := by
  cases m
  all_goals simp [State.answerFunc]

@[simp] theorem State.cutStarts_pwr (s : State) : (s.cutStarts).pwr = s.pwr := by
  simp [State.cutStarts]

@[simp] theorem State.funcClear_pwr (s : State) (f : Func) : (s.funcClear f).pwr = s.pwr := by
  unfold State.funcClear
  repeat' split
  all_goals simp

@[simp] theorem State.funcTake_pwr (s : State) (p : FuncPend) (n : BitVec 32) : (s.funcTake p n).pwr = s.pwr := by
  unfold State.funcTake
  dsimp only
  repeat' split
  all_goals simp

@[simp] theorem State.funcNow_pwr (s : State) (p : FuncPend) : (s.funcNow p).pwr = s.pwr := by
  simp [State.funcNow]

@[simp] theorem State.liveStarts_pwr (s : State) (n : BitVec 32) : (s.liveStarts n).pwr = s.pwr := by
  simp [State.liveStarts]

@[simp] theorem State.funcFlush_pwr (s : State) : (s.funcFlush).pwr = s.pwr := by
  simp [State.funcFlush]

@[simp] theorem State.rasterStop_pwr (s : State) : (s.rasterStop).pwr = s.pwr := by
  unfold State.rasterStop
  dsimp only
  repeat' split
  all_goals simp

@[simp] theorem State.discharge_pwr (s : State) (cause : Nat) : (s.discharge cause).pwr = s.pwr := by
  simp [State.discharge]

@[simp] theorem State.panelPfw_pwr (s : State) : (s.panelPfw).pwr = s.pwr := by
  unfold State.panelPfw
  repeat' split
  all_goals simp

@[simp] theorem State.afterDark_pwr (s : State) : (s.afterDark).pwr = s.pwr := by
  unfold State.afterDark
  dsimp only
  repeat' split
  all_goals simp

@[simp] theorem State.darken_pwr (s : State) (cause : Nat) (rest : Bool) : (s.darken cause rest).pwr = s.pwr := by
  unfold State.darken
  dsimp only
  repeat' split
  all_goals simp

@[simp] theorem State.panelStop_pwr (s : State) (cause : Nat) (rest : Bool) : (s.panelStop cause rest).pwr = s.pwr := by
  unfold State.panelStop
  repeat' split
  all_goals simp

@[simp] theorem State.hardStop_pwr (s : State) : (s.hardStop).pwr = s.pwr := by
  unfold State.hardStop
  repeat' split
  all_goals simp

@[simp] theorem State.domLost_pendingReset (s : State) (d : Fin 19) (low : DomState) : (s.domLost d low).boot.pendingReset = s.boot.pendingReset := by
  unfold State.domLost State.memGone
  dsimp only
  repeat' split
  all_goals simp

end Sys2Proof.Machine
end

section
/-! CLAIM O13. Power failure, its save and the recovery. -/

namespace Sys2Proof.Machine

/-! ## The warning -/

theorem State.panelState_st (s : State) (st : PanelState) (cause : Nat) : (s.panelState st cause).pnl.st = st := by
  unfold State.panelState
  split
  · assumption
  · simp

@[simp] theorem State.discharge_st (s : State) (cause : Nat) : (s.discharge cause).pnl.st = .poweringOff :=
  State.panelState_st _ _ _

/-- A supply that fails takes a powered panel down at once (R102, R495). -/
theorem State.panelPfw_st (s : State) : s.panelPfw.pnl.st = if s.pnl.st = .off then .off else .poweringOff := by
  unfold State.panelPfw
  split
  next h => simp [h]
  next h => simp [h]
  next hoff hpo => simp [show ¬s.pnl.st = .off from hoff]

@[simp] theorem State.norProgram_pfwCount (s : State) (a : Nat) (bs : List Byte) : (s.norProgram a bs).nv.pfwCount = s.nv.pfwCount := by
  induction bs generalizing s a with
  | nil => rfl
  | cons v vs ih => rw [State.norProgram, ih]

@[simp] theorem State.nvPfw_pfwCount (s : State) : s.nvPfw.nv.pfwCount = s.nv.pfwCount := by
  unfold State.nvPfw
  dsimp only
  cases s.nv.write
  all_goals simp

/-- A wake source that qualifies while the device is awake raises its votes alone (R512). -/
theorem State.qualify_of_awake {s : State} (h : s.pwr.asleep = false) (w : WakeSource) :
    (s.qualify w).pnl = s.pnl ∧ (s.qualify w).nv = s.nv ∧ (s.qualify w).boot = s.boot := by
  unfold State.qualify State.wakeServe
  dsimp only
  repeat' split
  all_goals simp_all

theorem pfwAssert_warns (v : BitVec 16) (s : State) (hp : s.boot.powered = true) (hpfw : s.vin.pfw = false) (hlow : v.toNat * 100 < s.vPfw * 102)
    (hawake : s.pwr.asleep = false) :
    ∃ t, exec (.pfwAssert v) s = .next t ∧ t.vin.pfw = true ∧ t.vin.pfwAt = s.now ∧ t.vin.latest = v.toNat ∧
      t.nv.pfwCount = s.nv.pfwCount + 1 ∧ t.vin.saved = !s.savesNow ∧ t.pnl.st = (if s.pnl.st = .off then .off else .poweringOff) := by
  have hgo : exec (.pfwAssert v) s = _ := if_neg (by simp [hp, hpfw, hlow])
  have hwakes (u : State) (hu : u.pwr.asleep = false) := State.qualify_of_awake (s := u.panelPfw.snapAbandon.nvPfw.cmpPfw) (by simpa using hu) .pfw
  generalize hu : State.logOnly _ _ _ _ _ = u at hgo
  have huawake : u.pwr.asleep = false := by simp [← hu, hawake]
  obtain ⟨hpnl, hnv, -⟩ := hwakes u huawake
  refine ⟨_, hgo, by simp [← hu], by simp [← hu], by simp [← hu], ?_, by simp [← hu], ?_⟩
  · rw [State.settle_nv, hnv]
    simp [← hu]
  · rw [State.settle_pnl, hpnl]
    simp [State.panelPfw_st, ← hu]

/-! ## The save -/

/-- The save puts the domain it comes to into a state in which it does not run, and leaves every other one (R496). -/
theorem State.pfwPut_st (s : State) (d e : Fin 19) : if e = d then (s.pfwPut d).pwr.dom[e].st ≠ .on else (s.pfwPut d).pwr.dom[e].st = s.pwr.dom[e].st := by
  unfold State.pfwPut
  dsimp only
  generalize hlow : (if s.pwr.dom[d].st == .failed then .failed else if d = dMem && s.pwr.dom[d].st != .off then .retention else .off : DomState) = low
  have hnot : low ≠ .on := by
    rw [← hlow]
    repeat' split
    all_goals decide
  split
  next hed =>
    split
    next h => simpa only [State.onDom_st, hed, if_true, ← h] using hnot
    next h => simpa only [State.domLost_pwr, State.onDom_st, hed, if_true] using hnot
  next hed =>
    split
    all_goals simp only [State.domLost_pwr, State.onDom_st, hed, if_false]

@[simp] theorem State.pfwPut_pendingReset (s : State) (d : Fin 19) : (s.pfwPut d).boot.pendingReset = s.boot.pendingReset := by
  unfold State.pfwPut
  dsimp only
  generalize (if s.pwr.dom[d].st == .failed then .failed else if d = dMem && s.pwr.dom[d].st != .off then .retention else .off : DomState) = low
  split
  all_goals simp

theorem State.foldl_pfwPut_st (ds : List (Fin 19)) (s : State) (d : Fin 19) (h : d ∈ ds ∨ s.pwr.dom[d].st ≠ .on) :
    (ds.foldl (fun t e => t.pfwPut e) s).pwr.dom[d].st ≠ .on := by
  induction ds generalizing s with
  | nil => simpa using h
  | cons e ds ih =>
    refine ih _ ?_
    by_cases hmem : d ∈ ds
    · exact .inl hmem
    · refine .inr ?_
      by_cases hd : d = e
      · simpa [hd] using s.pfwPut_st e d
      · have hst : s.pwr.dom[d].st ≠ .on := by simpa [hd, hmem] using h
        have hkeep := s.pfwPut_st e d
        rw [if_neg hd] at hkeep
        rwa [hkeep]

theorem pfwSaveDone_sleeps (s : State) (hsaved : s.vin.saved = false) (hpfw : s.vin.pfw = true ∨ s.vin.recovering = true) (hon : s.domOn dCtrl = true)
    (hnone : s.boot.pendingReset = none) :
    ∃ t, exec .pfwSaveDone s = .next t ∧ t.vin.saved = true ∧ t.pwr.asleep = true ∧ ∀ d : Fin 19, d ≠ dCtrl → t.pwr.dom[d].st ≠ .on := by
  have hgo : exec .pfwSaveDone s = _ := if_neg (by rcases hpfw with h | h <;> simp [hsaved, h, hon])
  generalize hs3 : (wakeOrder.drop 1).foldl (fun t d => State.pfwPut t d) _ = s3 at hgo
  have hst (d : Fin 19) (hd : d ≠ dCtrl) : s3.pwr.dom[d].st ≠ .on := by
    rw [← hs3]
    exact State.foldl_pfwPut_st _ _ d (.inl (by revert d; decide))
  have hpend : s3.boot.pendingReset = none := by
    rw [← hs3]
    refine List.foldlRecOn (motive := fun t : State => t.boot.pendingReset = none) _ _ (by simpa using hnone) fun t ht d _ => ?_
    simpa using ht
  have hvin : s3.vin.saved = true := by rw [← hs3]; simp
  rw [hpend] at hgo
  exact ⟨_, hgo, by simpa using hvin, by simp, fun d hd => (State.settle_st _ d).symm ▸ hst d hd⟩

/-! ## The recovery -/

/-- The resumed device starts warm (R497). -/
theorem State.resumed_warm (s : State) : s.resumed.boot.warm = s.boot.warm := by
  unfold State.resumed
  dsimp only
  split
  · obtain ⟨ready, h⟩ := State.autoPanel_boot { s with
      pwr := { s.pwr with resume := false, asleep := false, runVote := true }, hl := { s.hl with vote := !s.fn.hostLink.stopped } }
    simp [h]
  · simp

theorem pfwRecoverExpiry_resumes (a : Nat) (s : State) (hfrom : s.vin.recoverFrom = some a) (hawake : s.pwr.asleep = false) (hpast : s.pastProfile = true) :
    ∃ t, exec .pfwRecoverExpiry s = .next t ∧ t.vin.recoverFrom = none ∧ t.vin.recovering = false ∧ t.boot.warm = true ∧
      t.now = max s.now (a + ms (s.param 0x0C09)) := by
  generalize he : s.elapse (a + ms (s.param 0x0C09)) = e
  generalize hv : State.event { e with vin := { e.vin with recoverFrom := none, recovering := false, saved := true } } 0x0C02 .info true 3
    (sat 0xFFFFFFFF ((a - s.vin.pfwAt) / ms 1)) = v
  have hsleep : e.pwr.asleep = false := by rw [← he, State.elapse_asleep, hawake]
  have hvpast : v.pastProfile = true := by rw [← hpast, ← hv, ← he]; simp [State.pastProfile]
  have hgo : exec .pfwRecoverExpiry s = if v.beginResume.domOn dCtrl then done v.beginResume.resumed
      else done { v.beginResume with pwr := { v.beginResume.pwr with wakeVote := v.beginResume.pwr.wakeVote ||| 1 } } := by
    simp [exec_pfwRecoverExpiry, execPfwRecoverExpiry, hfrom, he, hv, hsleep, hvpast]
  have hvin : v.vin.recoverFrom = none ∧ v.vin.recovering = false := by rw [← hv]; simp
  have hnow : v.now = max s.now (a + ms (s.param 0x0C09)) := by rw [← hv, ← he]; simp
  have hwarm : v.beginResume.boot.warm = true := by simp [State.beginResume]
  rw [hgo]
  split
  · exact ⟨_, rfl, by simpa using hvin.1, by simpa using hvin.2, by simpa [State.resumed_warm] using hwarm, by simpa using hnow⟩
  · exact ⟨_, rfl, by simpa using hvin.1, by simpa using hvin.2, by simpa using hwarm, by simpa using hnow⟩

/-- Settles O13 (log entry 38): the save and the recovery each have a lemma; the supply's return touches the warning alone. -/
theorem powerFailSavesAndRecovers : Obligations.PowerFailSavesAndRecovers := by
  refine ⟨pfwAssert_warns, pfwSaveDone_sleeps, fun v s hpfw hv => ?_, pfwRecoverExpiry_resumes⟩
  have hgo : exec (.pfwDeassert v) s = _ := if_neg (by simp [hpfw, Nat.not_lt.2 hv])
  exact ⟨_, hgo, by simp, by simp, by simp, by simp⟩

end Sys2Proof.Machine
end

section
/-! CLAIM O14. Thermal samples, the release, the trigger and the repeated request. -/

namespace Sys2Proof.Machine

/-- What the last sample has left: the readings, their instant and the step in force. -/
def State.sensed (s : State) : Vector Int 12 × Option Nat × Nat := (s.thm.die, s.thm.sampledAt, s.thm.step)

theorem State.sensed_of_thm {s t : State} (h : t.thm = s.thm := by simp) : t.sensed = s.sensed := by
  simp [State.sensed, h]

@[simp] theorem State.settle_sensed (s : State) : s.settle.sensed = s.sensed := State.sensed_of_thm

/-! ## Stopping the panel keeps the readings and the step -/

@[simp] theorem State.dropTransition_sensed (s : State) : s.dropTransition.sensed = s.sensed := by
  unfold State.dropTransition
  dsimp only
  repeat' split
  all_goals simp [State.sensed]

@[simp] theorem State.funcTake_thm (s : State) (p : FuncPend) (n : BitVec 32) : (s.funcTake p n).thm = s.thm := by
  unfold State.funcTake
  dsimp only
  repeat' split
  all_goals simp

theorem State.rasterStop_sensed (s : State) : s.rasterStop.sensed = s.sensed := by
  unfold State.rasterStop
  dsimp only
  split
  · rfl
  refine (State.sensed_of_thm ?_).trans s.dropTransition_sensed
  split
  all_goals simp

@[simp] theorem State.discharge_sensed (s : State) (cause : Nat) : (s.discharge cause).sensed = s.sensed :=
  (State.sensed_of_thm (by simp [State.discharge])).trans s.rasterStop_sensed

theorem State.darken_sensed (s : State) (cause : Nat) (rest : Bool) : (s.darken cause rest).sensed = s.sensed := by
  have hdark (u : State) (hu : u.sensed = s.sensed) : u.afterDark.sensed = s.sensed := by
    unfold State.afterDark
    split
    · exact (State.sensed_of_thm (t := { (u.rasterStop.emitOff).panelState .restSweep u.pnl.cause with
        prk := _ }) (by simp)).trans (u.rasterStop_sensed.trans hu)
    · exact (u.discharge_sensed _).trans hu
  have hdrop : ((s.endPanelOn stBusy).dropTransition).sensed = s.sensed := by
    rw [State.dropTransition_sensed]
    exact State.sensed_of_thm
  unfold State.darken
  dsimp only
  split
  · exact hdark _ ((State.sensed_of_thm (by simp)).trans hdrop)
  split
  · exact (State.sensed_of_thm (by simp)).trans hdrop
  · exact (State.sensed_of_thm (by simp [State.unshow])).trans hdrop

theorem State.panelStop_sensed (s : State) (cause : Nat) (rest : Bool) : (s.panelStop cause rest).sensed = s.sensed := by
  unfold State.panelStop
  repeat' split
  case h_3 | h_4 => exact (State.discharge_sensed _ _).trans State.sensed_of_thm
  case h_5 => exact (State.darken_sensed _ _ _).trans State.sensed_of_thm
  case h_7.isFalse => exact (State.discharge_sensed _ _).trans State.sensed_of_thm
  all_goals exact State.sensed_of_thm

@[simp] theorem State.hardStop_sensed (s : State) : s.hardStop.sensed = s.sensed := by
  unfold State.hardStop
  split
  · rfl
  · exact (State.panelStop_sensed _ _ _).trans State.sensed_of_thm

/-! ## Steps -/

theorem State.t4Check_sensed (s : State) : s.t4Check.sensed = s.sensed := by
  unfold State.t4Check
  dsimp only
  repeat' split
  all_goals simp [State.sensed]

theorem State.thermalRequest_sensed (s : State) (cause : Nat) : (s.thermalRequest cause).sensed = s.sensed := by
  simp [State.thermalRequest, State.sensed]

/-- A step takes effect with the readings kept (R524). -/
theorem State.stepTo_sensed (s : State) (new cause : Nat) : (s.stepTo new cause).sensed = (s.thm.die, s.thm.sampledAt, new) := by
  unfold State.stepTo
  dsimp only
  split
  next h => simp [State.sensed, h]
  next h =>
    rw [State.t4Check_sensed]
    split
    all_goals split
    all_goals simp [State.sensed, State.thermalRequest, State.kind5]

theorem State.stepUp_sensed (s : State) (rise : Bool) : (s.stepUp rise).thm.die = s.thm.die ∧ (s.stepUp rise).thm.sampledAt = s.thm.sampledAt ∧
    s.thm.step ≤ (s.stepUp rise).thm.step := by
  have hstep (u : State) (new cause : Nat) (hu : u.sensed = s.sensed) (h : s.thm.step ≤ new) : (u.stepTo new cause).thm.die = s.thm.die ∧
      (u.stepTo new cause).thm.sampledAt = s.thm.sampledAt ∧ s.thm.step ≤ (u.stepTo new cause).thm.step := by
    have hsensed := u.stepTo_sensed new cause
    simp only [State.sensed, Prod.mk.injEq] at hsensed hu
    obtain ⟨hdie, hat, hnew⟩ := hsensed
    exact ⟨hdie.trans hu.1, hat.trans hu.2.1, by rwa [hnew]⟩
  unfold State.stepUp
  dsimp only
  generalize hs1 : (if (s.stepWanted rise).1 == 4 && decide (s.thm.step < 4) && s.param 0x100D == 1 && s.t4Unfit && !s.thm.t4Refused then
      s.logOnly 0x1101 .warning 3 (unsigned 32 s.thm.tc) else s) = s1
  have h1 : s1.thm = s.thm := by
    rw [← hs1]
    split
    all_goals simp
  generalize (if (s.stepWanted rise).1 == 4 && decide (s.thm.step < 4) && s.param 0x100D == 1 && s.t4Unfit then 3 else (s.stepWanted rise).1) = m
  split
  next hlt => exact hstep _ _ _ (by simp [State.sensed, h1]) (Nat.le_of_lt hlt)
  next => simp [h1]

/-- The throttle never lowers the step while CTRL runs (R524, R528). -/
theorem State.throttle_sensed (s : State) (hon : s.domOn dCtrl = true) :
    s.throttle.thm.die = s.thm.die ∧ s.throttle.thm.sampledAt = s.thm.sampledAt ∧ s.thm.step ≤ s.throttle.thm.step := by
  have hrise : s.riseUpdate.tcRecord.sensed = s.sensed ∧ s.riseUpdate.tcRecord.pwr = s.pwr := by
    unfold State.riseUpdate State.tcRecord
    split
    all_goals exact ⟨rfl, rfl⟩
  unfold State.throttle
  dsimp only
  generalize hs2 : (if s.riseFires then _ else _ : State) = s2
  have h2 : s2.sensed = s.sensed ∧ s2.pwr = s.pwr := by
    rw [← hs2, ← hrise.1, ← hrise.2]
    split
    all_goals simp [State.sensed]
  have hon2 : s2.domOn dCtrl = true := by simpa [State.domOn, h2.2] using hon
  rw [if_pos hon2]
  have hsensed := h2.1
  simp only [State.sensed, Prod.mk.injEq] at hsensed
  obtain ⟨hdie, hat, hstep⟩ := hsensed
  obtain ⟨h1, h2, h3⟩ := s2.stepUp_sensed (s.riseFires || s2.thm.risePend)
  exact ⟨h1.trans hdie, h2.trans hat, hstep ▸ h3⟩

/-- A reset keeps the readings (R106). -/
theorem State.resetTakes_readings (s : State) (causes earliest : BitVec 32) (coincide : Bool) :
    (s.resetTakes causes earliest coincide).thm.die = s.thm.die ∧ (s.resetTakes causes earliest coincide).thm.sampledAt = s.thm.sampledAt := by
  have hcore : (s.resetCore causes earliest coincide).thm.die = s.thm.die ∧ (s.resetCore causes earliest coincide).thm.sampledAt = s.thm.sampledAt := by
    unfold State.resetCore
    dsimp only
    split
    all_goals simp [State.wipe]
  have hmarks : (s.resetMarks causes earliest coincide).thm = (s.resetCore causes earliest coincide).thm := by
    unfold State.resetMarks
    dsimp only
    split
    all_goals split
    all_goals simp
  rw [State.resetTakes_eq]
  dsimp only
  repeat' split
  all_goals simpa [hmarks] using hcore

theorem State.resetTakes_cause (s : State) {causes : BitVec 32} (earliest : BitVec 32) (coincide : Bool) {b : Nat} (h : causes.getLsbD b = true) :
    (s.resetTakes causes earliest coincide).boot.resetCause.getLsbD b = true := by
  have hc := congrArg (BitVec.getLsbD · b) (s.resetTakes_resetTo causes earliest coincide).cause
  simp only [BitVec.getLsbD_and, h, Bool.and_true] at hc
  exact hc

/-- A shutdown that a sample brings resets for THERMAL, or leaves the step while it waits (R98, R99). -/
theorem State.shutdownWatch_sensed (s : State) : s.shutdownWatch.thm.die = s.thm.die ∧ s.shutdownWatch.thm.sampledAt = s.thm.sampledAt ∧
    (s.thm.step ≤ s.shutdownWatch.thm.step ∨ s.shutdownWatch.boot.resetCause.getLsbD 6 = true) := by
  have hkeep (u : State) (hu : u.sensed = s.sensed) : u.thm.die = s.thm.die ∧ u.thm.sampledAt = s.thm.sampledAt ∧
      (s.thm.step ≤ u.thm.step ∨ u.boot.resetCause.getLsbD 6 = true) := by
    simp only [State.sensed, Prod.mk.injEq] at hu
    exact ⟨hu.1, hu.2.1, .inl (Nat.le_of_eq hu.2.2.symm)⟩
  unfold State.shutdownWatch
  split
  case isFalse => exact hkeep s rfl
  unfold State.resetCause
  cases hpend : s.boot.pendingReset with
  | some p => exact hkeep _ rfl
  | none =>
    dsimp only
    split
    · exact hkeep _ (State.hardStop_sensed _)
    unfold State.resetDue
    dsimp only
    split
    · exact hkeep _ rfl
    · refine ⟨(State.resetTakes_readings _ _ _ _).1, (State.resetTakes_readings _ _ _ _).2, .inr (State.resetTakes_cause _ _ _ ?_)⟩
      decide

/-- The instant at which the next sample is taken (R522). -/
def State.atSample (s : State) : State :=
  match s.thm.sampledAt with
  | some t => s.elapse (t + ms (s.param 0x1000))
  | none => s

/-- The readings of one sample. -/
def State.readSensors (s : State) (die : List (BitVec 16)) (m0 m1 : BitVec 16) : State :=
  let on := s.domOn dMem
  { s with thm := { s.thm with
    die := Vector.ofFn fun i => (die.getD i.val 0).toInt, sampledAt := some s.now
    mem0 := if on then m0.toInt else s.thm.mem0, mem1 := if on then m1.toInt else s.thm.mem1 } }

/-- The readings judged: suspect sensors, the floor and the control temperature (R523 to R526). -/
def State.judgeSensors (s : State) : State :=
  let s1 := s.crossCheck.floorWatch
  { s1 with thm := { s1.thm with tc := s1.controlTemp } }

theorem exec_thermalSample {die : List (BitVec 16)} (m0 m1 : BitVec 16) {s : State} (hlen : die.length = 12) (hp : s.boot.powered = true) :
    exec (.thermalSample die m0 m1) s = done (s.atSample.readSensors die m0 m1).judgeSensors.throttle.shutdownWatch := by
  have hlen' : ¬die.length ≠ 12 := by simp [hlen]
  exact (if_neg hlen').trans (if_neg (by simp [hp]))

theorem State.atSample_keeps (s : State) (d : Fin 19) : s.atSample.thm = s.thm ∧ s.atSample.domOn d = s.domOn d := by
  unfold State.atSample
  split
  · exact ⟨by simp, State.elapse_domOn _ _ _⟩
  · exact ⟨rfl, rfl⟩

theorem State.crossCheck_sensed (s : State) : s.crossCheck.sensed = s.sensed := by
  unfold State.crossCheck
  dsimp only
  refine List.foldlRecOn (motive := fun t : State => t.sensed = s.sensed) _ _ (by simp [State.sensed]) fun t ht i _ => ?_
  repeat' split
  all_goals simpa [State.sensed] using ht

theorem State.judgeSensors_sensed (s : State) : s.judgeSensors.sensed = s.sensed ∧ s.judgeSensors.now = s.now ∧ s.judgeSensors.pwr = s.pwr := by
  refine ⟨?_, by simp [State.judgeSensors], by simp [State.judgeSensors]⟩
  have hfloor (u : State) : u.floorWatch.sensed = u.sensed := by
    unfold State.floorWatch
    dsimp only
    split
    all_goals simp [State.sensed]
  have hboth := (hfloor s.crossCheck).trans s.crossCheck_sensed
  unfold State.judgeSensors
  generalize s.crossCheck.floorWatch = u at hboth ⊢
  exact hboth

theorem thermalSample_reads (die : List (BitVec 16)) (m0 m1 : BitVec 16) (s : State) (hlen : die.length = 12) (hp : s.boot.powered = true)
    (hon : s.domOn dCtrl = true) :
    ∃ t, exec (.thermalSample die m0 m1) s = .next t ∧ (∀ i : Fin 12, t.thm.die[i] = (die.getD i.val 0).toInt) ∧
      t.thm.sampledAt = some t.now ∧ (s.thm.step ≤ t.thm.step ∨ t.boot.resetCause.getLsbD 6 = true) := by
  obtain ⟨hsensed, hnow, hpwr⟩ := (s.atSample.readSensors die m0 m1).judgeSensors_sensed
  obtain ⟨hthm, hdom⟩ := s.atSample_keeps dCtrl
  have hgo := exec_thermalSample m0 m1 hlen hp
  simp only [State.sensed, Prod.mk.injEq] at hsensed
  obtain ⟨hdie, hat, hstep⟩ := hsensed
  generalize (s.atSample.readSensors die m0 m1).judgeSensors = v at *
  have hvon : v.domOn dCtrl = true := by
    rw [State.domOn, hpwr]
    exact hdom.trans hon
  have hvstep : v.thm.step = s.thm.step := hstep.trans (by rw [← hthm]; rfl)
  obtain ⟨tdie, tat, tstep⟩ := v.throttle_sensed hvon
  obtain ⟨wdie, wat, wstep⟩ := v.throttle.shutdownWatch_sensed
  refine ⟨_, hgo, fun i => ?_, ?_, ?_⟩
  · simp [wdie, tdie, hdie, State.readSensors]
  · rw [State.settle_thm, wat, tat, hat]
    simp [hnow, State.readSensors]
  · rcases wstep with h | h
    · exact .inl (by simpa using Nat.le_trans (hvstep ▸ tstep) h)
    · exact .inr (by simpa using h)

/-- Settles O14: a sample's effects are followed through the step it may raise; release and repeat go through the step and the event they make. -/
theorem thermalStepsFollowSamples : Obligations.ThermalStepsFollowSamples := by
  refine ⟨thermalSample_reads, ?release, fun _ => rfl, ?again⟩
  case release =>
    intro c s hcool hstep hfloor hon
    have hgo : exec .thmReleaseExpiry s = done ((s.elapse (c + ms (s.param 0x1006))).stepTo (s.thm.step - 1) 4) := by
      simp [exec_thmReleaseExpiry, execThmReleaseExpiry, hcool, hstep, Nat.not_le.2 hfloor, hon]
    have hsensed := (s.elapse (c + ms (s.param 0x1006))).stepTo_sensed (s.thm.step - 1) 4
    simp only [State.sensed, Prod.mk.injEq] at hsensed
    exact ⟨_, hgo, by simpa using hsensed.2.2, by simp⟩
  case again =>
    intro s hstep hrate hroom
    have hgo : exec .thermalRequestRepeat s = done (s.thermalRequest s.thm.reqCause) := if_neg (by simp [Nat.not_lt.2 hstep, Nat.not_lt.2 hrate])
    obtain ⟨e, hentries, hcode, hsource⟩ := State.event_entries { s with thm := { s.thm with reqRate := s.shownRate, reqCause := s.thm.reqCause } }
      0x1001 .warning true 3 (max (s.shownRate / 2000) ((s.param 0x4804 + 999) / 1000) % 65536 * 65536 + s.thm.step * 256 + s.thm.reqCause) hroom
    exact ⟨_, e, hgo, by simp [State.thermalRequest], by simpa [State.thermalRequest] using hentries, hcode, hsource⟩

end Sys2Proof.Machine
end

section
/-! CLAIM O3. Every well-formed command gives a next state: a request always leaves a mailbox, and no other command can stop. -/

namespace Sys2Proof.Machine

/-- The command gives a next state. -/
def Out.goesOn (o : Out) : Prop := ∃ t, o = .next t

@[simp] theorem Out.next_goesOn (t : State) : Out.goesOn (.next t) := ⟨t, rfl⟩

@[simp] theorem Out.done_goesOn (t : State) : Out.goesOn (done t) := ⟨_, rfl⟩

@[simp] theorem Out.serve_goesOn (s : State) (i : Mb) (c : Cmd) (run : List Byte → State → Reply) : Out.goesOn (s.serve i c run) := s.serve_next i c run

theorem Out.goesOn_ite {c : Prop} [Decidable c] {a b : Out} (ha : a.goesOn) (hb : b.goesOn) : (if c then a else b).goesOn := by
  split
  · exact ha
  · exact hb

@[simp] theorem Out.serveSetOf_goesOn (s : State) (i : Mb) (id : Nat) : Out.goesOn (s.serveSetOf i id) := by
  unfold State.serveSetOf
  split
  all_goals simp

/-- A message of the Tatting net that no port hears changes nothing or is counted (R412). -/
theorem Out.tatTake_goesOn {s : State} {port : TatPort} {kind : Nat} {codes : List (BitVec 10)} {f : List Byte → State → Out}
    (h : ∀ p, (f p s).goesOn) : Out.goesOn (s.tatTake port kind codes f) := by
  unfold State.tatTake
  repeat' split
  case h_2.isTrue p _ _ => exact h p
  all_goals simp

theorem execBootRomCheckDone_goesOn (readError : Bool) (s : State) : (execBootRomCheckDone readError s).goesOn := by
  unfold execBootRomCheckDone
  dsimp only
  repeat' split
  all_goals simp_all

theorem execPersistedTableLoadDone_goesOn (table : BitVec 16) (s : State) : (execPersistedTableLoadDone table s).goesOn := by
  unfold execPersistedTableLoadDone
  dsimp only
  repeat' split
  all_goals simp_all

theorem execStressSnapshotLoadDone_goesOn (s : State) : (execStressSnapshotLoadDone s).goesOn := by
  unfold execStressSnapshotLoadDone
  dsimp only
  repeat' split
  all_goals simp_all

theorem execClipLoadDone_goesOn (inst : BitVec 8) (s : State)  : (execClipLoadDone inst s).goesOn := by
  unfold execClipLoadDone
  repeat' split
  all_goals simp

theorem execResetNRelease_goesOn (straps : Straps) (s : State) : (execResetNRelease straps s).goesOn := by
  unfold execResetNRelease
  dsimp only
  repeat' split
  all_goals simp_all

theorem execHardwareSafeStopEnd_goesOn (s : State)  : (execHardwareSafeStopEnd s).goesOn := by
  unfold execHardwareSafeStopEnd
  repeat' split
  all_goals simp

theorem execThermalSample_goesOn (die : List (BitVec 16)) (mem0 mem1 : BitVec 16) (s : State) (h : die.length = 12) : (execThermalSample die mem0 mem1 s).goesOn := by
  unfold execThermalSample
  dsimp only
  repeat' split
  all_goals simp_all

theorem execThmReleaseExpiry_goesOn (s : State)  : (execThmReleaseExpiry s).goesOn := by
  unfold execThmReleaseExpiry
  repeat' split
  all_goals simp

theorem execPfwSaveDone_goesOn (s : State) : (execPfwSaveDone s).goesOn := by
  unfold execPfwSaveDone
  dsimp only
  repeat' split
  all_goals simp_all

theorem execPfwRecoverExpiry_goesOn (s : State) : (execPfwRecoverExpiry s).goesOn := by
  unfold execPfwRecoverExpiry
  dsimp only
  repeat' split
  all_goals simp_all

theorem execResetKeyWrite_goesOn (port : Port) (data : Word) (s : State) : (execResetKeyWrite port data s).goesOn := by
  unfold execResetKeyWrite
  dsimp only
  repeat' split
  all_goals simp_all

theorem execStandbyEntry_goesOn (s : State)  : (execStandbyEntry s).goesOn := by
  unfold execStandbyEntry
  repeat' split
  all_goals simp

theorem execNvWriteRecord_goesOn (mb : Mb) (s : State)  : (execNvWriteRecord mb s).goesOn := by
  unfold execNvWriteRecord
  repeat' split
  all_goals simp

theorem execNorProgramDone_goesOn (mismatch : Bool) (s : State) : (execNorProgramDone mismatch s).goesOn := by
  unfold execNorProgramDone
  dsimp only
  repeat' split
  all_goals simp_all

theorem execNvEraseDone_goesOn (failed : List Nat) (s : State)  : (execNvEraseDone failed s).goesOn := by
  unfold execNvEraseDone
  repeat' split
  all_goals simp

theorem execSamplerCompaction_goesOn (bank1 : Bool) (s : State) : (execSamplerCompaction bank1 s).goesOn := by
  unfold execSamplerCompaction
  dsimp only
  repeat' split
  all_goals simp_all

theorem execCmpContainerDone_goesOn (s : State)  : (execCmpContainerDone s).goesOn := by
  unfold execCmpContainerDone
  repeat' split
  all_goals simp

theorem execSecSession_goesOn (mb : Mb) (s : State)  : (execSecSession mb s).goesOn := by
  unfold execSecSession
  repeat' split
  all_goals simp

theorem execHlWakePattern_goesOn (side : Side) (s : State) : (execHlWakePattern side s).goesOn := by
  unfold execHlWakePattern
  dsimp only
  repeat' split
  all_goals simp_all

theorem execHlBlockLock_goesOn (side : Side) (phases : List (BitVec 6)) (s : State) (h : phases.length = 8) : (execHlBlockLock side phases s).goesOn := by
  unfold execHlBlockLock
  dsimp only
  repeat' split
  all_goals simp_all

theorem execHlEqualizeDone_goesOn (side : Side) (eyes : List LaneEye) (s : State) (h : eyes.length = 8) : (execHlEqualizeDone side eyes s).goesOn := by
  unfold execHlEqualizeDone
  dsimp only
  repeat' split
  all_goals simp_all

theorem execHlDeskewDone_goesOn (side : Side) (skew : BitVec 16) (lanes : DeskewLanes) (s : State) (h : lanes.delays.length = 8) : (execHlDeskewDone side skew lanes s).goesOn := by
  unfold execHlDeskewDone
  dsimp only
  repeat' split
  all_goals simp_all

theorem execHlClockLost_goesOn (side : Side) (activity : Bool) (s : State) : (execHlClockLost side activity s).goesOn := by
  unfold execHlClockLost
  dsimp only
  repeat' split
  all_goals simp_all

theorem execHlEios_goesOn (s : State)  : (execHlEios s).goesOn := by
  unfold execHlEios
  repeat' split
  all_goals simp

theorem execBackChannelSend_goesOn (s : State)  : (execBackChannelSend s).goesOn := by
  unfold execBackChannelSend
  repeat' split
  all_goals simp

theorem execFrameStart_goesOn (at_ : Nat) (fifoA fifoB : BitVec 6) (s : State) : (execFrameStart at_ fifoA fifoB s).goesOn := by
  unfold execFrameStart
  dsimp only
  repeat' split
  all_goals simp_all

theorem execRowSlotStart_goesOn (at_ : Nat) (bursts : List Burst) (blockFail nextFail : Bool) (s : State) : (execRowSlotStart at_ bursts blockFail nextFail s).goesOn := by
  unfold execRowSlotStart
  dsimp only
  repeat' split
  all_goals simp_all

theorem execPredictiveRepeat_goesOn (tick : FrameTick) (s : State) : (execPredictiveRepeat tick s).goesOn := by
  unfold execPredictiveRepeat
  dsimp only
  repeat' split
  all_goals simp_all

theorem execTimingGeneratorPeriod_goesOn (tick : FrameTick) (s : State) : (execTimingGeneratorPeriod tick s).goesOn := by
  unfold execTimingGeneratorPeriod
  dsimp only
  repeat' split
  all_goals simp_all

theorem execClipStepDue_goesOn (at_ : Nat) (s : State) : (execClipStepDue at_ s).goesOn := by
  unfold execClipStepDue
  dsimp only
  repeat' split
  all_goals simp_all

theorem execMemSleepEntry_goesOn (at_ : Nat) (bursts : List Burst) (s : State) : (execMemSleepEntry at_ bursts s).goesOn := by
  unfold execMemSleepEntry
  dsimp only
  repeat' split
  all_goals simp_all

theorem execResidenceCompressDone_goesOn (s : State) : (execResidenceCompressDone s).goesOn := by
  unfold execResidenceCompressDone
  dsimp only
  repeat' split
  all_goals simp_all

theorem execSensedRow_goesOn (slot : Fin 4) (s : State) : (execSensedRow slot s).goesOn := by
  unfold execSensedRow
  dsimp only
  repeat' split
  all_goals simp_all

theorem execSnapshotComplete_goesOn (failed : Bool) (s : State) : (execSnapshotComplete failed s).goesOn := by
  unfold execSnapshotComplete
  dsimp only
  repeat' split
  all_goals simp_all

theorem execMapStoreDone_goesOn (table : BitVec 16) (failed : Bool) (s : State) : (execMapStoreDone table failed s).goesOn := by
  unfold execMapStoreDone
  dsimp only
  repeat' split
  all_goals simp_all

theorem execPanelPowerOnStep_goesOn (s : State)  : (execPanelPowerOnStep s).goesOn := by
  unfold execPanelPowerOnStep
  repeat' split
  all_goals simp

theorem execBobbinTrainingPhaseEnd_goesOn (s : State)  : (execBobbinTrainingPhaseEnd s).goesOn := by
  unfold execBobbinTrainingPhaseEnd
  repeat' split
  all_goals simp

theorem execDischargeStepEnd_goesOn (s : State) : (execDischargeStepEnd s).goesOn := by
  unfold execDischargeStepEnd
  split
  · simp
  dsimp only
  generalize List.find? _ _ = k
  cases k
  all_goals exact Out.done_goesOn _

theorem execPanelPowerOffStep_goesOn (s : State) : (execPanelPowerOffStep s).goesOn := by
  unfold execPanelPowerOffStep
  dsimp only
  repeat' split
  all_goals simp_all

theorem execTatMsgCrcFail_goesOn (incoming : TatPort × List (BitVec 10)) (s : State) : (execTatMsgCrcFail incoming s).goesOn := by
  exact Out.tatTake_goesOn fun _ => Out.next_goesOn _

theorem execDelayReq_goesOn (port : TatPort) (arrived sent : Nat) (codes : List (BitVec 10)) (s : State) : (execDelayReq port arrived sent codes s).goesOn := by
  refine Out.tatTake_goesOn fun p => ?_
  unfold runDelayReq
  repeat' split
  all_goals simp

theorem execDelayResp_goesOn (arrived : Nat) (codes : List (BitVec 10)) (s : State) : (execDelayResp arrived codes s).goesOn := by
  refine Out.tatTake_goesOn fun p => ?_
  unfold runDelayResp
  dsimp only
  repeat' split
  all_goals simp

theorem execBeaconSend_goesOn (s : State)  : (execBeaconSend s).goesOn := by
  unfold execBeaconSend
  repeat' split
  all_goals simp

theorem execBeacon_goesOn (port : TatPort) (arrived sent0 sent1 : Nat) (codes : List (BitVec 10)) (s : State) : (execBeacon port arrived sent0 sent1 codes s).goesOn := by
  refine Out.tatTake_goesOn fun p => ?_
  unfold runBeacon
  dsimp only
  repeat' split
  all_goals simp

theorem execBeaconMissing_goesOn (s : State) : (execBeaconMissing s).goesOn := by
  unfold execBeaconMissing
  dsimp only
  repeat' split
  all_goals simp_all

theorem execEnumerate_goesOn (port : TatPort) (codes : List (BitVec 10)) (s : State) : (execEnumerate port codes s).goesOn := by
  refine Out.tatTake_goesOn fun p => ?_
  unfold runEnumerate
  repeat' split
  all_goals simp

theorem execEnumDone_goesOn (port : TatPort) (codes : List (BitVec 10)) (s : State) : (execEnumDone port codes s).goesOn := by
  refine Out.tatTake_goesOn fun p => ?_
  unfold runEnumDone
  dsimp only
  repeat' split
  all_goals simp

theorem execEnumTimeout_goesOn (port : TatPort) (s : State)  : (execEnumTimeout port s).goesOn := by
  unfold execEnumTimeout
  repeat' split
  all_goals simp

theorem execStageFragment_goesOn (port : TatPort) (codes : List (BitVec 10)) (s : State) : (execStageFragment port codes s).goesOn := by
  refine Out.tatTake_goesOn fun p => ?_
  unfold runStageFragment
  dsimp only
  repeat' split
  all_goals simp

theorem execCountUp_goesOn (port : TatPort) (codes : List (BitVec 10)) (s : State) : (execCountUp port codes s).goesOn := by
  refine Out.tatTake_goesOn fun p => ?_
  unfold runCountUp
  dsimp only
  repeat' split
  all_goals simp

theorem execSetReq_goesOn (port : TatPort) (codes : List (BitVec 10)) (s : State) : (execSetReq port codes s).goesOn := by
  refine Out.tatTake_goesOn fun p => ?_
  unfold runSetReq
  dsimp only
  repeat' split
  all_goals simp

theorem execAbortEpoch_goesOn (port : TatPort) (codes : List (BitVec 10)) (s : State) : (execAbortEpoch port codes s).goesOn := by
  refine Out.tatTake_goesOn fun p => ?_
  unfold runAbortEpoch
  repeat' split
  all_goals simp

theorem execPeer_goesOn (port : TatPort) (codes : List (BitVec 10)) (s : State) : (execPeer port codes s).goesOn := by
  refine Out.tatTake_goesOn fun p => ?_
  unfold runPeer
  dsimp only
  repeat' split
  all_goals simp

theorem execPairFrame_goesOn (arrived : Nat) (codes : List (BitVec 10)) (s : State) : (execPairFrame arrived codes s).goesOn := by
  refine Out.tatTake_goesOn fun p => ?_
  unfold runPairFrame
  dsimp only
  repeat' split
  all_goals simp

theorem execPairEvent_goesOn (port : TatPort) (codes : List (BitVec 10)) (s : State) : (execPairEvent port codes s).goesOn := by
  refine Out.tatTake_goesOn fun p => ?_
  unfold runPairEvent
  dsimp only
  repeat' split
  all_goals simp

theorem execWakeTimerExpiry_goesOn (s : State)  : (execWakeTimerExpiry s).goesOn := by
  unfold execWakeTimerExpiry
  repeat' split
  all_goals simp

theorem execIdleTimerExpiry_goesOn (d : Fin 19) (s : State) : (execIdleTimerExpiry d s).goesOn := by
  unfold execIdleTimerExpiry
  dsimp only
  repeat' split
  all_goals simp_all

theorem execDomainEntryDone_goesOn (d : Fin 19) (s : State)  : (execDomainEntryDone d s).goesOn := by
  unfold execDomainEntryDone
  repeat' split
  all_goals simp

theorem execDomainWakeDone_goesOn (d : Fin 19) (s : State)  : (execDomainWakeDone d s).goesOn := by
  unfold execDomainWakeDone
  repeat' split
  all_goals simp

theorem execWakeFailureTimeout_goesOn (d : Fin 19) (clockLock : Bool) (s : State)  : (execWakeFailureTimeout d clockLock s).goesOn := by
  unfold execWakeFailureTimeout
  repeat' split
  all_goals simp

theorem execRetryOffExpiry_goesOn (d : Fin 19) (s : State)  : (execRetryOffExpiry d s).goesOn := by
  unfold execRetryOffExpiry
  repeat' split
  all_goals simp

theorem execUpdatePassDone_goesOn (s : State) : (execUpdatePassDone s).goesOn := by
  unfold execUpdatePassDone
  dsimp only
  repeat' split
  all_goals simp_all

theorem execSecKeyAgreementDone_goesOn (s : State)  : (execSecKeyAgreementDone s).goesOn := by
  unfold execSecKeyAgreementDone
  repeat' split
  all_goals simp

theorem execRegWrite_goesOn (port : Port) (access : RegAccess) (s : State) : (execRegWrite port access s).goesOn := by
  unfold execRegWrite State.writeWord
  repeat' split
  case h_1.isTrue => exact execResetKeyWrite_goesOn _ _ s
  all_goals simp

theorem exec_goesOn (c : Instr) (s : State) (h : c.wf = true) : Out.goesOn (exec c s) := by
  cases c
  case aonPowerUp vinMv => exact (by simp [execAonPowerUp, Out.goesOn_ite] : (execAonPowerUp vinMv s).goesOn)
  case strapSample straps => exact (by simp [execStrapSample, Out.goesOn_ite] : (execStrapSample straps s).goesOn)
  case resonatorCheck oscillates milliPercent => exact (by simp [execResonatorCheck, Out.goesOn_ite] : (execResonatorCheck oscillates milliPercent s).goesOn)
  case vinBootMeasure vinMv => exact (by simp [execVinBootMeasure, Out.goesOn_ite] : (execVinBootMeasure vinMv s).goesOn)
  case rootPllLock => exact (by simp [execRootPllLock, Out.goesOn_ite] : (execRootPllLock s).goesOn)
  case bootRomCheckDone readError => exact execBootRomCheckDone_goesOn readError s
  case bootWatchdogExpiry => exact (by simp [execBootWatchdogExpiry, Out.goesOn_ite] : (execBootWatchdogExpiry s).goesOn)
  case firmwareWatchdogExpiry => exact (by simp [execFirmwareWatchdogExpiry, Out.goesOn_ite] : (execFirmwareWatchdogExpiry s).goesOn)
  case samplerScanDone => exact (by simp [execSamplerScanDone, Out.goesOn_ite] : (execSamplerScanDone s).goesOn)
  case memReady => exact (by simp [execMemReady, Out.goesOn_ite] : (execMemReady s).goesOn)
  case persistedTableLoadDone table => exact execPersistedTableLoadDone_goesOn table s
  case mapLoadDone => exact (by simp [execMapLoadDone, Out.goesOn_ite] : (execMapLoadDone s).goesOn)
  case mapWaitLimitExpiry => exact (by simp [execMapWaitLimitExpiry, Out.goesOn_ite] : (execMapWaitLimitExpiry s).goesOn)
  case rasterStart tick => exact (by simp [execRasterStart, Out.goesOn_ite] : (execRasterStart tick s).goesOn)
  case stressSnapshotLoadDone => exact execStressSnapshotLoadDone_goesOn s
  case clipLoadDone inst => exact execClipLoadDone_goesOn inst s
  case resetNAssert => exact (by simp [execResetNAssert, Out.goesOn_ite] : (execResetNAssert s).goesOn)
  case resetNRelease straps => exact execResetNRelease_goesOn straps s
  case lockstepReset => exact (by simp [execLockstepReset, Out.goesOn_ite] : (execLockstepReset s).goesOn)
  case pllLossOfLock => exact (by simp [execPllLossOfLock, Out.goesOn_ite] : (execPllLossOfLock s).goesOn)
  case undervoltageLockout => exact (by simp [execUndervoltageLockout] : (execUndervoltageLockout s).goesOn)
  case hardwareSafeStopEnd => exact execHardwareSafeStopEnd_goesOn s
  case jtagTrst => exact (by simp [execJtagTrst] : (execJtagTrst s).goesOn)
  case thermalSample die mem0 mem1 => exact execThermalSample_goesOn die mem0 mem1 s (by simpa [Instr.wf] using h)
  case thmReleaseExpiry => exact execThmReleaseExpiry_goesOn s
  case riseTriggerRearm => exact (by simp [execRiseTriggerRearm] : (execRiseTriggerRearm s).goesOn)
  case thermalRequestRepeat => exact (by simp [execThermalRequestRepeat, Out.goesOn_ite] : (execThermalRequestRepeat s).goesOn)
  case pfwAssert vinMv => exact (by simp [execPfwAssert, Out.goesOn_ite] : (execPfwAssert vinMv s).goesOn)
  case pfwSaveDone => exact execPfwSaveDone_goesOn s
  case pfwDeassert vinMv => exact (by simp [execPfwDeassert, Out.goesOn_ite] : (execPfwDeassert vinMv s).goesOn)
  case pfwRecoverExpiry => exact execPfwRecoverExpiry_goesOn s
  case ctlReadStatus => exact (by simp [execCtlReadStatus, Out.goesOn_ite] : (execCtlReadStatus s).goesOn)
  case regWrite port access => exact execRegWrite_goesOn port access s
  case timeLoRead port => exact (by simp [execTimeLoRead, Out.goesOn_ite] : (execTimeLoRead port s).goesOn)
  case resetKeyWrite port data => exact execResetKeyWrite_goesOn port data s
  case irqStatusClear port data => exact (by simp [execIrqStatusClear, Out.goesOn_ite] : (execIrqStatusClear port data s).goesOn)
  case faultCauseClear port data => exact (by simp [execFaultCauseClear, Out.goesOn_ite] : (execFaultCauseClear port data s).goesOn)
  case wakeCauseClear port data => exact (by simp [execWakeCauseClear, Out.goesOn_ite] : (execWakeCauseClear port data s).goesOn)
  case portErrorsClear port data => exact (by simp [execPortErrorsClear, Out.goesOn_ite] : (execPortErrorsClear port data s).goesOn)
  case mbDoorbell mb data => exact (by simp [execMbDoorbell, Out.goesOn_ite] : (execMbDoorbell mb data s).goesOn)
  case mbRelease mb data => exact (by simp [execMbRelease, Out.goesOn_ite] : (execMbRelease mb data s).goesOn)
  case ctlPacket side burst => exact (by simp [execCtlPacket] : (execCtlPacket side burst s).goesOn)
  case unknownCommand mb => exact (by simp [execUnknownCommand, Out.goesOn_ite] : (execUnknownCommand mb s).goesOn)
  case ident mb => exact (by simp [execIdent] : (execIdent mb s).goesOn)
  case paramGet mb => exact (by simp [execParamGet] : (execParamGet mb s).goesOn)
  case paramSet mb => exact (by simp [execParamSet] : (execParamSet mb s).goesOn)
  case paramGetMulti mb => exact (by simp [execParamGetMulti] : (execParamGetMulti mb s).goesOn)
  case paramSetMulti mb => exact (by simp [execParamSetMulti] : (execParamSetMulti mb s).goesOn)
  case logClear mb => exact (by simp [execLogClear] : (execLogClear mb s).goesOn)
  case logFirstFaultClear mb => exact (by simp [execLogFirstFaultClear] : (execLogFirstFaultClear mb s).goesOn)
  case pwrResClear mb => exact (by simp [execPwrResClear] : (execPwrResClear mb s).goesOn)
  case commit mb => exact (by simp [execCommit] : (execCommit mb s).goesOn)
  case commitStatus mb => exact (by simp [execCommitStatus] : (execCommitStatus mb s).goesOn)
  case discard mb => exact (by simp [execDiscard] : (execDiscard mb s).goesOn)
  case funcStop mb => exact (by simp [execFuncStop] : (execFuncStop mb s).goesOn)
  case funcStart mb => exact (by simp [execFuncStart] : (execFuncStart mb s).goesOn)
  case funcState mb => exact (by simp [execFuncState] : (execFuncState mb s).goesOn)
  case modeChange mb => exact (by simp [execModeChange] : (execModeChange mb s).goesOn)
  case funcReset mb => exact (by simp [execFuncReset] : (execFuncReset mb s).goesOn)
  case tableLoad mb => exact (by simp [execTableLoad] : (execTableLoad mb s).goesOn)
  case tableRead mb => exact (by simp [execTableRead] : (execTableRead mb s).goesOn)
  case profileApply mb => exact (by simp [execProfileApply] : (execProfileApply mb s).goesOn)
  case vote mb => exact (by simp [execVote] : (execVote mb s).goesOn)
  case pwrState mb => exact (by simp [execPwrState] : (execPwrState mb s).goesOn)
  case standbyEntry => exact execStandbyEntry_goesOn s
  case logRead mb => exact (by simp [execLogRead] : (execLogRead mb s).goesOn)
  case statsRead mb => exact (by simp [execStatsRead] : (execStatsRead mb s).goesOn)
  case nvRead mb pageFails => exact (by simp [execNvRead] : (execNvRead mb pageFails s).goesOn)
  case nvWriteRecord mb => exact execNvWriteRecord_goesOn mb s
  case norProgramDone mismatch => exact execNorProgramDone_goesOn mismatch s
  case nvRawProgram mb => exact (by simp [execNvRawProgram] : (execNvRawProgram mb s).goesOn)
  case nvErase mb => exact (by simp [execNvErase] : (execNvErase mb s).goesOn)
  case nvEraseDone failed => exact execNvEraseDone_goesOn failed s
  case samplerCompaction bank1 => exact execSamplerCompaction_goesOn bank1 s
  case nandStoreDone object failed => exact (by simp [execNandStoreDone] : (execNandStoreDone object failed s).goesOn)
  case cmpRun mb => exact (by simp [execCmpRun] : (execCmpRun mb s).goesOn)
  case cmpContainerDone => exact execCmpContainerDone_goesOn s
  case secSession mb => exact execSecSession_goesOn mb s
  case hello side burst => exact (by simp [execHello] : (execHello side burst s).goesOn)
  case finish side burst => exact (by simp [execFinish] : (execFinish side burst s).goesOn)
  case nonceExpiry => exact (by simp [execNonceExpiry] : (execNonceExpiry s).goesOn)
  case secApprove mb => exact (by simp [execSecApprove] : (execSecApprove mb s).goesOn)
  case approvalBundleCheckDone => exact (by simp [execApprovalBundleCheckDone, Out.goesOn_ite] : (execApprovalBundleCheckDone s).goesOn)
  case secStatus mb => exact (by simp [execSecStatus] : (execSecStatus mb s).goesOn)
  case secFwUpdate mb => exact (by simp [execSecFwUpdate] : (execSecFwUpdate mb s).goesOn)
  case fwImageCheckDone => exact (by simp [execFwImageCheckDone, Out.goesOn_ite] : (execFwImageCheckDone s).goesOn)
  case tatEnumerate mb => exact (by simp [execTatEnumerate] : (execTatEnumerate mb s).goesOn)
  case tatStage mb => exact (by simp [execTatStage] : (execTatStage mb s).goesOn)
  case tatArm mb => exact (by simp [execTatArm] : (execTatArm mb s).goesOn)
  case tatAbort mb => exact (by simp [execTatAbort] : (execTatAbort mb s).goesOn)
  case tatStatus mb => exact (by simp [execTatStatus] : (execTatStatus mb s).goesOn)
  case panelOn mb => exact (by simp [execPanelOn] : (execPanelOn mb s).goesOn)
  case panelOff mb => exact (by simp [execPanelOff] : (execPanelOff mb s).goesOn)
  case panelSafeStop mb => exact (by simp [execPanelSafeStop] : (execPanelSafeStop mb s).goesOn)
  case eyeSet mb => exact (by simp [execEyeSet] : (execEyeSet mb s).goesOn)
  case eyeRead mb => exact (by simp [execEyeRead] : (execEyeRead mb s).goesOn)
  case hlActivityQualified side => exact (by simp [execHlActivityQualified, Out.goesOn_ite] : (execHlActivityQualified side s).goesOn)
  case hlWakePattern side => exact execHlWakePattern_goesOn side s
  case hlWakeGlitch side => exact (by simp [execHlWakeGlitch, Out.goesOn_ite] : (execHlWakeGlitch side s).goesOn)
  case hlReceivePllLock side rate => exact (by simp [execHlReceivePllLock, Out.goesOn_ite] : (execHlReceivePllLock side rate s).goesOn)
  case hlBlockLock side phases => exact execHlBlockLock_goesOn side phases s (by simpa [Instr.wf] using h)
  case hlEqualizeDone side eyes => exact execHlEqualizeDone_goesOn side eyes s (by simpa [Instr.wf] using h)
  case hlDeskewDone side skew lanes => exact execHlDeskewDone_goesOn side skew lanes s (by simpa [Instr.wf] using h)
  case hlTrainTimeout side lane => exact (by simp [execHlTrainTimeout, Out.goesOn_ite] : (execHlTrainTimeout side lane s).goesOn)
  case hlTrainBackoffExpiry => exact (by simp [execHlTrainBackoffExpiry, Out.goesOn_ite] : (execHlTrainBackoffExpiry s).goesOn)
  case hlClockLost side activity => exact execHlClockLost_goesOn side activity s
  case hlBlockError side lane incoming => exact (by simp [execHlBlockError, Out.goesOn_ite] : (execHlBlockError side lane incoming s).goesOn)
  case hlTs1Retrain incoming => exact (by simp [execHlTs1Retrain, Out.goesOn_ite] : (execHlTs1Retrain incoming s).goesOn)
  case hlSof incoming => exact (by simp [execHlSof, Out.goesOn_ite] : (execHlSof incoming s).goesOn)
  case hlEios => exact execHlEios_goesOn s
  case hlFs side at_ sets => exact (by simp [execHlFs] : (execHlFs side at_ sets s).goesOn)
  case hlRow side at_ first rest => exact (by simp [execHlRow] : (execHlRow side at_ first rest s).goesOn)
  case hlFe side at_ sets => exact (by simp [execHlFe] : (execHlFe side at_ sets s).goesOn)
  case hlSurf side at_ sets => exact (by simp [execHlSurf] : (execHlSurf side at_ sets s).goesOn)
  case hlSleep side burst => exact (by simp [execHlSleep] : (execHlSleep side burst s).goesOn)
  case hlKeep side burst => exact (by simp [execHlKeep] : (execHlKeep side burst s).goesOn)
  case packetHeaderCrcFail incoming => exact (by simp [execPacketHeaderCrcFail] : (execPacketHeaderCrcFail incoming s).goesOn)
  case hlUnknownPkt incoming => exact (by simp [execHlUnknownPkt] : (execHlUnknownPkt incoming s).goesOn)
  case backChannelSend => exact execBackChannelSend_goesOn s
  case statusTimer => exact (by simp [execStatusTimer, Out.goesOn_ite] : (execStatusTimer s).goesOn)
  case frameStart at_ fifoA fifoB => exact execFrameStart_goesOn at_ fifoA fifoB s
  case rowSlotStart at_ bursts blockFail nextFail => exact execRowSlotStart_goesOn at_ bursts blockFail nextFail s
  case verticalBlankStart at_ => exact (by simp [execVerticalBlankStart, Out.goesOn_ite] : (execVerticalBlankStart at_ s).goesOn)
  case repeatDeadline tick => exact (by simp [execRepeatDeadline, Out.goesOn_ite] : (execRepeatDeadline tick s).goesOn)
  case predictiveRepeat tick => exact execPredictiveRepeat_goesOn tick s
  case timingGeneratorPeriod tick => exact execTimingGeneratorPeriod_goesOn tick s
  case ladderDwellExpiry at_ => exact (by simp [execLadderDwellExpiry, Out.goesOn_ite] : (execLadderDwellExpiry at_ s).goesOn)
  case continuityDelayExpiry at_ => exact (by simp [execContinuityDelayExpiry, Out.goesOn_ite] : (execContinuityDelayExpiry at_ s).goesOn)
  case clipStepDue at_ => exact execClipStepDue_goesOn at_ s
  case memSleepEntry at_ bursts => exact execMemSleepEntry_goesOn at_ bursts s
  case memSleepExit at_ bursts => exact (by simp [execMemSleepExit, Out.goesOn_ite] : (execMemSleepExit at_ bursts s).goesOn)
  case residenceCompressDone => exact execResidenceCompressDone_goesOn s
  case odTableCopyDone => exact (by simp [execOdTableCopyDone] : (execOdTableCopyDone s).goesOn)
  case sensedRow slot => exact execSensedRow_goesOn slot s
  case senseReturnReply lane codes => exact (by simp [execSenseReturnReply] : (execSenseReturnReply lane codes s).goesOn)
  case replyTimeout lane => exact (by simp [execReplyTimeout] : (execReplyTimeout lane s).goesOn)
  case tempPoll => exact (by simp [execTempPoll, Out.goesOn_ite] : (execTempPoll s).goesOn)
  case updatePass => exact (by simp [execUpdatePass, Out.goesOn_ite] : (execUpdatePass s).goesOn)
  case snapshotStart => exact (by simp [execSnapshotStart, Out.goesOn_ite] : (execSnapshotStart s).goesOn)
  case snapshotComplete failed => exact execSnapshotComplete_goesOn failed s
  case snapshotOverrun => exact (by simp [execSnapshotOverrun, Out.goesOn_ite] : (execSnapshotOverrun s).goesOn)
  case mapStoreDone table failed => exact execMapStoreDone_goesOn table failed s
  case restSweepRow results => exact (by simp [execRestSweepRow, Out.goesOn_ite] : (execRestSweepRow results s).goesOn)
  case restLimitExpiry => exact (by simp [execRestLimitExpiry, Out.goesOn_ite] : (execRestLimitExpiry s).goesOn)
  case panelPowerOnStep => exact execPanelPowerOnStep_goesOn s
  case bobbinTrainingPhaseEnd => exact execBobbinTrainingPhaseEnd_goesOn s
  case bobLockNFall => exact (by simp [execBobLockNFall, Out.goesOn_ite] : (execBobLockNFall s).goesOn)
  case bobLockNRise => exact (by simp [execBobLockNRise] : (execBobLockNRise s).goesOn)
  case dischargeStepEnd => exact execDischargeStepEnd_goesOn s
  case panelPowerOffStep => exact execPanelPowerOffStep_goesOn s
  case tatPortUp port => exact (by simp [execTatPortUp, Out.goesOn_ite] : (execTatPortUp port s).goesOn)
  case tatCodeError port at_ => exact (by simp [execTatCodeError, Out.goesOn_ite] : (execTatCodeError port at_ s).goesOn)
  case tatPortSilence port => exact (by simp [execTatPortSilence] : (execTatPortSilence port s).goesOn)
  case tatMsgCrcFail incoming => exact execTatMsgCrcFail_goesOn incoming s
  case delayReqTimer sent => exact (by simp [execDelayReqTimer, Out.goesOn_ite] : (execDelayReqTimer sent s).goesOn)
  case delayReq port arrived sent codes => exact execDelayReq_goesOn port arrived sent codes s
  case delayResp arrived codes => exact execDelayResp_goesOn arrived codes s
  case delayRespTimeout => exact (by simp [execDelayRespTimeout] : (execDelayRespTimeout s).goesOn)
  case beaconSend => exact execBeaconSend_goesOn s
  case beacon port arrived sent0 sent1 codes => exact execBeacon_goesOn port arrived sent0 sent1 codes s
  case beaconMissing => exact execBeaconMissing_goesOn s
  case enumerate port codes => exact execEnumerate_goesOn port codes s
  case enumDone port codes => exact execEnumDone_goesOn port codes s
  case enumTimeout port => exact execEnumTimeout_goesOn port s
  case stageFragment port codes => exact execStageFragment_goesOn port codes s
  case countUp port codes => exact execCountUp_goesOn port codes s
  case tatStageTimeout => exact (by simp [execTatStageTimeout, Out.goesOn_ite] : (execTatStageTimeout s).goesOn)
  case setReq port codes => exact execSetReq_goesOn port codes s
  case abortEpoch port codes => exact execAbortEpoch_goesOn port codes s
  case peer port codes => exact execPeer_goesOn port codes s
  case pairFrame arrived codes => exact execPairFrame_goesOn arrived codes s
  case pairStrobe arrived => exact (by simp [execPairStrobe, Out.goesOn_ite] : (execPairStrobe arrived s).goesOn)
  case pairEvent port codes => exact execPairEvent_goesOn port codes s
  case pairEventRepeat => exact (by simp [execPairEventRepeat, Out.goesOn_ite] : (execPairEventRepeat s).goesOn)
  case ctlCsWake => exact (by simp [execCtlCsWake, Out.goesOn_ite] : (execCtlCsWake s).goesOn)
  case svcAddressMatch => exact (by simp [execSvcAddressMatch] : (execSvcAddressMatch s).goesOn)
  case picotActivity => exact (by simp [execPicotActivity] : (execPicotActivity s).goesOn)
  case wakeTimerExpiry => exact execWakeTimerExpiry_goesOn s
  case wakeVoteLapse => exact (by simp [execWakeVoteLapse, Out.goesOn_ite] : (execWakeVoteLapse s).goesOn)
  case idleTimerExpiry d => exact execIdleTimerExpiry_goesOn d s
  case domainEntryDone d => exact execDomainEntryDone_goesOn d s
  case wakeGrant => exact (by simp [execWakeGrant] : (execWakeGrant s).goesOn)
  case domainWakeDone d => exact execDomainWakeDone_goesOn d s
  case wakeFailureTimeout d clockLock => exact execWakeFailureTimeout_goesOn d clockLock s
  case retryOffExpiry d => exact execRetryOffExpiry_goesOn d s
  case statMaxTimeExpiry => exact (by simp [execStatMaxTimeExpiry] : (execStatMaxTimeExpiry s).goesOn)
  case updatePassDone => exact execUpdatePassDone_goesOn s
  case secKeyAgreementDone => exact execSecKeyAgreementDone_goesOn s
  case ctlCsNRise leftover => exact (by simp [execCtlCsNRise, Out.goesOn_ite] : (execCtlCsNRise leftover s).goesOn)
  case svcStop leftover => exact (by simp [execSvcStop, Out.goesOn_ite] : (execSvcStop leftover s).goesOn)

/-- Settles O3: a list operand of a wrong length is refused before the state is looked at. -/
theorem wellFormedCommandsGoOn : Obligations.WellFormedCommandsGoOn := by
  refine fun c s => ⟨exec_goesOn c s, fun h => ?_⟩
  cases c
  case thermalSample die mem0 mem1 => exact if_pos (by simpa [Instr.wf] using h)
  case hlBlockLock side phases => exact if_pos (by simpa [Instr.wf] using h)
  case hlEqualizeDone side eyes => exact if_pos (by simpa [Instr.wf] using h)
  case hlDeskewDone side ts2 lanes => exact if_pos (by simpa [Instr.wf] using h)
  all_goals cases h

end Sys2Proof.Machine
end

section
/-! CLAIM O15. Reads through the control ports. -/

namespace Sys2Proof.Machine

/-- A port error that its field can still count raises the port interrupt (R118). -/
theorem State.portError_refused {s : State} (h : s.win.refused < 255) :
    s.portRefused = { s with win := { s.win with refused := s.win.refused + 1, irqStatus := s.win.irqStatus ||| 0x100 } } := by
  have hsat : sat 255 (s.win.refused + 1) = s.win.refused + 1 := by simp only [sat]; omega
  have hne : ({ s.win with refused := s.win.refused + 1 } : Window) ≠ s.win := fun e => by
    have := congrArg Window.refused e
    simp at this
  simp only [State.portRefused, State.portError, hsat, if_neg hne]
  rfl

theorem State.portStatus_bits (s : State) : s.portStatus.getLsbD 7 = s.domOn dCtrl ∧
    s.portStatus.getLsbD 6 = s.hostIrq ∧ s.portStatus.toNat % 64 = 0 := by
  unfold State.portStatus
  cases s.domOn dCtrl
  all_goals
    cases s.hostIrq
    all_goals decide

theorem target_of_listed {p : Port} {a : Nat} (ha : a < 0xC0) (h : (if p = .ctl then (regPorts a).1 else (regPorts a).2) = true) :
    target p a = .reg a := by
  simp only [target, ha, if_true]
  rw [if_pos h]

/-- Settles O15: a read's word and its effect on the window are found address by address. -/
theorem portReadsHaveTheirEffects : Obligations.PortReadsHaveTheirEffects := by
  refine ⟨?status, ?time, ?listed, ?unlisted, ?unaligned⟩
  case status =>
    intro s
    obtain ⟨hready, hirq, hlow⟩ := s.portStatus_bits
    refine ⟨?_, hready, hirq, hlow⟩
    simp only [exec_ctlReadStatus, execCtlReadStatus]
    split
    all_goals rfl
  case time =>
    intro p s hdead
    refine ⟨?_, ?_⟩
    · simp only [exec_timeLoRead, execTimeLoRead, hdead]
      cases p
      all_goals rfl
    · cases p
      all_goals rfl
  case listed =>
    intro p a s hdead hal ha hlo hlisted
    simp [exec_regWrite, execRegWrite, hdead, State.readWord, hal, target_of_listed ha hlisted, hlo]
  case unlisted =>
    intro p a s hdead hroom hal htarget
    simp [exec_regWrite, execRegWrite, hdead, State.readWord, hal, htarget, State.portError_refused hroom]
  case unaligned =>
    intro a s hdead hroom hal
    have hsvc : s.portDead .svc = false := by
      simp only [State.portDead, Bool.or_eq_false_iff] at hdead ⊢
      exact ⟨hdead.1, rfl⟩
    refine ⟨?_, ?_⟩
    · simp [exec_regWrite, execRegWrite, hdead, State.readWord, hal, State.portError_refused hroom]
    · simp [exec_regWrite, execRegWrite, hsvc, State.readWord, hal, State.ctlDriven]

end Sys2Proof.Machine
end

section
/-! SUPPORT. Bytes of a buffer: little-endian fields, slices and overlays. -/

namespace Sys2Proof.Machine

@[simp] theorem toLe_length (n v : Nat) : (toLe n v).length = n := by
  induction n generalizing v with
  | zero => rfl
  | succ n ih => simp [toLe, ih]

@[simp] theorem slice_length (b : List Byte) (o n : Nat) : (slice b o n).length = n := by simp [slice]

theorem byteAt_slice {b : List Byte} {o n i : Nat} (h : i < n) : byteAt (slice b o n) i = byteAt b (o + i) := by
  simp [byteAt, slice, h]

theorem byteAt_append_left {b c : List Byte} {i : Nat} (h : i < b.length) : byteAt (b ++ c) i = byteAt b i := by
  simp [byteAt, List.getElem?_append_left h]

theorem byteAt_append_right {b c : List Byte} {i : Nat} (h : b.length ≤ i) : byteAt (b ++ c) i = byteAt c (i - b.length) := by
  simp [byteAt, List.getElem?_append_right h]

/-- A field depends only on its bytes. -/
theorem leAt_congr {b c : List Byte} {o p n : Nat} (h : ∀ k, k < n → byteAt b (o + k) = byteAt c (p + k)) :
    leAt b o n = leAt c p n := by
  induction n generalizing o p with
  | zero => rfl
  | succ n ih =>
    have hfirst : byteAt b o = byteAt c p := h 0 (by omega)
    have hrest : leAt b (o + 1) n = leAt c (p + 1) n := ih fun k hk => by
      rw [Nat.add_assoc, Nat.add_assoc, Nat.add_comm 1 k]
      exact h (k + 1) (by omega)
    rw [leAt, leAt, hfirst, hrest]

/-- The little-endian bytes of a number read back as it. -/
theorem leAt_toLe (n v : Nat) : leAt (toLe n v) 0 n = v % 256 ^ n := by
  induction n generalizing v with
  | zero => simp [leAt, Nat.mod_one]
  | succ n ih =>
    have hrest : leAt (toLe (n + 1) v) 1 n = leAt (toLe n (v / 256)) 0 n := leAt_congr fun k _ => by
      simp [byteAt, toLe, Nat.add_comm 1 k]
    have hfirst : byteAt (toLe (n + 1) v) 0 = Byte.of (v % 256) := rfl
    rw [leAt, hrest, hfirst, ih, Nat.pow_succ', Nat.mod_mul]
    simp

theorem overlay_length {b d : List Byte} {o : Nat} (h : o + d.length ≤ b.length) : (overlay b o d).length = b.length := by
  simp only [overlay, List.length_append, slice_length, List.length_drop]
  omega

theorem byteAt_overlay_in {b d : List Byte} {o i : Nat} (h : i < d.length) : byteAt (overlay b o d) (o + i) = byteAt d i := by
  rw [overlay, byteAt_append_left (by simp; omega), byteAt_append_right (by simp)]
  simp

theorem byteAt_overlay_below {b d : List Byte} {o i : Nat} (h : i < o) : byteAt (overlay b o d) i = byteAt b i := by
  rw [overlay, byteAt_append_left (by simp; omega), byteAt_append_left (by simpa using h), byteAt_slice h, Nat.zero_add]

theorem byteAt_overlay_above {b d : List Byte} {o i : Nat} (h : o + d.length ≤ i) : byteAt (overlay b o d) i = byteAt b i := by
  have hsum : o + d.length + (i - (o + d.length)) = i := by omega
  rw [overlay, byteAt_append_right (by simpa using h)]
  simp [byteAt, List.getElem?_drop, hsum]

/-- A 32-bit field laid over a buffer reads back. -/
theorem le4_overlay_toLe (b : List Byte) (o : Nat) (d : Word) : le4 (overlay b o (toLe 4 d.toNat)) o = d.toNat := by
  have h : le4 (overlay b o (toLe 4 d.toNat)) o = leAt (toLe 4 d.toNat) 0 4 := leAt_congr fun k hk => by
    rw [byteAt_overlay_in (by simpa using hk), Nat.zero_add]
  rw [h, leAt_toLe]
  exact Nat.mod_eq_of_lt d.isLt

end Sys2Proof.Machine
end

section
/-! CLAIM O16. Writes through the control ports. -/

namespace Sys2Proof.Machine

/-- Settling the sleep targets touches the power part only. -/
theorem done_eq (t : State) : ∃ p, done t = .next { t with pwr := p } := by
  obtain ⟨p, hp⟩ := t.settle_eq
  exact ⟨p, by rw [done, hp]⟩

/-- What the port does with a word for a listed register other than RESET_KEY. -/
theorem writeWord_reg {p : Port} {a o : Nat} {s : State} (d : Word) (hal : a % 4 = 0) (ht : target p a = .reg o) (hkey : o ≠ 0x14) :
    s.writeWord p a d = done (s.regWrite o d) := by
  simp [State.writeWord, hal, ht, hkey]

theorem exec_write {p : Port} {s : State} (a : BitVec 16) (d : Word) (hdead : s.portDead p = false) :
    exec (.regWrite p (.write a d)) s = s.writeWord p a.toNat d := by
  simp [exec_regWrite, execRegWrite, hdead]

theorem target_request {p : Port} {a k : Nat} {i : Mb} (h : target p a = .request i k) : k = a % 0x200 := by
  cases p
  all_goals
    simp only [target] at h
    repeat' split at h
    all_goals simp_all

/-- The registers a write does not change refuse it (R111). -/
theorem regWrite_refused {k : Nat} (s : State) (d : Word)
    (h : [0x00, 0x04, 0x08, 0x0C, 0x20, 0x24, 0x28, 0x2C, 0x44, 0x54, 0x5C, 0x64, 0x70, 0x78, 0x7C, 0x80, 0x84, 0x88, 0x8C].contains k = true) :
    s.regWrite k d = s.portRefused ∧ k ≠ 0x14 := by
  simp only [List.contains_iff_mem, List.mem_cons, List.not_mem_nil, or_false] at h
  rcases h with h | h | h | h | h | h | h | h | h | h | h | h | h | h | h | h | h | h | h
  all_goals
    subst h
    exact ⟨rfl, by decide⟩

/-- The word of an IDLE mailbox's request buffer reads back, and the other bytes stay (R110, R113). -/
theorem bufferWrite_idle {s : State} {i : Mb} {k : Nat} (d : Word) (hon : s.domOn dCtrl = true) (hidle : (s.mb i).st = .idle) :
    s.bufferWrite i k d = s.onMb i fun m => { m with req := overlay m.req k (toLe 4 d.toNat) } := by
  simp [State.bufferWrite, hon, hidle]

theorem bufferWrite_refused {s : State} {i : Mb} (k : Nat) (d : Word) (h : s.domOn dCtrl = false ∨ (s.mb i).st ≠ .idle) :
    s.bufferWrite i k d = s.portRefused := by
  refine if_neg fun hc => ?_
  simp only [Bool.and_eq_true, beq_iff_eq] at hc
  obtain ⟨hon, hidle⟩ := hc
  rcases h with h | h
  · simp [h] at hon
  · exact h hidle

theorem badOpcode_framing {s : State} (h : s.win.ctlFraming < 255) :
    s.badOpcode = { s with win := { s.win with ctlDead := s.win.csLow, ctlFraming := s.win.ctlFraming + 1, irqStatus := s.win.irqStatus ||| 0x100 } } := by
  have hsat : sat 255 (s.win.ctlFraming + 1) = s.win.ctlFraming + 1 := by simp only [sat]; omega
  have hne : ({ s.win with ctlFraming := s.win.ctlFraming + 1 } : Window) ≠ s.win := fun e => by
    have := congrArg Window.ctlFraming e
    simp at this
  simp only [State.badOpcode, State.portError, hsat, if_neg hne]
  rfl

/-- A write of a word into an IDLE mailbox's request buffer, with CTRL on. -/
theorem request_word_written {p : Port} {a : BitVec 16} {i : Mb} {k : Nat} {s : State} (d : Word) (hdead : s.portDead p = false) (hal : a.toNat % 4 = 0)
    (ht : target p a.toNat = .request i k) (hon : s.domOn dCtrl = true) (hidle : (s.mb i).st = .idle) (hlen : (s.mb i).req.length = 512) :
    ∃ t, exec (.regWrite p (.write a d)) s = .next t ∧ (t.readWord p a.toNat).1 = d.toNat ∧ (t.mb i).req.length = 512 ∧
      (∀ j, j < k ∨ k + 4 ≤ j → byteAt (t.mb i).req j = byteAt (s.mb i).req j) ∧ ∃ b p, t = { s with box := b, pwr := p } := by
  have hk : k + 4 ≤ 512 := by
    have := target_request ht
    omega
  have hgo : exec (.regWrite p (.write a d)) s = done (s.onMb i fun m => { m with req := overlay m.req k (toLe 4 d.toNat) }) := by
    rw [exec_write a d hdead, ← bufferWrite_idle d hon hidle]
    simp [State.writeWord, hal, ht]
  obtain ⟨q, hq⟩ := State.settle_eq (s.onMb i fun m => { m with req := overlay m.req k (toLe 4 d.toNat) })
  refine ⟨_, hgo, ?_⟩
  have hmb : (State.settle (s.onMb i fun m => { m with req := overlay m.req k (toLe 4 d.toNat) })).mb i =
      { s.mb i with req := overlay (s.mb i).req k (toLe 4 d.toNat) } := by
    rw [hq]
    exact s.onMb_get i fun m => { m with req := overlay m.req k (toLe 4 d.toNat) }
  have hctrl : (State.settle (s.onMb i fun m => { m with req := overlay m.req k (toLe 4 d.toNat) })).domOn dCtrl = true := by
    rw [State.settle_domOn]
    exact hon
  refine ⟨?_, ?_, ?_, _, q, hq⟩
  · simp [State.readWord, hal, ht, hctrl, hmb, le4_overlay_toLe]
  · rw [hmb]
    exact (overlay_length (by simp [hlen, hk])).trans hlen
  · rintro j (hj | hj)
    · rw [hmb]
      exact byteAt_overlay_below hj
    · rw [hmb]
      exact byteAt_overlay_above (by simpa using hj)

/-- What refuses a write counts as refused and changes nothing else. -/
theorem write_refused {p : Port} {a : BitVec 16} {s : State} (d : Word) (hdead : s.portDead p = false) (hal : a.toNat % 4 = 0)
    (h : target p a.toNat = .nothing ∨ (∃ i k, target p a.toNat = .response i k) ∨
      (∃ i k, target p a.toNat = .request i k ∧ (s.domOn dCtrl = false ∨ (s.mb i).st ≠ .idle)) ∨
      ∃ k, target p a.toNat = .reg k ∧ [0x00, 0x04, 0x08, 0x0C, 0x20, 0x24, 0x28, 0x2C, 0x44, 0x54, 0x5C, 0x64, 0x70, 0x78, 0x7C, 0x80, 0x84, 0x88, 0x8C].contains k) :
    ∃ q, exec (.regWrite p (.write a d)) s = .next { s.portRefused with pwr := q } := by
  rw [exec_write a d hdead]
  rcases h with ht | ⟨i, k, ht⟩ | ⟨i, k, ht, hno⟩ | ⟨k, ht, hk⟩
  · exact ⟨s.portRefused.pwr, by simp only [State.writeWord, hal, ht]; rfl⟩
  · exact ⟨s.portRefused.pwr, by simp only [State.writeWord, hal, ht]; rfl⟩
  · have hgo : s.writeWord p a.toNat d = done (s.bufferWrite i k d) := by simp [State.writeWord, hal, ht]
    rw [hgo, bufferWrite_refused k d hno]
    exact done_eq _
  · obtain ⟨hw, hkey⟩ := regWrite_refused s d hk
    rw [writeWord_reg d hal ht hkey, hw]
    exact done_eq _

/-- Settles O16: the address decides the branch of `writeWord`, and the buffer's bytes follow from writing a word at an offset. -/
theorem portWritesReachTheirTarget : Obligations.PortWritesReachTheirTarget := by
  refine ⟨?scratch0, ?scratch1, ?common, ?boxes, ?request, ?refused, ?opcode⟩
  case scratch0 =>
    intro d s hdead
    rw [exec_write _ d hdead, writeWord_reg (o := 0x38) d rfl rfl (by decide)]
    exact done_eq _
  case scratch1 =>
    intro d s hpow
    have hdead : s.portDead .svc = false := by simp [State.portDead, hpow]
    rw [exec_write _ d hdead, writeWord_reg (o := 0x3C) d rfl rfl (by decide)]
    exact done_eq _
  case common =>
    intro o d s hdead
    refine ⟨?_, ?_, ?_, ?_, ?_, ?_, ?_⟩
    · rw [exec_write _ d hdead, writeWord_reg (o := 0x1C) d rfl (by cases o <;> rfl) (by decide)]
      exact done_eq _
    · rw [exec_write _ d hdead, writeWord_reg (o := 0x30) d rfl (by cases o <;> rfl) (by decide)]
      exact done_eq _
    · rw [exec_write _ d hdead]
      cases o <;> rfl
    · rw [exec_write _ d hdead, writeWord_reg (o := 0x18) d rfl (by cases o <;> rfl) (by decide)]
      exact (if_neg (by simp [hdead])).symm
    · rw [exec_write _ d hdead, writeWord_reg (o := 0x10) d rfl (by cases o <;> rfl) (by decide)]
      exact (if_neg (by simp [hdead])).symm
    · rw [exec_write _ d hdead, writeWord_reg (o := 0x74) d rfl (by cases o <;> rfl) (by decide)]
      exact (if_neg (by simp [hdead])).symm
    · rw [exec_write _ d hdead, writeWord_reg (o := 0x34) d rfl (by cases o <;> rfl) (by decide)]
      exact (if_neg (by simp [hdead])).symm
  case boxes =>
    intro d s hdead
    have hsvc : s.portDead .svc = false := by
      simp only [State.portDead, Bool.or_eq_false_iff] at hdead ⊢
      exact ⟨hdead.1, rfl⟩
    refine ⟨?_, ?_, ?_, ?_, ?_, ?_⟩
    · rw [exec_write _ d hdead]; exact (if_neg (by simp [mbPort, hdead])).symm
    · rw [exec_write _ d hdead]; exact (if_neg (by simp [mbPort, hdead])).symm
    · rw [exec_write _ d hdead]; exact (if_neg (by simp [mbPort, hdead])).symm
    · rw [exec_write _ d hdead]; exact (if_neg (by simp [mbPort, hdead])).symm
    · rw [exec_write _ d hsvc]; exact (if_neg (by simp [mbPort, hsvc])).symm
    · rw [exec_write _ d hsvc]; exact (if_neg (by simp [mbPort, hsvc])).symm
  case request =>
    intro o a d i k s hdead hal ht hon hidle hlen
    exact request_word_written d hdead hal ht hon hidle hlen
  case refused =>
    intro o a d s hdead hroom hal h
    obtain ⟨q, hq⟩ := write_refused d hdead hal h
    rw [State.portError_refused hroom] at hq
    exact ⟨q, hq⟩
  case opcode =>
    intro s hdead hroom
    simp [exec_regWrite, execRegWrite, hdead, badOpcode_framing hroom]

end Sys2Proof.Machine
end

section
/-! CLAIM O17. The write-one-to-clear registers and the end of a transaction. -/

namespace Sys2Proof.Machine

/-- The seven bits of a mask built from seven conditions, bit 3 always set. -/
theorem endedMask_bits : ∀ a b c e f g : Bool,
    (Word.of (b2n a + 2 * b2n b + 4 * b2n c + 8 + 16 * b2n e + 32 * b2n f + 64 * b2n g)).getLsbD 0 = a ∧
    (Word.of (b2n a + 2 * b2n b + 4 * b2n c + 8 + 16 * b2n e + 32 * b2n f + 64 * b2n g)).getLsbD 1 = b ∧
    (Word.of (b2n a + 2 * b2n b + 4 * b2n c + 8 + 16 * b2n e + 32 * b2n f + 64 * b2n g)).getLsbD 2 = c ∧
    (Word.of (b2n a + 2 * b2n b + 4 * b2n c + 8 + 16 * b2n e + 32 * b2n f + 64 * b2n g)).getLsbD 3 = true ∧
    (Word.of (b2n a + 2 * b2n b + 4 * b2n c + 8 + 16 * b2n e + 32 * b2n f + 64 * b2n g)).getLsbD 4 = e ∧
    (Word.of (b2n a + 2 * b2n b + 4 * b2n c + 8 + 16 * b2n e + 32 * b2n f + 64 * b2n g)).getLsbD 5 = f ∧
    (Word.of (b2n a + 2 * b2n b + 4 * b2n c + 8 + 16 * b2n e + 32 * b2n f + 64 * b2n g)).getLsbD 6 = g := by
  decide

/-- A mask bit of a 32-bit word clears it. -/
theorem getLsbD_andNot {x m : Word} {b : Nat} (hb : b < 32) : (x &&& ~~~m).getLsbD b = (x.getLsbD b && !m.getLsbD b) := by
  simp [hb]

/-- IRQ_STATUS: a 1 clears its bit, EVQ only while the event queue is empty (R120). -/
theorem irqWrite_bit (s : State) (d : Word) {b : Nat} (hb : b < 32) : (s.irqWrite d).win.irqStatus.getLsbD b =
    (s.win.irqStatus.getLsbD b && !(d.getLsbD b && (b != 3 || s.evq.entries.isEmpty))) := by
  simp only [State.irqWrite, getLsbD_andNot hb]
  cases hempty : s.evq.entries.isEmpty
  · have hevq : (8 : Word).getLsbD b = (b == 3) := by
      revert b
      decide
    simp only [Bool.false_eq_true, if_false, getLsbD_andNot hb, hevq, Bool.or_false, bne]
  · simp

/-- FAULT_CAUSE: a 1 clears its bit where the cause has ended (R104). -/
theorem faultWrite_bit (s : State) (d : Word) {b : Nat} (hb : b < 32) : (s.faultWrite d).boot.faultCause.getLsbD b =
    (s.boot.faultCause.getLsbD b && !(d.getLsbD b && (Word.of s.faultsEnded).getLsbD b)) := by
  simp only [State.faultWrite, getLsbD_andNot hb, BitVec.getLsbD_and]

theorem faultCauseClear_acts {o : Port} (d : Word) {s : State} (hdead : s.portDead o = false) :
    ∃ t p, exec (.faultCauseClear o d) s = .next t ∧ t = { s with boot := { s.boot with faultCause := t.boot.faultCause }, pwr := p } ∧
      t.boot.faultCause = (s.faultWrite d).boot.faultCause := by
  have hgo : exec (.faultCauseClear o d) s = done (s.faultWrite d) := if_neg (by simp [hdead])
  obtain ⟨p, hp⟩ := done_eq (s.faultWrite d)
  exact ⟨_, p, hgo.trans hp, rfl, rfl⟩

theorem irqStatusClear_acts {o : Port} (d : Word) {s : State} (hdead : s.portDead o = false) :
    ∃ t p, exec (.irqStatusClear o d) s = .next t ∧ t = { s with win := { s.win with irqStatus := t.win.irqStatus }, pwr := p } ∧
      t.win.irqStatus = (s.irqWrite d).win.irqStatus := by
  have hgo : exec (.irqStatusClear o d) s = done (s.irqWrite d) := if_neg (by simp [hdead])
  obtain ⟨p, hp⟩ := done_eq (s.irqWrite d)
  exact ⟨_, p, hgo.trans hp, rfl, rfl⟩

theorem clears_act {o : Port} (d : Word) {s : State} (hdead : s.portDead o = false) :
    (∃ p, exec (.wakeCauseClear o d) s = .next { s with win := { s.win with wakeCause := s.win.wakeCause &&& ~~~d }, pwr := p }) ∧
    ∃ t p, exec (.portErrorsClear o d) s = .next t ∧ t.portErrors = 0 ∧
      t = { s with win := { s.win with ctlFraming := 0, svcFraming := 0, refused := 0, dbOverrun := 0 }, pwr := p } := by
  have hwake : exec (.wakeCauseClear o d) s = done (s.wakeWrite d) := if_neg (by simp [hdead])
  have herr : exec (.portErrorsClear o d) s = done s.portErrorsWrite := if_neg (by simp [hdead])
  obtain ⟨p, hp⟩ := done_eq (s.wakeWrite d)
  obtain ⟨q, hq⟩ := done_eq s.portErrorsWrite
  exact ⟨⟨p, hwake.trans hp⟩, _, q, herr.trans hq, by simp [State.portErrors, State.portErrorsWrite], rfl⟩

/-- A framing error of CTL that its field can still count raises the port interrupt. -/
theorem portError_ctlFraming {s : State} (h : s.win.ctlFraming < 255) :
    s.portError 3 = { s with win := { s.win with ctlFraming := s.win.ctlFraming + 1, irqStatus := s.win.irqStatus ||| 0x100 } } := by
  have hsat : sat 255 (s.win.ctlFraming + 1) = s.win.ctlFraming + 1 := by simp only [sat]; omega
  have hne : ({ s.win with ctlFraming := s.win.ctlFraming + 1 } : Window) ≠ s.win := fun e => by
    have := congrArg Window.ctlFraming e
    simp at this
  simp only [State.portError, hsat, if_neg hne]
  rfl

theorem portError_svcFraming {s : State} (h : s.win.svcFraming < 255) :
    s.portError 2 = { s with win := { s.win with svcFraming := s.win.svcFraming + 1, irqStatus := s.win.irqStatus ||| 0x100 } } := by
  have hsat : sat 255 (s.win.svcFraming + 1) = s.win.svcFraming + 1 := by simp only [sat]; omega
  have hne : ({ s.win with svcFraming := s.win.svcFraming + 1 } : Window) ≠ s.win := fun e => by
    have := congrArg Window.svcFraming e
    simp at this
  simp only [State.portError, hsat, if_neg hne]
  rfl

/-- The transaction's end after an unfinished word. -/
theorem ctlCsNRise_leftover {n : BitVec 5} {s : State} (hpow : s.boot.powered = true) (hcs : s.win.csLow = true) (hn : n ≠ 0)
    (hroom : s.win.ctlFraming < 255) :
    exec (.ctlCsNRise n) s = if s.win.ctlDead then .next { s with win := { s.win with csLow := false, ctlDead := false, ctlDrive := false } }
      else .next { s with win := { s.win with
        csLow := false, ctlDead := false, ctlDrive := false, ctlFraming := s.win.ctlFraming + 1, irqStatus := s.win.irqStatus ||| 0x100 } } := by
  have hgo : exec (.ctlCsNRise n) s = .next (if n = 0 || s.win.ctlDead then
      { s with win := { s.win with csLow := false, ctlDead := false, ctlDrive := false } }
      else State.portError { s with win := { s.win with csLow := false, ctlDead := false, ctlDrive := false } } 3) := if_neg (by simp [hpow, hcs])
  rw [hgo]
  cases s.win.ctlDead
  · have herr : State.portError { s with win := { s.win with csLow := false, ctlDead := false, ctlDrive := false } } 3 = _ :=
      portError_ctlFraming hroom
    have hleft : ¬n = 0#5 := hn
    simp [hleft, herr]
  · simp

theorem svcStop_leftover {n : BitVec 2} {s : State} (hpow : s.boot.powered = true) (hn : n ≠ 0) (hroom : s.win.svcFraming < 255) :
    exec (.svcStop n) s = .next { s with win := { s.win with
      sdaHeld := false, svcAddr := if s.param 0x2005 = 0 then 0x58 + s.boot.straps.svcAddr.toNat else s.param 0x2005,
      svcFraming := s.win.svcFraming + 1, irqStatus := s.win.irqStatus ||| 0x100 } } := by
  have herr : State.portError { s with win := { s.win with
      sdaHeld := false, svcAddr := if s.param 0x2005 = 0 then 0x58 + s.boot.straps.svcAddr.toNat else s.param 0x2005 } } 2 = _ :=
    portError_svcFraming hroom
  have hleft : ¬n = 0#2 := hn
  simp [exec_svcStop, execSvcStop, hpow, hleft, herr]

/-- Settles O17: each clear is one masked word, read bit by bit. -/
theorem clearsAndTransactionEndsAct : Obligations.ClearsAndTransactionEndsAct := by
  refine ⟨?clears, ?rise, ?riseLeft, ?stop, ?stopLeft⟩
  case clears =>
    intro o d s hdead
    obtain ⟨hwake, herr⟩ := clears_act d hdead
    obtain ⟨t, p, hgo, ht, hirq⟩ := irqStatusClear_acts d hdead
    obtain ⟨u, q, hfault, hu, hcause⟩ := faultCauseClear_acts d hdead
    obtain ⟨h0, h1, h2, h3, h4, h5, h6⟩ := endedMask_bits (!s.boot.limp) (s.boot.stage != .recovery) (!s.boot.thermalOff) (!s.domFailed dCtrl)
      (!s.domFailed dMem) (!s.domFailed dPipe)
    have hbit : ∀ b : Nat, b < 32 → _ := fun b hb => congrArg (BitVec.getLsbD · b) hcause |>.trans (faultWrite_bit s d hb)
    refine ⟨⟨t, p, hgo, ht, fun b hb => ?_⟩, ⟨u, q, hfault, hu, fun b hd => ?_, ?_⟩, hwake, herr⟩
    · rw [hirq, irqWrite_bit s d hb]
    · by_cases hb : b < 32
      · rw [hbit b hb, hd, Bool.false_and, Bool.not_false, Bool.and_true]
      · simp [BitVec.getLsbD_of_ge _ _ (Nat.le_of_not_lt hb)]
    · refine ⟨fun hd => ?_, fun hd => ?_, fun hd => ?_, fun hd => ?_, fun hd => ?_, fun hd => ?_, fun hd => ?_⟩
      all_goals
        rw [hbit _ (by decide), hd, State.faultsEnded]
        simp only [h0, h1, h2, h3, h4, h5, h6, Bool.true_and, Bool.not_not, Bool.not_true, Bool.and_false]
      · simp [bne]
  case rise =>
    intro s hpow hcs
    simp [exec_ctlCsNRise, execCtlCsNRise, hpow, hcs]
  case riseLeft =>
    intro n s hpow hcs hn hroom
    exact ctlCsNRise_leftover hpow hcs hn hroom
  case stop =>
    intro s hpow
    simp [exec_svcStop, execSvcStop, hpow]
  case stopLeft =>
    intro n s hpow hn hroom
    exact svcStop_leftover hpow hn hroom

end Sys2Proof.Machine
end

section
/-! CLAIM O18. Doorbells, RELEASE and posted responses. -/

namespace Sys2Proof.Machine

theorem State.onMb_other {s : State} {i j : Mb} (f : Mailbox → Mailbox) (h : j ≠ i) : (s.onMb i f).mb j = s.mb j := by
  cases i
  all_goals
    cases j
    all_goals trivial

/-- A ring behind the requests of earlier cycles joins the order at its end. -/
theorem placeRing_append {same : Mb → Bool} {i : Mb} {l : List Mb} (h : ∀ j ∈ l, same j = false) : placeRing same i l = l ++ [i] := by
  induction l with
  | nil => rfl
  | cons j l ih =>
    have hj : same j = false := h j List.mem_cons_self
    simp [placeRing, hj, ih fun k hk => h k (List.mem_cons_of_mem j hk)]

/-- The doorbell of an IDLE mailbox (R124). -/
theorem State.ring_idle {s : State} {i : Mb} (o : Origin) (h : (s.mb i).st = .idle) : s.ring i o =
    { s.onMb i fun m => { m with st := .pending, tag := BitVec.ofNat 16 (reqTag m.req), origin := o, fill := false, rungAt := s.ctrlCycle } with
      box := { (s.onMb i fun m => { m with st := .pending, tag := BitVec.ofNat 16 (reqTag m.req), origin := o, fill := false, rungAt := s.ctrlCycle }).box
        with order := s.ringOrder i } } := if_pos h

theorem State.ring_mb {s : State} {i : Mb} (o : Origin) (h : (s.mb i).st = .idle) : (s.ring i o).mb i =
    { s.mb i with st := .pending, tag := BitVec.ofNat 16 (reqTag (s.mb i).req), fill := false, origin := o, rungAt := s.ctrlCycle } := by
  rw [State.ring_idle o h]
  cases i <;> rfl

theorem State.ring_other {s : State} {i j : Mb} (o : Origin) (h : (s.mb i).st = .idle) (hj : j ≠ i) : (s.ring i o).mb j = s.mb j := by
  rw [State.ring_idle o h]
  exact (rfl : _ = (s.onMb i _).mb j).trans (State.onMb_other _ hj)

theorem State.ring_order {s : State} {i : Mb} (o : Origin) (h : (s.mb i).st = .idle) : (s.ring i o).box.order = s.ringOrder i := by
  rw [State.ring_idle o h]

/-- The doorbell bit of the port's own mailboxes rings them. -/
theorem State.doorbell_rings {s : State} {i : Mb} {d : Word} (hi : i ≠ .mb3) (hd : d.getLsbD 0 = true) :
    s.doorbell i d = s.ring i (if i = .mb2 then .svc else .ctl) := by
  have hb : ¬(!d.getLsbD 0) = true := by rw [hd]; decide
  cases i
  case mb3 => exact absurd rfl hi
  all_goals exact if_neg hb

theorem mbDoorbell_runs {i : Mb} {d : Word} {s : State} (hdead : s.portDead (mbPort i) = false) :
    exec (.mbDoorbell i d) s = .next (s.doorbell i d).settle := if_neg (by simp [hdead])

theorem mbRelease_runs {i : Mb} {d : Word} {s : State} (hdead : s.portDead (mbPort i) = false) :
    exec (.mbRelease i d) s = .next (s.releaseWrite i d).settle := if_neg (by simp [hdead])

theorem State.settle_mb (s : State) (i : Mb) : s.settle.mb i = s.mb i := by
  obtain ⟨p, hp⟩ := s.settle_eq
  rw [hp]
  rfl

theorem State.settle_box (s : State) : s.settle.box = s.box := by simp

theorem State.settle_win (s : State) : s.settle.win = s.win := by simp

theorem State.portError_overrun {s : State} (h : s.win.dbOverrun < 255) :
    s.portError 0 = { s with win := { s.win with dbOverrun := s.win.dbOverrun + 1, irqStatus := s.win.irqStatus ||| 0x100 } } := by
  have hsat : sat 255 (s.win.dbOverrun + 1) = s.win.dbOverrun + 1 := by simp only [sat]; omega
  have hne : ({ s.win with dbOverrun := s.win.dbOverrun + 1 } : Window) ≠ s.win := fun e => by
    have := congrArg Window.dbOverrun e
    simp at this
  simp only [State.portError, hsat, if_neg hne]
  rfl

theorem State.ringOrder_alone {s : State} {i j : Mb} (horder : s.box.order = [j]) (hcycle : (s.mb j).rungAt = s.ctrlCycle) :
    s.ringOrder i = if mbRank i < mbRank j then [i, j] else [j, i] := by
  simp [State.ringOrder, horder, placeRing, hcycle]

/-- A doorbell the mailbox takes. -/
theorem doorbell_taken {i : Mb} {d : Word} {s : State} (hdead : s.portDead (mbPort i) = false) (hi : i ≠ .mb3) (hd : d.getLsbD 0 = true)
    (hidle : (s.mb i).st = .idle) :
    ∃ t, exec (.mbDoorbell i d) s = .next t ∧
      t.mb i = { s.mb i with st := .pending, tag := BitVec.ofNat 16 (reqTag (s.mb i).req), fill := false,
                             origin := if i = .mb2 then .svc else .ctl, rungAt := s.ctrlCycle } ∧
      t.box.order = s.ringOrder i ∧ (∀ j, j ≠ i → t.mb j = s.mb j) ∧ ∃ b p, t = { s with box := b, pwr := p } := by
  refine ⟨_, mbDoorbell_runs hdead, ?_⟩
  rw [State.doorbell_rings hi hd]
  refine ⟨?_, ?_, fun j hj => ?_, ?_⟩
  · rw [State.settle_mb, State.ring_mb _ hidle]
  · rw [State.settle_box, State.ring_order _ hidle]
  · rw [State.settle_mb, State.ring_other _ hidle hj]
  · rw [State.ring_idle _ hidle]
    obtain ⟨p, hp⟩ := State.settle_eq _
    exact ⟨_, p, hp⟩

/-- A doorbell of a mailbox in use counts as an overrun. -/
theorem doorbell_refused {i : Mb} {d : Word} {s : State} (hdead : s.portDead (mbPort i) = false) (hi : i ≠ .mb3) (hd : d.getLsbD 0 = true)
    (hbusy : (s.mb i).st ≠ .idle) (hroom : s.win.dbOverrun < 255) :
    ∃ t, exec (.mbDoorbell i d) s = .next t ∧ t.mb i = { s.mb i with overrun := true } ∧ t.win.dbOverrun = s.win.dbOverrun + 1 ∧
      t.box.order = s.box.order ∧ (∀ j, j ≠ i → t.mb j = s.mb j) ∧ ∃ b w p, t = { s with box := b, win := w, pwr := p } := by
  have hring (o : Origin) : s.ring i o = (s.onMb i fun m => { m with overrun := true }).portError 0 := if_neg hbusy
  refine ⟨_, mbDoorbell_runs hdead, ?_⟩
  rw [State.doorbell_rings hi hd, hring, State.portError_overrun (s := s.onMb i fun m => { m with overrun := true }) hroom]
  refine ⟨?_, ?_, ?_, fun j hj => ?_, ?_⟩
  · rw [State.settle_mb]
    cases i <;> rfl
  · rw [State.settle_win]
    rfl
  · rw [State.settle_box]
    cases i <;> rfl
  · rw [State.settle_mb]
    exact (rfl : _ = (s.onMb i _).mb j).trans (State.onMb_other (fun m => { m with overrun := true }) hj)
  · obtain ⟨p, hp⟩ := State.settle_eq _
    exact ⟨_, _, p, hp⟩

theorem release_acts {i : Mb} {d : Word} {s : State} (hdead : s.portDead (mbPort i) = false) (hi : i ≠ .mb3) (hd : d.getLsbD 0 = true) :
    ∃ t, exec (.mbRelease i d) s = .next t ∧
      t.mb i = (if (s.mb i).st = .done then { s.mb i with st := .idle, overrun := false } else s.mb i) ∧
      (∀ j, j ≠ i → t.mb j = s.mb j) ∧ ∃ b p, t = { s with box := b, pwr := p } := by
  have hrel : s.releaseWrite i d = s.release i := if_neg (by simp [hi, hd])
  refine ⟨_, mbRelease_runs hdead, ?_⟩
  rw [hrel, State.release]
  by_cases hdone : (s.mb i).st = .done
  · rw [if_pos hdone, if_pos hdone]
    refine ⟨?_, fun j hj => ?_, ?_⟩
    · rw [State.settle_mb]
      cases i <;> rfl
    · rw [State.settle_mb]
      exact State.onMb_other (fun m => { m with st := .idle, overrun := false }) hj
    · obtain ⟨p, hp⟩ := State.settle_eq _
      exact ⟨_, p, hp⟩
  · rw [if_neg hdone, if_neg hdone]
    refine ⟨s.settle_mb i, fun j _ => s.settle_mb j, ?_⟩
    obtain ⟨p, hp⟩ := s.settle_eq
    exact ⟨_, p, hp⟩

theorem doorbell_idle_bit {i : Mb} {d : Word} {s : State} (hdead : s.portDead (mbPort i) = false) (h : i = .mb3 ∨ d.getLsbD 0 = false) :
    (∃ p, exec (.mbDoorbell i d) s = .next { s with pwr := p }) ∧ ∃ p, exec (.mbRelease i d) s = .next { s with pwr := p } := by
  have hbell : s.doorbell i d = s := by
    rcases h with h | h
    · simp [State.doorbell, h]
    · exact if_pos (by rw [h]; rfl)
  have hrel : s.releaseWrite i d = s := by
    rcases h with h | h
    · exact if_pos (by simp [h])
    · exact if_pos (by rw [h]; rfl)
  rw [mbDoorbell_runs hdead, mbRelease_runs hdead, hbell, hrel]
  obtain ⟨p, hp⟩ := s.settle_eq
  exact ⟨⟨p, by rw [← hp]⟩, p, by rw [← hp]⟩

theorem State.bcSend_eq (s : State) (m : BcMsg) : ∃ h, s.bcSend m = { s with hl := h } := by
  unfold State.bcSend
  split
  · exact ⟨_, rfl⟩
  · exact ⟨s.hl, rfl⟩

/-- An in-band answer on a channel that is not driven releases the mailbox at once. -/
theorem State.answer_released {s : State} {i : Mb} (bytes : List Byte) (hi : i ≠ .mb3) (h : (s.mb i).origin = .inBand ∧ s.bcDriven = false) :
    s.answer i bytes = (s.irq i.num).release i := by
  obtain ⟨horigin, hdriven⟩ := h
  have hbc : (s.irq i.num).bcDriven = false := hdriven
  cases i
  case mb3 => exact absurd rfl hi
  all_goals simp [State.answer, horigin, hbc]

/-- Any other answer of the window's mailboxes raises the interrupt and may join the back-channel (R117, R120). -/
theorem State.answer_sent {s : State} {i : Mb} (bytes : List Byte) (hi : i ≠ .mb3) (h : ¬((s.mb i).origin = .inBand ∧ s.bcDriven = false)) :
    ∃ l, s.answer i bytes = { s.irq i.num with hl := l } := by
  have hgo : s.answer i bytes = if (s.mb i).origin = .inBand then
      if (s.irq i.num).bcDriven then
        if bytes.length ≤ 496 then (s.irq i.num).bcSend { kind := 2, payload := respFrag i bytes 0 bytes.length true true, last := some i }
        else ((s.irq i.num).bcSend { kind := 2, payload := respFrag i bytes 0 496 true false, last := none }).bcSend
          { kind := 2, payload := respFrag i bytes 496 (bytes.length - 496) false true, last := some i }
      else (s.irq i.num).release i
    else s.irq i.num := by
    cases i
    case mb3 => exact absurd rfl hi
    all_goals rfl
  rw [hgo]
  split
  case isFalse => exact ⟨s.hl, rfl⟩
  case isTrue hin =>
    have hbc : (s.irq i.num).bcDriven = true := Decidable.byContradiction fun hno => h ⟨hin, Bool.eq_false_iff.mpr hno⟩
    rw [if_pos hbc]
    split
    · obtain ⟨l, hl⟩ := State.bcSend_eq (s.irq i.num) { kind := 2, payload := respFrag i bytes 0 bytes.length true true, last := some i }
      exact ⟨l, hl⟩
    · obtain ⟨l, hl⟩ := State.bcSend_eq (s.irq i.num) { kind := 2, payload := respFrag i bytes 0 496 true false, last := none }
      rw [hl]
      obtain ⟨k, hk⟩ := State.bcSend_eq { s.irq i.num with hl := l }
        { kind := 2, payload := respFrag i bytes 496 (bytes.length - 496) false true, last := some i }
      exact ⟨k, hk⟩

/-- The mailbox with its response posted (R124, R126). -/
def State.posted (s : State) (i : Mb) (bytes : List Byte) : State :=
  s.onMb i fun m => { m with st := .done, resp := padBuf bytes, wait := .none }

theorem State.posted_mb (s : State) (i : Mb) (bytes : List Byte) :
    (s.posted i bytes).mb i = { s.mb i with st := .done, resp := padBuf bytes, wait := .none } := by
  cases i <;> rfl

/-- A posted response and its way back, for the mailboxes of the window. -/
theorem State.posted_answer {s : State} {i : Mb} (bytes : List Byte) (hi : i ≠ .mb3) :
    ((s.posted i bytes).answer i bytes).mb i = { s.mb i with
      resp := padBuf bytes, wait := .none,
      st := if (s.mb i).origin = .inBand ∧ s.bcDriven = false then .idle else .done,
      overrun := if (s.mb i).origin = .inBand ∧ s.bcDriven = false then false else (s.mb i).overrun } ∧
    ((s.posted i bytes).answer i bytes).box.mb1Tx = s.box.mb1Tx ∧
    ((s.posted i bytes).answer i bytes).win.irqStatus.getLsbD i.num = true ∧
    (∀ j, j ≠ i → ((s.posted i bytes).answer i bytes).mb j = s.mb j) ∧
    ∃ b w h, (s.posted i bytes).answer i bytes = { s with box := b, win := w, hl := h } := by
  have hmb := s.posted_mb i bytes
  have hbit (w : Word) : (w ||| BitVec.ofNat 32 (2 ^ i.num)).getLsbD i.num = true := by
    cases i <;> simp [Mb.num]
  have hirq : ((s.posted i bytes).irq i.num).win.irqStatus.getLsbD i.num = true := hbit s.win.irqStatus
  have hother (j : Mb) (hj : j ≠ i) : (s.posted i bytes).mb j = s.mb j := State.onMb_other _ hj
  have htx : (s.posted i bytes).box.mb1Tx = s.box.mb1Tx := by cases i <;> rfl
  have horigin : ((s.posted i bytes).mb i).origin = (s.mb i).origin := by rw [hmb]
  have hdriven : (s.posted i bytes).bcDriven = s.bcDriven := rfl
  by_cases h : (s.mb i).origin = .inBand ∧ s.bcDriven = false
  · rw [State.answer_released bytes hi (by rw [horigin, hdriven]; exact h)]
    have hst : (((s.posted i bytes).irq i.num).mb i).st = .done := congrArg Mailbox.st hmb
    have hrel : ((s.posted i bytes).irq i.num).release i =
        ((s.posted i bytes).irq i.num).onMb i fun m => { m with st := .idle, overrun := false } := if_pos hst
    rw [hrel, if_pos h, if_pos h]
    have hmb' : ((s.posted i bytes).irq i.num).mb i = { s.mb i with st := .done, resp := padBuf bytes, wait := .none } := hmb
    refine ⟨?_, ?_, hirq, fun j hj => ?_, ?_⟩
    · rw [State.onMb_get, hmb']
    · cases i <;> rfl
    · exact (State.onMb_other (fun m => { m with st := .idle, overrun := false }) hj).trans (hother j hj)
    · exact ⟨_, _, s.hl, rfl⟩
  · obtain ⟨l, hl⟩ := State.answer_sent (s := s.posted i bytes) bytes hi (by rw [horigin, hdriven]; exact h)
    rw [hl, if_neg h, if_neg h]
    exact ⟨hmb, htx, hirq, hother, _, _, l, rfl⟩

theorem State.post_plain (s : State) {i : Mb} (st : Nat) (p : List Byte) (hi : i ≠ .mb1) :
    s.post i st p = (s.posted i (respHeader (reqCode (s.mb i).req) p.length (s.mb i).tag.toNat st ++ p)).answer i
      (respHeader (reqCode (s.mb i).req) p.length (s.mb i).tag.toNat st ++ p) := by
  cases i
  case mb1 => exact absurd rfl hi
  all_goals rfl

theorem State.post_session {s : State} {e : Session} (st : Nat) (p : List Byte) (h : s.session = some e) :
    let msg := toLe 2 (reqCode s.box.mb1.req) ++ toLe 2 p.length ++ toLe 2 s.box.mb1.tag.toNat ++ toLe 2 st ++ p ++ toLe 4 (s.box.mb1Tx + 1)
    s.post .mb1 st p = (State.posted { s with box := { s.box with mb1Tx := s.box.mb1Tx + 1 } } .mb1
      (msg ++ (Config.hmac e.keys.ctl msg).take 16)).answer .mb1 (msg ++ (Config.hmac e.keys.ctl msg).take 16) := by
  simp only [State.post, State.postWith, h]
  rfl

/-- Settles O18 (log entry 8): the ring order, the posted bytes and the session's additions each have their lemmas. -/
theorem mailboxesAreRungAnsweredAndReleased : Obligations.MailboxesAreRungAnsweredAndReleased := by
  refine ⟨⟨?rung, ?refused, ?released, ?idle⟩, ?post, ?session⟩
  case rung =>
    intro i d s hdead hi hd hidle
    obtain ⟨t, hgo, hmb, horder, hother, hframe⟩ := doorbell_taken hdead hi hd hidle
    refine ⟨t, hgo, hmb, fun hearlier => ?_, fun j hone hcycle => ?_, hother, hframe⟩
    · rw [horder]
      exact placeRing_append fun j hj => by simpa using hearlier j hj
    · rw [horder]
      exact State.ringOrder_alone hone hcycle
  case refused =>
    intro i d s hdead hi hd hbusy hroom
    exact doorbell_refused hdead hi hd hbusy hroom
  case released =>
    intro i d s hdead hi hd
    exact release_acts hdead hi hd
  case idle =>
    intro i d s hdead h
    exact doorbell_idle_bit hdead h
  case post =>
    intro i st p s hi
    have h1 : i ≠ .mb1 := by rcases hi with hi | hi <;> simp [hi]
    have h3 : i ≠ .mb3 := by rcases hi with hi | hi <;> simp [hi]
    rw [State.post_plain s st p h1]
    obtain ⟨hmb, _, hirq, hother, hframe⟩ := State.posted_answer (s := s) _ h3
    exact ⟨hmb, hirq, hother, hframe⟩
  case session =>
    intro e st p s h msg
    rw [State.post_session st p h]
    obtain ⟨hmb, htx, hirq, _, _⟩ := State.posted_answer (s := { s with box := { s.box with mb1Tx := s.box.mb1Tx + 1 } }) (i := .mb1)
      (msg ++ (Config.hmac e.keys.ctl msg).take 16) (by decide)
    have hresp := congrArg Mailbox.resp hmb
    dsimp only at hresp
    exact ⟨hresp, htx, hirq⟩

end Sys2Proof.Machine
end

section
/-! CLAIM O19. The first four checks of a request. -/

namespace Sys2Proof.Machine

/-- Every mailbox command with one code is served from its row of the command table (R128). -/
theorem commandOf_serves {ins : Instr} {i : Mb} {c : Cmd} (s : State) (h : commandOf ins = some (i, c)) :
    ∃ run, exec ins s = s.serve i c run := by
  unfold commandOf at h
  split at h
  case h_38 => nomatch h
  all_goals
    cases h
    exact ⟨_, rfl⟩

/-- A request of the command's code that is the firmware's next. -/
theorem State.serve_taken {s : State} {i : Mb} {c : Cmd} (run : List Byte → State → Reply) (ht : s.takes i = true)
    (hc : reqCode (s.mb i).req = c.code) : s.serve i c run = done ((s.take i).serveTaken i c run) := by
  simp [State.serve, ht, hc]

/-- DENIED: the mailbox does not permit the command, or MB1's MAC fails (R125, R127). -/
theorem State.serveTaken_denied {s : State} {i : Mb} (c : Cmd) (run : List Byte → State → Reply)
    (h : s.allowed i (reqCode (s.mb i).req) = false) :
    (s.take i).serveTaken i c run = (if i = .mb3 then (s.take i).peerRefuse else s.take i).postWith i (i != .mb1 || s.macOk (s.mb i).req) stDenied [] := by
  have hno : (!permits i (reqCode (s.mb i).req) (reqPayload (s.mb i).req) || !(i != .mb1 || s.macOk (s.mb i).req)) = true := by
    rw [← Bool.not_and]
    exact congrArg not h
  simp only [State.serveTaken, State.take_req, State.take_macOk, hno, if_true]

/-- A permitted request is taken; its stage and FLAGS come next. -/
theorem State.serveTaken_allowed {s : State} {i : Mb} (c : Cmd) (run : List Byte → State → Reply)
    (h : s.allowed i (reqCode (s.mb i).req) = true) :
    (s.take i).serveTaken i c run = if !servedIn s.boot.stage (reqCode (s.mb i).req) || reqFlags (s.mb i).req != 0 then (s.taken i).post i stBadCommand []
      else (s.taken i).serveBody i c run (s.reqBody i) := by
  have hyes : (!permits i (reqCode (s.mb i).req) (reqPayload (s.mb i).req) || !(i != .mb1 || s.macOk (s.mb i).req)) = false := by
    rw [← Bool.not_and]
    exact congrArg not h
  simp only [State.serveTaken, State.take_req, State.take_macOk, hyes, Bool.false_eq_true, if_false]
  cases i <;> rfl

/-- The checks of a served command in their order (R128). -/
theorem State.serve_checks {s : State} {i : Mb} {c : Cmd} (run : List Byte → State → Reply) (ht : s.takes i = true)
    (hc : reqCode (s.mb i).req = c.code) :
    (s.allowed i c.code = false →
      s.serve i c run = .next (((if i = .mb3 then (s.take i).peerRefuse else s.take i).postWith i (i != .mb1 || s.macOk (s.mb i).req) stDenied []).settle)) ∧
    (s.allowed i c.code = true → (servedIn s.boot.stage c.code = false ∨ reqFlags (s.mb i).req ≠ 0) →
      s.serve i c run = .next ((s.taken i).post i stBadCommand []).settle) ∧
    (s.allowed i c.code = true → servedIn s.boot.stage c.code = true → reqFlags (s.mb i).req = 0 →
      s.serve i c run = .next ((s.taken i).serveBody i c run (s.reqBody i)).settle) := by
  rw [State.serve_taken run ht hc, ← hc]
  refine ⟨fun hden => ?_, fun hal hno => ?_, fun hal hst hfl => ?_⟩
  · rw [State.serveTaken_denied c run hden]
    rfl
  · have hbad : (!servedIn s.boot.stage (reqCode (s.mb i).req) || reqFlags (s.mb i).req != 0) = true := by
      rcases hno with hno | hno <;> simp [hno]
    rw [State.serveTaken_allowed c run hal, if_pos hbad]
    rfl
  · rw [State.serveTaken_allowed c run hal, if_neg (by simp [hst, hfl])]
    rfl

theorem State.serveBody_badLength {s : State} {i : Mb} {c : Cmd} (run : List Byte → State → Reply) {p : List Byte}
    (h : maxPayload i < p.length ∨ c.lenOk p = false) : s.serveBody i c run p = s.post i stBadLength [] :=
  if_pos (by rcases h with h | h <;> simp [h])

theorem State.serveBody_outOfRange {s : State} {i : Mb} {c : Cmd} (run : List Byte → State → Reply) {p : List Byte}
    (hmax : p.length ≤ maxPayload i) (hlen : c.lenOk p = true) (hz : c.zeroOk p = false) : s.serveBody i c run p = s.post i stOutOfRange [] :=
  (if_neg (by simp [hlen, hmax])).trans (if_pos (by simp [hz]))

/-- Settles O19 (log entries 21 and 24): every row of the command table runs `serve`, whose checks are followed once for all of them. -/
theorem requestChecksRunInOrder : Obligations.RequestChecksRunInOrder := by
  refine ⟨⟨fun ins i c s hcmd hother => ?_, fun ins i c s hcmd ht hc => ?_⟩, fun i s ht hst => ?_⟩
  · obtain ⟨run, hrun⟩ := commandOf_serves s hcmd
    rw [hrun, State.serve_other run hother]
  · obtain ⟨run, hrun⟩ := commandOf_serves s hcmd
    obtain ⟨hdenied, hcommand, hbody⟩ := State.serve_checks run ht hc
    rw [hrun]
    refine ⟨hdenied, hcommand, fun hal hst hfl hlen => ?_, fun hal hst hfl hmax hlen hz => ?_⟩
    · rw [hbody hal hst hfl, State.serveBody_badLength run hlen]
    · rw [hbody hal hst hfl, State.serveBody_outOfRange run hmax hlen hz]
  · have hgo : exec (.unknownCommand i) s =
        done ((s.take i).serveTaken i (.bare (reqCode (s.mb i).req)) fun _ t => .refuse stBadCommand t) := if_pos (by simp [ht, hst])
    rw [hgo]
    by_cases hal : s.allowed i (reqCode (s.mb i).req) = true
    · rw [if_pos hal, State.serveTaken_allowed _ _ hal, if_pos (by simp [hst])]
      rfl
    · rw [if_neg hal, State.serveTaken_denied _ _ (Bool.eq_false_iff.mpr hal)]
      rfl

end Sys2Proof.Machine
end

section
/-! SUPPORT. What the block sets of a packet do once they are data block sets of a group that listens. -/

namespace Sys2Proof.Machine

theorem State.setErrors_clean {s : State} {i : Side} {wrong : LaneGroup → LinkBlock → Bool} {set : List LinkBlock}
    (h : ∀ k < (s.streamLanes i).length, ∀ g, wrong g (set.getD k 0) = false) : s.setErrors i wrong set = s := by
  refine List.foldlRecOn (motive := fun t : State => t = s) _ _ rfl fun t ht k hk => ?_
  have hlane := h k (List.mem_range.mp hk) (t.hl.group (laneSide ((s.streamLanes i).getD k 0)))
  dsimp only
  rw [if_neg (by rw [hlane]; decide), ht]

/-- Data block sets count no block error (R173). -/
theorem State.judgeSets_clean {s : State} {i : Side} {sets : List (List LinkBlock)}
    (h : (sets.all fun set => (List.range (s.streamLanes i).length).all fun k => blockData (set.getD k 0)) = true) : s.judgeSets i sets = s := by
  refine List.foldlRecOn (motive := fun t : State => t = s) _ _ rfl fun t ht set hset => ?_
  subst ht
  refine State.setErrors_clean fun k hk _ => ?_
  have hdata := List.all_eq_true.mp (List.all_eq_true.mp h set hset) k (List.mem_range.mpr hk)
  exact congrArg not hdata

theorem State.elapse_param (s : State) (t id : Nat) : (s.elapse t).param id = s.param id := by simp [State.param]

theorem State.elapse_streamLanes (s : State) (t : Nat) (i : Side) : (s.elapse t).streamLanes i = s.streamLanes i := by
  simp [State.streamLanes, State.wide, State.groupLanes, State.elapse_param]

theorem State.elapse_stream (s : State) (t : Nat) (i : Side) : (s.elapse t).stream i = s.stream i := by
  simp [State.stream, State.wide, State.elapse_param]

theorem State.elapse_descrambled (s : State) (t : Nat) (i : Side) (sets : List (List LinkBlock)) :
    ((s.elapse t).descramble i sets).1 = (s.descramble i sets).1 := by
  simp [State.descramble, State.streamRegs, State.elapse_streamLanes]

/-- A packet's block sets have the effect of what is heard, on the state in which they have arrived (R173 to R176, R182 to R186). -/
theorem State.packetIn_heard {s : State} {side : Side} {sets : List (List LinkBlock)} {a : Heard} (at_ : Nat) (h : s.hears side sets a = true) :
    s.packetIn side at_ sets = (s.arrived side at_ sets).heard (s.stream side) a := by
  simp only [State.hears, Bool.and_eq_true, beq_iff_eq] at h
  obtain ⟨⟨hlisten, hdata⟩, hheard⟩ := h
  have hclean : (s.elapse at_).judgeSets (s.stream side) sets = s.elapse at_ :=
    State.judgeSets_clean (by rw [State.elapse_streamLanes]; exact hdata)
  have hlisten' : (s.elapse at_).receives (s.stream side) = true := by simpa [State.receives] using hlisten
  have hbytes : ((s.elapse at_).descramble (s.stream side) sets).1 = (s.descramble (s.stream side) sets).1 := s.elapse_descrambled _ _ _
  simp only [State.packetIn, hlisten, hclean, hlisten', Bool.not_true, Bool.false_eq_true, if_false, hbytes, hheard, State.arrived]

theorem State.packetIn_brings {s : State} {side : Side} {sets : List (List LinkBlock)} {type : Nat} {enc : Bool} {p : List Byte} (at_ : Nat)
    (h : s.brings side sets type enc p = true) :
    s.packetIn side at_ sets = (s.arrived side at_ sets).packet (s.stream side) type enc p := State.packetIn_heard at_ h

theorem State.arrived_box (s : State) (side : Side) (at_ : Nat) (sets : List (List LinkBlock)) : (s.arrived side at_ sets).box = s.box := by
  simp [State.arrived]

theorem State.arrived_win (s : State) (side : Side) (at_ : Nat) (sets : List (List LinkBlock)) : (s.arrived side at_ sets).win = s.win := by
  simp [State.arrived]

theorem State.arrived_mb (s : State) (side : Side) (at_ : Nat) (sets : List (List LinkBlock)) (i : Mb) : (s.arrived side at_ sets).mb i = s.mb i :=
  congrArg (·.get i) (s.arrived_box side at_ sets)

theorem State.arrived_domOn (s : State) (side : Side) (at_ : Nat) (sets : List (List LinkBlock)) (d : Fin 19) :
    (s.arrived side at_ sets).domOn d = s.domOn d := s.elapse_domOn at_ d

end Sys2Proof.Machine
end

section
/-! CLAIM O20. In-band CTL fragments. -/

namespace Sys2Proof.Machine

theorem ctlPacket_runs {side : Side} {at_ : Nat} {sets : List (List LinkBlock)} {p : List Byte} {s : State} (h : s.brings side sets 4 false p = true) :
    exec (.ctlPacket side ⟨at_, sets⟩) s = .next ((s.arrived side at_ sets).ctlIn p).settle :=
  congrArg done (State.packetIn_brings at_ h)

/-- A well-formed fragment for MB0 or MB1 goes to its mailbox (R116, R117). -/
theorem State.ctlIn_fragment {s : State} {p : List Byte} {i : Mb} (hband : s.win.inbandEn = true) (hform : ctlMalformed p = false)
    (hi : i = .mb0 ∨ i = .mb1) (hbox : byteAt p 0 = Byte.of i.num) : s.ctlIn p = s.ctlFragment i p := by
  rcases hi with rfl | rfl
  all_goals simp [State.ctlIn, hband, hform, hbox, Mb.num]

/-- The mailbox with the fragment's data laid at its offset (R117). -/
def State.filled (s : State) (i : Mb) (p : List Byte) : State :=
  s.onMb i fun m => { m with fill := true, req := overlay m.req (le2 p 2) (slice p 16 (le2 p 4)) }

theorem State.filled_mb (s : State) (i : Mb) (p : List Byte) :
    (s.filled i p).mb i = { s.mb i with fill := true, req := overlay (s.mb i).req (le2 p 2) (slice p 16 (le2 p 4)) } := by
  cases i <;> rfl

theorem bit_zero (n : Nat) : bit n 0 = decide (n % 2 = 1) := by simp [bit, Nat.testBit_zero]

theorem bit_one {n : Nat} (h : n < 4) : bit n 1 = decide (2 ≤ n) := by
  revert n
  decide

/-- A fragment that opens an IDLE mailbox or continues its open request. -/
theorem State.ctlFragment_filled {s : State} {i : Mb} {p : List Byte} (hon : s.domOn dCtrl = true) (hidle : (s.mb i).st = .idle)
    (hopen : (byteAt p 1).toNat % 2 = 1 ∨ (s.mb i).fill = true) (hend : le2 p 2 + le2 p 4 ≤ 512) (hflags : (byteAt p 1).toNat < 4) :
    s.ctlFragment i p = if 2 ≤ (byteAt p 1).toNat then (s.filled i p).ring i .inBand else s.filled i p := by
  have hcont : (!bit (byteAt p 1).toNat 0 && !(s.mb i).fill) = false := by
    rw [bit_zero]
    rcases hopen with h | h <;> simp [h]
  have hfits : ¬512 < le2 p 2 + le2 p 4 := by omega
  simp only [State.ctlFragment, hon, hidle, hcont, hfits, bit_one hflags]
  simp [State.filled]

theorem State.filled_other {s : State} {i j : Mb} (p : List Byte) (h : j ≠ i) : (s.filled i p).mb j = s.mb j := State.onMb_other _ h

/-- What a fragment leaves in the mailboxes: LAST rings the doorbell with ORIGIN in-band (R117). -/
theorem State.ctlFragment_mailboxes {s : State} {i : Mb} {p : List Byte} (hon : s.domOn dCtrl = true) (hidle : (s.mb i).st = .idle)
    (hopen : (byteAt p 1).toNat % 2 = 1 ∨ (s.mb i).fill = true) (hend : le2 p 2 + le2 p 4 ≤ 512) (hflags : (byteAt p 1).toNat < 4) :
    (s.ctlFragment i p).mb i = (if 2 ≤ (byteAt p 1).toNat then
        { s.mb i with req := overlay (s.mb i).req (le2 p 2) (slice p 16 (le2 p 4)), st := .pending, origin := .inBand, fill := false, rungAt := s.ctrlCycle,
                      tag := BitVec.ofNat 16 (reqTag (overlay (s.mb i).req (le2 p 2) (slice p 16 (le2 p 4)))) }
        else { s.mb i with req := overlay (s.mb i).req (le2 p 2) (slice p 16 (le2 p 4)), fill := true }) ∧
      (∀ j, j ≠ i → (s.ctlFragment i p).mb j = s.mb j) ∧ ∃ b, s.ctlFragment i p = { s with box := b } := by
  rw [State.ctlFragment_filled hon hidle hopen hend hflags]
  by_cases hlast : 2 ≤ (byteAt p 1).toNat
  · have hidle' : ((s.filled i p).mb i).st = .idle := (congrArg Mailbox.st (s.filled_mb i p)).trans hidle
    rw [if_pos hlast, if_pos hlast]
    refine ⟨?_, fun j hj => ?_, ?_⟩
    · rw [State.ring_mb _ hidle', State.filled_mb]
      rfl
    · rw [State.ring_other _ hidle' hj, State.filled_other p hj]
    · rw [State.ring_idle _ hidle']
      exact ⟨_, rfl⟩
  · rw [if_neg hlast, if_neg hlast]
    exact ⟨s.filled_mb i p, fun j hj => State.filled_other p hj, _, rfl⟩

/-- A FIRST fragment for a mailbox in use is an overrun (R117). -/
theorem State.ctlFragment_overrun {s : State} {i : Mb} {p : List Byte} (hon : s.domOn dCtrl = true) (hbusy : (s.mb i).st ≠ .idle)
    (hfirst : (byteAt p 1).toNat % 2 = 1) (hroom : s.win.dbOverrun < 255) :
    (s.ctlFragment i p).mb i = { s.mb i with overrun := true } ∧ (s.ctlFragment i p).win.dbOverrun = s.win.dbOverrun + 1 ∧
      (s.ctlFragment i p).box.order = s.box.order := by
  have hgo : s.ctlFragment i p = (s.onMb i fun m => { m with overrun := true }).portError 0 := by
    simp only [State.ctlFragment, hon, bit_zero, hfirst, bne, beq_eq_false_iff_ne.mpr hbusy]
    simp [State.overrun]
  rw [hgo, State.portError_overrun (s := s.onMb i fun m => { m with overrun := true }) hroom]
  refine ⟨?_, rfl, ?_⟩
  · cases i <;> rfl
  · cases i <;> rfl

/-- Settles O20: a packet comes down to the fragment it carries, and a fragment to its own mailbox. -/
theorem ctlPacketsFillMailboxes : Obligations.CtlPacketsFillMailboxes := by
  refine ⟨?filled, ?overrun, ?unknown, ?off⟩
  case filled =>
    intro side at_ sets p i s hbrings hon hband hform hi hbox hidle hopen hend
    have hflags : (byteAt p 1).toNat < 4 := by
      simp only [ctlMalformed, Bool.or_eq_false_iff, decide_eq_false_iff_not] at hform
      omega
    have hmb := s.arrived_mb side at_ sets
    have hgo : exec (.ctlPacket side ⟨at_, sets⟩) s = .next ((s.arrived side at_ sets).ctlFragment i p).settle := by
      rw [ctlPacket_runs hbrings, State.ctlIn_fragment (by rw [State.arrived_win]; exact hband) hform hi hbox]
    obtain ⟨hown, hothers, b, hframe⟩ := State.ctlFragment_mailboxes (s := s.arrived side at_ sets) (i := i) (p := p)
      (by rw [State.arrived_domOn]; exact hon) (by rw [hmb]; exact hidle) (by rw [hmb]; exact hopen) hend hflags
    obtain ⟨q, hq⟩ := State.settle_eq ((s.arrived side at_ sets).ctlFragment i p)
    refine ⟨_, hgo, ?_, fun j hj => ?_, b, q, ?_⟩
    · rw [State.settle_mb, hown, hmb]
    · rw [State.settle_mb, hothers j hj, hmb]
    · rw [hq, hframe]
  case overrun =>
    intro side at_ sets p i s hbrings hon hband hform hi hbox hbusy hfirst hroom
    have hmb := s.arrived_mb side at_ sets
    have hwin := s.arrived_win side at_ sets
    have hgo : exec (.ctlPacket side ⟨at_, sets⟩) s = .next ((s.arrived side at_ sets).ctlFragment i p).settle := by
      rw [ctlPacket_runs hbrings, State.ctlIn_fragment (by rw [hwin]; exact hband) hform hi hbox]
    obtain ⟨hown, hcount, horder⟩ := State.ctlFragment_overrun (s := s.arrived side at_ sets) (i := i) (p := p)
      (by rw [State.arrived_domOn]; exact hon) (by rw [hmb]; exact hbusy) hfirst (by rw [hwin]; exact hroom)
    refine ⟨_, hgo, ?_, ?_, ?_⟩
    · rw [State.settle_mb, hown, hmb]
    · rw [State.settle_win, hcount, hwin]
    · rw [State.settle_box, horder, State.arrived_box]
  case unknown =>
    intro side at_ sets p s hbrings hband h0 h1
    have hctl : (s.arrived side at_ sets).ctlIn p = (s.arrived side at_ sets).count 578 1 := by
      simp only [State.ctlIn, State.arrived_win, hband, if_neg h0, if_neg h1]
      rfl
    rw [ctlPacket_runs hbrings, hctl]
    exact done_eq _
  case off =>
    intro side at_ sets p s hbrings hband
    have hctl : (s.arrived side at_ sets).ctlIn p = s.arrived side at_ sets := if_pos (by simp [State.arrived_win, hband])
    rw [ctlPacket_runs hbrings, hctl]
    exact done_eq _

end Sys2Proof.Machine
end

section
/-! CLAIM O21. IDENT and the reads of parameters. -/

namespace Sys2Proof.Machine

/-- A parameter that is no readout is read without effect (R143). -/
theorem State.readActive_value {s : State} {id : Nat} (mb : Nat) (hk : pClass? id ≠ some .k) : s.readActive mb id =
    (if 0x4C00 ≤ id && id < 0x4C80 then eyeField (s.eyes.get (id % 128 / 8)).record (id % 8)
      else if 0x2420 ≤ id && id < 0x2440 && !s.laneUsed (id % 16) then 0 else s.param id, s) := by
  rw [State.readActive, if_neg hk]
  repeat' split
  all_goals rfl

theorem State.readParam_state {s : State} {id : Nat} (mb shadow : Nat) (hk : pClass? id ≠ some .k) : (s.readParam mb id shadow).2 = s := by
  simp only [State.readParam, State.readActive_value mb hk]
  split
  all_goals rfl

theorem State.readParam_value {s : State} {id : Nat} (mb shadow : Nat) (hk : pClass? id ≠ some .k) : (s.readParam mb id shadow).1 =
    Option.elim (if shadow = 1 && (pClass? id == some .f || pClass? id == some PClass.s) then (aget? s.par.staged id).or (s.waitVal? id) else none)
      (if 0x4C00 ≤ id && id < 0x4C80 then eyeField (s.eyes.get (id % 128 / 8)).record (id % 8)
        else if 0x2420 ≤ id && id < 0x2440 && !s.laneUsed (id % 16) then 0 else s.param id) (·.toNat) := by
  simp only [State.readParam, State.readActive_value mb hk]
  split
  all_goals
    rename_i heq
    rw [heq]
    rfl

theorem State.taken_readParam {s : State} {id : Nat} (i : Mb) (mb shadow : Nat) (hk : pClass? id ≠ some .k) :
    ((s.taken i).readParam mb id shadow).1 = (s.readParam mb id shadow).1 := by
  obtain ⟨b, w, h⟩ := s.taken_eq i
  rw [h, State.readParam_value mb shadow hk, State.readParam_value mb shadow hk]
  rfl

/-- Values that are no readouts are read in order from one state. -/
theorem State.readAll_values {s : State} (mb shadow : Nat) {ids : List Nat} (hk : ∀ id ∈ ids, pClass? id ≠ some .k) :
    s.readAll mb shadow ids = (ids.flatMap fun id => toLe 2 id ++ toLe 4 (s.readParam mb id shadow).1, s) := by
  induction ids with
  | nil => rfl
  | cons id ids ih =>
    have hrest := ih fun j hj => hk j (List.mem_cons_of_mem id hj)
    simp only [State.readAll, State.readParam_state mb shadow (hk id List.mem_cons_self), hrest, List.flatMap_cons]

/-- The value of a parameter that is neither an eye's field nor a lane's setting (R143, R160). -/
theorem State.readParam_plain {s : State} {id : Nat} {c : PClass} (mb shadow : Nat) (hc : pClass? id = some c) (hk : c ≠ .k)
    (heye : id / 128 ≠ 0x4C00 / 128) (hlane : id / 32 ≠ 0x2420 / 32) :
    s.readParam mb id shadow =
      ((if shadow = 1 ∧ (c = .f ∨ c = .s) then ((aget? s.par.staged id).or (s.waitVal? id)).elim (s.param id) (·.toNat) else s.param id), s) := by
  have hnk : pClass? id ≠ some .k := by
    rw [hc]
    exact fun e => hk (Option.some.inj e)
  have hno : (decide (0x4C00 ≤ id) && decide (id < 0x4C80)) = false := by
    simp only [Bool.and_eq_false_iff, decide_eq_false_iff_not]
    omega
  have hno' : (decide (0x2420 ≤ id) && decide (id < 0x2440)) = false := by
    simp only [Bool.and_eq_false_iff, decide_eq_false_iff_not]
    omega
  have hactive : s.readActive mb id = (s.param id, s) := by
    rw [State.readActive_value mb hnk, hno, hno']
    rfl
  simp only [State.readParam, hc, hactive]
  by_cases hshadow : shadow = 1 ∧ (c = .f ∨ c = .s)
  · have hb : (decide (shadow = 1) && (some c == some PClass.f || some c == some PClass.s)) = true := by simpa using hshadow
    rw [if_pos hb, if_pos hshadow]
    cases (aget? s.par.staged id).or (s.waitVal? id) <;> rfl
  · have hb : (decide (shadow = 1) && (some c == some PClass.f || some c == some PClass.s)) = false := by simpa using hshadow
    rw [if_neg (by rw [hb]; decide), if_neg hshadow]

theorem State.taken_identBytes (s : State) (i : Mb) : (s.taken i).identBytes = s.identBytes := by
  obtain ⟨b, w, h⟩ := s.taken_eq i
  rw [h]
  rfl

theorem exec_paramGet (i : Mb) (s : State) : exec (.paramGet i) s = s.serve i (.fixed 0x0010 4 fun _ => true) (runParamGet i) := rfl

theorem exec_paramGetMulti (i : Mb) (s : State) : exec (.paramGetMulti i) s = s.serve i cmdParamGetMulti (runParamGetMulti i) := rfl

/-- Settles O21: taking a request leaves what a layout reads, so each command replies at once. -/
theorem parameterReadsAnswer : Obligations.ParameterReadsAnswer := by
  refine ⟨?ident, ?get, ?refused, ?value, ?multi⟩
  case ident =>
    intro i s hserved
    have hgo : exec (.ident i) s = _ := State.serve_reply (run := fun _ t => .reply stOk t.identBytes t) hserved rfl
    rw [hgo, State.taken_identBytes, State.identBytes]
  case get =>
    intro i c s hserved hshadow hc
    have hin : ¬1 < le2 (s.reqBody i) 2 := by omega
    rw [exec_paramGet]
    refine State.serve_reply hserved ?_
    simp [runParamGet, hin, hc, classByte]
  case refused =>
    intro i s hserved
    refine ⟨fun hshadow => ?_, fun hshadow hc => ?_⟩
    · rw [exec_paramGet]
      exact State.serve_reply hserved (if_pos hshadow)
    · have hin : ¬1 < le2 (s.reqBody i) 2 := by omega
      rw [exec_paramGet]
      refine State.serve_reply hserved ?_
      simp [runParamGet, hin, hc, Reply.refuse]
  case value =>
    intro mb id shadow c s hc hk heye hlane
    exact State.readParam_plain mb shadow hc hk heye hlane
  case multi =>
    intro i s hserved hshadow hids
    have hin : ¬1 < le2 (s.reqBody i) 2 := by omega
    have hclass : ∀ id ∈ (List.range (le2 (s.reqBody i) 0)).map fun k => le2 (s.reqBody i) (4 + 2 * k), ∃ c, pClass? id = some c ∧ c ≠ .k := by
      intro id hid
      obtain ⟨k, hk, rfl⟩ := List.mem_map.mp hid
      exact hids k (List.mem_range.mp hk)
    have hnk : ∀ id ∈ (List.range (le2 (s.reqBody i) 0)).map fun k => le2 (s.reqBody i) (4 + 2 * k), pClass? id ≠ some .k := by
      intro id hid
      obtain ⟨c, hc, hk⟩ := hclass id hid
      rw [hc]
      exact fun e => hk (Option.some.inj e)
    have hdefined : (((List.range (le2 (s.reqBody i) 0)).map fun k => le2 (s.reqBody i) (4 + 2 * k)).any fun id => (pClass? id).isNone) = false := by
      refine List.any_eq_false.mpr fun id hid => ?_
      obtain ⟨c, hc, _⟩ := hclass id hid
      simp [hc]
    rw [exec_paramGetMulti]
    refine State.serve_reply hserved ?_
    simp only [runParamGetMulti, if_neg hin, hdefined, Bool.false_eq_true, if_false, State.readAll_values i.num (le2 (s.reqBody i) 2) hnk,
      List.length_map, List.length_range, List.flatMap_map]
    have hvalues := List.map_congr_left (l := List.range (le2 (s.reqBody i) 0))
      (f := fun k => toLe 2 (le2 (s.reqBody i) (4 + 2 * k)) ++
        toLe 4 ((s.taken i).readParam i.num (le2 (s.reqBody i) (4 + 2 * k)) (le2 (s.reqBody i) 2)).1)
      (g := fun k => toLe 2 (le2 (s.reqBody i) (4 + 2 * k)) ++ toLe 4 (s.readParam i.num (le2 (s.reqBody i) (4 + 2 * k)) (le2 (s.reqBody i) 2)).1)
      fun k hk => by rw [State.taken_readParam i i.num _ (hnk _ (List.mem_map_of_mem hk))]
    rw [List.flatMap_def, List.flatMap_def, hvalues]

end Sys2Proof.Machine
end

section
/-! SUPPORT. The parameters as an ordered list: what reading an entry gives after one is written. -/

namespace Sys2Proof.Machine

/-- The keys of an association list ascend strictly. -/
def keysAscend {α : Type} (l : List (Nat × α)) : Prop := (l.map (·.1)).Pairwise (· < ·)

theorem aget?_aset {α : Type} (l : List (Nat × α)) (a b : Nat) (v : α) : aget? (aset l a v) b = if b = a then some v else aget? l b := by
  induction l with
  | nil => simp [aset, aget?, eq_comm]
  | cons x l ih =>
    obtain ⟨j, w⟩ := x
    rw [aset]
    split
    · simp [aget?, eq_comm]
    · split
      · next hle heq =>
        subst heq
        simp only [aget?, eq_comm (a := b)]
        split <;> rfl
      · next hle hne =>
        simp only [aget?, ih]
        by_cases hb : b = a
        · subst hb
          simp [Ne.symm hne]
        · simp [hb]

theorem mem_keys_aset {α : Type} {l : List (Nat × α)} {a k : Nat} {v : α} (h : k ∈ (aset l a v).map (·.1)) : k = a ∨ k ∈ l.map (·.1) := by
  induction l with
  | nil => simpa [aset] using h
  | cons x l ih =>
    obtain ⟨j, w⟩ := x
    rw [aset] at h
    split at h
    · simpa using h
    · split at h
      · next hle heq =>
        subst heq
        exact .inr (by simpa using h)
      · simp only [List.map_cons, List.mem_cons] at h ⊢
        rcases h with h | h
        · exact .inr (.inl h)
        · exact (ih h).imp_right .inr

theorem keysAscend_aset {α : Type} {l : List (Nat × α)} (a : Nat) (v : α) (h : keysAscend l) : keysAscend (aset l a v) := by
  induction l with
  | nil => simp [aset, keysAscend]
  | cons x l ih =>
    obtain ⟨j, w⟩ := x
    obtain ⟨hfirst, hrest⟩ := List.pairwise_cons.mp h
    rw [aset]
    split
    · next hlt =>
      refine List.pairwise_cons.mpr ⟨fun k hk => ?_, h⟩
      rcases List.mem_cons.mp hk with hk | hk
      · exact hk ▸ hlt
      · exact Nat.lt_trans hlt (hfirst k hk)
    · split
      · next hle heq =>
        subst heq
        exact h
      · next hle hne =>
        refine List.pairwise_cons.mpr ⟨fun k hk => ?_, ih hrest⟩
        rcases mem_keys_aset hk with hk | hk
        · have hlt : j < k := by omega
          exact hlt
        · exact hfirst k hk

theorem adel_sublist {α : Type} (l : List (Nat × α)) (a : Nat) : (adel l a).Sublist l := by
  induction l with
  | nil => exact .slnil
  | cons x l ih =>
    obtain ⟨j, w⟩ := x
    rw [adel]
    split
    · exact List.sublist_cons_self _ _
    · exact ih.cons_cons _

theorem keysAscend_adel {α : Type} {l : List (Nat × α)} (a : Nat) (h : keysAscend l) : keysAscend (adel l a) :=
  List.Pairwise.sublist ((adel_sublist l a).map _) h

theorem aget?_eq_none {α : Type} {l : List (Nat × α)} {a : Nat} (h : a ∉ l.map (·.1)) : aget? l a = none := by
  induction l with
  | nil => rfl
  | cons x l ih =>
    obtain ⟨j, w⟩ := x
    simp only [List.map_cons, List.mem_cons, not_or] at h
    rw [aget?, if_neg (Ne.symm h.1), ih h.2]

theorem aget?_adel {α : Type} {l : List (Nat × α)} (a b : Nat) (h : keysAscend l) : aget? (adel l a) b = if b = a then none else aget? l b := by
  induction l with
  | nil => simp [adel, aget?]
  | cons x l ih =>
    obtain ⟨j, w⟩ := x
    obtain ⟨hfirst, hrest⟩ := List.pairwise_cons.mp h
    rw [adel]
    by_cases hj : j = a
    · subst hj
      rw [if_pos rfl, aget?]
      by_cases hb : b = j
      · subst hb
        rw [if_pos rfl]
        exact aget?_eq_none fun hk => Nat.lt_irrefl _ (hfirst _ hk)
      · rw [if_neg hb, if_neg (Ne.symm hb)]
    · rw [if_neg hj, aget?, aget?, ih hrest]
      by_cases hb : b = a
      · rw [if_pos hb, if_pos hb, if_neg (hb ▸ hj)]
      · rw [if_neg hb, if_neg hb]

theorem aget?_adel_other {α : Type} (l : List (Nat × α)) {a b : Nat} (h : b ≠ a) : aget? (adel l a) b = aget? l b := by
  induction l with
  | nil => rfl
  | cons x l ih =>
    obtain ⟨j, w⟩ := x
    rw [adel]
    split
    · next hj => rw [aget?, if_neg fun hb => h (hb.symm.trans hj)]
    · rw [aget?, aget?, ih]

theorem Params.put_other (p : Params) {id j : Nat} (v : Word) (h : j ≠ id) : aget? (p.put id v).active j = aget? p.active j := by
  rw [Params.put]
  split
  · exact aget?_adel_other _ h
  · rw [aget?_aset, if_neg h]

/-- A value read back after it is written, as a parameter shows it. -/
theorem State.param_eq (s : State) (id : Nat) : s.param id = (aget? s.par.active id).elim (pDefault id) (·.toNat) := by
  unfold State.param
  cases aget? s.par.active id <;> rfl

theorem State.param_congr {s t : State} (h : t.par.active = s.par.active) (id : Nat) : t.param id = s.param id := by
  rw [State.param_eq, State.param_eq, h]

/-- A written value reads back, and every other one stays. -/
theorem Params.put_shown {p : Params} {id v : Nat} (hsort : keysAscend p.active) (hv : v < 2 ^ 32) (j : Nat) :
    (aget? (p.put id (Word.of v)).active j).elim (pDefault j) (·.toNat) = if j = id then v else (aget? p.active j).elim (pDefault j) (·.toNat) := by
  have hval : (Word.of v).toNat = v := by simpa using hv
  rw [Params.put]
  split
  · next hdef =>
    rw [hval] at hdef
    rw [aget?_adel id j hsort]
    split
    · next hj => simp [hj, hdef]
    · rfl
  · rw [aget?_aset]
    split
    · simpa using hv
    · rfl

theorem Params.put_ascends {p : Params} (id : Nat) (v : Word) (h : keysAscend p.active) : keysAscend (p.put id v).active := by
  rw [Params.put]
  split
  · exact keysAscend_adel id h
  · exact keysAscend_aset id v h

theorem State.setParam_param {s : State} {id v : Nat} (hsort : s.paramsSorted) (hv : v < 2 ^ 32) (j : Nat) :
    (s.setParam id v).param j = if j = id then v else s.param j := by
  rw [State.param_eq, State.param_eq]
  exact Params.put_shown hsort hv j

theorem State.setParam_sorted {s : State} (id v : Nat) (hsort : s.paramsSorted) : (s.setParam id v).paramsSorted :=
  Params.put_ascends id _ hsort

theorem leAt_lt (b : List Byte) (o n : Nat) : leAt b o n < 256 ^ n := by
  induction n generalizing o with
  | zero => simp [leAt]
  | succ n ih =>
    have hbyte : (byteAt b o).toNat < 256 := (byteAt b o).isLt
    have hrest := ih (o + 1)
    rw [leAt, Nat.pow_succ]
    omega

theorem le4_lt (b : List Byte) (o : Nat) : le4 b o < 2 ^ 32 := leAt_lt b o 4

end Sys2Proof.Machine
end

section
/-! CLAIM O22, O23. What PARAM_SET refuses and writes. -/

namespace Sys2Proof.Machine

theorem State.taken_setStatus (s : State) (i : Mb) (id v : Nat) : (s.taken i).setStatus id v = s.setStatus id v := by
  obtain ⟨b, w, h⟩ := s.taken_eq i
  rw [h]
  rfl

/-- The thresholds a multiple write would set do not depend on the mailboxes or the control window. -/
theorem State.withEnters_boxes (vs : List (Nat × Nat)) (s : State) (b : Boxes) (w : Window) :
    State.withEnters { s with box := b, win := w } vs = { s.withEnters vs with box := b, win := w } := by
  induction vs generalizing s with
  | nil => rfl
  | cons e vs ih =>
    simp only [State.withEnters, List.foldl_cons] at ih ⊢
    by_cases he : 0x1001 ≤ e.1 ∧ e.1 ≤ 0x1004
    · rw [if_pos he, if_pos he]
      exact ih (s.setParam e.1 e.2)
    · rw [if_neg he, if_neg he]
      exact ih s

theorem State.taken_firstBad (s : State) (i : Mb) (vs : List (Nat × Nat)) : (s.taken i).firstBad vs = s.firstBad vs := by
  obtain ⟨b, w, h⟩ := s.taken_eq i
  simp only [State.firstBad, h, State.withEnters_boxes]
  rfl

theorem exec_paramSet (i : Mb) (s : State) : exec (.paramSet i) s = s.serve i cmdParamSet (runParamSet i) := rfl

/-- A PARAM_SET that a check refuses answers its status and writes nothing (R143). -/
theorem paramSet_refused {i : Mb} {s : State} {st : Nat} (hserved : s.served i cmdParamSet = true)
    (hst : s.setStatus (le2 (s.reqBody i) 0) (le4 (s.reqBody i) 4) = st) (hno : st ≠ stOk) :
    exec (.paramSet i) s = (s.taken i).answered i st [] := by
  rw [exec_paramSet]
  refine State.serve_reply hserved ?_
  rw [← s.taken_setStatus i] at hst
  rw [runParamSet, hst]
  exact if_neg hno

/-- A PARAM_SET that passes its checks is written. -/
theorem paramSet_written {i : Mb} {s : State} (hserved : s.served i cmdParamSet = true)
    (hst : s.setStatus (le2 (s.reqBody i) 0) (le4 (s.reqBody i) 4) = stOk) :
    s.serve i cmdParamSet (runParamSet i) = ((s.taken i).writeParam (le2 (s.reqBody i) 0) (le4 (s.reqBody i) 4) i.num).answered i stOk [] := by
  refine State.serve_reply hserved ?_
  rw [← s.taken_setStatus i] at hst
  rw [runParamSet, hst]
  rfl

/-- Settles O22: each refusal is a value of `setStatus`, on which the command's row replies. -/
theorem parameterSetRefusals : Obligations.ParameterSetRefusals := by
  intro i id s hserved hid
  refine ⟨fun hc => ?_, fun hc => ?_, fun hc => ?_, fun c hc hcls hrange => ?_, fun hc hrange hrun => ?_⟩
  · exact paramSet_refused hserved (by simp [State.setStatus, hid, hc]) (by decide)
  · exact paramSet_refused hserved (by simp [State.setStatus, hid, hc]) (by decide)
  · exact paramSet_refused hserved (by simp [State.setStatus, hid, hc]) (by decide)
  · refine paramSet_refused hserved ?_ (by decide)
    rcases hcls with rfl | rfl | rfl
    all_goals simp [State.setStatus, hid, hc, hrange]
  · refine paramSet_refused hserved ?_ (by decide)
    have hsmall : ¬(0x1001 ≤ id ∧ id ≤ 0x1004) := by
      rintro ⟨hlo, hhi⟩
      have hl : pClass? 0x1001 ≠ some .s ∧ pClass? 0x1002 ≠ some .s ∧ pClass? 0x1003 ≠ some .s ∧ pClass? 0x1004 ≠ some .s := by decide
      obtain ⟨h1, h2, h3, h4⟩ := hl
      have hcases : id = 0x1001 ∨ id = 0x1002 ∨ id = 0x1003 ∨ id = 0x1004 := by omega
      rcases hcases with rfl | rfl | rfl | rfl
      · exact h1 hc
      · exact h2 hc
      · exact h3 hc
      · exact h4 hc
    have hpass : (!pInRange id (le4 (s.reqBody i) 4) || (decide (0x1001 ≤ id) && decide (id ≤ 0x1004) &&
        !enterAscends fun j => if j = id then le4 (s.reqBody i) 4 else s.param j)) = false := by
      rw [hrange]
      simp only [Bool.not_true, Bool.false_or, Bool.and_eq_false_iff, decide_eq_false_iff_not]
      exact .inl (by omega)
    rw [hid, State.setStatus, hc]
    dsimp only
    rw [hpass]
    simp [hrun]

/-- Where the values of classes F and S go: the shadow of their ID (R143, R160). -/
theorem State.writeParam_staged {s : State} {id : Nat} (v source : Nat) (hl : pClass? id ≠ some .l) :
    s.writeParam id v source = { s.customise id with par := { s.par with staged := aset s.par.staged id (Word.of v), applied := false } } := by
  rw [State.writeParam, if_neg hl]
  simp

/-- A class L write leaves its value in its own parameter (R143). -/
theorem State.writeParam_active {s : State} {id : Nat} (v source : Nat) (hl : pClass? id = some .l) (hplain : ¬ [0x1404, 0x1405, 0x0C07].contains id)
    (heye : id / 128 ≠ 0x4C00 / 128) : (s.writeParam id v source).par = (s.setParam id v).par := by
  have h1 : id ≠ 0x1405 := fun h => hplain (by simp [h])
  have h2 : id ≠ 0x1404 := fun h => hplain (by simp [h])
  have h3 : id ≠ 0x0C07 := fun h => hplain (by simp [h])
  have hset : ((s.customise id).setParam id v).par = (s.setParam id v).par := by simp [State.setParam]
  rw [State.writeParam, if_pos hl, State.writeL, if_neg h1, if_neg h2, if_neg h3, if_neg heye]
  dsimp only
  split
  · simpa using hset
  · split
    · simpa using hset
    · split
      · simpa using hset
      · split
        · exact hset
        · exact hset

/-- Values of classes F and S are staged in their order, and the active ones stay. -/
theorem State.writeAll_staged {vs : List (Nat × Nat)} (source : Nat) (s : State) (h : ∀ e ∈ vs, pClass? e.1 ≠ some .l) :
    (s.writeAll vs source).par.staged = vs.foldl (fun l e => aset l e.1 (Word.of e.2)) s.par.staged ∧
    (s.writeAll vs source).par.active = s.par.active := by
  induction vs generalizing s with
  | nil => exact ⟨rfl, rfl⟩
  | cons e vs ih =>
    obtain ⟨hst, hact⟩ := ih (s.writeParam e.1 e.2 source) fun x hx => h x (List.mem_cons_of_mem e hx)
    have hfirst := State.writeParam_staged (s := s) e.2 source (h e List.mem_cons_self)
    refine ⟨hst.trans ?_, hact.trans ?_⟩
    · rw [hfirst]
      rfl
    · rw [hfirst]

theorem exec_paramSetMulti (i : Mb) (s : State) : exec (.paramSetMulti i) s = s.serve i cmdParamSetMulti (runParamSetMulti i) := rfl

theorem paramSetMulti_refused {i : Mb} {s : State} {k st : Nat} (hserved : s.served i cmdParamSetMulti = true)
    (h : s.firstBad ((List.range (le2 (s.reqBody i) 0)).map fun k => (le2 (s.reqBody i) (4 + 6 * k), le4 (s.reqBody i) (6 + 6 * k))) = some (k, st)) :
    exec (.paramSetMulti i) s = (s.taken i).answered i st (toLe 2 k ++ zeros 2) := by
  rw [exec_paramSetMulti]
  refine State.serve_reply hserved ?_
  simp only [runParamSetMulti, State.taken_firstBad, h]

theorem State.takeFree_par (s : State) : s.takeFree.2.par = s.par := rfl

theorem paramSetMulti_written {i : Mb} {s : State} (hserved : s.served i cmdParamSetMulti = true)
    (h : s.firstBad ((List.range (le2 (s.reqBody i) 0)).map fun k => (le2 (s.reqBody i) (4 + 6 * k), le4 (s.reqBody i) (6 + 6 * k))) = none) :
    ∃ t n, exec (.paramSetMulti i) s = State.answered t i stOk (toLe 2 n ++ zeros 2) ∧ t.par = ((s.taken i).writeAll
      ((List.range (le2 (s.reqBody i) 0)).map fun k => (le2 (s.reqBody i) (4 + 6 * k), le4 (s.reqBody i) (6 + 6 * k))) i.num).par := by
  refine ⟨_, ((s.taken i).writeAll
    ((List.range (le2 (s.reqBody i) 0)).map fun k => (le2 (s.reqBody i) (4 + 6 * k), le4 (s.reqBody i) (6 + 6 * k))) i.num).takeFree.1.toNat, ?_,
    State.takeFree_par _⟩
  rw [exec_paramSetMulti]
  refine State.serve_reply hserved ?_
  simp only [runParamSetMulti, State.taken_firstBad, h]

/-- A served PARAM_SET of one of the clearing parameters is its own row (R455, R456, R521). -/
theorem serveSetOf_served {i : Mb} {id : Nat} (s : State) (h : le2 (s.reqBody i) 0 = id) :
    s.serveSetOf i id = s.serve i cmdParamSet (runParamSet i) := if_pos h

theorem serveSetOf_other {i : Mb} {id : Nat} {s : State} (h : le2 (s.reqBody i) 0 ≠ id) : s.serveSetOf i id = .next s := if_neg h

theorem clearing_passes (s : State) {id : Nat} (h : id = 0x1405 ∨ id = 0x1404 ∨ id = 0x0C07) : s.setStatus id 1 = stOk ∧ s.customise id = s ∧
    pClass? id = some .l := by
  have hclass : pClass? 0x1405 = some .l ∧ pClass? 0x1404 = some .l ∧ pClass? 0x0C07 = some .l := by decide
  have hrange : pInRange 0x1405 1 = true ∧ pInRange 0x1404 1 = true ∧ pInRange 0x0C07 1 = true := by decide
  obtain ⟨hc1, hc2, hc3⟩ := hclass
  obtain ⟨hr1, hr2, hr3⟩ := hrange
  rcases h with rfl | rfl | rfl
  · exact ⟨by simp [State.setStatus, hc1, hr1], rfl, hc1⟩
  · exact ⟨by simp [State.setStatus, hc2, hr2], rfl, hc2⟩
  · exact ⟨by simp [State.setStatus, hc3, hr3], rfl, hc3⟩

/-- With no severity filtered an entry joins the log (R454). -/
theorem State.addLog_log {s : State} (e : LogEntry) (hmin : s.param 0x1403 = 0) : (s.addLog e).log = s.log.push e := by
  rw [State.addLog, if_neg (by omega)]
  simp

/-- An emptied log opens with the entry that says so (R455, R457). -/
theorem State.logClear_log {s : State} (source : Nat) (hmin : s.param 0x1403 = 0) :
    (s.logClear source).log = TroubleLog.push { s.log with ring := [], lost := 0 } (s.entry 0x1500 .info false source s.log.ring.length) :=
  State.addLog_log (s := { s with log := { s.log with ring := [], lost := 0 } }) _ hmin

theorem State.entry_info_sev (s : State) (code source data : Nat) : (s.entry code .info false source data).sev = 0 := by
  cases h : s.boot.limp <;> simp [State.entry, LogEntry.sev, Severity.code, h, b2n]

theorem State.logClear_shows {s : State} (source : Nat) (hmin : s.param 0x1403 = 0) :
    (s.logClear source).log.ring.map (·.code) = [0x1500] ∧
    (s.logClear source).log.ring.map (·.data.toNat) = [s.log.ring.length % 2 ^ 32] ∧ (s.logClear source).log.lost = 0 ∧
    (s.logClear source).log.first = s.log.first ∧ (s.logClear source).par = s.par := by
  have hsev := s.entry_info_sev 0x1500 source s.log.ring.length
  rw [State.logClear_log source hmin]
  refine ⟨rfl, ?_, rfl, ?_, by simp⟩
  · simp [TroubleLog.push, State.entry]
  · simp [TroubleLog.push, hsev]

/-- Every residency count returns to 0 (R521). -/
theorem State.resClear_dom (s : State) (d : Fin 19) : s.resClear.pwr.dom[d] = { s.pwr.dom[d] with resOn := 0, resRet := 0, resOff := 0 } := by
  simp [State.resClear]

theorem State.resClear_par {s : State} : s.resClear.par = s.par := rfl

theorem State.taken_log (s : State) (i : Mb) : (s.taken i).log = s.log := by
  obtain ⟨b, w, h⟩ := s.taken_eq i
  rw [h]

theorem State.taken_pwr (s : State) (i : Mb) : (s.taken i).pwr = s.pwr := by
  obtain ⟨b, w, h⟩ := s.taken_eq i
  rw [h]

/-- A PARAM_SET of classes F and S (R143, R160). -/
theorem paramSet_stages {i : Mb} {s : State} {id v : Nat} (hserved : s.served i cmdParamSet = true) (hid : le2 (s.reqBody i) 0 = id)
    (hv : le4 (s.reqBody i) 4 = v) (hl : pClass? id ≠ some .l) (hst : s.setStatus id v = stOk) :
    ∃ t : State, exec (.paramSet i) s = t.answered i stOk [] ∧ aget? t.par.staged id = some (Word.of v) ∧ t.par.applied = false ∧
      (∀ j, j ≠ id → aget? t.par.staged j = aget? s.par.staged j) ∧ t.par.active = s.par.active ∧ t.par.waiting = s.par.waiting ∧
      t.mem = s.mem ∧ t.nv = s.nv ∧ t.ras = s.ras ∧ t.tab = s.tab ∧ t.pwr = s.pwr := by
  have hgo := paramSet_written hserved (by rw [hid, hv]; exact hst)
  rw [hid, hv, State.writeParam_staged v i.num hl] at hgo
  obtain ⟨b, w, htaken⟩ := s.taken_eq i
  refine ⟨_, hgo, ?_, rfl, fun j hj => ?_, ?_, ?_, ?_, ?_, ?_, ?_, ?_⟩
  · simp [aget?_aset]
  · simp [aget?_aset, hj]
  all_goals simp [htaken]

/-- A PARAM_SET of class L (R143). -/
theorem paramSet_acts {i : Mb} {s : State} {id v : Nat} (hserved : s.served i cmdParamSet = true) (hid : le2 (s.reqBody i) 0 = id)
    (hv : le4 (s.reqBody i) 4 = v) (hl : pClass? id = some .l) (hplain : ¬ [0x1404, 0x1405, 0x0C07].contains id)
    (heye : id / 128 ≠ 0x4C00 / 128) (hst : s.setStatus id v = stOk) (hsort : s.paramsSorted) :
    ∃ t : State, exec (.paramSet i) s = t.answered i stOk [] ∧ t.param id = v ∧ (∀ j, j ≠ id → t.param j = s.param j) ∧
      t.par.staged = s.par.staged ∧ t.paramsSorted ∧ t.mem.cells = s.mem.cells ∧ t.nv = s.nv ∧ t.ras = s.ras := by
  have hgo := paramSet_written hserved (by rw [hid, hv]; exact hst)
  rw [hid, hv] at hgo
  obtain ⟨b, w, htaken⟩ := s.taken_eq i
  have hpar : ((s.taken i).writeParam id v i.num).par = (s.setParam id v).par := by
    rw [State.writeParam_active v i.num hl hplain heye, htaken]
    rfl
  have hshown (j : Nat) : ((s.taken i).writeParam id v i.num).param j = if j = id then v else s.param j := by
    rw [State.param_congr (congrArg Params.active hpar), State.setParam_param hsort (hv ▸ le4_lt _ _)]
  refine ⟨_, hgo, ?_, fun j hj => ?_, ?_, ?_, ?_, ?_, ?_⟩
  · rw [hshown, if_pos rfl]
  · rw [hshown, if_neg hj]
  · rw [hpar]
    rfl
  · rw [State.paramsSorted, hpar]
    exact State.setParam_sorted id v hsort
  all_goals simp [htaken]

/-- A PARAM_SET of a clearing parameter with 1. -/
theorem clearing_written {i : Mb} {s : State} {id : Nat} (hserved : s.served i cmdParamSet = true) (hid : le2 (s.reqBody i) 0 = id)
    (hv : le4 (s.reqBody i) 4 = 1) (h : id = 0x1405 ∨ id = 0x1404 ∨ id = 0x0C07) :
    s.serveSetOf i id = ((s.taken i).writeL id 1 i.num).answered i stOk [] := by
  obtain ⟨hst, hcust, hl⟩ := clearing_passes s h
  obtain ⟨_, hcust', _⟩ := clearing_passes (s.taken i) h
  rw [serveSetOf_served s hid, paramSet_written hserved (by rw [hid, hv]; exact hst), hid, hv, State.writeParam, if_pos hl, hcust']

theorem exec_logClear (i : Mb) (s : State) : exec (.logClear i) s = s.serveSetOf i 0x1405 := rfl

theorem exec_logFirstFaultClear (i : Mb) (s : State) : exec (.logFirstFaultClear i) s = s.serveSetOf i 0x1404 := rfl

theorem exec_pwrResClear (i : Mb) (s : State) : exec (.pwrResClear i) s = s.serveSetOf i 0x0C07 := rfl

theorem State.writeL_logClear (s : State) (source : Nat) : s.writeL 0x1405 1 source = s.logClear source := rfl

theorem State.writeL_firstFaultClear (s : State) (source : Nat) : s.writeL 0x1404 1 source = s.firstFaultClear := rfl

theorem State.writeL_resClear (s : State) (source : Nat) : s.writeL 0x0C07 1 source = s.resClear := rfl

/-- Settles O23 (log entries 22 and 23): writing one value has one rule per class; the entries of a multiple write follow by induction. -/
theorem parameterSetWritesOrClears : Obligations.ParameterSetWritesOrClears := by
  refine ⟨⟨?staged, ?active, ?multi⟩, ?log, ?first, ?residency, ?other⟩
  case staged =>
    intro i id v c s hserved hid hv hc hcls hst
    have hl : pClass? id ≠ some .l := by rcases hcls with rfl | rfl <;> simp [hc]
    exact paramSet_stages hserved hid hv hl hst
  case active =>
    intro i id v s hserved hid hv hl hplain heye hst hsort
    exact paramSet_acts hserved hid hv hl hplain heye hst hsort
  case multi =>
    intro i vs s hserved hvs
    subst hvs
    refine ⟨fun k st hbad => paramSetMulti_refused hserved hbad, fun hgood hcls => ?_⟩
    obtain ⟨t, n, hgo, hpar⟩ := paramSetMulti_written hserved hgood
    obtain ⟨hstaged, hactive⟩ := State.writeAll_staged i.num (s.taken i) fun e he => by rcases hcls e he with h | h <;> simp [h]
    refine ⟨t, n, hgo, ?_, ?_⟩
    · rw [hpar, hstaged, State.taken_par]
    · rw [hpar, hactive, State.taken_par]
  case log =>
    intro i s hserved hid hv hmin
    obtain ⟨hcode, hdata, hlost, hfirst, hpar⟩ := State.logClear_shows (s := s.taken i) i.num
      (by rw [State.param_congr (congrArg Params.active (s.taken_par i))]; exact hmin)
    rw [State.taken_log] at hdata hfirst
    have hgo : exec (.logClear i) s = ((s.taken i).logClear i.num).answered i stOk [] := by
      rw [exec_logClear, clearing_written hserved hid hv (.inl rfl), State.writeL_logClear]
    exact ⟨_, hgo, hcode, hdata, hlost, hfirst, hpar.trans (s.taken_par i)⟩
  case first =>
    intro i s hserved hid hv
    rw [exec_logFirstFaultClear, clearing_written hserved hid hv (.inr (.inl rfl)), State.writeL_firstFaultClear, State.firstFaultClear,
      State.taken_log]
  case residency =>
    intro i s hserved hid hv
    have hgo : exec (.pwrResClear i) s = (s.taken i).resClear.answered i stOk [] := by
      rw [exec_pwrResClear, clearing_written hserved hid hv (.inr (.inr rfl)), State.writeL_resClear]
    refine ⟨_, hgo, State.resClear_par.trans (s.taken_par i), fun d => ?_⟩
    rw [State.resClear_dom (s.taken i) d, State.taken_pwr]
  case other =>
    intro i s
    exact ⟨fun h => (exec_logClear i s).trans (serveSetOf_other h), fun h => (exec_logFirstFaultClear i s).trans (serveSetOf_other h),
      fun h => (exec_pwrResClear i s).trans (serveSetOf_other h)⟩

end Sys2Proof.Machine
end

section
/-! CLAIM O25, O27. A COMMIT that waits for its frame, and PROFILE_APPLY. -/

namespace Sys2Proof.Machine

/-! ## COMMIT while frames run -/

/-- A commit that changes no timing waits for its frame, unless that is an armed epoch's (R152, R158). -/
theorem State.commit_of_running {s : State} (hrun : s.framesRun = true) (hset : s.failingSet true false s.stagedF = none)
    (htim : s.changesTiming s.stagedF = false) (hmode : s.param 0x2800 ≠ 2) (harm : s.armedFrame = none) :
    s.commit = ⟨if s.beforeDeadline then stOk else stDeferred, (s.ras.frame + BitVec.ofNat 32 s.ahead).toNat, 0,
      s.commitWait s.stagedF (s.ras.frame + BitVec.ofNat 32 s.ahead) false⟩ := by
  simp [State.commit, hset, htim, hrun, hmode, harm]

theorem State.commitWait_par (s : State) (vs : List (Nat × Word)) (target : BitVec 32) (tr : Bool) :
    (s.commitWait vs target tr).par =
      { s.par with staged := dropF s.par.staged, waiting := s.par.waiting ++ [⟨target, vs, tr⟩], lastTarget := target, applied := false } := by
  unfold State.commitWait
  dsimp only
  split
  · simp
  · rfl

theorem CommitResult.reply_of_waits {status target set : Nat} (h : status = stOk ∨ status = stDeferred) (t s : State) :
    CommitResult.reply ⟨status, target, set, t⟩ s = .reply status (commitResp target 0) t := by
  rcases h with rfl | rfl
  all_goals rfl

theorem State.taken_ahead (s : State) (i : Mb) : (s.taken i).ahead = s.ahead := by
  obtain ⟨b, w, h⟩ := s.taken_eq i
  rw [h]
  rfl

theorem State.taken_beforeDeadline (s : State) (i : Mb) : (s.taken i).beforeDeadline = s.beforeDeadline := by
  obtain ⟨b, w, h⟩ := s.taken_eq i
  rw [h]
  rfl

theorem State.taken_armedFrame (s : State) (i : Mb) : (s.taken i).armedFrame = s.armedFrame := by
  obtain ⟨b, w, h⟩ := s.taken_eq i
  rw [h]
  rfl

theorem State.taken_param (s : State) (i : Mb) (id : Nat) : (s.taken i).param id = s.param id :=
  State.param_congr (congrArg Params.active (s.taken_par i)) id

/-- Settles O25: a commit of the running raster waits, on the state that taking the request leaves. -/
theorem commitWaitsForItsFrame : Obligations.CommitWaitsForItsFrame := by
  intro i s hserved hrun hset htim hmode harm
  have hcommit := State.commit_of_running (s := s.taken i) (by simpa using hrun) (by simpa using hset) (by simpa using htim)
    (by rw [State.taken_param]; exact hmode) (by rw [State.taken_armedFrame]; exact harm)
  have hpar := State.commitWait_par (s.taken i) (s.taken i).stagedF ((s.taken i).ras.frame + BitVec.ofNat 32 (s.taken i).ahead) false
  rw [State.taken_ahead, State.taken_beforeDeadline, State.taken_ras, State.taken_stagedF] at hcommit
  rw [State.taken_ahead, State.taken_ras, State.taken_stagedF, State.taken_par] at hpar
  have hstatus : (if s.beforeDeadline then stOk else stDeferred) = stOk ∨ (if s.beforeDeadline then stOk else stDeferred) = stDeferred := by
    cases s.beforeDeadline
    · exact .inr rfl
    · exact .inl rfl
  refine ⟨(s.taken i).commitWait s.stagedF (s.ras.frame + BitVec.ofNat 32 s.ahead) false, ?_, ?_⟩
  · rw [exec_commit]
    exact State.serve_reply hserved (by rw [hcommit, CommitResult.reply_of_waits hstatus])
  · rw [hpar]
    exact ⟨rfl, rfl, rfl, rfl, rfl, rfl⟩

/-! ## Values that become active together -/

theorem mem_keys_iff {α : Type} {l : List (Nat × α)} {k : Nat} : k ∈ l.map (·.1) ↔ aget? l k ≠ none := by
  induction l with
  | nil => simp [aget?]
  | cons x l ih =>
    obtain ⟨j, w⟩ := x
    simp only [List.map_cons, List.mem_cons, aget?]
    by_cases hj : j = k
    · simp [hj]
    · rw [if_neg hj, ← ih]
      exact or_iff_right (Ne.symm hj)

theorem any_keys {α : Type} (l : List (Nat × α)) (p : Nat → Bool) : (l.any fun t => p t.1) = (l.map (·.1)).any p := by
  simp [List.any_map, Function.comp_def]

/-- No agreement set looks at TIM.CONTINUITY_DELAY, the class L value of a profile (R138, R148). -/
theorem setRule_congr {s t : State} {v w : Nat → Nat} {k : Nat} (tab : Bool) (htab : t.tab = s.tab) (h : ∀ j, j ≠ 0x280A → v j = w j)
    (hk : k ∈ (List.range 13).map (· + 1)) : t.setRule tab v k = s.setRule tab w k := by
  have htable (id : Nat) : t.table id = s.table id := State.table_congr htab id
  have hvalids : t.tableValid = s.tableValid := funext (State.tableValid_congr htab)
  have hod : ((List.range 4).map fun i => signed 32 (v (0x3808 + i))) = (List.range 4).map fun i => signed 32 (w (0x3808 + i)) :=
    List.map_congr_left fun i _ => by rw [h _ (by omega)]
  have hsel (half : Nat) : selUnique v half = selUnique w half := by
    have hfs : ((List.range 16).map fun i => v (0x4401 + 16 * half + i) % 256) = (List.range 16).map fun i => w (0x4401 + 16 * half + i) % 256 :=
      List.map_congr_left fun i _ => by rw [h _ (by omega)]
    simp only [selUnique, hfs]
  simp only [List.range_succ, List.range_zero, List.nil_append, List.cons_append, List.map_cons, List.map_nil, List.mem_cons, List.not_mem_nil,
    or_false] at hk
  rcases hk with rfl | rfl | rfl | rfl | rfl | rfl | rfl | rfl | rfl | rfl | rfl | rfl | rfl
  all_goals simp only [State.setRule, htable, hvalids, hod, hsel, h, ne_eq, Nat.reduceEqDiff, not_false_eq_true, Nat.reduceAdd, Nat.reduceMul,
    Nat.reduceSub]

theorem setReads_delay : ∀ k ∈ (List.range 13).map (· + 1), ((setReads k).1.contains 0x280A || (setReads k).2.contains 0x280A) = false := by
  decide

theorem any_keys_congr {vs ws : List (Nat × Word)} {p : Nat → Bool} (hp : p 0x280A = false)
    (h : ∀ j, j ≠ 0x280A → (aget? vs j ≠ none ↔ aget? ws j ≠ none)) : (vs.any fun e => p e.1) = ws.any fun e => p e.1 := by
  have hkey (j : Nat) : (j ∈ vs.map (·.1) ∧ p j = true) ↔ j ∈ ws.map (·.1) ∧ p j = true := by
    by_cases hj : j = 0x280A
    · simp [hj, hp]
    · rw [mem_keys_iff, mem_keys_iff, h j hj]
  rw [any_keys, any_keys, Bool.eq_iff_iff, List.any_eq_true, List.any_eq_true]
  exact exists_congr hkey

/-- A search finds the same entry by two tests that agree on the list. -/
theorem find?_agrees {α : Type} {p q : α → Bool} {l : List α} (h : ∀ a ∈ l, p a = q a) : l.find? p = l.find? q := by
  induction l with
  | nil => rfl
  | cons a l ih => rw [List.find?_cons, List.find?_cons, h a List.mem_cons_self, ih fun b hb => h b (List.mem_cons_of_mem a hb)]

/-- The agreement sets see values laid over the active ones by what each parameter then reads. -/
theorem State.failingSet_congr {s t : State} {vs ws : List (Nat × Word)} (htab : t.tab = s.tab)
    (hover : ∀ j, j ≠ 0x280A → t.over vs j = s.over ws j) (hkeys : ∀ j, j ≠ 0x280A → (aget? vs j ≠ none ↔ aget? ws j ≠ none)) (tab every : Bool) :
    t.failingSet tab every vs = s.failingSet tab every ws := by
  refine find?_agrees fun k hk => ?_
  have hany := any_keys_congr (p := fun j => (setReads k).1.contains j || (setReads k).2.contains j) (setReads_delay k hk) hkeys
  dsimp only at hany ⊢
  rw [hany, setRule_congr _ htab hover hk]

/-- What a parameter reads after values have become active. -/
theorem puts_shown {vs : List (Nat × Word)} (hnd : (vs.map (·.1)).Nodup) {p : Params} (hsort : keysAscend p.active) (j : Nat) :
    (aget? (vs.foldl (fun p v => p.put v.1 v.2) p).active j).elim (pDefault j) (·.toNat) =
      (aget? vs j).elim ((aget? p.active j).elim (pDefault j) (·.toNat)) (·.toNat) := by
  induction vs generalizing p with
  | nil => rfl
  | cons e vs ih =>
    obtain ⟨a, w⟩ := e
    obtain ⟨hfirst, hrest⟩ := List.nodup_cons.mp hnd
    have hput := Params.put_shown (id := a) (v := w.toNat) hsort w.isLt j
    have hword : Word.of w.toNat = w := by simp
    rw [hword] at hput
    rw [List.foldl_cons, ih hrest (Params.put_ascends a w hsort), hput, aget?]
    by_cases hj : a = j
    · subst hj
      rw [if_pos rfl, if_pos rfl, aget?_eq_none hfirst]
      rfl
    · rw [if_neg hj, if_neg (Ne.symm hj)]

theorem puts_other {vs : List (Nat × Word)} {j : Nat} (h : ∀ e ∈ vs, e.1 ≠ j) (p : Params) :
    aget? (vs.foldl (fun p v => p.put v.1 v.2) p).active j = aget? p.active j := by
  induction vs generalizing p with
  | nil => rfl
  | cons e vs ih =>
    rw [List.foldl_cons, ih fun x hx => h x (List.mem_cons_of_mem e hx)]
    exact Params.put_other p e.2 (Ne.symm (h e List.mem_cons_self))

theorem puts_ascend (vs : List (Nat × Word)) {p : Params} (h : keysAscend p.active) : keysAscend (vs.foldl (fun p v => p.put v.1 v.2) p).active := by
  induction vs generalizing p with
  | nil => exact h
  | cons e vs ih => exact ih (Params.put_ascends e.1 e.2 h)

/-- What is staged after values are staged in order. -/
theorem aget?_stages {vs : List (Nat × Nat)} (hnd : (vs.map (·.1)).Nodup) (l : List (Nat × Word)) (j : Nat) :
    aget? (vs.foldl (fun l e => aset l e.1 (Word.of e.2)) l) j = (aget? (vs.map fun v => (v.1, Word.of v.2)) j).or (aget? l j) := by
  induction vs generalizing l with
  | nil => rfl
  | cons e vs ih =>
    obtain ⟨a, v⟩ := e
    obtain ⟨hfirst, hrest⟩ := List.nodup_cons.mp hnd
    rw [List.foldl_cons, ih hrest, List.map_cons, aget?, aget?_aset]
    by_cases hj : a = j
    · subst hj
      have hnone : aget? (vs.map fun v => (v.1, Word.of v.2)) a = none := aget?_eq_none (by simpa using hfirst)
      rw [hnone, if_pos rfl, if_pos rfl]
      rfl
    · rw [if_neg hj, if_neg (Ne.symm hj)]

theorem aget?_of_mem {α β : Type} {vs : List (Nat × α)} (hnd : (vs.map (·.1)).Nodup) (g : α → β) {e : Nat × α} (he : e ∈ vs) :
    aget? (vs.map fun v => (v.1, g v.2)) e.1 = some (g e.2) := by
  induction vs with
  | nil => simp at he
  | cons x vs ih =>
    obtain ⟨hfirst, hrest⟩ := List.nodup_cons.mp hnd
    rw [List.map_cons, aget?]
    rcases List.mem_cons.mp he with rfl | hin
    · rw [if_pos rfl]
    · rw [if_neg fun h => hfirst (List.mem_map.mpr ⟨e, hin, h.symm⟩), ih hrest hin]

theorem stages_ascend (vs : List (Nat × Nat)) {l : List (Nat × Word)} (h : keysAscend l) :
    keysAscend (vs.foldl (fun l e => aset l e.1 (Word.of e.2)) l) := by
  induction vs generalizing l with
  | nil => exact h
  | cons e vs ih => exact ih (keysAscend_aset e.1 _ h)

theorem keysAscend.nodup {α : Type} {l : List (Nat × α)} (h : keysAscend l) : (l.map (·.1)).Nodup :=
  List.Pairwise.imp (fun hlt => Nat.ne_of_lt hlt) h

theorem mem_of_aget? {α : Type} {l : List (Nat × α)} {k : Nat} {v : α} (h : aget? l k = some v) : (k, v) ∈ l := by
  induction l with
  | nil => simp [aget?] at h
  | cons x l ih =>
    obtain ⟨j, w⟩ := x
    rw [aget?] at h
    split at h
    · next hj =>
      obtain rfl := Option.some.inj h
      exact hj ▸ List.mem_cons_self
    · exact List.mem_cons_of_mem _ (ih h)

/-! ## PROFILE_APPLY -/

/-- The profiles of the catalogue write class F values, each once, and TIM.CONTINUITY_DELAY, which is of class L (R138). -/
theorem catalogueValues_facts {f : Func} {n : Nat} {vs : List (Nat × Nat)} (h : catalogueValues f n = some vs) :
    (∀ e ∈ vs, e.1 = 0x280A ∧ pClass? e.1 = some .l ∨ e.1 ≠ 0x280A ∧ pClass? e.1 = some .f) ∧ (vs.map (·.1)).Nodup ∧ ∀ e ∈ vs, e.2 < 2 ^ 32 := by
  have hclass : ∀ id ∈ [0x3801, 0x3802, 0x3803, 0x3804, 0x3C00, 0x3C01, 0x3C02, 0x3408, 0x2809, 0x280A, 0x280B, 0x280C],
      id = 0x280A ∧ pClass? id = some .l ∨ id ≠ 0x280A ∧ pClass? id = some .f := by decide
  unfold catalogueValues at h
  split at h
  case h_12 => nomatch h
  all_goals
    obtain rfl := Option.some.inj h
    refine ⟨fun e he => hclass e.1 ?_, by decide, by decide⟩
    revert e
    decide

/-- Whether a value of a profile is staged, not written at once. -/
def staysStaged (e : Nat × Nat) : Bool := e.1 != 0x280A

/-- What writing a profile's values stages and what it makes active at once (R138, R143). -/
theorem State.writeAll_profile {vs : List (Nat × Nat)} (source : Nat) (s : State)
    (h : ∀ e ∈ vs, e.1 = 0x280A ∧ pClass? e.1 = some .l ∨ e.1 ≠ 0x280A ∧ pClass? e.1 = some .f) :
    (s.writeAll vs source).par.staged = (vs.filter staysStaged).foldl (fun l e => aset l e.1 (Word.of e.2)) s.par.staged ∧
    (s.writeAll vs source).par.active = (((vs.filter fun e => !staysStaged e).map fun e => (e.1, Word.of e.2)).foldl (fun p e => p.put e.1 e.2) s.par).active ∧
    (s.writeAll vs source).par.waiting = s.par.waiting ∧ (s.writeAll vs source).tab = s.tab ∧ (s.writeAll vs source).ras = s.ras ∧
    (s.writeAll vs source).boot = s.boot := by
  induction vs generalizing s with
  | nil => exact ⟨rfl, rfl, rfl, rfl, rfl, rfl⟩
  | cons e vs ih =>
    obtain ⟨hst, hact, hwait, htab, hras, hboot⟩ := ih (s.writeParam e.1 e.2 source) fun x hx => h x (List.mem_cons_of_mem e hx)
    have hgo : s.writeAll (e :: vs) source = (s.writeParam e.1 e.2 source).writeAll vs source := rfl
    have hputs (p q : Params) (hpq : p.active = q.active) :
        (((vs.filter fun e => !staysStaged e).map fun e => (e.1, Word.of e.2)).foldl (fun p e => p.put e.1 e.2) p).active =
          (((vs.filter fun e => !staysStaged e).map fun e => (e.1, Word.of e.2)).foldl (fun p e => p.put e.1 e.2) q).active := by
      rw [Params.foldl_put _ hpq]
    rw [hgo]
    rcases h e List.mem_cons_self with ⟨hid, hl⟩ | ⟨hid, hf⟩
    · have hpar := State.writeParam_active (s := s) e.2 source hl (by rw [hid]; decide) (by rw [hid]; decide)
      have hkept : staysStaged e = false := by simp [staysStaged, hid]
      refine ⟨?_, ?_, ?_, htab.trans (by simp), hras.trans (by simp), hboot.trans (by simp)⟩
      · rw [hst, hpar, List.filter_cons_of_neg (by simp [hkept])]
        rfl
      · rw [hact, List.filter_cons_of_pos (by simp [hkept]), List.map_cons, List.foldl_cons]
        exact hputs _ _ (congrArg Params.active hpar)
      · rw [hwait, hpar]
        rfl
    · have hfirst := State.writeParam_staged (s := s) e.2 source (by simp [hf] : pClass? e.1 ≠ some .l)
      have hkept : staysStaged e = true := by simp [staysStaged, hid]
      refine ⟨?_, ?_, ?_, htab.trans (by simp), hras.trans (by simp), hboot.trans (by simp)⟩
      · rw [hst, hfirst, List.filter_cons_of_pos hkept]
        rfl
      · rw [hact, List.filter_cons_of_neg (by simp [hkept])]
        exact hputs _ _ (by rw [hfirst])
      · rw [hwait, hfirst]

theorem filter_stages {vs : List (Nat × Nat)} (hnd : (vs.map (·.1)).Nodup) (hcls : ∀ e ∈ vs, pClass? e.1 = some .f) :
    (vs.foldl (fun l e => aset l e.1 (Word.of e.2)) []).filter (fun v : Nat × Word => pClass? v.1 == some .f) =
      vs.foldl (fun l e => aset l e.1 (Word.of e.2)) [] := by
  refine List.filter_eq_self.mpr fun e he => ?_
  have hkey : e.1 ∈ (vs.foldl (fun l e => aset l e.1 (Word.of e.2)) []).map (·.1) := List.mem_map.mpr ⟨e, he, rfl⟩
  rw [mem_keys_iff, aget?_stages hnd, aget?, Option.or_none, ← mem_keys_iff] at hkey
  simp only [List.map_map, Function.comp_def] at hkey
  obtain ⟨x, hx, hxe⟩ := List.mem_map.mp hkey
  rw [← hxe, hcls x hx]
  decide

theorem nodup_filter_keys {vs : List (Nat × Nat)} (h : (vs.map (·.1)).Nodup) (p : Nat × Nat → Bool) : ((vs.filter p).map (·.1)).Nodup :=
  h.sublist ((List.filter_sublist).map _)

theorem aget?_none_of_filter {vs : List (Nat × Nat)} {j : Nat} (p : Nat × Nat → Bool) (h : ∀ e ∈ vs, e.1 = j → p e = false) :
    aget? ((vs.filter p).map fun v => (v.1, Word.of v.2)) j = none := by
  refine aget?_eq_none fun hj => ?_
  simp only [List.map_map, Function.comp_def] at hj
  obtain ⟨x, hx, hxj⟩ := List.mem_map.mp hj
  obtain ⟨hin, hp⟩ := List.mem_filter.mp hx
  rw [h x hin hxj] at hp
  exact absurd hp (by decide)

/-- Values other than TIM.CONTINUITY_DELAY are found among the staged ones as among all. -/
theorem aget?_filter_staged (vs : List (Nat × Nat)) {j : Nat} (hj : j ≠ 0x280A) :
    aget? ((vs.filter staysStaged).map fun v => (v.1, Word.of v.2)) j = aget? (vs.map fun v => (v.1, Word.of v.2)) j := by
  induction vs with
  | nil => rfl
  | cons e vs ih =>
    by_cases he : staysStaged e = true
    · rw [List.filter_cons_of_pos he, List.map_cons, List.map_cons, aget?, aget?, ih]
    · have hid : e.1 ≠ j := fun h => he (by simp [staysStaged, h, hj])
      rw [List.filter_cons_of_neg he, List.map_cons, aget?, if_neg hid, ih]

/-- What committing a profile's values on a stopped raster leaves. -/
theorem profile_committed {vs : List (Nat × Nat)} {f : Func} {n : Nat} {s : State} (source : Nat) (hcat : catalogueValues f n = some vs)
    (hstop : s.framesRun = false) (hstaged : s.par.staged = []) (hfol : s.isFollower = false)
    (hset : s.failingSet true false (vs.map fun v => (v.1, Word.of v.2)) = none) :
    ∃ u : State, (s.writeAll vs source).commit = ⟨stOk, (s.ras.frame + 1).toNat, 0, u⟩ ∧ (s.paramsSorted → ∀ v ∈ vs, u.param v.1 = v.2) := by
  obtain ⟨hcls, hnd, hsmall⟩ := catalogueValues_facts hcat
  obtain ⟨hst, hact, hwait, htab, hras, hboot⟩ := State.writeAll_profile source s hcls
  rw [hstaged] at hst
  have hF : (s.writeAll vs source).stagedF = (vs.filter staysStaged).foldl (fun l e => aset l e.1 (Word.of e.2)) [] := by
    rw [State.stagedF, hst]
    refine filter_stages (nodup_filter_keys hnd _) fun e he => ?_
    obtain ⟨hin, hp⟩ := List.mem_filter.mp he
    rcases hcls e hin with ⟨hid, _⟩ | ⟨_, hf⟩
    · simp [staysStaged, hid] at hp
    · exact hf
  have hlook (j : Nat) (hj : j ≠ 0x280A) : aget? ((vs.filter staysStaged).foldl (fun l e => aset l e.1 (Word.of e.2)) []) j =
      aget? (vs.map fun v => (v.1, Word.of v.2)) j := by
    rw [aget?_stages (nodup_filter_keys hnd _), aget?, Option.or_none, aget?_filter_staged vs hj]
  have hdelay : ∀ e ∈ (vs.filter fun e => !staysStaged e).map fun e => (e.1, Word.of e.2), e.1 = 0x280A := by
    intro e he
    obtain ⟨x, hx, rfl⟩ := List.mem_map.mp he
    simpa [staysStaged] using (List.mem_filter.mp hx).2
  have hparam (j : Nat) (hj : j ≠ 0x280A) : (s.writeAll vs source).param j = s.param j := by
    rw [State.param_eq, State.param_eq, hact, puts_other fun e he h => hj (h.symm.trans (hdelay e he))]
  have hfollow : (s.writeAll vs source).isFollower = false := by
    rw [← hfol, State.isFollower, State.isFollower, hparam _ (by decide), hboot]
  have hsets : (s.writeAll vs source).failingSet true false (s.writeAll vs source).stagedF = none := by
    rw [hF, State.failingSet_congr htab (s := s) (ws := vs.map fun v => (v.1, Word.of v.2)) (fun j hj => ?_) fun j hj => by rw [hlook j hj]]
    · exact hset
    · rw [State.over, State.over, hlook j hj, State.soon, State.soon, State.waitVal?, State.waitVal?, hwait, hparam j hj]
  have hrun : (s.writeAll vs source).framesRun = false := by
    rw [← hstop, State.framesRun, State.framesRun, hras]
  refine ⟨(s.writeAll vs source).committed, ?_, fun hsort v hv => ?_⟩
  · rw [State.commit_of_stopped hrun hsets (by simp [hfollow]), hras]
  · have hval : (Word.of v.2).toNat = v.2 := by simpa using hsmall v hv
    have hasc : keysAscend (s.writeAll vs source).par.active := by
      rw [hact]
      exact puts_ascend _ hsort
    rw [State.param_eq, State.committed_par, hF]
    dsimp only
    rw [puts_shown (stages_ascend _ (l := []) List.Pairwise.nil).nodup hasc]
    by_cases hid : v.1 = 0x280A
    · have hnone := aget?_none_of_filter (vs := vs) (j := v.1) staysStaged fun e _ he => by simp [staysStaged, he, hid]
      have hsome := aget?_of_mem (nodup_filter_keys hnd fun e => !staysStaged e) Word.of
        (List.mem_filter.mpr ⟨hv, by simp [staysStaged, hid]⟩ : v ∈ vs.filter fun e => !staysStaged e)
      rw [aget?_stages (nodup_filter_keys hnd _), hnone, hact, puts_shown (by simpa [List.map_map, Function.comp_def] using nodup_filter_keys hnd _) hsort,
        hsome]
      exact hval
    · rw [hlook _ hid, aget?_of_mem hnd Word.of hv]
      exact hval

theorem exec_profileApply (i : Mb) (s : State) :
    exec (.profileApply i) s = s.serve i (.fixed 0x0060 4 fun p => zeroAt p 2 2) (runProfileApply i) := rfl

theorem runProfileApply_unknown {i : Mb} {p : List Byte} (s : State)
    (h : ∀ f, funcOf? (byteAt p 0).toNat = some f → catalogueValues f (byteAt p 1).toNat = none) : runProfileApply i p s = .reply stOutOfRange [] s := by
  unfold runProfileApply
  split
  · rfl
  · next f hf =>
    rw [h f hf]
    rfl

theorem State.onFunc_profile (s : State) (f : Func) (n : Nat) : ((s.onFunc f fun x => { x with profile := n }).fn.get f).profile = n := by
  cases f <;> rfl

/-- Settles O27: a catalogue profile is staged value by value and then committed as one set. -/
theorem profilesApply : Obligations.ProfilesApply := by
  refine ⟨fun i s hserved hno => ?_, fun i f vs s hserved hf hcat hsense hstop hstaged hfol hset => ?_⟩
  · rw [exec_profileApply]
    exact State.serve_reply hserved (runProfileApply_unknown _ hno)
  · obtain ⟨b, w, htaken⟩ := s.taken_eq i
    obtain ⟨u, hcommit, hvals⟩ := profile_committed (s := s.taken i) i.num hcat (by simpa using hstop) (by simpa using hstaged)
      (by simpa using hfol) (by simpa using hset)
    have hgo : runProfileApply i (s.reqBody i) (s.taken i) = .reply stOk (commitResp (s.ras.frame + 1).toNat 0)
        (u.onFunc f fun x => { x with profile := (byteAt (s.reqBody i) 1).toNat }) := by
      have hsense' : (decide (f = Func.sensing) && decide ((s.taken i).param 0x4800 = 0)) = false := by
        rw [State.taken_param]
        simpa using hsense
      simp only [runProfileApply, hf, hcat, hsense', hcommit, CommitResult.reply_of_ok, State.taken_ras]
      rfl
    refine ⟨_, (exec_profileApply i s).trans (State.serve_reply hserved hgo), State.onFunc_profile u f _, fun hsort v hv => ?_⟩
    exact hvals (by rw [State.paramsSorted, State.taken_par]; exact hsort) v hv

end Sys2Proof.Machine
end

section
/-! CLAIM O28, O29. Stopping, resetting, starting and reporting functions. -/

namespace Sys2Proof.Machine

/-! ## What the taking of a request leaves -/

theorem State.taken_fn (s : State) (i : Mb) : (s.taken i).fn = s.fn := by
  obtain ⟨b, w, h⟩ := s.taken_eq i
  rw [h]

theorem State.taken_funcFailed (s : State) (i : Mb) (f : Func) : (s.taken i).funcFailed f = s.funcFailed f := by
  obtain ⟨b, w, h⟩ := s.taken_eq i
  rw [h]
  cases f <;> rfl

theorem State.taken_isDegraded (s : State) (i : Mb) (f : Func) : (s.taken i).isDegraded f = s.isDegraded f := by
  obtain ⟨b, w, h⟩ := s.taken_eq i
  rw [h]
  rfl

theorem State.taken_funcStopped (s : State) (i : Mb) (f : Func) : (s.taken i).funcStopped f = s.funcStopped f := by
  obtain ⟨b, w, h⟩ := s.taken_eq i
  rw [h]
  cases f <;> rfl

theorem State.taken_funcEntry (s : State) (i : Mb) (f : Func) : (s.taken i).funcEntry f = s.funcEntry f := by
  obtain ⟨b, w, h⟩ := s.taken_eq i
  rw [h]
  cases f <;> rfl

/-! ## Changes of a function -/

/-- A function other than the raster is stopped as its record says. -/
theorem State.funcStopped_eq (s : State) {f : Func} (h : f ≠ .raster) : s.funcStopped f = (s.fn.get f).stopped := by
  cases f
  case raster => exact absurd rfl h
  all_goals rfl

theorem Funcs.get_set (x : Funcs) (f : Func) (v : FuncState) : (x.set f v).get f = v := by
  cases f <;> rfl

theorem Funcs.get_set_other (x : Funcs) {f g : Func} (v : FuncState) (h : g ≠ f) : (x.set f v).get g = x.get g := by
  cases f
  all_goals
    cases g
    all_goals trivial

/-- A held response touches no function (R161). -/
theorem State.answerFunc_fn (s : State) (mb : Option Mb) (f : Func) (n : BitVec 32) : (s.answerFunc mb f n).fn = s.fn := by simp

theorem State.funcResume_stopped (s : State) (f g : Func) : ((s.funcResume f).fn.get g).stopped = (s.fn.get g).stopped := by
  cases f
  all_goals
    cases g
    all_goals rfl

/-- A function that runs again after its reset frame is stopped or not as it was (R133). -/
theorem State.funcTake_restart_stopped {s : State} {p : FuncPend} (h : p.change = .restart) (n : BitVec 32) (f : Func) :
    ((s.funcTake p n).fn.get f).stopped = (s.fn.get f).stopped := by
  have hgo : s.funcTake p n = (s.funcResume p.func).answerFunc p.mb p.func n := by rw [State.funcTake, h]
  rw [hgo, State.answerFunc_fn, State.funcResume_stopped]

/-- While no frames run a change takes effect at once, and what waited to run again does so with it (R161). -/
theorem State.funcNow_stopped (s : State) (p : FuncPend) (f : Func) :
    ((s.funcNow p).fn.get f).stopped = ((s.funcTake p (s.ras.frame + 1)).fn.get f).stopped := by
  unfold State.funcNow
  refine List.foldlRecOn (motive := fun t : State => (t.fn.get f).stopped = ((s.funcTake p (s.ras.frame + 1)).fn.get f).stopped) _ _ ?_ fun t ht q hq => ?_
  · cases f <;> rfl
  · have hrestart : q.change = .restart := by
      have := (List.mem_filter.mp hq).2
      simp only [Bool.and_eq_true, beq_iff_eq] at this
      exact this.2
    rw [State.funcTake_restart_stopped hrestart, ht]

theorem State.cutStarts_stopped (s : State) (f : Func) : (s.cutStarts.fn.get f).stopped = (s.fn.get f).stopped := by
  unfold State.cutStarts
  dsimp only
  refine List.foldlRecOn (motive := fun t : State => (t.fn.get f).stopped = (s.fn.get f).stopped) _ _ ?_ fun t ht q _ => ?_
  · cases f <;> rfl
  · cases q.mb
    · exact ht
    · simpa using ht

theorem State.funcTake_stop {s : State} {p : FuncPend} (h : p.change = .stop) (n : BitVec 32) : ((s.funcTake p n).fn.get p.func).stopped = true := by
  have hset : ((s.onFunc p.func fun x => { x with stopped := true, inReset := false }).fn.get p.func).stopped = true :=
    congrArg FuncState.stopped (Funcs.get_set _ _ _)
  have hgo : s.funcTake p n = State.answerFunc (if p.func = .hostLink then
      (s.onFunc p.func fun x => { x with stopped := true, inReset := false }).cutStarts.linkStop
      else s.onFunc p.func fun x => { x with stopped := true, inReset := false }) p.mb p.func n := by rw [State.funcTake, h]
  rw [hgo, State.answerFunc_fn]
  split
  · have hlink (u : State) : u.linkStop.fn = u.fn := by simp
    rw [hlink, State.cutStarts_stopped, hset]
  · exact hset

theorem State.funcTake_start {s : State} {p : FuncPend} (h : p.change = .start) (n : BitVec 32) : ((s.funcTake p n).fn.get p.func).stopped = false := by
  have hset : ((s.onFunc p.func fun x => { x with stopped := false }).fn.get p.func).stopped = false :=
    congrArg FuncState.stopped (Funcs.get_set _ _ _)
  have hgo : s.funcTake p n = State.answerFunc (if p.func == .overdrive || p.func == .dither then
      (s.onFunc p.func fun x => { x with stopped := false }).sramWanted
      else s.onFunc p.func fun x => { x with stopped := false }) p.mb p.func n := by rw [State.funcTake, h]
  rw [hgo, State.answerFunc_fn]
  split
  · have hsram (u : State) : u.sramWanted.fn = u.fn := by simp
    rw [hsram, hset]
  · exact hset

/-- The change that a mailbox asks for (R161). -/
def State.askOf (s : State) (f : Func) (c : FuncChange) (i : Mb) : FuncPend :=
  { func := f, change := c, target := s.ras.frame + BitVec.ofNat 32 s.ahead, mb := some i, live := false }

theorem State.funcAsk_running {s : State} (f : Func) (c : FuncChange) (i : Mb) (h : s.framesRun = true) :
    s.funcAsk f c i = .hold (.funcOp f) { s with fn := { s.fn with pend := s.fn.pend ++ [s.askOf f c i] } } := if_pos h

theorem State.funcAsk_stopped {s : State} (f : Func) (c : FuncChange) (i : Mb) (h : s.framesRun = false) :
    s.funcAsk f c i = .reply stOk (toLe 4 (s.ras.frame + 1).toNat) (s.funcNow { s.askOf f c i with mb := none }) := if_neg (by simp [h])

theorem State.taken_askOf (s : State) (i : Mb) (f : Func) (c : FuncChange) (k : Mb) : (s.taken i).askOf f c k = s.askOf f c k := by
  rw [State.askOf, State.askOf, State.taken_ahead, State.taken_ras]

/-- A served command whose response is held. -/
theorem State.serve_hold {s t : State} {i : Mb} {c : Cmd} {run : List Byte → State → Reply} {f : Func}
    (h : s.served i c = true) (hr : run (s.reqBody i) (s.taken i) = .hold (.funcOp f) t) : s.serve i c run = t.heldFor i f := by
  rw [State.serve_served run h, hr]
  rfl

/-- A change asked for while frames run is held until its frame (R161, R163). -/
theorem State.serve_ask {s : State} {i : Mb} {c : Cmd} {run : List Byte → State → Reply} {f : Func} {ch : FuncChange} (h : s.served i c = true)
    (hr : run (s.reqBody i) (s.taken i) = (s.taken i).funcAsk f ch i) (hrun : s.framesRun = true) :
    s.serve i c run = ({ s.taken i with fn := { s.fn with pend := s.fn.pend ++ [s.askOf f ch i] } }).heldFor i f := by
  rw [State.funcAsk_running f ch i (by simpa using hrun), State.taken_fn, State.taken_askOf] at hr
  exact State.serve_hold h hr

/-- A change asked for while no frames run takes effect at once (R161, R163). -/
theorem State.serve_askNow {s : State} {i : Mb} {c : Cmd} {run : List Byte → State → Reply} {f : Func} {ch : FuncChange} (h : s.served i c = true)
    (hr : run (s.reqBody i) (s.taken i) = (s.taken i).funcAsk f ch i) (hrun : s.framesRun = false) :
    s.serve i c run = ((s.taken i).funcNow { s.askOf f ch i with mb := none }).answered i stOk (toLe 4 (s.ras.frame + 1).toNat) := by
  rw [State.funcAsk_stopped f ch i (by simpa using hrun), State.taken_askOf, State.taken_ras] at hr
  exact State.serve_reply h hr

/-! ## FUNC_STOP and FUNC_RESET -/

theorem exec_funcStop (i : Mb) (s : State) : exec (.funcStop i) s = s.serve i (.fixed 0x0030 4 fun p => zeroAt p 1 3) (runFuncStop i) := rfl

theorem exec_funcReset (i : Mb) (s : State) : exec (.funcReset i) s = s.serve i (.fixed 0x00F0 4 fun p => zeroAt p 1 3) (runFuncReset i) := rfl

theorem exec_funcStart (i : Mb) (s : State) : exec (.funcStart i) s = s.serve i (.fixed 0x0031 4 fun p => zeroAt p 1 3) (runFuncStart i) := rfl

theorem exec_funcState (i : Mb) (s : State) : exec (.funcState i) s = s.serve i (.fixed 0x0032 4 fun p => zeroAt p 1 3) runFuncState := rfl

/-- A stop of a function that runs (R161). -/
theorem runFuncStop_asks {i : Mb} {f : Func} {p : List Byte} {s : State} (hf : funcOf? (byteAt p 0).toNat = some f) (hr : f ≠ .raster)
    (hfail : s.funcFailed f = false) (hdeg : s.isDegraded f = false) (hrun : s.funcStopped f = false) :
    runFuncStop i p s = s.funcAsk f .stop i := by
  simp [runFuncStop, hf, hfail, hr, hdeg, hrun]

theorem funcStop_now {i : Mb} {f : Func} {s : State} (hserved : s.served i (.fixed 0x0030 4 fun p => zeroAt p 1 3) = true)
    (hask : runFuncStop i (s.reqBody i) (s.taken i) = (s.taken i).funcAsk f .stop i) (hr : f ≠ .raster) (hrun : s.framesRun = false) :
    ∃ t : State, exec (.funcStop i) s = t.answered i stOk (toLe 4 (s.ras.frame + 1).toNat) ∧ t.funcStopped f = true := by
  refine ⟨_, (exec_funcStop i s).trans (State.serve_askNow hserved hask hrun), ?_⟩
  rw [State.funcStopped_eq _ hr, State.funcNow_stopped]
  exact State.funcTake_stop (p := { s.askOf f .stop i with mb := none }) rfl _

/-- Settles O28: a request for a change either waits for its frame or takes effect, by one rule for both commands. -/
theorem functionsStopAndReset : Obligations.FunctionsStopAndReset := by
  refine ⟨?stop, ?atOnce, ?reset, ?unknown⟩
  case stop =>
    intro i f s hserved hf hr hfail hdeg hrun
    have hask : runFuncStop i (s.reqBody i) (s.taken i) = (s.taken i).funcAsk f .stop i :=
      runFuncStop_asks hf hr (by rw [State.taken_funcFailed]; exact hfail) (by rw [State.taken_isDegraded]; exact hdeg)
        (by rw [State.taken_funcStopped]; exact hrun)
    refine ⟨fun hframes => ?_, fun hframes => funcStop_now hserved hask hr hframes⟩
    rw [exec_funcStop]
    exact State.serve_ask hserved hask hframes
  case atOnce =>
    intro i f s hserved hf
    refine ⟨fun hfail => ?_, fun hfail hr hdeg hstopped => ?_⟩
    · rw [exec_funcStop]
      exact State.serve_reply hserved (by simp [runFuncStop, hf, State.taken_funcFailed, hfail, Reply.refuse])
    · rw [exec_funcStop]
      exact State.serve_reply hserved
        (by simp [runFuncStop, hf, State.taken_funcFailed, hfail, hr, State.taken_isDegraded, hdeg, State.taken_funcStopped, hstopped])
  case reset =>
    intro i f s hserved hf
    refine ⟨fun hr => ?_, fun hr hdeg => ?_, fun hr hdeg hfail hframes => ?_⟩
    · rw [exec_funcReset]
      exact State.serve_reply hserved (by simp [runFuncReset, hf, hr, Reply.refuse])
    · rw [exec_funcReset]
      exact State.serve_reply hserved (by simp [runFuncReset, hf, hr, State.taken_isDegraded, hdeg, Reply.refuse])
    · rw [exec_funcReset]
      exact State.serve_ask hserved
        (by simp [runFuncReset, hf, hr, State.taken_isDegraded, hdeg, State.taken_funcFailed, hfail]) hframes
  case unknown =>
    intro i s hf
    refine ⟨fun hserved => ?_, fun hserved => ?_, fun hserved => ?_⟩
    · rw [exec_funcStop]
      exact State.serve_reply hserved (by simp [runFuncStop, hf, Reply.refuse])
    · rw [exec_funcStart]
      exact State.serve_reply hserved (by simp [runFuncStart, hf, Reply.refuse])
    · rw [exec_funcReset]
      exact State.serve_reply hserved (by simp [runFuncReset, hf, Reply.refuse])

/-! ## FUNC_START -/

theorem State.stagedS_nil {s : State} (h : s.par.staged = []) (f : Func) : s.stagedS f = [] := by
  rw [State.stagedS, h]
  rfl

/-- With no value taken no agreement set is examined (R149). -/
theorem State.failingSet_nil (s : State) (tab : Bool) : s.failingSet tab false [] = none := by
  simp [State.failingSet]

/-- Starting a function that owns no staged value changes no parameter (R163). -/
theorem State.takeStaged_par {s : State} {f : Func} (h : s.par.staged = []) : (s.takeStaged f).par = s.par := by
  have hnil := State.stagedS_nil h f
  simp [State.takeStaged, hnil, State.setParams, h]
  rw [← h]

/-- Starting a function leaves where the raster is (R163). -/
theorem State.takeStaged_ras (s : State) (f : Func) : (s.takeStaged f).ras.frame = s.ras.frame ∧ (s.takeStaged f).framesRun = s.framesRun ∧
    (s.takeStaged f).ras.inBlank = s.ras.inBlank ∧ (s.takeStaged f).ras.rowsStarted = s.ras.rowsStarted := by
  simp [State.takeStaged, State.applyValues, State.ladderChange, State.framesRun, State.setParams]

theorem State.takeStaged_ahead {s : State} {f : Func} (h : s.par.staged = []) : (s.takeStaged f).ahead = s.ahead := by
  obtain ⟨_, _, hblank, hrows⟩ := s.takeStaged_ras f
  rw [State.ahead, State.ahead, State.beforeDeadline, State.beforeDeadline, hblank, hrows, State.param_congr (congrArg Params.active (State.takeStaged_par h))]

theorem State.takeStaged_askOf {s : State} {f : Func} (h : s.par.staged = []) (c : FuncChange) (i : Mb) :
    (s.takeStaged f).askOf f c i = s.askOf f c i := by
  rw [State.askOf, State.askOf, State.takeStaged_ahead h, (s.takeStaged_ras f).1]

/-- A stopped function that owns no staged value starts with the values it has (R163). -/
theorem runFuncStart_asks {i : Mb} {f : Func} {p : List Byte} {s : State} (hf : funcOf? (byteAt p 0).toNat = some f) (hl : f ≠ .hostLink)
    (hr : f ≠ .raster) (hdeg : s.isDegraded f = false) (hstop : s.funcStopped f = true) (hfail : s.funcFailed f = false) (hst : s.par.staged = []) :
    runFuncStart i p s = (s.takeStaged f).funcAsk f .start i := by
  simp [runFuncStart, hf, hl, hr, hdeg, hstop, hfail, State.stagedS_nil hst, State.failingSet_nil]

theorem runFuncStart_link {i : Mb} {p : List Byte} {s : State} (hf : funcOf? (byteAt p 0).toNat = some .hostLink)
    (hdeg : s.isDegraded .hostLink = false) (hstop : s.funcStopped .hostLink = true) (hfail : s.funcFailed .hostLink = false) (hst : s.par.staged = []) :
    runFuncStart i p s = (s.takeStaged .hostLink).startLink i := by
  simp [runFuncStart, hf, hdeg, hstop, hfail, State.stagedS_nil hst, State.failingSet_nil]

theorem funcStart_runs {i : Mb} {f : Func} {s : State} (hserved : s.served i (.fixed 0x0031 4 fun p => zeroAt p 1 3) = true)
    (hf : funcOf? (byteAt (s.reqBody i) 0).toNat = some f) (hdeg : s.isDegraded f = false) (hrun : s.funcStopped f = false) :
    exec (.funcStart i) s = (s.taken i).answered i stOk (toLe 4 s.ras.frame.toNat) := by
  rw [exec_funcStart]
  exact State.serve_reply hserved (by simp [runFuncStart, hf, State.taken_isDegraded, hdeg, State.taken_funcStopped, hrun])

/-- A function's start while frames run waits for its frame; while none run it takes effect at once (R161, R163). -/
theorem funcStart_asks {i : Mb} {f : Func} {s : State} (hserved : s.served i (.fixed 0x0031 4 fun p => zeroAt p 1 3) = true)
    (hf : funcOf? (byteAt (s.reqBody i) 0).toNat = some f) (hl : f ≠ .hostLink) (hr : f ≠ .raster) (hdeg : s.isDegraded f = false)
    (hstop : s.funcStopped f = true) (hfail : s.funcFailed f = false) (hst : s.par.staged = []) :
    (s.framesRun = true → ∃ t : State, exec (.funcStart i) s = t.heldFor i f ∧ t.par.active = s.par.active ∧
      t.fn.pend = s.fn.pend ++ [s.askOf f .start i]) ∧
    (s.framesRun = false →
      ∃ t : State, exec (.funcStart i) s = t.answered i stOk (toLe 4 (s.ras.frame + 1).toNat) ∧ t.funcStopped f = false) := by
  have hst' : (s.taken i).par.staged = [] := by simpa using hst
  have hrun := runFuncStart_asks (i := i) (s := s.taken i) hf hl hr (by rw [State.taken_isDegraded]; exact hdeg)
    (by rw [State.taken_funcStopped]; exact hstop) (by rw [State.taken_funcFailed]; exact hfail) hst'
  obtain ⟨hframe, hframes, _, _⟩ := (s.taken i).takeStaged_ras f
  rw [State.taken_framesRun] at hframes
  have hask := (State.takeStaged_askOf (f := f) hst' .start i).trans (s.taken_askOf i f .start i)
  have hfn : ((s.taken i).takeStaged f).fn = s.fn := by
    rw [← s.taken_fn i]
    simp
  refine ⟨fun h => ?_, fun h => ?_⟩
  · rw [State.funcAsk_running f .start i (hframes.trans h), hask, hfn] at hrun
    refine ⟨_, (exec_funcStart i s).trans (State.serve_hold hserved hrun), ?_, rfl⟩
    exact (congrArg Params.active (State.takeStaged_par hst')).trans (by rw [State.taken_par])
  · rw [State.funcAsk_stopped f .start i (hframes.trans h), hask, hframe, State.taken_ras] at hrun
    refine ⟨_, (exec_funcStart i s).trans (State.serve_reply hserved hrun), ?_⟩
    rw [State.funcStopped_eq _ hr, State.funcNow_stopped]
    exact State.funcTake_start (p := { s.askOf f .start i with mb := none }) rfl _

theorem State.enterLink_vote (s : State) (p : Side → Bool) (st : LinkState) : (s.enterLink p st).hl.vote = s.hl.vote := by
  unfold State.enterLink
  dsimp only
  split
  all_goals rfl

theorem State.tryTrain_vote (s : State) : s.tryTrain.hl.vote = s.hl.vote := by
  unfold State.tryTrain
  dsimp only
  split
  · rfl
  · split
    · exact State.enterLink_vote _ _ _
    · exact State.enterLink_vote _ _ _

/-- FUNC_START of the host link votes its domains on (R163). -/
theorem State.linkStart_vote (s : State) : s.linkStart.hl.vote = true := State.tryTrain_vote _

theorem funcStart_link {i : Mb} {s : State} (hserved : s.served i (.fixed 0x0031 4 fun p => zeroAt p 1 3) = true)
    (hf : funcOf? (byteAt (s.reqBody i) 0).toNat = some .hostLink) (hdeg : s.isDegraded .hostLink = false) (hstop : s.fn.hostLink.stopped = true)
    (hfail : s.funcFailed .hostLink = false) (hst : s.par.staged = []) (hrun : s.framesRun = false) :
    ∃ t : State, exec (.funcStart i) s = t.answered i stOk (toLe 4 (s.ras.frame + 1).toNat) ∧ t.fn.hostLink.stopped = false ∧ t.hl.vote = true := by
  have hgo := runFuncStart_link (i := i) (s := s.taken i) hf (by rw [State.taken_isDegraded]; exact hdeg)
    (by rw [State.taken_funcStopped]; exact hstop) (by rw [State.taken_funcFailed]; exact hfail) (by simpa using hst)
  obtain ⟨hframe, hframes, _, _⟩ := (s.taken i).takeStaged_ras .hostLink
  rw [State.taken_framesRun, hrun] at hframes
  rw [State.startLink, hframes, hframe, State.taken_ras] at hgo
  refine ⟨_, (exec_funcStart i s).trans (State.serve_reply hserved hgo), ?_, State.linkStart_vote _⟩
  have hfn (u : State) : u.linkStart.fn = u.fn := by simp
  rw [hfn]
  rfl

/-! ## Jobs -/

theorem State.onMb_jobs (s : State) (i : Mb) (f : Mailbox → Mailbox) : (s.onMb i f).box.jobs = s.box.jobs := by
  cases i <;> rfl

theorem State.release_jobs (s : State) (i : Mb) : (s.release i).box.jobs = s.box.jobs := by
  unfold State.release
  split
  · exact s.onMb_jobs i _
  · rfl

theorem State.loadPeer_jobs (s : State) : s.loadPeer.box.jobs = s.box.jobs := by
  unfold State.loadPeer
  repeat' split
  all_goals rfl

theorem State.peerDone_jobs (s : State) : s.peerDone.box.jobs = s.box.jobs := State.loadPeer_jobs _

theorem State.answer_jobs (s : State) (i : Mb) (bytes : List Byte) : (s.answer i bytes).box.jobs = s.box.jobs := by
  unfold State.answer
  split
  · split
    · exact s.peerDone_jobs
    · split
      · exact s.peerDone_jobs
      · rw [State.peerDone_jobs]
        simp
  · dsimp only
    split
    · split
      · split
        all_goals simp
      · rw [State.release_jobs]
        simp
    · simp

/-- A posted response leaves the jobs (R130). -/
theorem State.post_jobs (s : State) (i : Mb) (st : Nat) (p : List Byte) : (s.post i st p).box.jobs = s.box.jobs := by
  have hpost (t : State) (bytes : List Byte) : ((t.posted i bytes).answer i bytes).box.jobs = t.box.jobs := by
    rw [State.answer_jobs]
    exact t.onMb_jobs i _
  unfold State.post State.postWith
  dsimp only
  split
  · exact hpost s _
  · exact hpost _ _

/-- The state after ACCEPTED is posted for a job that has joined the jobs (R130). -/
def State.withJob (t : State) (i : Mb) (code : Nat) (tag : BitVec 16) (p : List Byte) : State :=
  State.post { t with box := { t.box with jobs := t.box.jobs ++ [({ code := code, mb := i, tag := tag } : Job)] } } i stAccepted p

/-- A served A job: ACCEPTED is posted, and its first action follows (R130). -/
theorem State.serve_accept {s t : State} {i : Mb} {c : Cmd} {run : List Byte → State → Reply} {p : List Byte} {after : State → State}
    {k : Nat} (hk : c.code = k) (h : s.served i c = true) (hr : run (s.reqBody i) (s.taken i) = .accept p t after) :
    s.serve i c run = .next (after (t.withJob i k (s.mb i).tag p)).settle := by
  rw [State.serve_served run h, hr, ← hk]
  rfl

theorem State.withJob_jobs (t : State) (i : Mb) (code : Nat) (tag : BitVec 16) (p : List Byte) :
    (t.withJob i code tag p).box.jobs = t.box.jobs ++ [({ code := code, mb := i, tag := tag } : Job)] := State.post_jobs _ _ _ _

theorem State.withJob_frame (t : State) (i : Mb) (code : Nat) (tag : BitVec 16) (p : List Byte) :
    (t.withJob i code tag p).par = t.par ∧ (t.withJob i code tag p).pnl = t.pnl ∧ (t.withJob i code tag p).ras = t.ras ∧
    (t.withJob i code tag p).tab = t.tab ∧ (t.withJob i code tag p).boot = t.boot ∧ (t.withJob i code tag p).thm = t.thm ∧
    (t.withJob i code tag p).fn = t.fn ∧ (t.withJob i code tag p).sel = t.sel ∧ (t.withJob i code tag p).mem = t.mem := by
  simp [State.withJob]

/-! ## FUNC_START of the raster -/

/-- The panel's power sequence starts with its outputs driven (R400). -/
theorem State.panelStart_starts {s : State} (h : s.pnl.st = .off) : s.panelStart.pnl.st = .poweringOn ∧ s.panelStart.sel.driven = true := by
  have hst : (s.panelState .poweringOn 1).pnl.st = .poweringOn := by
    simp [State.panelState, h]
  exact ⟨hst, rfl⟩

theorem State.takeStaged_panelSetFails {s : State} {f : Func} (h : s.par.staged = []) (tab : Bool) :
    (s.takeStaged f).panelSetFails tab = s.panelSetFails tab := by
  have hparam : (s.takeStaged f).param = s.param := funext (State.param_congr (congrArg Params.active (State.takeStaged_par h)))
  have htab : (s.takeStaged f).tab = s.tab := by simp
  rw [State.panelSetFails, State.panelSetFails, hparam]
  exact find?_agrees fun k hk => by rw [setRule_congr tab htab (fun _ _ => rfl) (by revert k; decide)]

theorem State.anyFailed_congr {s t : State} (h : t.pwr = s.pwr) (ds : List (Fin 19)) : t.anyFailed ds = s.anyFailed ds := by
  have hdom : t.domFailed = s.domFailed := funext fun d => by rw [State.domFailed, State.domFailed, h]
  rw [State.anyFailed, State.anyFailed, hdom]

theorem runFuncStart_raster {i : Mb} {p : List Byte} {s : State} (hf : funcOf? (byteAt p 0).toNat = some .raster) (hdeg : s.isDegraded .raster = false)
    (hrun : s.ras.running = false) (hpnl : s.pnl.st = .off) (hst : s.par.staged = []) (hset : s.panelSetFails true = none)
    (hfail : s.funcFailed .raster = false) :
    runFuncStart i p s = .accept (toLe 4 (s.ras.frame + 1).toNat) (s.takeStaged .raster) State.panelStart := by
  have hset' : (s.takeStaged .raster).panelSetFails true = none := (State.takeStaged_panelSetFails hst true).trans hset
  have hpnl' : (s.takeStaged .raster).pnl.st = .off := by simpa using hpnl
  have hfail' : (s.takeStaged .raster).anyFailed [dPipe, dSram0, dSram1, dBobl, dBobr] = false :=
    (State.anyFailed_congr (by simp) _).trans hfail
  have hstop : s.funcStopped .raster = true := by simp [State.funcStopped, hrun]
  have hreply : (s.takeStaged .raster).panelOnReply (toLe 4 (s.ras.frame + 1).toNat) =
      .accept (toLe 4 (s.ras.frame + 1).toNat) (s.takeStaged .raster) State.panelStart := by
    rw [State.panelOnReply, hpnl']
    dsimp only
    rw [hfail', hset']
    rfl
  simp only [runFuncStart, hf, hdeg, hstop, hpnl, State.stagedS_nil hst, State.failingSet_nil, hset', hfail, hreply]
  rfl

theorem funcStart_raster {i : Mb} {s : State} (hserved : s.served i (.fixed 0x0031 4 fun p => zeroAt p 1 3) = true)
    (hf : funcOf? (byteAt (s.reqBody i) 0).toNat = some .raster) (hdeg : s.isDegraded .raster = false) (hrun : s.ras.running = false)
    (hpnl : s.pnl.st = .off) (hst : s.par.staged = []) (hset : s.panelSetFails true = none) (hfail : s.funcFailed .raster = false) :
    ∃ t, exec (.funcStart i) s = .next t ∧ t.pnl.st = .poweringOn ∧ t.sel.driven = true ∧ t.par.active = s.par.active ∧
      t.box.jobs.map (·.code) = s.box.jobs.map (·.code) ++ [0x0031] := by
  obtain ⟨b, w, htaken⟩ := s.taken_eq i
  have hst' : (s.taken i).par.staged = [] := by simpa using hst
  have hgo := runFuncStart_raster (i := i) (s := s.taken i) hf (by rw [State.taken_isDegraded]; exact hdeg) (by simpa using hrun)
    (by rw [htaken]; exact hpnl) hst' (by rw [htaken]; exact hset) (by rw [State.taken_funcFailed]; exact hfail)
  obtain ⟨hpar, hpnl', _⟩ := State.withJob_frame ((s.taken i).takeStaged .raster) i 0x0031 (s.mb i).tag (toLe 4 ((s.taken i).ras.frame + 1).toNat)
  have hjobs := State.withJob_jobs ((s.taken i).takeStaged .raster) i 0x0031 (s.mb i).tag (toLe 4 ((s.taken i).ras.frame + 1).toNat)
  have hexec : exec (.funcStart i) s = .next (((s.taken i).takeStaged .raster).withJob i 0x0031 (s.mb i).tag
      (toLe 4 ((s.taken i).ras.frame + 1).toNat)).panelStart.settle := by
    rw [exec_funcStart, State.serve_accept (k := 0x0031) rfl hserved hgo]
  rw [State.takeStaged_par hst', State.taken_par] at hpar
  have hbox : ((s.taken i).takeStaged .raster).box.jobs = s.box.jobs := by
    rw [← s.taken_jobs i]
    simp
  rw [hbox] at hjobs
  have hoff : ((s.taken i).takeStaged .raster).pnl = s.pnl := by simp [htaken]
  rw [hoff] at hpnl'
  revert hpar hpnl' hjobs hexec
  generalize State.withJob ((s.taken i).takeStaged .raster) i 0x0031 (s.mb i).tag (toLe 4 ((s.taken i).ras.frame + 1).toNat) = u
  intro hpar hpnl' hjobs hexec
  obtain ⟨hon, hdriven⟩ := State.panelStart_starts (s := u) (by rw [hpnl']; exact hpnl)
  refine ⟨_, hexec, ?_, ?_, ?_, ?_⟩
  · simpa using hon
  · simpa using hdriven
  · simp [hpar]
  · simp [hjobs]

/-! ## FUNC_STATE -/

theorem funcEntry_state (s : State) (f : Func) : s.funcEntry f =
    [Byte.of f.code, if s.funcFailed f then 4 else if s.funcStopped f then 1 else if s.isDegraded f then 2 else if s.funcLacks f then 3 else 0,
      Byte.of (s.fn.get f).profile, 0] := by
  unfold State.funcEntry State.funcStateCode
  repeat' split
  all_goals rfl

theorem funcState_one {i : Mb} {f : Func} {s : State} (hserved : s.served i (.fixed 0x0032 4 fun p => zeroAt p 1 3) = true)
    (hf : funcOf? (byteAt (s.reqBody i) 0).toNat = some f) : exec (.funcState i) s = (s.taken i).answered i stOk (s.funcEntry f) := by
  have hone : ¬(byteAt (s.reqBody i) 0).toNat = 0xFF := fun h => by
    have hnone : funcOf? 0xFF = none := rfl
    rw [h, hnone] at hf
    nomatch hf
  rw [exec_funcState]
  refine State.serve_reply hserved ?_
  simp only [runFuncState, if_neg hone, hf, State.taken_funcEntry]

theorem funcState_all {i : Mb} {s : State} (hserved : s.served i (.fixed 0x0032 4 fun p => zeroAt p 1 3) = true)
    (h : byteAt (s.reqBody i) 0 = 0xFF) : exec (.funcState i) s = (s.taken i).answered i stOk
      ([Func.overdrive, .pricking, .applique, .dither, .hostLink, .sensing, .raster].flatMap s.funcEntry) := by
  have hall : (byteAt (s.reqBody i) 0).toNat = 0xFF := by rw [h]; rfl
  have hfuncs : ((List.range 7).filterMap fun k => funcOf? (k + 1)) = [Func.overdrive, .pricking, .applique, .dither, .hostLink, .sensing, .raster] := by
    decide
  have hentry : (s.taken i).funcEntry = s.funcEntry := funext (s.taken_funcEntry i)
  rw [exec_funcState]
  refine State.serve_reply hserved ?_
  simp only [runFuncState, hall, if_true, hfuncs, hentry]

/-- Settles O29 (log entry 26): each start goes through the rule of its function, and a report through the order of the states. -/
theorem functionsStartAndReport : Obligations.FunctionsStartAndReport := by
  refine ⟨⟨?runs, ?starts, ?link, ?raster⟩, ?one, ?all, ?unknown⟩
  case runs =>
    intro i f s hserved hf hdeg hrun
    exact funcStart_runs hserved hf hdeg hrun
  case starts =>
    intro i f s hserved hf hl hr hdeg hstop hfail hst
    exact funcStart_asks hserved hf hl hr hdeg hstop hfail hst
  case link =>
    intro i s hserved hf hdeg hstop hfail hst hrun
    exact funcStart_link hserved hf hdeg hstop hfail hst hrun
  case raster =>
    intro i s hserved hf hdeg hrun hpnl hst hset hfail
    exact funcStart_raster hserved hf hdeg hrun hpnl hst hset hfail
  case one =>
    intro i f s hserved hf
    rw [funcState_one hserved hf, funcEntry_state]
  case all =>
    intro i s hserved h
    rw [funcState_all hserved h, funext (funcEntry_state s)]
  case unknown =>
    intro i s hserved hone hf
    have hone' : ¬(byteAt (s.reqBody i) 0).toNat = 0xFF := fun h => hone (BitVec.eq_of_toNat_eq h)
    rw [exec_funcState]
    exact State.serve_reply hserved (by simp only [runFuncState, if_neg hone', hf]; rfl)

end Sys2Proof.Machine
end

section
/-! CLAIM O30. MODE_CHANGE. -/

namespace Sys2Proof.Machine

theorem exec_modeChange (i : Mb) (s : State) : exec (.modeChange i) s = s.serve i (.fixed 0x0040 4 fun p => zeroAt p 1 3) (runModeChange i) := rfl

theorem State.stagedF_nil {s : State} (h : s.par.staged = []) : s.stagedF = [] := by
  rw [State.stagedF, h]
  rfl

/-- The state of a mode change's request that its checks pass as far as the panel's mode (R256, R258). -/
theorem runModeChange_running {i : Mb} {m : Mode} {p : List Byte} {s : State} (hm : modeOf? (byteAt p 0).toNat = some m) (hlat : m ≠ .lattice)
    (hmem : s.memLost = false) (hst : s.par.staged = []) (hfol : s.isFollower = false) (htr : s.ras.transition = none) (hrun : s.framesRun = true)
    (hmode : s.timMode ≠ m) (harm : s.armedFrame = none) :
    runModeChange i p s = .accept (commitResp (s.ras.frame + BitVec.ofNat 32 s.ahead + 1).toNat 0) s fun t => t.modeBegin m := by
  have hmeets : s.transitionMeetsEpoch = false := by simp [State.transitionMeetsEpoch, harm]
  simp only [runModeChange, hm, hmem, State.stagedF_nil hst, State.failingSet_nil, hfol, htr, hrun, hmeets]
  simp [hlat, Ne.symm hmode, b2n]

theorem runModeChange_stopped {i : Mb} {m : Mode} {p : List Byte} {s : State} (hm : modeOf? (byteAt p 0).toNat = some m) (hlat : m ≠ .lattice)
    (hmem : s.memLost = false) (hst : s.par.staged = []) (hfol : s.isFollower = false) (htr : s.ras.transition = none) (hrun : s.ras.running = false) :
    runModeChange i p s = .accept (commitResp (s.ras.frame + 1).toNat 0) s fun t => t.modeNow m := by
  have hframes : s.framesRun = false := by simp [State.framesRun, hrun]
  simp only [runModeChange, hm, hmem, State.stagedF_nil hst, State.failingSet_nil, hfol, htr, hframes]
  simp [hlat]

/-- With nothing staged and MEM there, the transition is all that begins (R256). -/
theorem State.modeBegin_plain {s : State} (m : Mode) (hst : s.par.staged = []) (hmem : s.memLost = false) :
    s.modeBegin m = s.beginTransition m true 1 false := by
  simp [State.modeBegin, State.stagedF_nil hst, hmem]

theorem State.committed_running (s : State) : s.committed.ras.running = s.ras.running := by
  simp [State.committed, State.applyCommit, State.applyValues, State.ladderChange, State.setParams]

theorem State.committed_box (s : State) : s.committed.box = s.box := by
  simp [State.committed]

/-- A job that ends leaves the jobs (R130). -/
theorem State.endJob_jobs (s : State) (code st : Nat) : (s.endJob code st).box.jobs = s.box.jobs.filter fun k => k.code != code := by
  unfold State.endJob
  split
  · next hnone =>
    refine (List.filter_eq_self.mpr fun j hj => ?_).symm
    have := List.find?_eq_none.mp hnone j hj
    simpa using this
  · simp

theorem State.endJob_par (s : State) (code st : Nat) : (s.endJob code st).par = s.par := by simp

/-- The state in which MODE_CHANGE commits the mode at once (R258). -/
def State.modeWritten (s : State) (m : Mode) : State :=
  { s.setParam 0x2800 m.code with par := { (s.setParam 0x2800 m.code).par with staged := adel (s.setParam 0x2800 m.code).par.staged 0x2800 } }

theorem State.modeWritten_staged {s : State} (m : Mode) (hst : s.par.staged = []) : (s.modeWritten m).par.staged = [] := by
  have h : (s.modeWritten m).par.staged = adel s.par.staged 0x2800 := rfl
  rw [h, hst]
  rfl

theorem State.modeWritten_commit {s : State} (m : Mode) (hst : s.par.staged = []) (hrun : s.ras.running = false) :
    (s.modeWritten m).commit = ⟨stOk, (s.ras.frame + 1).toNat, 0, (s.modeWritten m).committed⟩ := by
  have hF := State.stagedF_nil (State.modeWritten_staged m hst)
  refine State.commit_of_stopped ?_ ?_ ?_
  · simp [State.framesRun, State.modeWritten, State.setParam, hrun]
  · rw [hF, State.failingSet_nil]
  · rw [hF]
    simp [State.changesTiming]

/-- On a stopped raster the mode is active at once (R258). -/
theorem State.modeNow_stopped {s : State} (m : Mode) (hst : s.par.staged = []) (hrun : s.ras.running = false) (hsort : s.paramsSorted) :
    (s.modeNow m).param 0x2800 = m.code ∧ (s.modeNow m).box.jobs = s.box.jobs.filter fun k => k.code != 0x0040 := by
  have hstopped : (s.modeWritten m).committed.ras.running = false := by
    rw [State.committed_running]
    exact hrun
  have hgo : s.modeNow m = ((s.modeWritten m).committed).endJob 0x0040 stOk := by
    have hnow : s.modeNow m = State.endJob (if !(s.modeWritten m).commit.state.ras.running then (s.modeWritten m).commit.state
      else ((((s.modeWritten m).commit.state.takeFree.2.takeFree.2).sampleFifo ((s.modeWritten m).commit.state.takeFree.1.setWidth 6)
        ((s.modeWritten m).commit.state.takeFree.2.takeFree.1.setWidth 6)).rasterGo)) 0x0040 stOk := rfl
    rw [hnow, State.modeWritten_commit m hst hrun, hstopped]
    rfl
  have hactive : (s.modeNow m).par.active = (s.setParam 0x2800 m.code).par.active := by
    rw [hgo, State.endJob_par, State.committed_par, State.stagedF_nil (State.modeWritten_staged m hst)]
    rfl
  refine ⟨?_, ?_⟩
  · rw [State.param_congr hactive, State.setParam_param hsort (by cases m <;> decide), if_pos rfl]
  · rw [hgo, State.endJob_jobs, State.committed_box]
    rfl

theorem State.withJob_memLost (t : State) (i : Mb) (code : Nat) (tag : BitVec 16) (p : List Byte) :
    (t.withJob i code tag p).memLost = t.memLost := by
  have hpwr : (t.withJob i code tag p).pwr = t.pwr := by simp [State.withJob]
  rw [State.memLost, State.memLost, State.domFailed, State.domFailed, hpwr]

theorem State.taken_memLost (s : State) (i : Mb) : (s.taken i).memLost = s.memLost := by
  obtain ⟨b, w, h⟩ := s.taken_eq i
  rw [h]
  rfl

theorem State.taken_timMode (s : State) (i : Mb) : (s.taken i).timMode = s.timMode := by
  rw [State.timMode, State.timMode, State.taken_param]

/-- No job of a served command's code runs (R130). -/
theorem State.served_noJob {s : State} {i : Mb} {c : Cmd} (h : s.served i c = true) : ∀ j ∈ s.box.jobs, j.code ≠ c.code := by
  simp only [State.served, Bool.and_eq_true] at h
  have hno : s.jobRuns c.code = false := by simpa using h.2
  intro j hj hcode
  exact absurd (List.any_eq_false.mp hno j hj) (by simp [hcode])

theorem modeChange_running {i : Mb} {m : Mode} {s : State} (hserved : s.served i (.fixed 0x0040 4 fun p => zeroAt p 1 3) = true)
    (hm : modeOf? (byteAt (s.reqBody i) 0).toNat = some m) (hlat : m ≠ .lattice) (hmem : s.memLost = false) (hst : s.par.staged = [])
    (hfol : s.isFollower = false) (htr : s.ras.transition = none) (hrun : s.framesRun = true) (hmode : s.timMode ≠ m) (harm : s.armedFrame = none) :
    ∃ t, exec (.modeChange i) s = .next t ∧
      (t.ras.transition = some { n0 := s.ras.frame + BitVec.ofNat 32 s.ahead, mode := m, phase := .waiting, cmd := true, cause := 1, thermal := false }) ∧
      t.box.jobs.map (·.code) = s.box.jobs.map (·.code) ++ [0x0040] ∧ t.par = s.par := by
  obtain ⟨b, w, htaken⟩ := s.taken_eq i
  have hgo := runModeChange_running (i := i) (s := s.taken i) hm hlat (by rw [State.taken_memLost]; exact hmem) (by simpa using hst)
    (by simpa using hfol) (by simpa using htr) (by simpa using hrun) (by rw [State.taken_timMode]; exact hmode)
    (by rw [State.taken_armedFrame]; exact harm)
  generalize commitResp ((s.taken i).ras.frame + BitVec.ofNat 32 (s.taken i).ahead + 1).toNat 0 = p at hgo
  obtain ⟨hpar, -, hras, -⟩ := State.withJob_frame (s.taken i) i 0x0040 (s.mb i).tag p
  have hjobs := State.withJob_jobs (s.taken i) i 0x0040 (s.mb i).tag p
  have hpwr := State.withJob_memLost (s.taken i) i 0x0040 (s.mb i).tag p
  have hexec : exec (.modeChange i) s = .next (((s.taken i).withJob i 0x0040 (s.mb i).tag p).modeBegin m).settle := by
    rw [exec_modeChange, State.serve_accept (k := 0x0040) rfl hserved hgo]
  rw [State.taken_par] at hpar
  rw [State.taken_ras] at hras
  rw [State.taken_jobs] at hjobs
  rw [State.taken_memLost, hmem] at hpwr
  revert hexec hpar hras hjobs hpwr
  generalize State.withJob (s.taken i) i 0x0040 (s.mb i).tag p = u
  intro hpar hras hjobs hpwr hexec
  have hahead : u.ahead = s.ahead := by
    rw [State.ahead, State.ahead, State.beforeDeadline, State.beforeDeadline, hras, State.param_congr (congrArg Params.active hpar)]
  rw [State.modeBegin_plain m (by rw [hpar]; exact hst) hpwr] at hexec
  refine ⟨_, hexec, ?_, ?_, ?_⟩
  · simp [State.beginTransition, State.beginTransitionAt, hras, hahead]
  · simp [hjobs]
  · simp [hpar]

theorem modeChange_stopped {i : Mb} {m : Mode} {s : State} (hserved : s.served i (.fixed 0x0040 4 fun p => zeroAt p 1 3) = true)
    (hm : modeOf? (byteAt (s.reqBody i) 0).toNat = some m) (hlat : m ≠ .lattice) (hmem : s.memLost = false) (hst : s.par.staged = [])
    (hfol : s.isFollower = false) (htr : s.ras.transition = none) (hrun : s.ras.running = false) (hsort : s.paramsSorted) :
    ∃ t, exec (.modeChange i) s = .next t ∧ t.param 0x2800 = m.code ∧ t.box.jobs = s.box.jobs := by
  have hgo := runModeChange_stopped (i := i) (s := s.taken i) hm hlat (by rw [State.taken_memLost]; exact hmem) (by simpa using hst)
    (by simpa using hfol) (by simpa using htr) (by simpa using hrun)
  generalize commitResp ((s.taken i).ras.frame + 1).toNat 0 = p at hgo
  obtain ⟨hpar, -, hras, -⟩ := State.withJob_frame (s.taken i) i 0x0040 (s.mb i).tag p
  have hjobs := State.withJob_jobs (s.taken i) i 0x0040 (s.mb i).tag p
  have hexec : exec (.modeChange i) s = .next (((s.taken i).withJob i 0x0040 (s.mb i).tag p).modeNow m).settle := by
    rw [exec_modeChange, State.serve_accept (k := 0x0040) rfl hserved hgo]
  rw [State.taken_par] at hpar
  rw [State.taken_ras] at hras
  rw [State.taken_jobs] at hjobs
  revert hexec hpar hras hjobs
  generalize State.withJob (s.taken i) i 0x0040 (s.mb i).tag p = u
  intro hpar hras hjobs hexec
  obtain ⟨hparam, hkept⟩ := State.modeNow_stopped (s := u) m (by rw [hpar]; exact hst) (by rw [hras]; exact hrun)
    (by rw [State.paramsSorted, hpar]; exact hsort)
  refine ⟨_, hexec, ?_, ?_⟩
  · rw [State.param_congr (s := u.modeNow m) (by simp)]
    exact hparam
  · have hold : s.box.jobs.filter (fun k => k.code != 0x0040) = s.box.jobs :=
      List.filter_eq_self.mpr fun j hj => bne_iff_ne.mpr (State.served_noJob hserved j hj)
    rw [State.settle_box, hkept, hjobs, List.filter_append, hold]
    simp

/-- Settles O30: with frames running the mode goes through a transition, and otherwise through its commit. -/
theorem modeChangesThroughATransition : Obligations.ModeChangesThroughATransition := by
  refine ⟨?unknown, ?running, ?stopped⟩
  case unknown =>
    intro i s hserved hm
    rw [exec_modeChange]
    exact State.serve_reply hserved (by simp [runModeChange, hm, Reply.refuse])
  case running =>
    intro i m s hserved hm hlat hmem hst hfol htr hrun hmode harm
    exact modeChange_running hserved hm hlat hmem hst hfol htr hrun hmode harm
  case stopped =>
    intro i m s hserved hm hlat hmem hst hfol htr hrun hsort
    exact modeChange_stopped hserved hm hlat hmem hst hfol htr hrun hsort

end Sys2Proof.Machine
end

section
/-! CLAIM O31. TABLE_LOAD and TABLE_READ. -/

namespace Sys2Proof.Machine

/-! ## The state a request is served in -/

theorem State.taken_tab (s : State) (i : Mb) : (s.taken i).tab = s.tab := by
  obtain ⟨b, w, h⟩ := s.taken_eq i
  rw [h]

theorem State.taken_table (s : State) (i : Mb) (id : Nat) : (s.taken i).table id = s.table id := State.table_congr (s.taken_tab i) id

theorem State.taken_tableInUse (s : State) (i : Mb) (id : Nat) : (s.taken i).tableInUse id = s.tableInUse id := by
  obtain ⟨b, w, h⟩ := s.taken_eq i
  rw [h]
  rfl

theorem State.taken_tableOwnerRuns (s : State) (i : Mb) (id : Nat) : (s.taken i).tableOwnerRuns id = s.tableOwnerRuns id := by
  obtain ⟨b, w, h⟩ := s.taken_eq i
  rw [h]
  rfl

theorem State.taken_tableCheck (s : State) (i : Mb) (id : Nat) (b : List Byte) : (s.taken i).tableCheck id b = s.tableCheck id b := by
  obtain ⟨x, w, h⟩ := s.taken_eq i
  rw [h]
  rfl

theorem State.taken_ramBytes (s : State) (i : Mb) (a n : Nat) : (s.taken i).ramBytes a n = s.ramBytes a n := by
  obtain ⟨x, w, h⟩ := s.taken_eq i
  rw [h]
  rfl

/-! ## TABLE_LOAD -/

theorem exec_tableLoad (i : Mb) (s : State) : exec (.tableLoad i) s = s.serve i cmdTableLoad runTableLoad := rfl

theorem exec_tableRead (i : Mb) (s : State) : exec (.tableRead i) s = s.serve i cmdTableRead runTableRead := rfl

/-- The table a fragment joins: the opening fragment empties it (R134). -/
def State.joined (s : State) (id : Nat) (f : Frag) : Table :=
  { s.table id with bytes := if f.first then [] else (s.table id).bytes, nextOff := f.offset }

/-- A fragment that nothing refuses is laid on its table (R134). -/
theorem runTableLoad_joins {p : List Byte} {s : State} {id : Nat} {f : Frag} (hid : le2 p 0 = id) (hf : fragAt p 4 = f) (hlo : 1 ≤ id / 256)
    (hhi : id / 256 ≤ 3) (hknown : tableKnown id = true) (huse : s.tableInUse id = false ∨ s.tableOwnerRuns id = false)
    (hoff : if f.first then f.offset = 0 else (s.table id).st = .loading ∧ f.offset = (s.table id).nextOff) :
    runTableLoad p s = s.loadOn (s.joined id f) f := by
  have hsense : ¬(id / 256 = 0x20 ∨ id / 256 = 0x21) := by omega
  have hpool : ¬id = 0xFF00 := by omega
  have hstored : ¬(id / 256 = 4 ∨ id / 256 = 5) := by omega
  have hclip : ¬id / 256 = 7 := by omega
  have hfree : (s.tableInUse id && s.tableOwnerRuns id) = false := by
    rcases huse with h | h
    · simp [h]
    · simp [h]
  cases hfirst : f.first with
  | true =>
    have hzero : f.offset = 0 := by simpa [hfirst] using hoff
    simp [runTableLoad, hid, hf, hknown, hsense, hpool, hstored, hclip, hfree, hfirst, hzero, State.joined]
  | false =>
    obtain ⟨hst, hnext⟩ : (s.table id).st = .loading ∧ f.offset = (s.table id).nextOff := by simpa [hfirst] using hoff
    have hjoined : s.joined id f = s.table id := by
      simp only [State.joined, hfirst, hnext, Bool.false_eq_true, if_false]
    rw [hjoined]
    simp [runTableLoad, hid, hf, hknown, hsense, hpool, hfree, hfirst, hst, hnext]

theorem State.tableLoad_more {i : Mb} {id : Nat} {f : Frag} {s : State} (hserved : s.served i cmdTableLoad = true)
    (hrun : runTableLoad (s.reqBody i) (s.taken i) = (s.taken i).loadOn ((s.taken i).joined id f) f) (hlast : f.last = false) :
    ∃ t : State, exec (.tableLoad i) s = t.answered i stOk (toLe 4 (f.offset + f.data.length)) ∧
      t.table id = { id := id, st := .loading, nextOff := f.offset + f.data.length, bytes := (if f.first then [] else (s.table id).bytes) ++ f.data } := by
  have hload : (s.taken i).loadOn ((s.taken i).joined id f) f = .reply stOk (toLe 4 (f.offset + f.data.length)) ((s.taken i).setTable
      { id := id, st := .loading, nextOff := f.offset + f.data.length, bytes := (if f.first then [] else (s.table id).bytes) ++ f.data }) := by
    simp [State.loadOn, hlast, State.joined, State.taken_table]
  exact ⟨_, State.serve_reply hserved (hrun.trans hload), by rw [State.setTable_table, if_pos rfl]⟩

theorem State.tableLoad_passes {i : Mb} {id : Nat} {f : Frag} {s : State} {b : List Byte} (hserved : s.served i cmdTableLoad = true)
    (hrun : runTableLoad (s.reqBody i) (s.taken i) = (s.taken i).loadOn ((s.taken i).joined id f) f) (hhi : id / 256 ≤ 3) (hlast : f.last = true)
    (hcheck : s.tableCheck id ((if f.first then [] else (s.table id).bytes) ++ f.data) = some b) :
    ∃ t : State, exec (.tableLoad i) s = t.answered i stOk (toLe 4 (f.offset + f.data.length)) ∧ t.tableValid id = true ∧ (t.table id).bytes = b := by
  have hload : (s.taken i).loadOn ((s.taken i).joined id f) f = .reply stOk (toLe 4 (f.offset + f.data.length))
      (((((s.taken i).packageJob id ((if f.first then [] else (s.table id).bytes) ++ f.data)).install id b).fieldsChanged (s.taken i) id).afterLoad
        id b) := by
    simp [State.loadOn, hlast, State.joined, State.taken_table, State.taken_tableCheck, hcheck]
  have htab (v : State) : (((v.install id b).fieldsChanged (s.taken i) id).afterLoad id b).tab = (v.install id b).tab := by simp
  have hplane : ¬id / 256 = 4 := by omega
  refine ⟨_, State.serve_reply hserved (hrun.trans hload), ?_, ?_⟩
  · rw [State.tableValid_congr (htab _)]
    exact State.install_valid _ id b
  · rw [State.table_congr (htab _), State.install_table, if_pos rfl, if_neg hplane]

theorem State.tableLoad_fails {i : Mb} {id : Nat} {f : Frag} {s : State} (hserved : s.served i cmdTableLoad = true)
    (hrun : runTableLoad (s.reqBody i) (s.taken i) = (s.taken i).loadOn ((s.taken i).joined id f) f) (hlast : f.last = true)
    (hcheck : s.tableCheck id ((if f.first then [] else (s.table id).bytes) ++ f.data) = none) :
    ∃ t : State, exec (.tableLoad i) s = t.answered i stCheckFailed [] ∧ (t.table id).st = .invalid := by
  have hload : (s.taken i).loadOn ((s.taken i).joined id f) f = .reply stCheckFailed []
      (((s.taken i).packageJob id ((if f.first then [] else (s.table id).bytes) ++ f.data)).setTable
        { id := id, st := .invalid, nextOff := f.offset + f.data.length, bytes := (if f.first then [] else (s.table id).bytes) ++ f.data }) := by
    simp [State.loadOn, hlast, State.joined, State.taken_table, State.taken_tableCheck, hcheck, Reply.refuse]
  exact ⟨_, State.serve_reply hserved (hrun.trans hload), by rw [State.setTable_table, if_pos rfl]⟩

/-- A write into the surface pool lays its bytes in GDDR7; what it tells the layers touches no byte (R363). -/
theorem State.poolWrite_ram (s : State) (low : Bool) (a : Nat) (bs : List Byte) : (s.poolWrite low a bs).ram = (s.ramWrite a bs).ram := by
  funext b
  unfold State.poolWrite
  dsimp only
  split
  · simp [State.ram, State.memAsk]
  · rfl

theorem State.poolWrite_ramBytes (s : State) (low : Bool) (a b n : Nat) (bs : List Byte) :
    (s.poolWrite low a bs).ramBytes b n = (s.ramWrite a bs).ramBytes b n := by
  simp only [State.ramBytes, State.poolWrite_ram]

theorem State.taken_wf {s : State} (h : Memory.wf s = true) (i : Mb) : Memory.wf (s.taken i) = true := by
  obtain ⟨b, w, htaken⟩ := s.taken_eq i
  rw [htaken]
  exact h

theorem tableLoad_pool {i : Mb} {f : Frag} {s : State} (hserved : s.served i cmdTableLoad = true) (hid : le2 (s.reqBody i) 0 = 0xFF00)
    (hf : fragAt (s.reqBody i) 4 = f) (halign : f.offset % 4 = 0) (hfit : f.offset + f.data.length ≤ 0x40000000) (hwf : Memory.wf s = true) :
    ∃ t : State, exec (.tableLoad i) s = t.answered i stOk (toLe 4 (f.offset + f.data.length)) ∧
      t.ramBytes (0x44000000 + f.offset) f.data.length = f.data ∧
      ∀ a, a < 0x44000000 + f.offset ∨ 0x44000000 + f.offset + f.data.length ≤ a → t.ram a = s.ram a := by
  have hknown : tableKnown 0xFF00 = true := rfl
  have hrun : runTableLoad (s.reqBody i) (s.taken i) =
      .reply stOk (toLe 4 (f.offset + f.data.length)) ((s.taken i).poolWrite false (0x44000000 + f.offset) f.data) := by
    have hfits : ¬0x40000000 < f.offset + f.data.length := by omega
    simp [runTableLoad, hid, hf, hknown, State.poolLoad, halign, hfits, poolBase]
  refine ⟨_, State.serve_reply hserved hrun, ?_, ?_⟩
  · rw [State.poolWrite_ramBytes]
    exact State.ramWrite_ramBytes (State.taken_wf hwf i) _ _
  · intro a ha
    rw [State.poolWrite_ram, State.ramWrite_ram (State.taken_wf hwf i), if_neg (by omega)]
    obtain ⟨b, w, htaken⟩ := s.taken_eq i
    rw [htaken]
    rfl

theorem tableLoad_refuses {i : Mb} {id : Nat} {s : State} (hserved : s.served i cmdTableLoad = true) (hid : le2 (s.reqBody i) 0 = id) :
    (tableKnown id = false → exec (.tableLoad i) s = (s.taken i).answered i stOutOfRange []) ∧
    (tableKnown id = true → id / 256 = 0x20 ∨ id / 256 = 0x21 → exec (.tableLoad i) s = (s.taken i).answered i stReadOnly []) ∧
    (tableKnown id = true → 1 ≤ id / 256 → id / 256 ≤ 3 → s.tableInUse id = true → s.tableOwnerRuns id = true →
      exec (.tableLoad i) s = (s.taken i).answered i stNeedsStop []) := by
  rw [exec_tableLoad]
  refine ⟨fun hunknown => ?_, fun hknown hsense => ?_, fun hknown hlo hhi huse howner => ?_⟩
  · exact State.serve_reply hserved (by simp [runTableLoad, hid, hunknown, Reply.refuse])
  · exact State.serve_reply hserved (by simp [runTableLoad, hid, hknown, hsense, Reply.refuse])
  · have hsense : ¬(id / 256 = 0x20 ∨ id / 256 = 0x21) := by omega
    have hpool : ¬id = 0xFF00 := by omega
    have hstored : ¬(id / 256 = 4 ∨ id / 256 = 5) := by omega
    have hclip : ¬id / 256 = 7 := by omega
    refine State.serve_reply hserved ?_
    simp [runTableLoad, hid, hknown, hsense, hpool, hstored, hclip, State.taken_tableInUse, State.taken_tableOwnerRuns, huse, howner, Reply.refuse]

/-! ## TABLE_READ -/

/-- Of every class that keeps its bytes in the table itself, TABLE_READ reads them (R135). -/
theorem State.tableBytes_stored (s : State) {id : Nat} (hclass : id / 256 ≤ 3 ∨ 5 ≤ id / 256 ∧ id / 256 ≤ 7) :
    s.tableBytes id = (s.table id).bytes := by
  have hsense : id / 256 ≠ 0x20 := by omega
  have hzone : id / 256 ≠ 0x21 := by omega
  have hplane : id / 256 ≠ 4 := by omega
  unfold State.tableBytes
  dsimp only
  split
  · exact absurd ‹_› hsense
  · exact absurd ‹_› hzone
  · exact absurd ‹_› hplane
  · rfl

/-- Settles O31: a fragment joins its table first; what LAST finds then decides. -/
theorem tablesLoadAndRead : Obligations.TablesLoadAndRead := by
  refine ⟨⟨?load, ?refused, ?pool⟩, ?read, ?readPool, ?unknown⟩
  case load =>
    intro i id f s hserved hid hf hlo hhi hknown huse hoff
    have hrun := runTableLoad_joins (s := s.taken i) hid hf hlo hhi hknown
      (by rw [State.taken_tableInUse, State.taken_tableOwnerRuns]; exact huse) (by rw [State.taken_table]; exact hoff)
    exact ⟨fun hlast => State.tableLoad_more hserved hrun hlast, fun b hlast hcheck => State.tableLoad_passes hserved hrun hhi hlast hcheck,
      fun hlast hcheck => State.tableLoad_fails hserved hrun hlast hcheck⟩
  case refused =>
    intro i id s hserved hid
    exact tableLoad_refuses hserved hid
  case pool =>
    intro i f s hserved hid hf halign hfit hwf
    exact tableLoad_pool hserved hid hf halign hfit hwf
  case read =>
    intro i id s hserved hid hknown hpool hclass
    rw [exec_tableRead]
    exact State.serve_reply hserved (by
      simp [runTableRead, hid, hknown, hpool, State.tableBytes_stored _ hclass, State.taken_table, slice, byteAt])
  case readPool =>
    intro i s hserved hid hfit
    have hknown : tableKnown 0xFF00 = true := rfl
    have hfits : ¬0x40000000 < le4 (s.reqBody i) 4 + le2 (s.reqBody i) 2 := by omega
    rw [exec_tableRead]
    exact State.serve_reply hserved (by simp [runTableRead, hid, hknown, hfits, State.taken_ramBytes, poolBase])
  case unknown =>
    intro i s hserved hunknown
    rw [exec_tableRead]
    exact State.serve_reply hserved (by simp [runTableRead, hunknown, Reply.refuse])

end Sys2Proof.Machine
end

section
/-! CLAIM O32. VOTE, PWR_STATE and the entry into standby. -/

namespace Sys2Proof.Machine

theorem exec_vote (i : Mb) (s : State) : exec (.vote i) s = s.serve i (.fixed 0x0070 8 fun p => zeroAt p 5 3) runVote := rfl

theorem exec_pwrState (i : Mb) (s : State) : exec (.pwrState i) s = s.serve i (.fixed 0x0071 4 fun p => zeroAt p 1 3) runPwrState := rfl

theorem exec_standbyEntry (s : State) : exec .standbyEntry s = execStandbyEntry s := rfl

/-- Settling the votes moves the domains' phases and nothing else of the power controller (R509). -/
theorem State.settle_pwr_eq (s : State) : ∃ dom, s.settle.pwr = { s.pwr with dom := dom } := by
  unfold State.settle
  split
  · exact ⟨s.pwr.dom, rfl⟩
  · exact ⟨_, rfl⟩

theorem State.taken_domainField (s : State) (i : Mb) (lo n : Nat) : (s.taken i).domainField lo n = s.domainField lo n := by
  obtain ⟨b, w, h⟩ := s.taken_eq i
  rw [h]
  rfl

theorem State.taken_domFailed (s : State) (i : Mb) (d : Fin 19) : (s.taken i).domFailed d = s.domFailed d := by
  obtain ⟨b, w, h⟩ := s.taken_eq i
  rw [h]
  rfl

theorem State.taken_pnl (s : State) (i : Mb) : (s.taken i).pnl = s.pnl := by
  obtain ⟨b, w, h⟩ := s.taken_eq i
  rw [h]

/-! ## PWR_STATE -/

/-- The run check ends a job at most; the firmware's run vote stays (R511). -/
theorem State.runVote_runCheck (s : State) : (s.runCheck).pwr.runVote = s.pwr.runVote := by simp

theorem State.runVote_resumed (s : State) : (s.resumed).pwr.runVote = true := by
  unfold State.resumed State.autoPanel
  dsimp only
  repeat' split
  all_goals simp

theorem runPwrState_run {p : List Byte} {s : State} (hp : byteAt p 0 = 1)
    (hsound : ∀ d : Fin 19, (s.param 0x0C02).testBit d.val = true → s.domFailed d = false) :
    ∃ after : State → State, runPwrState p s = .accept (toLe 4 s.domainState0 ++ toLe 4 s.domainState1) s after ∧
      ∀ t, (after t).pwr.runVote = true := by
  have hfail : (wakeOrder.filter fun d => (s.param 0x0C02).testBit d.val).any s.domFailed = false := by
    rw [List.any_eq_false]
    intro d hd
    rw [hsound d (List.mem_filter.mp hd).2]
    simp
  refine ⟨_, by simp only [runPwrState, hp, hfail]; rfl, fun t => ?_⟩
  rw [State.runVote_runCheck]
  split
  · exact State.runVote_resumed _
  · rfl

theorem pwrState_runs {i : Mb} {s : State} (hserved : s.served i (.fixed 0x0071 4 fun p => zeroAt p 1 3) = true)
    (hp : byteAt (s.reqBody i) 0 = 1) (hsound : ∀ d : Fin 19, (s.param 0x0C02).testBit d.val = true → s.domFailed d = false) :
    ∃ t, exec (.pwrState i) s = .next t ∧ t.pwr.runVote = true := by
  obtain ⟨after, hgo, hafter⟩ := runPwrState_run (s := s.taken i) hp fun d hd => by
    rw [State.taken_param] at hd
    rw [State.taken_domFailed]
    exact hsound d hd
  refine ⟨_, (exec_pwrState i s).trans (State.serve_accept (k := 0x0071) rfl hserved hgo), ?_⟩
  obtain ⟨dom, hdom⟩ := State.settle_pwr_eq (after ((s.taken i).withJob i 0x0071 (s.mb i).tag
    (toLe 4 (s.taken i).domainState0 ++ toLe 4 (s.taken i).domainState1)))
  rw [hdom]
  exact hafter _

theorem pwrState_sleeps {i : Mb} {s : State} (hserved : s.served i (.fixed 0x0071 4 fun p => zeroAt p 1 3) = true)
    (hp : byteAt (s.reqBody i) 0 = 2 ∨ byteAt (s.reqBody i) 0 = 3) (hoff : s.pnl.st = .off) :
    exec (.pwrState i) s =
      let t := (s.taken i).accepted i 0x0071 (toLe 4 s.domainState0 ++ toLe 4 s.domainState1)
      .next ({ t with pwr := { t.pwr with standby := some { deep := byteAt (s.reqBody i) 0 == 3 }, hostOn := 0, hostRet := 0,
                                          runVote := false, bootVote := false } }).settle := by
  have hgo : runPwrState (s.reqBody i) (s.taken i) = .accept (toLe 4 s.domainState0 ++ toLe 4 s.domainState1) (s.taken i)
      fun t => t.askStandby (byteAt (s.reqBody i) 0 == 3) := by
    rcases hp with h | h
    · simp [runPwrState, h, State.taken_pnl, hoff, State.domainState0, State.domainState1, State.taken_domainField]
    · simp [runPwrState, h, State.taken_pnl, hoff, State.domainState0, State.domainState1, State.taken_domainField]
  rw [exec_pwrState, State.serve_accept (k := 0x0071) rfl hserved hgo, ← State.taken_tag s i]
  rfl

/-! ## STANDBY_ENTRY -/

/-- Putting a domain down leaves every other domain as it was (R511). -/
theorem State.standbyPut_st (s : State) (deep : Bool) (d e : Fin 19) :
    (s.standbyPut deep d).pwr.dom[e].st = if e = d then s.standbyState deep d else s.pwr.dom[e].st := by
  unfold State.standbyPut
  dsimp only
  split
  next hlow => rw [State.onDom_st, hlow]
  next => exact (State.st_of_pwr (State.domLost_pwr _ d _) e).trans (s.onDom_st d e _)

/-- The state standby gives a domain turns on the domain's own state, TAT's vote apart (R511). -/
theorem State.standbyState_congr {s t : State} {deep : Bool} {d : Fin 19} (htat : d ≠ dTat) (h : t.pwr.dom[d].st = s.pwr.dom[d].st) :
    t.standbyState deep d = s.standbyState deep d := by
  simp only [State.standbyState, h, htat, decide_false, Bool.false_and]

theorem State.standbyFold_st (deep : Bool) {e : Fin 19} (htat : e ≠ dTat) (l : List (Fin 19)) (hl : l.Nodup) (s : State) :
    (l.foldl (fun t d => t.standbyPut deep d) s).pwr.dom[e].st = if e ∈ l then s.standbyState deep e else s.pwr.dom[e].st := by
  induction l generalizing s with
  | nil => rfl
  | cons d l ih =>
    obtain ⟨hd, hl⟩ := List.nodup_cons.mp hl
    have hput := s.standbyPut_st deep d e
    rw [List.foldl_cons, ih hl]
    by_cases he : e = d
    · subst he
      rw [if_pos rfl] at hput
      rw [if_neg hd, if_pos List.mem_cons_self, hput]
    · rw [if_neg he] at hput
      simp only [State.standbyState_congr htat hput, hput, List.mem_cons, he, false_or]

/-- CTRL takes nothing of the rest with it: the state of the device is what the others leave (R506). -/
theorem State.domLost_ctrl (s : State) (low : DomState) : s.domLost dCtrl low = s := rfl

theorem State.standbyPut_ctrl_jobs (s : State) (deep : Bool) : (s.standbyPut deep dCtrl).box.jobs = s.box.jobs := by
  unfold State.standbyPut
  dsimp only
  split
  all_goals simp [State.domLost_ctrl]

/-- The state in which every domain but CTRL is down (R511). -/
def State.othersDown (s : State) (deep : Bool) : State :=
  (wakeOrder.drop 1).foldl (fun t d => t.standbyPut deep d) (if deep then s.saveAlwaysOn 1 else s)

theorem State.othersDown_st (s : State) (deep : Bool) {e : Fin 19} (htat : e ≠ dTat) :
    (s.othersDown deep).pwr.dom[e].st = if e = dCtrl then s.pwr.dom[e].st else s.standbyState deep e := by
  have hsave : (if deep then s.saveAlwaysOn 1 else s).pwr = s.pwr := by
    split
    · simp
    · rfl
  have hmem : e ∈ wakeOrder.drop 1 ↔ e ≠ dCtrl := by
    revert e
    decide
  rw [State.othersDown, State.standbyFold_st deep htat _ (by decide)]
  by_cases he : e = dCtrl
  · rw [if_neg (fun h => hmem.mp h he), if_pos he, hsave]
  · rw [if_pos (hmem.mpr he), if_neg he, State.standbyState_congr (s := s) htat (by rw [hsave])]

/-- Every domain is down, and the job of PWR_STATE is over (R511). -/
def State.allDown (s : State) (deep : Bool) : State := ((s.othersDown deep).endJob 0x0071 stOk).standbyPut deep dCtrl

theorem State.allDown_st (s : State) (deep : Bool) {e : Fin 19} (htat : e ≠ dTat) :
    (s.allDown deep).pwr.dom[e].st = s.standbyState deep e := by
  have hother := s.othersDown_st deep htat
  have hjob : ((s.othersDown deep).endJob 0x0071 stOk).pwr = (s.othersDown deep).pwr := by simp
  rw [State.allDown, State.standbyPut_st]
  by_cases he : e = dCtrl
  · rw [if_pos he] at hother
    rw [if_pos he, ← he]
    exact State.standbyState_congr htat (by rw [hjob, hother])
  · rw [if_neg he] at hother
    rw [if_neg he, hjob, hother]

theorem State.allDown_jobs (s : State) (deep : Bool) : (s.allDown deep).box.jobs.all (·.code != 0x0071) = true := by
  rw [State.allDown, State.standbyPut_ctrl_jobs, State.endJob_jobs, List.all_filter]
  simp

/-- What STANDBY_ENTRY leaves of the power controller besides the domains, with the wake timer and the link's votes (R511 to R513). -/
def State.standbyLeft (s : State) (deep : Bool) : State :=
  let u := s.allDown deep
  { u with
    pwr := { u.pwr with standby := none, asleep := true, deep := deep, wakeLatched := 0,
                        wakeTimer := if s.param 0x0C05 = 0 then none else some (s.now + ms (s.param 0x0C05)) }
    hl := { u.hl with vote := false, trainWanted := false, backoff := false } }

theorem State.standbyLeft_power (s : State) (deep : Bool) : (s.standbyLeft deep).pwr.asleep = true ∧ (s.standbyLeft deep).pwr.deep = deep ∧
    (s.standbyLeft deep).pwr.standby = none := by
  simp [State.standbyLeft]

theorem State.standbyLeft_dom (s : State) (deep : Bool) : (s.standbyLeft deep).pwr.dom = (s.allDown deep).pwr.dom := by
  simp only [State.standbyLeft]

theorem State.standbyLeft_box (s : State) (deep : Bool) : (s.standbyLeft deep).box = (s.allDown deep).box := by
  simp only [State.standbyLeft]

theorem standbyEntry_enters {deep : Bool} {s : State} (hst : s.pwr.standby = some { deep := deep }) (hsnap : s.snapBusy = false)
    (hflash : s.flashBusy = false) (hwake : s.pwr.wakeLatched = 0) : exec .standbyEntry s = .next (s.standbyLeft deep).settle := by
  have hlate : ([WakeSource.hlActivity, .hlWake, .picot, .ctl, .svc, .thermal, .timer, .pfw].filter fun w => s.pwr.wakeLatched.getLsbD w.bit) = [] := by
    simp [hwake]
  rw [exec_standbyEntry]
  unfold execStandbyEntry
  rw [hst, hlate]
  dsimp only
  rw [if_neg (by simp [hsnap, hflash])]
  simp only [List.foldl_nil, State.standbyLeft, State.allDown, State.othersDown, done]

theorem State.standbyState_sound {s : State} {deep : Bool} {d : Fin 19} (h : s.pwr.dom[d].st ≠ .failed) (htat : d ≠ dTat) :
    s.standbyState deep d = if d = dCtrl then (if deep then .off else .retention)
      else if d = dMem then (if deep ∨ s.pwr.dom[d].st = .off then .off else .retention) else .off := by
  generalize hst : s.pwr.dom[d].st = st at h ⊢
  cases deep
  · by_cases hoff : st = .off
    · simp only [State.standbyState, hst]
      simp [htat, hoff]
    · simp only [State.standbyState, hst]
      simp [h, htat, hoff]
  · simp only [State.standbyState, hst]
    simp [h, htat]

/-- Settles O32 (log entry 41): a vote and a power state are replies; standby puts each domain where its vote leaves it. -/
theorem votesPowerStatesAndStandby : Obligations.VotesPowerStatesAndStandby := by
  refine ⟨⟨?vote, ?voteRange, ?pwrState⟩, ?waits, ?enters⟩
  case vote =>
    intro i s hserved hmask hact m on ret
    have hmask' : ¬0x7FFFF < le4 (s.reqBody i) 0 := by omega
    have hact' : ¬2 < (byteAt (s.reqBody i) 4).toNat := by omega
    have hone : (byteAt (s.reqBody i) 4).toNat = 1 ↔ byteAt (s.reqBody i) 4 = 1 := by bv_omega
    have htwo : (byteAt (s.reqBody i) 4).toNat = 2 ↔ byteAt (s.reqBody i) 4 = 2 := by bv_omega
    rw [exec_vote]
    refine State.serve_reply hserved ?_
    unfold runVote
    dsimp only
    rw [if_neg (by simp [hmask', hact'])]
    simp only [hone, htwo, State.taken_pwr, m, on, ret]
  case voteRange =>
    intro i s hserved hbad
    rw [exec_vote]
    exact State.serve_reply hserved (by simp [runVote, hbad, Reply.refuse])
  case pwrState =>
    intro i s hserved
    refine ⟨fun hp => ?_, fun hp hpnl => ?_, fun hp hpnl => pwrState_sleeps hserved hp hpnl,
      fun hp hsound => pwrState_runs hserved hp hsound, fun hp => ?_⟩
    · rw [exec_pwrState]
      exact State.serve_reply hserved (by simp [runPwrState, hp, State.domainState0, State.domainState1, State.taken_domainField])
    · rw [exec_pwrState]
      refine State.serve_reply hserved ?_
      rcases hp with h | h
      · simp [runPwrState, h, State.taken_pnl, hpnl, Reply.refuse]
      · simp [runPwrState, h, State.taken_pnl, hpnl, Reply.refuse]
    · rw [exec_pwrState]
      refine State.serve_reply hserved ?_
      unfold runPwrState
      dsimp only
      split
      · omega
      · omega
      · omega
      · omega
      · rfl
  case waits =>
    intro s h
    rw [exec_standbyEntry]
    unfold execStandbyEntry
    split
    · rfl
    · next sb hsb =>
      rw [if_pos (by simpa [hsb] using h)]
  case enters =>
    intro deep s hst hsnap hflash hwake hsound
    obtain ⟨hasleep, hdeep, hstandby⟩ := s.standbyLeft_power deep
    obtain ⟨dom, hdom⟩ := State.settle_pwr_eq (s.standbyLeft deep)
    have hdown (d : Fin 19) (htat : d ≠ dTat) : (s.standbyLeft deep).settle.pwr.dom[d].st = s.standbyState deep d := by
      rw [State.settle_st, State.standbyLeft_dom]
      exact s.allDown_st deep htat
    refine ⟨_, standbyEntry_enters hst hsnap hflash hwake, ?_, ?_, ?_, ?_, ?_, ?_, ?_⟩
    · rw [hdom]
      exact hasleep
    · rw [hdom]
      exact hdeep
    · rw [hdom]
      exact hstandby
    · rw [hdown dCtrl (by decide), State.standbyState_sound (hsound _) (by decide), if_pos rfl]
    · rw [hdown dMem (by decide), State.standbyState_sound (hsound _) (by decide), if_neg (by decide), if_pos rfl]
    · intro d hctrl hmem htat
      rw [hdown d htat, State.standbyState_sound (hsound _) htat, if_neg hctrl, if_neg hmem]
    · rw [State.settle_box, State.standbyLeft_box]
      exact s.allDown_jobs deep

end Sys2Proof.Machine
end

section
/-! CLAIM O33, O34. Power domains: entry, wake, failure and retry, and the wake sources. -/

namespace Sys2Proof.Machine

/-! ## The power controller -/

theorem State.onDom_dom (s : State) (d e : Fin 19) (f : Domain → Domain) :
    (s.onDom d f).pwr.dom[e] = if e = d then f s.pwr.dom[d] else s.pwr.dom[e] := by
  unfold State.onDom
  simp only [Fin.getElem_fin, Vector.getElem_set]
  by_cases h : e = d
  · simp [h]
  · simp [h, Fin.val_ne_of_ne (Ne.symm h)]

/-- Votes that are held back leave the device as it is (R509). -/
theorem State.settle_of_held {s : State} (h : s.votesLive = false) : s.settle = s := by
  simp [State.settle, h]

theorem State.onDom_votesLive (s : State) (d : Fin 19) (f : Domain → Domain) : (s.onDom d f).votesLive = s.votesLive := by
  simp [State.votesLive, State.onDom]

/-- Time that passes moves the residency counts of the power controller and nothing else of it (R520). -/
theorem State.elapse_pwr_eq (s : State) (t : Nat) : ∃ dom, (s.elapse t).pwr = { s.pwr with dom := dom } := by
  unfold State.elapse State.passTicks
  dsimp only
  split
  · exact ⟨s.pwr.dom, rfl⟩
  split
  · exact ⟨s.pwr.dom, rfl⟩
  repeat' split
  all_goals exact ⟨_, by simp; rfl⟩

theorem State.elapse_votesLive (s : State) (t : Nat) : (s.elapse t).votesLive = s.votesLive := by
  obtain ⟨dom, h⟩ := s.elapse_pwr_eq t
  simp [State.votesLive, h]

/-- Settling the votes counts no failure and forgets none. -/
theorem State.settle_fails (s : State) (d : Fin 19) : s.settle.pwr.dom[d].fails = s.pwr.dom[d].fails := by
  unfold State.settle
  split
  · rfl
  · simp only [Fin.getElem_fin, Vector.getElem_mapFinIdx]
    unfold Domain.retarget
    dsimp only
    repeat' split
    all_goals rfl

/-! ## Entry and wake -/

theorem idleTimer_enters {d : Fin 19} {n : Nat} {s : State} (hphase : s.pwr.dom[d].phase = .settled) (hidle : s.pwr.dom[d].idleFrom = some n)
    (hlow : s.pwr.dom[d].target.rank < s.pwr.dom[d].st.rank) (hheld : s.votesLive = false) :
    ∃ t, exec (.idleTimerExpiry d) s = .next t ∧ t.pwr.dom[d].phase = .entering s.pwr.dom[d].target ∧ t.pwr.dom[d].st = s.pwr.dom[d].st ∧
      t.now = max s.now (n + us (s.param (0x0C10 + d))) := by
  have hexec : exec (.idleTimerExpiry d) s = .next (((s.elapse (n + us (s.param (0x0C10 + d)))).onDom d fun y =>
      { y with phase := .entering s.pwr.dom[d].target, idleFrom := none }).settle) := by
    show execIdleTimerExpiry d s = _
    unfold execIdleTimerExpiry
    dsimp only
    rw [hphase, hidle]
    exact if_pos hlow
  rw [State.settle_of_held (by rw [State.onDom_votesLive, State.elapse_votesLive, hheld])] at hexec
  refine ⟨_, hexec, ?_, ?_, ?_⟩
  · rw [State.onDom_dom, if_pos rfl]
  · rw [State.onDom_dom, if_pos rfl]
    exact State.elapse_st s _ d
  · simp

theorem domainEntry_ends {d : Fin 19} {low : DomState} {s : State} (hphase : s.pwr.dom[d].phase = .entering low) :
    ∃ t, exec (.domainEntryDone d) s = .next t ∧ t.pwr.dom[d].st = low := by
  refine ⟨_, by show execDomainEntryDone d s = _; unfold execDomainEntryDone; rw [hphase]; rfl, ?_⟩
  rw [State.settle_st, State.domLost_pwr, State.onDom_st, if_pos rfl]

/-- A walk along domains of which none waits grants nothing (R516). -/
theorem State.grantWalk_idle {s : State} (l : List (Fin 19)) (h : ∀ d ∈ l, s.pwr.dom[d].phase ≠ .queued) : s.grantWalk l = s := by
  induction l with
  | nil => rfl
  | cons d l ih =>
    rw [State.grantWalk, if_pos (by simp [-Fin.getElem_fin, h d List.mem_cons_self])]
    exact ih fun e he => h e (List.mem_cons_of_mem d he)

theorem State.grant_dom (s : State) (d e : Fin 19) : (s.grant d).pwr.dom[e] =
    if e = d then { s.pwr.dom[d] with phase := .waking (s.pwr.dom[d].st == .off) s.now, leftOff := s.pwr.dom[d].st == .off } else s.pwr.dom[e] :=
  s.onDom_dom d e fun x => { x with phase := .waking (s.pwr.dom[d].st == .off) s.now, leftOff := s.pwr.dom[d].st == .off }

theorem wakeGrant_ctrl {s : State} (hphase : s.pwr.dom[dCtrl].phase = .queued)
    (hfit : s.inrushUsed + domCost dCtrl (s.pwr.dom[dCtrl].st == .off) ≤ s.param 0x0C00)
    (hidle : ∀ d : Fin 19, d ≠ dCtrl → s.pwr.dom[d].phase ≠ .queued) :
    ∃ t, exec .wakeGrant s = .next t ∧ t.pwr.dom[dCtrl].phase = .waking (s.pwr.dom[dCtrl].st == .off) s.now ∧
      ∀ d : Fin 19, d ≠ dCtrl → t.pwr.dom[d] = s.pwr.dom[d] := by
  have hrest : ∀ d ∈ wakeOrder.drop 1, (s.grant dCtrl).pwr.dom[d].phase ≠ .queued := by
    intro d hd
    have hne : d ≠ dCtrl := by
      revert d
      decide
    rw [State.grant_dom, if_neg hne]
    exact hidle d hne
  have hwalk : s.grantWalk wakeOrder = s.grant dCtrl := by
    have hdeps : s.depsMet dCtrl = true := by simp [State.depsMet]
    show s.grantWalk (dCtrl :: wakeOrder.drop 1) = _
    rw [State.grantWalk, if_neg (by simp [-Fin.getElem_fin, hphase, hdeps]), if_pos hfit]
    exact State.grantWalk_idle _ hrest
  refine ⟨_, congrArg Host.Outcome.next hwalk, ?_, fun d hd => ?_⟩
  · rw [State.grant_dom, if_pos rfl]
  · rw [State.grant_dom, if_neg hd]

/-- What follows a domain's wake, CTRL's apart, leaves the domains as they are (R514, R517). -/
theorem State.woken_pwr (s : State) (d : Fin 19) : (if d = dHla ∨ d = dHlb then
      ({ s with hl := { s.hl with trainWanted := s.hl.trainWanted || (s.clockPresent && s.hl.vote) } }).tryTrain
    else if d = dTat then s.tatLeave else s.holdAgain d).pwr = s.pwr := by
  repeat' split
  all_goals simp

theorem State.withdrawWakes_dom (s : State) : s.withdrawWakes.pwr.dom = s.pwr.dom := by
  unfold State.withdrawWakes
  split
  all_goals rfl

theorem domainWake_ends {d : Fin 19} {off : Bool} {n : Nat} {s : State} (hphase : s.pwr.dom[d].phase = .waking off n) (hctrl : d ≠ dCtrl) :
    ∃ t, exec (.domainWakeDone d) s = .next t ∧ t.domOn d = true ∧ t.pwr.dom[d].fails = 0 := by
  refine ⟨_, by show execDomainWakeDone d s = _; unfold execDomainWakeDone; rw [hphase]; dsimp only; rw [if_neg hctrl]; rfl, ?_, ?_⟩
  · rw [State.domOn, State.settle_st]
    simp only [State.runCheck_frame, State.warmStage_frame, State.withdrawWakes_dom, State.woken_pwr, State.onDom_dom, if_true]
    rfl
  · rw [State.settle_fails]
    simp only [State.runCheck_frame, State.warmStage_frame, State.withdrawWakes_dom, State.woken_pwr, State.onDom_dom, if_true]

/-! ## Failure and retry -/

theorem exec_wakeFailure {d : Fin 19} {lock off : Bool} {n : Nat} {s : State} (hphase : s.pwr.dom[d].phase = .waking off n)
    (hfails : s.pwr.dom[d].fails = 0) : ∃ data, exec (.wakeFailureTimeout d lock) s = .next (((((s.elapse (n + us (2 * domWakeUs d off))).onDom d fun x =>
      { x with st := .off, phase := .retryOff, fails := 1,
               idleFrom := some (s.elapse (n + us (2 * domWakeUs d off))).now }).domLost d .off).logOnly 0x0D02 .warning 3 data).settle) := by
  refine ⟨(if lock then 2 else 1) * 2 ^ 24 + (if off then 0 else 65536) + d.val, ?_⟩
  show execWakeFailureTimeout d lock s = _
  unfold execWakeFailureTimeout
  rw [hphase]
  exact if_pos hfails

theorem wakeFailure_first {d : Fin 19} {lock off : Bool} {n : Nat} {s : State} (hphase : s.pwr.dom[d].phase = .waking off n)
    (hfails : s.pwr.dom[d].fails = 0) : ∃ t, exec (.wakeFailureTimeout d lock) s = .next t ∧ t.pwr.dom[d].st = .off ∧ t.pwr.dom[d].fails = 1 ∧
      t.now = max s.now (n + us (2 * domWakeUs d off)) := by
  obtain ⟨data, hexec⟩ := exec_wakeFailure (lock := lock) hphase hfails
  refine ⟨_, hexec, ?_, ?_, ?_⟩
  · simp only [State.settle_st, State.logOnly_frame, State.domLost_pwr, State.onDom_dom, if_true]
  · simp only [State.settle_fails, State.logOnly_frame, State.domLost_pwr, State.onDom_dom, if_true]
  · simp

theorem State.cmpEnd_pwr (s : State) (j : CmpJob) (status : Nat) : (s.cmpEnd j status).pwr = s.pwr := by simp

/-- The failure of CODEC or SEC takes no other domain with it (R518). -/
theorem State.failedResponse_pwr (s : State) {d : Fin 19} (h : d = dCodec ∨ d = dSec) : (s.failedResponse d).pwr = s.pwr := by
  rcases h with rfl | rfl
  · exact List.foldlRecOn (motive := fun t : State => t.pwr = s.pwr) s.cmp.jobs _ rfl fun t ht j _ => (t.cmpEnd_pwr j _).trans ht
  · exact s.secOff_pwr

theorem wakeFailure_second {d : Fin 19} {lock off : Bool} {n : Nat} {s : State} (hphase : s.pwr.dom[d].phase = .waking off n)
    (hfails : s.pwr.dom[d].fails ≠ 0) (hd : d = dCodec ∨ d = dSec) :
    ∃ t, exec (.wakeFailureTimeout d lock) s = .next t ∧ t.domFailed d = true := by
  refine ⟨_, by show execWakeFailureTimeout d lock s = _; unfold execWakeFailureTimeout; rw [hphase]; exact if_neg hfails, ?_⟩
  rw [State.domFailed, State.settle_st]
  simp only [State.runCheck_frame, State.failedResponse_pwr _ hd, State.event_frame, State.count_frame, State.markFailed, State.domLost_pwr,
    State.onDom_dom, if_true]
  rfl

theorem retryOff_ends {d : Fin 19} {n : Nat} {s : State} (hphase : s.pwr.dom[d].phase = .retryOff) (hidle : s.pwr.dom[d].idleFrom = some n)
    (hheld : s.votesLive = false) :
    ∃ t, exec (.retryOffExpiry d) s = .next t ∧ t.pwr.dom[d].phase = .queued ∧ t.now = max s.now (n + us (s.param 0x0C06)) := by
  have hexec : exec (.retryOffExpiry d) s = .next (((s.elapse (n + us (s.param 0x0C06))).onDom d fun x =>
      { x with phase := .queued, idleFrom := none, leftOff := true }).settle) := by
    show execRetryOffExpiry d s = _
    unfold execRetryOffExpiry
    rw [hphase, hidle]
    rfl
  rw [State.settle_of_held (by rw [State.onDom_votesLive, State.elapse_votesLive, hheld])] at hexec
  refine ⟨_, hexec, ?_, ?_⟩
  · rw [State.onDom_dom, if_pos rfl]
  · simp

/-- Settles O33: one lemma for each phase a domain leaves. -/
theorem domainsEnterAndWake : Obligations.DomainsEnterAndWake :=
  ⟨fun _ _ _ hphase hidle hlow hheld => idleTimer_enters hphase hidle hlow hheld,
    fun _ _ _ hphase => domainEntry_ends hphase,
    fun _ hphase hfit hidle => wakeGrant_ctrl hphase hfit hidle,
    fun _ _ _ _ hphase hctrl => domainWake_ends hphase hctrl,
    fun _ _ _ _ _ hphase hfails => wakeFailure_first hphase hfails,
    fun _ _ _ _ _ hphase hfails hd => wakeFailure_second hphase hfails hd,
    fun _ _ _ hphase hidle hheld => retryOff_ends hphase hidle hheld⟩

/-! ## Wake sources -/

/-- A wake that counts, in a device that is up with CTRL off, sets its bit and raises its votes (R512, R513). -/
theorem State.qualify_counts {s : State} {w : WakeSource} (hcounts : s.wakeCounts w = true) (hawake : s.pwr.asleep = false)
    (hctrl : s.domOn dCtrl = false) :
    (s.qualify w).win = { s.win with wakeCause := s.win.wakeCause ||| BitVec.ofNat 32 (2 ^ w.bit) } ∧ (s.qualify w).now = s.now ∧
    (s.qualify w).pwr.wakeVote = s.pwr.wakeVote ||| BitVec.ofNat 32 (s.param (0x0C30 + w.bit)) ∧
    (s.qualify w).pwr.wakeTimer = s.pwr.wakeTimer := by
  have hctrl' : ¬s.pwr.dom[dCtrl].st = .on := beq_eq_false_iff_ne.mp hctrl
  unfold State.qualify
  rw [if_neg (by simp [hcounts])]
  dsimp only
  split
  · simp
  · simp [State.wakeServe, hawake, State.withdrawWakes, State.domOn, hctrl', -Fin.getElem_fin]

theorem State.qualify_of_lost {s : State} {w : WakeSource} (h : s.wakeCounts w = false) : s.qualify w = s := by
  simp [State.qualify, h]

theorem State.settle_wakeVote (s : State) : s.settle.pwr.wakeVote = s.pwr.wakeVote := by
  obtain ⟨dom, h⟩ := s.settle_pwr_eq
  rw [h]

theorem State.settle_wakeTimer (s : State) : s.settle.pwr.wakeTimer = s.pwr.wakeTimer := by
  obtain ⟨dom, h⟩ := s.settle_pwr_eq
  rw [h]

/-- A wake source's own bit stands in WAKE_CAUSE once it is set (R123). -/
theorem wakeCause_set (x : BitVec 32) (w : WakeSource) : (x ||| BitVec.ofNat 32 (2 ^ w.bit)).getLsbD w.bit = true := by
  rw [BitVec.getLsbD_or]
  cases w
  all_goals simp [WakeSource.bit]

/-- The state after the votes a counting wake raised have acted (R512). -/
theorem State.woken {s : State} {w : WakeSource} (hcounts : s.wakeCounts w = true) (hawake : s.pwr.asleep = false)
    (hctrl : s.domOn dCtrl = false) :
    (s.qualify w).settle.win.csLow = s.win.csLow ∧ (s.qualify w).settle.win.wakeCause.getLsbD w.bit = true ∧
    (s.qualify w).settle.pwr.wakeVote = s.pwr.wakeVote ||| BitVec.ofNat 32 (s.param (0x0C30 + w.bit)) ∧
    (s.qualify w).settle.now = s.now ∧ (s.qualify w).settle.pwr.wakeTimer = s.pwr.wakeTimer := by
  obtain ⟨hwin, hnow, hvote, htimer⟩ := State.qualify_counts hcounts hawake hctrl
  rw [State.settle_wakeVote, State.settle_wakeTimer, State.settle_win, hwin, hvote, htimer]
  exact ⟨rfl, wakeCause_set _ w, rfl, by simp, rfl⟩

theorem ctlCs_wakes {s : State} (hpowered : s.boot.powered = true) (hcounts : s.wakeCounts .ctl = true) (hawake : s.pwr.asleep = false)
    (hctrl : s.domOn dCtrl = false) : ∃ t, exec .ctlCsWake s = .next t ∧ t.win.csLow = true ∧ t.win.wakeCause.getLsbD 3 = true ∧
      t.pwr.wakeVote = s.pwr.wakeVote ||| BitVec.ofNat 32 (s.param 0x0C33) := by
  obtain ⟨hcs, hcause, hvote, -, -⟩ := State.woken (w := .ctl) (s := { s with win := { s.win with csLow := true, ctlDead := false, ctlDrive := false, quadNow := s.win.quadEn && !s.boot.limp } }) hcounts hawake hctrl
  exact ⟨_, if_neg (by simp [hpowered]), hcs, hcause, hvote⟩

theorem wakeTimer_wakes {n : Nat} {s : State} (htimer : s.pwr.wakeTimer = some n) (hcounts : s.wakeCounts .timer = true)
    (hawake : s.pwr.asleep = false) (hctrl : s.domOn dCtrl = false) :
    ∃ t, exec .wakeTimerExpiry s = .next t ∧ t.pwr.wakeTimer = none ∧ t.win.wakeCause.getLsbD 6 = true ∧ t.now = max s.now n ∧
      t.pwr.wakeVote = s.pwr.wakeVote ||| BitVec.ofNat 32 (s.param 0x0C36) := by
  have hexec : exec .wakeTimerExpiry s = .next (State.qualify { (s.elapse n) with pwr := { (s.elapse n).pwr with wakeTimer := none } } .timer).settle := by
    show execWakeTimerExpiry s = _
    unfold execWakeTimerExpiry
    rw [htimer]
    rfl
  have hcounts' : (s.elapse n).wakeCounts .timer = true := by
    rw [← hcounts]
    simp [State.wakeCounts, State.param, (by decide : (WakeSource.timer != WakeSource.pfw) = true)]
  have hawake' : (s.elapse n).pwr.asleep = false := by rw [State.elapse_asleep, hawake]
  have hctrl' : (s.elapse n).domOn dCtrl = false := by rw [State.elapse_domOn, hctrl]
  obtain ⟨dom, hpwr⟩ := s.elapse_pwr_eq n
  obtain ⟨-, hcause, hvote, hnow, hnone⟩ := State.woken (w := .timer)
    (s := { (s.elapse n) with pwr := { (s.elapse n).pwr with wakeTimer := none } }) hcounts' hawake' hctrl'
  refine ⟨_, hexec, hnone, hcause, hnow.trans (s.elapse_now n), hvote.trans ?_⟩
  show (s.elapse n).pwr.wakeVote ||| BitVec.ofNat 32 ((s.elapse n).param 0x0C36) = _
  rw [hpwr, State.elapse_param]

/-- Settles O34: every source comes down to `qualify`, which sets its bit and raises its votes. -/
theorem wakeSourcesQualify : Obligations.WakeSourcesQualify := by
  refine ⟨?ctl, ?ctlLost, ?svc, ?picot, ?timer, ?lapse⟩
  case ctl => exact fun s hpowered hcounts hawake hctrl => ctlCs_wakes hpowered hcounts hawake hctrl
  case ctlLost =>
    intro s hpowered hcounts
    obtain ⟨p, hp⟩ := done_eq { s with win := { s.win with csLow := true, ctlDead := false, ctlDrive := false, quadNow := s.win.quadEn && !s.boot.limp } }
    refine ⟨p, ?_⟩
    rw [← hp]
    exact (if_neg (by simp [hpowered])).trans (congrArg done (State.qualify_of_lost hcounts))
  case svc =>
    intro s hcounts hawake hctrl
    obtain ⟨-, hcause, hvote, -, -⟩ := State.woken (w := .svc) (s := { s with win := { s.win with sdaHeld := s.boot.powered } }) hcounts hawake hctrl
    exact ⟨_, rfl, hcause, hvote⟩
  case picot =>
    intro s hcounts hawake hctrl
    obtain ⟨-, hcause, hvote, -, -⟩ := State.woken hcounts hawake hctrl
    exact ⟨_, rfl, hcause, hvote⟩
  case timer => exact fun n s htimer hcounts hawake hctrl => wakeTimer_wakes htimer hcounts hawake hctrl
  case lapse =>
    intro s hctrl
    exact ⟨_, if_neg (by simp [hctrl]), by rw [State.settle_wakeVote]⟩

end Sys2Proof.Machine
end

section
/-! CLAIM O35. PANEL_ON, PANEL_OFF and PANEL_SAFE_STOP. -/

namespace Sys2Proof.Machine

theorem exec_panelOn (i : Mb) (s : State) : exec (.panelOn i) s = s.serve i (.bare 0x00D0) fun _ t => t.panelOnReply [] := rfl

theorem exec_panelOff (i : Mb) (s : State) : exec (.panelOff i) s = s.serve i (.fixed 0x00D1 4 fun p => le4 p 0 < 2) runPanelOff := rfl

theorem exec_panelSafeStop (i : Mb) (s : State) : exec (.panelSafeStop i) s = s.serve i (.bare 0x00D2) fun _ t => t.safeStopReply [] := rfl

theorem State.taken_anyFailed (s : State) (i : Mb) (ds : List (Fin 19)) : (s.taken i).anyFailed ds = s.anyFailed ds := by
  obtain ⟨b, w, h⟩ := s.taken_eq i
  rw [h]
  rfl

theorem State.taken_panelSetFails (s : State) (i : Mb) (tab : Bool) : (s.taken i).panelSetFails tab = s.panelSetFails tab := by
  obtain ⟨b, w, h⟩ := s.taken_eq i
  rw [h]
  rfl

theorem State.taken_now (s : State) (i : Mb) : (s.taken i).now = s.now := by
  obtain ⟨b, w, h⟩ := s.taken_eq i
  rw [h]

theorem State.settle_ras (s : State) : s.settle.ras = s.ras := by simp

theorem State.withJob_now (t : State) (i : Mb) (code : Nat) (tag : BitVec 16) (p : List Byte) : (t.withJob i code tag p).now = t.now := by
  simp [State.withJob]

/-! ## PANEL_ON -/

/-- The first step of the power sequence: every used output is driven at logical 0, and no enable is up (R400). -/
theorem State.panelStart_holds (s : State) : s.panelStart.pnl.step = .hold ∧ s.panelStart.pnl.stepAt = s.now ∧ s.panelStart.sel.level = 0 ∧
    s.panelStart.pnl.enables = 0 := by
  simp [State.panelStart, State.panelStep]

theorem panelOn_starts {i : Mb} {s : State} (hserved : s.served i (.bare 0x00D0) = true) (hoff : s.pnl.st = .off)
    (hsound : s.anyFailed [dPipe, dSram0, dSram1, dBobl, dBobr] = false) (hfits : s.panelSetFails true = none) :
    ∃ t, exec (.panelOn i) s = .next t ∧ t.pnl.st = .poweringOn ∧ t.pnl.step = .hold ∧ t.pnl.stepAt = s.now ∧ t.sel.driven = true ∧
      t.sel.level = 0 ∧ t.pnl.enables = 0 ∧ t.box.jobs.map (·.code) = s.box.jobs.map (·.code) ++ [0x00D0] := by
  have hgo : (s.taken i).panelOnReply [] = .accept [] (s.taken i) State.panelStart := by
    simp [State.panelOnReply, State.taken_pnl, hoff, State.taken_anyFailed, hsound, State.taken_panelSetFails, hfits]
  have hexec := (exec_panelOn i s).trans (State.serve_accept (k := 0x00D0) rfl hserved hgo)
  obtain ⟨-, hpnl, -⟩ := State.withJob_frame (s.taken i) i 0x00D0 (s.mb i).tag []
  have hjobs := State.withJob_jobs (s.taken i) i 0x00D0 (s.mb i).tag []
  have hnow := State.withJob_now (s.taken i) i 0x00D0 (s.mb i).tag []
  rw [State.taken_pnl] at hpnl
  rw [State.taken_jobs] at hjobs
  rw [State.taken_now] at hnow
  obtain ⟨hst, hdriven⟩ := State.panelStart_starts (by rw [hpnl, hoff])
  obtain ⟨hstep, hat, hlevel, hen⟩ := State.panelStart_holds (State.withJob (s.taken i) i 0x00D0 (s.mb i).tag [])
  refine ⟨_, hexec, ?_, ?_, ?_, ?_, ?_, ?_, ?_⟩
  · rw [State.settle_pnl, hst]
  · rw [State.settle_pnl, hstep]
  · rw [State.settle_pnl, hat, hnow]
  · simpa using hdriven
  · simpa using hlevel
  · rw [State.settle_pnl, hen]
  · simp [hjobs]

/-! ## PANEL_OFF and PANEL_SAFE_STOP -/

theorem State.dropTransition_ras (s : State) : ∃ tr, s.dropTransition.ras = { s.ras with transition := tr } := by
  unfold State.dropTransition
  cases s.ras.transition with
  | none => exact ⟨_, rfl⟩
  | some t =>
    refine ⟨none, ?_⟩
    dsimp only
    repeat' split
    all_goals simp

theorem State.dropTransition_active (s : State) : s.dropTransition.par.active = s.par.active := by
  unfold State.dropTransition
  dsimp only
  repeat' split
  all_goals simp

/-- The state in which a panel that was on begins to darken (R401). -/
def State.dropped (s : State) : State := (s.senseCut.endPanelOn stBusy).dropTransition

theorem State.dropped_frame (s : State) : s.dropped.pnl = s.pnl ∧ s.dropped.par.active = s.par.active ∧
    ∃ tr, s.dropped.ras = { s.ras with transition := tr } := by
  refine ⟨by simp [State.dropped], ?_, ?_⟩
  · rw [State.dropped, State.dropTransition_active]
    simp
  · obtain ⟨tr, h⟩ := (s.senseCut.endPanelOn stBusy).dropTransition_ras
    exact ⟨tr, by rw [State.dropped, h]; simp⟩

/-- A panel that is on darkens from the row that `cause` names: an orderly stop ends the frame as it stands, a safe stop at the row it has reached (R401, R404). -/
theorem State.panelStop_on {s : State} (cause : Nat) (rest : Bool) (hon : s.pnl.st = .on) (hrun : s.ras.running = true) :
    (s.panelStop cause rest).pnl.st = .darkening ∧ (s.panelStop cause rest).pnl.cause = cause ∧
    (s.panelStop cause rest).pnl.blackLeft = s.param 0x4811 ∧ (s.panelStop cause rest).pnl.restWanted = rest ∧
    (s.panelStop cause rest).ras.running = true ∧
    (s.panelStop cause rest).ras.rowEnd = if cause = 2 ∨ s.ras.inBlank then s.ras.rowEnd else max 1 s.ras.rowsStarted := by
  have hstop : s.panelStop cause rest = s.senseCut.darken cause rest := by
    unfold State.panelStop
    rw [hon]
  obtain ⟨hpnl, hactive, tr, hras⟩ := s.dropped_frame
  have hparam : s.dropped.param 0x4811 = s.param 0x4811 := State.param_congr hactive 0x4811
  have hlit : (s.dropped.panelState .darkening cause).pnl = { s.pnl with st := .darkening, cause := cause } := by
    simp [State.panelState, hpnl, hon]
  have hlitParam : (s.dropped.panelState .darkening cause).param 0x4811 = s.param 0x4811 := by
    rw [← hparam]
    exact State.param_congr (by simp) 0x4811
  have hlitRas : (s.dropped.panelState .darkening cause).ras = { s.ras with transition := tr } := by
    rw [← hras]
    simp
  rw [hstop]
  unfold State.darken
  rw [← State.dropped]
  generalize s.dropped.panelState .darkening cause = u at hlit hlitParam hlitRas
  dsimp only
  rw [if_neg (by simp [hlitRas, hrun])]
  split
  · next h =>
    have h' : cause = 2 ∨ s.ras.inBlank = true := by simpa [hlitRas] using h
    rw [if_pos h']
    simp [hlit, hlitParam, hlitRas, hrun]
  · next h =>
    have h' : ¬(cause = 2 ∨ s.ras.inBlank = true) := by simpa [hlitRas] using h
    rw [if_neg h']
    simp [hlit, hlitParam, hlitRas, hrun]

/-- What an accepted stop makes of a panel that is on (R401, R404). -/
theorem panelStop_accepted {i : Mb} {op : Instr} {s : State} {code cause : Nat} {rest : Bool} {after : State → State}
    (hexec : exec op s = .next (after ((s.taken i).withJob i code (s.mb i).tag [])).settle)
    (hafter : ∀ t : State, t.pnl = s.pnl → t.ras = s.ras → t.par = s.par → ∃ u : State, after t = u.panelStop cause rest ∧
      u.pnl = s.pnl ∧ u.ras = s.ras ∧ u.par = s.par)
    (hon : s.pnl.st = .on) (hrun : s.ras.running = true) :
    ∃ t, exec op s = .next t ∧ t.pnl.st = .darkening ∧ t.pnl.cause = cause ∧ t.pnl.blackLeft = s.param 0x4811 ∧ t.pnl.restWanted = rest ∧
      t.ras.running = true ∧ t.ras.rowEnd = if cause = 2 ∨ s.ras.inBlank then s.ras.rowEnd else max 1 s.ras.rowsStarted := by
  obtain ⟨hpar, hpnl, hras, -⟩ := State.withJob_frame (s.taken i) i code (s.mb i).tag []
  rw [State.taken_par] at hpar
  rw [State.taken_pnl] at hpnl
  rw [State.taken_ras] at hras
  obtain ⟨u, hu, hupnl, huras, hupar⟩ := hafter _ hpnl hras hpar
  obtain ⟨hst, hcause, hblack, hrest, hrunning, hend⟩ := State.panelStop_on (s := u) cause rest (by rw [hupnl, hon]) (by rw [huras, hrun])
  rw [huras] at hend
  rw [State.param_congr (congrArg Params.active hupar)] at hblack
  refine ⟨_, hexec, ?_⟩
  rw [hu, State.settle_pnl, State.settle_ras]
  exact ⟨hst, hcause, hblack, hrest, hrunning, hend⟩

theorem panelOff_darkens {i : Mb} {s : State} (hserved : s.served i (.fixed 0x00D1 4 fun p => le4 p 0 < 2) = true) (hon : s.pnl.st = .on)
    (hrun : s.ras.running = true) :
    ∃ t, exec (.panelOff i) s = .next t ∧ t.pnl.st = .darkening ∧ t.pnl.cause = 2 ∧ t.pnl.blackLeft = s.param 0x4811 ∧
      t.pnl.restWanted = (le4 (s.reqBody i) 0).testBit 0 ∧ t.ras.running = true ∧ t.ras.rowEnd = s.ras.rowEnd := by
  have hgo : runPanelOff (s.reqBody i) (s.taken i) = .accept [] (s.taken i) fun t => t.panelStop 2 ((le4 (s.reqBody i) 0).testBit 0) := by
    simp [runPanelOff, State.taken_pnl, hon, bit]
  have hexec := (exec_panelOff i s).trans (State.serve_accept (k := 0x00D1) rfl hserved hgo)
  have hafter (t : State) (hpnl : t.pnl = s.pnl) (hras : t.ras = s.ras) (hpar : t.par = s.par) :
      ∃ u : State, t.panelStop 2 ((le4 (s.reqBody i) 0).testBit 0) = u.panelStop 2 ((le4 (s.reqBody i) 0).testBit 0) ∧ u.pnl = s.pnl ∧
        u.ras = s.ras ∧ u.par = s.par := ⟨t, rfl, hpnl, hras, hpar⟩
  simpa using panelStop_accepted (cause := 2) (after := fun t => t.panelStop 2 ((le4 (s.reqBody i) 0).testBit 0)) hexec hafter hon hrun

theorem panelSafeStop_darkens {i : Mb} {s : State} (hserved : s.served i (.bare 0x00D2) = true) (hon : s.pnl.st = .on)
    (hrun : s.ras.running = true) :
    ∃ t, exec (.panelSafeStop i) s = .next t ∧ t.pnl.st = .darkening ∧ t.pnl.cause = 3 ∧ t.pnl.blackLeft = s.param 0x4811 ∧
      t.pnl.restWanted = false ∧ t.ras.running = true ∧ t.ras.rowEnd = if s.ras.inBlank then s.ras.rowEnd else max 1 s.ras.rowsStarted := by
  have hgo : (s.taken i).safeStopReply [] = .accept [] (s.taken i) fun t => (t.count 1028 1).panelStop 3 false := by
    simp [State.safeStopReply, State.taken_pnl, hon]
  have hexec := (exec_panelSafeStop i s).trans (State.serve_accept (k := 0x00D2) rfl hserved hgo)
  have hafter (t : State) (hpnl : t.pnl = s.pnl) (hras : t.ras = s.ras) (hpar : t.par = s.par) :
      ∃ u : State, (t.count 1028 1).panelStop 3 false = u.panelStop 3 false ∧ u.pnl = s.pnl ∧ u.ras = s.ras ∧ u.par = s.par :=
    ⟨t.count 1028 1, rfl, by simp [hpnl], by simp [hras], by simp [hpar]⟩
  simpa using panelStop_accepted (cause := 3) (after := fun t => (t.count 1028 1).panelStop 3 false) hexec hafter hon hrun

/-- Settles O35: the panel's state decides each reply, and the two that darken go through the panel's change. -/
theorem panelCommandsAct : Obligations.PanelCommandsAct := by
  refine ⟨?on, ?off, ?safeStop⟩
  case on =>
    intro i s hserved
    refine ⟨fun hoff hsound hfits => panelOn_starts hserved hoff hsound hfits, fun hoff hfailed => ?_, fun hoff hsound hfits => ?_, fun hon => ?_,
      fun hoff hon => ?_⟩
    · exact State.serve_reply hserved (by simp [State.panelOnReply, State.taken_pnl, hoff, State.taken_anyFailed, hfailed, Reply.refuse])
    · exact State.serve_reply hserved (by
        simp [State.panelOnReply, State.taken_pnl, hoff, State.taken_anyFailed, hsound, State.taken_panelSetFails, Option.isSome_iff_ne_none, hfits,
          Reply.refuse])
    · exact State.serve_reply hserved (by simp [State.panelOnReply, State.taken_pnl, hon])
    · refine State.serve_reply hserved ?_
      unfold State.panelOnReply
      rw [State.taken_pnl]
      split
      · exact absurd ‹_› hon
      · exact absurd ‹_› hoff
      · rfl
  case off =>
    intro i s hserved
    refine ⟨fun hoff => ?_, fun hon hrun => panelOff_darkens hserved hon hrun⟩
    exact State.serve_reply hserved (by simp [runPanelOff, State.taken_pnl, hoff])
  case safeStop =>
    intro i s hserved
    refine ⟨fun hoff => ?_, fun hon hrun => panelSafeStop_darkens hserved hon hrun⟩
    exact State.serve_reply hserved (by simp [State.safeStopReply, State.taken_pnl, hoff])

end Sys2Proof.Machine
end

section
/-! CLAIM O36. The panel's power sequence, Bobbin training and the rest sweep. -/

namespace Sys2Proof.Machine

theorem State.settle_bob (s : State) : s.settle.bob = s.bob := by simp

/-! ## What goes out over Bobbin -/

/-- Sending changes what goes out and when, and nothing else of the links (R379). -/
theorem State.sendTrain_bob (s : State) (phase : Nat) : ∃ out outAt, (s.sendTrain phase).bob = { s.bob with out := out, outAt := outAt } :=
  ⟨_, _, rfl⟩

theorem State.sendFill_bob (s : State) : ∃ out outAt, s.sendFill.bob = { s.bob with out := out, outAt := outAt } := ⟨_, _, rfl⟩

theorem State.sendPackets_bob (s : State) (f : Nat → List BobPacket) (l : List Nat) :
    ∃ out outAt, (s.sendPackets f l).bob = { s.bob with out := out, outAt := outAt } := ⟨_, _, rfl⟩

/-- An attempt begins in phase 1, with no driver heard (R388). -/
theorem State.trainAttempt_bob (s : State) (n : Nat) : (s.trainAttempt n).bob.phase = 1 ∧ (s.trainAttempt n).bob.attempt = n ∧
    (s.trainAttempt n).bob.lockState = 1 ∧ (s.trainAttempt n).bob.driversOk = 0 := by
  unfold State.trainAttempt
  simp only [State.count_frame]
  exact ⟨rfl, rfl, rfl, rfl⟩

theorem State.beginTraining_bob (s : State) : s.beginTraining.bob.phase = 1 ∧ s.beginTraining.bob.attempt = 1 ∧
    s.beginTraining.bob.lockState = 1 ∧ s.beginTraining.bob.driversOk = 0 := State.trainAttempt_bob _ 1

theorem State.beginTraining_st (s : State) : s.beginTraining.pnl.st = .training := by
  have h : s.beginTraining.pnl = ((s.panelState .training 1).panelStep .none).pnl := by simp [State.beginTraining]
  rw [h]
  exact s.panelState_st .training 1

/-! ## Powering on -/

theorem exec_panelPowerOnStep {s : State} (hst : s.pnl.st = .poweringOn) (hl : s.domOn dBobl = true) (hr : s.domOn dBobr = true) :
    exec .panelPowerOnStep s = match s.pnl.step with
    | .hold => done (s.powerNext (us 10) 0)
    | .enable k => done (s.powerNext 0 (k + 1))
    | .settle => done (s.elapse (s.pnl.stepAt + us (s.param 0x4810))).beginTraining
    | _ => .next s :=
  if_neg (by simp [hst, hl, hr])

theorem State.enableFrom_lt {s : State} {k j : Nat} (h : s.enableFrom k = some j) : j < 4 :=
  List.mem_range.mp (List.mem_of_find?_eq_some h)

/-- Raising a selection output raises its bit (R398). -/
theorem State.selPut_level (s : State) {f : Nat} (hf : f < 64) : (s.selPut f true).sel.level.getLsbD f = true := by
  have hbit : (BitVec.ofNat 64 (2 ^ f)).getLsbD f = true := by
    rw [BitVec.getLsbD_ofNat, Nat.testBit_two_pow_self]
    simp [hf]
  simp only [State.selPut, if_true, BitVec.getLsbD_or, hbit, Bool.or_true]

theorem State.powerNext_enables {s : State} {hold k j : Nat} (hnext : s.enableFrom k = some j) (hst : s.pnl.st = .poweringOn) :
    ∃ t, done (s.powerNext hold k) = .next t ∧ t.pnl.enables = s.pnl.enables ||| BitVec.ofNat 4 (2 ^ j) ∧
      t.sel.level.getLsbD (0x1B + j) = true ∧ t.pnl.st = .poweringOn ∧ t.now = max s.now (s.pnl.stepAt + hold + us (s.param (0x4808 + j))) := by
  have hj := State.enableFrom_lt hnext
  have hgo : s.powerNext hold k = (s.elapse (s.pnl.stepAt + hold + us (s.param (0x4808 + j)))).assertEnable j := by
    rw [State.powerNext, hnext]
  refine ⟨_, rfl, ?_, ?_, ?_, ?_⟩
  · rw [hgo, State.settle_pnl]
    simp [State.assertEnable, State.panelStep]
  · have hlevel := State.selPut_level (s.elapse (s.pnl.stepAt + hold + us (s.param (0x4808 + j)))) (f := 0x1B + j) (by omega)
    rw [hgo]
    simpa [State.assertEnable, State.panelStep] using hlevel
  · rw [hgo, State.settle_pnl]
    simp [State.assertEnable, State.panelStep, hst]
  · rw [hgo]
    simp

theorem panelPowerOn_settled {s : State} (hst : s.pnl.st = .poweringOn) (hl : s.domOn dBobl = true) (hr : s.domOn dBobr = true)
    (hstep : s.pnl.step = .settle) :
    ∃ t, exec .panelPowerOnStep s = .next t ∧ t.pnl.st = .training ∧ t.bob.phase = 1 ∧ t.bob.attempt = 1 ∧ t.bob.lockState = 1 ∧
      t.bob.driversOk = 0 ∧ t.now = max s.now (s.pnl.stepAt + us (s.param 0x4810)) := by
  have hexec : exec .panelPowerOnStep s = .next (s.elapse (s.pnl.stepAt + us (s.param 0x4810))).beginTraining.settle := by
    rw [exec_panelPowerOnStep hst hl hr, hstep]
    rfl
  obtain ⟨hphase, hattempt, hlock, hok⟩ := (s.elapse (s.pnl.stepAt + us (s.param 0x4810))).beginTraining_bob
  have hbob : (s.elapse (s.pnl.stepAt + us (s.param 0x4810))).beginTraining.settle.bob =
      (s.elapse (s.pnl.stepAt + us (s.param 0x4810))).beginTraining.bob := by simp
  refine ⟨_, hexec, ?_, by rw [hbob, hphase], by rw [hbob, hattempt], by rw [hbob, hlock], by rw [hbob, hok], by simp⟩
  rw [State.settle_pnl, State.beginTraining_st]

/-! ## Training -/

/-- Every driver is asked for what it can do, and the initialisation list is sent (R388). -/
theorem State.configDrivers_bob (s : State) : s.configDrivers.bob.phase = 4 ∧ s.configDrivers.bob.initList = s.bobInit := by
  have hlanes (b : Bobbin) : ((List.range 6).foldl (fun b l => b.setLane l ((s.laneDrivers l).map .caps)) b).phase = b.phase ∧
      ((List.range 6).foldl (fun b l => b.setLane l ((s.laneDrivers l).map .caps)) b).initList = b.initList :=
    List.foldlRecOn (motive := fun c : Bobbin => c.phase = b.phase ∧ c.initList = b.initList) _ _ ⟨rfl, rfl⟩ fun c hc l _ => hc
  obtain ⟨hphase, hinit⟩ := hlanes { s.bob with phase := 4, initList := s.bobInit }
  exact ⟨hphase, hinit⟩

theorem State.trained_bob (s : State) : s.trained.bob.lockState = if s.bob.lineHigh then 2 else 3 := by
  unfold State.trained
  simp only [State.panelState_frame]
  rfl

theorem State.trained_st (s : State) : s.trained.pnl.st = .on := State.panelState_st _ .on 7

theorem State.trained_ready {s : State} (hst : s.pnl.st = .training) : s.trained.boot.panelReady = true := by
  simp [State.trained, State.panelState, hst]

theorem State.trainFailed_again {s : State} (h : s.bob.attempt < s.param 0x4007) : s.trainFailed = s.trainAttempt (s.bob.attempt + 1) := if_pos h

/-- The discharge step begins, for the cause that is named (R401). -/
theorem State.discharge_begins (s : State) (cause : Nat) : (s.discharge cause).pnl.step = .discharge ∧
    (s.pnl.st ≠ .poweringOff → (s.discharge cause).pnl.cause = cause) := by
  refine ⟨rfl, fun hst => ?_⟩
  simp [State.discharge, State.panelStep, State.panelState, State.emitOff, hst]

theorem State.trainFailed_over {s : State} (h : s.param 0x4007 ≤ s.bob.attempt) :
    ∃ mask, s.trainFailed = (s.event 0x4001 .error true 2 (s.bob.attempt * 2 ^ 24 + mask)).discharge 6 :=
  ⟨_, if_neg (by omega)⟩

theorem exec_trainingPhaseEnd {s : State} (hst : s.pnl.st = .training) : exec .bobbinTrainingPhaseEnd s =
    let at_ (n : Nat) : State := s.elapse (s.bob.attemptAt + us n)
    match s.bob.phase with
    | 1 => let t := at_ 100; .next (State.sendTrain { t with bob := { t.bob with phase := 2 } } 2)
    | 2 => let t := at_ 150; .next (State.sendTrain { t with bob := { t.bob with phase := 3 } } 3)
    | 3 => .next (if s.bob.lineHigh then s else at_ (s.param 0x4005)).configDrivers
    | 4 =>
      if s.driversLeft.isEmpty then done s.trained
      else done (at_ (s.param 0x4005 + s.param 0x4006)).trainFailed
    | _ => .next s := if_neg (by simp [hst])

theorem training_fails {s : State} (hst : s.pnl.st = .training) (hphase : s.bob.phase = 4) (hleft : s.driversLeft ≠ []) :
    exec .bobbinTrainingPhaseEnd s = done (s.elapse (s.bob.attemptAt + us (s.param 0x4005 + s.param 0x4006))).trainFailed := by
  rw [exec_trainingPhaseEnd hst, hphase]
  exact if_neg (by simpa using hleft)

theorem bobbinTraining_proceeds {s : State} (hst : s.pnl.st = .training) :
    (s.bob.phase = 1 → ∃ t, exec .bobbinTrainingPhaseEnd s = .next t ∧ t.bob.phase = 2 ∧ t.now = max s.now (s.bob.attemptAt + us 100)) ∧
    (s.bob.phase = 2 → ∃ t, exec .bobbinTrainingPhaseEnd s = .next t ∧ t.bob.phase = 3 ∧ t.now = max s.now (s.bob.attemptAt + us 150)) ∧
    (s.bob.phase = 3 → ∃ t, exec .bobbinTrainingPhaseEnd s = .next t ∧ t.bob.phase = 4 ∧ t.bob.initList = s.bobInit) := by
  refine ⟨fun hphase => ?_, fun hphase => ?_, fun hphase => ?_⟩
  · have hexec : exec .bobbinTrainingPhaseEnd s = .next (State.sendTrain { (s.elapse (s.bob.attemptAt + us 100)) with
        bob := { (s.elapse (s.bob.attemptAt + us 100)).bob with phase := 2 } } 2) := by
      rw [exec_trainingPhaseEnd hst, hphase]
      rfl
    exact ⟨_, hexec, rfl, by simp⟩
  · have hexec : exec .bobbinTrainingPhaseEnd s = .next (State.sendTrain { (s.elapse (s.bob.attemptAt + us 150)) with
        bob := { (s.elapse (s.bob.attemptAt + us 150)).bob with phase := 3 } } 3) := by
      rw [exec_trainingPhaseEnd hst, hphase]
      rfl
    exact ⟨_, hexec, rfl, by simp⟩
  · have hexec : exec .bobbinTrainingPhaseEnd s =
        .next (if s.bob.lineHigh then s else s.elapse (s.bob.attemptAt + us (s.param 0x4005))).configDrivers := by
      rw [exec_trainingPhaseEnd hst, hphase]
      rfl
    obtain ⟨h4, hinit⟩ := State.configDrivers_bob (if s.bob.lineHigh then s else s.elapse (s.bob.attemptAt + us (s.param 0x4005)))
    refine ⟨_, hexec, h4, hinit.trans ?_⟩
    split
    · rfl
    · simp only [State.bobInit, State.elapse_param]

theorem bobbinTraining_ends {s : State} (hst : s.pnl.st = .training) (hphase : s.bob.phase = 4) :
    (s.driversLeft = [] →
      ∃ t, exec .bobbinTrainingPhaseEnd s = .next t ∧ t.pnl.st = .on ∧ t.boot.panelReady = true ∧ t.bob.lockState = (if s.bob.lineHigh then 2 else 3)) ∧
    (s.driversLeft ≠ [] → s.bob.attempt < s.param 0x4007 →
      ∃ t, exec .bobbinTrainingPhaseEnd s = .next t ∧ t.pnl.st = .training ∧ t.bob.attempt = s.bob.attempt + 1 ∧ t.bob.phase = 1) ∧
    (s.driversLeft ≠ [] → s.param 0x4007 ≤ s.bob.attempt →
      ∃ t, exec .bobbinTrainingPhaseEnd s = .next t ∧ t.pnl.st = .poweringOff ∧ t.pnl.cause = 6 ∧ t.pnl.step = .discharge) := by
  refine ⟨fun hnone => ?_, fun hleft hmore => ?_, fun hleft hlast => ?_⟩
  · have hexec : exec .bobbinTrainingPhaseEnd s = .next s.trained.settle := by
      rw [exec_trainingPhaseEnd hst, hphase]
      exact if_pos (by simp [hnone])
    have hbob : s.trained.settle.bob = s.trained.bob := by simp
    exact ⟨_, hexec, by rw [State.settle_pnl, State.trained_st], by rw [State.settle_boot, State.trained_ready hst], by rw [hbob, State.trained_bob]⟩
  · have hexec := training_fails hst hphase hleft
    rw [State.trainFailed_again (by rw [State.elapse_param]; simpa using hmore)] at hexec
    obtain ⟨h1, hattempt, -, -⟩ := State.trainAttempt_bob (s.elapse (s.bob.attemptAt + us (s.param 0x4005 + s.param 0x4006)))
      ((s.elapse (s.bob.attemptAt + us (s.param 0x4005 + s.param 0x4006))).bob.attempt + 1)
    refine ⟨_, hexec, ?_, ?_, ?_⟩
    · rw [State.settle_pnl]
      simp [hst]
    · rw [State.settle_bob, hattempt]
      simp
    · rw [State.settle_bob, h1]
  · have hexec := training_fails hst hphase hleft
    obtain ⟨mask, hover⟩ := State.trainFailed_over (s := s.elapse (s.bob.attemptAt + us (s.param 0x4005 + s.param 0x4006)))
      (by rw [State.elapse_param]; simpa using hlast)
    rw [hover] at hexec
    generalize hu : (s.elapse (s.bob.attemptAt + us (s.param 0x4005 + s.param 0x4006))).event 0x4001 .error true 2
      ((s.elapse (s.bob.attemptAt + us (s.param 0x4005 + s.param 0x4006))).bob.attempt * 2 ^ 24 + mask) = u at hexec
    have hust : u.pnl.st = .training := by
      rw [← hu]
      simp [hst]
    obtain ⟨hstep, hcause⟩ := u.discharge_begins 6
    exact ⟨_, hexec, by rw [State.settle_pnl, State.discharge_st], by rw [State.settle_pnl, hcause (by simp [hust])], by rw [State.settle_pnl, hstep]⟩

/-! ## Powering off -/

/-- Searched from the top, a range gives its highest number that passes. -/
theorem find?_reverse_range {p : Nat → Bool} {n k : Nat} (hk : k < n) (hp : p k = true) (habove : ∀ j, k < j → j < n → p j = false) :
    (List.range n).reverse.find? p = some k := by
  induction n with
  | zero => omega
  | succ n ih =>
    rw [List.range_succ, List.reverse_append, List.reverse_singleton, List.singleton_append, List.find?_cons]
    by_cases h : k = n
    · rw [← h, hp]
    · rw [habove n (by omega) (by omega)]
      exact ih (by omega) fun j hkj hj => habove j hkj (by omega)

theorem find?_reverse_range_none {p : Nat → Bool} {n : Nat} (h : ∀ j, j < n → p j = false) : (List.range n).reverse.find? p = none := by
  rw [List.find?_eq_none]
  intro j hj
  simp [h j (by simpa using hj)]

/-- With the last enable down the panel is off and its outputs are released (R403). -/
theorem State.panelOffDone_off (s : State) : s.panelOffDone.pnl.st = .off ∧ s.panelOffDone.pnl.step = .none ∧ s.panelOffDone.pnl.enables = 0 ∧
    s.panelOffDone.sel.driven = false ∧ s.panelOffDone.bob.lockState = 0 := by
  have hst := s.panelState_st .off s.pnl.cause
  unfold State.panelOffDone
  dsimp only
  split
  all_goals simp only [State.orderlyShutdown_frame, State.endJob_frame, State.endPanelOn_frame, State.panelStep, hst, and_self]

theorem State.off_settled (s : State) : s.panelOffDone.settle.pnl.st = .off ∧ s.panelOffDone.settle.pnl.step = .none ∧
    s.panelOffDone.settle.pnl.enables = 0 ∧ s.panelOffDone.settle.sel.driven = false ∧ s.panelOffDone.settle.bob.lockState = 0 := by
  have h := s.panelOffDone_off
  obtain ⟨p, hp⟩ := s.panelOffDone.settle_eq
  rw [hp]
  exact h

/-- The state in which the edges of the discharge step have run (R402). -/
theorem exec_dischargeStepEnd {s : State} (hstep : s.pnl.step = .discharge) : ∃ u : State, u.pnl = s.pnl ∧
    exec .dischargeStepEnd s = match (List.range 4).reverse.find? fun k => bit (s.param 0x4807) k with
      | some k => done (u.panelStep (.disable k))
      | none => done u.panelOffDone := by
  have hexec : exec .dischargeStepEnd s = execDischargeStepEnd s := rfl
  have hparam (t : Nat) (es : List Placed) : ((s.elapse t).runEdges es).param 0x4807 = s.param 0x4807 := State.param_congr (by simp) _
  unfold execDischargeStepEnd at hexec
  rw [if_neg (by simp [hstep])] at hexec
  dsimp only at hexec
  rw [hparam] at hexec
  refine ⟨_, ?_, hexec⟩
  simp only [State.runEdges_frame, State.elapse_frame]

theorem dischargeStep_ends {s : State} (hstep : s.pnl.step = .discharge) :
    (∀ k, k < 4 → (s.param 0x4807).testBit k = true → (∀ j, k < j → j < 4 → (s.param 0x4807).testBit j = false) →
      ∃ t, exec .dischargeStepEnd s = .next t ∧ t.pnl.step = .disable k ∧ t.pnl.st = s.pnl.st) ∧
    ((∀ j, j < 4 → (s.param 0x4807).testBit j = false) →
      ∃ t, exec .dischargeStepEnd s = .next t ∧ t.pnl.st = .off ∧ t.pnl.step = .none ∧ t.sel.driven = false ∧ t.bob.lockState = 0) := by
  obtain ⟨u, hpnl, hexec⟩ := exec_dischargeStepEnd hstep
  refine ⟨fun k hk hbit habove => ?_, fun hnone => ?_⟩
  · have hfind : ((List.range 4).reverse.find? fun k => bit (s.param 0x4807) k) = some k := find?_reverse_range hk hbit habove
    rw [hfind] at hexec
    refine ⟨_, hexec, ?_, ?_⟩
    · rw [State.settle_pnl]
      rfl
    · rw [State.settle_pnl, ← hpnl]
      rfl
  · have hfind : ((List.range 4).reverse.find? fun k => bit (s.param 0x4807) k) = none := find?_reverse_range_none hnone
    rw [hfind] at hexec
    obtain ⟨hst, hnostep, -, hdriven, hlock⟩ := u.off_settled
    exact ⟨_, hexec, hst, hnostep, hdriven, hlock⟩

/-- The state in which enable `k` has fallen (R403). -/
theorem exec_panelPowerOffStep {s : State} {k : Nat} (hstep : s.pnl.step = .disable k) :
    ∃ u : State, u.pnl = { s.pnl with enables := s.pnl.enables &&& ~~~(BitVec.ofNat 4 (2 ^ k)) } ∧
      exec .panelPowerOffStep s = match (List.range k).reverse.find? fun j => bit (s.param 0x4807) j with
        | some j => done (u.panelStep (.disable j))
        | none => done u.panelOffDone := by
  have hexec : exec .panelPowerOffStep s = execPanelPowerOffStep s := rfl
  have hparam (t : Nat) (p : Panel) : State.param { ((s.elapse t).selPut (0x1B + k) false) with pnl := p } 0x4807 = s.param 0x4807 :=
    State.param_congr (by simp) _
  unfold execPanelPowerOffStep at hexec
  rw [hstep] at hexec
  dsimp only at hexec
  rw [hparam] at hexec
  refine ⟨_, ?_, hexec⟩
  simp only [State.selPut_frame, State.elapse_frame]

theorem panelPowerOff_steps {k : Nat} {s : State} (hstep : s.pnl.step = .disable k) :
    (∀ j, j < k → (s.param 0x4807).testBit j = true → (∀ m, j < m → m < k → (s.param 0x4807).testBit m = false) →
      ∃ t, exec .panelPowerOffStep s = .next t ∧ t.pnl.step = .disable j ∧ t.pnl.enables = s.pnl.enables &&& ~~~(BitVec.ofNat 4 (2 ^ k))) ∧
    ((∀ j, j < k → (s.param 0x4807).testBit j = false) →
      ∃ t, exec .panelPowerOffStep s = .next t ∧ t.pnl.st = .off ∧ t.pnl.enables = 0 ∧ t.sel.driven = false) := by
  obtain ⟨u, hpnl, hexec⟩ := exec_panelPowerOffStep hstep
  refine ⟨fun j hj hbit habove => ?_, fun hnone => ?_⟩
  · have hfind : ((List.range k).reverse.find? fun j => bit (s.param 0x4807) j) = some j := find?_reverse_range hj hbit habove
    rw [hfind] at hexec
    refine ⟨_, hexec, ?_, ?_⟩
    · rw [State.settle_pnl]
      rfl
    · rw [State.settle_pnl]
      exact congrArg Panel.enables hpnl
  · have hfind : ((List.range k).reverse.find? fun j => bit (s.param 0x4807) j) = none := find?_reverse_range_none hnone
    rw [hfind] at hexec
    obtain ⟨hst, -, hen, hdriven, -⟩ := u.off_settled
    exact ⟨_, hexec, hst, hen, hdriven⟩

/-! ## The rest sweep -/

/-- Edges of the waveform move outputs only (R402). -/
theorem State.runEdges_saddr (s : State) (es : List Placed) : (s.runEdges es).sel.saddr = s.sel.saddr := by
  unfold State.runEdges
  refine List.foldlRecOn (motive := fun t : State => t.sel.saddr = s.sel.saddr) _ _ rfl fun t ht e _ => ?_
  split
  · exact ht
  · exact ht

theorem State.restRow_counts (s : State) (rs : List (BitVec 16)) : (s.restRow rs).prk.restRows = s.prk.restRows + 1 ∧
    (s.restRow rs).sel.saddr = s.sweepRow s.prk.restRows := by
  simp [State.restRow]

theorem State.applyCommit_rest (s : State) (c : Commit) : (s.applyCommit c).prk.rest = s.prk.rest := by
  unfold State.applyCommit State.applyValues
  dsimp only
  simp only [State.odTablesEvent_frame, State.ladderChange_frame]
  split
  all_goals simp

theorem State.funcClear_rest (s : State) (f : Func) : (s.funcClear f).prk.rest = s.prk.rest := by
  cases f
  all_goals simp [State.funcClear, State.senseReset]

theorem State.funcTake_rest (s : State) (p : FuncPend) (n : BitVec 32) : (s.funcTake p n).prk.rest = s.prk.rest := by
  unfold State.funcTake
  dsimp only
  repeat' split
  all_goals simp [State.funcClear_rest]

theorem State.funcNow_rest (s : State) (p : FuncPend) : (s.funcNow p).prk.rest = s.prk.rest := by
  unfold State.funcNow
  dsimp only
  refine List.foldlRecOn (motive := fun t : State => t.prk.rest = s.prk.rest) _ _ ?_ fun t ht q _ => (t.funcTake_rest q _).trans ht
  exact s.funcTake_rest p _

theorem State.funcFlush_rest (s : State) : s.funcFlush.prk.rest = s.prk.rest := by
  unfold State.funcFlush
  dsimp only
  simp only [State.liveStarts_frame]
  exact List.foldlRecOn (motive := fun t : State => t.prk.rest = s.prk.rest) _ _ rfl fun t ht p _ => (t.funcNow_rest p).trans ht

theorem State.rasterStop_rest (s : State) : s.rasterStop.prk.rest = s.prk.rest := by
  unfold State.rasterStop
  split
  · rfl
  · have hcommits (t : State) (l : List Commit) : (l.foldl State.applyCommit t).prk.rest = t.prk.rest :=
      List.foldlRecOn (motive := fun u : State => u.prk.rest = t.prk.rest) _ _ rfl fun u hu c _ => (u.applyCommit_rest c).trans hu
    dsimp only
    simp only [State.raiseRetired_frame, State.funcFlush_rest]
    split
    all_goals simp [hcommits]

theorem State.discharge_rest (s : State) (cause : Nat) : (s.discharge cause).prk.rest = s.prk.rest := by
  have h : (s.discharge cause).prk = s.rasterStop.prk := by simp [State.discharge, State.panelStep, State.emitOff]
  rw [h, State.rasterStop_rest]

theorem State.restEnd_rest (s : State) (how : Nat) : (s.restEnd how).prk.rest = false := by
  unfold State.restEnd
  split
  · next h => simpa using h
  · simp

/-- The sweep is over, and the discharge step begins (R340). -/
theorem State.restEnd_discharges (s : State) (how cause : Nat) : ((s.restEnd how).discharge cause).settle.prk.rest = false ∧
    ((s.restEnd how).discharge cause).settle.pnl.st = .poweringOff ∧ ((s.restEnd how).discharge cause).settle.pnl.step = .discharge := by
  obtain ⟨hstep, -⟩ := (s.restEnd how).discharge_begins cause
  have hprk : ((s.restEnd how).discharge cause).settle.prk = ((s.restEnd how).discharge cause).prk := by simp
  exact ⟨by rw [hprk, State.discharge_rest, State.restEnd_rest], by rw [State.settle_pnl, State.discharge_st], by rw [State.settle_pnl, hstep]⟩

/-- The state in which the sweep has sensed its row, and the row's edges have run (R339). -/
theorem exec_restSweepRow {s : State} (rs : List (BitVec 16)) (hst : s.pnl.st = .restSweep) : ∃ u : State,
    u.prk.restRows = s.prk.restRows + 1 ∧ u.sel.saddr = s.sweepRow s.prk.restRows ∧ u.pnl = s.pnl ∧
    exec (.restSweepRow rs) s = if s.prk.restRows + 1 < s.param 0x2802 then done u else done ((u.restEnd 1).discharge u.pnl.cause) := by
  obtain ⟨hrows, hsaddr⟩ := s.restRow_counts rs
  have hrows' : ((s.restRow rs).runEdges (s.segEdges 3 s.now)).prk.restRows = s.prk.restRows + 1 := by simp [hrows]
  refine ⟨_, hrows', ?_, ?_, ?_⟩
  · rw [State.runEdges_saddr, hsaddr]
  · simp
  · show execRestSweepRow rs s = _
    unfold execRestSweepRow
    rw [if_neg (by simp [hst])]
    dsimp only
    rw [hrows', State.param_congr (t := State.runEdges _ _) (s := s) (by simp)]

/-- Settles O36: one lemma for each phase of the sequence, of training and of the sweep. -/
theorem panelSequenceSteps : Obligations.PanelSequenceSteps := by
  refine ⟨⟨?powerOn, ?training, ?fall, ?rise, ?discharge, ?powerOff⟩, ?row, ?last, ?limit⟩
  case powerOn =>
    intro j s hst hl hr
    refine ⟨fun hstep hnext => ?_, fun k hstep hnext => ?_, fun hstep => panelPowerOn_settled hst hl hr hstep⟩
    · rw [exec_panelPowerOnStep hst hl hr, hstep]
      exact State.powerNext_enables hnext hst
    · rw [exec_panelPowerOnStep hst hl hr, hstep]
      exact State.powerNext_enables hnext hst
  case training =>
    intro s hst
    obtain ⟨h1, h2, h3⟩ := bobbinTraining_proceeds hst
    exact ⟨h1, h2, h3, fun h4 => (bobbinTraining_ends hst h4).1, fun h4 => (bobbinTraining_ends hst h4).2.1,
      fun h4 => (bobbinTraining_ends hst h4).2.2⟩
  case fall =>
    intro s
    show execBobLockNFall s = _
    unfold execBobLockNFall
    by_cases hlock : s.bob.lockState = 2
    · by_cases hdark : s.pnl.st = .darkening
      · simp [hlock, hdark]
      · simp [hlock, hdark]
    · simp [hlock]
  case rise =>
    intro s
    show execBobLockNRise s = _
    unfold execBobLockNRise
    by_cases hlock : s.bob.lockState = 3
    · simp [hlock]
    · simp [hlock]
  case discharge => exact fun s hstep => dischargeStep_ends hstep
  case powerOff => exact fun k s _ hstep => panelPowerOff_steps hstep
  case row =>
    intro rs s hst hmore
    obtain ⟨u, hrows, hsaddr, hpnl, hexec⟩ := exec_restSweepRow rs hst
    rw [if_pos hmore] at hexec
    obtain ⟨p, hp⟩ := u.settle_eq
    refine ⟨_, hexec, ?_, ?_, ?_⟩
    · rw [hp, hrows]
    · rw [hp, hsaddr]
    · rw [State.settle_pnl, hpnl, hst]
  case last =>
    intro rs s hst hlast
    obtain ⟨u, -, -, -, hexec⟩ := exec_restSweepRow rs hst
    rw [if_neg (by omega)] at hexec
    exact ⟨_, hexec, u.restEnd_discharges 1 _⟩
  case limit =>
    intro s hst
    exact ⟨_, if_neg (by simp [hst]), s.restEnd_discharges 2 _⟩

end Sys2Proof.Machine
end

section
/-! SUPPORT. What writing records and stores touches of the flash state. -/

namespace Sys2Proof.Machine

/-- Programming NOR flash changes its cells and nothing else of the flash state (R475). -/
theorem State.norProgram_nv (s : State) (a : Nat) (bs : List Byte) : ∃ nor, (s.norProgram a bs).nv = { s.nv with nor := nor } := by
  induction bs generalizing s a with
  | nil => exact ⟨_, rfl⟩
  | cons v vs ih =>
    obtain ⟨nor, h⟩ := ih { s with nv := { s.nv with nor := cellWrite flashBg s.nv.nor a (s.norByte a &&& v) } } (a + 1)
    exact ⟨nor, h⟩

theorem State.formatNext_nv (s : State) (bank : Bool) : ∃ nor, (s.formatNext bank).nv = { s.nv with nor := nor } := by
  unfold State.formatNext
  split
  · exact ⟨_, rfl⟩
  · exact State.norProgram_nv s _ _

theorem State.ensureRoom_nv (s : State) (bank : Bool) : ∃ nor, (s.ensureRoom bank).nv = { s.nv with nor := nor } := by
  unfold State.ensureRoom
  split
  · exact s.formatNext_nv bank
  · split
    · exact s.formatNext_nv bank
    · exact ⟨_, rfl⟩

/-- A copy of a record goes into NOR flash alone (R479). -/
theorem State.writeCopy_nv (s : State) (bank : Bool) (key seq : Nat) (payload : List Byte) :
    ∃ nor, (s.writeCopy bank key seq payload).nv = { s.nv with nor := nor } := by
  unfold State.writeCopy
  dsimp only
  split
  · exact ⟨_, rfl⟩
  · next a _ =>
    obtain ⟨n1, h1⟩ := s.ensureRoom_nv bank
    obtain ⟨n2, h2⟩ := (s.ensureRoom bank).norProgram_nv a (recordBody key seq payload)
    obtain ⟨n3, h3⟩ := ((s.ensureRoom bank).norProgram a (recordBody key seq payload)).norProgram_nv (a + 12 + payload.length) [0x5A]
    obtain ⟨n4, h4⟩ := (((s.ensureRoom bank).norProgram a (recordBody key seq payload)).norProgram (a + 12 + payload.length) [0x5A]).ensureRoom_nv bank
    refine ⟨n4, ?_⟩
    simp only [State.count_frame, h4, h3, h2, h1]

theorem State.recWrite_nv (s : State) (key : Nat) (payload : List Byte) :
    ∃ nor ties, (s.recWrite key payload).nv = { s.nv with nor := nor, ties := ties } := by
  unfold State.recWrite
  split
  · exact ⟨_, _, rfl⟩
  · obtain ⟨nor, h⟩ := List.foldlRecOn (motive := fun t : State => ∃ nor, t.nv = { s.nv with nor := nor }) (s.updatePlan key)
      (fun t p => t.writeCopy p.1 key p.2 payload) ⟨_, rfl⟩ fun t ht p _ => by
        obtain ⟨n1, h1⟩ := ht
        obtain ⟨n2, h2⟩ := t.writeCopy_nv p.1 key p.2 payload
        exact ⟨n2, by rw [h2, h1]⟩
    dsimp only
    exact ⟨nor, _, by rw [h]⟩

/-- A stream written into NAND flash changes its cells and nothing else of the flash state (R486). -/
theorem State.writeRun_nv (s : State) (first : Nat) (bytes : List Byte) : ∃ nand, (s.writeRun first bytes).nv = { s.nv with nand := nand } := by
  unfold State.writeRun
  exact List.foldlRecOn (motive := fun t : State => ∃ nand, t.nv = { s.nv with nand := nand }) _ _ ⟨_, rfl⟩ fun t ht i _ => by
    obtain ⟨nand, h⟩ := ht
    exact ⟨_, by rw [State.nandWrite, h]⟩

theorem State.writeRun_stores (s : State) (first : Nat) (bytes : List Byte) : (s.writeRun first bytes).nv.stores = s.nv.stores := by
  obtain ⟨nand, h⟩ := s.writeRun_nv first bytes
  rw [h]

theorem State.eraseRun_stores (s u : State) (b n : Nat) :
    ((List.range n).foldl (fun t i => t.nandErase (262144 * u.physBlock (b + i)) 262144) s).nv.stores = s.nv.stores :=
  List.foldlRecOn (motive := fun t : State => t.nv.stores = s.nv.stores) _ _ rfl fun _ ht _ _ => ht

theorem State.dirCommit_stores (s : State) (e : DirEntry) : (s.dirCommit e).nv.stores = s.nv.stores := by
  unfold State.dirCommit
  dsimp only
  generalize overlay _ _ _ = payload
  obtain ⟨nor, ties, h⟩ := s.recWrite_nv (dirPlace e.object).1 payload
  rw [h]

/-- A store commits its blocks and their directory entry, and no other store ends with it (R486). -/
theorem State.nandStore_stores (s : State) (o gen level : Nat) (x : IndexExtra) (data : List Byte) :
    (s.nandStore o gen level x data).1.nv.stores = s.nv.stores := by
  unfold State.nandStore
  dsimp only
  generalize (if s.param 0x1C02 = 1 then verifyFails level data else 0) = bad
  generalize (if objRegion o = 3 then 288 else _) = blocks
  split
  · simp
  · split
    · simp
    · simp only [State.dirCommit_stores, State.writeRun_stores, State.eraseRun_stores, State.cmpAccount_frame, State.count_frame]

end Sys2Proof.Machine
end

section
/-! CLAIM O37. Sensing, update passes, snapshots and map stores. -/

namespace Sys2Proof.Machine

/-! ## Requests of a lane -/

theorem Bobbin.lane_setLane (b : Bobbin) {l m : Nat} (hm : m < 6) (rs : List LaneReq) :
    (b.setLane m rs).lane l = if l = m then rs else b.lane l := by
  simp only [Bobbin.lane, Bobbin.setLane, Vector.toList_setIfInBounds, List.getD_eq_getElem?_getD, List.getElem?_set]
  by_cases h : l = m
  · simp [h, hm]
  · simp [h, Ne.symm h]

/-- Each of the first `n` lanes gets requests of its own behind those that wait. -/
theorem lane_appended (b : Bobbin) (g : Nat → List LaneReq) {n : Nat} (hn : n ≤ 6) (l : Nat) :
    ((List.range n).foldl (fun b l => b.setLane l (b.lane l ++ g l)) b).lane l = if l < n then b.lane l ++ g l else b.lane l := by
  induction n with
  | zero => rfl
  | succ n ih =>
    rw [List.range_succ, List.foldl_append, List.foldl_cons, List.foldl_nil, Bobbin.lane_setLane _ (by omega)]
    by_cases h : l = n
    · rw [if_pos h, h]
      have hn' := ih (by omega)
      rw [h, if_neg (by omega)] at hn'
      rw [hn', if_pos (by omega)]
    · rw [if_neg h, ih (by omega)]
      by_cases hl : l < n
      · rw [if_pos hl, if_pos (by omega)]
      · rw [if_neg hl, if_neg (by omega)]

theorem State.sendRequests_lanes (s : State) (ls : List Nat) : (s.sendRequests ls).bob.lanes = s.bob.lanes := rfl

theorem State.sendRequests_lane (s : State) (ls : List Nat) (l : Nat) : (s.sendRequests ls).bob.lane l = s.bob.lane l := rfl

theorem State.sendRequests_driversOk (s : State) (ls : List Nat) : (s.sendRequests ls).bob.driversOk = s.bob.driversOk := rfl

theorem State.pollRoundEnd_lanes (s : State) : s.pollRoundEnd.bob.lanes = s.bob.lanes := by
  unfold State.pollRoundEnd
  split
  · rfl
  · simp

theorem State.takeStatus_lanes (s : State) (g v : Nat) : (s.takeStatus g v).bob.lanes = s.bob.lanes := by
  simp [State.takeStatus]

/-- A reply, or none in time, ends the oldest request of its lane (R394, R395). -/
theorem State.laneReply_lane {s : State} {l : Nat} {r : LaneReq} {rest : List LaneReq} (hl : l < 6) (h : s.bob.lane l = r :: rest)
    (p : Option (Nat × Nat × List Byte)) : (s.laneReply l p).bob.lane l = rest := by
  have hlanes : (s.laneReply l p).bob.lanes = (s.bob.setLane l rest).lanes := by
    unfold State.laneReply
    rw [h]
    dsimp only
    repeat' split
    all_goals simp [State.pollRoundEnd_lanes, State.takeStatus_lanes, State.sendRequests_lanes]
  have hset := s.bob.lane_setLane (l := l) hl rest
  rw [if_pos rfl] at hset
  rw [Bobbin.lane, hlanes]
  exact hset

theorem laneReply_ends {l : Fin 6} {m : List (BitVec 10)} {r : LaneReq} {rest : List LaneReq} {s : State} (h : s.bob.lane l = r :: rest) :
    (∃ t, exec (.senseReturnReply l m) s = .next t ∧ t.bob.lane l = rest) ∧ ∃ t, exec (.replyTimeout l) s = .next t ∧ t.bob.lane l = rest := by
  have hend (p : Option (Nat × Nat × List Byte)) : (s.laneReply l p).settle.bob.lane l = rest := by
    rw [State.settle_bob]
    exact State.laneReply_lane l.isLt h p
  exact ⟨⟨_, rfl, hend _⟩, ⟨_, rfl, hend _⟩⟩

theorem senseReturn_found {l : Fin 6} {m : List (BitVec 10)} {p : List Byte} {g : Nat} {rest : List LaneReq} {s : State}
    (h : s.bob.lane l = .caps g :: rest) (hm : senseHear m = some (2, g, p)) (hlen : p.length = 12) (haddr : le2 p 0 = 0)
    (hn : byteAt p 2 = 4) (hlanes : s.param 0x4002 ≤ bits (le2 p 10) 15 12) (hcols : s.param 0x4003 ≤ bits (le2 p 10) 11 0) :
    ∃ t, exec (.senseReturnReply l m) s = .next t ∧ t.bob.driversOk = s.bob.driversOk ||| BitVec.ofNat 24 (2 ^ g) := by
  refine ⟨(s.laneReply l (senseHear m)).settle, rfl, ?_⟩
  rw [State.settle_bob, hm]
  simp only [State.laneReply, h, haddr, hn, hlen, hlanes, hcols, decide_true, Bool.and_self, if_true, State.sendRequests_driversOk]
  rfl

/-- The links with a poll of each driver behind what its lane waits for (R395). -/
def State.polled (s : State) : Bobbin :=
  (List.range 6).foldl (fun b l => b.setLane l (b.lane l ++ (s.laneDrivers l).map .poll))
    { s.bob with zoneSrc := Vector.ofFn fun (i : Fin 24) => s.param (0x4070 + i) }

theorem State.polled_lane (s : State) {l : Nat} (hl : l < 6) : s.polled.lane l = s.bob.lane l ++ (s.laneDrivers l).map .poll := by
  have h := lane_appended { s.bob with zoneSrc := Vector.ofFn fun (i : Fin 24) => s.param (0x4070 + i) }
    (fun l => (s.laneDrivers l).map .poll) (Nat.le_refl 6) l
  rw [if_pos hl] at h
  unfold State.polled
  rw [h]
  simp only [Bobbin.lane]

theorem tempPoll_asks {s : State} (h : s.bob.lockState = 2 ∨ s.bob.lockState = 3) :
    ∃ t, exec .tempPoll s = .next t ∧ ∀ l, l < 6 → t.bob.lane l = s.bob.lane l ++ (s.laneDrivers l).map .poll := by
  have hgoes : ¬(s.bob.lockState ≠ 2 && s.bob.lockState ≠ 3) = true := by
    rcases h with h | h
    · simp [h]
    · simp [h]
  have hexec : exec .tempPoll s = .next (State.sendRequests { s with bob := s.polled } s.freeLanes) := if_neg hgoes
  exact ⟨_, hexec, fun l hl => (State.sendRequests_lane _ _ l).trans (s.polled_lane hl)⟩

/-! ## Sensed rows -/

theorem sensedRow_joins {k : Fin 4} {r : Nat} {s : State} (hblank : s.ras.inBlank = true) (hk : k.val = s.prk.blank.rows.length)
    (hdue : s.prk.senseDue[k.val]? = some r) :
    ∃ t, exec (.sensedRow k) s = .next t ∧ t.prk.blank.rows = s.prk.blank.rows ++ [r] ∧ t.sel.saddr = r ∧
      t.prk.sweepK = (if s.prk.sweepFresh then s.prk.sweepK else if s.param 0x2802 ≤ s.prk.sweepK + 1 then 0 else s.prk.sweepK + 1) := by
  have hexec : exec (.sensedRow k) s = execSensedRow k s := rfl
  unfold execSensedRow at hexec
  dsimp only at hexec
  rw [hdue] at hexec
  dsimp only at hexec
  rw [if_neg (by simp [hblank, hk])] at hexec
  refine ⟨_, hexec, ?_, ?_, ?_⟩
  all_goals simp

theorem State.senseClear_due (s : State) : s.senseClear.prk.senseDue = s.prk.senseDue := by
  unfold State.senseClear
  split
  · rfl
  · rfl

theorem senseBlank_takes {s : State} (hsenses : s.blankSenses true = true) (hstep : s.thm.step < 2)
    (hfit : s.prk.sweepK + s.param 0x3408 ≤ s.param 0x2802) :
    (s.senseBlank true).prk.senseDue = (List.range (s.param 0x3408)).map fun i => s.sweepRow (s.prk.sweepK + i) := by
  have hcool : ¬2 ≤ s.thm.step := by omega
  unfold State.senseBlank
  dsimp only
  rw [State.senseClear_due]
  simp only [State.count_frame, hsenses, hcool, decide_false, Bool.false_and, Bool.not_false, Bool.and_self, if_true]
  refine List.map_congr_left fun i hi => ?_
  have hi' := List.mem_range.mp hi
  rw [Nat.mod_eq_of_lt (by omega)]

/-! ## Update passes -/

/-- Small numbers survive being stored in a field of their width. -/
theorem signed_unsigned_byte {x : Int} (hlo : -128 ≤ x) (hhi : x ≤ 127) : signed 8 (unsigned 8 x % 2 ^ 8) = x := by
  simp only [signed, unsigned]
  omega

theorem recField_recSet_offset {r c v : Nat} (hc : c < 3) : recField (recSet r 0 c v) 0 c = v % 2 ^ 8 := by
  obtain rfl | rfl | rfl : c = 0 ∨ c = 1 ∨ c = 2 := by omega
  all_goals
    simp only [recField, recSet, planeField]
    omega

theorem recField_recSet_gain {r c v : Nat} (hc : c < 3) : recField (recSet r 1 c v) 1 c = v % 2 ^ 8 := by
  obtain rfl | rfl | rfl : c = 0 ∨ c = 1 ∨ c = 2 := by omega
  all_goals
    simp only [recField, recSet, planeField]
    omega

/-- GAIN of a subpixel stands beside its OFFSET. -/
theorem recField_recSet_beside {r c v : Nat} (hc : c < 3) : recField (recSet r 1 c v) 0 c = recField r 0 c := by
  obtain rfl | rfl | rfl : c = 0 ∨ c = 1 ∨ c = 2 := by omega
  all_goals
    simp only [recField, recSet, planeField]
    omega

theorem recSet_lt {r c v plane : Nat} (hc : c < 3) (hplane : plane < 2) (hr : r < 256 ^ 16) : recSet r plane c v < 256 ^ 16 := by
  obtain rfl | rfl | rfl : c = 0 ∨ c = 1 ∨ c = 2 := by omega
  all_goals
    obtain rfl | rfl : plane = 0 ∨ plane = 1 := by omega
    all_goals
      simp only [recField, recSet, planeField]
      omega

theorem State.ramWrite_wf {s : State} (h : Memory.wf s = true) (a : Nat) (bs : List Byte) : Memory.wf (s.ramWrite a bs) = true := by
  obtain ⟨hram, hnor, hnand⟩ := (Memory.wf_iff s).1 h
  refine (Memory.wf_iff _).2 ⟨?_, by simpa using hnor, by simpa using hnand⟩
  simpa using s.ramWrite_ramWf a bs rfl hram

theorem State.prkRec_congr {s t : State} (hmem : t.mem = s.mem) (hpar : t.par = s.par) (x y : Nat) : t.prkRec x y = s.prkRec x y := by
  simp only [State.prkRec, State.prkAddr, State.prkStride, State.param, State.ramBytes, State.ram, hmem, hpar]

/-- A field that is set reads back in its pixel's record (R330). -/
theorem State.prkSet_rec {s : State} (h : Memory.wf s = true) {x y plane c v : Nat} (hc : c < 3) (hplane : plane < 2) :
    (s.prkSet x y plane c v).prkRec x y = recSet (s.prkRec x y) plane c v := by
  have hlt : recSet (s.prkRec x y) plane c v < 256 ^ 16 := recSet_lt hc hplane (leAt_lt _ 0 16)
  have haddr : (s.prkSet x y plane c v).prkAddr x y = s.prkAddr x y := by
    simp only [State.prkAddr, State.prkStride, State.param, State.prkSet_frame]
  have hbytes := s.ramWrite_ramBytes h (s.prkAddr x y) (toLe 16 (recSet (s.prkRec x y) plane c v))
  rw [toLe_length] at hbytes
  rw [State.prkRec, haddr, State.prkSet, hbytes, leAt_toLe, Nat.mod_eq_of_lt hlt]

/-- A fold stands in its pixel's record (R338). -/
theorem State.writeFold_rec {s : State} (h : Memory.wf s = true) {f : Fold} (hc : f.c < 3) (hoLo : -128 ≤ f.offset) (hoHi : f.offset ≤ 127)
    (hgLo : -128 ≤ f.gain) (hgHi : f.gain ≤ 127) :
    recInt ((s.writeFold f).prkRec (f.px % s.param 0x2801) (f.px / s.param 0x2801)) 0 f.c = f.offset ∧
    recInt ((s.writeFold f).prkRec (f.px % s.param 0x2801) (f.px / s.param 0x2801)) 1 f.c = f.gain := by
  have hrec : (s.writeFold f).prkRec (f.px % s.param 0x2801) (f.px / s.param 0x2801) =
      recSet (recSet (s.prkRec (f.px % s.param 0x2801) (f.px / s.param 0x2801)) 0 f.c (unsigned 8 f.offset)) 1 f.c (unsigned 8 f.gain) := by
    generalize hx : f.px % s.param 0x2801 = x
    generalize hy : f.px / s.param 0x2801 = y
    have hcong : (s.writeFold f).prkRec x y =
        ((s.prkSet x y 0 f.c (unsigned 8 f.offset)).prkSet x y 1 f.c (unsigned 8 f.gain)).prkRec x y := by
      refine State.prkRec_congr ?_ ?_ x y
      · simp [State.writeFold, hx, hy]
      · simp
    have hwf : Memory.wf (s.prkSet x y 0 f.c (unsigned 8 f.offset)) = true := s.ramWrite_wf h _ _
    rw [hcong, State.prkSet_rec (plane := 1) hwf hc (by decide), State.prkSet_rec (plane := 0) h hc (by decide)]
  rw [hrec]
  simp only [recInt, planeField, if_neg (by decide : ¬(0 : Nat) = 5), if_neg (by decide : ¬(1 : Nat) = 5)]
  rw [recField_recSet_beside hc, recField_recSet_offset hc, recField_recSet_gain hc]
  exact ⟨signed_unsigned_byte hoLo hoHi, signed_unsigned_byte hgLo hgHi⟩

/-- The state in which a pass has aged every subpixel (R333). -/
def State.aged (s : State) : State :=
  if s.ageingActs then
    (List.range (3 * s.param 0x2801 * s.param 0x2802)).foldl (fun t i => t.ageOne (i / 3 % s.param 0x2801) (i / 3 / s.param 0x2801) (i % 3)) s
  else s

theorem State.aged_par (s : State) : s.aged.par = s.par := by
  unfold State.aged
  split
  · exact List.foldlRecOn (motive := fun u : State => u.par = s.par) _ _ rfl fun u hu i _ => by simp [hu]
  · rfl

theorem exec_updatePassDone {s : State} (hon : s.prk.passOn = true) (hpricks : s.prkNeutral = false) : ∃ u : State,
    u.prk.passOn = false ∧ u.prk.folds = [] ∧ u.par = s.par ∧ u.mem = (s.prk.folds.foldl State.writeFold s.aged).mem ∧
    exec .updatePassDone s = done u := by
  have hpar : (s.prk.folds.foldl State.writeFold s.aged).par = s.par :=
    List.foldlRecOn (motive := fun u : State => u.par = s.par) _ _ s.aged_par fun u hu f _ => by simp [hu]
  have hexec : exec .updatePassDone s = execUpdatePassDone s := rfl
  unfold execUpdatePassDone at hexec
  rw [if_neg (by simp [hon]), if_neg (by simp [hpricks])] at hexec
  dsimp only at hexec
  rw [← State.aged] at hexec
  split at hexec
  · refine ⟨_, ?_, ?_, ?_, ?_, hexec⟩
    · rfl
    · rfl
    · exact hpar
    · rfl
  · refine ⟨_, ?_, ?_, ?_, ?_, hexec⟩
    · simp
    · simp
    · simpa using hpar
    · simp

theorem updatePassDone_ends {s : State} (hon : s.prk.passOn = true) :
    ∃ t, exec .updatePassDone s = .next t ∧ t.prk.passOn = false ∧ t.prk.folds = if s.prkNeutral then s.prk.folds else [] := by
  cases hneutral : s.prkNeutral with
  | true =>
    have hexec : exec .updatePassDone s = .next { s with prk := { s.prk with passOn := false } } := by
      show execUpdatePassDone s = _
      unfold execUpdatePassDone
      rw [if_neg (by simp [hon]), if_pos hneutral]
    exact ⟨_, hexec, rfl, rfl⟩
  | false =>
    obtain ⟨u, hoff, hfolds, -, -, hexec⟩ := exec_updatePassDone hon hneutral
    obtain ⟨p, hp⟩ := u.settle_eq
    refine ⟨_, hexec, ?_, ?_⟩
    · rw [hp, hoff]
    · rw [hp, hfolds]
      rfl

theorem updatePassDone_folds {f : Fold} {s : State} (hon : s.prk.passOn = true) (hpricks : s.prkNeutral = false) (hfold : s.prk.folds = [f])
    (hage : s.ageingActs = false) (hwf : Memory.wf s = true) (hc : f.c < 3) (hoLo : -128 ≤ f.offset) (hoHi : f.offset ≤ 127)
    (hgLo : -128 ≤ f.gain) (hgHi : f.gain ≤ 127) :
    ∃ t, exec .updatePassDone s = .next t ∧
      recInt (t.prkRec (f.px % s.param 0x2801) (f.px / s.param 0x2801)) 0 f.c = f.offset ∧
      recInt (t.prkRec (f.px % s.param 0x2801) (f.px / s.param 0x2801)) 1 f.c = f.gain := by
  obtain ⟨u, -, -, hpar, hmem, hexec⟩ := exec_updatePassDone hon hpricks
  rw [hfold, State.aged, hage] at hmem
  obtain ⟨p, hp⟩ := u.settle_eq
  have hrec (x y : Nat) : u.settle.prkRec x y = (s.writeFold f).prkRec x y := by
    refine State.prkRec_congr ?_ ?_ x y
    · rw [hp]
      exact hmem
    · rw [hp]
      simp [hpar]
  refine ⟨_, hexec, ?_⟩
  rw [hrec]
  exact State.writeFold_rec hwf hc hoLo hoHi hgLo hgHi

/-! ## Snapshots and map stores -/

theorem State.snapWant_fails (s : State) : s.snapWant.prk.snapFails = s.prk.snapFails := by
  unfold State.snapWant
  dsimp only
  split
  · rfl
  · simp [State.snapInstant, State.memAsk]

theorem State.snapFail_counts {s : State} (hshut : s.prk.shutdownSnap = false) :
    s.snapFail.prk.snapFails = if s.prk.snapFails = 0 then 1 else 0 := by
  unfold State.snapFail
  dsimp only
  split
  · rw [State.snapWant_fails]
  · rw [if_neg (by simp [hshut])]
    simp

theorem snapshotStart_wants {s : State} (hnone : s.prk.snap = .none) (hfit : s.param 0x4800 = 1) (hacc : s.param 0x3410 = 1)
    (hrun : s.ras.running = true) (hwait : s.prk.snapWaitUntil = none) (hmem : s.memLost = false) (hlacks : s.storeLacks = false) :
    ∃ t, exec .snapshotStart s = .next t ∧ t.prk.snap = .wanted := by
  have hexec : exec .snapshotStart s = .next (State.snapWant { s with prk := { s.prk with snapWaitUntil := none } }).settle := by
    show execSnapshotStart s = _
    unfold execSnapshotStart
    dsimp only
    rw [if_neg (by simp [hnone, hfit, hacc, hrun, hwait, hmem, hlacks])]
    rfl
  obtain ⟨p, hp⟩ := (State.snapWant { s with prk := { s.prk with snapWaitUntil := none } }).settle_eq
  refine ⟨_, hexec, ?_⟩
  rw [hp]
  simp [State.snapWant, hrun]

/-- The state of the store of a completed snapshot, and whether it is sound (R345). -/
def State.snapStored (s : State) : State × Bool :=
  s.takeGen.2.nandStore (objSnap (1 - s.nv.snapSlot % 2)) s.nv.storeGen s.prk.snapLevel
    { planeGen := 0, snapPlaneGens := s.prk.snapGens.toList, snapPanelOn := s.prk.snapPanelOn } s.prk.snapData

theorem snapshotComplete_stores {s : State} (hsnap : s.prk.snap = .copying ∨ s.prk.snap = .compressing) (hshut : s.prk.shutdownSnap = false)
    (hlacks : s.storeLacks = false) :
    ∃ t, exec (.snapshotComplete false) s = .next t ∧
      if s.snapStored.2 then t.prk.snap = .none ∧ t.nv.snapGen = s.nv.storeGen ∧ t.nv.snapSlot = 1 - s.nv.snapSlot % 2 ∧ t.nv.nand = s.snapStored.1.nv.nand
      else t.prk.snapFails = (if s.prk.snapFails = 0 then 1 else 0) := by
  have hgoes : ¬(s.prk.snap ≠ .copying && s.prk.snap ≠ .compressing) = true := by
    rcases hsnap with h | h
    · simp [h]
    · simp [h]
  have hprk : s.snapStored.1.prk = s.prk := by simp [State.snapStored]
  have hexec : exec (.snapshotComplete false) s = execSnapshotComplete false s := rfl
  unfold execSnapshotComplete at hexec
  rw [if_neg hgoes] at hexec
  dsimp only at hexec
  rw [if_neg (by simp [hlacks])] at hexec
  have hfst : s.takeGen.1 = s.nv.storeGen := rfl
  rw [hfst, ← State.snapStored] at hexec
  cases hok : s.snapStored.2 with
  | false =>
    rw [hok, if_pos (c := (!false) = true) rfl] at hexec
    refine ⟨_, hexec, ?_⟩
    obtain ⟨p, hp⟩ := s.snapStored.1.snapFail.settle_eq
    rw [if_neg (by simp), hp]
    simp only [State.snapFail_counts (s := s.snapStored.1) (by rw [hprk, hshut]), hprk]
  | true =>
    rw [hok, if_neg (by simp), if_pos (by simp [hshut])] at hexec
    refine ⟨_, hexec, ?_⟩
    rw [if_pos rfl]
    simp

theorem State.endStore_only {s : State} {x : NandStore} (h : s.nv.stores = [x]) (failed : Bool) :
    (s.endStore x.object failed).1.nv.stores = [] := by
  unfold State.endStore
  rw [h, List.find?_cons_of_pos (by simp)]
  dsimp only
  split
  · simp [State.storeFailed]
  · rw [State.nandStore_stores]
    simp

theorem mapStoreDone_ends {i : Nat} {failed : Bool} {x : NandStore} {s : State} (hi : i < 6) (hstores : s.nv.stores = [x])
    (hobj : x.object = objPlane i 0) :
    ∃ t, exec (.mapStoreDone (BitVec.ofNat 16 (0x0400 + i)) failed) s = .next t ∧ t.nv.stores = [] ∧ t.prk.storePending.getLsbD i = false := by
  have hid : (BitVec.ofNat 16 (0x0400 + i)).toNat = 0x0400 + i := by
    rw [BitVec.toNat_ofNat]
    omega
  have hclass : (0x0400 + i) / 256 = 4 := by omega
  have hplane : (0x0400 + i) % 256 = i := by omega
  have hcurve : ¬0x0400 + i = 0x0500 := by omega
  have hleft := State.endStore_only hstores failed
  have hexec : exec (.mapStoreDone (BitVec.ofNat 16 (0x0400 + i)) failed) s = execMapStoreDone (BitVec.ofNat 16 (0x0400 + i)) failed s := rfl
  unfold execMapStoreDone at hexec
  dsimp only at hexec
  rw [hid, hclass, hplane, if_pos rfl, hstores, List.find?_cons_of_pos (by simp [hobj])] at hexec
  dsimp only at hexec
  rw [hleft, List.any_nil, if_neg (by simp), if_neg hcurve] at hexec
  refine ⟨_, hexec, ?_, ?_⟩
  · simpa using hleft
  · have hbit : (BitVec.ofNat 6 (2 ^ i)).getLsbD i = true := by
      rw [BitVec.getLsbD_ofNat, Nat.testBit_two_pow_self]
      simp [hi]
    obtain ⟨p, hp⟩ := State.settle_eq { (s.endStore x.object failed).1 with
      prk := { (s.endStore x.object failed).1.prk with storePending := (s.endStore x.object failed).1.prk.storePending &&& ~~~(BitVec.ofNat 6 (2 ^ i)) } }
    rw [hp]
    simp only [BitVec.getLsbD_and, BitVec.getLsbD_not, hbit, Bool.not_true, Bool.and_false]

/-- Settles O37: each report and timer has a lemma for the queue, sweep or record it changes. -/
theorem sensingAndUpdatesAct : Obligations.SensingAndUpdatesAct := by
  refine ⟨?row, ?blank, ?reply, ?found, ?poll, ?pass, ?passDone, ?fold, ?start, ?complete, ?overrun, ?mapStore⟩
  case row => exact fun k r s hblank hk hdue => sensedRow_joins hblank hk hdue
  case blank => exact fun s hsenses hstep hfit => senseBlank_takes hsenses hstep hfit
  case reply => exact fun l m r rest s h => laneReply_ends h
  case found => exact fun l m p g rest s h _ hm hlen haddr hn hlanes hcols => senseReturn_found h hm hlen haddr hn hlanes hcols
  case poll => exact fun s h => tempPoll_asks h
  case pass =>
    intro s hrun hneutral hfit hacc hoff
    show execUpdatePass s = _
    unfold execUpdatePass
    rw [if_neg (by simp [hrun, hneutral, hfit, hacc, hoff])]
    split
    · rfl
    · rfl
  case passDone => exact fun s hon => updatePassDone_ends hon
  case fold =>
    exact fun f s hon hpricks hfold hage hwf hc hoLo hoHi hgLo hgHi => updatePassDone_folds hon hpricks hfold hage hwf hc hoLo hoHi hgLo hgHi
  case start => exact fun s hnone hfit hacc _ hrun hwait hmem hlacks => snapshotStart_wants hnone hfit hacc hrun hwait hmem hlacks
  case complete =>
    intro s hsnap hshut hlacks
    have h := snapshotComplete_stores hsnap hshut hlacks
    unfold State.snapStored at h
    exact h
  case overrun =>
    intro s hsnap hover
    exact ⟨_, if_neg (by simp [hsnap, hover]), by simp, by simp, by simp⟩
  case mapStore => exact fun i failed x s hi hstores hobj => mapStoreDone_ends hi hstores hobj

end Sys2Proof.Machine
end

section
/-! CLAIM O38. Reading, writing, programming and erasing flash. -/

namespace Sys2Proof.Machine

/-! ## Commands that need NVM -/

theorem exec_nvRead (i : Mb) (fails : Bool) (s : State) :
    exec (.nvRead i fails) s = s.serve i cmdNvRead fun p t => t.needing dNvm (runNvRead fails p t) := rfl

theorem exec_nvRawProgram (i : Mb) (s : State) :
    exec (.nvRawProgram i) s = s.serve i cmdNvRaw fun p t => t.needing dNvm (runNvRaw p t) := rfl

theorem exec_nvErase (i : Mb) (s : State) :
    exec (.nvErase i) s = s.serve i (.fixed 0x0093 8 fun p => byteAt p 1 == 0) fun p t => t.needing dNvm (runNvErase p t) := rfl

theorem State.needing_sound {s : State} {d : Fin 19} (h : s.domFailed d = false) (r : Reply) : s.needing d r = r := by
  simp [State.needing, h]

theorem State.needing_failed {s : State} {d : Fin 19} (h : s.domFailed d = true) (r : Reply) : s.needing d r = .reply stDomainFailed [] s := by
  simp [State.needing, h, Reply.refuse]

/-- With NVM failed every command of its flash answers DOMAIN_FAILED (R519). -/
theorem State.serve_nvmFailed {s : State} {i : Mb} {c : Cmd} (run : List Byte → State → Reply) (hserved : s.served i c = true)
    (h : s.domFailed dNvm = true) :
    s.serve i c (fun p t => t.needing dNvm (run p t)) = (s.taken i).answered i stDomainFailed [] :=
  State.serve_reply hserved (State.needing_failed (by rw [State.taken_domFailed, h]) _)

/-- With NVM there a command of its flash does what it says. -/
theorem State.serve_nvm {s t : State} {i : Mb} {c : Cmd} {run : List Byte → State → Reply} {st : Nat} {p : List Byte}
    (hserved : s.served i c = true) (h : s.domFailed dNvm = false) (hr : run (s.reqBody i) (s.taken i) = .reply st p t) :
    s.serve i c (fun p t => t.needing dNvm (run p t)) = t.answered i st p :=
  State.serve_reply hserved ((State.needing_sound (by rw [State.taken_domFailed, h]) _).trans hr)

/-! ## NV_READ -/

theorem State.taken_norBytes (s : State) (i : Mb) (a n : Nat) : (s.taken i).norBytes a n = s.norBytes a n := by
  obtain ⟨b, w, h⟩ := s.taken_eq i
  rw [h]
  rfl

theorem State.taken_nandBytes (s : State) (i : Mb) (a n : Nat) : (s.taken i).nandBytes a n = s.nandBytes a n := by
  obtain ⟨b, w, h⟩ := s.taken_eq i
  rw [h]
  rfl

theorem State.taken_vin (s : State) (i : Mb) : (s.taken i).vin = s.vin := by
  obtain ⟨b, w, h⟩ := s.taken_eq i
  rw [h]

theorem State.taken_nv (s : State) (i : Mb) : (s.taken i).nv = s.nv := by
  obtain ⟨b, w, h⟩ := s.taken_eq i
  rw [h]

theorem State.norByte_congr {s t : State} (h : t.nv.nor = s.nv.nor) : t.norByte = s.norByte := by
  funext a
  rw [State.norByte, State.norByte, h]

theorem State.norBytes_congr {s t : State} (h : t.nv.nor = s.nv.nor) : t.norBytes = s.norBytes := by
  funext a n
  rw [State.norBytes, State.norBytes, State.norByte_congr h]

theorem State.scanFrom_congr {s t : State} (h : t.nv.nor = s.nv.nor) (bank : Bool) (k gen top fuel p : Nat) :
    t.scanFrom bank k gen top fuel p = s.scanFrom bank k gen top fuel p := by
  induction fuel generalizing p with
  | zero => rfl
  | succ fuel ih => simp only [State.scanFrom, State.norBytes_congr h, State.norByte_congr h, ih]

theorem State.sectorInUse_congr {s t : State} (h : t.nv.nor = s.nv.nor) (bank : Bool) (k : Nat) : t.sectorInUse bank k = s.sectorInUse bank k := by
  rw [State.sectorInUse, State.sectorInUse, State.sectorHeaderOk, State.sectorHeaderOk, State.norBytes_congr h, State.norByte_congr h]

theorem State.scanSector_congr {s t : State} (h : t.nv.nor = s.nv.nor) (bank : Bool) (k : Nat) : t.scanSector bank k = s.scanSector bank k := by
  have htop : t.sectorTop bank k = s.sectorTop bank k := by
    rw [State.sectorTop, State.sectorTop, State.norSpan, State.norSpan, h]
  have hgen : t.sectorGen bank k = s.sectorGen bank k := by
    rw [State.sectorGen, State.sectorGen, State.norBytes_congr h]
  rw [State.scanSector, State.scanSector, State.sectorInUse_congr h, htop, hgen, State.scanFrom_congr h]

/-- The Sampler's records are read from NOR flash alone (R478). -/
theorem State.records_congr {s t : State} (h : t.nv.nor = s.nv.nor) : t.records = s.records := by
  simp only [State.records, State.bankRecords, State.scanSector_congr h]

theorem State.taken_records (s : State) (i : Mb) : (s.taken i).records = s.records := State.records_congr (by rw [State.taken_nv])

theorem State.taken_winner (s : State) (i : Mb) (key : Nat) : (s.taken i).winner key = s.winner key := by
  rw [State.winner, State.winner, State.taken_records]

theorem State.taken_liveBytes (s : State) (i : Mb) : (s.taken i).liveBytes = s.liveBytes := by
  rw [State.liveBytes, State.liveBytes, State.taken_records]

theorem nvRead_reads {i : Mb} {fails : Bool} {s : State} (hserved : s.served i cmdNvRead = true) (hnvm : s.domFailed dNvm = false) :
    (byteAt (s.reqBody i) 0 = 1 → le4 (s.reqBody i) 4 ≤ 0x7FFFFF → le4 (s.reqBody i) 4 + le2 (s.reqBody i) 2 ≤ 0x800000 →
      exec (.nvRead i fails) s = (s.taken i).answered i stOk (s.norBytes (le4 (s.reqBody i) 4) (le2 (s.reqBody i) 2))) ∧
    (byteAt (s.reqBody i) 0 = 2 → le4 (s.reqBody i) 4 < 0x20000000 → le4 (s.reqBody i) 4 % 4096 + le2 (s.reqBody i) 2 ≤ 4096 →
      exec (.nvRead i fails) s = if fails then (s.taken i).answered i stCheckFailed []
        else (s.taken i).answered i stOk (s.nandBytes (le4 (s.reqBody i) 4) (le2 (s.reqBody i) 2))) ∧
    (∀ r, byteAt (s.reqBody i) 0 = 0 → keyUse (le4 (s.reqBody i) 4) ≠ .unassigned → s.winner (le4 (s.reqBody i) 4) = some r →
      exec (.nvRead i fails) s = (s.taken i).answered i stOk (toLe 4 r.seq ++ toLe 2 r.payload.length ++ [Byte.of (b2n r.bank), 0] ++
        r.payload.take (le2 (s.reqBody i) 2))) := by
  rw [exec_nvRead]
  refine ⟨fun hdev hstart hfit => ?_, fun hdev hstart hfit => ?_, fun r hdev hkey hwin => ?_⟩
  · have hstart' : ¬0x7FFFFF < le4 (s.reqBody i) 4 := by omega
    have hfit' : ¬0x800000 < le4 (s.reqBody i) 4 + le2 (s.reqBody i) 2 := by omega
    exact State.serve_nvm hserved hnvm (by simp [runNvRead, hdev, hstart', hfit', State.taken_norBytes])
  · have hstart' : ¬0x20000000 ≤ le4 (s.reqBody i) 4 := by omega
    have hfit' : ¬4096 < le4 (s.reqBody i) 4 % 4096 + le2 (s.reqBody i) 2 := by omega
    cases fails with
    | true => exact State.serve_nvm hserved hnvm (by simp [runNvRead, hdev, hstart', hfit', Reply.refuse])
    | false => exact State.serve_nvm hserved hnvm (by simp [runNvRead, hdev, hstart', hfit', State.taken_nandBytes])
  · exact State.serve_nvm hserved hnvm (by simp [runNvRead, hdev, hkey, State.taken_winner, hwin])

/-! ## Record writes -/

theorem State.nextWrite_of_busy {s : State} {w : NvWrite} (h : s.nv.write = some w) : s.nextWrite = s := by
  simp [State.nextWrite, h]

/-- The write a request asks for (R481). -/
def NvWrite.asked (i : Mb) (p : List Byte) : NvWrite :=
  { key := le2 p 0, payload := p.drop 4, bank := false, seq := 0, addr := 0, marker := false, retried := false, second := none, firstSeq := 0, mb := i }

theorem runNvWrite_queues {i : Mb} {p : List Byte} {s : State} (hkey : keyUse (le2 p 0) = .free)
    (hroom : s.liveBytes + footprint (p.drop 4).length ≤ 24576) (hpfw : s.vin.pfw = false) :
    runNvWrite i p s = .hold .nvWrite { s with nv := { s.nv with queue := s.nv.queue ++ [NvWrite.asked i p] } } := by
  unfold runNvWrite
  dsimp only
  rw [if_neg (by simp [hkey]), if_neg (by simp [hkey]), if_neg, if_neg (by simp [hpfw])]
  · rfl
  · rw [Bool.and_eq_true, decide_eq_true_eq, decide_eq_true_eq]
    omega

theorem State.taken_busy (s : State) (i : Mb) : ((s.taken i).mb i).st = .busy := by
  cases i
  all_goals rfl

theorem nvWriteRecord_waits {i : Mb} {w : NvWrite} {s : State} (hserved : s.served i cmdNvWrite = true) (hnvm : s.domFailed dNvm = false)
    (hkey : keyUse (le2 (s.reqBody i) 0) = .free) (hroom : s.liveBytes + footprint ((s.reqBody i).drop 4).length ≤ 24576)
    (hpfw : s.vin.pfw = false) (hwrite : s.nv.write = some w) :
    ∃ t n, exec (.nvWriteRecord i) s = .next t ∧ t.nv.queue = s.nv.queue ++ [n] ∧ n.key = le2 (s.reqBody i) 0 ∧
      n.payload = (s.reqBody i).drop 4 ∧ n.mb = i ∧ (t.mb i).st = .busy ∧ (t.mb i).wait = .nvWrite ∧ t.nv.nor = s.nv.nor := by
  have hrun : (s.taken i).needing dNvm (runNvWrite i (s.reqBody i) (s.taken i)) =
      .hold .nvWrite { s.taken i with nv := { s.nv with queue := s.nv.queue ++ [NvWrite.asked i (s.reqBody i)] } } := by
    rw [State.needing_sound (by rw [State.taken_domFailed, hnvm]), runNvWrite_queues hkey (by rw [State.taken_liveBytes]; exact hroom)
      (by rw [State.taken_vin]; exact hpfw), State.taken_nv]
  have hserve := State.serve_served (fun p t => t.needing dNvm (runNvWrite i p t)) hserved
  rw [hrun] at hserve
  generalize hu : ({ s.taken i with nv := { s.nv with queue := s.nv.queue ++ [NvWrite.asked i (s.reqBody i)] } } : State) = u at hserve
  have hunv : u.nv = { s.nv with queue := s.nv.queue ++ [NvWrite.asked i (s.reqBody i)] } := by rw [← hu]
  have hust : (u.mb i).st = .busy := by
    rw [← hu]
    exact s.taken_busy i
  have hheld : (State.replied s i cmdNvWrite (.hold .nvWrite u)) = u.onMb i fun m => { m with wait := .nvWrite } := rfl
  rw [hheld] at hserve
  have hnv : (u.onMb i fun m => { m with wait := .nvWrite }).settle.nv = { s.nv with queue := s.nv.queue ++ [NvWrite.asked i (s.reqBody i)] } := by
    rw [← hunv]
    simp
  have hexec : exec (.nvWriteRecord i) s = .next (u.onMb i fun m => { m with wait := .nvWrite }).settle.settle := by
    show execNvWriteRecord i s = _
    unfold execNvWriteRecord
    rw [hserve]
    dsimp only
    rw [State.nextWrite_of_busy (w := w) (by rw [hnv, hwrite])]
    rfl
  have hmb : (u.onMb i fun m => { m with wait := .nvWrite }).settle.settle.mb i = { u.mb i with wait := .nvWrite } := by
    rw [State.settle_mb, State.settle_mb, State.onMb_get]
  refine ⟨_, NvWrite.asked i (s.reqBody i), hexec, ?_, rfl, rfl, rfl, ?_, ?_, ?_⟩
  · rw [State.settle_nv, hnv]
  · rw [hmb, hust]
  · rw [hmb]
  · rw [State.settle_nv, hnv]

theorem State.bcSend_nv (s : State) (m : BcMsg) : (s.bcSend m).nv = s.nv := by simp

theorem norProgram_committed {w : NvWrite} {s : State} (hwrite : s.nv.write = some w) (hmarker : w.marker = true) (hsecond : w.second = none)
    (hqueue : s.nv.queue = [])
    (hread : (s.norProgram (w.addr + (recordBody w.key w.seq w.payload).length) [0x5A]).norByte (w.addr + (recordBody w.key w.seq w.payload).length) = 0x5A)
    (hbusy : (s.mb w.mb).st = .busy) (hwait : (s.mb w.mb).wait = .nvWrite) (hmb : w.mb = .mb0 ∨ w.mb = .mb2) :
    ∃ t, exec (.norProgramDone false) s = .next t ∧ t.nv.write = none ∧
      (t.mb w.mb).resp = padBuf (respHeader (reqCode (s.mb w.mb).req) 4 (s.mb w.mb).tag.toNat stOk ++ toLe 4 w.firstSeq) := by
  have hplain : w.mb ≠ .mb1 ∧ w.mb ≠ .mb3 := by
    rcases hmb with h | h
    · simp [h]
    · simp [h]
  generalize hs1 : s.norProgram (w.addr + (recordBody w.key w.seq w.payload).length) [0x5A] = s1 at hread
  have hs1nv : ∃ nor, s1.nv = { s.nv with nor := nor } := by
    rw [← hs1]
    exact s.norProgram_nv _ _
  have hs1box : s1.box = s.box := by
    rw [← hs1]
    simp
  have hexec : exec (.norProgramDone false) s = .next (s1.copyDone w).settle := by
    show execNorProgramDone false s = _
    unfold execNorProgramDone
    rw [hwrite]
    dsimp only
    rw [if_neg (by simp [hmarker]), hs1, if_neg (by simp [hread])]
    rfl
  obtain ⟨nor, hnv⟩ := hs1nv
  obtain ⟨nor', hroom⟩ := s1.ensureRoom_nv w.bank
  generalize hu : ({ ((s1.ensureRoom w.bank).count 384 1) with nv := { ((s1.ensureRoom w.bank).count 384 1).nv with write := none, ties := ((s1.ensureRoom w.bank).count 384 1).nv.ties.filter (· != w.key) } } : State) = u
  have hunv : u.nv.write = none ∧ u.nv.queue = [] := by
    rw [← hu]
    simp [hroom, hnv, hqueue]
  have hubox : u.box = s.box := by
    rw [← hu, ← hs1box]
    simp
  have humb (i : Mb) : u.mb i = s.mb i := by
    simp only [State.mb, hubox]
  have hdone : s1.copyDone w = (u.answerHeld w.mb .nvWrite stOk (toLe 4 w.firstSeq)).nextWrite := by
    rw [← hu]
    unfold State.copyDone
    rw [hsecond]
    rfl
  have hanswer : u.answerHeld w.mb .nvWrite stOk (toLe 4 w.firstSeq) = u.post w.mb stOk (toLe 4 w.firstSeq) :=
    if_pos (by simp [humb, hbusy, hwait])
  have hpost := u.post_plain stOk (toLe 4 w.firstSeq) hplain.1
  rw [humb, toLe_length] at hpost
  obtain ⟨hposted, -, -, -, b, x, h, heq⟩ := u.posted_answer
    (respHeader (reqCode (s.mb w.mb).req) 4 (s.mb w.mb).tag.toNat stOk ++ toLe 4 w.firstSeq) hplain.2
  rw [← hpost] at hposted heq
  have hpnv : (u.post w.mb stOk (toLe 4 w.firstSeq)).nv = u.nv := by rw [heq]
  have hnext : (u.post w.mb stOk (toLe 4 w.firstSeq)).nextWrite = u.post w.mb stOk (toLe 4 w.firstSeq) := by
    simp [State.nextWrite, hunv.1, hunv.2]
  rw [hdone, hanswer, hnext] at hexec
  refine ⟨_, hexec, ?_, ?_⟩
  · rw [State.settle_nv, hpnv, hunv.1]
  · rw [State.settle_mb, hposted]

/-! ## NV_RAW_PROGRAM -/

/-- What the first `n` bytes of a raw program do to a page: each byte lands at its place round the page, and clears bits only (R475, R490). -/
theorem rawProgram_prefix {s : State} (base off : Nat) (d : List Byte) (hwf : Memory.wf s = true) {n : Nat} (hn : n ≤ 256) :
    let t := (List.range n).foldl (fun t i => t.norProgram (base + (off + i) % 256) [byteAt d i]) s
    cellsWf flashBg t.nv.nor = true ∧
    (∀ k, k < n → t.norByte (base + (off + k) % 256) = s.norByte (base + (off + k) % 256) &&& byteAt d k) ∧
    ∀ b, (∀ k, k < n → b ≠ base + (off + k) % 256) → t.norByte b = s.norByte b := by
  induction n with
  | zero =>
    obtain ⟨-, hnor, -⟩ := (Memory.wf_iff s).1 hwf
    exact ⟨hnor, fun k hk => absurd hk (by omega), fun b _ => rfl⟩
  | succ n ih =>
    obtain ⟨hwf', hin, hout⟩ := ih (by omega)
    rw [List.range_succ, List.foldl_append, List.foldl_cons, List.foldl_nil]
    generalize (List.range n).foldl (fun t i => t.norProgram (base + (off + i) % 256) [byteAt d i]) s = t at hwf' hin hout
    have hread (b : Nat) : (t.norProgram (base + (off + n) % 256) [byteAt d n]).norByte b =
        if b = base + (off + n) % 256 then t.norByte b &&& byteAt d n else t.norByte b := by
      rw [State.norProgram_norByte hwf']
      by_cases hb : b = base + (off + n) % 256
      · simp [hb]
      · have hout : ¬(base + (off + n) % 256 ≤ b ∧ b < base + (off + n) % 256 + [byteAt d n].length) := by
          simp only [List.length_singleton]
          omega
        rw [if_neg hout, if_neg hb]
    refine ⟨State.norProgram_norWf _ _ _ hwf', fun k hk => ?_, fun b hb => ?_⟩
    · rw [hread]
      by_cases hkn : k = n
      · rw [hkn, if_pos rfl, hout _ fun j hj => by omega]
      · rw [if_neg (by omega), hin k (by omega)]
    · rw [hread, if_neg (hb n (by omega)), hout b fun k hk => hb k (by omega)]

theorem State.taken_norByte (s : State) (i : Mb) (b : Nat) : (s.taken i).norByte b = s.norByte b := by
  obtain ⟨x, w, h⟩ := s.taken_eq i
  rw [h]
  rfl

theorem served_lenOk {s : State} {i : Mb} {c : Cmd} (h : s.served i c = true) : c.lenOk (s.reqBody i) = true := by
  simp only [State.served, Bool.and_eq_true] at h
  exact h.1.1.2

theorem nvRawProgram_programs {i : Mb} {a : Nat} {d : List Byte} {s : State} (hserved : s.served i cmdNvRaw = true)
    (hnvm : s.domFailed dNvm = false) (ha : le4 (s.reqBody i) 0 = a) (hd : (s.reqBody i).drop 8 = d) (hpfw : s.vin.pfw = false)
    (hwf : Memory.wf s = true) (hraw : s.param 0x1800 = 1) (hlo : 0x720000 ≤ a) (hhi : a < 0x7F0000) :
    ∃ t : State, exec (.nvRawProgram i) s = t.answered i stOk [] ∧
      (∀ k, k < d.length → t.norByte (a / 256 * 256 + (a % 256 + k) % 256) =
        s.norByte (a / 256 * 256 + (a % 256 + k) % 256) &&& byteAt d k) ∧
      ∀ b, b < a / 256 * 256 ∨ a / 256 * 256 + 256 ≤ b → t.norByte b = s.norByte b := by
  have hlen : d.length ≤ 256 := by
    have h := served_lenOk hserved
    simp only [cmdNvRaw, Bool.and_eq_true, decide_eq_true_eq, beq_iff_eq] at h
    rw [← hd, List.length_drop]
    omega
  have harea : rawArea (a / 256 * 256) 256 = true := by
    simp only [rawArea, Bool.and_eq_true, decide_eq_true_eq]
    omega
  have hbank : touchesBank (a / 256 * 256) 256 = false := by
    simp only [touchesBank, Bool.and_eq_false_iff, decide_eq_false_iff_not]
    omega
  have hrun : runNvRaw (s.reqBody i) (s.taken i) = .reply stOk [] ((s.taken i).rawProgram a d) := by
    simp [runNvRaw, ha, hd, State.taken_param, hraw, harea, hbank, State.taken_vin, hpfw]
  obtain ⟨-, hin, hout⟩ := rawProgram_prefix (a / 256 * 256) (a % 256) d (State.taken_wf hwf i) hlen
  refine ⟨_, (exec_nvRawProgram i s).trans (State.serve_nvm hserved hnvm hrun), fun k hk => ?_, fun b hb => ?_⟩
  · rw [← State.taken_norByte s i]
    exact hin k hk
  · rw [← State.taken_norByte s i]
    exact hout b fun k hk => by omega

theorem nvRawProgram_denied {i : Mb} {a : Nat} {s : State} (hserved : s.served i cmdNvRaw = true) (hnvm : s.domFailed dNvm = false)
    (ha : le4 (s.reqBody i) 0 = a) (h : s.param 0x1800 ≠ 1 ∨ a < 0x700000 ∨ 0x7F0000 ≤ a) :
    exec (.nvRawProgram i) s = (s.taken i).answered i stDenied [] := by
  have harea : a < 0x700000 ∨ 0x7F0000 ≤ a → rawArea (a / 256 * 256) 256 = false := by
    simp only [rawArea, Bool.and_eq_false_iff, decide_eq_false_iff_not]
    omega
  have hrun : runNvRaw (s.reqBody i) (s.taken i) = .reply stDenied [] (s.taken i) := by
    rcases h with h | h
    · simp [runNvRaw, State.taken_param, h, Reply.refuse]
    · simp [runNvRaw, ha, harea h, Reply.refuse]
  exact (exec_nvRawProgram i s).trans (State.serve_nvm hserved hnvm hrun)

/-! ## NV_ERASE -/

theorem nvErase_begins {i : Mb} {n a : Nat} {s : State} (hserved : s.served i (.fixed 0x0093 8 fun p => byteAt p 1 == 0) = true)
    (hnvm : s.domFailed dNvm = false) (hdev : byteAt (s.reqBody i) 0 = 0) (hn : le2 (s.reqBody i) 2 = n) (ha : le4 (s.reqBody i) 4 = a)
    (halign : a % 4096 = 0) (hraw : s.param 0x1800 = 1) (hlo : 0x700000 ≤ a) (hhi : a + n * 4096 ≤ 0x7F0000)
    (hpfw : s.vin.pfw = false) :
    exec (.nvErase i) s =
      .next (({ s.taken i with nv := { s.nv with erase := some { nand := false, addr := a, count := n, suspended := false } } }).accepted i 0x0093 []).settle := by
  have hfit' : ¬0x800000 < a + n * 4096 := by omega
  have harea : rawArea a (n * 4096) = true := by
    simp only [rawArea, Bool.and_eq_true, decide_eq_true_eq]
    omega
  have hrun : (s.taken i).needing dNvm (runNvErase (s.reqBody i) (s.taken i)) = .accept [] { s.taken i with nv := { s.nv with erase := some { nand := false, addr := a, count := n, suspended := false } } } id := by
    rw [State.needing_sound (by rw [State.taken_domFailed, hnvm])]
    simp [runNvErase, hdev, hn, ha, halign, hfit', State.taken_param, hraw, harea, State.taken_vin, hpfw, State.taken_nv]
  rw [exec_nvErase, State.serve_accept (k := 0x0093) rfl hserved hrun, ← State.taken_tag s i]
  rfl

theorem nvErase_denied {i : Mb} {n a : Nat} {s : State} (hserved : s.served i (.fixed 0x0093 8 fun p => byteAt p 1 == 0) = true)
    (hnvm : s.domFailed dNvm = false) (hdev : byteAt (s.reqBody i) 0 = 0) (hn : le2 (s.reqBody i) 2 = n) (ha : le4 (s.reqBody i) 4 = a)
    (halign : a % 4096 = 0) (hfit : a + n * 4096 ≤ 0x800000) (h : s.param 0x1800 ≠ 1 ∨ a < 0x700000 ∨ 0x7F0000 < a + n * 4096) :
    exec (.nvErase i) s = (s.taken i).answered i stDenied [] := by
  have hfit' : ¬0x800000 < a + n * 4096 := by omega
  have harea : a < 0x700000 ∨ 0x7F0000 < a + n * 4096 → rawArea a (n * 4096) = false := by
    simp only [rawArea, Bool.and_eq_false_iff, decide_eq_false_iff_not]
    omega
  have hrun : runNvErase (s.reqBody i) (s.taken i) = .reply stDenied [] (s.taken i) := by
    rcases h with h | h
    · simp [runNvErase, hdev, hn, ha, halign, hfit', State.taken_param, h, Reply.refuse]
    · simp [runNvErase, hdev, hn, ha, halign, hfit', harea h, Reply.refuse]
  exact (exec_nvErase i s).trans (State.serve_nvm hserved hnvm hrun)

theorem nvEraseDone_erases {e : NvErase} {s : State} (herase : s.nv.erase = some e) (hnor : e.nand = false) (hgoes : e.suspended = false)
    (hlo : 0x720000 ≤ e.addr) :
    ∃ t, exec (.nvEraseDone []) s = .next t ∧ t.nv.erase = none ∧ t.box.jobs.all (·.code != 0x0093) = true ∧ t.nv.nand = s.nv.nand ∧
      ∀ b, t.norByte b = if e.addr ≤ b ∧ b < e.addr + e.count * 4096 then 0xFF else s.norByte b := by
  have hbank : touchesBank e.addr (e.count * 4096) = false := by
    simp only [touchesBank, Bool.and_eq_false_iff, decide_eq_false_iff_not]
    omega
  have hexec : exec (.nvEraseDone []) s = .next (((State.norErase { s with nv := { s.nv with erase := none } } e.addr (e.count * 4096)).endJob 0x0093 stOk).settle) := by
    show execNvEraseDone [] s = _
    unfold execNvEraseDone
    rw [herase]
    dsimp only
    rw [hgoes, hnor, hbank]
    rfl
  have hnv : (((State.norErase { s with nv := { s.nv with erase := none } } e.addr (e.count * 4096)).endJob 0x0093 stOk).settle).nv =
      (State.norErase { s with nv := { s.nv with erase := none } } e.addr (e.count * 4096)).nv := by simp
  refine ⟨_, hexec, ?_, ?_, ?_, fun b => ?_⟩
  · rw [hnv]
    rfl
  · rw [State.settle_box, State.endJob_jobs, List.all_filter]
    simp
  · rw [hnv]
    rfl
  · rw [State.norByte, hnv]
    exact State.norErase_norByte { s with nv := { s.nv with erase := none } } e.addr (e.count * 4096) b

/-! ## Compaction -/

/-- The sector the walk keeps: the one in use whose generation is the lowest so far (R484). -/
def State.olderSector (s : State) (bank : Bool) (acc : Option Nat) (k : Nat) : Option Nat :=
  if !s.sectorInUse bank k then acc
  else match acc with
    | none => some k
    | some j => if s.sectorGen bank k < s.sectorGen bank j then some k else acc

/-- The walk ends on the oldest sector in use once it has met it. -/
theorem State.olderSector_fold {s : State} {bank : Bool} {k : Nat} (huse : s.sectorInUse bank k = true) (l : List Nat) (acc : Option Nat)
    (hold : ∀ j, (j ∈ l ∨ acc = some j) → j ≠ k → s.sectorInUse bank j = true → s.sectorGen bank k < s.sectorGen bank j)
    (hacc : ∀ j, acc = some j → s.sectorInUse bank j = true) (hmem : k ∈ l ∨ acc = some k) :
    l.foldl (s.olderSector bank) acc = some k := by
  induction l generalizing acc with
  | nil => simpa using hmem
  | cons j l ih =>
    rw [List.foldl_cons]
    have hcases : s.olderSector bank acc j = acc ∨ (s.olderSector bank acc j = some j ∧ s.sectorInUse bank j = true) := by
      unfold State.olderSector
      split
      · exact .inl rfl
      · next hin =>
        split
        · exact .inr ⟨rfl, by simpa using hin⟩
        · split
          · exact .inr ⟨rfl, by simpa using hin⟩
          · exact .inl rfl
    refine ih _ (fun m hm hne hinuse => ?_) (fun m hm => ?_) ?_
    · rcases hm with hm | hm
      · exact hold m (.inl (List.mem_cons_of_mem j hm)) hne hinuse
      · rcases hcases with h | ⟨h, -⟩
        · exact hold m (.inr (h ▸ hm)) hne hinuse
        · rw [h, Option.some.injEq] at hm
          exact hold m (.inl (hm ▸ List.mem_cons_self)) hne hinuse
    · rcases hcases with h | ⟨h, hj⟩
      · exact hacc m (h ▸ hm)
      · rw [h, Option.some.injEq] at hm
        exact hm ▸ hj
    · by_cases hjk : j = k
      · right
        rw [hjk]
        unfold State.olderSector
        rw [if_neg (by simp [huse])]
        split
        · rfl
        · next m =>
          by_cases hmk : m = k
          · rw [hmk, if_neg (by omega)]
          · rw [if_pos (hold m (.inr rfl) hmk (hacc m rfl))]
      · rcases hmem with hmem | hmem
        · exact .inl ((List.mem_cons.mp hmem).resolve_left (Ne.symm hjk))
        · right
          unfold State.olderSector
          rw [hmem]
          dsimp only
          split
          · rfl
          · next hin =>
            rw [if_neg]
            have h := hold j (.inl List.mem_cons_self) hjk (by simpa using hin)
            omega

theorem samplerCompaction_erases {bank : Bool} {k : Nat} {s : State} (hk : k < 16) (huse : s.sectorInUse bank k = true)
    (hold : ∀ j, j < 16 → j ≠ k → s.sectorInUse bank j = true → s.sectorGen bank k < s.sectorGen bank j)
    (hfew : (s.erasedSectors bank).length < s.param 0x1801) (hwrite : s.nv.write = none) (hpfw : s.vin.pfw = false) :
    ∃ t, exec (.samplerCompaction bank) s = .next t ∧ ∀ b, sectorBase bank k ≤ b → b < sectorBase bank k + 4096 → t.norByte b = 0xFF := by
  have holdest : (List.range 16).foldl (s.olderSector bank) none = some k :=
    State.olderSector_fold huse _ _ (fun j hj hne hin => hold j (by simpa using hj) hne hin) (by simp) (.inl (List.mem_range.mpr hk))
  have hexec : exec (.samplerCompaction bank) s = execSamplerCompaction bank s := rfl
  unfold execSamplerCompaction at hexec
  dsimp only at hexec
  split at hexec
  · next hnone => exact absurd (hnone.symm.trans holdest) (by simp)
  next m hm =>
  have hmk : m = k := Option.some.inj (hm.symm.trans holdest)
  rw [hmk, if_neg (by simp [hfew, hwrite, hpfw])] at hexec
  refine ⟨_, hexec, fun b hlo hhi => ?_⟩
  rw [State.norByte]
  simp only [State.settle_frame, State.count_frame]
  rw [← State.norByte, State.norErase_norByte, if_pos ⟨hlo, hhi⟩]

/-! ## Stores -/

theorem State.endStore_fails {s : State} {x : NandStore} (h : s.nv.stores = [x]) :
    (s.endStore x.object true).1.nv = { s.nv with stores := [] } := by
  unfold State.endStore
  rw [h, List.find?_cons_of_pos (by simp)]
  simp [State.storeFailed]

theorem State.endStore_commits {s : State} {x : NandStore} (h : s.nv.stores = [x]) (hlacks : s.storeLacks = false) :
    (s.endStore x.object false).1 = (({ s with nv := { s.nv with stores := [] } }).nandStore x.object x.gen (s.param 0x1C03)
      { planeGen := x.planeGen, snapPlaneGens := [0, 0, 0], snapPanelOn := 0 } x.data).1 := by
  unfold State.endStore
  rw [h, List.find?_cons_of_pos (by simp)]
  dsimp only
  rw [if_neg (by simp [hlacks])]
  simp

/-- Settles O38: each command is followed to the cells it reads, programs or erases. -/
theorem flashCommandsAct : Obligations.FlashCommandsAct := by
  refine ⟨?read, ?write, ?body, ?marker, ?raw, ?erase, ?eraseDone, ?compaction, ?failed, ?store⟩
  case read => exact fun i fails s hserved hnvm => nvRead_reads hserved hnvm
  case write => exact fun i w s hserved hnvm hkey _ hroom hpfw hwrite => nvWriteRecord_waits hserved hnvm hkey hroom hpfw hwrite
  case body =>
    intro w s hwrite hmarker hread
    obtain ⟨p, hp⟩ := done_eq { s with nv := { s.nv with write := some { w with marker := true } } }
    refine ⟨p, ?_⟩
    rw [← hp]
    show execNorProgramDone false s = _
    unfold execNorProgramDone
    rw [hwrite]
    dsimp only
    rw [if_pos (by simp [hmarker]), if_neg (by simp [hread])]
  case marker =>
    exact fun w s hwrite hmarker hsecond hqueue hread hbusy hwait hmb => norProgram_committed hwrite hmarker hsecond hqueue hread hbusy hwait hmb
  case raw =>
    exact fun i a d s hserved hnvm ha hd hpfw hwf => ⟨fun hraw hlo hhi => nvRawProgram_programs hserved hnvm ha hd hpfw hwf hraw hlo hhi,
      fun h => nvRawProgram_denied hserved hnvm ha h⟩
  case erase =>
    exact fun i n a s hserved hnvm hdev hn ha halign hfit =>
      ⟨fun hraw hlo hhi hpfw => nvErase_begins hserved hnvm hdev hn ha halign hraw hlo hhi hpfw,
        fun h => nvErase_denied hserved hnvm hdev hn ha halign hfit h⟩
  case eraseDone => exact fun e s herase hnor hgoes hlo _ => nvEraseDone_erases herase hnor hgoes hlo
  case compaction => exact fun bank k s hk huse hold hfew hwrite hpfw _ => samplerCompaction_erases hk huse hold hfew hwrite hpfw
  case failed =>
    exact fun i fails s h => ⟨fun hserved => State.serve_nvmFailed _ hserved h, fun hserved => State.serve_nvmFailed _ hserved h,
      fun hserved => State.serve_nvmFailed _ hserved h⟩
  case store =>
    intro o x s hstores hobj
    refine ⟨⟨_, rfl, ?_, ?_, ?_⟩, fun hlacks => ?_⟩
    · rw [State.settle_nv, ← hobj, State.endStore_fails hstores]
    · rw [State.settle_nv, ← hobj, State.endStore_fails hstores]
    · rw [State.settle_nv, ← hobj, State.endStore_fails hstores]
    · show done (s.endStore o.toNat false).1 = _
      rw [← hobj, State.endStore_commits hstores hlacks]
      rfl

end Sys2Proof.Machine
end

section
/-! CLAIM O39. The log, the statistics and the Eyelets. -/

namespace Sys2Proof.Machine

theorem exec_logRead (i : Mb) (s : State) : exec (.logRead i) s = s.serve i cmdLogRead (runLogRead i) := rfl

theorem exec_statsRead (i : Mb) (s : State) : exec (.statsRead i) s = s.serve i cmdStatsRead runStatsRead := rfl

theorem exec_eyeSet (i : Mb) (s : State) : exec (.eyeSet i) s = s.serve i cmdEyeSet runEyeSet := rfl

theorem exec_eyeRead (i : Mb) (s : State) :
    exec (.eyeRead i) s = s.serve i (.fixed 0x00E1 4 fun p => zeroAt p 1 3) runEyeRead := rfl

theorem State.taken_evq (s : State) (i : Mb) : (s.taken i).evq = s.evq := by
  obtain ⟨b, w, h⟩ := s.taken_eq i
  rw [h]

theorem State.taken_stat (s : State) (i : Mb) : (s.taken i).stat = s.stat := by
  obtain ⟨b, w, h⟩ := s.taken_eq i
  rw [h]

theorem State.taken_eyes (s : State) (i : Mb) : (s.taken i).eyes = s.eyes := by
  obtain ⟨b, w, h⟩ := s.taken_eq i
  rw [h]

/-! ## LOG_READ -/

/-- From 0xFFFFFFFF the ring is read from its oldest entry (R455). -/
theorem logFrom_oldest (l : TroubleLog) : logFrom l 0xFFFFFFFF = (0, 0, l.next - BitVec.ofNat 32 l.ring.length) := by
  simp [logFrom]

theorem logRead_oldest {i : Mb} {s : State} (hserved : s.served i cmdLogRead = true) (hring : byteAt (s.reqBody i) 0 = 0)
    (hfrom : le4 (s.reqBody i) 4 = 0xFFFFFFFF) :
    exec (.logRead i) s =
      let es := s.log.ring.take (byteAt (s.reqBody i) 1).toNat
      (s.taken i).answered i stOk (Byte.of es.length :: (zeros 3 ++
        toLe 4 (s.log.next - BitVec.ofNat 32 s.log.ring.length + BitVec.ofNat 32 es.length).toNat ++ toLe 4 0 ++ es.flatMap LogEntry.bytes)) := by
  have hrun : runLogRead i (s.reqBody i) (s.taken i) = .reply stOk (logReadResp
      (s.log.next - BitVec.ofNat 32 s.log.ring.length + BitVec.ofNat 32 (s.log.ring.take (byteAt (s.reqBody i) 1).toNat).length).toNat 0
      (s.log.ring.take (byteAt (s.reqBody i) 1).toNat)) (s.taken i) := by
    unfold runLogRead
    dsimp only
    rw [hring, hfrom, State.taken_log, logFrom_oldest]
    rfl
  exact (exec_logRead i s).trans (State.serve_reply hserved hrun)

/-- The event queue after its oldest `n` events are read: an empty one forgets what it dropped (R121, R455). -/
def EventQueue.readOut (q : EventQueue) (n : Nat) : EventQueue :=
  if (q.entries.drop n).isEmpty then { q with entries := [], overflow := false, dropped := 0 } else { q with entries := q.entries.drop n }

theorem EventQueue.readOut_entries (q : EventQueue) (n : Nat) : (q.readOut n).entries = q.entries.drop n ∧
    ((q.readOut n).entries = [] → (q.readOut n).overflow = false ∧ (q.readOut n).dropped = 0) := by
  unfold EventQueue.readOut
  split
  · next h => exact ⟨(List.isEmpty_iff.mp h).symm, fun _ => ⟨rfl, rfl⟩⟩
  · next h => exact ⟨rfl, fun hnil => absurd (List.isEmpty_iff.mpr hnil) h⟩

theorem logRead_events {s : State} (hserved : s.served .mb0 cmdLogRead = true) (hring : byteAt (s.reqBody .mb0) 0 = 1) :
    ∃ t : State, exec (.logRead .mb0) s = t.answered .mb0 stOk (
        let es := s.evq.entries.take (byteAt (s.reqBody .mb0) 1).toNat
        Byte.of es.length :: (zeros 3 ++ toLe 4 (s.evq.entries.length - es.length) ++ toLe 4 s.evq.dropped ++ es.flatMap LogEntry.bytes)) ∧
      t.evq.entries = s.evq.entries.drop (byteAt (s.reqBody .mb0) 1).toNat ∧ (t.evq.entries = [] → t.evq.overflow = false ∧ t.evq.dropped = 0) := by
  have hleft : (s.evq.entries.drop (byteAt (s.reqBody .mb0) 1).toNat).length =
      s.evq.entries.length - (s.evq.entries.take (byteAt (s.reqBody .mb0) 1).toNat).length := by
    rw [List.length_drop, List.length_take]
    omega
  have hrun : runLogRead .mb0 (s.reqBody .mb0) (s.taken .mb0) = .reply stOk (logReadResp
      (s.evq.entries.length - (s.evq.entries.take (byteAt (s.reqBody .mb0) 1).toNat).length) s.evq.dropped
      (s.evq.entries.take (byteAt (s.reqBody .mb0) 1).toNat))
      { s.taken .mb0 with evq := s.evq.readOut (byteAt (s.reqBody .mb0) 1).toNat } := by
    unfold runLogRead
    dsimp only
    rw [hring, State.taken_evq, hleft]
    rfl
  exact ⟨_, (exec_logRead .mb0 s).trans (State.serve_reply hserved hrun), s.evq.readOut_entries _⟩

/-! ## Statistics -/

/-- Of the statistics only live counters differ. -/
def State.SamePeriod (s t : State) : Prop := ∃ live, t.stat = { s.stat with live := live }

theorem State.SamePeriod.trans {s t u : State} (h : s.SamePeriod t) (k : t.SamePeriod u) : s.SamePeriod u := by
  obtain ⟨live, h⟩ := h
  obtain ⟨live', k⟩ := k
  exact ⟨live', by rw [k, h]⟩

theorem State.SamePeriod.of_eq {s t : State} (h : t.stat = s.stat) : s.SamePeriod t := ⟨s.stat.live, h⟩

theorem State.count_samePeriod (s : State) (i n : Nat) : s.SamePeriod (s.count i n) := by
  unfold State.count
  split
  · exact .of_eq rfl
  · exact ⟨_, rfl⟩

theorem State.queueEvent_samePeriod (s : State) (e : LogEntry) : s.SamePeriod (s.queueEvent e) := by
  unfold State.queueEvent
  split
  · exact (State.SamePeriod.of_eq (t := State.irq _ 4) rfl).trans (State.count_samePeriod _ _ _)
  · exact .of_eq rfl

theorem State.event_samePeriod (s : State) (code : Nat) (sev : Severity) (source data : Nat) : s.SamePeriod (s.event code sev false source data) :=
  s.queueEvent_samePeriod _

theorem State.countDomain_samePeriod (s : State) (d : DomState) (i n : Nat) : s.SamePeriod (s.countDomain d i n) := by
  cases d
  case on => exact s.count_samePeriod _ _
  case retention => exact s.count_samePeriod _ _
  all_goals exact .of_eq rfl

theorem State.passTicks_samePeriod (s : State) (n : Nat) : s.SamePeriod (s.passTicks n) := by
  unfold State.passTicks
  split
  · exact .of_eq rfl
  dsimp only
  generalize hs1 : ({ s with pwr := _, nv := _ } : State) = s1
  have h1 : s.SamePeriod s1 := .of_eq (by rw [← hs1])
  have h2 (l : List Nat) : s.SamePeriod (l.foldl (fun t i => t.countDomain (s.pwr.dom.getD i Domain.initial).st i n) s1) :=
    List.foldlRecOn (motive := fun t : State => s.SamePeriod t) _ _ h1 fun t ht i _ => ht.trans (t.countDomain_samePeriod _ _ _)
  have h3 (t : State) (ht : s.SamePeriod t) (l : List Nat) :
      s.SamePeriod (l.foldl (fun t i => if i + 1 ≤ s.thm.step then t.count (256 + i) n else t) t) :=
    List.foldlRecOn (motive := fun t : State => s.SamePeriod t) _ _ ht fun u hu i _ => by
      split
      · exact hu.trans (u.count_samePeriod _ _)
      · exact hu
  have hend := h3 _ (h2 (List.range 19)) (List.range 4)
  split
  · exact hend
  · split
    · exact hend.trans (State.count_samePeriod _ _ _)
    · exact hend
  · split
    · exact hend.trans (State.count_samePeriod _ _ _)
    · exact hend

theorem State.elapse_samePeriod (s : State) (t : Nat) : s.SamePeriod (s.elapse t) := by
  unfold State.elapse
  split
  · exact .of_eq rfl
  · exact s.passTicks_samePeriod _

/-- A boundary begins the next period at its own instant (R449). -/
theorem State.statBoundary_stat (s : State) : s.statBoundary.stat.period = s.stat.period + 1 ∧ s.statBoundary.stat.startAt = s.now ∧
    s.statBoundary.stat.frames = 0 := by
  unfold State.statBoundary
  dsimp only
  split
  · generalize hs1 : ({ s with stat := _ } : State) = s1
    obtain ⟨live, h⟩ := s1.event_samePeriod 0x1401 .info 0 (s.stat.period + 1).toNat
    rw [h, ← hs1]
    exact ⟨rfl, rfl, rfl⟩
  · exact ⟨rfl, rfl, rfl⟩

theorem statMaxTime_closes (s : State) : ∃ t, exec .statMaxTimeExpiry s = .next t ∧ t.now = max s.now (s.stat.startAt + ms (s.param 0x1401)) ∧
    t.stat.period = s.stat.period + 1 ∧ t.stat.startAt = t.now ∧ t.stat.frames = 0 ∧ t.mem.cells = s.mem.cells ∧ t.par = s.par := by
  obtain ⟨hperiod, hstart, hframes⟩ := (s.elapse (s.stat.startAt + ms (s.param 0x1401))).statBoundary_stat
  obtain ⟨live, hsame⟩ := s.elapse_samePeriod (s.stat.startAt + ms (s.param 0x1401))
  have hnow : (s.elapse (s.stat.startAt + ms (s.param 0x1401))).statBoundary.now = (s.elapse (s.stat.startAt + ms (s.param 0x1401))).now := by simp
  refine ⟨_, rfl, ?_, ?_, ?_, hframes, by simp, by simp⟩
  · rw [hnow, State.elapse_now]
  · rw [hperiod, hsame]
  · rw [hstart, hnow]

/-! ## Eyelets -/

theorem Eyes.get_upd (e : Eyes) (i j : Nat) (f : Eyelet → Eyelet) (hi : i < 16) : (e.upd i f).get j = if j = i then f (e.get i) else e.get j := by
  simp only [Eyes.get, Eyes.upd, List.getD_eq_getElem?_getD]
  by_cases hj : j < 16
  · by_cases h : j = i
    · subst h
      simp [hj]
    · simp [hj, h]
  · have h : j ≠ i := by omega
    simp [hj, h]

/-- EYE_SET writes a rectangle that fits and refuses any other (R442, R443). -/
theorem runEyeSet_eq {p : List Byte} {s : State} {r : EyeRec} {n : Nat} (hr : eyeRecAt p 4 = r) (hn : (byteAt p 0).toNat = n) :
    runEyeSet p s = if 15 < n ∨ r.w = 0 ∨ r.h = 0 ∨ s.param 0x2801 < r.x + r.w ∨ s.param 0x2802 < r.y + r.h ∨ 3 < r.tap ∨ r.frames = 3
      then .reply stOutOfRange [] s else .reply stOk [] (s.eyeWrite n r) := by
  unfold runEyeSet
  dsimp only
  rw [hr, hn]
  refine ite_congr (propext ?_) (fun _ => rfl) fun _ => rfl
  simp only [State.eyeFits, Bool.or_eq_true, decide_eq_true_eq, beq_iff_eq, Bool.not_eq_true', Bool.and_eq_false_iff, decide_eq_false_iff_not]
  omega

theorem eyeSet_writes {i : Mb} {s : State} {r : EyeRec} {n : Nat} (hserved : s.served i cmdEyeSet = true)
    (hr : eyeRecAt (s.reqBody i) 4 = r) (hn : (byteAt (s.reqBody i) 0).toNat = n) :
    (n ≤ 15 → 0 < r.w → 0 < r.h → r.x + r.w ≤ s.param 0x2801 → r.y + r.h ≤ s.param 0x2802 → r.tap ≤ 3 → r.frames ≠ 3 →
      ∃ t : State, exec (.eyeSet i) s = t.answered i stOk [] ∧ (t.eyes.get n).record = r ∧ (∀ m, m ≠ n → t.eyes.get m = s.eyes.get m) ∧
        t.par = s.par) ∧
    (15 < n ∨ r.w = 0 ∨ r.h = 0 ∨ s.param 0x2801 < r.x + r.w ∨ s.param 0x2802 < r.y + r.h ∨ 3 < r.tap ∨ r.frames = 3 →
      exec (.eyeSet i) s = (s.taken i).answered i stOutOfRange []) := by
  have hrun := runEyeSet_eq (s := s.taken i) hr hn
  rw [State.taken_param, State.taken_param] at hrun
  refine ⟨fun hlast hw hh hx hy htap hframes => ?_, fun hbad => ?_⟩
  · rw [if_neg (by omega)] at hrun
    refine ⟨_, (exec_eyeSet i s).trans (State.serve_reply hserved hrun), ?_, fun m hm => ?_, s.taken_par i⟩
    · rw [State.eyeWrite, State.taken_eyes]
      dsimp only
      rw [Eyes.get_upd _ _ _ _ (by omega), if_pos rfl]
    · rw [State.eyeWrite, State.taken_eyes]
      dsimp only
      rw [Eyes.get_upd _ _ _ _ (by omega), if_neg hm]
  · rw [if_pos hbad] at hrun
    exact (exec_eyeSet i s).trans (State.serve_reply hserved hrun)

/-- Settles O39: a read's reply is a part of the ring or of the copies; a rectangle reads back from where it was written. -/
theorem logsStatisticsAndEyelets : Obligations.LogsStatisticsAndEyelets := by
  refine ⟨?oldest, ?events, ?denied, ?stats, ?period, ?eyeSet, ?eyeRead⟩
  case oldest => exact fun i s hserved hring hfrom => logRead_oldest hserved hring hfrom
  case events => exact fun s hserved hring => logRead_events hserved hring
  case denied =>
    intro i s hserved hi hring
    exact (exec_logRead i s).trans (State.serve_reply hserved (by simp [runLogRead, hring, hi, Reply.refuse]))
  case stats =>
    intro i s hserved
    have hlen := served_lenOk hserved
    simp only [cmdStatsRead, Bool.and_eq_true, decide_eq_true_eq, beq_iff_eq] at hlen
    rw [exec_statsRead]
    refine ⟨fun hfit => ?_, fun hout => ?_⟩
    · have hfit' : ¬1343 < le2 (s.reqBody i) 0 + le2 (s.reqBody i) 2 - 1 := by omega
      exact State.serve_reply hserved (by simp [runStatsRead, hfit', State.taken_stat])
    · have hout' : 1343 < le2 (s.reqBody i) 0 + le2 (s.reqBody i) 2 - 1 := by omega
      exact State.serve_reply hserved (by simp [runStatsRead, hout', Reply.refuse])
  case period => exact statMaxTime_closes
  case eyeSet => exact fun i s hserved => eyeSet_writes hserved rfl rfl
  case eyeRead =>
    intro i s hserved e hn
    have hn' : ¬15 < (byteAt (s.reqBody i) 0).toNat := by omega
    rw [exec_eyeRead]
    exact State.serve_reply hserved (by simp [runEyeRead, hn', State.taken_eyes, e])

end Sys2Proof.Machine
end

section
/-! CLAIM O40. CMP_RUN and the containers of its job. -/

namespace Sys2Proof.Machine

/-! ## CMP_RUN -/

theorem exec_cmpRun (i : Mb) (s : State) : exec (.cmpRun i) s = s.serve i cmdCmpRun (runCmpRun i) := rfl

theorem State.taken_cmp (s : State) (i : Mb) : (s.taken i).cmp = s.cmp := by
  obtain ⟨b, w, h⟩ := s.taken_eq i
  rw [h]

theorem State.taken_mem (s : State) (i : Mb) : (s.taken i).mem = s.mem := by
  obtain ⟨b, w, h⟩ := s.taken_eq i
  rw [h]

/-- OP of a request (R470). -/
def cmpOpOf (b : Byte) : CmpOp := if b = 0 then .compress else if b = 1 then .decompress else .check

theorem cmpOpOf_eq (b : Byte) : (match b.toNat with
    | 0 => CmpOp.compress
    | 1 => .decompress
    | _ => .check) = cmpOpOf b := by
  unfold cmpOpOf
  split
  · next h => rw [if_pos (by bv_omega)]
  · next h => rw [if_neg (by bv_omega), if_pos (by bv_omega)]
  · next h0 h1 => rw [if_neg (by bv_omega), if_neg (by bv_omega)]

/-- The job a request asks for (R470, R471). -/
def CmpJob.asked (s : State) (i : Mb) (p : List Byte) : CmpJob :=
  { user := 6, op := cmpOpOf (byteAt p 0), level := if byteAt p 1 = 0 then s.param 0x1C00 else (byteAt p 1).toNat,
    store := bit (byteAt p 2).toNat 0, test := bit (byteAt p 2).toNat 1, verify := bit (byteAt p 2).toNat 2, index := bit (byteAt p 2).toNat 3,
    image := if byteAt p 3 = 1 then some s.logImage else none, srcAddr := le4 p 4,
    srcBytes := if byteAt p 3 = 1 then s.logImage.length else le4 p 8, dstAddr := le4 p 12, dstBytes := le4 p 16, blockBytes := 65536,
    inPos := 0, outPos := 0, block := 0, lastIndex := none, blocks := 0, stored := 0, offsets := [], job := s.cmp.nextJob, mb := i,
    tag := (s.mb i).tag, startAt := s.now }

theorem runCmpRun_queues {i : Mb} {p : List Byte} {s : State} (hon : s.param 0x1C01 ≠ 0) (hplain : (byteAt p 2).toNat.testBit 1 = false)
    (hblock : le4 p 20 = 0) (hfields : cmpFieldsOk p = true) (hcodec : s.domFailed dCodec = false) :
    runCmpRun i p s = .accept (toLe 4 s.cmp.nextJob.toNat) { s with cmp := { s.cmp with jobs := s.cmp.jobs ++ [CmpJob.asked s i p], nextJob := if s.cmp.nextJob + 1 = 0 then 1 else s.cmp.nextJob + 1 } } id := by
  have hsrc : (match (if byteAt p 3 = 1 then some s.logImage else none) with
      | some i => i.length
      | none => le4 p 8) = if byteAt p 3 = 1 then s.logImage.length else le4 p 8 := by
    by_cases h : byteAt p 3 = 1
    · rw [if_pos h, if_pos h]
    · rw [if_neg h, if_neg h]
  unfold runCmpRun CmpJob.asked
  dsimp only
  rw [if_neg (by simp [bit, hplain, hblock, hon]), if_neg (by simp [hfields]), if_neg (by simp [hcodec]), hblock, ← hsrc, ← cmpOpOf_eq]
  rfl

theorem State.taken_logImage (s : State) (i : Mb) : (s.taken i).logImage = s.logImage := by
  rw [State.logImage, State.logImage, State.taken_log]

theorem cmpRun_queues {i : Mb} {s : State} (hserved : s.served i cmdCmpRun = true) (hon : s.param 0x1C01 ≠ 0)
    (hplain : (byteAt (s.reqBody i) 2).toNat.testBit 1 = false) (hblock : le4 (s.reqBody i) 20 = 0) (hfields : cmpFieldsOk (s.reqBody i) = true)
    (hcodec : s.domFailed dCodec = false) :
    ∃ (u : State) (j : CmpJob), exec (.cmpRun i) s = .next (u.accepted i 0x00A0 (toLe 4 s.cmp.nextJob.toNat)).settle ∧
      u.cmp.jobs = s.cmp.jobs ++ [j] ∧ u.cmp.nextJob = (if s.cmp.nextJob + 1 = 0 then 1 else s.cmp.nextJob + 1) ∧
      u.mem = s.mem ∧ j.job = s.cmp.nextJob ∧ j.mb = i ∧
      j.op = (if byteAt (s.reqBody i) 0 = 0 then .compress else if byteAt (s.reqBody i) 0 = 1 then .decompress else .check) ∧
      j.level = (if byteAt (s.reqBody i) 1 = 0 then s.param 0x1C00 else (byteAt (s.reqBody i) 1).toNat) ∧
      j.image = (if byteAt (s.reqBody i) 3 = 1 then some s.logImage else none) ∧ j.srcAddr = le4 (s.reqBody i) 4 ∧
      j.srcBytes = (if byteAt (s.reqBody i) 3 = 1 then s.logImage.length else le4 (s.reqBody i) 8) ∧
      j.dstAddr = le4 (s.reqBody i) 12 ∧ j.dstBytes = le4 (s.reqBody i) 16 ∧ j.blockBytes = 65536 ∧ j.inPos = 0 ∧ j.outPos = 0 ∧ j.startAt = s.now := by
  have hrun := runCmpRun_queues (s := s.taken i) (i := i) (by rw [State.taken_param]; exact hon) hplain hblock hfields
    (by rw [State.taken_domFailed]; exact hcodec)
  have hexec : exec (.cmpRun i) s = .next ((({ s.taken i with cmp := { (s.taken i).cmp with jobs := (s.taken i).cmp.jobs ++ [CmpJob.asked (s.taken i) i (s.reqBody i)], nextJob := if (s.taken i).cmp.nextJob + 1 = 0 then 1 else (s.taken i).cmp.nextJob + 1 } } : State).accepted i 0x00A0 (toLe 4 (s.taken i).cmp.nextJob.toNat))).settle := by
    rw [exec_cmpRun, State.serve_accept (k := 0x00A0) rfl hserved hrun, ← State.taken_tag s i]
    rfl
  rw [State.taken_cmp] at hexec
  refine ⟨_, _, hexec, rfl, rfl, s.taken_mem i, ?_, rfl, rfl, ?_, ?_, rfl, ?_, rfl, rfl, rfl, rfl, rfl, s.taken_now i⟩
  · rw [CmpJob.asked, State.taken_cmp]
  · rw [CmpJob.asked, State.taken_param]
  · rw [CmpJob.asked, State.taken_logImage]
  · rw [CmpJob.asked, State.taken_logImage]

/-! ## CMP_CONTAINER_DONE -/

/-- A job that ends leaves the queue, and what it did is reported (R470, R473). -/
theorem State.cmpEnd_cmp (s : State) (j : CmpJob) (status : Nat) : (s.cmpEnd j status).cmp.lastJob = j.job ∧
    (s.cmpEnd j status).cmp.lastStatus = status ∧ (s.cmpEnd j status).cmp.lastIn = j.inPos ∧ (s.cmpEnd j status).cmp.lastOut = j.outPos ∧
    (s.cmpEnd j status).cmp.lastBlocks = j.blocks ∧ (s.cmpEnd j status).cmp.lastFail = (if status = stOk then 0xFFFFFFFF else j.block) ∧
    (s.cmpEnd j status).cmp.jobs.all (·.job != j.job) = true := by
  simp [State.cmpEnd, State.cmpAccount]

theorem State.memAsk_ramBytes (s : State) (low write : Bool) (k a n : Nat) : (s.memAsk low write k).ramBytes a n = s.ramBytes a n := rfl

theorem State.memAsk_cmpSource (s : State) (low write : Bool) (k : Nat) (j : CmpJob) (n : Nat) :
    (s.memAsk low write k).cmpSource j n = s.cmpSource j n := rfl

theorem exec_cmpContainerDone {j : CmpJob} {rest : List CmpJob} {s : State} (hjobs : s.cmp.jobs = j :: rest) (hcodec : s.domOn dCodec = true)
    (hlanes : s.lanesTaken = false) : ∃ n, exec .cmpContainerDone s =
      done (if j.op = .compress then (s.memAsk true false n).cmpCompress j else (s.memAsk true false n).cmpDecompress j) := by
  have hexec : exec .cmpContainerDone s = execCmpContainerDone s := rfl
  unfold execCmpContainerDone at hexec
  rw [hjobs] at hexec
  dsimp only at hexec
  rw [if_neg (by simp [hcodec, hlanes])] at hexec
  exact ⟨_, hexec⟩

/-- A last block compresses into one container, and its job ends (R466, R472). -/
theorem State.cmpCompress_last {j : CmpJob} {s : State} (himage : j.image = none) (hstore : j.store = true) (hverify : j.verify = false)
    (hindex : j.index = false) (hblock : j.blockBytes = 65536) (hmore : j.inPos < j.srcBytes) (hlast : j.srcBytes ≤ j.inPos + 65536)
    (hstored : j.stored = 0) {c : List Byte × Bool}
    (hc : container j.level true false j.block (s.ramBytes (j.srcAddr + j.inPos) (j.srcBytes - j.inPos)) = c)
    (hfit : j.outPos + c.1.length ≤ j.dstBytes) :
    ∃ (u : State) (k : CmpJob), u.mem = s.mem ∧ k.job = j.job ∧ k.inPos = j.srcBytes ∧ k.outPos = j.outPos + c.1.length ∧ k.blocks = j.blocks + 1 ∧
      s.cmpCompress j = ((u.poolWrite true (j.dstAddr + j.outPos) c.1).poolWrite true (j.dstAddr + (j.outPos + c.1.length)) []).cmpEnd k
        (if c.2 then stExpands else stOk) := by
  have hsrc : s.cmpSource j (min j.blockBytes (j.srcBytes - j.inPos)) = s.ramBytes (j.srcAddr + j.inPos) (j.srcBytes - j.inPos) := by
    rw [State.cmpSource, himage, hblock, Nat.min_eq_right (by omega)]
  have hlen : (s.ramBytes (j.srcAddr + j.inPos) (j.srcBytes - j.inPos)).length = j.srcBytes - j.inPos := by simp [State.ramBytes]
  have hend : j.inPos + (j.srcBytes - j.inPos) = j.srcBytes := by omega
  have hflush : (decide (j.blockBytes < 65536) && !true) = false := by simp
  unfold State.cmpCompress
  dsimp only
  rw [hsrc, hlen, hend, decide_eq_true (Nat.le_refl j.srcBytes), hflush, hc]
  rw [if_neg (by simp [hstore]), if_neg (by omega), if_neg (by simp [hverify]), if_pos (Nat.le_refl j.srcBytes)]
  simp only [hindex, Bool.false_eq_true, if_false, List.length_nil, Nat.add_zero, hstored, Nat.zero_add]
  rw [if_neg (by omega)]
  have hexpands : (if 0 < b2n c.2 then stExpands else stOk) = if c.2 then stExpands else stOk := by
    cases c.2
    · rfl
    · rfl
  rw [hexpands]
  refine ⟨if c.2 then s.count 449 1 else s, _, ?_, ?_, ?_, ?_, ?_, rfl⟩
  · split
    · simp
    · rfl
  all_goals rfl

theorem State.ram_congr {s t : State} (h : t.mem = s.mem) : t.ram = s.ram := by
  funext a
  rw [State.ram, State.ram, h]

/-- What a write makes of GDDR7 turns on the bytes there alone. -/
theorem State.ramWrite_ram_congr {s t : State} (hcells : t.mem.cells = s.mem.cells) (hfill : t.mem.hoopFill = s.mem.hoopFill) (a : Nat)
    (bs : List Byte) : (t.ramWrite a bs).ram = (s.ramWrite a bs).ram := by
  funext b
  simp only [State.ram, State.ramWrite, hcells, hfill]

theorem State.ramWrite_nil (s : State) (a : Nat) : s.ramWrite a [] = s := rfl

theorem cmpContainer_compresses {j : CmpJob} {rest : List CmpJob} {s : State} (hjobs : s.cmp.jobs = j :: rest) (hcodec : s.domOn dCodec = true)
    (hlanes : s.lanesTaken = false) (hop : j.op = .compress) (himage : j.image = none) (hstore : j.store = true) (hverify : j.verify = false)
    (hindex : j.index = false) (hblock : j.blockBytes = 65536) (hmore : j.inPos < j.srcBytes) (hlast : j.srcBytes ≤ j.inPos + 65536)
    (hstored : j.stored = 0) (hwf : Memory.wf s = true) {c : List Byte × Bool}
    (hc : container j.level true false j.block (s.ramBytes (j.srcAddr + j.inPos) (j.srcBytes - j.inPos)) = c)
    (hfit : j.outPos + c.1.length ≤ j.dstBytes) :
    ∃ t, exec .cmpContainerDone s = .next t ∧ t.ramBytes (j.dstAddr + j.outPos) c.1.length = c.1 ∧
      (∀ a, a < j.dstAddr + j.outPos ∨ j.dstAddr + j.outPos + c.1.length ≤ a → t.ram a = s.ram a) ∧
      t.cmp.lastJob = j.job ∧ t.cmp.lastStatus = (if c.2 then stExpands else stOk) ∧ t.cmp.lastIn = j.srcBytes ∧
      t.cmp.lastOut = j.outPos + c.1.length ∧ t.cmp.lastBlocks = j.blocks + 1 ∧ t.cmp.jobs.all (·.job != j.job) = true := by
  obtain ⟨n, hexec⟩ := exec_cmpContainerDone hjobs hcodec hlanes
  rw [if_pos hop] at hexec
  obtain ⟨u, k, humem, hkjob, hkin, hkout, hkblocks, hgo⟩ := State.cmpCompress_last (s := s.memAsk true false n) himage hstore hverify hindex hblock
    hmore hlast hstored hc hfit
  rw [hgo] at hexec
  obtain ⟨hjob, hstatus, hin, hout, hblocks, -, hall⟩ := State.cmpEnd_cmp
    ((u.poolWrite true (j.dstAddr + j.outPos) c.1).poolWrite true (j.dstAddr + (j.outPos + c.1.length)) []) k (if c.2 then stExpands else stOk)
  generalize hv : (u.poolWrite true (j.dstAddr + j.outPos) c.1).poolWrite true (j.dstAddr + (j.outPos + c.1.length)) [] = v at *
  obtain ⟨p, hp⟩ := (v.cmpEnd k (if c.2 then stExpands else stOk)).settle_eq
  have hram : (v.cmpEnd k (if c.2 then stExpands else stOk)).settle.ram = (s.ramWrite (j.dstAddr + j.outPos) c.1).ram := by
    have hmem : (v.cmpEnd k (if c.2 then stExpands else stOk)).settle.mem = v.mem := by simp
    have hcells : u.mem.cells = s.mem.cells := by rw [humem]; rfl
    have hfill : u.mem.hoopFill = s.mem.hoopFill := by rw [humem]; rfl
    rw [State.ram_congr hmem, ← hv, State.poolWrite_ram, State.ramWrite_nil, State.poolWrite_ram, State.ramWrite_ram_congr hcells hfill]
  refine ⟨_, hexec, ?_, fun a ha => ?_, ?_, ?_, ?_, ?_, ?_, ?_⟩
  · have hbytes := s.ramWrite_ramBytes hwf (j.dstAddr + j.outPos) c.1
    rw [State.ramBytes] at hbytes ⊢
    rw [hram]
    exact hbytes
  · rw [hram, State.ramWrite_ram hwf, if_neg (by omega)]
  · rw [hp, hjob, hkjob]
  · rw [hp, hstatus]
  · rw [hp, hin, hkin]
  · rw [hp, hout, hkout]
  · rw [hp, hblocks, hkblocks]
  · rw [hp, ← hkjob]
    exact hall

theorem cmpContainer_checks {j : CmpJob} {rest : List CmpJob} {s : State} (hjobs : s.cmp.jobs = j :: rest) (hcodec : s.domOn dCodec = true)
    (hlanes : s.lanesTaken = false) (hop : j.op = .check) {src : List Byte}
    (hsrc : s.cmpSource j (min (24 + le4 (s.cmpSource j (min 24 (j.srcBytes - j.inPos))) 12) (j.srcBytes - j.inPos)) = src) :
    ∃ t, exec .cmpContainerDone s = .next t ∧ t.mem.cells = s.mem.cells ∧
      match decodeContainer src j.lastIndex (j.test || s.boot.stage == .unconfigured) with
      | none => t.cmp.lastJob = j.job ∧ t.cmp.lastStatus = stCheckFailed ∧ t.cmp.jobs.all (·.job != j.job) = true
      | some c =>
        if c.last = true ∨ j.inPos + c.total = j.srcBytes then
          t.cmp.lastJob = j.job ∧ t.cmp.lastStatus = stOk ∧ t.cmp.lastBlocks = j.blocks + 1 ∧ t.cmp.lastFail = 0xFFFFFFFF ∧
            t.cmp.jobs.all (·.job != j.job) = true
        else t.cmp.jobs.head? = some { j with
          inPos := j.inPos + c.total, block := c.index, lastIndex := some c.index, blocks := j.blocks + 1 } := by
  obtain ⟨n, hexec⟩ := exec_cmpContainerDone hjobs hcodec hlanes
  rw [if_neg (by simp [hop])] at hexec
  unfold State.cmpDecompress at hexec
  dsimp only at hexec
  rw [State.memAsk_cmpSource, State.memAsk_cmpSource, hsrc] at hexec
  have hstage : (s.memAsk true false n).boot = s.boot := rfl
  rw [hstage] at hexec
  have hplain : ¬j.op = .decompress := by simp [hop]
  cases hdecode : decodeContainer src j.lastIndex (j.test || s.boot.stage == .unconfigured) with
  | none =>
    rw [hdecode] at hexec
    simp only [hplain, decide_false, Bool.false_and, Bool.false_eq_true, if_false] at hexec
    refine ⟨_, hexec, by simp [State.memAsk], ?_⟩
    generalize (if 24 ≤ j.srcBytes - j.inPos then _ else _) = named
    obtain ⟨hjob, hstatus, -, -, -, -, hall⟩ := State.cmpEnd_cmp ((s.memAsk true false n).count 450 1) { j with block := named } stCheckFailed
    obtain ⟨p, hp⟩ := (((s.memAsk true false n).count 450 1).cmpEnd { j with block := named } stCheckFailed).settle_eq
    rw [hp]
    exact ⟨hjob, hstatus, hall⟩
  | some c =>
    rw [hdecode] at hexec
    simp only [hplain, decide_false, Bool.false_and, Bool.false_eq_true, if_false] at hexec
    by_cases hends : c.last = true ∨ j.inPos + c.total = j.srcBytes
    · rw [if_pos (by simpa using hends)] at hexec
      refine ⟨_, hexec, by simp [State.memAsk], ?_⟩
      dsimp only
      rw [if_pos hends]
      obtain ⟨hjob, hstatus, -, -, hblocks, hfail, hall⟩ := State.cmpEnd_cmp (s.memAsk true false n)
        { j with inPos := j.inPos + c.total, block := c.index, lastIndex := some c.index, outPos := j.outPos, blocks := j.blocks + 1 } stOk
      obtain ⟨p, hp⟩ := ((s.memAsk true false n).cmpEnd
        { j with inPos := j.inPos + c.total, block := c.index, lastIndex := some c.index, outPos := j.outPos, blocks := j.blocks + 1 } stOk).settle_eq
      rw [hp]
      exact ⟨hjob, hstatus, hblocks, hfail, hall⟩
    · rw [if_neg (by simpa using hends)] at hexec
      refine ⟨_, hexec, by simp [State.cmpKeep, State.memAsk], ?_⟩
      dsimp only
      rw [if_neg hends]
      simp [State.cmpKeep, State.memAsk, hjobs]

/-- Settles O40: a request is queued behind its checks, and a container is followed through the block it stores or tests. -/
theorem compressionRuns : Obligations.CompressionRuns := by
  refine ⟨?run, ?compress, ?check⟩
  case run =>
    intro i s hserved
    refine ⟨fun hoff => ?_, fun hon hplain hblock hfields => ?_,
      fun hon hplain hblock hfields hcodec => cmpRun_queues hserved hon hplain hblock hfields hcodec⟩
    · exact (exec_cmpRun i s).trans (State.serve_reply hserved (by simp [runCmpRun, State.taken_param, hoff, Reply.refuse]))
    · refine (exec_cmpRun i s).trans (State.serve_reply hserved ?_)
      simp [runCmpRun, bit, State.taken_param, hon, hplain, hblock, hfields, Reply.refuse]
  case compress =>
    intro j rest s hjobs hcodec hlanes hop himage hstore hverify hindex hblock hmore hlast hstored hwf src c hfit
    exact cmpContainer_compresses hjobs hcodec hlanes hop himage hstore hverify hindex hblock hmore hlast hstored hwf rfl hfit
  case check =>
    intro j rest s hjobs hcodec hlanes hop left src
    exact cmpContainer_checks hjobs hcodec hlanes hop rfl

end Sys2Proof.Machine
end

section
/-! CLAIM O41. A handshake and the session it establishes. -/

namespace Sys2Proof.Machine

theorem State.arrived_sec (s : State) (side : Side) (at_ : Nat) (sets : List (List LinkBlock)) : (s.arrived side at_ sets).sec = s.sec := by
  simp [State.arrived]

theorem State.arrived_free (s : State) (side : Side) (at_ : Nat) (sets : List (List LinkBlock)) : (s.arrived side at_ sets).free = s.free := by
  simp [State.arrived]

theorem State.arrived_param (s : State) (side : Side) (at_ : Nat) (sets : List (List LinkBlock)) (id : Nat) :
    (s.arrived side at_ sets).param id = s.param id := s.elapse_param at_ id

/-- The arrival of a packet moves the link's descramblers alone (R175). -/
theorem State.arrived_hl (s : State) (side : Side) (at_ : Nat) (sets : List (List LinkBlock)) :
    ∃ r, (s.arrived side at_ sets).hl = { s.hl with scr := r } := by
  have hhl : (s.elapse at_).hl = s.hl := by simp
  exact ⟨_, by rw [State.arrived, State.descramble, hhl]⟩

theorem State.arrived_bcDriven (s : State) (side : Side) (at_ : Nat) (sets : List (List LinkBlock)) :
    (s.arrived side at_ sets).bcDriven = s.bcDriven := by
  obtain ⟨r, hr⟩ := s.arrived_hl side at_ sets
  have hboot : (s.arrived side at_ sets).boot = s.boot := by simp [State.arrived]
  rw [State.bcDriven, State.bcDriven, hboot, hr, State.arrived_domOn]

theorem State.bcSend_tx {s : State} (m : BcMsg) (h : s.bcDriven = true) : (s.bcSend m).hl.tx = bcInsert m s.hl.tx := by
  rw [State.bcSend, if_pos h]

theorem State.settle_sec (s : State) : s.settle.sec = s.sec := by simp

theorem State.settle_hl (s : State) : s.settle.hl = s.hl := by simp

/-- What a good HELLO opens (R212, R213). -/
def State.opened (s : State) (path : Option Mb) (m : List Byte) : Handshake :=
  { hello := m, path := path, draw := s.free, deviceHello := none, id := 0, keys := none, sentAt := 0, renew := !s.sec.sessions.isEmpty }

theorem State.helloIn_opens {s : State} {m : List Byte} (path : Option Mb) (hrow : s.param 0x2001 ≠ 1) (hlock : s.sec.unlocked = false)
    (hok : helloOk m = true) (hnone : s.sec.handshake = none) (hcurve : Config.onCurve (slice m 24 64) = true) :
    s.helloIn path m = { s with free := s.free + 1, sec := { s.sec with handshake := some (s.opened path m) } } := by
  have hdrop : s.dropHandshake = s := by simp [State.dropHandshake, hnone]
  simp [State.helloIn, hrow, hlock, hok, hdrop, hcurve, State.opened]

/-- A key that is no point of the curve is answered with ALERT code 6 (R213, R215). -/
theorem State.helloIn_offCurve {s : State} {m : List Byte} (path : Option Mb) (hrow : s.param 0x2001 ≠ 1) (hlock : s.sec.unlocked = false)
    (hok : helloOk m = true) (hnone : s.sec.handshake = none) (hcurve : Config.onCurve (slice m 24 64) = false) :
    s.helloIn path m = s.sendHandshake path (alertMsg 6) := by
  have hdrop : s.dropHandshake = s := by simp [State.dropHandshake, hnone]
  simp [State.helloIn, hrow, hlock, hok, hdrop, hcurve]

theorem State.helloIn_malformed {s : State} {m : List Byte} (path : Option Mb) (hrow : s.param 0x2001 ≠ 1) (hlock : s.sec.unlocked = false)
    (hok : helloOk m = false) : s.helloIn path m = s.sendHandshake path (alertMsg 1) := by
  simp [State.helloIn, hrow, hlock, hok]

theorem State.sendHandshake_sec (s : State) (path : Option Mb) (m : List Byte) : (s.sendHandshake path m).sec = s.sec := by
  cases path
  · simp [State.sendHandshake]
  · simp [State.sendHandshake]

/-! ## SEC_SESSION -/

/-- SEC_SESSION once its response is held. -/
def State.awaiting (s : State) (i : Mb) : State := ((s.taken i).onMb i fun m => { m with wait := .secHandshake }).settle

theorem State.awaiting_mb (s : State) (i : Mb) : (s.awaiting i).mb i = { s.mb i with st := .busy, wait := .secHandshake } := by
  rw [State.awaiting, State.settle_mb, State.onMb_get]
  cases i
  all_goals rfl

theorem State.awaiting_eq (s : State) (i : Mb) : ∃ b w p, s.awaiting i = { s with box := b, win := w, pwr := p } := by
  obtain ⟨b, w, h⟩ := s.taken_eq i
  obtain ⟨p, hp⟩ := ((s.taken i).onMb i fun m => { m with wait := .secHandshake }).settle_eq
  exact ⟨_, w, p, by rw [State.awaiting, hp, h]; rfl⟩

theorem State.served_pending {s : State} {i : Mb} {c : Cmd} (h : s.served i c = true) : (s.mb i).st = .pending := by
  simp only [State.served, State.takes, Bool.and_eq_true, beq_iff_eq] at h
  obtain ⟨⟨⟨⟨⟨⟨⟨⟨⟨⟨hst, -⟩, -⟩, -⟩, -⟩, -⟩, -⟩, -⟩, -⟩, -⟩, -⟩ := h
  exact hst

theorem State.served_code {s : State} {i : Mb} {c : Cmd} (h : s.served i c = true) : reqCode (s.mb i).req = c.code := by
  simp only [State.served, Bool.and_eq_true, beq_iff_eq] at h
  obtain ⟨⟨⟨⟨⟨⟨⟨⟨-, hcode⟩, -⟩, -⟩, -⟩, -⟩, -⟩, -⟩, -⟩ := h
  exact hcode

theorem secSession_runs {i : Mb} {s : State} (hserved : s.served i cmdSecSession = true) (hdom : s.domFailed dSec = false) :
    exec (.secSession i) s = .next ((s.awaiting i).handshakeIn (some i) (s.reqBody i)).settle := by
  have hrun : runSecSession (s.reqBody i) (s.taken i) = .hold .secHandshake (s.taken i) :=
    if_neg (by rw [State.taken_domFailed, hdom]; decide)
  have hserve : s.serve i cmdSecSession runSecSession = .next (s.awaiting i) := by
    rw [State.serve_served runSecSession hserved, hrun]
    rfl
  have hexec : exec (.secSession i) s = execSecSession i s := rfl
  unfold execSecSession at hexec
  rw [hserve] at hexec
  dsimp only at hexec
  rw [State.awaiting_mb, State.served_pending hserved] at hexec
  exact hexec

theorem secSession_hello {i : Mb} {s : State} (hserved : s.served i cmdSecSession = true) (hdom : s.domFailed dSec = false)
    (hkind : byteAt (s.reqBody i) 0 = 1) : exec (.secSession i) s = .next ((s.awaiting i).helloIn (some i) (s.reqBody i)).settle := by
  rw [secSession_runs hserved hdom, State.handshakeIn, if_pos hkind]

theorem secSession_opens {i : Mb} {s : State} (hserved : s.served i cmdSecSession = true) (hdom : s.domFailed dSec = false)
    (hkind : byteAt (s.reqBody i) 0 = 1) (hrow : s.param 0x2001 ≠ 1) (hlock : s.sec.unlocked = false) (hok : helloOk (s.reqBody i) = true)
    (hnone : s.sec.handshake = none) :
    ∃ t, exec (.secSession i) s = .next t ∧
      (Config.onCurve (slice (s.reqBody i) 24 64) = true →
        (t.mb i).st = .busy ∧ (t.mb i).wait = .secHandshake ∧ t.sec.sessions = s.sec.sessions ∧ t.sec.handshake = some (s.opened (some i) (s.reqBody i))) ∧
      (Config.onCurve (slice (s.reqBody i) 24 64) = false → t.sec = s.sec) := by
  obtain ⟨b, w, p, hs⟩ := s.awaiting_eq i
  have hrow' : (s.awaiting i).param 0x2001 ≠ 1 := by rw [hs]; exact hrow
  have hlock' : (s.awaiting i).sec.unlocked = false := by rw [hs]; exact hlock
  have hnone' : (s.awaiting i).sec.handshake = none := by rw [hs]; exact hnone
  refine ⟨_, secSession_hello hserved hdom hkind, fun hcurve => ?_, fun hcurve => ?_⟩
  · rw [State.helloIn_opens (some i) hrow' hlock' hok hnone' hcurve, State.settle_sec, State.settle_mb]
    have hmb := s.awaiting_mb i
    rw [hs] at hmb ⊢
    exact ⟨congrArg Mailbox.st hmb, congrArg Mailbox.wait hmb, rfl, rfl⟩
  · rw [State.helloIn_offCurve (some i) hrow' hlock' hok hnone' hcurve, State.settle_sec, State.sendHandshake_sec, hs]

theorem secSession_malformed {i : Mb} {s : State} (hserved : s.served i cmdSecSession = true) (hdom : s.domFailed dSec = false)
    (hkind : byteAt (s.reqBody i) 0 = 1) (hrow : s.param 0x2001 ≠ 1) (hlock : s.sec.unlocked = false) (hok : helloOk (s.reqBody i) = false)
    (hi : i = .mb0 ∨ i = .mb2) :
    ∃ t, exec (.secSession i) s = .next t ∧ t.sec = s.sec ∧
      (t.mb i).resp = padBuf (respHeader 0x00B0 16 (s.mb i).tag.toNat stOk ++ alertMsg 1) := by
  obtain ⟨b, w, p, hs⟩ := s.awaiting_eq i
  have hmb := s.awaiting_mb i
  have hrow' : (s.awaiting i).param 0x2001 ≠ 1 := by rw [hs]; exact hrow
  have hlock' : (s.awaiting i).sec.unlocked = false := by rw [hs]; exact hlock
  refine ⟨_, secSession_hello hserved hdom hkind, ?_, ?_⟩
  · rw [State.helloIn_malformed (some i) hrow' hlock' hok, State.settle_sec, State.sendHandshake_sec, hs]
  · have hsend : (s.awaiting i).sendHandshake (some i) (alertMsg 1) = (s.awaiting i).post i stOk (alertMsg 1) := if_pos (by simp [hmb])
    have hne1 : i ≠ .mb1 := by rcases hi with rfl | rfl <;> decide
    have hne3 : i ≠ .mb3 := by rcases hi with rfl | rfl <;> decide
    have hcode : reqCode (s.mb i).req = 0x00B0 := State.served_code hserved
    rw [State.helloIn_malformed (some i) hrow' hlock' hok, State.settle_mb, hsend, State.post_plain _ _ _ hne1, (State.posted_answer _ hne3).1, hmb]
    dsimp only
    rw [hcode]
    rfl

/-! ## HELLO and FINISH in a PROT packet -/

theorem protPacket_in {side : Side} {at_ : Nat} {sets : List (List LinkBlock)} {p m : List Byte} {s : State}
    (h : s.brings side sets 8 false p = true) (hleft : s.stream side = .left) (hm : protMessage p = some m) :
    s.packetIn side at_ sets = (if byteAt m 0 = 1 then (s.arrived side at_ sets).helloIn none m
      else if byteAt m 0 = 3 then (s.arrived side at_ sets).finishIn none m else (s.arrived side at_ sets).sendHandshake none (alertMsg 1)) := by
  have hpacket : (s.arrived side at_ sets).packet .left 8 false p = (s.arrived side at_ sets).protIn p := rfl
  rw [State.packetIn_brings at_ h, hleft, hpacket, State.protIn, hm]

theorem hello_runs {side : Side} {at_ : Nat} {sets : List (List LinkBlock)} {p m : List Byte} {s : State}
    (h : s.brings side sets 8 false p = true) (hleft : s.stream side = .left) (hm : protMessage p = some m) (hkind : byteAt m 0 = 1) :
    exec (.hello side ⟨at_, sets⟩) s = .next ((s.arrived side at_ sets).helloIn none m).settle :=
  congrArg done ((protPacket_in h hleft hm).trans (if_pos hkind))

theorem finishOk_kind {m : List Byte} (h : finishOk m = true) : byteAt m 0 = 3 := by
  simp only [finishOk, Bool.and_eq_true, beq_iff_eq] at h
  obtain ⟨⟨⟨⟨-, hkind⟩, -⟩, -⟩, -⟩ := h
  exact hkind

theorem finish_runs {side : Side} {at_ : Nat} {sets : List (List LinkBlock)} {p m : List Byte} {s : State}
    (h : s.brings side sets 8 false p = true) (hleft : s.stream side = .left) (hm : protMessage p = some m) (hok : finishOk m = true) :
    exec (.finish side ⟨at_, sets⟩) s = .next ((s.arrived side at_ sets).finishIn none m).settle := by
  have hkind := finishOk_kind hok
  exact congrArg done ((protPacket_in h hleft hm).trans ((if_neg (by rw [hkind]; decide)).trans (if_pos hkind)))

theorem hello_opens {side : Side} {at_ : Nat} {sets : List (List LinkBlock)} {p m : List Byte} {s : State}
    (h : s.brings side sets 8 false p = true) (hleft : s.stream side = .left) (hm : protMessage p = some m) (hkind : byteAt m 0 = 1)
    (hrow : s.param 0x2001 ≠ 1) (hlock : s.sec.unlocked = false) (hok : helloOk m = true) (hnone : s.sec.handshake = none) :
    ∃ t, exec (.hello side ⟨at_, sets⟩) s = .next t ∧ t.sec.sessions = s.sec.sessions ∧
      (Config.onCurve (slice m 24 64) = true → t.sec.handshake = some (s.opened none m)) ∧
      (Config.onCurve (slice m 24 64) = false →
        t.sec = s.sec ∧ (s.bcDriven = true → t.hl.tx = bcInsert { kind := 3, payload := alertMsg 6, last := none } s.hl.tx)) := by
  have hsec := s.arrived_sec side at_ sets
  have hrow' : (s.arrived side at_ sets).param 0x2001 ≠ 1 := by rw [State.arrived_param]; exact hrow
  have hlock' : (s.arrived side at_ sets).sec.unlocked = false := by rw [hsec]; exact hlock
  have hnone' : (s.arrived side at_ sets).sec.handshake = none := by rw [hsec]; exact hnone
  refine ⟨_, hello_runs h hleft hm hkind, ?_⟩
  cases hcurve : Config.onCurve (slice m 24 64)
  case false =>
    rw [State.helloIn_offCurve none hrow' hlock' hok hnone' hcurve, State.settle_sec, State.sendHandshake_sec, hsec]
    refine ⟨rfl, nofun, fun _ => ⟨rfl, fun hbc => ?_⟩⟩
    obtain ⟨r, hr⟩ := s.arrived_hl side at_ sets
    rw [State.settle_hl, State.sendHandshake, State.bcSend_tx _ (by rw [State.arrived_bcDriven]; exact hbc), hr]
  case true =>
    rw [State.helloIn_opens none hrow' hlock' hok hnone' hcurve, State.settle_sec]
    simp only [State.opened, hsec, State.arrived_free]
    exact ⟨trivial, fun _ => trivial, nofun⟩

theorem secKeyAgreementDone_sends {h : Handshake} {s : State} (hs : s.sec.handshake = some h) (hdh : h.deviceHello = none) :
    let id := nextSessionId s.sec.idCounter
    let dh := deviceHello id h.draw h.hello
    ∃ t, exec .secKeyAgreementDone s = .next t ∧ t.sec.idCounter = id ∧ t.sec.sessions = s.sec.sessions ∧
      t.sec.handshake = some { h with
        deviceHello := some dh, id := id, sentAt := s.now,
        keys := some (sessionKeys (Config.ecdhEphemeral h.draw (slice h.hello 24 64)) (slice h.hello 8 16 ++ slice dh 8 16)
          (Config.sha256 (h.hello ++ dh))) } ∧
      (h.path = none → s.bcDriven = true → t.hl.tx = bcInsert { kind := 3, payload := dh, last := none } s.hl.tx) := by
  intro id dh
  have hexec : exec .secKeyAgreementDone s = execSecKeyAgreementDone s := rfl
  unfold execSecKeyAgreementDone at hexec
  rw [hs] at hexec
  dsimp only at hexec
  rw [if_neg (by rw [hdh]; decide)] at hexec
  refine ⟨_, hexec, ?_, ?_, ?_, fun hpath hbc => ?_⟩
  · rw [State.settle_sec, State.sendHandshake_sec]
  · rw [State.settle_sec, State.sendHandshake_sec]
  · rw [State.settle_sec, State.sendHandshake_sec]
  · rw [State.settle_hl, hpath]
    exact State.bcSend_tx (s := { s with sec := _ }) _ hbc

/-- FINISH after DEVICE_HELLO, its format right and in time: its proof and its SWITCH_FRAME decide (R215). -/
theorem State.finishIn_judged {s : State} {path : Option Mb} {h : Handshake} {k : Keys} {m dh : List Byte} (hok : finishOk m = true)
    (hs : s.sec.handshake = some h) (hdh : h.deviceHello = some dh) (hk : h.keys = some k) (htime : s.now ≤ h.sentAt + ms 1000) :
    s.finishIn path m =
      if slice m 16 32 ≠ slice (Config.hmac k.hconf (Config.sha256 (h.hello ++ dh ++ m.take 16))) 0 32 then s.sendHandshake path (alertMsg 2)
      else if (match s.hl.fsLast with | none => true | some f => srcAfter f (Word.of (le4 m 4))) then
        (s.sendHandshake path (deviceFinish h k dh m)).establish h k (Word.of (le4 m 4))
      else s.sendHandshake path (alertMsg 3) := by
  simp only [State.finishIn, hs, hdh, hk, hok, if_neg (Nat.not_lt.mpr htime), Bool.not_true, Bool.false_eq_true, if_false, Bool.not_eq_true']
  split
  · rfl
  · split <;> split <;> simp_all

theorem State.establish_sec (s : State) (h : Handshake) (k : Keys) (w : Word) :
    (s.establish h k w).sec = { s.sec with sessions := { id := h.id, keys := k, switch := w } :: s.sec.sessions, handshake := none, tagFails := 0, lastId := h.id } := by
  simp [State.establish]

theorem State.establish_box (s : State) (h : Handshake) (k : Keys) (w : Word) :
    (s.establish h k w).box = { s.box with mb1Rx := 0, mb1Tx := 0 } := by
  simp [State.establish]

theorem finish_establishes {side : Side} {at_ : Nat} {sets : List (List LinkBlock)} {p m dh : List Byte} {h : Handshake} {k : Keys} {s : State}
    (hb : s.brings side sets 8 false p = true) (hleft : s.stream side = .left) (hm : protMessage p = some m) (hok : finishOk m = true)
    (hs : s.sec.handshake = some h) (hdh : h.deviceHello = some dh) (hk : h.keys = some k)
    (htime : (s.arrived side at_ sets).now ≤ h.sentAt + ms 1000) :
    ∃ t, exec (.finish side ⟨at_, sets⟩) s = .next t ∧
      (slice m 16 32 = slice (Config.hmac k.hconf (Config.sha256 (h.hello ++ dh ++ m.take 16))) 0 32 →
        (∀ f, s.hl.fsLast = some f → srcAfter f (Word.of (le4 m 4)) = true) →
        t.sec.handshake = none ∧ t.sec.tagFails = 0 ∧ t.box.mb1Rx = 0 ∧ t.box.mb1Tx = 0 ∧
        t.sec.sessions = { id := h.id, keys := k, switch := Word.of (le4 m 4) } :: s.sec.sessions) ∧
      (slice m 16 32 ≠ slice (Config.hmac k.hconf (Config.sha256 (h.hello ++ dh ++ m.take 16))) 0 32 → t.sec = s.sec) ∧
      (∀ f, s.hl.fsLast = some f → srcAfter f (Word.of (le4 m 4)) = false → t.sec = s.sec) := by
  have hsec := s.arrived_sec side at_ sets
  obtain ⟨r, hr⟩ := s.arrived_hl side at_ sets
  have hlast : (s.arrived side at_ sets).hl.fsLast = s.hl.fsLast := by rw [hr]
  refine ⟨_, finish_runs hb hleft hm hok, ?_⟩
  rw [State.settle_sec, State.settle_box, State.finishIn_judged hok (by rw [hsec]; exact hs) hdh hk htime, hlast]
  refine ⟨fun hproof hnext => ?_, fun hproof => ?_, fun f hf hafter => ?_⟩
  · have hfollows : (match s.hl.fsLast with | none => true | some f => srcAfter f (Word.of (le4 m 4))) = true := by
      split
      · rfl
      · exact hnext _ (by assumption)
    rw [if_neg (not_not_intro hproof), if_pos hfollows, State.establish_sec, State.establish_box, State.sendHandshake_sec, hsec]
    exact ⟨rfl, rfl, rfl, rfl, rfl⟩
  · rw [if_pos hproof, State.sendHandshake_sec, hsec]
  · have hstale : ¬(match s.hl.fsLast with | none => true | some f => srcAfter f (Word.of (le4 m 4))) = true := by
      simp only [hf, hafter, Bool.false_eq_true, not_false_iff]
    rw [if_neg hstale]
    split
    · rw [State.sendHandshake_sec, hsec]
    · rw [State.sendHandshake_sec, hsec]

/-- Settles O41 (log entry 58): a HELLO, the key agreement and a FINISH are each followed through their checks to the sessions they leave. -/
theorem handshakesEstablishSessions : Obligations.HandshakesEstablishSessions := by
  refine ⟨fun i s hserved hdom hkind hrow hlock => ⟨fun hok hnone => ?_, fun hok hi => ?_⟩, ?_, ?_, ?_, fun s => rfl⟩
  · exact secSession_opens hserved hdom hkind hrow hlock hok hnone
  · exact secSession_malformed hserved hdom hkind hrow hlock hok hi
  · intro side at_ sets p m s hb hleft hm hkind hrow hlock hok hnone
    exact hello_opens hb hleft hm hkind hrow hlock hok hnone
  · intro h s hs hdh
    exact secKeyAgreementDone_sends hs hdh
  · intro side at_ sets p m dh h k s hb hleft hm hok hs hdh hk htime
    exact finish_establishes hb hleft hm hok hs hdh hk htime

end Sys2Proof.Machine
end

section
/-! CLAIM O42. Protected settings. -/

namespace Sys2Proof.Machine

theorem secStatus_answers {i : Mb} {s : State} (hserved : s.served i (.bare 0x00B2) = true) :
    let nonce := slice (Config.randomBytes s.free) 0 16
    exec (.secStatus i) s =
      ({ s.taken i with free := s.free + 1, sec := { s.sec with nonce := some nonce } }).answered i stOk
        (toLe 8 Config.serial.toNat ++ nonce ++ toLe 4 (s.param 0x2010) ++ [Byte.of (max Config.fuseSteps s.sec.fuse), Byte.of s.sessionState] ++
          toLe 2 s.sessionId ++ [Byte.of s.sec.tagFails, Byte.of (s.param 0x2001), Byte.of (s.param 0x2002), 0]) := by
  refine State.serve_reply hserved ?_
  obtain ⟨b, w, h⟩ := s.taken_eq i
  rw [h]
  rfl

/-! ## SEC_APPROVE -/

/-- An upload with a fragment taken (R169). -/
def Upload.joined (u : Upload) (f : Frag) : Upload :=
  { open_ := !f.last, nextOff := f.offset + f.data.length, bytes := (if f.first then [] else u.bytes) ++ f.data, checking := f.last }

/-- A fragment that follows R169's OFFSET rules and fits joins the upload. -/
theorem Upload.take_joins {u : Upload} {f : Frag} {limit : Nat}
    (hfollows : if f.first then f.offset = 0 else u.open_ = true ∧ f.offset = u.nextOff) (hfits : f.offset + f.data.length ≤ limit) :
    (u.take f limit).1 = some (u.joined f) := by
  cases hfirst : f.first
  case true =>
    have hstart : f.offset = 0 := by simpa [hfirst] using hfollows
    have hbound : ¬limit < f.data.length := by omega
    simp [Upload.take, Upload.joined, hfirst, hstart, hbound]
  case false =>
    obtain ⟨hopen, hnext⟩ : u.open_ = true ∧ f.offset = u.nextOff := by simpa [hfirst] using hfollows
    have hbound : ¬limit < u.nextOff + f.data.length := by omega
    simp [Upload.take, Upload.joined, hfirst, hopen, hnext, hbound]

/-- A FIRST fragment past offset 0 is refused and leaves the upload as it was (R169). -/
theorem Upload.take_refuses {u : Upload} {f : Frag} {limit : Nat} (hfirst : f.first = true) (hoff : f.offset ≠ 0) : u.take f limit = (none, u) := by
  simp [Upload.take, hfirst, hoff]

theorem runSecApprove_joins {p : List Byte} {f : Frag} {u : Upload} {s : State} (hf : fragAt p 0 = f)
    (htake : (s.sec.bundle.take f (2 ^ 32)).1 = some u) :
    runSecApprove p s = if f.last then .accept [] { s with sec := { s.sec with bundle := u } } id
      else .reply stOk [] { s with sec := { s.sec with bundle := u } } := by
  unfold runSecApprove
  rw [hf]
  dsimp only
  split
  next heq => rw [heq] at htake; contradiction
  next heq =>
    rw [heq] at htake
    cases htake
    rfl

theorem State.taken_sec (s : State) (i : Mb) : (s.taken i).sec = s.sec := by
  obtain ⟨b, w, h⟩ := s.taken_eq i
  rw [h]

theorem secApprove_collects {i : Mb} {f : Frag} {s : State} (hserved : s.served i cmdSecApprove = true) (hf : fragAt (s.reqBody i) 0 = f)
    (hfollows : if f.first then f.offset = 0 else s.sec.bundle.open_ = true ∧ f.offset = s.sec.bundle.nextOff)
    (hfits : f.offset + f.data.length ≤ 2 ^ 32) :
    (f.last = false → exec (.secApprove i) s = ({ s.taken i with sec := { s.sec with bundle := s.sec.bundle.joined f } }).answered i stOk []) ∧
    (f.last = true → exec (.secApprove i) s =
      .next (({ s.taken i with sec := { s.sec with bundle := s.sec.bundle.joined f } }).accepted i 0x00B1 []).settle) := by
  have htake : ((s.taken i).sec.bundle.take f (2 ^ 32)).1 = some (s.sec.bundle.joined f) := by
    rw [State.taken_sec]
    exact Upload.take_joins hfollows hfits
  have hrun := runSecApprove_joins (s := s.taken i) hf htake
  rw [State.taken_sec] at hrun
  have hexec : exec (.secApprove i) s = s.serve i cmdSecApprove runSecApprove := rfl
  refine ⟨fun hlast => ?_, fun hlast => ?_⟩
  · rw [if_neg (by simp [hlast])] at hrun
    exact hexec.trans (State.serve_reply hserved hrun)
  · rw [if_pos hlast] at hrun
    rw [hexec, State.serve_accept (k := 0x00B1) rfl hserved hrun, ← State.taken_tag s i]
    rfl

theorem secApprove_refuses {i : Mb} {s : State} (hserved : s.served i cmdSecApprove = true) (hfirst : (fragAt (s.reqBody i) 0).first = true)
    (hoff : (fragAt (s.reqBody i) 0).offset ≠ 0) : exec (.secApprove i) s = (s.taken i).answered i stOutOfRange [] := by
  refine State.serve_reply hserved ?_
  unfold runSecApprove
  dsimp only
  rw [Upload.take_refuses hfirst hoff]

/-! ## The check of a bundle -/

theorem State.count_sec (s : State) (k n : Nat) : (s.count k n).sec = s.sec := by simp

theorem State.sessionEndEvent_sec (s : State) (cause id : Nat) : (s.sessionEndEvent cause id).sec = s.sec := by simp [State.sessionEndEvent]

/-- The end of the sessions leaves the nonce and the bundle (R216). -/
theorem State.endSessions_approval (s : State) (cause : Nat) :
    (s.endSessions cause .now).sec.nonce = s.sec.nonce ∧ (s.endSessions cause .now).sec.bundle = s.sec.bundle := by
  unfold State.endSessions
  split
  case h_1 => exact ⟨rfl, rfl⟩
  case h_2 e rest he =>
    dsimp only
    rw [if_pos rfl]
    refine List.foldlRecOn (motive := fun t : State => t.sec.nonce = s.sec.nonce ∧ t.sec.bundle = s.sec.bundle) _ _ ?_ fun t ht id _ => ?_
    · rw [State.count_sec]
      exact ⟨rfl, rfl⟩
    · rw [State.sessionEndEvent_sec]
      exact ht

theorem State.dropHandshake_approval (s : State) :
    s.dropHandshake.sec.nonce = s.sec.nonce ∧ s.dropHandshake.sec.bundle = s.sec.bundle := by
  unfold State.dropHandshake
  split
  case h_1 => exact ⟨rfl, rfl⟩
  case h_2 =>
    dsimp only
    split
    · rw [State.sendHandshake_sec]
      exact ⟨rfl, rfl⟩
    · exact ⟨rfl, rfl⟩

theorem State.debugUnlocked_approval (s : State) (source : Nat) :
    (s.debugUnlocked source).sec.nonce = s.sec.nonce ∧ (s.debugUnlocked source).sec.bundle = s.sec.bundle := by
  have hend := State.endSessions_approval { s with sec := { s.sec with unlocked := true } } 4
  have hdrop := State.dropHandshake_approval (State.endSessions { s with sec := { s.sec with unlocked := true } } 4 .now)
  simp only [State.debugUnlocked, State.logOnly_frame]
  exact ⟨hdrop.1.trans hend.1, hdrop.2.trans hend.2⟩

/-- A bundle that unlocks debug or not: its values, its nonce and its bundle stand. -/
theorem State.unlockedIf_approval (c : Prop) [Decidable c] (s : State) (source : Nat) :
    (if c then s.debugUnlocked source else s).sec.nonce = s.sec.nonce ∧ (if c then s.debugUnlocked source else s).sec.bundle = s.sec.bundle ∧
      (if c then s.debugUnlocked source else s).par = s.par := by
  by_cases h : c
  · rw [if_pos h]
    exact ⟨(s.debugUnlocked_approval source).1, (s.debugUnlocked_approval source).2, by simp⟩
  · rw [if_neg h]
    exact ⟨rfl, rfl, rfl⟩

theorem State.endJob_all (s : State) (code st : Nat) : (s.endJob code st).box.jobs.all (·.code != code) = true := by
  rw [State.endJob_jobs, List.all_filter]
  simp

theorem State.endJob_sec (s : State) (code st : Nat) : (s.endJob code st).sec = s.sec := by simp

/-- The end of the check of a bundle that fails: it is logged and counted (R231). -/
theorem approvalCheck_fails {s : State} (hchecking : s.sec.bundle.checking = true) (hfails : s.bundleFails s.sec.bundle.bytes ≠ 0) :
    ∃ t, exec .approvalBundleCheckDone s = .next t ∧ t.sec.bundle.checking = false ∧ t.box.jobs.all (·.code != 0x00B1) = true ∧
      t.par = s.par ∧ t.nv = s.nv ∧ t.sec.nonce = (if s.bundleFails s.sec.bundle.bytes ≤ 2 then s.sec.nonce else none) := by
  have hexec : exec .approvalBundleCheckDone s = execApprovalBundleCheckDone s := rfl
  unfold execApprovalBundleCheckDone at hexec
  rw [if_neg (by simp [hchecking])] at hexec
  dsimp only at hexec
  rw [if_pos hfails] at hexec
  refine ⟨_, hexec, ?_, ?_, ?_, ?_, ?_⟩
  · simp [Upload.initial]
  · rw [State.settle_box, State.endJob_all]
  · simp
  · simp
  · have hearly : (s.bundleFails s.sec.bundle.bytes = 1 ∨ s.bundleFails s.sec.bundle.bytes = 2) ↔ s.bundleFails s.sec.bundle.bytes ≤ 2 := by omega
    rw [State.settle_sec, State.endJob_sec]
    simp only [State.logOnly_frame, State.count_sec]
    exact ite_congr (propext hearly) (fun _ => rfl) fun _ => rfl

/-- The end of the check of a bundle that passes: its values are active and stored, and the nonce is used up (R231, R233). -/
theorem approvalCheck_passes {s : State} (hchecking : s.sec.bundle.checking = true) (hpasses : s.bundleFails s.sec.bundle.bytes = 0) :
    ∃ t, exec .approvalBundleCheckDone s = .next t ∧ t.sec.bundle.checking = false ∧ t.box.jobs.all (·.code != 0x00B1) = true ∧
      t.sec.nonce = none ∧ t.par = (bundleChanges s.sec.bundle.bytes).foldl (fun p c => p.put c.1 (Word.of c.2)) s.par := by
  have hexec : exec .approvalBundleCheckDone s = execApprovalBundleCheckDone s := rfl
  unfold execApprovalBundleCheckDone at hexec
  rw [if_neg (by simp [hchecking])] at hexec
  dsimp only at hexec
  rw [if_neg (not_not_intro hpasses)] at hexec
  refine ⟨_, hexec, ?_, ?_, ?_, ?_⟩
  · rw [State.settle_sec, State.endJob_sec]
    simp only [State.event_frame, State.unlockedIf_approval, State.recWrite_frame]
    rfl
  · rw [State.settle_box, State.endJob_all]
  · rw [State.settle_sec, State.endJob_sec]
    simp only [State.event_frame, State.unlockedIf_approval, State.recWrite_frame]
    exact if_neg (by omega)
  · have hfold : (State.setParams s ((bundleChanges s.sec.bundle.bytes).map fun c => (c.1, Word.of c.2))).par =
        (bundleChanges s.sec.bundle.bytes).foldl (fun p c => p.put c.1 (Word.of c.2)) s.par := List.foldl_map
    rw [← hfold]
    simp only [State.settle_frame, State.endJob_par, State.event_frame, State.unlockedIf_approval]
    rfl

/-- Settles O42 (log entries 71 and 18): a fragment joins the bundle, and the bundle's check has one lemma for each outcome. -/
theorem approvalsChangeProtectedSettings : Obligations.ApprovalsChangeProtectedSettings := by
  refine ⟨fun i s hserved => secStatus_answers hserved, ?_, fun i s hserved hfirst hoff => secApprove_refuses hserved hfirst hoff, fun s hchecking => ?_⟩
  · intro i f s hserved hf old u hfollows hfits
    exact secApprove_collects hserved hf hfollows hfits
  · by_cases hpasses : s.bundleFails s.sec.bundle.bytes = 0
    · obtain ⟨t, hgo, hcheck, hjobs, hnonce, hpar⟩ := approvalCheck_passes hchecking hpasses
      exact ⟨t, hgo, hcheck, hjobs, fun _ => ⟨hnonce, hpar⟩, fun h => absurd hpasses h⟩
    · obtain ⟨t, hgo, hcheck, hjobs, hpar, hnv, hnonce⟩ := approvalCheck_fails hchecking hpasses
      exact ⟨t, hgo, hcheck, hjobs, fun h => absurd h hpasses, fun _ => ⟨hpar, hnv, hnonce⟩⟩

end Sys2Proof.Machine
end

section
/-! CLAIM O43. Firmware images. -/

namespace Sys2Proof.Machine

/-- A fragment of an image programmed into a slot, which the first one erases (R228). -/
def State.imaged (s : State) (slot : Bool) (f : Frag) : State :=
  let s1 := { s with sec := { s.sec with image := { s.sec.image.joined f with bytes := [] }, imageSlot := slot } }
  (if f.first then s1.norErase (slotBase slot) slotSize else s1).norProgram (slotBase slot + f.offset) f.data

theorem State.imaged_sec (s : State) (slot : Bool) (f : Frag) :
    (s.imaged slot f).sec = { s.sec with image := { s.sec.image.joined f with bytes := [] }, imageSlot := slot } := by
  unfold State.imaged
  split
  · simp
  · simp

theorem State.imaged_boot (s : State) (slot : Bool) (f : Frag) : (s.imaged slot f).boot = s.boot := by
  unfold State.imaged
  split
  · simp
  · simp

theorem State.norProgram_congr {s t : State} (h : t.nv = s.nv) (a : Nat) (bs : List Byte) : (t.norProgram a bs).nv = (s.norProgram a bs).nv := by
  induction bs generalizing s t a with
  | nil => exact h
  | cons v vs ih =>
    refine ih ?_ (a + 1)
    rw [State.norByte_congr (congrArg Nv.nor h), h]

/-- The bytes of NOR after the first fragment of an image (R228, R475). -/
theorem State.imaged_first_norByte {s : State} {f : Frag} (slot : Bool) (hwf : Memory.wf s = true) (hfirst : f.first = true) (hoff : f.offset = 0)
    (hfits : f.data.length ≤ slotSize) (b : Nat) : (s.imaged slot f).norByte b =
      if slotBase slot ≤ b ∧ b < slotBase slot + slotSize then
        (if b < slotBase slot + f.data.length then byteAt f.data (b - slotBase slot) else 0xFF)
      else s.norByte b := by
  have hnor := ((Memory.wf_iff s).1 hwf).2.1
  have hones (v : Byte) : (0xFF : Byte) &&& v = v := BitVec.allOnes_and
  have hgo : ((s.norErase (slotBase slot) slotSize).norProgram (slotBase slot + f.offset) f.data).norByte b = (s.imaged slot f).norByte b := by
    refine congrFun (State.norByte_congr (congrArg Nv.nor ?_)) b
    unfold State.imaged
    dsimp only
    rw [if_pos hfirst]
    refine State.norProgram_congr ?_ _ _
    rfl
  rw [← hgo, hoff, State.norProgram_norByte (State.norErase_norWf _ _ _ hnor), State.norErase_norByte]
  by_cases hslot : slotBase slot ≤ b ∧ b < slotBase slot + slotSize
  · rw [if_pos hslot, if_pos hslot]
    refine ite_congr (propext (by omega)) (fun _ => ?_) fun _ => rfl
    rw [hones]
    rfl
  · rw [if_neg hslot, if_neg hslot, if_neg (by omega)]

theorem State.imaged_next_norByte {s : State} {f : Frag} (slot : Bool) (hwf : Memory.wf s = true) (hfirst : f.first = false) {k : Nat}
    (hk : k < f.data.length) :
    (s.imaged slot f).norByte (slotBase slot + f.offset + k) = s.norByte (slotBase slot + f.offset + k) &&& byteAt f.data k := by
  have hnor := ((Memory.wf_iff s).1 hwf).2.1
  have hgo (b : Nat) : (s.norProgram (slotBase slot + f.offset) f.data).norByte b = (s.imaged slot f).norByte b := by
    refine congrFun (State.norByte_congr (congrArg Nv.nor ?_)) b
    unfold State.imaged
    dsimp only
    rw [if_neg (by simp [hfirst])]
    refine State.norProgram_congr ?_ _ _
    rfl
  rw [← hgo, State.norProgram_norByte hnor, if_pos (by omega), Nat.add_sub_cancel_left]
  rfl

/-- The slot that a fragment of an image goes to (R228). -/
def State.imageTarget (s : State) (f : Frag) : Bool :=
  if f.first then (if s.boot.stage = .recovery then s.firstSlot else !s.boot.slot) else s.sec.imageSlot

theorem runFwUpdate_programs {p : List Byte} {f : Frag} {s : State} (hf : fragAt p 0 = f) (hpfw : s.vin.pfw = false)
    (htake : (s.sec.image.take f slotSize).1 = some (s.sec.image.joined f)) :
    runFwUpdate p s = if f.last then .accept (toLe 4 (f.offset + f.data.length)) (s.imaged (s.imageTarget f) f) id
      else .reply stOk (toLe 4 (f.offset + f.data.length)) (s.imaged (s.imageTarget f) f) := by
  unfold runFwUpdate
  rw [hf]
  dsimp only
  rw [if_neg (by simp [hpfw])]
  split
  next heq => rw [heq] at htake; contradiction
  next heq =>
    rw [heq] at htake
    cases htake
    rfl

theorem State.served_length {s : State} {i : Mb} {c : Cmd} (h : s.served i c = true) : (s.reqBody i).length ≤ maxPayload i := by
  simp only [State.served, Bool.and_eq_true, decide_eq_true_eq] at h
  obtain ⟨⟨⟨⟨-, hlen⟩, -⟩, -⟩, -⟩ := h
  exact hlen

theorem State.taken_imageTarget (s : State) (i : Mb) (f : Frag) : (s.taken i).imageTarget f = s.imageTarget f := by
  obtain ⟨b, w, h⟩ := s.taken_eq i
  rw [h]
  rfl

/-- A fragment that follows R169's OFFSET rules is programmed, and answers how far the image reaches (R228). -/
theorem secFwUpdate_programs {i : Mb} {f : Frag} {s : State} (hserved : s.served i cmdFwUpdate = true) (hf : fragAt (s.reqBody i) 0 = f)
    (hpfw : s.vin.pfw = false) (hfollows : if f.first then f.offset = 0 else s.sec.image.open_ = true ∧ f.offset = s.sec.image.nextOff)
    (hfits : f.offset + f.data.length ≤ slotSize) :
    exec (.secFwUpdate i) s =
      if f.last then .next (((s.taken i).imaged (s.imageTarget f) f).accepted i 0x00B3 (toLe 4 (f.offset + f.data.length))).settle
      else ((s.taken i).imaged (s.imageTarget f) f).answered i stOk (toLe 4 (f.offset + f.data.length)) := by
  have htake : ((s.taken i).sec.image.take f slotSize).1 = some ((s.taken i).sec.image.joined f) := by
    rw [State.taken_sec]
    exact Upload.take_joins hfollows hfits
  have hrun := runFwUpdate_programs (s := s.taken i) hf (by rw [State.taken_vin]; exact hpfw) htake
  rw [State.taken_imageTarget] at hrun
  have hexec : exec (.secFwUpdate i) s = s.serve i cmdFwUpdate runFwUpdate := rfl
  have htag : (((s.taken i).imaged (s.imageTarget f) f).mb i).tag = (s.mb i).tag := by
    rw [← State.taken_tag s i]
    unfold State.mb State.imaged
    split
    · simp
    · simp
  cases hlast : f.last
  case false =>
    rw [if_neg (by simp [hlast])] at hrun
    exact (hexec.trans (State.serve_reply hserved hrun)).trans (if_neg Bool.false_ne_true).symm
  case true =>
    rw [if_pos hlast] at hrun
    rw [hexec, State.serve_accept (k := 0x00B3) rfl hserved hrun, if_pos rfl, ← htag]
    rfl

theorem secFwUpdate_first {i : Mb} {f : Frag} {slot : Bool} {s : State} (hserved : s.served i cmdFwUpdate = true) (hf : fragAt (s.reqBody i) 0 = f)
    (hpfw : s.vin.pfw = false) (hfirst : f.first = true) (hoff : f.offset = 0) (hstage : s.boot.stage ≠ .recovery) (hslot : slot = !s.boot.slot)
    (hwf : Memory.wf s = true) :
    ∃ t : State, exec (.secFwUpdate i) s =
        (if f.last then .next (t.accepted i 0x00B3 (toLe 4 f.data.length)).settle else t.answered i stOk (toLe 4 f.data.length)) ∧
      t.sec.imageSlot = slot ∧ t.sec.image.checking = f.last ∧ t.sec.image.nextOff = f.data.length ∧ t.boot = s.boot ∧
      (∀ b, t.norByte b = if slotBase slot ≤ b ∧ b < slotBase slot + slotSize then
        (if b < slotBase slot + f.data.length then byteAt f.data (b - slotBase slot) else 0xFF) else s.norByte b) := by
  have hfits : f.data.length ≤ slotSize := by
    have hlen := State.served_length hserved
    have hmax : maxPayload i ≤ 512 := by cases i <;> decide
    have hdata : f.data.length ≤ (s.reqBody i).length := by
      rw [← hf]
      exact Nat.le_trans (Nat.le_of_eq List.length_drop) (Nat.sub_le _ _)
    unfold slotSize
    omega
  have hgo := secFwUpdate_programs hserved hf hpfw (by rw [if_pos hfirst]; exact hoff) (by omega)
  have htarget : s.imageTarget f = slot := by rw [State.imageTarget, if_pos hfirst, if_neg hstage, hslot]
  rw [htarget, hoff, Nat.zero_add] at hgo
  refine ⟨_, hgo, ?_, ?_, ?_, ?_, fun b => ?_⟩
  · rw [State.imaged_sec]
  · rw [State.imaged_sec]
    rfl
  · rw [State.imaged_sec, Upload.joined, hoff]
    exact Nat.zero_add _
  · rw [State.imaged_boot, State.taken_boot]
  · rw [State.imaged_first_norByte slot (State.taken_wf hwf i) hfirst hoff hfits, State.taken_norByte]

theorem secFwUpdate_next {i : Mb} {f : Frag} {s : State} (hserved : s.served i cmdFwUpdate = true) (hf : fragAt (s.reqBody i) 0 = f)
    (hpfw : s.vin.pfw = false) (hfirst : f.first = false) (hopen : s.sec.image.open_ = true) (hoff : f.offset = s.sec.image.nextOff)
    (hfits : f.offset + f.data.length ≤ slotSize) (hwf : Memory.wf s = true) :
    ∃ t : State, exec (.secFwUpdate i) s =
        (if f.last then .next (t.accepted i 0x00B3 (toLe 4 (f.offset + f.data.length))).settle
         else t.answered i stOk (toLe 4 (f.offset + f.data.length))) ∧
      t.sec.imageSlot = s.sec.imageSlot ∧ t.sec.image.checking = f.last ∧ t.sec.image.nextOff = f.offset + f.data.length ∧
      (∀ k, k < f.data.length → t.norByte (slotBase s.sec.imageSlot + f.offset + k) =
        s.norByte (slotBase s.sec.imageSlot + f.offset + k) &&& byteAt f.data k) := by
  have hgo := secFwUpdate_programs hserved hf hpfw (by rw [if_neg (by simp [hfirst])]; exact ⟨hopen, hoff⟩) hfits
  have htarget : s.imageTarget f = s.sec.imageSlot := if_neg (by simp [hfirst])
  rw [htarget] at hgo
  refine ⟨_, hgo, ?_, ?_, ?_, fun k hk => ?_⟩
  · rw [State.imaged_sec]
  · rw [State.imaged_sec]
    rfl
  · rw [State.imaged_sec]
    rfl
  · rw [State.imaged_next_norByte _ (State.taken_wf hwf i) hfirst hk, State.taken_norByte]

theorem State.raiseFuse_image (s : State) : s.raiseFuse.sec.image = s.sec.image := by
  unfold State.raiseFuse
  dsimp only
  split
  · rfl
  · rfl

theorem fwImageCheck_ends {s : State} (hchecking : s.sec.image.checking = true) :
    ∃ t, exec .fwImageCheckDone s = .next t ∧ t.sec.image.checking = false ∧ t.nv = s.nv ∧ t.box.jobs.all (·.code != 0x00B3) = true ∧
      (s.checkSlot s.sec.imageSlot false = .passed → t.boot = { s.boot with
        updated := true, failed0 := s.boot.failed0 && s.sec.imageSlot, failed1 := s.boot.failed1 && !s.sec.imageSlot }) ∧
      (s.checkSlot s.sec.imageSlot false ≠ .passed → t.boot = s.boot) := by
  have hexec : exec .fwImageCheckDone s = execFwImageCheckDone s := rfl
  unfold execFwImageCheckDone at hexec
  rw [if_neg (by simp [hchecking])] at hexec
  dsimp only at hexec
  have hbox (t : State) : t.raiseFuse.box = t.box := by simp
  have hboot (t : State) : t.raiseFuse.boot = t.boot := by simp
  have hended (t : State) (c n : Nat) : (t.endJob c n).boot = t.boot := by simp
  refine ⟨_, hexec, ?_, ?_, ?_, fun hpass => ?_, fun hfail => ?_⟩
  · rw [State.settle_sec, State.raiseFuse_image, State.endJob_sec]
    split
    · rfl
    · rfl
  · rw [State.settle_nv]
    split
    · simp
    · simp
  · rw [State.settle_box, hbox, State.endJob_all]
  · rw [State.settle_boot, hboot, hended, if_pos (by simp [hpass])]
  · rw [State.settle_boot, hboot, hended, if_neg (by simp [hfail])]

/-- Settles O43: the slot is erased and programmed cell by cell, and the check changes marks only. -/
theorem firmwareImagesAreProgrammed : Obligations.FirmwareImagesAreProgrammed := by
  refine ⟨?_, ?_, fun s hchecking => fwImageCheck_ends hchecking⟩
  · intro i f slot s hserved hf hpfw hfirst hoff hstage hslot hwf
    exact secFwUpdate_first hserved hf hpfw hfirst hoff hstage hslot hwf
  · intro i f s hserved hf hpfw hfirst hopen hoff hfits hwf
    exact secFwUpdate_next hserved hf hpfw hfirst hopen hoff hfits hwf

end Sys2Proof.Machine
end

section
/-! CLAIM O45. Training of the Vorul link, state by state. -/

namespace Sys2Proof.Machine

theorem State.onGroup_group (s : State) (i k : Side) (f : LaneGroup → LaneGroup) :
    (s.onGroup i f).hl.group k = if k = i then f (s.hl.group k) else s.hl.group k := by
  cases i
  · cases k
    · rfl
    · rfl
  · cases k
    · rfl
    · rfl

theorem State.onGroup_attempts (s : State) (i : Side) (f : LaneGroup → LaneGroup) : (s.onGroup i f).hl.attempts = s.hl.attempts := by
  cases i
  · rfl
  · rfl

theorem State.onGroup_param (s : State) (i : Side) (f : LaneGroup → LaneGroup) (id : Nat) : (s.onGroup i f).param id = s.param id := by
  cases i
  · rfl
  · rfl

theorem State.enterLink_group (s : State) (p : Side → Bool) (st : LinkState) (k : Side) :
    (s.enterLink p st).hl.group k = if p k then (s.hl.group k).enter st else s.hl.group k := by
  unfold State.enterLink
  dsimp only
  split
  · cases k
    · rfl
    · rfl
  · cases k
    · rfl
    · rfl

theorem State.enterLink_attempts (s : State) (p : Side → Bool) (st : LinkState) : (s.enterLink p st).hl.attempts = s.hl.attempts := by
  unfold State.enterLink
  dsimp only
  split
  · rfl
  · rfl

theorem State.newAttempt_attempts (s : State) (p : Side → Bool) (st : LinkState) : (s.newAttempt p st).hl.attempts = s.hl.attempts + 1 :=
  congrArg (· + 1) (s.enterLink_attempts p st)

theorem State.newAttempt_group (s : State) (p : Side → Bool) (st : LinkState) (k : Side) :
    (s.newAttempt p st).hl.group k = if p k then (s.hl.group k).enter st else s.hl.group k := by
  rw [← s.enterLink_group p st k]
  cases k
  · rfl
  · rfl

theorem State.count_hl (s : State) (k n : Nat) : (s.count k n).hl = s.hl := by simp

theorem State.groupTrains_iff (s : State) (k : Side) :
    s.groupTrains k = true ↔ ¬((s.hl.group k).st = .idle ∨ (s.hl.group k).st = .active) := by
  simp [State.groupTrains, State.groupIs]

/-- An attempt that fails before the last of its series starts its groups again (R179, R182). -/
theorem State.attemptFailed_again {s : State} (i : Side) (lane : Nat) (h : s.hl.attempts < s.param 0x2409) :
    (s.attemptFailed i lane).hl.attempts = s.hl.attempts + 1 ∧
      ∀ k, ((s.attemptFailed i lane).hl.group k).st =
        if (s.hl.group k).st = .idle ∨ (s.hl.group k).st = .active then (s.hl.group k).st else .clkDetect := by
  have hgo : s.attemptFailed i lane = (s.count 590 1).newAttempt s.groupTrains .clkDetect := if_pos h
  rw [hgo]
  refine ⟨?_, fun k => ?_⟩
  · rw [State.newAttempt_attempts, State.count_hl]
  · rw [State.newAttempt_group, State.count_hl]
    by_cases hk : s.groupTrains k = true
    · rw [if_pos hk, if_neg ((s.groupTrains_iff k).mp hk)]
      rfl
    · rw [if_neg hk, if_pos (Decidable.not_not.mp (mt (s.groupTrains_iff k).mpr hk))]

theorem State.release_hl (s : State) (i : Mb) : (s.release i).hl = s.hl := by simp

theorem State.bcLost_hl (s : State) : s.bcLost.hl = { s.hl with tx := [] } := by
  refine List.foldlRecOn (motive := fun t : State => t.hl = { s.hl with tx := [] }) _ _ rfl fun t ht m _ => ?_
  cases m.last
  · exact ht
  · exact (t.release_hl _).trans ht

/-- A link that is IDLE: its messages are lost (R182, R203). -/
theorem State.linkIdle_hl (s : State) : s.linkIdle.hl.a.st = .idle ∧ s.linkIdle.hl.b.st = .idle ∧ s.linkIdle.hl.tx = [] := by
  have ha : (s.enterLink (fun _ => true) .idle).hl.a.st = .idle := by
    have := s.enterLink_group (fun _ => true) .idle .left
    exact congrArg LaneGroup.st this
  have hb : (s.enterLink (fun _ => true) .idle).hl.b.st = .idle := by
    have := s.enterLink_group (fun _ => true) .idle .right
    exact congrArg LaneGroup.st this
  unfold State.linkIdle
  dsimp only
  rw [State.bcLost_hl]
  exact ⟨ha, hb, rfl⟩

theorem State.event_hl (s : State) (code : Nat) (sev : Severity) (logged : Bool) (source data : Nat) :
    (s.event code sev logged source data).hl = s.hl := by simp

theorem State.attemptFailed_backsOff {s : State} (i : Side) (lane : Nat) (h : s.param 0x2409 ≤ s.hl.attempts) : ∃ u n source data,
    s.attemptFailed i lane =
      State.event { State.linkIdle u with hl := { u.linkIdle.hl with backoff := true, lastFailState := n } } 0x2401 .error true source data := by
  unfold State.attemptFailed
  dsimp only
  rw [if_neg (Nat.not_lt.mpr h)]
  exact ⟨_, _, _, _, rfl⟩

/-- The last attempt of a series leaves the link IDLE, to back off (R179). -/
theorem State.attemptFailed_last {s : State} (i : Side) (lane : Nat) (h : s.param 0x2409 ≤ s.hl.attempts) :
    (s.attemptFailed i lane).hl.a.st = .idle ∧ (s.attemptFailed i lane).hl.b.st = .idle ∧ (s.attemptFailed i lane).hl.backoff = true ∧
      (s.attemptFailed i lane).hl.tx = [] := by
  obtain ⟨u, n, source, data, hgo⟩ := State.attemptFailed_backsOff i lane h
  obtain ⟨ha, hb, htx⟩ := State.linkIdle_hl u
  rw [hgo, State.event_hl]
  exact ⟨ha, hb, rfl, htx⟩

/-! ## CLK_DETECT and PHASE -/

/-- A group whose receive PLL has locked, its rate within 300 ppm or not (R177). -/
def State.pllLocked (s : State) (side : Side) (rate : Nat) (ok : Bool) : State :=
  let s1 := s.onGroup side fun g => { g with clockPresent := true, st := if ok then .phase else g.st }
  let h := s1.hl
  let h1 : HostLink := match side with
    | .left => { h with rateA := rate }
    | .right => { h with rateB := rate }
  { s1 with hl := { h1 with statusDue := true } }

theorem State.pllLocked_hl (s : State) (side : Side) (rate : Nat) (ok : Bool) :
    ((s.pllLocked side rate ok).hl.group side).st = (if ok then .phase else (s.hl.group side).st) ∧
      (match (generalizing := false) side with
        | .left => (s.pllLocked side rate ok).hl.rateA = rate ∧ (s.pllLocked side rate ok).hl.b = s.hl.b
        | .right => (s.pllLocked side rate ok).hl.rateB = rate ∧ (s.pllLocked side rate ok).hl.a = s.hl.a) := by
  cases side
  · exact ⟨rfl, rfl, rfl⟩
  · exact ⟨rfl, rfl, rfl⟩

theorem hlReceivePllLock_enters {side : Side} {rate : BitVec 14} {s : State} (hst : (s.hl.group side).st = .clkDetect) :
    ∃ t, exec (.hlReceivePllLock side rate) s = .next t ∧
      (t.hl.group side).st = (if ((rate.toNat : Int) - (100 * s.param 0x2402 : Nat)).natAbs * 1000000 ≤ 300 * (100 * s.param 0x2402)
        then .phase else .clkDetect) ∧
      (match (generalizing := false) side with
        | .left => t.hl.rateA = rate.toNat ∧ t.hl.b = s.hl.b
        | .right => t.hl.rateB = rate.toNat ∧ t.hl.a = s.hl.a) := by
  have hexec : exec (.hlReceivePllLock side rate) s = execHlReceivePllLock side rate s := rfl
  unfold execHlReceivePllLock at hexec
  rw [if_neg (by simp [hst])] at hexec
  obtain ⟨henters, hrate⟩ := s.pllLocked_hl side rate.toNat
    (decide (((rate.toNat : Int) - (100 * s.param 0x2402 : Nat)).natAbs * 1000000 ≤ 300 * (100 * s.param 0x2402)))
  rw [hst] at henters
  simp only [decide_eq_true_eq] at henters
  exact ⟨_, hexec, henters, hrate⟩

theorem Vector.toList_getD_ofFn {α : Type} {n : Nat} (f : Fin n → α) (d : α) {j : Nat} (h : j < n) : (Vector.ofFn f).toList.getD j d = f ⟨j, h⟩ := by
  simp [List.getD_eq_getElem?_getD, h]

theorem laneBase_le (i : Side) : laneBase i ≤ 8 := by
  cases i
  all_goals decide

theorem laneBase_div (i : Side) {k : Nat} (hk : k < 8) : (laneBase i + k) / 8 = laneBase i / 8 ∧ (laneBase i + k) % 8 = k := by
  cases i
  · simp only [laneBase]
    omega
  · simp only [laneBase]
    omega

/-- A group's measured values stand at its lanes (R178, R181). -/
theorem State.groupVec_get (s : State) (i : Side) (v : Vector Nat 16) (f : Nat → Nat) {k : Nat} (hk : k < 8) (hlanes : k < s.groupLanes) :
    (s.groupVec i v f).toList.getD (laneBase i + k) 0 = f k := by
  have hle := laneBase_le i
  obtain ⟨hdiv, hmod⟩ := laneBase_div i hk
  rw [State.groupVec, Vector.toList_getD_ofFn _ _ (show laneBase i + k < 16 by omega)]
  simp [hdiv, hmod, hlanes]

theorem hlBlockLock_enters {side : Side} {ph : List (BitVec 6)} {s : State} (hlen : ph.length = 8) (hst : (s.hl.group side).st = .phase) :
    ∃ t, exec (.hlBlockLock side ph) s = .next t ∧ (t.hl.group side).st = .equalize ∧
      ∀ k, k < 8 → k < s.param 0x2401 / 2 →
        t.hl.phaseSel.toList.getD (laneBase side + k) 0 = (ph.getD k 0).toNat := by
  have hexec : exec (.hlBlockLock side ph) s = execHlBlockLock side ph s := rfl
  unfold execHlBlockLock at hexec
  rw [if_neg (by simp [hlen]), if_neg (by simp [hst])] at hexec
  refine ⟨_, hexec, ?_, fun k hk hlanes => ?_⟩
  · cases side
    · rfl
    · rfl
  · have hlanes' : k < (s.onGroup side fun g => { g with st := .equalize }).groupLanes := by
      rw [State.groupLanes, State.onGroup_param]
      exact hlanes
    exact State.groupVec_get (s.onGroup side fun g => { g with st := .equalize }) side
      (s.onGroup side fun g => { g with st := .equalize }).hl.phaseSel (fun k => (ph.getD k 0).toNat) hk hlanes'

/-! ## EQUALIZE -/

/-- What the equalizers' adaptation leaves of a state: the groups, the attempts and every parameter below the lanes' equalizer settings. -/
structure Adapted (s t : State) : Prop where
  group : ∀ k, t.hl.group k = s.hl.group k
  attempts : t.hl.attempts = s.hl.attempts
  eye : t.hl.eye = s.hl.eye
  param : ∀ id, id < 0x2420 → t.param id = s.param id

theorem Adapted.rfl' (s : State) : Adapted s s := ⟨fun _ => rfl, rfl, rfl, fun _ _ => rfl⟩

theorem State.adaptLane_adapts {s t : State} (n : Nat) (e : LaneEye) (h : Adapted s t) : Adapted s (t.adaptLane n e) := by
  refine ⟨fun k => ?_, h.attempts, h.eye, h.param⟩
  rw [← h.group k]
  cases k
  · rfl
  · rfl

theorem State.setParam_other (s : State) {id j : Nat} (v : Nat) (h : j ≠ id) : (s.setParam id v).param j = s.param j := by
  have hget : aget? (s.setParam id v).par.active j = aget? s.par.active j := Params.put_other s.par (Word.of v) h
  rw [State.param, State.param, hget]

theorem State.eqActive_adapts {s t : State} (n : Nat) (h : Adapted s t) : Adapted s (t.eqActive n) := by
  refine ⟨h.group, h.attempts, h.eye, fun id hid => ?_⟩
  unfold State.eqActive
  dsimp only
  rw [State.setParam_other _ _ (by omega), State.setParam_other _ _ (by omega), h.param id hid]

/-- The lanes of a group with what was measured on each. -/
def State.measured (s : State) (side : Side) (eyes : List LaneEye) : List (Nat × LaneEye) :=
  (List.range s.groupLanes).map fun k => (laneBase side + k, eyes.getD k { heights := [], height := 0, width := 0 })

/-- Writing one value for each lane of a group. -/
theorem foldl_setIfInBounds_get {α β : Type} (base : Nat) (e : Nat → β) (g : β → α) (d : α) (v : Vector α 16) {n k : Nat} (hk : k < n) (h16 : base + k < 16) :
    (((List.range n).map fun k => (base + k, e k)).foldl (fun v l => v.setIfInBounds l.1 (g l.2)) v).toList.getD (base + k) d = g (e k) := by
  induction n with
  | zero => omega
  | succ m ih =>
    rw [List.range_succ, List.map_append, List.foldl_append]
    simp only [List.map_cons, List.map_nil, List.foldl_cons, List.foldl_nil]
    by_cases hkm : k = m
    · subst hkm
      simp [List.getD_eq_getElem?_getD, h16]
    · have hne : ¬base + m = base + k := by omega
      rw [← ih (by omega)]
      simp [List.getD_eq_getElem?_getD, Ne.symm hkm, h16]

/-- The equalizers once they have adapted and taken their settings (R179, R180). -/
def State.equalized (s : State) (side : Side) (eyes : List LaneEye) : State :=
  let mode := s.param 0x240F
  let fresh (n : Nat) : Bool := mode == 0 || (mode == 1 && !s.hl.adapted.toList.getD n false)
  let s1 : State := (s.measured side eyes).foldl (fun t l => if fresh l.1 then t.adaptLane l.1 l.2 else t) s
  if mode = 2 then s1 else (s.measured side eyes).foldl (fun t l => t.eqActive l.1) s1

theorem State.equalized_adapted (s : State) (side : Side) (eyes : List LaneEye) : Adapted s (s.equalized side eyes) := by
  have hlanes (fresh : Nat → Bool) : Adapted s ((s.measured side eyes).foldl (fun t l => if fresh l.1 then t.adaptLane l.1 l.2 else t) s) := by
    refine List.foldlRecOn (motive := fun t : State => Adapted s t) _ _ (Adapted.rfl' s) fun t ht l _ => ?_
    split
    · exact State.adaptLane_adapts l.1 l.2 ht
    · exact ht
  unfold State.equalized
  dsimp only
  have hfresh := hlanes fun n => s.param 0x240F == 0 || (s.param 0x240F == 1 && !s.hl.adapted.toList.getD n false)
  split
  · exact hfresh
  · exact List.foldlRecOn (motive := fun t : State => Adapted s t) _ _ hfresh fun t ht l _ => State.eqActive_adapts l.1 ht

/-- The state after EQUALIZE, the eyes of its lanes kept (R180). -/
def State.eyed (s : State) (side : Side) (eyes : List LaneEye) : State :=
  let s2 := s.equalized side eyes
  { s2 with hl := { s2.hl with
      eye := (s.measured side eyes).foldl (fun v l => v.setIfInBounds l.1 (l.2.height.toNat, l.2.width.toNat)) s2.hl.eye, statusDue := true } }

theorem State.eyed_group (s : State) (side : Side) (eyes : List LaneEye) (k : Side) : (s.eyed side eyes).hl.group k = s.hl.group k := by
  rw [← (s.equalized_adapted side eyes).group k]
  cases k
  · rfl
  · rfl

theorem hlEqualizeDone_runs {side : Side} {eyes : List LaneEye} {s : State} (hlen : eyes.length = 8) (hst : (s.hl.group side).st = .equalize) :
    exec (.hlEqualizeDone side eyes) s =
      match (s.measured side eyes).find? fun l => l.2.height.toNat < 30 || l.2.width.toNat < 20 with
      | some l => done ((s.eyed side eyes).attemptFailed side l.1)
      | none => done ((s.eyed side eyes).onGroup side fun g => { g with st := .deskew }) := by
  have hexec : exec (.hlEqualizeDone side eyes) s = execHlEqualizeDone side eyes s := rfl
  unfold execHlEqualizeDone at hexec
  rw [if_neg (by simp [hlen]), if_neg (by simp [hst])] at hexec
  exact hexec

theorem List.getD_eq_of_lt {α : Type} {l : List α} {k : Nat} (h : k < l.length) (d e : α) : l.getD k d = l.getD k e := by
  rw [List.getD_eq_getElem?_getD, List.getD_eq_getElem?_getD, List.getElem?_eq_getElem h, Option.getD_some, Option.getD_some]

theorem hlEqualizeDone_leaves {side : Side} {eyes : List LaneEye} {d : LaneEye} {s : State} (hlen : eyes.length = 8)
    (hst : (s.hl.group side).st = .equalize) (hlanes : s.param 0x2401 / 2 ≤ 8) :
    ((∀ k, k < s.param 0x2401 / 2 → 30 ≤ (eyes.getD k d).height.toNat ∧ 20 ≤ (eyes.getD k d).width.toNat) →
      ∃ t, exec (.hlEqualizeDone side eyes) s = .next t ∧ (t.hl.group side).st = .deskew ∧
        ∀ k, k < s.param 0x2401 / 2 →
          t.hl.eye.toList.getD (laneBase side + k) (0, 0) =
            ((eyes.getD k d).height.toNat, (eyes.getD k d).width.toNat)) ∧
    ((∃ k, k < s.param 0x2401 / 2 ∧ ((eyes.getD k d).height.toNat < 30 ∨ (eyes.getD k d).width.toNat < 20)) → s.hl.attempts < s.param 0x2409 →
      ∃ t, exec (.hlEqualizeDone side eyes) s = .next t ∧ (t.hl.group side).st = .clkDetect ∧ t.hl.attempts = s.hl.attempts + 1) := by
  have heye (k : Nat) (hk : k < s.param 0x2401 / 2) : eyes.getD k { heights := [], height := 0, width := 0 } = eyes.getD k d :=
    List.getD_eq_of_lt (by omega) _ _
  have hadapted := s.equalized_adapted side eyes
  refine ⟨fun hgood => ?_, fun ⟨k, hk, hbad⟩ hmore => ?_⟩
  · have hfind : ((s.measured side eyes).find? fun l => l.2.height.toNat < 30 || l.2.width.toNat < 20) = none := by
      rw [State.measured, List.find?_map, Option.map_eq_none_iff, List.find?_eq_none]
      intro k hk
      have hlane : k < s.param 0x2401 / 2 := List.mem_range.mp hk
      obtain ⟨hh, hw⟩ := hgood k hlane
      simp only [Function.comp_apply, heye k hlane, Bool.or_eq_true, decide_eq_true_eq]
      omega
    refine ⟨_, (hlEqualizeDone_runs hlen hst).trans (by rw [hfind]; rfl), ?_, fun k hk => ?_⟩
    · rw [State.settle_hl, State.onGroup_group, if_pos rfl]
    · rw [State.settle_hl, ← heye k hk]
      have hkept : ((s.eyed side eyes).onGroup side fun g => { g with st := .deskew }).hl.eye = (s.eyed side eyes).hl.eye := by
        cases side
        · rfl
        · rfl
      have hle := laneBase_le side
      rw [hkept]
      refine foldl_setIfInBounds_get (laneBase side) (fun k => eyes.getD k { heights := [], height := 0, width := 0 })
        (fun e => (e.height.toNat, e.width.toNat)) (0, 0) (s.equalized side eyes).hl.eye (n := s.groupLanes) hk ?_
      omega
  · obtain ⟨l, hl⟩ : ∃ l, ((s.measured side eyes).find? fun l => l.2.height.toNat < 30 || l.2.width.toNat < 20) = some l := by
      rw [← Option.isSome_iff_exists, List.find?_isSome]
      refine ⟨(laneBase side + k, eyes.getD k { heights := [], height := 0, width := 0 }), List.mem_map.mpr ⟨k, List.mem_range.mpr hk, rfl⟩, ?_⟩
      rw [← heye k hk] at hbad
      simpa only [Bool.or_eq_true, decide_eq_true_eq] using hbad
    have hmore' : (s.eyed side eyes).hl.attempts < (s.eyed side eyes).param 0x2409 := by
      have ha : (s.eyed side eyes).hl.attempts = s.hl.attempts := hadapted.attempts
      have hp : (s.eyed side eyes).param 0x2409 = s.param 0x2409 := hadapted.param 0x2409 (by omega)
      rw [ha, hp]
      exact hmore
    obtain ⟨hagain, hgroup⟩ := State.attemptFailed_again side l.1 hmore'
    refine ⟨_, (hlEqualizeDone_runs hlen hst).trans (by rw [hl]; rfl), ?_, ?_⟩
    · rw [State.settle_hl, hgroup side, State.eyed_group, hst]
      rfl
    · rw [State.settle_hl, hagain]
      exact congrArg (· + 1) hadapted.attempts

/-! ## DESKEW -/

/-- The state with the delays and the skew that DESKEW measured (R181). -/
def State.deskewed (s : State) (side : Side) (skew : BitVec 16) (ds : List (BitVec 5)) : State :=
  { s with hl := { s.hl with
      deskew := s.groupVec side s.hl.deskew fun n => (ds.getD n 0).toNat, skew := if s.wide then skew.toInt else s.hl.skew } }

theorem hlDeskewDone_runs {side : Side} {skew : BitVec 16} {ds : List (BitVec 5)} {ts2 : List LinkBlock} {s : State} (hlen : ds.length = 8)
    (hst : (s.hl.group side).st = .deskew) :
    exec (.hlDeskewDone side skew ⟨ds, ts2⟩) s =
      if s.wide && 4000 < skew.toInt.natAbs then done ((s.deskewed side skew ds).attemptFailed side 0xFF)
      else
        match (List.range s.groupLanes).find? fun n => 16 < (ds.getD n 0).toNat with
        | some n => done ((s.deskewed side skew ds).attemptFailed side (laneBase side + n))
        | none => match s.ts2Wrong side ts2 with
          | some n => done ((s.deskewed side skew ds).attemptFailed side (laneBase side + n))
          | none => done ((s.deskewed side skew ds).groupActive side) := by
  have hexec : exec (.hlDeskewDone side skew ⟨ds, ts2⟩) s = execHlDeskewDone side skew ⟨ds, ts2⟩ s := rfl
  unfold execHlDeskewDone at hexec
  rw [if_neg (by simp [hlen]), if_neg (by simp [hst])] at hexec
  exact hexec

theorem State.groupActive_group (s : State) (i k : Side) : (s.groupActive i).hl.group k =
    if k = i then { (s.hl.group k).enter .active with skipToSof := true } else s.hl.group k := by
  rw [← State.onGroup_group s i k fun g => { g.enter .active with skipToSof := true }]
  unfold State.groupActive
  dsimp only
  split
  · cases k
    · rfl
    · rfl
  · rw [State.event_hl]
    cases k
    · rfl
    · rfl

theorem hlDeskewDone_activates {side : Side} {skew : BitVec 16} {ds : List (BitVec 5)} {ts2 : List LinkBlock} {s : State} (hlen : ds.length = 8)
    (hst : (s.hl.group side).st = .deskew) (hdelay : ∀ k, k < s.param 0x2401 / 2 → (ds.getD k 0).toNat ≤ 16)
    (hskew : s.param 0x2400 = 1 → skew.toInt.natAbs ≤ 4000)
    (hts : ∀ n, n < s.param 0x2401 / 2 → ts2.getD n 0 = orderedBlock (tsBytes 0x2D 0x45 n side.code (s.param 0x2402))) :
    ∃ t, exec (.hlDeskewDone side skew ⟨ds, ts2⟩) s = .next t ∧ (t.hl.group side).st = .active ∧ (t.hl.group side).skipToSof = true ∧
      (match (generalizing := false) side with | .left => t.hl.b = s.hl.b | .right => t.hl.a = s.hl.a) := by
  have hfar : ¬(s.wide && decide (4000 < skew.toInt.natAbs)) = true := by
    simp only [State.wide, Bool.and_eq_true, beq_iff_eq, decide_eq_true_eq, not_and, Nat.not_lt]
    exact hskew
  have hlate : ((List.range s.groupLanes).find? fun n => 16 < (ds.getD n 0).toNat) = none := by
    rw [List.find?_eq_none]
    intro n hn
    have := hdelay n (List.mem_range.mp hn)
    simpa using this
  have hwrong : s.ts2Wrong side ts2 = none := by
    rw [State.ts2Wrong, List.find?_eq_none]
    intro n hn
    have := hts n (List.mem_range.mp hn)
    simpa [ts2Bytes] using this
  have hgroup (k : Side) := (s.deskewed side skew ds).groupActive_group side k
  refine ⟨_, (hlDeskewDone_runs hlen hst).trans (by rw [if_neg hfar, hlate, hwrong]; rfl), ?_, ?_, ?_⟩
  · rw [State.settle_hl, hgroup, if_pos rfl]
    rfl
  · rw [State.settle_hl, hgroup, if_pos rfl]
  · rw [State.settle_hl]
    cases side
    · exact hgroup .right
    · exact hgroup .left

theorem hlDeskewDone_fails {side : Side} {skew : BitVec 16} {ds : List (BitVec 5)} {ts2 : List LinkBlock} {s : State} (hlen : ds.length = 8)
    (hst : (s.hl.group side).st = .deskew)
    (hbad : (∃ k, k < s.param 0x2401 / 2 ∧ 16 < (ds.getD k 0).toNat) ∨ (s.param 0x2400 = 1 ∧ 4000 < skew.toInt.natAbs) ∨
      (∃ n, n < s.param 0x2401 / 2 ∧ ts2.getD n 0 ≠ orderedBlock (tsBytes 0x2D 0x45 n side.code (s.param 0x2402)))) :
    ∃ lane, exec (.hlDeskewDone side skew ⟨ds, ts2⟩) s = done ((s.deskewed side skew ds).attemptFailed side lane) := by
  rw [hlDeskewDone_runs hlen hst]
  by_cases hfar : (s.wide && decide (4000 < skew.toInt.natAbs)) = true
  · exact ⟨_, if_pos hfar⟩
  rw [if_neg hfar]
  cases hlate : (List.range s.groupLanes).find? fun n => 16 < (ds.getD n 0).toNat
  case some n => exact ⟨_, rfl⟩
  cases hwrong : s.ts2Wrong side ts2
  case some n => exact ⟨_, rfl⟩
  rw [List.find?_eq_none] at hlate
  rw [State.ts2Wrong, List.find?_eq_none] at hwrong
  exfalso
  rcases hbad with ⟨k, hk, hdelay⟩ | ⟨hwide, hskew⟩ | ⟨n, hn, hts⟩
  · exact hlate k (List.mem_range.mpr hk) (by simpa using hdelay)
  · exact hfar (by simp [State.wide, hwide, hskew])
  · exact hwrong n (List.mem_range.mpr hn) (by simpa [ts2Bytes] using hts)

theorem hlDeskewDone_again {side : Side} {skew : BitVec 16} {ds : List (BitVec 5)} {ts2 : List LinkBlock} {s : State} (hlen : ds.length = 8)
    (hst : (s.hl.group side).st = .deskew)
    (hbad : (∃ k, k < s.param 0x2401 / 2 ∧ 16 < (ds.getD k 0).toNat) ∨ (s.param 0x2400 = 1 ∧ 4000 < skew.toInt.natAbs) ∨
      (∃ n, n < s.param 0x2401 / 2 ∧ ts2.getD n 0 ≠ orderedBlock (tsBytes 0x2D 0x45 n side.code (s.param 0x2402))))
    (hmore : s.hl.attempts < s.param 0x2409) :
    ∃ t, exec (.hlDeskewDone side skew ⟨ds, ts2⟩) s = .next t ∧ (t.hl.group side).st = .clkDetect ∧ t.hl.attempts = s.hl.attempts + 1 := by
  obtain ⟨lane, hgo⟩ := hlDeskewDone_fails hlen hst hbad
  obtain ⟨hagain, hgroup⟩ := State.attemptFailed_again (s := s.deskewed side skew ds) side lane hmore
  have hkept : (s.deskewed side skew ds).hl.group side = s.hl.group side := by
    cases side
    · rfl
    · rfl
  refine ⟨_, hgo, ?_, ?_⟩
  · rw [State.settle_hl, hgroup side, hkept, hst]
    rfl
  · rw [State.settle_hl, hagain]
    rfl

/-! ## Timeouts and lost locks -/

theorem LinkState.trains_of_ne {st : LinkState} (hidle : st ≠ .idle) (hactive : st ≠ .active) : st.trains = true := by
  simp [LinkState.trains, hidle, hactive]

theorem hlTrainTimeout_runs {side : Side} {lane : BitVec 8} {s : State} (hidle : (s.hl.group side).st ≠ .idle)
    (hactive : (s.hl.group side).st ≠ .active) : exec (.hlTrainTimeout side lane) s = .next (s.attemptFailed side lane.toNat).settle :=
  if_pos (LinkState.trains_of_ne hidle hactive)

/-- The link once a group's lock is lost: whether its clock is still there. -/
def State.clocked (s : State) (side : Side) (activity : Bool) : State :=
  s.onGroup side fun g => { g with clockPresent := activity, idleSeen := g.idleSeen || !activity }

theorem State.clocked_st (s : State) (side k : Side) (activity : Bool) : ((s.clocked side activity).hl.group k).st = (s.hl.group k).st := by
  rw [State.clocked, State.onGroup_group]
  split
  · rfl
  · rfl

theorem hlClockLost_trains {side : Side} {s : State} (hidle : (s.hl.group side).st ≠ .idle) (hactive : (s.hl.group side).st ≠ .active) (activity : Bool) :
    exec (.hlClockLost side activity) s = if activity then done ((s.clocked side activity).attemptFailed side 0xFF)
      else done (((s.clocked side activity).count 590 1).linkIdle.dropLinkVote) := by
  have hexec : exec (.hlClockLost side activity) s = execHlClockLost side activity s := rfl
  unfold execHlClockLost at hexec
  dsimp only at hexec
  rw [if_neg (by simp [hactive]), if_pos (by simp [hidle])] at hexec
  exact hexec

theorem linkTraining_fails {side : Side} {lane : BitVec 8} {s : State} (hidle : (s.hl.group side).st ≠ .idle) (hactive : (s.hl.group side).st ≠ .active)
    (hmore : s.hl.attempts < s.param 0x2409) :
    (∃ t, exec (.hlTrainTimeout side lane) s = .next t ∧ t.hl.attempts = s.hl.attempts + 1 ∧
      ∀ k, (t.hl.group k).st = if (s.hl.group k).st = .idle ∨ (s.hl.group k).st = .active then (s.hl.group k).st else .clkDetect) ∧
    (∃ t, exec (.hlClockLost side true) s = .next t ∧ t.hl.attempts = s.hl.attempts + 1 ∧
      ∀ k, (t.hl.group k).st = if (s.hl.group k).st = .idle ∨ (s.hl.group k).st = .active then (s.hl.group k).st else .clkDetect) := by
  refine ⟨?_, ?_⟩
  · refine ⟨_, hlTrainTimeout_runs hidle hactive, ?_⟩
    rw [State.settle_hl]
    exact State.attemptFailed_again side lane.toNat hmore
  · have hattempts : (s.clocked side true).hl.attempts = s.hl.attempts := State.onGroup_attempts _ _ _
    have hparam : (s.clocked side true).param 0x2409 = s.param 0x2409 := State.onGroup_param _ _ _ _
    obtain ⟨hagain, hgroup⟩ := State.attemptFailed_again (s := s.clocked side true) side 0xFF (by rw [hattempts, hparam]; exact hmore)
    refine ⟨_, (hlClockLost_trains hidle hactive true).trans (if_pos rfl), ?_, fun k => ?_⟩
    · rw [State.settle_hl, hagain, hattempts]
    · rw [State.settle_hl, hgroup k, State.clocked_st]

theorem hlClockLost_idles {side : Side} {s : State} (hidle : (s.hl.group side).st ≠ .idle) (hactive : (s.hl.group side).st ≠ .active) :
    ∃ t, exec (.hlClockLost side false) s = .next t ∧ t.hl.a.st = .idle ∧ t.hl.b.st = .idle ∧ t.hl.vote = false := by
  obtain ⟨ha, hb, -⟩ := State.linkIdle_hl ((s.clocked side false).count 590 1)
  refine ⟨_, (hlClockLost_trains hidle hactive false).trans (if_neg Bool.false_ne_true), ?_⟩
  rw [State.settle_hl]
  exact ⟨ha, hb, rfl⟩

/-- Settles O45 (log entries 75 and 55): one lemma for each state a group leaves, and one for each end of an attempt. -/
theorem linkTrainsStateByState : Obligations.LinkTrainsStateByState := by
  refine ⟨fun side rate s hst => hlReceivePllLock_enters hst, fun side ph s hlen hst => hlBlockLock_enters hlen hst,
    fun side eyes d s hlen hst hlanes => hlEqualizeDone_leaves hlen hst hlanes, fun side skew ds ts2 s hlen hst => ⟨?_, ?_⟩,
    fun side lane s hidle hactive => ⟨fun hmore => linkTraining_fails hidle hactive hmore, fun hlast => ?_, hlClockLost_idles hidle hactive⟩⟩
  · exact fun hdelay hskew hts => hlDeskewDone_activates hlen hst hdelay hskew hts
  · exact fun hbad hmore => hlDeskewDone_again hlen hst hbad hmore
  · refine ⟨_, hlTrainTimeout_runs hidle hactive, ?_⟩
    rw [State.settle_hl]
    exact State.attemptFailed_last side lane.toNat hlast

end Sys2Proof.Machine
end

section
/-! CLAIM O46. Frames on the Vorul link: FS, rows and FE. -/

namespace Sys2Proof.Machine

theorem State.arrived_group (s : State) (side : Side) (at_ : Nat) (sets : List (List LinkBlock)) (i : Side) :
    (s.arrived side at_ sets).hl.group i = s.hl.group i := by
  obtain ⟨r, hr⟩ := s.arrived_hl side at_ sets
  rw [hr]
  cases i
  · rfl
  · rfl

theorem State.arrived_frame (s : State) (side : Side) (at_ : Nat) (sets : List (List LinkBlock)) : (s.arrived side at_ sets).hl.frame = s.hl.frame := by
  obtain ⟨r, hr⟩ := s.arrived_hl side at_ sets
  rw [hr]

theorem State.arrived_mem (s : State) (side : Side) (at_ : Nat) (sets : List (List LinkBlock)) : (s.arrived side at_ sets).mem = s.mem := by
  simp [State.arrived]

theorem State.arrived_now (s : State) (side : Side) (at_ : Nat) (sets : List (List LinkBlock)) : (s.arrived side at_ sets).now = max s.now at_ := by
  rw [← State.elapse_now]
  rfl

theorem State.arrived_ram (s : State) (side : Side) (at_ : Nat) (sets : List (List LinkBlock)) : (s.arrived side at_ sets).ram = s.ram :=
  State.ram_congr (s.arrived_mem side at_ sets)

theorem State.elapse_domFailed (s : State) (t : Nat) (d : Fin 19) : (s.elapse t).domFailed d = s.domFailed d := by
  rw [State.domFailed, State.domFailed, State.elapse_st]

theorem State.stream_right {s : State} {side : Side} (h : s.stream side = .right) : s.wide = false := by
  unfold State.stream at h
  split at h
  · contradiction
  · simpa using ‹¬s.wide = true›

/-- An FS packet has a payload (R186). -/
theorem State.brings_fs {s : State} {side : Side} {sets : List (List LinkBlock)} {p : List Byte} (h : s.brings side sets 1 false p = true) : p ≠ [] := by
  simp only [State.brings, State.hears, Bool.and_eq_true, beq_iff_eq] at h
  obtain ⟨-, hheard⟩ := h
  unfold hear at hheard
  dsimp only at hheard
  split at hheard
  · contradiction
  split at hheard
  · contradiction
  split at hheard
  · contradiction
  rename_i hknown hlen
  simp only [Heard.packet.injEq] at hheard
  obtain ⟨htype, -, rfl⟩ := hheard
  simp only [PacketHeader.known, htype, lengthLimit, Option.any_some, Bool.not_eq_true', Bool.not_eq_false, Bool.and_eq_true, decide_eq_true_eq] at hknown
  intro hnil
  have := congrArg List.length hnil
  rw [slice_length] at this
  simp only [List.length_nil] at this
  omega

/-! ## FS -/

/-- A stream's FS is noted (R187, R188, R218). -/
def State.noted (s : State) (i : Side) (p : List Byte) : State :=
  let src := Word.of (le4 p 0)
  let s1 := s.onGroup i fun g => { g with lastFs := some src }
  let s2 : State := { s1 with hl := { s1.hl with fsLast := if i = .left then some src else s1.hl.fsLast },
                              sec := { s1.sec with linkEnc := s1.param 0x2000 == 1 } }
  s2.onGroup i fun g => { g with fs := p }

theorem State.noted_group (s : State) (i k : Side) (p : List Byte) : (s.noted i p).hl.group k =
    if k = i then { s.hl.group k with lastFs := some (Word.of (le4 p 0)), fs := p } else s.hl.group k := by
  cases i
  · cases k
    · rfl
    · rfl
  · cases k
    · rfl
    · rfl

/-- What noting an FS leaves alone. -/
theorem State.noted_rest (s : State) (i : Side) (p : List Byte) : (s.noted i p).hl.frame = s.hl.frame ∧ (s.noted i p).mem = s.mem ∧
    (s.noted i p).now = s.now ∧ (s.noted i p).par = s.par ∧ (s.noted i p).sec.linkEnc = (s.param 0x2000 == 1) := by
  cases i
  · exact ⟨rfl, rfl, rfl, rfl, rfl⟩
  · exact ⟨rfl, rfl, rfl, rfl, rfl⟩

/-- An FS on a stream that has none yet, with no input frame open. -/
theorem State.fsIn_tries {s : State} {i : Side} {p : List Byte} (hfs : (s.hl.group i).fs = []) (hframe : s.hl.frame = none) :
    s.fsIn i p = (s.noted i p).fsTry := by
  have hempty (src : Word) : ({ s.onGroup i fun g => { g with lastFs := some src } with
      hl := { (s.onGroup i fun g => { g with lastFs := some src }).hl with
        fsLast := if i = .left then some src else (s.onGroup i fun g => { g with lastFs := some src }).hl.fsLast },
      sec := { (s.onGroup i fun g => { g with lastFs := some src }).sec with
        linkEnc := (s.onGroup i fun g => { g with lastFs := some src }).param 0x2000 == 1 } } : State).hl.group i |>.fs.isEmpty := by
    cases i
    · exact List.isEmpty_iff.mpr hfs
    · exact List.isEmpty_iff.mpr hfs
  have hnone : (s.noted i p).hl.frame.isSome = false := by rw [(s.noted_rest i p).1, hframe]; rfl
  unfold State.fsIn
  dsimp only
  rw [if_pos (hempty _)]
  exact if_neg (by rw [← State.noted, hnone]; decide)

/-- The device's judgement of an FS (R199). -/
theorem State.fsRejected_iff (s : State) (p : List Byte) : s.fsRejected p = true ↔
    (byteAt p 5).toNat ≠ s.param 0x2403 ∨ le2 p 6 ≠ s.param 0x2801 ∨ le2 p 8 ≠ s.param 0x2802 ∨
    (s.param 0x2000 = 1 ∧ (byteAt p 4).toNat.testBit 2 = false) ∨ (s.wide = false ∧ s.hl.b.fs ≠ [] ∧ s.hl.b.fs ≠ p) := by
  simp [State.fsRejected, bit, or_assoc, and_assoc]

theorem State.preemptIf_hl (s : State) (c : Prop) [Decidable c] : (if c then s.preempt else s).hl = s.hl := by
  split
  · simp
  · rfl

theorem State.fsAccept_hl (s : State) (p : List Byte) : ∃ use slot1 t, use ≠ .rejected ∧
    (s.fsAccept p).hl = { s.hl with rejecting := false, frame := some (newFrame p use slot1 t) } := by
  have hfrozen (c : Bool) : (if c then InputUse.frozen else InputUse.captured) ≠ .rejected := by cases c <;> decide
  unfold State.fsAccept
  dsimp only
  generalize hready : (if State.preempts _ _ then State.preempt _ else _ : State) = u
  have hu : u.hl = { s.hl with rejecting := false } := by
    rw [← hready, State.preemptIf_hl]
  by_cases hdrop : (!u.memLost && (u.hoopFrame !u.marked).scanning) = true
  · rw [if_pos hdrop, State.count_hl]
    exact ⟨.dropped, _, _, by decide, by rw [hu]⟩
  · rw [if_neg hdrop]
    by_cases hfresh : (u.ras.active = .source && !bit (byteAt p 4).toNat 1) = true
    · rw [if_pos hfresh]
      simp only [State.onHoop_frame, hu]
      exact ⟨_, _, _, hfrozen _, rfl⟩
    · rw [if_neg hfresh]
      simp only [State.onHoop_frame, hu]
      exact ⟨_, _, _, hfrozen _, rfl⟩

theorem State.fsJudge_rejects {s : State} {p : List Byte} (h : s.fsRejected p = true) :
    (s.fsJudge p).hl = { s.hl with rejecting := true, frame := some (newFrame p .rejected (!s.marked) s.now) } ∧ (s.fsJudge p).mem = s.mem := by
  have hgo : s.fsJudge p = State.countReject { s with hl := { s.hl with frame := some (newFrame p .rejected (!s.marked) s.now) } } p := if_pos h
  have hhl (u : State) : (u.countReject p).hl = { u.hl with rejecting := true } := by
    unfold State.countReject
    dsimp only
    split
    · rw [State.count_hl]
    · rw [State.event_hl, State.count_hl]
  rw [hgo, hhl]
  exact ⟨rfl, by simp⟩

theorem State.fsTry_judges {s : State} (hne : s.hl.a.fs ≠ []) (h : s.wide = true ∨ s.hl.b.fs ≠ [] ∨ s.fsRejected s.hl.a.fs = true) :
    s.fsTry = s.fsJudge s.hl.a.fs := by
  unfold State.fsTry
  refine if_neg ?_
  rcases h with h | h | h
  all_goals simp [h, hne]

theorem State.fsTry_waits {s : State} (h : s.hl.a.fs = [] ∨ (s.wide = false ∧ s.hl.b.fs = [] ∧ s.fsRejected s.hl.a.fs = false)) : s.fsTry = s := by
  unfold State.fsTry
  refine if_pos ?_
  rcases h with h | ⟨hw, hb, hr⟩
  · simp [h]
  · simp [hw, hb, hr]

/-- The state in which a stream's FS has arrived and is noted. -/
def State.fsState (s : State) (side : Side) (at_ : Nat) (sets : List (List LinkBlock)) (p : List Byte) : State :=
  (s.arrived side at_ sets).noted (s.stream side) p

theorem hlFs_runs {side : Side} {at_ : Nat} {sets : List (List LinkBlock)} {p : List Byte} {s : State} (h : s.brings side sets 1 false p = true)
    (hframe : s.hl.frame = none) (hfs : (s.hl.group (s.stream side)).fs = []) :
    exec (.hlFs side at_ sets) s = .next (s.fsState side at_ sets p).fsTry.settle := by
  have hpacket : (s.arrived side at_ sets).packet (s.stream side) 1 false p = (s.arrived side at_ sets).fsIn (s.stream side) p := rfl
  have hin : s.packetIn side at_ sets = (s.fsState side at_ sets p).fsTry := by
    rw [State.packetIn_brings at_ h, hpacket, State.fsIn_tries (by rw [State.arrived_group]; exact hfs) (by rw [State.arrived_frame]; exact hframe)]
    rfl
  exact congrArg done hin

theorem State.fsState_group (s : State) (side : Side) (at_ : Nat) (sets : List (List LinkBlock)) (p : List Byte) (k : Side) :
    (s.fsState side at_ sets p).hl.group k =
      if k = s.stream side then { s.hl.group k with lastFs := some (Word.of (le4 p 0)), fs := p } else s.hl.group k := by
  rw [State.fsState, State.noted_group, State.arrived_group]

theorem State.fsState_rest (s : State) (side : Side) (at_ : Nat) (sets : List (List LinkBlock)) (p : List Byte) :
    (s.fsState side at_ sets p).hl.frame = s.hl.frame ∧ (s.fsState side at_ sets p).mem = s.mem ∧ (s.fsState side at_ sets p).now = max s.now at_ ∧
    (∀ id, (s.fsState side at_ sets p).param id = s.param id) ∧ (s.fsState side at_ sets p).sec.linkEnc = (s.param 0x2000 == 1) := by
  obtain ⟨hframe, hmem, hnow, hpar, henc⟩ := (s.arrived side at_ sets).noted_rest (s.stream side) p
  refine ⟨hframe.trans (s.arrived_frame side at_ sets), hmem.trans (s.arrived_mem side at_ sets), hnow.trans (s.arrived_now side at_ sets), fun id => ?_, ?_⟩
  · rw [← s.arrived_param side at_ sets id]
    exact State.param_congr (congrArg Params.active hpar) id
  · rw [← s.arrived_param side at_ sets 0x2000]
    exact henc

theorem Side.eq_right {o : Side} (h : o ≠ .left) : o = .right := by
  cases o
  case left => exact absurd rfl h
  case right => rfl

theorem Side.eq_left {o : Side} (h : o ≠ .right) : o = .left := by
  cases o
  case left => rfl
  case right => exact absurd rfl h

/-- The FS that group A holds once a stream's FS is noted, where the other half's FS equals it or the link is one stream. -/
theorem State.fsState_held {s : State} {side o : Side} {at_ : Nat} {sets : List (List LinkBlock)} {p : List Byte} (ho : o ≠ s.stream side)
    (hboth : s.param 0x2400 = 1 ∨ (s.hl.group o).fs = p) :
    (s.fsState side at_ sets p).hl.a.fs = p ∧ (s.wide = true ∨ (s.fsState side at_ sets p).hl.b.fs = p) := by
  have ha := s.fsState_group side at_ sets p .left
  have hb := s.fsState_group side at_ sets p .right
  have hwide : s.param 0x2400 = 1 → s.wide = true := fun h => by simp [State.wide, h]
  cases hi : s.stream side
  case left =>
    rw [hi] at ha hb ho
    have ho' : o = .right := Side.eq_right ho
    refine ⟨congrArg LaneGroup.fs ha, hboth.imp hwide fun hfs => ?_⟩
    rw [ho'] at hfs
    exact (congrArg LaneGroup.fs hb).trans hfs
  case right =>
    rw [hi] at ha hb ho
    have ho' : o = .left := Side.eq_left ho
    refine ⟨?_, .inr (congrArg LaneGroup.fs hb)⟩
    rcases hboth with hw | hfs
    · exact absurd (hwide hw) (by simp [State.stream_right hi])
    · rw [ho'] at hfs
      exact (congrArg LaneGroup.fs ha).trans hfs

theorem State.fsState_wide (s : State) (side : Side) (at_ : Nat) (sets : List (List LinkBlock)) (p : List Byte) :
    (s.fsState side at_ sets p).wide = s.wide := by
  rw [State.wide, State.wide, (s.fsState_rest side at_ sets p).2.2.2.1]

/-- Whether the device rejects an FS once it is noted, by the values of the state it came to (R199). -/
theorem State.fsState_rejected (s : State) (side : Side) (at_ : Nat) (sets : List (List LinkBlock)) (p q : List Byte) :
    (s.fsState side at_ sets p).fsRejected q = true ↔
    (byteAt q 5).toNat ≠ s.param 0x2403 ∨ le2 q 6 ≠ s.param 0x2801 ∨ le2 q 8 ≠ s.param 0x2802 ∨
    (s.param 0x2000 = 1 ∧ (byteAt q 4).toNat.testBit 2 = false) ∨
    (s.wide = false ∧ (s.fsState side at_ sets p).hl.b.fs ≠ [] ∧ (s.fsState side at_ sets p).hl.b.fs ≠ q) := by
  simp only [State.fsRejected_iff, State.fsState_wide, (s.fsState_rest side at_ sets p).2.2.2.1]

theorem hlFs_opens {side o : Side} {at_ : Nat} {sets : List (List LinkBlock)} {p : List Byte} {s : State} (h : s.brings side sets 1 false p = true)
    (hframe : s.hl.frame = none) (ho : o ≠ s.stream side) (hfs : (s.hl.group (s.stream side)).fs = []) (hfmt : (byteAt p 5).toNat = s.param 0x2403)
    (hw : le2 p 6 = s.param 0x2801) (hv : le2 p 8 = s.param 0x2802) (henc : s.param 0x2000 = 1 → (byteAt p 4).toNat.testBit 2 = true)
    (hboth : s.param 0x2400 = 1 ∨ (s.hl.group o).fs = p) :
    ∃ t f, exec (.hlFs side at_ sets) s = .next t ∧ t.now = max s.now at_ ∧ t.hl.frame = some f ∧ f.src = Word.of (le4 p 0) ∧ f.fsBytes = p ∧
      f.bad = [] ∧ f.use ≠ .rejected ∧ (t.hl.group (s.stream side)).lastFs = some (Word.of (le4 p 0)) ∧
      (t.hl.group (s.stream side)).fs = p ∧ t.hl.rejecting = false ∧ t.sec.linkEnc = (s.param 0x2000 == 1) := by
  have hne := State.brings_fs h
  obtain ⟨hrest, -, hnow, -, hlink⟩ := s.fsState_rest side at_ sets p
  have hown := s.fsState_group side at_ sets p (s.stream side)
  rw [if_pos rfl] at hown
  obtain ⟨ha, hb⟩ := State.fsState_held (at_ := at_) (sets := sets) ho hboth
  have hok : (s.fsState side at_ sets p).fsRejected p = false := by
    rw [← Bool.not_eq_true, State.fsState_rejected]
    rintro (hno | hno | hno | ⟨hreq, hplain⟩ | ⟨hsplit, -, hno⟩)
    · exact hno hfmt
    · exact hno hw
    · exact hno hv
    · rw [henc hreq] at hplain
      contradiction
    · rcases hb with hb | hb
      · rw [hb] at hsplit
        contradiction
      · exact hno hb
  have htry : (s.fsState side at_ sets p).fsTry = (s.fsState side at_ sets p).fsAccept p := by
    rw [State.fsTry_judges (by rw [ha]; exact hne) (by rw [State.fsState_wide]; exact hb.imp id fun hb => .inl (by rw [hb]; exact hne)), ha]
    exact if_neg (by rw [hok]; decide)
  obtain ⟨use, slot1, n, huse, hhl⟩ := (s.fsState side at_ sets p).fsAccept_hl p
  have hgroup : ((s.fsState side at_ sets p).fsAccept p).hl.group (s.stream side) = (s.fsState side at_ sets p).hl.group (s.stream side) := by
    rw [hhl]
    cases s.stream side
    · rfl
    · rfl
  have hlinkEnc : ((s.fsState side at_ sets p).fsAccept p).settle.sec = (s.fsState side at_ sets p).sec := by simp
  refine ⟨_, newFrame p use slot1 n, (hlFs_runs h hframe hfs).trans (by rw [htry]), ?_, ?_, rfl, rfl, rfl, huse, ?_, ?_, ?_, ?_⟩
  · simpa using hnow
  · rw [State.settle_hl, hhl]
  · rw [State.settle_hl, hgroup, hown]
  · rw [State.settle_hl, hgroup, hown]
  · rw [State.settle_hl, hhl]
  · rw [hlinkEnc, hlink]

theorem hlFs_waits {side o : Side} {at_ : Nat} {sets : List (List LinkBlock)} {p : List Byte} {s : State} (h : s.brings side sets 1 false p = true)
    (hframe : s.hl.frame = none) (ho : o ≠ s.stream side) (hfs : (s.hl.group (s.stream side)).fs = []) (hfmt : (byteAt p 5).toNat = s.param 0x2403)
    (hw : le2 p 6 = s.param 0x2801) (hv : le2 p 8 = s.param 0x2802) (henc : s.param 0x2000 = 1 → (byteAt p 4).toNat.testBit 2 = true)
    (hsplit : s.param 0x2400 ≠ 1) (hother : (s.hl.group o).fs = []) :
    ∃ t, exec (.hlFs side at_ sets) s = .next t ∧ t.hl.frame = none ∧ (t.hl.group (s.stream side)).fs = p ∧ t.mem = s.mem := by
  obtain ⟨hrest, hmem, -, -, -⟩ := s.fsState_rest side at_ sets p
  have hown := s.fsState_group side at_ sets p (s.stream side)
  rw [if_pos rfl] at hown
  have hfar := s.fsState_group side at_ sets p o
  rw [if_neg ho] at hfar
  have hwide : s.wide = false := by simp [State.wide, hsplit]
  have htry : (s.fsState side at_ sets p).fsTry = s.fsState side at_ sets p := by
    refine State.fsTry_waits ?_
    cases hi : s.stream side
    case left =>
      have ho' : o = .right := Side.eq_right (hi ▸ ho)
      have ha : (s.fsState side at_ sets p).hl.a.fs = p := by rw [hi] at hown; exact congrArg LaneGroup.fs hown
      have hb : (s.fsState side at_ sets p).hl.b.fs = [] := by rw [ho'] at hfar hother; exact (congrArg LaneGroup.fs hfar).trans hother
      refine .inr ⟨by rw [State.fsState_wide, hwide], hb, ?_⟩
      rw [ha, ← Bool.not_eq_true, State.fsState_rejected]
      rintro (hno | hno | hno | ⟨hreq, hplain⟩ | ⟨-, hno, -⟩)
      · exact hno hfmt
      · exact hno hw
      · exact hno hv
      · rw [henc hreq] at hplain
        contradiction
      · exact hno hb
    case right =>
      have ho' : o = .left := Side.eq_left (hi ▸ ho)
      rw [ho'] at hfar hother
      exact .inl ((congrArg LaneGroup.fs hfar).trans hother)
  refine ⟨_, (hlFs_runs h hframe hfs).trans (by rw [htry]), ?_, ?_, ?_⟩
  · rw [State.settle_hl, hrest, hframe]
  · rw [State.settle_hl, hown]
  · rw [State.settle_mem, hmem]

/-- An FS that is judged and rejected. -/
theorem hlFs_rejects {side : Side} {at_ : Nat} {sets : List (List LinkBlock)} {p : List Byte} {s : State} (h : s.brings side sets 1 false p = true)
    (hframe : s.hl.frame = none) (hfs : (s.hl.group (s.stream side)).fs = []) (hne : (s.fsState side at_ sets p).hl.a.fs ≠ [])
    (hbad : (s.fsState side at_ sets p).fsRejected (s.fsState side at_ sets p).hl.a.fs = true) :
    ∃ t f, exec (.hlFs side at_ sets) s = .next t ∧ t.hl.frame = some f ∧ f.use = .rejected ∧ t.hl.rejecting = true ∧ t.mem = s.mem := by
  obtain ⟨-, hmem, -, -, -⟩ := s.fsState_rest side at_ sets p
  obtain ⟨hhl, hkeep⟩ := State.fsJudge_rejects hbad
  refine ⟨_, _, (hlFs_runs h hframe hfs).trans (by rw [State.fsTry_judges hne (.inr (.inr hbad))]), by rw [State.settle_hl, hhl], rfl, ?_, ?_⟩
  · rw [State.settle_hl, hhl]
  · rw [State.settle_mem, hkeep, hmem]

theorem hlFs_rejectsFormat {side : Side} {at_ : Nat} {sets : List (List LinkBlock)} {p : List Byte} {s : State} (h : s.brings side sets 1 false p = true)
    (hframe : s.hl.frame = none) (hfs : (s.hl.group (s.stream side)).fs = [])
    (hbad : (byteAt p 5).toNat ≠ s.param 0x2403 ∨ le2 p 6 ≠ s.param 0x2801 ∨ le2 p 8 ≠ s.param 0x2802) (hheld : s.stream side = .left ∨ s.hl.a.fs = p) :
    ∃ t f, exec (.hlFs side at_ sets) s = .next t ∧ t.hl.frame = some f ∧ f.use = .rejected ∧ t.hl.rejecting = true ∧ t.mem = s.mem := by
  have ha : (s.fsState side at_ sets p).hl.a.fs = p := by
    have hleft := s.fsState_group side at_ sets p .left
    rcases hheld with hi | hp
    · rw [hi] at hleft
      exact congrArg LaneGroup.fs hleft
    · refine (congrArg LaneGroup.fs hleft).trans ?_
      split
      · rfl
      · exact hp
  refine hlFs_rejects h hframe hfs (by rw [ha]; exact State.brings_fs h) ?_
  rw [ha, State.fsState_rejected]
  exact hbad.imp_right (Or.imp_right .inl)

theorem hlFs_rejectsOther {side o : Side} {at_ : Nat} {sets : List (List LinkBlock)} {p : List Byte} {s : State} (h : s.brings side sets 1 false p = true)
    (hframe : s.hl.frame = none) (ho : o ≠ s.stream side) (hfs : (s.hl.group (s.stream side)).fs = []) (hsplit : s.param 0x2400 ≠ 1)
    (hother : (s.hl.group o).fs ≠ []) (hdiffers : (s.hl.group o).fs ≠ p) :
    ∃ t f, exec (.hlFs side at_ sets) s = .next t ∧ t.hl.frame = some f ∧ f.use = .rejected ∧ t.hl.rejecting = true ∧ t.mem = s.mem := by
  have hown := s.fsState_group side at_ sets p (s.stream side)
  rw [if_pos rfl] at hown
  have hfar := s.fsState_group side at_ sets p o
  rw [if_neg ho] at hfar
  have hwide : s.wide = false := by simp [State.wide, hsplit]
  cases hi : s.stream side
  case left =>
    have ho' : o = .right := Side.eq_right (hi ▸ ho)
    have ha : (s.fsState side at_ sets p).hl.a.fs = p := by rw [hi] at hown; exact congrArg LaneGroup.fs hown
    have hb : (s.fsState side at_ sets p).hl.b.fs = (s.hl.group o).fs := by rw [ho'] at hfar ⊢; exact congrArg LaneGroup.fs hfar
    refine hlFs_rejects h hframe hfs (by rw [ha]; exact State.brings_fs h) ?_
    rw [ha, State.fsState_rejected, hb]
    exact .inr (.inr (.inr (.inr ⟨hwide, hother, hdiffers⟩)))
  case right =>
    have ho' : o = .left := Side.eq_left (hi ▸ ho)
    have ha : (s.fsState side at_ sets p).hl.a.fs = (s.hl.group o).fs := by rw [ho'] at hfar ⊢; exact congrArg LaneGroup.fs hfar
    have hb : (s.fsState side at_ sets p).hl.b.fs = p := by rw [hi] at hown; exact congrArg LaneGroup.fs hown
    refine hlFs_rejects h hframe hfs (by rw [ha]; exact hother) ?_
    rw [ha, State.fsState_rejected, hb]
    exact .inr (.inr (.inr (.inr ⟨hwide, State.brings_fs h, hdiffers.symm⟩)))

/-! ## ROW -/

/-- No row was passed over before the next one. -/
theorem State.missUpTo_next {s : State} {f : InputFrame} {i : Side} {r : Nat} (h : (s.hl.group i).lastRow.elim 0 (· + 1) = r) : s.missUpTo f i r = s := by
  refine List.foldlRecOn (motive := fun t : State => t = s) _ _ rfl fun t ht k hk => ?_
  have hk' := List.mem_range.mp hk
  rw [if_neg (by rw [h]; omega), ht]

theorem State.openPending_open {s : State} {f : InputFrame} (h : s.hl.frame = some f) : s.openPending = s :=
  if_pos (by simp [h])

/-- A row in its place, good and in time (R189, R190, R196). -/
theorem State.rowIn_good {s : State} {i : Side} {f : InputFrame} {p : List Byte} (enc : Bool)
    (hcrc : crc32c (p.take (p.length - 4)) = le4 p (p.length - 4)) (huse : f.use = .captured) (hr : le2 p 0 < s.param 0x2802)
    (hnext : (s.hl.group i).lastRow.elim 0 (· + 1) = le2 p 0) (hfits : s.rowFits i f p = true) :
    s.rowIn i f enc p = s.rowGood i f (le2 p 0) enc p := by
  have habove : (s.hl.group i).lastRow.all (· < le2 p 0) = true := by
    cases hlast : (s.hl.group i).lastRow
    case none => rfl
    case some k =>
      rw [hlast] at hnext
      simp only [Option.elim_some] at hnext
      simp only [Option.all_some, decide_eq_true_eq]
      omega
  have hlate : s.rowLate f (le2 p 0) = false := by simp [State.rowLate, huse]
  unfold State.rowIn
  rw [if_neg (not_not_intro hcrc), if_neg (by simp [habove]; exact hr), if_neg (by simp [hfits]), if_neg (by simp [hlate]), if_neg (by simp [huse])]

/-- The words of a row in the hoop (R270). -/
def rowWords (f : InputFrame) (n : Nat) (p : List Byte) : List Byte :=
  let bitsN := formatBits f.format
  let c := components bitsN (3 * n) (slice p 16 ((3 * bitsN * n + 7) / 8))
  (List.range n).flatMap fun k => toLe 4 (hoopWord f.format (c.getD (3 * k) 0) (c.getD (3 * k + 1) 0) (c.getD (3 * k + 2) 0))

theorem flatMap_toLe_length (w n : Nat) (f : Nat → Nat) : ((List.range n).flatMap fun k => toLe w (f k)).length = w * n := by
  simp [List.length_flatMap, List.map_const', List.sum_replicate_nat, Nat.mul_comm]

theorem rowWords_length (f : InputFrame) (n : Nat) (p : List Byte) : (rowWords f n p).length = 4 * n := flatMap_toLe_length 4 n _

theorem State.noteRows_rest (s : State) (f : InputFrame) : (s.noteRows f).hl = s.hl ∧ (s.noteRows f).ram = s.ram := by
  refine ⟨by simp, ?_⟩
  unfold State.noteRows State.onHoop
  dsimp only
  split
  · rfl
  · rfl

/-- A group once a row is accepted (R190). -/
def State.rowKept (s : State) (i : Side) (r : Nat) (data : List Byte) : State :=
  (s.rowSeen i r).onGroup i fun g => { g with pixels := aset g.pixels r data }

theorem State.rowKept_group (s : State) (i : Side) (r : Nat) (data : List Byte) :
    (s.rowKept i r data).hl.group i = { s.hl.group i with lastRow := some r, pixels := aset (s.hl.group i).pixels r data } := by
  rw [State.rowKept, State.onGroup_group, if_pos rfl, State.rowSeen, State.onGroup_group, if_pos rfl]

theorem State.onGroup_rest (s : State) (i : Side) (f : LaneGroup → LaneGroup) :
    (s.onGroup i f).mem = s.mem ∧ (s.onGroup i f).par = s.par ∧ (s.onGroup i f).hl.frame = s.hl.frame ∧ (s.onGroup i f).ras = s.ras := by
  cases i
  · exact ⟨rfl, rfl, rfl, rfl⟩
  · exact ⟨rfl, rfl, rfl, rfl⟩

/-- The write-back clients that take a row note it, and nothing else changes. -/
theorem State.writeBacks_rest (s : State) (ks : List Side) :
    (ks.foldl (fun t k => t.writeBack k .hoopWrite) s).hl = s.hl ∧ (ks.foldl (fun t k => t.writeBack k .hoopWrite) s).par = s.par ∧
      (ks.foldl (fun t k => t.writeBack k .hoopWrite) s).mem.cells = s.mem.cells ∧
      (ks.foldl (fun t k => t.writeBack k .hoopWrite) s).mem.hoopFill = s.mem.hoopFill := by
  refine List.foldlRecOn (motive := fun t : State => t.hl = s.hl ∧ t.par = s.par ∧ t.mem.cells = s.mem.cells ∧ t.mem.hoopFill = s.mem.hoopFill)
    _ _ ⟨rfl, rfl, rfl, rfl⟩ fun t ht k _ => ?_
  simpa using ht

/-- The PIXEL_DATA of a row packet (R189, R190). -/
def State.rowData (s : State) (i : Side) (f : InputFrame) (p : List Byte) : List Byte :=
  slice p 16 ((3 * formatBits f.format * (s.halfCols i).2 + 7) / 8)

/-- A good row of plain pixels, kept by its group and written to the hoop (R190, R270). -/
def State.rowStored (s : State) (i : Side) (f : InputFrame) (r : Nat) (p : List Byte) : State :=
  let halves := if s.wide then [Side.left, .right] else [i]
  let held := halves.foldl (fun t k => t.writeBack k .hoopWrite) (s.rowKept i r (s.rowData i f p))
  (held.hoopWrite f.slot1 f.format r (components (formatBits f.format) (3 * (s.halfCols i).2) (s.rowData i f p)) (s.halfCols i).1).noteRows f

/-- A good row may wait in its half's input buffer besides (R26). -/
theorem State.rowGood_stores {s : State} {i : Side} {f : InputFrame} {r : Nat} {p : List Byte}
    (hnext : (s.hl.group i).lastRow.elim 0 (· + 1) = r) (hmem : s.memLost = false) :
    (s.rowGood i f r false p).hl.group i = (s.rowStored i f r p).hl.group i ∧ (s.rowGood i f r false p).mem = (s.rowStored i f r p).mem := by
  have hlost : ¬s.memLost = true := by simp [hmem]
  unfold State.rowGood
  dsimp only [State.rowShape]
  rw [State.missUpTo_next hnext, if_neg Bool.false_ne_true, if_neg hlost]
  split
  · exact ⟨rfl, rfl⟩
  · cases i
    · exact ⟨rfl, rfl⟩
    · exact ⟨rfl, rfl⟩

theorem State.rowStored_group (s : State) (i : Side) (f : InputFrame) (r : Nat) (p : List Byte) : (s.rowStored i f r p).hl.group i =
    { s.hl.group i with lastRow := some r, pixels := aset (s.hl.group i).pixels r (s.rowData i f p) } := by
  have hhoop (u : State) (b : Bool) (n y x : Nat) (raw : List Nat) : (u.hoopWrite b n y raw x).hl = u.hl := by simp
  unfold State.rowStored
  dsimp only
  rw [(State.noteRows_rest _ f).1, hhoop, (State.writeBacks_rest _ _).1, State.rowKept_group]

theorem components_length (b n : Nat) (bs : List Byte) : (components b n bs).length = n := by simp [components]

theorem State.rowStored_ram (s : State) (i : Side) (f : InputFrame) (r : Nat) (p : List Byte) : (s.rowStored i f r p).ram =
    (s.ramWrite (hoopBase f.slot1 + r * s.hoopStride + 4 * (s.halfCols i).1) (rowWords f (s.halfCols i).2 p)).ram := by
  unfold State.rowStored
  dsimp only
  obtain ⟨-, hpar, hcells, hfill⟩ := State.writeBacks_rest (s.rowKept i r (s.rowData i f p)) (if s.wide then [Side.left, .right] else [i])
  generalize List.foldl _ _ _ = u at hpar hcells hfill ⊢
  have hkept : (s.rowKept i r (s.rowData i f p)).mem = s.mem ∧ (s.rowKept i r (s.rowData i f p)).par = s.par := by
    rw [State.rowKept, State.rowSeen]
    obtain ⟨hm, hp, -, -⟩ := State.onGroup_rest (s.onGroup i fun g => { g with lastRow := some r }) i
      fun g => { g with pixels := aset g.pixels r (s.rowData i f p) }
    obtain ⟨hm', hp', -, -⟩ := s.onGroup_rest i fun g => { g with lastRow := some r }
    exact ⟨hm.trans hm', hp.trans hp'⟩
  have hstride : u.hoopStride = s.hoopStride := by
    rw [State.hoopStride, State.hoopStride, State.param_congr (congrArg Params.active (hpar.trans hkept.2))]
  rw [(State.noteRows_rest _ f).2, State.hoopWrite, components_length, Nat.mul_div_cancel_left _ (by decide), hstride]
  exact State.ramWrite_ram_congr (by rw [hcells, hkept.1]) (by rw [hfill, hkept.1]) _ _

/-- Whether the frame becomes live, is captured or waits: its groups keep what they have (R244). -/
theorem State.capture_group (s : State) (n : Nat) (i : Side) : (s.capture n).hl.group i = s.hl.group i := by
  rw [State.capture, State.count_hl]
  cases i
  · rfl
  · rfl

theorem State.onFrame_group (s : State) (g : InputFrame → InputFrame) (i : Side) : (s.onFrame g).hl.group i = s.hl.group i := by
  cases i
  · rfl
  · rfl

theorem State.rowZero_group (s : State) (i : Side) : s.rowZero.hl.group i = s.hl.group i := by
  unfold State.rowZero
  dsimp only
  split
  · exact s.capture_group 0 i
  split
  · split
    · exact s.capture_group 0 i
    split
    · exact s.capture_group 1 i
    split
    · exact s.onFrame_group _ i
    · exact State.capture_group _ 1 i
  split
  · exact s.capture_group 0 i
  split
  · rw [State.count_hl]
    exact s.capture_group 0 i
  split
  · exact s.onFrame_group _ i
  · exact s.capture_group 1 i

theorem State.rowPacket_stores {s : State} {i : Side} {f : InputFrame} {p : List Byte} (hframe : s.hl.frame = some f) (huse : f.use = .captured)
    (hfs : (s.hl.group i).fs ≠ []) (hfe : (s.hl.group i).fe = none) (hcrc : crc32c (p.take (p.length - 4)) = le4 p (p.length - 4))
    (hr : le2 p 0 < s.param 0x2802) (hnext : (s.hl.group i).lastRow.elim 0 (· + 1) = le2 p 0) (hfits : s.rowFits i f p = true)
    (hmem : s.memLost = false) :
    (s.rowPacket i false p).hl.group i = (s.rowStored i f (le2 p 0) p).hl.group i ∧
      (s.rowPacket i false p).mem = (s.rowStored i f (le2 p 0) p).mem := by
  have hopen : (if i = .left then s.openPending else s) = s := by
    split
    · exact State.openPending_open hframe
    · rfl
  have hgood := State.rowGood_stores (f := f) (p := p) hnext hmem
  have hzero (u : State) : u.rowZero.mem = u.mem := by simp
  unfold State.rowPacket
  rw [hopen]
  dsimp only
  rw [hframe]
  dsimp only
  rw [if_neg (by simp [InputFrame.fills, huse]), if_neg (by simp [hfs, hfe]), State.rowIn_good false hcrc huse hr hnext hfits]
  split
  · rw [State.rowZero_group, hzero]
    exact hgood
  · exact hgood

theorem hlRow_stores {side : Side} {at_ r : Nat} {first : List LinkBlock} {sets : List (List LinkBlock)} {p : List Byte} {f : InputFrame} {s : State}
    (h : s.brings side (first :: sets) 2 false p = true) (hframe : s.hl.frame = some f) (huse : f.use = .captured)
    (hfs : (s.hl.group (s.stream side)).fs ≠ []) (hfe : (s.hl.group (s.stream side)).fe = none)
    (hcrc : crc32c (p.take (p.length - 4)) = le4 p (p.length - 4)) (hrow : le2 p 0 = r) (hr : r < s.param 0x2802)
    (hnext : (s.hl.group (s.stream side)).lastRow.elim 0 (· + 1) = r) (hfits : s.rowFits (s.stream side) f p = true) (hmem : s.memLost = false)
    (hwf : Memory.wf s = true) :
    let i := s.stream side
    let base := hoopBase f.slot1 + r * s.hoopStride + 4 * (s.halfCols i).1
    ∃ t, exec (.hlRow side at_ first sets) s = .next t ∧ (t.hl.group i).lastRow = some r ∧ aget? (t.hl.group i).pixels r = some (s.rowData i f p) ∧
      t.ramBytes base (4 * (s.halfCols i).2) = rowWords f (s.halfCols i).2 p ∧
      ∀ a, a < base ∨ base + 4 * (s.halfCols i).2 ≤ a → t.ram a = s.ram a := by
  subst hrow
  intro i base
  obtain ⟨u, hu⟩ : ∃ u, u = s.arrived side at_ (first :: sets) := ⟨_, rfl⟩
  have hparam (id : Nat) : u.param id = s.param id := by rw [hu]; exact s.arrived_param side at_ _ id
  have hgroup (k : Side) : u.hl.group k = s.hl.group k := by rw [hu]; exact s.arrived_group side at_ _ k
  have hwide : u.wide = s.wide := by simp only [State.wide, hparam]
  have hcols (k : Side) : u.halfCols k = s.halfCols k := by simp only [State.halfCols, hwide, hparam]
  have hstride : u.hoopStride = s.hoopStride := by simp only [State.hoopStride, hparam]
  have hfits' : u.rowFits i f p = true := by
    rw [← hfits]
    change u.rowFits i f p = s.rowFits i f p
    simp only [State.rowFits, State.rowShape, State.halfCode, hwide, hcols]
  have hlost : u.memLost = false := by rw [hu, ← hmem]; exact s.elapse_domFailed at_ dMem
  have hmemU : u.mem = s.mem := by rw [hu]; exact s.arrived_mem side at_ _
  have hgo : exec (.hlRow side at_ first sets) s = .next (u.rowPacket i false p).settle := by
    rw [hu]
    exact congrArg done (State.packetIn_brings at_ h)
  obtain ⟨hown, hkept⟩ := State.rowPacket_stores (s := u) (i := i) (by rw [hu, State.arrived_frame]; exact hframe) huse (by rw [hgroup]; exact hfs)
    (by rw [hgroup]; exact hfe) hcrc (by rw [hparam]; exact hr) (by rw [hgroup]; exact hnext) hfits' hlost
  have hram : (u.rowPacket i false p).settle.ram = (s.ramWrite base (rowWords f (s.halfCols i).2 p)).ram := by
    rw [State.ram_congr (State.settle_mem _), State.ram_congr hkept, State.rowStored_ram, hcols, hstride]
    exact State.ramWrite_ram_congr (by rw [hmemU]) (by rw [hmemU]) _ _
  refine ⟨_, hgo, ?_, ?_, ?_, fun a ha => ?_⟩
  · rw [State.settle_hl, hown, State.rowStored_group]
  · rw [State.settle_hl, hown, State.rowStored_group, aget?_aset, if_pos rfl, State.rowData, State.rowData, hcols]
  · rw [State.ramBytes, hram, ← State.ramBytes, ← rowWords_length f (s.halfCols i).2 p]
    exact State.ramWrite_ramBytes hwf _ _
  · rw [hram, State.ramWrite_ram hwf, rowWords_length, if_neg (by omega)]

/-! ## FE -/

theorem State.onHoop_hoopFrame (s : State) (b c : Bool) (f : HoopFrame → HoopFrame) :
    (s.onHoop b f).hoopFrame c = if c = b then f (s.hoopFrame c) else s.hoopFrame c := by
  cases b
  · cases c
    · rfl
    · rfl
  · cases c
    · rfl
    · rfl

theorem State.hoopFrame_congr {s t : State} (h0 : t.mem.h0 = s.mem.h0) (h1 : t.mem.h1 = s.mem.h1) (b : Bool) : t.hoopFrame b = s.hoopFrame b := by
  rw [State.hoopFrame, State.hoopFrame, h0, h1]

theorem State.clearGroups_mem (s : State) : s.clearGroups.mem = s.mem := by simp

/-- The filled hoop frame becomes the marked one, and the other is free (R222, R272). -/
theorem State.promote_marks (s : State) (f : InputFrame) :
    ((s.promote f).hoopFrame f.slot1).role = .marked ∧ ((s.promote f).hoopFrame f.slot1).src = f.src ∧
      ((s.promote f).hoopFrame (!f.slot1)).role = .free ∧ (s.promote f).mem.cells = s.mem.cells ∧
      (s.promote f).hl = { s.hl with markShown := f.use == .live && f.started } := by
  obtain ⟨u, hu⟩ : ∃ u, u = (s.onHoop (!f.slot1) fun h => { h with role := .free }).onHoop f.slot1 fun h => { h with role := .marked, src := f.src } := ⟨_, rfl⟩
  have hgo : (s.promote f).mem.h0 = u.mem.h0 ∧ (s.promote f).mem.h1 = u.mem.h1 ∧ (s.promote f).mem.cells = u.mem.cells ∧
      (s.promote f).hl = { u.hl with markShown := f.use == .live && f.started } := by
    rw [hu]
    unfold State.promote
    dsimp only
    split
    · exact ⟨rfl, rfl, rfl, rfl⟩
    · exact ⟨rfl, rfl, rfl, rfl⟩
  obtain ⟨h0, h1, hcells, hhl⟩ := hgo
  have hown : u.hoopFrame f.slot1 = { s.hoopFrame f.slot1 with role := .marked, src := f.src } := by
    rw [hu, State.onHoop_hoopFrame, if_pos rfl, State.onHoop_hoopFrame, if_neg (by simp)]
  have hother : u.hoopFrame (!f.slot1) = { s.hoopFrame (!f.slot1) with role := .free } := by
    rw [hu, State.onHoop_hoopFrame, if_neg (by simp), State.onHoop_hoopFrame, if_pos rfl]
  have hkept : u.mem.cells = s.mem.cells ∧ u.hl = s.hl := by rw [hu]; exact ⟨by simp, by simp⟩
  rw [State.hoopFrame_congr h0 h1, State.hoopFrame_congr h0 h1, hown, hother, hcells, hhl, hkept.1, hkept.2]
  exact ⟨rfl, rfl, rfl, rfl, rfl⟩

/-- A frame that passes and is not frozen is marked (R222, R223). -/
theorem State.framePasses_marks {s : State} {f : InputFrame} (hfrozen : s.frozen = false) :
    ((s.framePasses f).hoopFrame f.slot1).role = .marked ∧ ((s.framePasses f).hoopFrame f.slot1).src = f.src ∧
      ((s.framePasses f).hoopFrame (!f.slot1)).role = .free ∧ (s.framePasses f).mem.cells = s.mem.cells ∧
      (s.framePasses f).hl = { s.hl with markShown := f.use == .live && f.started } := by
  obtain ⟨u, hgo, hcells, hhl⟩ : ∃ u : State, s.framePasses f = u.promote f ∧ u.mem.cells = s.mem.cells ∧ u.hl = s.hl := by
    unfold State.framePasses
    dsimp only
    rw [if_neg (by simp [hfrozen])]
    refine ⟨_, rfl, ?_, ?_⟩
    · simp
    · simp
  obtain ⟨hrole, hsrc, hfree, hkept, hmarks⟩ := u.promote_marks f
  rw [hgo]
  exact ⟨hrole, hsrc, hfree, hkept.trans hcells, by rw [hmarks, hhl]⟩

/-- Every half has its FE, no row was bad and the frame is not protected: it is marked (R198, R222). -/
theorem State.frameWhole_marks {s : State} {f : InputFrame} (hframe : s.hl.frame = some f) (huse : f.use = .captured) (hbad : f.bad = [])
    (hprot : f.prot = false) (hfrozen : s.frozen = false) :
    s.frameWhole.hl.frame = none ∧ s.frameWhole.hl.lastSrc = f.src ∧ s.frameWhole.hl.lastBad = 0 ∧ (s.frameWhole.hoopFrame f.slot1).role = .marked ∧
      (s.frameWhole.hoopFrame f.slot1).src = f.src ∧ (s.frameWhole.hoopFrame (!f.slot1)).role = .free ∧ s.frameWhole.mem.cells = s.mem.cells := by
  have hfills : ¬(!f.fills) = true := by simp [InputFrame.fills, huse]
  obtain ⟨u, hgo, huf, hufr, hcells, hsrc, hlast⟩ : ∃ u : State, s.frameWhole = u.inputEnd none ∧ u.hl.frame = some f ∧ u.frozen = false ∧
      u.mem.cells = s.mem.cells ∧ u.hl.lastSrc = f.src ∧ u.hl.lastBad = 0 := by
    unfold State.frameWhole
    rw [hframe]
    dsimp only
    rw [if_neg hfills, if_pos (by simp [hbad])]
    refine ⟨_, rfl, ?_, ?_, ?_, rfl, ?_⟩
    · simpa using hframe
    · rw [← hfrozen]
      simp [State.frozen, State.timMode, State.param]
    · simp
    · rw [hbad]
      rfl
  obtain ⟨v, hend, hvcells, hvhl⟩ : ∃ v : State, u.inputEnd none = (v.framePasses f).clearGroups ∧ (v.frozen = false ∧ v.mem.cells = u.mem.cells) ∧
      v.hl = u.hl := by
    unfold State.inputEnd
    rw [huf]
    dsimp only
    rw [if_neg hfills, if_neg (show ¬(none : Option Nat).isSome = true by decide), huf]
    dsimp only [Option.getD_some]
    rw [if_neg (by simp [hprot]), if_neg (by simp [hbad])]
    refine ⟨_, rfl, ⟨?_, ?_⟩, ?_⟩
    · rw [← hufr]
      simp [State.frozen, State.timMode, State.param]
    · simp
    · simp
  obtain ⟨hrole, hmark, hfree, hkept, hhl⟩ := State.framePasses_marks (f := f) hvcells.1
  have hmem := (v.framePasses f).clearGroups_mem
  have h0 := congrArg Mem.h0 hmem
  have h1 := congrArg Mem.h1 hmem
  rw [hgo, hend, State.hoopFrame_congr h0 h1, State.hoopFrame_congr h0 h1, hmem]
  refine ⟨rfl, ?_, ?_, hrole, hmark, hfree, ?_⟩
  · rw [← hsrc, ← hvhl]
    exact (congrArg HostLink.lastSrc hhl :)
  · rw [← hlast, ← hvhl]
    exact (congrArg HostLink.lastBad hhl :)
  · rw [hkept, hvcells.2, hcells]

/-- A group's FE is noted (R191). -/
def State.feNoted (s : State) (i : Side) (p : List Byte) : State := s.onGroup i fun g => { g with fe := some p }

theorem State.fePacket_notes {s : State} {i : Side} {f : InputFrame} {p : List Byte} (hframe : s.hl.frame = some f) (huse : f.use = .captured)
    (hfs : (s.hl.group i).fs ≠ []) (hsrc : le4 p 0 = le4 (s.hl.group i).fs 0) (hrows : (s.hl.group i).lastRow.elim 0 (· + 1) = s.param 0x2802) :
    s.fePacket i p = if (s.feNoted i p).carriers.all fun k => ((s.feNoted i p).hl.group k).fe.isSome then (s.feNoted i p).frameWhole else s.feNoted i p := by
  have hopen : (if i = .left then s.openPending else s) = s := by
    split
    · exact State.openPending_open hframe
    · rfl
  have hfills : f.fills = true := by simp [InputFrame.fills, huse]
  unfold State.fePacket
  rw [hopen]
  dsimp only
  rw [hframe]
  dsimp only
  rw [if_neg (by simp [hfs]), if_neg (by simp [hsrc]), if_pos hfills, State.missUpTo_next hrows]
  rfl

theorem hlFe_ends {side : Side} {at_ : Nat} {sets : List (List LinkBlock)} {p : List Byte} {f : InputFrame} {s : State}
    (h : s.brings side sets 3 false p = true) (hframe : s.hl.frame = some f) (huse : f.use = .captured) (hbad : f.bad = []) (hprot : f.prot = false)
    (hfrozen : s.frozen = false) (hfs : (s.hl.group (s.stream side)).fs ≠ []) (hsrc : le4 p 0 = le4 (s.hl.group (s.stream side)).fs 0)
    (hrows : (s.hl.group (s.stream side)).lastRow.elim 0 (· + 1) = s.param 0x2802) :
    ((∀ k, k ∈ s.carriers → k ≠ s.stream side → (s.hl.group k).fe.isSome = true) →
      ∃ t, exec (.hlFe side at_ sets) s = .next t ∧ t.hl.frame = none ∧ t.hl.lastSrc = f.src ∧ t.hl.lastBad = 0 ∧
        (t.hoopFrame f.slot1).role = .marked ∧ (t.hoopFrame f.slot1).src = f.src ∧ (t.hoopFrame (!f.slot1)).role = .free ∧
        t.mem.cells = s.mem.cells) ∧
    (∀ k, k ∈ s.carriers → k ≠ s.stream side → (s.hl.group k).fe = none →
      ∃ t, exec (.hlFe side at_ sets) s = .next t ∧ t.hl.frame = some f ∧ (t.hl.group (s.stream side)).fe = some p ∧ t.mem = s.mem) := by
  obtain ⟨u, hu⟩ : ∃ u, u = (s.arrived side at_ sets).feNoted (s.stream side) p := ⟨_, rfl⟩
  obtain ⟨hmemU, hparU, hframeU, hrasU⟩ := (s.arrived side at_ sets).onGroup_rest (s.stream side) fun g => { g with fe := some p }
  have hgroup (k : Side) : u.hl.group k = if k = s.stream side then { s.hl.group k with fe := some p } else s.hl.group k := by
    rw [hu, State.feNoted, State.onGroup_group, State.arrived_group]
  have hparam (id : Nat) : u.param id = s.param id := by
    rw [hu, ← s.arrived_param side at_ sets id]
    exact State.param_congr (congrArg Params.active hparU) id
  have hwide : u.wide = s.wide := by simp only [State.wide, hparam]
  have hcarriers : u.carriers = s.carriers := by simp only [State.carriers, hwide]
  have hframe' : u.hl.frame = some f := by rw [hu, State.feNoted, hframeU, State.arrived_frame, hframe]
  have hmem : u.mem = s.mem := by rw [hu, State.feNoted, hmemU, State.arrived_mem]
  have hfrozen' : u.frozen = false := by
    have hras : u.ras = s.ras := by
      rw [hu, State.feNoted, hrasU]
      simp [State.arrived]
    rw [← hfrozen]
    simp only [State.frozen, State.timMode, hparam, hras]
  have hgo : exec (.hlFe side at_ sets) s =
      .next (if u.carriers.all fun k => (u.hl.group k).fe.isSome then u.frameWhole else u).settle := by
    have hin : s.packetIn side at_ sets = (s.arrived side at_ sets).fePacket (s.stream side) p := State.packetIn_brings at_ h
    rw [State.fePacket_notes (by rw [State.arrived_frame]; exact hframe) huse (by rw [State.arrived_group]; exact hfs)
      (by rw [State.arrived_group]; exact hsrc) (by rw [State.arrived_group, State.arrived_param]; exact hrows), ← hu] at hin
    exact congrArg done hin
  refine ⟨fun hall => ?_, fun k hk hne hnone => ?_⟩
  · have hdone : (u.carriers.all fun k => (u.hl.group k).fe.isSome) = true := by
      rw [hcarriers, List.all_eq_true]
      intro k hk
      rw [hgroup]
      by_cases hki : k = s.stream side
      · rw [if_pos hki]
        rfl
      · rw [if_neg hki]
        exact hall k hk hki
    obtain ⟨hnone, hlast, hlastBad, hrole, hmark, hfree, hcells⟩ := State.frameWhole_marks hframe' huse hbad hprot hfrozen'
    have hsettled := State.settle_mem u.frameWhole
    have h0 := congrArg Mem.h0 hsettled
    have h1 := congrArg Mem.h1 hsettled
    refine ⟨_, hgo.trans (by rw [if_pos hdone]), ?_⟩
    rw [State.settle_hl, State.hoopFrame_congr h0 h1, State.hoopFrame_congr h0 h1, hsettled, ← hmem]
    exact ⟨hnone, hlast, hlastBad, hrole, hmark, hfree, hcells⟩
  · have hwaits : ¬(u.carriers.all fun k => (u.hl.group k).fe.isSome) = true := by
      rw [hcarriers, List.all_eq_true]
      intro hall
      have := hall k hk
      rw [hgroup, if_neg hne, hnone] at this
      contradiction
    refine ⟨_, hgo.trans (by rw [if_neg hwaits]), ?_, ?_, ?_⟩
    · rw [State.settle_hl, hframe']
    · rw [State.settle_hl, hgroup, if_pos rfl]
    · rw [State.settle_mem, hmem]

/-- Settles O46 (log entry 55): a packet that is heard comes down to its FS, its row or its FE; a row's bytes are followed into the hoop burst by burst. -/
theorem framesAreReceived : Obligations.FramesAreReceived := by
  refine ⟨fun side o at_ sets p s h hframe ho hfs => ⟨fun hfmt hw hv henc => ⟨?_, ?_⟩, ?_, ?_⟩, ?_, ?_⟩
  · exact hlFs_opens h hframe ho hfs hfmt hw hv henc
  · exact hlFs_waits h hframe ho hfs hfmt hw hv henc
  · exact hlFs_rejectsFormat h hframe hfs
  · exact hlFs_rejectsOther h hframe ho hfs
  · intro side at_ r first sets p f s h hframe huse hfs hfe hcrc hrow hr hnext hfits hmem hwf i x0 n bitsN data c base
    exact hlRow_stores h hframe huse hfs hfe hcrc hrow hr hnext hfits hmem hwf
  · intro side at_ sets p f s h hframe huse hbad hprot hfrozen hfs hsrc hrows
    exact hlFe_ends h hframe huse hbad hprot hfrozen hfs hsrc hrows

end Sys2Proof.Machine
end

section
/-! CLAIM O47. The other packets of the Vorul link and the back-channel. -/

namespace Sys2Proof.Machine

theorem packet_done {u : State} {o : Out} (h : o = done u) : ∃ q, o = .next { u with pwr := q } := by
  obtain ⟨q, hq⟩ := done_eq u
  exact ⟨q, h.trans hq⟩

/-! ## SURF -/

theorem hlSurf_runs {side : Side} {at_ : Nat} {enc : Bool} {sets : List (List LinkBlock)} {p : List Byte} {s : State}
    (h : s.brings side sets 5 enc p = true) : exec (.hlSurf side at_ sets) s = done ((s.arrived side at_ sets).surfPacket (s.stream side) enc p) :=
  congrArg done (State.packetIn_brings at_ h)

theorem State.surfPacket_corrupt {s : State} (i : Side) (enc : Bool) {p : List Byte}
    (h : crc32c (p.take (p.length - 4)) ≠ le4 p (p.length - 4)) : s.surfPacket i enc p = s.count 588 1 := if_pos h

/-- A group's session, where its newest FS has one (R218). -/
def State.keyed (s : State) (i : Side) : Bool := (s.hl.group i).lastFs.any fun src => (s.sessionFor src).isSome

/-- Why a SURF packet whose CRC passes is refused (R193, R218, R220). -/
def State.surfRefused (s : State) (i : Side) (enc : Bool) (p : List Byte) : Prop :=
  s.param 0x2405 = 0 ∨ le4 p 0 % 16 ≠ 0 ∨ le4 p 4 = 0 ∨ p.length < le4 p 4 + 20 ∨ le4 p 0 < 0x44000000 ∨ 0x84000000 < le4 p 0 + le4 p 4 ∨
    (s.sec.linkEnc = true ∧ enc = false) ∨ (enc = true ∧ s.keyed i = false)

/-- The data of a SURF packet as it is written (R193, R218). -/
def State.surfData (s : State) (i : Side) (enc : Bool) (p : List Byte) : List Byte :=
  let src := (s.hl.group i).lastFs.getD 0
  if enc then cipherXor (s.rowKey src) src.toNat 2 0 0 (le4 p 0 / 16) (slice p 16 (le4 p 4)) else slice p 16 (le4 p 4)

theorem State.surfPacket_refused {s : State} {i : Side} {enc : Bool} {p : List Byte}
    (hcrc : crc32c (p.take (p.length - 4)) = le4 p (p.length - 4)) (h : s.surfRefused i enc p) : s.surfPacket i enc p = s.count 587 1 := by
  unfold State.surfPacket
  dsimp only
  rw [if_neg (not_not_intro hcrc), if_pos]
  simp only [State.surfRefused, State.keyed] at h
  simpa [or_assoc] using h

theorem State.surfPacket_writes {s : State} {i : Side} {enc : Bool} {p : List Byte}
    (hcrc : crc32c (p.take (p.length - 4)) = le4 p (p.length - 4)) (h : ¬s.surfRefused i enc p) (hmem : s.memLost = false) :
    s.surfPacket i enc p = s.poolWrite false (le4 p 0) (s.surfData i enc p) := by
  unfold State.surfPacket
  dsimp only
  rw [if_neg (not_not_intro hcrc), if_neg, if_neg (by simp [hmem])]
  · rfl
  · simp only [State.surfRefused, State.keyed] at h
    simpa [or_assoc] using h

theorem cipherXor_length (key : List Byte) (src kind half row j0 : Nat) (bs : List Byte) :
    (cipherXor key src kind half row j0 bs).length = bs.length := by
  have hks : ((List.range ((bs.length + 15) / 16)).flatMap fun k =>
      slice (Config.aes128 key (counterBlock src kind half row (j0 + k))) 0 16).length = 16 * ((bs.length + 15) / 16) := by
    simp [List.length_flatMap, slice_length, List.map_const', List.sum_replicate_nat, Nat.mul_comm]
  unfold cipherXor
  dsimp only
  rw [List.length_zipWith, hks]
  omega

theorem State.surfData_length (s : State) (i : Side) (enc : Bool) (p : List Byte) : (s.surfData i enc p).length = le4 p 4 := by
  unfold State.surfData
  dsimp only
  split
  · rw [cipherXor_length, slice_length]
  · rw [slice_length]

theorem State.arrived_keyed (s : State) (side : Side) (at_ : Nat) (sets : List (List LinkBlock)) (i : Side) :
    (s.arrived side at_ sets).keyed i = s.keyed i := by
  simp only [State.keyed, State.sessionFor, State.arrived_group, State.arrived_sec]

theorem State.arrived_surfRefused (s : State) (side : Side) (at_ : Nat) (sets : List (List LinkBlock)) (i : Side) (enc : Bool) (p : List Byte) :
    (s.arrived side at_ sets).surfRefused i enc p ↔ s.surfRefused i enc p := by
  simp only [State.surfRefused, State.arrived_keyed, State.arrived_param, State.arrived_sec]

theorem State.arrived_surfData (s : State) (side : Side) (at_ : Nat) (sets : List (List LinkBlock)) (i : Side) (enc : Bool) (p : List Byte) :
    (s.arrived side at_ sets).surfData i enc p = s.surfData i enc p := by
  simp only [State.surfData, State.rowKey, State.sessionFor, State.arrived_group, State.arrived_sec]

theorem State.arrived_memLost (s : State) (side : Side) (at_ : Nat) (sets : List (List LinkBlock)) : (s.arrived side at_ sets).memLost = s.memLost :=
  s.elapse_domFailed at_ dMem

/-- A SURF packet that nothing refuses lies in the surface pool at its address and nowhere else (R193, R218). -/
theorem hlSurf_writes {side : Side} {at_ : Nat} {enc : Bool} {sets : List (List LinkBlock)} {p : List Byte} {s : State}
    (h : s.brings side sets 5 enc p = true) (hcrc : crc32c (p.take (p.length - 4)) = le4 p (p.length - 4))
    (hok : ¬s.surfRefused (s.stream side) enc p) (hmem : s.memLost = false) (hwf : Memory.wf s = true) :
    ∃ t, exec (.hlSurf side at_ sets) s = .next t ∧ t.ramBytes (le4 p 0) (le4 p 4) = s.surfData (s.stream side) enc p ∧
      t.hl = (s.arrived side at_ sets).hl ∧ ∀ b, b < le4 p 0 ∨ le4 p 0 + le4 p 4 ≤ b → t.ram b = s.ram b := by
  have hwrite := State.surfPacket_writes (s := s.arrived side at_ sets) hcrc (by rw [State.arrived_surfRefused]; exact hok)
    (by rw [State.arrived_memLost]; exact hmem)
  rw [State.arrived_surfData] at hwrite
  have hlen := s.surfData_length (s.stream side) enc p
  generalize s.surfData (s.stream side) enc p = data at hwrite hlen ⊢
  have harrived : (s.arrived side at_ sets).mem = s.mem := s.arrived_mem side at_ sets
  have hram : ((s.arrived side at_ sets).poolWrite false (le4 p 0) data).settle.ram = (s.ramWrite (le4 p 0) data).ram := by
    rw [State.ram_congr (State.settle_mem _), State.poolWrite_ram]
    exact State.ramWrite_ram_congr (by rw [harrived]) (by rw [harrived]) _ _
  refine ⟨_, (hlSurf_runs h).trans (by rw [hwrite]; rfl), ?_, ?_, fun b hb => ?_⟩
  · rw [State.ramBytes, hram, ← State.ramBytes, ← hlen]
    exact State.ramWrite_ramBytes hwf _ _
  · rw [State.settle_hl]
    simp
  · rw [hram, State.ramWrite_ram hwf, hlen, if_neg (by omega)]

theorem hlSurf_refused {side : Side} {at_ : Nat} {enc : Bool} {sets : List (List LinkBlock)} {p : List Byte} {s : State}
    (h : s.brings side sets 5 enc p = true) (hcrc : crc32c (p.take (p.length - 4)) = le4 p (p.length - 4))
    (hno : s.surfRefused (s.stream side) enc p) : ∃ q, exec (.hlSurf side at_ sets) s = .next { (s.arrived side at_ sets).count 587 1 with pwr := q } :=
  packet_done ((hlSurf_runs h).trans (by rw [State.surfPacket_refused hcrc (by rw [State.arrived_surfRefused]; exact hno)]))

theorem hlSurf_corrupt {side : Side} {at_ : Nat} {enc : Bool} {sets : List (List LinkBlock)} {p : List Byte} {s : State}
    (h : s.brings side sets 5 enc p = true) (hcrc : crc32c (p.take (p.length - 4)) ≠ le4 p (p.length - 4)) :
    ∃ q, exec (.hlSurf side at_ sets) s = .next { (s.arrived side at_ sets).count 588 1 with pwr := q } :=
  packet_done ((hlSurf_runs h).trans (by rw [State.surfPacket_corrupt _ _ hcrc]))

/-! ## SLEEP, KEEP and what is skipped -/

theorem hlSleep_keeps {side : Side} {at_ : Nat} {sets : List (List LinkBlock)} {p : List Byte} {s : State} (h : s.brings side sets 6 false p = true)
    (hframe : s.hl.frame = none) (hfs : s.hl.a.fs = []) :
    ∃ q, exec (.hlSleep side ⟨at_, sets⟩) s = .next { s.arrived side at_ sets with
      hl := { (s.arrived side at_ sets).hl with sleepIdle := some (Word.of (le4 p 0)), sleepKeep := (byteAt p 4).toNat.testBit 0 }, pwr := q } := by
  have hfs' : (s.arrived side at_ sets).hl.a.fs = [] := (congrArg LaneGroup.fs (s.arrived_group side at_ sets .left)).trans hfs
  have hframe' : (s.arrived side at_ sets).hl.frame = none := (s.arrived_frame side at_ sets).trans hframe
  have hopen : (s.arrived side at_ sets).openPending = s.arrived side at_ sets := if_pos (by simp [hfs'])
  have hin : s.packetIn side at_ sets = (s.arrived side at_ sets).sleepPacket (s.stream side) p := State.packetIn_brings at_ h
  have hgo : exec (.hlSleep side ⟨at_, sets⟩) s = done ((s.arrived side at_ sets).sleepPacket (s.stream side) p) := congrArg done hin
  unfold State.sleepPacket at hgo
  rw [hopen] at hgo
  dsimp only at hgo
  rw [if_neg (by simp [hframe'])] at hgo
  exact packet_done hgo

theorem hlKeep_nothing {side : Side} {at_ : Nat} {sets : List (List LinkBlock)} {p : List Byte} {s : State} (h : s.brings side sets 7 false p = true) :
    ∃ q, exec (.hlKeep side ⟨at_, sets⟩) s = .next { s.arrived side at_ sets with pwr := q } :=
  packet_done (congrArg done (State.packetIn_brings at_ h))

theorem badHeader_discards {side : Side} {at_ : Nat} {sets : List (List LinkBlock)} {s : State} (h : s.hears side sets .badHeader = true) :
    ∃ t, exec (.packetHeaderCrcFail (side, ⟨at_, sets⟩)) s = .next t ∧ t.receives (s.stream side) = false ∧
      (t.hl.group (s.stream side)).st = .active ∧ t.hl.frame = s.hl.frame := by
  have hactive : (s.hl.group (s.stream side)).st = .active := by
    simp only [State.hears, State.receives, Bool.and_eq_true, beq_iff_eq] at h
    exact h.1.1.1
  have hgroup : ((s.arrived side at_ sets).headerLost (s.stream side)).settle.hl.group (s.stream side) =
      { s.hl.group (s.stream side) with skipToSof := true } := by
    rw [State.settle_hl, State.headerLost, State.count_hl, State.onGroup_group, if_pos rfl, State.arrived_group]
  refine ⟨_, congrArg done (State.packetIn_heard at_ h), ?_, ?_, ?_⟩
  · have hno (u : State) (i : Side) (hskip : (u.hl.group i).skipToSof = true) : u.receives i = false := by simp [State.receives, hskip]
    exact hno _ _ (congrArg LaneGroup.skipToSof hgroup)
  · exact (congrArg LaneGroup.st hgroup).trans hactive
  · rw [State.settle_hl]
    simp only [State.heard, State.headerLost, State.count_hl]
    exact (State.onGroup_rest _ _ _).2.2.1.trans (s.arrived_frame side at_ sets)

theorem unknown_counts {side : Side} {at_ : Nat} {sets : List (List LinkBlock)} {s : State} (h : s.hears side sets .unknown = true) :
    ∃ q, exec (.hlUnknownPkt (side, ⟨at_, sets⟩)) s = .next { (s.arrived side at_ sets).count 578 1 with pwr := q } :=
  packet_done (congrArg done (State.packetIn_heard at_ h))

/-- A group that does not receive hears no packet (R179, R185). -/
theorem packets_unheard {side : Side} {at_ : Nat} {sets : List (List LinkBlock)} {s : State} (h : s.receives (s.stream side) = false)
    (first : List LinkBlock) (c : Instr) (hc : c ∈ [Instr.hlFs side at_ sets, .hlRow side at_ first sets, .hlFe side at_ sets, .hlSurf side at_ sets,
      .hlSleep side ⟨at_, sets⟩, .hlKeep side ⟨at_, sets⟩, .ctlPacket side ⟨at_, sets⟩, .hello side ⟨at_, sets⟩, .finish side ⟨at_, sets⟩,
      .packetHeaderCrcFail (side, ⟨at_, sets⟩), .hlUnknownPkt (side, ⟨at_, sets⟩)]) : ∃ q, exec c s = .next { s with pwr := q } := by
  have hnothing (bs : List (List LinkBlock)) : done (s.packetIn side at_ bs) = done s := congrArg done (if_pos (by simp [h]))
  refine packet_done ?_
  simp only [List.mem_cons, List.not_mem_nil, or_false] at hc
  rcases hc with rfl | rfl | rfl | rfl | rfl | rfl | rfl | rfl | rfl | rfl | rfl
  case inr.inl => exact hnothing (first :: sets)
  all_goals exact hnothing sets

/-! ## The back-channel -/

theorem statusTimer_sends {s : State} (hdriven : s.bcDriven = true) (hdue : s.hl.a.st ≠ .active ∨ s.hl.statusDue = true) :
    exec .statusTimer s = .next { s with hl := { s.hl with
      statusDue := false, tx := bcInsert { kind := 1, payload := s.statusMsg, last := none } s.hl.tx } } := by
  have hidle : s.hl.a.st ≠ .idle := by
    simp only [State.bcDriven, Bool.and_eq_true, bne_iff_ne] at hdriven
    exact hdriven.2
  have hready : (s.hl.a.st.trains || s.hl.b.st.trains || s.hl.statusDue) = true := by
    rcases hdue with hst | hst
    · simp [LinkState.trains_of_ne hidle hst]
    · simp [hst]
  have hgo : exec .statusTimer s = .next (State.bcSend { s with hl := { s.hl with statusDue := false } } { kind := 1, payload := s.statusMsg, last := none }) :=
    if_neg (by simp [hdriven, hready])
  have hsend : State.bcSend { s with hl := { s.hl with statusDue := false } } { kind := 1, payload := s.statusMsg, last := none } =
      { s with hl := { s.hl with statusDue := false, tx := bcInsert { kind := 1, payload := s.statusMsg, last := none } s.hl.tx } } := if_pos hdriven
  rw [hgo, hsend]

theorem State.release_mb (s : State) (i : Mb) : (s.release i).mb i =
    if (s.mb i).st = .done then { s.mb i with st := .idle, overrun := false } else s.mb i := by
  unfold State.release
  split
  · rw [State.onMb_get]
  · rfl

theorem State.release_other (s : State) {i j : Mb} (h : j ≠ i) : (s.release i).mb j = s.mb j := by
  unfold State.release
  split
  · exact State.onMb_other _ h
  · rfl

theorem backChannelSend_sends {m : BcMsg} {rest : List BcMsg} {s : State} (htx : s.hl.tx = m :: rest) (hdriven : s.bcDriven = true) :
    let w := transmit (frameChars m.kind m.payload) s.now s.hl.bcAt s.hl.bcMinus
    ∃ t, exec .backChannelSend s = .next t ∧ t.hl = { s.hl with tx := rest, bcWire := w.1, bcMinus := w.2.1, bcAt := w.2.2 } ∧
      (∀ i, m.last = some i → t.mb i = if (s.mb i).st = .done then { s.mb i with st := .idle, overrun := false } else s.mb i) ∧
      (∀ i, m.last ≠ some i → t.mb i = s.mb i) := by
  intro w
  obtain ⟨u, hu, hhl, hbox⟩ : ∃ u, u = State.bcTransmit { s with hl := { s.hl with tx := rest } } m ∧
      u.hl = { s.hl with tx := rest, bcWire := w.1, bcMinus := w.2.1, bcAt := w.2.2 } ∧ ∀ i, u.mb i = s.mb i := ⟨_, rfl, rfl, fun _ => rfl⟩
  have hexec : exec .backChannelSend s = execBackChannelSend s := rfl
  unfold execBackChannelSend at hexec
  rw [htx] at hexec
  dsimp only at hexec
  rw [if_neg (by simp [hdriven]), ← hu] at hexec
  refine ⟨_, hexec, ?_, fun i hi => ?_, fun i hi => ?_⟩
  · rw [State.settle_hl]
    cases m.last
    case none => exact hhl
    case some i => exact (u.release_hl i).trans hhl
  · rw [State.settle_mb, hi]
    simp only [Option.elim_some]
    rw [State.release_mb, hbox]
  · rw [State.settle_mb]
    cases hlast : m.last
    case none => exact hbox i
    case some j =>
      have hne : i ≠ j := fun e => hi (by rw [hlast, e])
      exact (u.release_other hne).trans (hbox i)

/-- Settles O47 (log entry 79): a packet that is heard comes down to its own branch; a surface packet's bytes are followed into the pool. -/
theorem otherPacketsAct : Obligations.OtherPacketsAct := by
  refine ⟨?surf, fun side at_ sets p s h hframe hfs => hlSleep_keeps h hframe hfs, fun side at_ sets p s h => hlKeep_nothing h,
    fun side at_ sets s => ⟨badHeader_discards, unknown_counts, packets_unheard⟩, fun s hdriven hdue => statusTimer_sends hdriven hdue,
    fun m rest s htx hdriven => backChannelSend_sends htx hdriven⟩
  intro side at_ enc sets p s h i a n
  refine ⟨hlSurf_corrupt h, fun hcrc => ⟨fun hen hmem halign hn hlen hlow hhigh hwf => ⟨fun henc hlink => ?_, fun src e henc hfs hses => ?_⟩, fun hno => ?_⟩⟩
  · have hok : ¬s.surfRefused i enc p := by
      rintro (hno | hno | hno | hno | hno | hno | ⟨hno, -⟩ | ⟨hno, -⟩)
      · exact hen hno
      · exact hno halign
      · omega
      · omega
      · omega
      · omega
      · rw [hlink] at hno
        contradiction
      · rw [henc] at hno
        contradiction
    have hdata : s.surfData i enc p = slice p 16 n := if_neg (by simp [henc])
    rw [← hdata]
    exact hlSurf_writes h hcrc hok hmem hwf
  · have hok : ¬s.surfRefused i enc p := by
      rintro (hno | hno | hno | hno | hno | hno | ⟨-, hno⟩ | ⟨-, hno⟩)
      · exact hen hno
      · exact hno halign
      · omega
      · omega
      · omega
      · omega
      · rw [henc] at hno
        contradiction
      · simp [State.keyed, hfs, hses] at hno
    have hdata : s.surfData i enc p = cipherXor e.keys.row src.toNat 2 0 0 (a / 16) (slice p 16 n) := by
      simp only [State.surfData, henc, hfs, State.rowKey, Option.getD_some, hses, Option.elim_some]
      rfl
    rw [← hdata]
    exact hlSurf_writes h hcrc hok hmem hwf
  · refine hlSurf_refused h hcrc ?_
    rcases hno with hno | hno | hno | hno | hno | ⟨henc, hno⟩
    · exact .inl hno
    · exact .inr (.inl hno)
    · exact .inr (.inr (.inr (.inr (.inl hno))))
    · exact .inr (.inr (.inr (.inr (.inr (.inl hno)))))
    · exact .inr (.inr (.inr (.inr (.inr (.inr (.inl hno))))))
    · refine .inr (.inr (.inr (.inr (.inr (.inr (.inr ⟨henc, ?_⟩))))))
      unfold State.keyed
      cases hfs : (s.hl.group i).lastFs
      case none => rfl
      case some src => simp [hno src (by simpa using hfs)]

end Sys2Proof.Machine
end

section
/-! SUPPORT. The frame being scanned: what a frame start settles and the operations around it leave alone. -/

namespace Sys2Proof.Machine

/-- The frame being scanned, the elastic FIFO levels sampled with it, and the instant. -/
structure Scan where
  running : Bool
  frame : BitVec 32
  start : Nat
  kind : FrameKind
  rowsStarted : Nat
  inBlank : Bool
  aborted : Bool
  fifoA : Nat
  fifoB : Nat
  now : Nat

/-- See `Scan`. -/
def State.scan (s : State) : Scan :=
  { running := s.ras.running, frame := s.ras.frame, start := s.ras.start, kind := s.ras.kind, rowsStarted := s.ras.rowsStarted,
    inBlank := s.ras.inBlank, aborted := s.ras.aborted, fifoA := s.hl.fifoA, fifoB := s.hl.fifoB, now := s.now }

theorem State.scan_of {s t : State} (hras : t.ras = s.ras) (hhl : t.hl = s.hl) (hnow : t.now = s.now) : t.scan = s.scan := by
  simp only [State.scan, hras, hhl, hnow]

/-! ## Operations that leave the raster and the link alone -/

@[simp] theorem State.event_scan (s : State) (code : Nat) (sev : Severity) (logged : Bool) (source data : Nat) :
    (s.event code sev logged source data).scan = s.scan := State.scan_of (by simp) (by simp) (by simp)

@[simp] theorem State.count_scan (s : State) (k n : Nat) : (s.count k n).scan = s.scan := State.scan_of (by simp) (by simp) (by simp)

@[simp] theorem State.endJob_scan (s : State) (code st : Nat) : (s.endJob code st).scan = s.scan := State.scan_of (by simp) (by simp) (by simp)

@[simp] theorem State.settle_scan (s : State) : s.settle.scan = s.scan := State.scan_of (by simp) (by simp) (by simp)

@[simp] theorem State.onHoop_scan (s : State) (b : Bool) (f : HoopFrame → HoopFrame) : (s.onHoop b f).scan = s.scan :=
  State.scan_of (by simp) (by simp) (by simp)

@[simp] theorem State.pairEvent_scan (s : State) (kind row : Nat) : (s.pairEvent kind row).scan = s.scan :=
  State.scan_of (by simp) (by simp) (by simp)

/-! ## Modes and the ladder -/

@[simp] theorem State.setActive_scan (s : State) (m : Mode) (cause : Nat) : (s.setActive m cause).scan = s.scan := by
  unfold State.setActive
  dsimp only
  split
  · rfl
  · rw [State.event_scan]
    rfl

@[simp] theorem State.ladderChange_scan (s : State) : s.ladderChange.scan = s.scan := rfl

@[simp] theorem State.takeHoldPeriod_scan (s : State) : s.takeHoldPeriod.scan = s.scan := by
  unfold State.takeHoldPeriod
  split
  rename_i heq
  split at heq
  · cases heq
    rfl
  · cases heq
    rfl

@[simp] theorem State.sourceIdle_scan (s : State) (why : HeldChange) (short : Bool) : (s.sourceIdle why short).scan = s.scan := by
  unfold State.sourceIdle
  dsimp only
  split
  · rfl
  split
  · rfl
  split
  · rfl
  split
  · split
    · rfl
    · rfl
  · rw [State.setActive_scan]
    exact s.takeHoldPeriod_scan

@[simp] theorem State.dropTransition_scan (s : State) : s.dropTransition.scan = s.scan := by
  unfold State.dropTransition
  split
  · rfl
  dsimp only
  split
  · split
    · rw [State.endJob_scan]
      rfl
    · rfl
  · split
    · rw [State.endJob_scan]
      rfl
    · rfl

@[simp] theorem State.goIsland_scan (s : State) : s.goIsland.scan = s.scan := by
  unfold State.goIsland
  dsimp only
  rw [State.setActive_scan, State.event_scan]
  rfl

@[simp] theorem State.heldFrame_scan (s : State) : s.heldFrame.scan = s.scan := by
  unfold State.heldFrame
  split
  · rfl
  · split
    · exact s.goIsland_scan
    · rfl
  · rfl
  · rfl
  · rw [State.sourceIdle_scan]
    rfl

@[simp] theorem State.transitionFrame_scan (s : State) : s.transitionFrame.scan = s.scan := by
  unfold State.transitionFrame
  split
  · exact s.heldFrame_scan
  split
  · split
    · rfl
    · rfl
  · rfl
  · dsimp only
    rw [State.heldFrame_scan]
    split
    · rw [State.endJob_scan, State.count_scan, State.setActive_scan]
      rfl
    · rw [State.count_scan, State.setActive_scan]
      rfl

@[simp] theorem State.t4Check_scan (s : State) : s.t4Check.scan = s.scan := by
  unfold State.t4Check
  dsimp only
  split
  · rfl
  split
  · split
    · rfl
    · rfl
  · split
    · rfl
    · rfl
  · rfl

/-! ## The input frame and the link -/

@[simp] theorem State.onFrame_scan (s : State) (f : InputFrame → InputFrame) : (s.onFrame f).scan = s.scan := rfl

@[simp] theorem State.captureInput_scan (s : State) : s.captureInput.scan = s.scan := rfl

@[simp] theorem State.clearGroups_scan (s : State) : s.clearGroups.scan = s.scan := rfl

theorem State.repeatFrom_scan (s : State) (n : Option Nat) : (({ s with ras := { s.ras with repeatFrom := n } } : State)).scan = s.scan := rfl

@[simp] theorem State.badRow_scan (s : State) (r : Nat) : (s.badRow r).scan = s.scan := by
  unfold State.badRow
  split
  · rfl
  split
  · rfl
  dsimp only
  split
  · rfl
  split
  · rw [State.onHoop_scan, State.repeatFrom_scan, State.pairEvent_scan, State.event_scan, State.count_scan, State.onFrame_scan]
  · rw [State.pairEvent_scan, State.event_scan, State.count_scan, State.onFrame_scan]

@[simp] theorem State.missRow_scan (s : State) (f : InputFrame) (i : Side) (r : Nat) : (s.missRow f i r).scan = s.scan := by
  have hconceal (t : State) : (t.concealInHoop f i r).scan = t.scan := State.scan_of (by simp) (by simp) (by simp)
  rw [State.missRow, State.badRow_scan, hconceal, State.count_scan]

@[simp] theorem State.missUpTo_scan (s : State) (f : InputFrame) (i : Side) (r : Nat) : (s.missUpTo f i r).scan = s.scan := by
  refine List.foldlRecOn (motive := fun t : State => t.scan = s.scan) _ _ rfl fun t ht k _ => ?_
  split
  · rw [State.missRow_scan, ht]
  · exact ht

@[simp] theorem State.promote_scan (s : State) (f : InputFrame) : (s.promote f).scan = s.scan := by
  have hmarks : ((s.onHoop (!f.slot1) fun h => { h with role := .free }).onHoop f.slot1 fun h => { h with role := .marked, src := f.src }).scan = s.scan := by
    rw [State.onHoop_scan, State.onHoop_scan]
  rw [← hmarks]
  unfold State.promote
  dsimp only
  split
  · rfl
  · rfl

@[simp] theorem State.framePasses_scan (s : State) (f : InputFrame) : (s.framePasses f).scan = s.scan := by
  unfold State.framePasses
  dsimp only
  split
  · rw [State.onHoop_scan, State.count_scan]
    rfl
  · rw [State.promote_scan, State.count_scan]
    rfl

@[simp] theorem State.frameFails_scan (s : State) (f : InputFrame) (cause : Nat) : (s.frameFails f cause).scan = s.scan := by
  have hspace (t : State) (w : Word) : (t.endSpace w).scan = t.scan := State.scan_of (by simp) (by simp) (by simp)
  have hends (t : State) (c : Prop) [Decidable c] : (if c then t.endSessions 1 .now else t).scan = t.scan := by
    split
    · exact State.scan_of (by simp) (by simp) (by simp)
    · rfl
  have hrepeat (t : State) (c : Prop) [Decidable c] (n : Option Nat) :
      (if c then { t with ras := { t.ras with repeatFrom := n } } else t).scan = t.scan := by
    split
    · rfl
    · rfl
  unfold State.frameFails
  dsimp only
  rw [hends, hspace, hrepeat, State.pairEvent_scan, State.event_scan, State.count_scan]
  rfl

@[simp] theorem State.inputEnd_scan (s : State) (cut : Option Nat) : (s.inputEnd cut).scan = s.scan := by
  have hmiss (c : Prop) [Decidable c] (f : InputFrame) (v : Nat) :
      (if c then s.carriers.foldl (fun t i => t.missUpTo f i v) s else s).scan = s.scan := by
    split
    · exact List.foldlRecOn (motive := fun t : State => t.scan = s.scan) _ _ rfl fun t ht i _ => (t.missUpTo_scan f i v).trans ht
    · rfl
  have hdrop (t : State) (f : InputFrame) : (t.frameDropped f).scan = t.scan := t.onHoop_scan _ _
  unfold State.inputEnd
  split
  · rfl
  next f _ =>
    split
    · rfl
    dsimp only
    have hs := hmiss (cut.isSome = true) f (s.param 0x2802)
    generalize (if cut.isSome = true then s.carriers.foldl (fun t i => t.missUpTo f i (s.param 0x2802)) s else s) = u at hs ⊢
    rw [State.clearGroups_scan, ← hs]
    split
    · split
      · rw [State.framePasses_scan, State.count_scan, State.count_scan]
      · rw [State.frameFails_scan, hdrop, State.count_scan, State.count_scan]
    split
    · rw [hdrop, State.count_scan, State.count_scan]
    · rw [State.framePasses_scan, State.count_scan, State.count_scan]

@[simp] theorem State.enterLink_scan (s : State) (p : Side → Bool) (st : LinkState) : (s.enterLink p st).scan = s.scan := by
  unfold State.enterLink
  dsimp only
  split
  · rfl
  · rfl

@[simp] theorem State.newAttempt_scan (s : State) (p : Side → Bool) (st : LinkState) : (s.newAttempt p st).scan = s.scan :=
  s.enterLink_scan p st

@[simp] theorem State.startSeries_scan (s : State) (p : Side → Bool) (st : LinkState) : (s.startSeries p st).scan = s.scan := by
  unfold State.startSeries
  rw [State.newAttempt_scan]
  rfl

@[simp] theorem State.bcLost_scan (s : State) : s.bcLost.scan = s.scan := by
  simp only [State.scan, State.bcLost_hl, State.bcLost_frame]

@[simp] theorem State.linkIdle_scan (s : State) : s.linkIdle.scan = s.scan := by
  unfold State.linkIdle
  dsimp only
  rw [State.bcLost_scan]
  exact s.enterLink_scan _ _

@[simp] theorem State.dropPartial_scan (s : State) : s.dropPartial.scan = s.scan := rfl

@[simp] theorem State.linkDown_scan (s : State) (cause : Nat) (next : LinkState) : (s.linkDown cause next).scan = s.scan := by
  have hdone (t : State) : (({ t with hl := { t.hl with sleepIdle := none } } : State)).scan = t.scan := rfl
  have hvote (t : State) : t.dropLinkVote.scan = t.scan := rfl
  unfold State.linkDown
  dsimp only
  split
  · rw [hvote, State.linkIdle_scan, hdone, State.clearGroups_scan, State.inputEnd_scan, State.dropPartial_scan, State.count_scan, State.count_scan,
      State.event_scan]
  · rw [State.startSeries_scan, hdone, State.clearGroups_scan, State.inputEnd_scan, State.dropPartial_scan, State.count_scan, State.count_scan,
      State.event_scan]

@[simp] theorem State.linkStop_scan (s : State) : s.linkStop.scan = s.scan := by
  unfold State.linkStop
  dsimp only
  rw [State.sourceIdle_scan]
  split
  · exact s.linkDown_scan _ _
  · exact s.linkIdle_scan

@[simp] theorem State.linkReset_scan (s : State) : s.linkReset.scan = s.scan := by
  unfold State.linkReset
  split
  · rfl
  split
  · exact s.linkDown_scan _ _
  split
  · rw [State.startSeries_scan, State.dropPartial_scan]
  · rfl

/-! ## Responses -/

@[simp] theorem State.bcSend_scan (s : State) (m : BcMsg) : (s.bcSend m).scan = s.scan := by
  unfold State.bcSend
  split
  · rfl
  · rfl

@[simp] theorem State.release_scan (s : State) (i : Mb) : (s.release i).scan = s.scan := State.scan_of (by simp) (by simp) (by simp)

@[simp] theorem State.answer_scan (s : State) (i : Mb) (bytes : List Byte) : (s.answer i bytes).scan = s.scan := by
  have hpeer (t : State) : t.peerDone.scan = t.scan := State.scan_of (by simp) (by simp) (by simp)
  have hsend (t : State) (n : Nat) (b : List Byte) : (t.peerSend n b).scan = t.scan := State.scan_of (by simp) (by simp) (by simp)
  have hirq (n : Nat) : (s.irq n).scan = s.scan := rfl
  unfold State.answer
  split
  · split
    · exact hpeer s
    split
    · exact hpeer s
    · rw [hpeer, hsend]
  · dsimp only
    split
    · split
      · split
        · rw [State.bcSend_scan, hirq]
        · rw [State.bcSend_scan, State.bcSend_scan, hirq]
      · rw [State.release_scan, hirq]
    · exact hirq _

@[simp] theorem State.onMb_scan (s : State) (i : Mb) (f : Mailbox → Mailbox) : (s.onMb i f).scan = s.scan := rfl

@[simp] theorem State.post_scan (s : State) (i : Mb) (st : Nat) (p : List Byte) : (s.post i st p).scan = s.scan := by
  unfold State.post State.postWith
  dsimp only
  split
  · rw [State.answer_scan, State.onMb_scan]
  · rw [State.answer_scan]
    rfl

@[simp] theorem State.answerHeld_scan (s : State) (i : Mb) (w : Wait) (st : Nat) (p : List Byte) : (s.answerHeld i w st p).scan = s.scan := by
  unfold State.answerHeld
  split
  · exact s.post_scan _ _ _
  · rfl

@[simp] theorem State.answerFunc_scan (s : State) (mb : Option Mb) (f : Func) (n : BitVec 32) : (s.answerFunc mb f n).scan = s.scan := by
  cases mb
  · rfl
  · exact s.answerHeld_scan _ _ _ _

/-! ## Functions -/

@[simp] theorem State.cutStarts_scan (s : State) : s.cutStarts.scan = s.scan := by
  unfold State.cutStarts
  refine List.foldlRecOn (motive := fun t : State => t.scan = s.scan) _ _ rfl fun t ht p _ => ?_
  cases p.mb
  · exact ht
  · exact (t.answerHeld_scan _ _ _ _).trans ht

@[simp] theorem State.liveStarts_scan (s : State) (n : BitVec 32) : (s.liveStarts n).scan = s.scan := by
  unfold State.liveStarts
  exact List.foldlRecOn (motive := fun t : State => t.scan = s.scan) _ _ rfl fun t ht p _ => (t.answerFunc_scan _ _ _).trans ht

@[simp] theorem State.funcClear_scan (s : State) (f : Func) : (s.funcClear f).scan = s.scan := by
  unfold State.funcClear
  split
  · rfl
  · rfl
  · exact s.linkReset_scan
  · exact State.scan_of (by simp) (by simp) (by simp)
  · rfl

@[simp] theorem State.funcResume_scan (s : State) (f : Func) : (s.funcResume f).scan = s.scan := by
  unfold State.funcResume
  dsimp only
  split
  · rfl
  · rfl
  · rfl

@[simp] theorem State.onFunc_scan (s : State) (i : Func) (g : FuncState → FuncState) : (s.onFunc i g).scan = s.scan := rfl

@[simp] theorem State.funcTake_scan (s : State) (p : FuncPend) (n : BitVec 32) : (s.funcTake p n).scan = s.scan := by
  have hsram (t : State) (c : Prop) [Decidable c] : (if c then t.sramWanted else t).scan = t.scan := by
    split
    · exact State.scan_of (by simp) (by simp) (by simp)
    · rfl
  have hlink (t : State) (c : Prop) [Decidable c] : (if c then t.cutStarts.linkStop else t).scan = t.scan := by
    split
    · rw [State.linkStop_scan, State.cutStarts_scan]
    · rfl
  have hanswer (t : State) (c : Prop) [Decidable c] : (if c then t.answerFunc p.mb p.func n else t).scan = t.scan := by
    split
    · exact t.answerFunc_scan _ _ _
    · rfl
  have hback (t : State) (c : Prop) [Decidable c] (f : Funcs) : (if c then t else { t with fn := f }).scan = t.scan := by
    split
    · rfl
    · rfl
  unfold State.funcTake
  split
  · dsimp only
    rw [State.answerFunc_scan, hlink, State.onFunc_scan]
  · dsimp only
    rw [State.answerFunc_scan, hsram, State.onFunc_scan]
  · dsimp only
    rw [hback, hanswer, State.funcClear_scan, State.onFunc_scan]
  · rw [State.answerFunc_scan, State.funcResume_scan]

@[simp] theorem State.funcFrame_scan (s : State) (n : BitVec 32) : (s.funcFrame n).scan = s.scan := by
  unfold State.funcFrame
  refine List.foldlRecOn (motive := fun t : State => t.scan = s.scan) _ _ ?_ fun t ht p _ => ?_
  · rfl
  · rw [State.funcTake_scan, ht]

@[simp] theorem State.eyeHoldFrame_scan (s : State) : s.eyeHoldFrame.scan = s.scan := by
  unfold State.eyeHoldFrame
  split
  · rfl
  dsimp only
  split
  · rfl
  · rw [State.funcTake_scan]
    rfl

/-! ## A stop of the panel while the raster runs -/

/-- Darkening lets the frame being scanned end early; it does not touch what it is (R402). -/
theorem State.darken_scan {s : State} (cause : Nat) (rest : Bool) (h : s.ras.running = true) : (s.darken cause rest).scan = s.scan := by
  have hpanel (t : State) (st : PanelState) (c : Nat) : (t.panelState st c).scan = t.scan := State.scan_of (by simp) (by simp) (by simp)
  have hon (t : State) (st : Nat) : (t.endPanelOn st).scan = t.scan := State.scan_of (by simp) (by simp) (by simp)
  have hbase : ((s.endPanelOn stBusy).dropTransition.panelState .darkening cause).scan = s.scan := by
    rw [hpanel, State.dropTransition_scan, hon]
  unfold State.darken
  dsimp only
  rw [if_neg]
  · split
    · exact hbase
    · exact hbase
  · have hrun : ((s.endPanelOn stBusy).dropTransition.panelState .darkening cause).ras.running = true := (congrArg Scan.running hbase).trans h
    exact (by rw [hrun]; decide : ¬(!((s.endPanelOn stBusy).dropTransition.panelState .darkening cause).ras.running) = true)

theorem State.idleSafeStop_scan {s : State} (h : s.ras.running = true) : s.idleSafeStop.scan = s.scan := by
  unfold State.idleSafeStop
  split
  next hstop =>
    have hpnl : (s.count 1028 1).pnl.st = .on := by
      simp only [Bool.and_eq_true, beq_iff_eq] at hstop
      simpa using hstop.1.2
    have hcut (t : State) : t.senseCut.scan = t.scan := State.scan_of (by simp) (by simp) (by simp)
    have hgo : (s.count 1028 1).panelStop 3 false = (s.count 1028 1).senseCut.darken 3 false := by
      unfold State.panelStop
      rw [hpnl]
    have hrun : (s.count 1028 1).senseCut.ras.running = true := by simpa using h
    rw [hgo, State.darken_scan 3 false hrun, hcut, State.count_scan]
  next => rfl

theorem State.linkGone_scan {s : State} (before : Bool) (h : s.ras.running = true) : (s.linkGone before).scan = s.scan := by
  unfold State.linkGone
  split
  · exact State.idleSafeStop_scan h
  · rfl

end Sys2Proof.Machine
end

section
/-! CLAIM O48. Every way a frame starts. -/

namespace Sys2Proof.Machine

/-! ## The stations of a frame start -/

theorem State.elapse_scan (s : State) (t : Nat) : (s.elapse t).scan = { s.scan with now := max s.now t } := by
  simp only [State.scan, State.elapse_frame, State.elapse_now]

theorem State.renumber_scan (s : State) (d : BitVec 32) : (s.renumber d).scan = s.scan := by
  unfold State.renumber
  split
  · rfl
  · rfl

theorem State.frameAdvance_scan (s : State) (num : BitVec 32) (rowTime : Nat) : (s.frameAdvance num rowTime).scan =
    { s.scan with frame := num, start := s.now, rowsStarted := 0, inBlank := false, aborted := false } := rfl

theorem State.absence_scan (s : State) (live : Bool) : (s.absence live).scan = s.scan := by
  unfold State.absence
  dsimp only
  split
  · rfl
  · rfl

theorem State.liveTimed_scan (s : State) : s.liveTimed.scan = s.scan := by
  have hmode (c : Prop) [Decidable c] (n : Nat) : (if c then s.setActive .source n else s).scan = s.scan := by
    split
    · exact s.setActive_scan _ _
    · rfl
  exact hmode _ _

/-- Whether the input frame is shown live (R223, R239, R256). -/
def State.goesLive (s : State) (want : FrameKind) : Bool :=
  want == .live && s.liveSlot.isSome && !s.ras.tagHold && !(!s.memLost && s.ras.transition.any fun t => t.phase == .inHold)

theorem State.frameKind_scan (s : State) (want : FrameKind) : (s.frameKind want).scan =
    { s.scan with kind := if s.goesLive want then .live else if want = .black then .black else .hoop } := by
  have htimed (c : Prop) [Decidable c] : (if c then s.liveTimed else s).scan = s.scan := by
    split
    · exact s.liveTimed_scan
    · rfl
  have hcapture (t : State) (c : Prop) [Decidable c] : (if c then t.captureInput else t).scan = t.scan := by
    split
    · rfl
    · rfl
  have hscanning (t : State) (c : Prop) [Decidable c] (b : Bool) (f : HoopFrame → HoopFrame) : (if c then t.onHoop b f else t).scan = t.scan := by
    split
    · exact t.onHoop_scan _ _
    · rfl
  have hkind (t : State) (r : Raster) (h : HostLink) (hr : r.running = t.ras.running ∧ r.frame = t.ras.frame ∧ r.start = t.ras.start ∧
      r.rowsStarted = t.ras.rowsStarted ∧ r.inBlank = t.ras.inBlank ∧ r.aborted = t.ras.aborted) (hh : h.fifoA = t.hl.fifoA ∧ h.fifoB = t.hl.fifoB) :
      (({ t with ras := r, hl := h } : State)).scan = { t.scan with kind := r.kind } := by
    obtain ⟨h1, h2, h3, h4, h5, h6⟩ := hr
    simp only [State.scan, h1, h2, h3, h4, h5, h6, hh.1, hh.2]
  unfold State.frameKind
  dsimp only
  split
  next hlive =>
    have hgoes : s.goesLive want = true := hlive
    generalize hu : State.absence _ true = u
    have hkept : u.scan = s.scan := by rw [← hu, State.absence_scan, State.onFrame_scan, htimed]
    rw [hscanning, State.liveStarts_scan, State.count_scan, if_pos hgoes, ← hkept]
    exact hkind u _ _ ⟨rfl, rfl, rfl, rfl, rfl, rfl⟩ ⟨rfl, rfl⟩
  next hlive =>
    have hgoes : ¬s.goesLive want = true := hlive
    have hback (t : State) (c : Prop) [Decidable c] (b : Bool) (f : HoopFrame → HoopFrame) : (if c then t else t.onHoop b f).scan = t.scan := by
      split
      · rfl
      · exact t.onHoop_scan _ _
    generalize hu : State.absence _ false = u
    have hkept : u.scan = s.scan := by rw [← hu, State.absence_scan, hcapture, htimed]
    rw [hback, if_neg hgoes, ← hkept]
    exact hkind u _ _ ⟨rfl, rfl, rfl, rfl, rfl, rfl⟩ ⟨rfl, rfl⟩

@[simp] theorem State.residenceStart_scan (s : State) : s.residenceStart.scan = s.scan := by
  have hframe (t : State) (a b c : Bool) : (t.residenceFrame a b c).scan = t.scan := State.scan_of (by simp) (by simp) (by simp)
  rw [State.residenceStart, hframe]
  rfl

theorem State.clipWatch_scan (s : State) : s.clipWatch.scan = s.scan := by
  unfold State.clipWatch
  dsimp only
  split
  · rfl
  split
  · rfl
  · rfl

@[simp] theorem State.clipFrame_scan (s : State) : s.clipFrame.scan = s.scan := by
  have hbegin (t : State) (c : Prop) [Decidable c] (n : Nat) : (if c then t.clipBegin n else t).scan = t.scan := by
    split
    · exact State.scan_of (by simp) (by simp) (by simp)
    · rfl
  have hstop (t : State) (c : ClipPlay) : (t.clipStop c).scan = t.scan := State.scan_of (by simp) (by simp) (by simp)
  have hevent (t : State) (c : Prop) [Decidable c] (a : Applique) (n m : Nat) : (if c then ({ t with apq := a }).clipEvent n m else t).scan = t.scan := by
    split
    · exact State.scan_of (by simp) (by simp) (by simp)
    · rfl
  have happly (t : State) (a : Applique) : (({ t with apq := a } : State)).scan = t.scan := rfl
  have hstart (t : State) (n : Nat) : (t.clipBegin n).scan = t.scan := State.scan_of (by simp) (by simp) (by simp)
  unfold State.clipFrame
  dsimp only
  rw [State.count_scan, happly, hevent, hbegin]
  split
  · rw [State.clipWatch_scan, happly]
  split
  · rw [hstop, State.clipWatch_scan, happly]
  split
  · rw [hstart, hstop, State.clipWatch_scan, happly]
  · rw [State.clipWatch_scan, happly]

@[simp] theorem State.senseFrame_scan (s : State) : s.senseFrame.scan = s.scan := by
  have hask (n : Nat) : ∃ b, s.askResults n = { s with bob := b } := ⟨_, rfl⟩
  unfold State.senseFrame
  split
  · rfl
  · obtain ⟨b, hb⟩ := hask s.prk.blank.rows.length
    rw [hb]
    rfl

@[simp] theorem State.modeFrame_scan (s : State) : s.modeFrame.scan = s.scan := by
  unfold State.modeFrame
  split
  · rw [State.endJob_scan]
    rfl
  · rfl

/-! What else happens at a frame start leaves the frame as it is. -/

@[simp] theorem State.memFrame_scan (s : State) : s.memFrame.scan = s.scan := State.scan_of (by simp) (by simp) (by simp)

@[simp] theorem State.raiseRetired_scan (s : State) : s.raiseRetired.scan = s.scan := State.scan_of (by simp) (by simp) (by simp)

@[simp] theorem State.mapFrame_scan (s : State) : s.mapFrame.scan = s.scan := State.scan_of (by simp) (by simp) (by simp)

@[simp] theorem State.cacheFrame_scan (s : State) : s.cacheFrame.scan = s.scan := State.scan_of (by simp) (by simp) (by simp)

@[simp] theorem State.ditherFrame_scan (s : State) : s.ditherFrame.scan = s.scan := State.scan_of (by simp) (by simp) (by simp)

@[simp] theorem State.pipeFrame_scan (s : State) : s.pipeFrame.scan = s.scan := State.scan_of (by simp) (by simp) (by simp)

@[simp] theorem State.snapFrame_scan (s : State) : s.snapFrame.scan = s.scan := State.scan_of (by simp) (by simp) (by simp)

@[simp] theorem State.netFrame_scan (s : State) : s.netFrame.scan = s.scan := State.scan_of (by simp) (by simp) (by simp)

@[simp] theorem State.emitFrame_scan (s : State) : s.emitFrame.scan = s.scan := State.scan_of (by simp) (by simp) (by simp)

@[simp] theorem State.lockFrame_scan (s : State) : s.lockFrame.scan = s.scan := State.scan_of (by simp) (by simp) (by simp)

@[simp] theorem State.countsFrame_scan (s : State) : s.countsFrame.scan = s.scan := State.scan_of (by simp) (by simp) (by simp)

@[simp] theorem State.selFrame_scan (s : State) : s.selFrame.scan = s.scan := State.scan_of (by simp) (by simp) (by simp)

@[simp] theorem State.pairSend_scan (s : State) : s.pairSend.scan = s.scan := State.scan_of (by simp) (by simp) (by simp)

@[simp] theorem State.selAdvance_scan (s : State) : s.selAdvance.scan = s.scan := State.scan_of (by simp) (by simp) (by simp)

@[simp] theorem State.fetchTurn_scan (s : State) : s.fetchTurn.scan = s.scan := State.scan_of (by simp) (by simp) (by simp)

@[simp] theorem State.statFrame_scan (s : State) : s.statFrame.scan = s.scan := State.scan_of (by simp) (by simp) (by simp)

@[simp] theorem State.roleFrame_scan (s : State) : s.roleFrame.scan = s.scan := State.scan_of (by simp) (by simp) (by simp)

@[simp] theorem State.firstFrame_scan (s : State) : s.firstFrame.scan = s.scan := State.scan_of (by simp) (by simp) (by simp)

@[simp] theorem State.eyeFrame_scan (s : State) (live black : Bool) : (s.eyeFrame live black).scan = s.scan := rfl

/-! ## The frame start as a whole -/

/-- The state in which a frame's own registers are set and its changes are still to come. -/
def State.frameOpened (s : State) (t : Nat) (late : Bool) (num : BitVec 32) (rowTime : Nat) : State :=
  let s0 := if late then s.captureInput else s
  (((((s0.elapse t).selAdvance.fetchTurn).renumber (num - (s.ras.frame + 1))).frameAdvance num rowTime).statFrame.roleFrame).firstFrame

theorem State.captureIf_scan (s : State) (late : Bool) : (if late then s.captureInput else s).scan = s.scan := by
  split
  · rfl
  · rfl

theorem State.frameOpened_scan (s : State) (t : Nat) (late : Bool) (num : BitVec 32) (rowTime : Nat) : (s.frameOpened t late num rowTime).scan =
    { s.scan with frame := num, start := max s.now t, rowsStarted := 0, inBlank := false, aborted := false, now := max s.now t } := by
  obtain ⟨u, hu, hscan⟩ : ∃ u : State, s.frameOpened t late num rowTime = (u.frameAdvance num rowTime).statFrame.roleFrame.firstFrame ∧
      u.scan = { s.scan with now := max s.now t } := by
    refine ⟨_, rfl, ?_⟩
    rw [State.renumber_scan, State.fetchTurn_scan, State.selAdvance_scan, State.elapse_scan]
    split
    · rfl
    · rfl
  have hnow : u.now = max s.now t := congrArg Scan.now hscan
  rw [hu, State.firstFrame_scan, State.roleFrame_scan, State.statFrame_scan, State.frameAdvance_scan, hscan, hnow]

/-- The state in which a frame's kind is settled. -/
def State.frameKinded (s : State) (num : BitVec 32) (want : FrameKind) : State :=
  (((s.eyeHoldFrame.funcFrame num).linkGone s.fn.hostLink.stopped).transitionFrame).frameKind want

/-- Memory, the pipeline, sensing and the net at a frame start. -/
def State.framePlanned (s : State) : State :=
  ((((s.memFrame.residenceStart).raiseRetired.mapFrame).clipFrame.cacheFrame).ditherFrame.pipeFrame).senseFrame.snapFrame.netFrame

/-- Eyelets, emission and the panel's counts at a frame start. -/
def State.frameShown (s : State) : State :=
  ((s.eyeFrame (s.ras.kind == .live) (s.ras.kind == .black)).emitFrame.modeFrame).lockFrame.countsFrame

/-- The end of a frame start: its statistics, the scan lines and the pair. -/
def State.frameClosed (s5 : State) (late : Bool) : State :=
  let s6 := ((s5.count 648 (b2n (s5.ras.active == .hold))).count 901 (b2n (s5.mem.reseed || s5.fn.overdrive.inReset))).count 644 (b2n late)
  ({ s6 with hl := { s6.hl with statusDue := s6.hl.statusDue || s6.linkActive } }).selFrame.pairSend.t4Check

theorem State.beginFrame_eq (s : State) (t : Nat) (want : FrameKind) (num : BitVec 32) (rowTime : Nat) :
    s.beginFrame t want num rowTime = ((s.frameOpened t (want != .live && s.liveSlot.isSome) num rowTime).frameKinded num want).framePlanned.frameShown.frameClosed
      ((want != .live && s.liveSlot.isSome) && s.ras.transition.isNone) := by
  unfold State.beginFrame
  extract_lets late s0 s1 s2 s3 s4 s4' s5 s6
  have hopened : s1 = s.frameOpened t late num rowTime := rfl
  clear_value s1
  have hkinded : s2 = s1.frameKinded num want := rfl
  clear_value s2
  have hplanned : s4' = s2.framePlanned := rfl
  clear_value s4'
  have hshown : s5 = s4'.frameShown := rfl
  clear_value s5
  rw [← hopened, ← hkinded, ← hplanned, ← hshown]
  rfl

theorem State.framePlanned_scan (s : State) : s.framePlanned.scan = s.scan := by simp [State.framePlanned]

theorem State.frameShown_scan (s : State) : s.frameShown.scan = s.scan := by simp [State.frameShown]

theorem State.frameClosed_scan (s : State) (late : Bool) : (s.frameClosed late).scan = s.scan := by
  have hstatus (t : State) (h : Bool) : (({ t with hl := { t.hl with statusDue := h } } : State)).scan = t.scan := rfl
  unfold State.frameClosed
  dsimp only
  rw [State.t4Check_scan, State.pairSend_scan, State.selFrame_scan, hstatus, State.count_scan, State.count_scan, State.count_scan]

/-- The state on which a frame's kind turns. -/
def State.frameReady (s : State) (num : BitVec 32) : State := ((s.eyeHoldFrame.funcFrame num).linkGone s.fn.hostLink.stopped).transitionFrame

theorem State.frameReady_scan {s : State} (num : BitVec 32) (h : s.ras.running = true) : (s.frameReady num).scan = s.scan := by
  have hfunc : (s.eyeHoldFrame.funcFrame num).scan = s.scan := by rw [State.funcFrame_scan, State.eyeHoldFrame_scan]
  have hrun : (s.eyeHoldFrame.funcFrame num).ras.running = true := (congrArg Scan.running hfunc).trans h
  rw [State.frameReady, State.transitionFrame_scan, State.linkGone_scan _ hrun, hfunc]

/-- What a frame start makes of the frame being scanned (R238, R244). -/
theorem State.beginFrame_scan {s : State} (t : Nat) (want : FrameKind) (num : BitVec 32) (rowTime : Nat) (h : s.ras.running = true) :
    (s.beginFrame t want num rowTime).scan = { s.scan with
      frame := num, start := max s.now t, rowsStarted := 0, inBlank := false, aborted := false, now := max s.now t,
      kind := if ((s.frameOpened t (want != .live && s.liveSlot.isSome) num rowTime).frameReady num).goesLive want then .live
        else if want = .black then .black else .hoop } := by
  have hopened := s.frameOpened_scan t (want != .live && s.liveSlot.isSome) num rowTime
  have hrun : (s.frameOpened t (want != .live && s.liveSlot.isSome) num rowTime).ras.running = true := (congrArg Scan.running hopened).trans h
  rw [State.beginFrame_eq, State.frameClosed_scan, State.frameShown_scan, State.framePlanned_scan, State.frameKinded, State.frameKind_scan]
  generalize hready : State.goesLive _ want = live
  have hready' : ((s.frameOpened t (want != .live && s.liveSlot.isSome) num rowTime).frameReady num).goesLive want = live := hready
  rw [hready']
  have hkept := State.frameReady_scan num hrun
  rw [State.frameReady] at hkept
  rw [hkept, hopened]

/-- A frame of the hoop (R246, R247). -/
theorem State.hoopStart_scan {s : State} (t : Nat) (h : s.ras.running = true) : (s.hoopStart t).scan = { s.scan with
    frame := s.ras.frame + 1, start := max s.now t, rowsStarted := 0, inBlank := false, aborted := false, now := max s.now t, kind := .hoop } := by
  have hkind (u : State) : u.goesLive .hoop = false := rfl
  rw [State.hoopStart, State.beginFrame_scan t .hoop _ _ h, hkind]
  rfl

/-! ## A live frame -/

/-- What settles whether a frame is shown live. -/
def State.liveView (s : State) : Option InputFrame × Bool × Option Transition × List FuncPend × Bool :=
  (s.hl.frame, s.ras.tagHold, s.ras.transition, s.fn.pend, s.eyes.holdDue)

theorem State.liveView_of {s t : State} (hras : t.ras = s.ras) (hhl : t.hl = s.hl) (hfn : t.fn = s.fn) (heyes : t.eyes = s.eyes) :
    t.liveView = s.liveView := by simp only [State.liveView, hras, hhl, hfn, heyes]

theorem State.frameOpened_liveView {s : State} {t : Nat} {num : BitVec 32} {rowTime : Nat} (htrans : s.ras.transition = none) (hpend : s.fn.pend = []) :
    (s.frameOpened t false num rowTime).liveView = s.liveView := by
  obtain ⟨u, hu, hview⟩ : ∃ u : State, s.frameOpened t false num rowTime =
      ((u.renumber (num - (s.ras.frame + 1))).frameAdvance num rowTime).statFrame.roleFrame.firstFrame ∧ u.liveView = s.liveView :=
    ⟨_, rfl, State.liveView_of (by simp) (by simp) (by simp) (by simp)⟩
  have hrenumber (d : BitVec 32) : (u.renumber d).liveView = u.liveView := by
    have htrans' : u.ras.transition = none := (congrArg (fun v => v.2.2.1) hview).trans htrans
    have hpend' : u.fn.pend = [] := (congrArg (fun v => v.2.2.2.1) hview).trans hpend
    unfold State.renumber
    split
    · rfl
    · simp [State.liveView, htrans', hpend']
  have hadvance (v : State) : (v.frameAdvance num rowTime).liveView = v.liveView := rfl
  rw [hu]
  refine (State.liveView_of (s := (u.renumber (num - (s.ras.frame + 1))).frameAdvance num rowTime) ?_ ?_ ?_ ?_).trans
    ((hadvance _).trans ((hrenumber _).trans hview))
  all_goals simp

theorem State.setActive_liveView (s : State) (m : Mode) (cause : Nat) : (s.setActive m cause).liveView = s.liveView := by
  unfold State.setActive
  dsimp only
  split
  · rfl
  · simp [State.liveView]

theorem State.takeHoldPeriod_liveView (s : State) : s.takeHoldPeriod.liveView = s.liveView := by
  unfold State.takeHoldPeriod
  split
  rename_i heq
  split at heq
  · cases heq
    rfl
  · cases heq
    rfl

theorem State.sourceIdle_liveView (s : State) (why : HeldChange) (short : Bool) : (s.sourceIdle why short).liveView = s.liveView := by
  unfold State.sourceIdle
  dsimp only
  split
  · rfl
  split
  · rfl
  split
  · rfl
  split
  · split
    · rfl
    · rfl
  · rw [State.setActive_liveView]
    exact s.takeHoldPeriod_liveView

theorem State.heldFrame_liveView (s : State) : s.heldFrame.liveView = s.liveView := by
  unfold State.heldFrame
  split
  · rfl
  · split
    · unfold State.goIsland
      dsimp only
      rw [State.setActive_liveView]
      simp [State.liveView]
    · rfl
  · rfl
  · rfl
  · rw [State.sourceIdle_liveView]
    rfl

/-- With no change of a function, no Eyelet's hold and no transition a frame's kind turns on the input frame alone. -/
theorem State.frameReady_liveView {s : State} (num : BitVec 32) (htrans : s.ras.transition = none) (hpend : s.fn.pend = []) (hhold : s.eyes.holdDue = false) :
    (s.frameReady num).liveView = s.liveView := by
  have heye : s.eyeHoldFrame = s := if_pos (by simp [hhold])
  have hfunc : s.funcFrame num = { s with fn := { s.fn with pend := [] } } := by
    unfold State.funcFrame
    simp [hpend]
  have hlink (u : State) (h : u.fn.hostLink.stopped = s.fn.hostLink.stopped) : u.linkGone s.fn.hostLink.stopped = u := by
    unfold State.linkGone
    rw [h, if_neg (by simp)]
  have hframe (u : State) (h : u.ras.transition = none) : u.transitionFrame = u.heldFrame := by
    unfold State.transitionFrame
    rw [h]
  have hsame : (({ s with fn := { s.fn with pend := [] } } : State)).liveView = s.liveView := by simp only [State.liveView, hpend]
  unfold State.frameReady
  rw [heye, hfunc, hlink { s with fn := { s.fn with pend := [] } } rfl, hframe { s with fn := { s.fn with pend := [] } } htrans,
    State.heldFrame_liveView, hsame]

/-- A live frame at its slot (R244). -/
theorem State.liveFrame_scan {s : State} {q : Nat} (t : Nat) (rowTime : Nat) (h : s.ras.running = true) (hslot : s.liveSlot = some q) (hpend : s.fn.pend = [])
    (hhold : s.eyes.holdDue = false) (htrans : s.ras.transition = none) (htag : s.ras.tagHold = false) :
    (s.beginFrame t .live (s.ras.frame + 1) rowTime).scan = { s.scan with
      frame := s.ras.frame + 1, start := max s.now t, rowsStarted := 0, inBlank := false, aborted := false, now := max s.now t, kind := .live } := by
  have hopened := State.frameOpened_liveView (t := t) (num := s.ras.frame + 1) (rowTime := rowTime) htrans hpend
  generalize hu : s.frameOpened t false (s.ras.frame + 1) rowTime = u at hopened
  have htrans' : u.ras.transition = none := (congrArg (fun v => v.2.2.1) hopened).trans htrans
  have hpend' : u.fn.pend = [] := (congrArg (fun v => v.2.2.2.1) hopened).trans hpend
  have hhold' : u.eyes.holdDue = false := (congrArg (fun v => v.2.2.2.2) hopened).trans hhold
  have hview := (State.frameReady_liveView (s.ras.frame + 1) htrans' hpend' hhold').trans hopened
  have hgoes : (u.frameReady (s.ras.frame + 1)).goesLive .live = true := by
    generalize u.frameReady (s.ras.frame + 1) = v at hview
    have hframe : v.hl.frame = s.hl.frame := congrArg (·.1) hview
    have htags : v.ras.tagHold = false := (congrArg (fun v => v.2.1) hview).trans htag
    have htranss : v.ras.transition = none := (congrArg (fun v => v.2.2.1) hview).trans htrans
    have hlive : v.liveSlot = some q := by
      rw [← hslot]
      simp only [State.liveSlot, hframe]
    simp [State.goesLive, hlive, htags, htranss]
  have hlate : (FrameKind.live != .live && s.liveSlot.isSome) = false := rfl
  rw [State.beginFrame_scan t .live _ rowTime h, hlate, hu, if_pos hgoes]

/-! ## The commands -/

theorem State.sampleFifo_scan (s : State) (a b : BitVec 6) : (s.sampleFifo a b).scan = { s.scan with fifoA := a.toNat, fifoB := b.toNat } := rfl

theorem frameStart_live {at_ q : Nat} {a b : BitVec 6} {s : State} (hrun : s.ras.running = true) (hblank : s.ras.inBlank = true) (hon : s.pnl.st = .on)
    (hnet : s.netNext = false) (habort : s.ras.aborted = false) (hslot : s.liveSlot = some q) (hq : s.ras.earliest ≤ q) (hat : q ≤ at_)
    (hpend : s.fn.pend = []) (hhold : s.eyes.holdDue = false) (htrans : s.ras.transition = none) (htag : s.ras.tagHold = false) :
    ∃ t, exec (.frameStart at_ a b) s = .next t ∧ t.scan = { (s.sampleFifo a b).scan with
      frame := s.ras.frame + 1, start := max s.now q, rowsStarted := 0, inBlank := false, aborted := false, now := max s.now q, kind := .live } := by
  have hexec : exec (.frameStart at_ a b) s = execFrameStart at_ a b s := rfl
  unfold execFrameStart at hexec
  dsimp only at hexec
  rw [if_neg (by simp [hrun, hblank]), if_neg (by simp [hon]), if_neg (by simp [hnet]), if_neg (by simp [habort]), hslot] at hexec
  dsimp only at hexec
  rw [if_pos (by simp [hq, hat])] at hexec
  refine ⟨_, hexec, ?_⟩
  rw [State.settle_scan]
  exact State.liveFrame_scan (s := s.sampleFifo a b) q _ hrun hslot hpend hhold htrans htag

theorem frameStart_restarts {at_ : Nat} {a b : BitVec 6} {s : State} (hrun : s.ras.running = true) (hblank : s.ras.inBlank = true) (hon : s.pnl.st = .on)
    (hnet : s.netNext = false) (habort : s.ras.aborted = true) (hmode : s.nextMode ≠ .lattice) (hat : s.ras.earliest ≤ at_) :
    exec (.frameStart at_ a b) s = .next ((s.sampleFifo a b).hoopStart s.ras.earliest).settle := by
  have hexec : exec (.frameStart at_ a b) s = execFrameStart at_ a b s := rfl
  unfold execFrameStart at hexec
  dsimp only at hexec
  rw [if_neg (by simp [hrun, hblank]), if_neg (by simp [hon]), if_neg (by simp [hnet]), if_pos (by simp [habort, hmode]), if_pos hat] at hexec
  exact hexec

/-- A frame of the hoop that a command starts at instant `t`, the elastic FIFOs sampled with it (R20, R246, R247). -/
theorem State.sampledStart_scan {s : State} {a b : BitVec 6} (t : Nat) (hrun : s.ras.running = true) :
    ((s.sampleFifo a b).hoopStart t).scan = { s.scan with
      frame := s.ras.frame + 1, start := max s.now t, rowsStarted := 0, inBlank := false, aborted := false, fifoA := a.toNat, fifoB := b.toNat,
      now := max s.now t, kind := .hoop } := State.hoopStart_scan (s := s.sampleFifo a b) t hrun

theorem State.mayStart_runs {s : State} (h : s.mayStart = true) : s.ras.running = true := by
  simp only [State.mayStart, Bool.and_eq_true] at h
  obtain ⟨⟨⟨⟨hrun, -⟩, -⟩, -⟩, -⟩ := h
  exact hrun

theorem timingGenerator_starts {at_ : Nat} {a b : BitVec 6} {s : State} (hmay : s.mayStart = true) (hlive : s.liveSlot = none)
    (hmode : s.nextMode = .fixed ∨ s.nextMode = .hold ∨ s.nextMode = .source ∧ s.ras.pull.isSome = true) (hat : max s.genDue s.ras.earliest ≤ at_) :
    exec (.timingGeneratorPeriod ⟨at_, a, b⟩) s = .next ((s.sampleFifo a b).hoopStart (max s.genDue s.ras.earliest)).settle := by
  have hgo : (if at_ < max s.genDue s.ras.earliest || s.liveBefore (max s.genDue s.ras.earliest) then Host.Outcome.next s
      else done ((s.sampleFifo a b).hoopStart (max s.genDue s.ras.earliest))) = done ((s.sampleFifo a b).hoopStart (max s.genDue s.ras.earliest)) :=
    if_neg (by simp [State.liveBefore, hlive, Nat.not_lt.mpr hat])
  have hexec : exec (.timingGeneratorPeriod ⟨at_, a, b⟩) s = execTimingGeneratorPeriod ⟨at_, a, b⟩ s := rfl
  unfold execTimingGeneratorPeriod at hexec
  rcases hmode with hmode | hmode | ⟨hmode, hpull⟩
  · rw [hmode] at hexec
    exact (hexec.trans (if_pos hmay)).trans hgo
  · rw [hmode] at hexec
    exact (hexec.trans (if_pos hmay)).trans hgo
  · rw [hmode] at hexec
    exact (hexec.trans (if_pos (by simp [hmay, hpull]))).trans hgo

theorem repeatDeadline_starts {at_ : Nat} {a b : BitVec 6} {s : State} (hmay : s.mayStart = true) (hlive : s.liveSlot = none) (hmode : s.nextMode = .source)
    (hmem : s.memLost = false) (hat : max (s.ras.start + s.deadlineTicks) s.ras.earliest ≤ at_) :
    exec (.repeatDeadline ⟨at_, a, b⟩) s =
      .next (((s.sampleFifo a b).hoopStart (max (s.ras.start + s.deadlineTicks) s.ras.earliest)).count 641 1).settle := by
  have hexec : exec (.repeatDeadline ⟨at_, a, b⟩) s = execRepeatDeadline ⟨at_, a, b⟩ s := rfl
  unfold execRepeatDeadline at hexec
  dsimp only at hexec
  rw [if_neg (by simp only [hmay, hmode, State.liveBefore, hlive, Option.any_none, Nat.not_lt.mpr hat]; decide), if_neg (by simp [hmem])] at hexec
  exact hexec

theorem predictiveRepeat_starts {at_ h : Nat} {a b : BitVec 6} {rest : List Nat} {s : State} (hrepeats : s.ras.repeats = h :: rest)
    (hmay : s.mayStart = true) (hlive : s.liveSlot = none) (hmode : s.nextMode = .source) (hmem : s.memLost = false) (hat : max h s.ras.earliest ≤ at_) :
    exec (.predictiveRepeat ⟨at_, a, b⟩) s = .next (((s.sampleFifo a b).hoopStart (max h s.ras.earliest)).count 642 1).settle := by
  have hexec : exec (.predictiveRepeat ⟨at_, a, b⟩) s = execPredictiveRepeat ⟨at_, a, b⟩ s := rfl
  unfold execPredictiveRepeat at hexec
  rw [hrepeats] at hexec
  dsimp only at hexec
  rw [if_neg (by simp only [hmay, hmode, hmem, State.liveBefore, hlive, Option.any_none, Nat.not_lt.mpr hat]; decide)] at hexec
  exact hexec

/-! ## The raster's start -/

/-- The raster's registers as it starts in a mode (R84, R260, R298). -/
def State.rasterArmed (s : State) (m : Mode) : State :=
  let r := { Raster.initial with running := true, frame := s.ras.frame, start := s.now, prevStart := s.now, blankAt := s.now, earliest := s.now,
                                 dwellFrom := s.now, active := s.ras.active, tagHold := s.ras.tagHold, holdEntered := m == .hold,
                                 absentFrom := s.ras.absentFrom, delayOver := s.ras.delayOver }
  let s0 : State := { s.sramCopied with pipe := { s.sramCopied.pipe with lacking := 0 } }
  { s0 with ras := r, tat := { s.tat with period := 0, rowTime := 0, role := s.param 0x5000, pairTrans := none, pairHoop := none },
            thm := { s.thm with t4 := if s.wantT4 then .inForce else .none } }

/-- The raster in its mode, the attained state cleared and the tables in force. -/
def State.rasterSet (s : State) (m : Mode) : State :=
  let (v, s1) := if m = (s.rasterArmed m).ras.active then (0, s.rasterArmed m) else (s.rasterArmed m).takeFree
  let s2 := ((s1.setActive m (v.toNat % 65536)).fetchDrop).clearAttained.zoneSnapshot.odTablesEvent
  if m = .hold then s2.takeHoldPeriod else s2

theorem State.rasterGo_eq (s : State) : s.rasterGo =
    if !s.startMode.2 || s.isFollower then s.rasterSet s.startMode.1 else (s.rasterSet s.startMode.1).hoopStart (s.rasterSet s.startMode.1).now := rfl

theorem State.rasterSet_scan (s : State) (m : Mode) : (s.rasterSet m).scan = (s.rasterArmed m).scan := by
  have hkept (t : State) : (t.fetchDrop.clearAttained.zoneSnapshot.odTablesEvent).scan = t.scan := State.scan_of (by simp) (by simp) (by simp)
  unfold State.rasterSet
  generalize hpick : (if m = (s.rasterArmed m).ras.active then (0, s.rasterArmed m) else (s.rasterArmed m).takeFree) = pick
  obtain ⟨v, u⟩ := pick
  have hu : u.scan = (s.rasterArmed m).scan := by
    split at hpick
    · cases hpick
      rfl
    · cases hpick
      rfl
  dsimp only
  rw [← hu]
  split
  · rw [State.takeHoldPeriod_scan, hkept, State.setActive_scan]
  · rw [hkept, State.setActive_scan]

theorem State.rasterArmed_hl (s : State) (m : Mode) : (s.rasterArmed m).hl = s.hl ∧ (s.rasterArmed m).now = s.now := ⟨by simp [State.rasterArmed], by simp [State.rasterArmed]⟩

/-- The raster runs from its start, with its first frame or before it (R84, R260). -/
theorem State.rasterGo_runs (s : State) : s.rasterGo.ras.running = true ∧ s.rasterGo.now = s.now ∧ s.rasterGo.hl.fifoA = s.hl.fifoA ∧
    s.rasterGo.hl.fifoB = s.hl.fifoB := by
  obtain ⟨hhl, hnow⟩ := s.rasterArmed_hl s.startMode.1
  have hset := s.rasterSet_scan s.startMode.1
  have hrun : (s.rasterSet s.startMode.1).ras.running = true := congrArg Scan.running hset
  have hscan : s.rasterGo.scan.running = (s.rasterSet s.startMode.1).scan.running ∧ s.rasterGo.scan.now = (s.rasterSet s.startMode.1).scan.now ∧
      s.rasterGo.scan.fifoA = (s.rasterSet s.startMode.1).scan.fifoA ∧ s.rasterGo.scan.fifoB = (s.rasterSet s.startMode.1).scan.fifoB := by
    rw [State.rasterGo_eq]
    split
    · exact ⟨rfl, rfl, rfl, rfl⟩
    · rw [State.hoopStart_scan _ hrun]
      exact ⟨rfl, Nat.max_self _, rfl, rfl⟩
  rw [hset] at hscan
  obtain ⟨h1, h2, h3, h4⟩ := hscan
  exact ⟨h1, h2.trans hnow, h3.trans (congrArg HostLink.fifoA hhl), h4.trans (congrArg HostLink.fifoB hhl)⟩

theorem rasterStart_runs {at_ : Nat} {a b : BitVec 6} {s : State} (hon : s.pnl.st = .on) (hrun : s.ras.running = false)
    (hready : s.memLost = true ∨ s.boot.memReady = true ∧ (s.boot.mapReady = true ∨ s.boot.mapWaitOver = true)) :
    ∃ t, exec (.rasterStart ⟨at_, a, b⟩) s = .next t ∧ t.ras.running = true ∧ t.now = max s.now at_ ∧ t.hl.fifoA = a.toNat ∧ t.hl.fifoB = b.toNat := by
  have hexec : exec (.rasterStart ⟨at_, a, b⟩) s = execRasterStart ⟨at_, a, b⟩ s := rfl
  unfold execRasterStart at hexec
  dsimp only at hexec
  rw [if_neg] at hexec
  · obtain ⟨hgoes, hnow, ha, hb⟩ := ((s.elapse at_).sampleFifo a b).rasterGo_runs
    have hscan := State.settle_scan ((s.elapse at_).sampleFifo a b).rasterGo
    refine ⟨_, hexec, (congrArg Scan.running hscan).trans hgoes, (congrArg Scan.now hscan).trans (hnow.trans (s.elapse_now at_)),
      (congrArg Scan.fifoA hscan).trans ha, (congrArg Scan.fifoB hscan).trans hb⟩
  · rcases hready with h | ⟨h, h' | h'⟩
    all_goals simp [hon, hrun, h]
    all_goals simp [h']

/-- Settles O48: every start comes down to one sampled start, and its scan is read off field by field. -/
theorem framesStart : Obligations.FramesStart := by
  refine ⟨?raster, ?live, ?restart, ?generator, ?deadline, ?predicted⟩
  case raster => exact fun at_ a b s hon hrun hready => rasterStart_runs hon hrun hready
  case live =>
    intro at_ q a b s hrun hblank hon hnet habort hslot hq hat hpend hhold htrans htag
    obtain ⟨t, hgo, hscan⟩ := frameStart_live hrun hblank hon hnet habort hslot hq hat hpend hhold htrans htag
    exact ⟨t, hgo, congrArg Scan.frame hscan, congrArg Scan.start hscan, congrArg Scan.kind hscan, congrArg Scan.inBlank hscan,
      congrArg Scan.rowsStarted hscan, congrArg Scan.fifoA hscan, congrArg Scan.fifoB hscan⟩
  case restart =>
    intro at_ a b s hrun hblank hon hnet habort hmode hat
    have hscan := (State.settle_scan _).trans (State.sampledStart_scan (a := a) (b := b) s.ras.earliest hrun)
    exact ⟨_, frameStart_restarts hrun hblank hon hnet habort hmode hat, congrArg Scan.frame hscan, congrArg Scan.start hscan, congrArg Scan.kind hscan,
      congrArg Scan.inBlank hscan, congrArg Scan.aborted hscan⟩
  case generator =>
    intro at_ a b s hmay hlive hmode hat
    have hscan := (State.settle_scan _).trans (State.sampledStart_scan (a := a) (b := b) (max s.genDue s.ras.earliest) (State.mayStart_runs hmay))
    exact ⟨_, timingGenerator_starts hmay hlive hmode hat, congrArg Scan.frame hscan, congrArg Scan.start hscan, congrArg Scan.kind hscan,
      congrArg Scan.inBlank hscan, congrArg Scan.rowsStarted hscan, congrArg Scan.fifoA hscan, congrArg Scan.fifoB hscan⟩
  case deadline =>
    intro at_ a b s hmay hlive hmode hmem hat
    have hscan := (State.settle_scan _).trans ((State.count_scan _ 641 1).trans
      (State.sampledStart_scan (a := a) (b := b) (max (s.ras.start + s.deadlineTicks) s.ras.earliest) (State.mayStart_runs hmay)))
    exact ⟨_, repeatDeadline_starts hmay hlive hmode hmem hat, congrArg Scan.frame hscan, congrArg Scan.start hscan, congrArg Scan.kind hscan,
      congrArg Scan.inBlank hscan⟩
  case predicted =>
    intro at_ h a b rest s hrepeats hmay hlive hmode hmem hat
    have hscan := (State.settle_scan _).trans ((State.count_scan _ 642 1).trans
      (State.sampledStart_scan (a := a) (b := b) (max h s.ras.earliest) (State.mayStart_runs hmay)))
    exact ⟨_, predictiveRepeat_starts hrepeats hmay hlive hmode hmem hat, congrArg Scan.frame hscan, congrArg Scan.start hscan, congrArg Scan.kind hscan,
      congrArg Scan.inBlank hscan⟩

end Sys2Proof.Machine
end

section
/-! CLAIM O49. Row slots, aborts, vertical blanks and the raster's timers. -/

namespace Sys2Proof.Machine

/-! ## What a row slot turns on

The frame being scanned, the settings, the rows sent and where residence and sleep of GDDR7 stand. -/

/-- See above. -/
structure Slot where
  scan : Scan
  par : Params
  sent : List SentRow
  residence : Residence
  fails : Nat
  failed : Bool
  sleep : MemSleep

/-- See `Slot`. -/
def State.slot (s : State) : Slot :=
  { scan := s.scan, par := s.par, sent := s.bob.sent, residence := s.mem.residence, fails := s.mem.resFails, failed := s.mem.resOver, sleep := s.mem.sleep }

theorem State.slot_of {s t : State} (hscan : t.scan = s.scan) (hpar : t.par = s.par) (hbob : t.bob = s.bob) (hmem : t.mem = s.mem) : t.slot = s.slot := by
  simp only [State.slot, hscan, hpar, hbob, hmem]

@[simp] theorem State.count_slot (s : State) (k n : Nat) : (s.count k n).slot = s.slot := State.slot_of (by simp) (by simp) (by simp) (by simp)

@[simp] theorem State.event_slot (s : State) (code : Nat) (sev : Severity) (logged : Bool) (source data : Nat) :
    (s.event code sev logged source data).slot = s.slot := State.slot_of (by simp) (by simp) (by simp) (by simp)

@[simp] theorem State.eyeRow_slot (s : State) (tap row : Nat) (vals : List Nat) (concealed : Bool) : (s.eyeRow tap row vals concealed).slot = s.slot := rfl

@[simp] theorem State.ramWrite_slot (s : State) (a : Nat) (bytes : List Byte) : (s.ramWrite a bytes).slot = s.slot := rfl

@[simp] theorem State.onHoop_slot (s : State) (b : Bool) (f : HoopFrame → HoopFrame) : (s.onHoop b f).slot = s.slot := by
  unfold State.onHoop
  split
  · rfl
  · rfl

@[simp] theorem State.askRest_slot (s : State) (i : Side) (b : Bool) : (s.askRest i b).slot = s.slot := by
  cases i
  · rfl
  · rfl

@[simp] theorem State.writeBack_slot (s : State) (i : Side) (c : MemClient) : (s.writeBack i c).slot = s.slot := by
  cases i
  · rfl
  · rfl

@[simp] theorem State.attWrite_slot (s : State) (y : Nat) (o : List OdOut) : (s.attWrite y o).slot = s.slot := by
  unfold State.attWrite
  split
  · rfl
  · exact s.ramWrite_slot _ _

@[simp] theorem State.accumulate_slot (s : State) (y : Nat) (levels : List Nat) : (s.accumulate y levels).slot = s.slot := rfl

@[simp] theorem State.selAdvance_slot (s : State) : s.selAdvance.slot = s.slot :=
  State.slot_of (State.scan_of (by simp) (by simp) (by simp)) (by simp) (by simp) (by simp)

/-! ## The fetch of a band -/

theorem BandFetch.tile_mem (f : BandFetch) (n : Nat) (l : LayerView) (tx ty : Nat) : (f.tile n l tx ty).state.mem = f.state.mem := by
  unfold BandFetch.tile
  dsimp only
  split
  · rfl
  all_goals (repeat' split)
  all_goals simp

theorem BandFetch.layer_mem (f : BandFetch) (n : Nat) (l : LayerView) (y0 : Nat) : (f.layer n l y0).state.mem = f.state.mem := by
  unfold BandFetch.layer
  split
  · rfl
  refine List.foldlRecOn (motive := fun g : BandFetch => g.state.mem = f.state.mem) _ _ rfl fun g hg ty _ => ?_
  exact List.foldlRecOn (motive := fun g : BandFetch => g.state.mem = f.state.mem) _ _ hg fun g hg tx _ => (g.tile_mem n l tx ty).trans hg

theorem State.fetchBand_mem (s : State) (y0 : Nat) : (s.fetchBand y0).mem.residence = s.mem.residence ∧ (s.fetchBand y0).mem.resFails = s.mem.resFails ∧
    (s.fetchBand y0).mem.resOver = s.mem.resOver ∧ (s.fetchBand y0).mem.sleep = s.mem.sleep := by
  unfold State.fetchBand
  dsimp only
  split
  · exact ⟨rfl, rfl, rfl, rfl⟩
  generalize hf : List.foldl _ _ (List.range 4) = f
  have hmem : f.state.mem = s.mem := by
    rw [← hf]
    refine List.foldlRecOn (motive := fun g : BandFetch => g.state.mem = s.mem) _ _ rfl fun g hg n _ => (g.layer_mem _ _ _).trans hg
  split
  · simp [hmem]
  split
  · simp [hmem]
  · simp [hmem]

@[simp] theorem State.fetchBand_slot (s : State) (y0 : Nat) : (s.fetchBand y0).slot = s.slot := by
  have hscan : (s.fetchBand y0).scan = s.scan := State.scan_of (by simp) (by simp) (by simp)
  obtain ⟨h1, h2, h3, h4⟩ := s.fetchBand_mem y0
  simp [State.slot, hscan, h1, h2, h3, h4]

/-! ## A row is sent -/

theorem State.sendCodes_slot (s : State) (r : Nat) (codes : List Nat) (fill : Bool) : (s.sendCodes r codes fill).slot =
    { s.slot with sent := s.bob.sent ++ [{ row := r, pol := polOf (s.param 0x4806) s.ras.frame.toNat r, codes := codes }] } := rfl

theorem State.sendRow_slot (s : State) (r : Nat) (ground : List Nat) (concealed : Bool) : ∃ codes, (s.sendRow r ground concealed).slot =
    { s.slot with sent := s.bob.sent ++ [{ row := r, pol := polOf (s.param 0x4806) s.ras.frame.toNat r, codes := codes }] } := by
  unfold State.sendRow
  extract_lets t1 t2 entry t od drive out s1 s2 p s3 s4 s5
  have h3 : s3.slot = s.slot := by
    have h2 : s2.slot = s.slot := by simp [s2, s1]
    rw [← h2]
    unfold s3
    split
    · rfl
    · rfl
  have h4 : s4.slot = { s.slot with sent := s.bob.sent ++ [{ row := r, pol := polOf (s.param 0x4806) s.ras.frame.toNat r, codes := out }] } := by
    have hatt : (s3.attWrite r od).slot = s.slot := by rw [State.attWrite_slot, h3]
    unfold s4
    generalize s3.attWrite r od = u at hatt ⊢
    have hsent : u.bob.sent = s.bob.sent := congrArg Slot.sent hatt
    have hpar : u.par = s.par := congrArg Slot.par hatt
    have hframe : u.ras.frame = s.ras.frame := congrArg (fun x => x.scan.frame) hatt
    rw [State.sendCodes_slot, hatt, hsent, State.param, hpar, hframe]
    rfl
  have h5 : s5.slot = s4.slot := by
    unfold s5
    split
    · simp
    · rfl
  refine ⟨out, ?_⟩
  rw [← h4, ← h5]
  split
  · rfl
  split
  · simp
  · simp

@[simp] theorem State.onFrame_slot (s : State) (f : InputFrame → InputFrame) : (s.onFrame f).slot = s.slot := rfl

@[simp] theorem State.pairEvent_slot (s : State) (kind row : Nat) : (s.pairEvent kind row).slot = s.slot :=
  State.slot_of (by simp) (by simp) (by simp) (by simp)

@[simp] theorem State.badRow_slot (s : State) (r : Nat) : (s.badRow r).slot = s.slot := by
  have hrepeat (t : State) (n : Option Nat) : (({ t with ras := { t.ras with repeatFrom := n } } : State)).slot = t.slot := rfl
  unfold State.badRow
  split
  · rfl
  split
  · rfl
  dsimp only
  split
  · rfl
  split
  · rw [State.onHoop_slot, hrepeat, State.pairEvent_slot, State.event_slot, State.count_slot, State.onFrame_slot]
  · rw [State.pairEvent_slot, State.event_slot, State.count_slot, State.onFrame_slot]

@[simp] theorem State.judgeHalf_slot (s : State) (i : Side) (r : Nat) : (s.judgeHalf i r).slot = s.slot := by
  have hconceal (f : InputFrame) : (s.concealInHoop f i r).slot = s.slot := by
    unfold State.concealInHoop
    dsimp only
    split
    · rfl
    · rfl
  unfold State.judgeHalf
  split
  · rfl
  split
  · rfl
  · rw [State.badRow_slot, hconceal]

/-- A row sent from a state whose slot is the same is the same row. -/
theorem State.sendRow_slot_of {s u : State} (h : u.slot = s.slot) (r : Nat) (ground : List Nat) (concealed : Bool) :
    ∃ codes, (u.sendRow r ground concealed).slot =
      { s.slot with sent := s.bob.sent ++ [{ row := r, pol := polOf (s.param 0x4806) s.ras.frame.toNat r, codes := codes }] } := by
  obtain ⟨codes, hsent⟩ := u.sendRow_slot r ground concealed
  have hbob : u.bob.sent = s.bob.sent := congrArg Slot.sent h
  have hpar : u.par = s.par := congrArg Slot.par h
  have hframe : u.ras.frame = s.ras.frame := congrArg (fun x => x.scan.frame) h
  refine ⟨codes, ?_⟩
  rw [hsent, h, hbob, State.param, hpar, hframe]
  rfl

theorem State.liveRow_slot (s : State) (r : Nat) : ∃ codes, (s.liveRow r).slot =
    { s.slot with sent := s.bob.sent ++ [{ row := r, pol := polOf (s.param 0x4806) s.ras.frame.toNat r, codes := codes }] } := by
  have hasked (t : State) (l : List Side) : (l.foldl (fun t i => t.askRest i true) t).slot = t.slot :=
    List.foldlRecOn (motive := fun u : State => u.slot = t.slot) _ _ rfl fun u hu i _ => (u.askRest_slot i true).trans hu
  unfold State.liveRow
  extract_lets s1 parts s2 free link s3 halves s4
  have h1 : s1.slot = s.slot :=
    List.foldlRecOn (motive := fun t : State => t.slot = s.slot) _ _ rfl fun t ht i _ => (t.judgeHalf_slot i r).trans ht
  have h3 : s3.slot = s.slot := h1
  have h4 : s4.slot = s.slot := by rw [show s4.slot = _ from State.onHoop_slot _ _ _, hasked, h3]
  refine State.sendRow_slot_of ?_ r _ _
  split
  · exact h3
  · exact h4

/-- A row slot sends its row whatever kind of frame it belongs to. -/
theorem State.startRow_slot (s : State) (r : Nat) : ∃ codes, (s.startRow r).slot =
    { s.slot with sent := s.bob.sent ++ [{ row := r, pol := polOf (s.param 0x4806) s.ras.frame.toNat r, codes := codes }] } := by
  have hband (c : Prop) [Decidable c] : (if c then s.fetchBand r else s).slot = s.slot := by
    split
    · exact s.fetchBand_slot r
    · rfl
  unfold State.startRow
  extract_lets s1
  have h1 : s1.slot = s.slot := hband _
  split
  · exact ⟨_, s.sendCodes_slot r _ true⟩
  · exact State.sendRow_slot_of h1 r _ _
  · obtain ⟨codes, hsent⟩ := s1.liveRow_slot r
    have hbob : s1.bob.sent = s.bob.sent := congrArg Slot.sent h1
    have hpar : s1.par = s.par := congrArg Slot.par h1
    have hframe : s1.ras.frame = s.ras.frame := congrArg (fun x => x.scan.frame) h1
    refine ⟨codes, ?_⟩
    rw [hsent, h1, hbob, State.param, hpar, hframe]
    rfl

theorem State.rowGo_slot (s : State) (n : Nat) : ∃ codes, (s.rowGo n).slot = { s.slot with
    scan := { s.scan with rowsStarted := n + 1 }
    sent := s.bob.sent ++ [{ row := n, pol := polOf (s.param 0x4806) s.ras.frame.toNat n, codes := codes }] } := by
  obtain ⟨codes, hrow⟩ := s.startRow_slot n
  refine ⟨codes, ?_⟩
  unfold State.rowGo
  extract_lets s0 s1
  have h1 : s1.slot = s0.slot := by
    unfold s1
    split
    · rfl
    · rfl
  have hnext : (({ s1 with ras := { s1.ras with rowsStarted := n + 1 } } : State)).slot = { s1.slot with scan := { s1.scan with rowsStarted := n + 1 } } := rfl
  rw [State.selAdvance_slot, hnext, show s1.scan = s1.slot.scan from rfl, h1, hrow]
  rfl

/-! ## The command -/

@[simp] theorem State.grantBursts_scan (s : State) (bursts : List Burst) : (s.grantBursts bursts).scan = s.scan :=
  State.scan_of (by simp) (by simp) (by simp)

@[simp] theorem State.residentFail_scan (s : State) : s.residentFail.scan = s.scan := State.scan_of (by simp) (by simp) (by simp)

theorem State.slotState_scan (s : State) (bursts : List Burst) : (s.slotState bursts).scan =
    { s.scan with now := max s.now (s.ras.start + s.ras.rowsStarted * s.ras.rowTime) } := by
  rw [State.slotState, State.elapse_scan, State.grantBursts_scan, show (s.grantBursts bursts).now = s.now from congrArg Scan.now (s.grantBursts_scan bursts)]

section
variable {at_ : Nat} {s : State} (hrun : s.ras.running = true) (hblank : s.ras.inBlank = false) (hrow : s.ras.rowsStarted < s.ras.rowEnd)
  (hdue : s.ras.start + s.ras.rowsStarted * s.ras.rowTime ≤ at_) (habort : s.ras.abortAt = none)

include hrun hblank hrow hdue habort

/-- At its instant, with the frame not to be aborted there, a row slot turns on the clients alone (R284). -/
theorem rowSlot_exec (bursts : List Burst) (fail next : Bool) : exec (.rowSlotStart at_ bursts fail next) s =
    (let u := s.slotState bursts
     let v := if fail then u.residentFail else u
     let w := if next then v.residentFail else v
     let l := u.missing .left s.ras.rowsStarted
     let r := u.missing .right s.ras.rowsStarted
     if l.isEmpty && r.isEmpty then done (w.rowGo s.ras.rowsStarted) else done (w.underrunAt s.ras.rowsStarted l r)) := by
  have hexec : exec (.rowSlotStart at_ bursts fail next) s = execRowSlotStart at_ bursts fail next s := rfl
  unfold execRowSlotStart at hexec
  dsimp only at hexec
  rw [if_neg (by simp [hrun, hblank, hrow, hdue]), if_neg (by simp [habort])] at hexec
  exact hexec

/-- With every client in time the slot sends its row (R285). -/
theorem rowSlot_sends (bursts : List Burst) (fail next : Bool) (hleft : (s.slotState bursts).missing .left s.ras.rowsStarted = [])
    (hright : (s.slotState bursts).missing .right s.ras.rowsStarted = []) :
    let u := s.slotState bursts
    let v := if fail then u.residentFail else u
    ∃ t, exec (.rowSlotStart at_ bursts fail next) s = .next t ∧ t.slot = ((if next then v.residentFail else v).rowGo s.ras.rowsStarted).slot := by
  intro u v
  have hexec := rowSlot_exec hrun hblank hrow hdue habort bursts fail next
  dsimp only at hexec
  rw [hleft, hright, if_pos (by decide)] at hexec
  obtain ⟨p, hp⟩ := done_eq ((if next then v.residentFail else v).rowGo s.ras.rowsStarted)
  exact ⟨_, hexec.trans hp, rfl⟩

/-- The row that a row slot sends, and what stays of the frame (R240, R380). -/
theorem rowSlot_row (bursts : List Burst) (fail next : Bool) (hleft : (s.slotState bursts).missing .left s.ras.rowsStarted = [])
    (hright : (s.slotState bursts).missing .right s.ras.rowsStarted = []) :
    ∃ t x, exec (.rowSlotStart at_ bursts fail next) s = .next t ∧ t.ras.rowsStarted = s.ras.rowsStarted + 1 ∧ t.ras.frame = s.ras.frame ∧
      t.now = max s.now (s.ras.start + s.ras.rowsStarted * s.ras.rowTime) ∧ t.bob.sent = s.bob.sent ++ [x] ∧ x.row = s.ras.rowsStarted ∧
      x.pol = polOf (s.param 0x4806) s.ras.frame.toNat s.ras.rowsStarted := by
  have hfail (t : State) (b : Bool) : (if b then t.residentFail else t).scan = t.scan ∧ (if b then t.residentFail else t).par = t.par ∧
      (if b then t.residentFail else t).bob = t.bob := by
    split
    · simp
    · exact ⟨rfl, rfl, rfl⟩
  obtain ⟨t, hexec, hsent⟩ := rowSlot_sends hrun hblank hrow hdue habort bursts fail next hleft hright
  have hscan0 := s.slotState_scan bursts
  have hpar0 : (s.slotState bursts).par = s.par := by simp [State.slotState]
  have hbob0 : (s.slotState bursts).bob = s.bob := by simp [State.slotState]
  obtain ⟨hscan1, hpar1, hbob1⟩ := hfail (s.slotState bursts) fail
  generalize (if fail then (s.slotState bursts).residentFail else s.slotState bursts) = v at hsent hscan1 hpar1 hbob1
  obtain ⟨hscan2, hpar2, hbob2⟩ := hfail v next
  generalize (if next then v.residentFail else v) = w at hsent hscan2 hpar2 hbob2
  obtain ⟨codes, hgo⟩ := w.rowGo_slot s.ras.rowsStarted
  rw [hgo, hbob2, hbob1, hbob0, State.param, hpar2, hpar1, hpar0, ← State.param] at hsent
  have hscan : w.scan = { s.scan with now := max s.now (s.ras.start + s.ras.rowsStarted * s.ras.rowTime) } := by rw [hscan2, hscan1, hscan0]
  have hframe : w.ras.frame = s.ras.frame := congrArg Scan.frame hscan
  rw [hframe] at hsent
  exact ⟨t, _, hexec, congrArg (fun x => x.scan.rowsStarted) hsent, (congrArg (fun x => x.scan.frame) hsent).trans hframe,
    (congrArg (fun x => x.scan.now) hsent).trans (congrArg Scan.now hscan), congrArg Slot.sent hsent, rfl, rfl⟩

end

/-! ## The blank after a frame -/

/-- Where the frame being scanned ends and what its blank settles. -/
structure Ending where
  frame : BitVec 32
  rowsStarted : Nat
  rowEnd : Nat
  inBlank : Bool
  aborted : Bool
  blankAt : Nat
  earliest : Nat
  consecAborts : Nat

/-- See `Ending`. -/
def State.ending (s : State) : Ending :=
  { frame := s.ras.frame, rowsStarted := s.ras.rowsStarted, rowEnd := s.ras.rowEnd, inBlank := s.ras.inBlank, aborted := s.ras.aborted,
    blankAt := s.ras.blankAt, earliest := s.ras.earliest, consecAborts := s.mem.consecAborts }

theorem State.ending_of {s t : State} (hras : t.ras = s.ras) (hmem : t.mem = s.mem) : t.ending = s.ending := by
  simp only [State.ending, hras, hmem]

@[simp] theorem State.count_ending (s : State) (k n : Nat) : (s.count k n).ending = s.ending := State.ending_of (by simp) (by simp)

@[simp] theorem State.event_ending (s : State) (code : Nat) (sev : Severity) (logged : Bool) (source data : Nat) :
    (s.event code sev logged source data).ending = s.ending := State.ending_of (by simp) (by simp)

@[simp] theorem State.ladderChange_ending (s : State) : s.ladderChange.ending = s.ending := rfl

@[simp] theorem State.setParam_ending (s : State) (id v : Nat) : (s.setParam id v).ending = s.ending := rfl

@[simp] theorem State.takeHoldPeriod_ending (s : State) : s.takeHoldPeriod.ending = s.ending := by
  unfold State.takeHoldPeriod
  split
  rename_i heq
  split at heq
  · cases heq
    rfl
  · cases heq
    rfl

@[simp] theorem State.applyValues_ending (s : State) (vs : List (Nat × Word)) : (s.applyValues vs).ending = s.ending := rfl

@[simp] theorem State.applyCommit_ending (s : State) (c : Commit) : (s.applyCommit c).ending = s.ending := by
  have htables (t : State) : t.odTablesEvent.ending = t.ending := State.ending_of (by simp) (by simp)
  exact (htables _).trans (s.applyValues_ending c.values)

theorem State.commits_ending (s : State) (cs : List Commit) : (cs.foldl State.applyCommit s).ending = s.ending :=
  List.foldlRecOn (motive := fun t : State => t.ending = s.ending) _ _ rfl fun t ht c _ => (t.applyCommit_ending c).trans ht

@[simp] theorem State.applyDue_ending (s : State) (frame : BitVec 32) : (s.applyDue frame).ending = s.ending :=
  State.commits_ending { s with par := { s.par with waiting := s.par.waiting.filter fun c => !(c.target == frame && !c.viaTransition) } } _

@[simp] theorem State.writeL_ending (s : State) (id v source : Nat) : (s.writeL id v source).ending = s.ending := by
  have hlog : (s.logClear source).ending = s.ending := State.ending_of (by simp) (by simp)
  have heye (i : Nat) (r : EyeRec) : (s.eyeWrite i r).ending = s.ending := State.ending_of (by simp) (by simp)
  have htime (t : State) : t.statTimeLimit.ending = t.ending := State.ending_of (by simp) (by simp)
  have hports (t : State) : t.portsCheck.ending = t.ending := State.ending_of (by simp) (by simp)
  have hrole (t : State) (c : Bool) : (t.roleTaken c).ending = t.ending := State.ending_of (by simp) (by simp)
  have hcleared (t u : State) (c : Prop) [Decidable c] (h : t.ending = s.ending) (h' : u.ending = s.ending) : (if c then t else u).ending = s.ending := by
    split
    · exact h
    · exact h'
  unfold State.writeL
  dsimp only
  split
  · exact hcleared _ _ _ hlog rfl
  split
  · exact hcleared _ _ _ rfl rfl
  split
  · exact hcleared _ _ _ rfl rfl
  split
  · exact heye _ _
  split
  · exact htime _
  split
  · exact hports _
  split
  · exact hrole _ _
  exact hcleared _ _ _ rfl rfl

@[simp] theorem State.epochApply_ending (s : State) (ep : Epoch) (f : Nat) : (s.epochApply ep f).ending = s.ending := by
  have hcounts (t : State) : t.countsChanged.ending = t.ending := State.ending_of (by simp) (by simp)
  have hepoch (t : State) (c e : Nat) : (t.epochEvent c e).ending = t.ending := State.ending_of (by simp) (by simp)
  have hnet (t : State) (n : Tatting) : (({ t with tat := n } : State)).ending = t.ending := rfl
  have hwrite (vs : List (Nat × Word)) : (s.epochWrite vs).ending = s.ending :=
    List.foldlRecOn (motive := fun t : State => t.ending = s.ending) _ _ (s.applyValues_ending _) fun t ht v _ => (t.writeL_ending _ _ _).trans ht
  unfold State.epochApply
  dsimp only
  split
  · rw [hcounts, hepoch, State.count_ending, State.count_ending, hnet, hwrite]
  · rw [hcounts, hepoch, hnet]

@[simp] theorem State.transitionApply_ending (s : State) : s.transitionApply.ending = s.ending := by
  unfold State.transitionApply
  split
  · rfl
  next t _ =>
    split
    · rfl
    extract_lets pars s1 s2 p ras thm
    have h1 : s1.ending = s.ending :=
      State.commits_ending { s with par := { s.par with waiting := s.par.waiting.filter fun c => !c.viaTransition } } _
    have h2 : s2.ending = s.ending := by
      rw [← h1]
      unfold s2
      split
      · rfl
      · rfl
    split
    extract_lets r s3
    have h3 : s3.ending = s.ending := h2
    split
    · rw [State.takeHoldPeriod_ending, h3]
    · exact h3

@[simp] theorem State.pairApply_ending (s : State) : s.pairApply.ending = s.ending := by
  unfold State.pairApply
  split
  · rfl
  dsimp only
  split
  · rfl
  · rfl

@[simp] theorem State.t4Blank_ending (s : State) : s.t4Blank.ending = s.ending := by
  unfold State.t4Blank
  split
  · rfl
  · rfl

@[simp] theorem State.clipWatch_ending (s : State) : s.clipWatch.ending = s.ending := by
  unfold State.clipWatch
  dsimp only
  split
  · rfl
  split
  · rfl
  · rfl

@[simp] theorem State.blankApply_ending (s : State) : s.blankApply.ending = s.ending := by
  have hepoch (t : State) (n : BitVec 32) : (t.epochBlank n).ending = t.ending := by
    unfold State.epochBlank
    split
    · rfl
    · exact t.epochApply_ending _ _
  unfold State.blankApply
  dsimp only
  rw [State.clipWatch_ending, State.t4Blank_ending, State.pairApply_ending, State.transitionApply_ending, hepoch, State.applyDue_ending]

/-- What a blank does before and after the changes it applies leaves the frame's end alone. -/
theorem State.blankWork_ending (s : State) (plain : Bool) :
    ((((s.zoneSnapshot.settledBlank.eyeCheck.sendFill).senseBlank plain).blankApply).selBlank).lockBlank.ending = s.ending := by
  have hsettled (t : State) : t.settledBlank.ending = t.ending := by
    unfold State.settledBlank
    dsimp only
    split
    · simp only [State.count_ending]
      rfl
    · simp only [State.ladderChange_ending, State.count_ending]
      rfl
  have hzone : s.zoneSnapshot.ending = s.ending := State.ending_of (by simp) (by simp)
  have heye (t : State) : t.eyeCheck.ending = t.ending := State.ending_of (by simp) (by simp)
  have hfill (t : State) : t.sendFill.ending = t.ending := State.ending_of (by simp) (by simp)
  have hsense (t : State) : (t.senseBlank plain).ending = t.ending := State.ending_of (by simp) (by simp)
  have hsel (t : State) : t.selBlank.ending = t.ending := State.ending_of (by simp) (by simp)
  have hlock (t : State) : t.lockBlank.ending = t.ending := State.ending_of (by simp) (by simp)
  rw [hlock, hsel, State.blankApply_ending, hsense, hfill, heye, hsettled, hzone]

theorem State.abortFrame_ending (s : State) (n : Nat) : (s.abortFrame n).ending = { s.ending with
    rowEnd := n, inBlank := true, aborted := true, blankAt := s.now, earliest := s.now + max 16 (s.param 0x2803) * s.ras.rowTime } := by
  unfold State.abortFrame
  dsimp only
  rw [State.blankWork_ending]
  rfl

@[simp] theorem State.countAbort_scan (s : State) (n : Nat) (l r : List MemClient) : (s.countAbort n l r).scan = s.scan :=
  State.scan_of (by simp) (by simp) (by simp)

section
variable {at_ : Nat} {s : State} (hrun : s.ras.running = true) (hblank : s.ras.inBlank = false)
include hrun hblank

/-- A client that has missed its row aborts the frame there (R285, R286). -/
theorem rowSlot_aborts {i : Side} (bursts : List Burst) (fail next : Bool) (hrow : s.ras.rowsStarted < s.ras.rowEnd)
    (hdue : s.ras.start + s.ras.rowsStarted * s.ras.rowTime ≤ at_) (habort : s.ras.abortAt = none)
    (hmissing : (s.slotState bursts).missing i s.ras.rowsStarted ≠ []) (hpolicy : s.param 0x2807 ≠ 1) :
    ∃ t, exec (.rowSlotStart at_ bursts fail next) s = .next t ∧ t.ras.inBlank = true ∧ t.ras.aborted = true ∧
      t.ras.rowEnd = s.ras.rowsStarted ∧ t.ras.rowsStarted = s.ras.rowsStarted ∧
      t.ras.earliest = max s.now (s.ras.start + s.ras.rowsStarted * s.ras.rowTime) + max 16 (s.param 0x2803) * s.ras.rowTime := by
  have hexec := rowSlot_exec hrun hblank hrow hdue habort bursts fail next
  have hfail (t : State) (b : Bool) : (if b then t.residentFail else t).ras = t.ras ∧ (if b then t.residentFail else t).par = t.par ∧
      (if b then t.residentFail else t).now = t.now := by
    split
    · simp
    · exact ⟨rfl, rfl, rfl⟩
  have hlate : ¬((((s.slotState bursts).missing .left s.ras.rowsStarted).isEmpty && ((s.slotState bursts).missing .right s.ras.rowsStarted).isEmpty) = true) := by
    cases i
    · simp [hmissing]
    · simp [hmissing]
  dsimp only at hexec
  rw [if_neg hlate] at hexec
  obtain ⟨hras1, hpar1, hnow1⟩ := hfail (s.slotState bursts) fail
  generalize (if fail then (s.slotState bursts).residentFail else s.slotState bursts) = v at hexec hras1 hpar1 hnow1
  obtain ⟨hras2, hpar2, hnow2⟩ := hfail v next
  generalize (if next then v.residentFail else v) = w at hexec hras2 hpar2 hnow2
  have hnow0 : (s.slotState bursts).now = max s.now (s.ras.start + s.ras.rowsStarted * s.ras.rowTime) := congrArg Scan.now (s.slotState_scan bursts)
  have hras0 : (s.slotState bursts).ras = s.ras := by simp [State.slotState]
  have hpar0 : (s.slotState bursts).par = s.par := by simp [State.slotState]
  have hparam (id : Nat) : w.param id = s.param id := by rw [State.param, hpar2, hpar1, hpar0, ← State.param]
  rw [State.underrunAt, if_neg (by rw [hparam]; exact hpolicy)] at hexec
  generalize hu : w.countAbort s.ras.rowsStarted ((s.slotState bursts).missing .left s.ras.rowsStarted)
    ((s.slotState bursts).missing .right s.ras.rowsStarted) = u at hexec
  have hras : u.ras = s.ras := by
    rw [← hu, ← hras0, ← hras1, ← hras2]
    simp
  have hnow : u.now = max s.now (s.ras.start + s.ras.rowsStarted * s.ras.rowTime) := by
    rw [← hu, ← hnow0, ← hnow1, ← hnow2]
    simp
  have hpar : u.par = s.par := by
    rw [← hu, ← hpar0, ← hpar1, ← hpar2]
    simp
  have hend := u.abortFrame_ending s.ras.rowsStarted
  rw [hnow, State.param, hpar, hras, ← State.param] at hend
  generalize u.abortFrame s.ras.rowsStarted = v at hexec hend
  obtain ⟨p, hp⟩ := done_eq v
  exact ⟨_, hexec.trans hp, congrArg Ending.inBlank hend, congrArg Ending.aborted hend, congrArg Ending.rowEnd hend,
    (congrArg Ending.rowsStarted hend).trans (congrArg Raster.rowsStarted hras), congrArg Ending.earliest hend⟩

/-- After the last row the vertical blank begins (R240). -/
theorem verticalBlank_begins (hrow : s.ras.rowEnd ≤ s.ras.rowsStarted) (hdue : s.ras.start + s.ras.rowEnd * s.ras.rowTime ≤ at_) :
    let blank := max s.now (s.ras.start + s.ras.rowEnd * s.ras.rowTime)
    ∃ t, exec (.verticalBlankStart at_) s = .next t ∧ t.ending = { s.ending with
      inBlank := true, blankAt := blank, earliest := blank + s.param 0x2803 * s.ras.rowTime, consecAborts := 0 } := by
  intro blank
  have hexec : exec (.verticalBlankStart at_) s = execVerticalBlankStart at_ s := rfl
  unfold execVerticalBlankStart at hexec
  dsimp only at hexec
  rw [if_neg (by simp [hrun, hblank, hrow, hdue])] at hexec
  generalize hu : (s.elapse (s.ras.start + s.ras.rowEnd * s.ras.rowTime)).selAdvance = u at hexec
  have hras : u.ras = s.ras := by rw [← hu]; simp
  have hnow : u.now = blank := by rw [← hu]; simp [blank]
  have hpar : u.par = s.par := by rw [← hu]; simp
  have hstart (b : Raster) : ((({ u.fetchBlank with ras := b } : State).scanOver.memFrameEnd)).ending =
      { frame := b.frame, rowsStarted := b.rowsStarted, rowEnd := b.rowEnd, inBlank := b.inBlank, aborted := b.aborted, blankAt := b.blankAt,
        earliest := b.earliest, consecAborts := 0 } := rfl
  rw [State.param, hpar, hras, hnow, ← State.param] at hexec
  generalize hv : ({ u.fetchBlank with ras := _ } : State).scanOver.memFrameEnd = v at hexec
  generalize (s.ras.rowEnd == s.param 0x2802 && (s.pnl.st == .on || s.ras.kind == .black)) = plain at hexec
  have hend := v.blankWork_ending plain
  rw [← hv, hstart, hv] at hend
  generalize (((v.zoneSnapshot.settledBlank.eyeCheck.sendFill).senseBlank plain).blankApply).selBlank.lockBlank = w at hexec hend
  obtain ⟨p, hp⟩ := done_eq w
  exact ⟨_, hexec.trans hp, hend⟩

end

theorem rowSlot_early {at_ : Nat} {s : State} (bursts : List Burst) (fail next : Bool) (h : at_ < s.ras.start + s.ras.rowsStarted * s.ras.rowTime) :
    exec (.rowSlotStart at_ bursts fail next) s = .next s := by
  have hexec : exec (.rowSlotStart at_ bursts fail next) s = execRowSlotStart at_ bursts fail next s := rfl
  unfold execRowSlotStart at hexec
  dsimp only at hexec
  rw [if_pos (by simp [h])] at hexec
  exact hexec

theorem verticalBlank_early {at_ : Nat} {s : State} (h : at_ < s.ras.start + s.ras.rowEnd * s.ras.rowTime) :
    exec (.verticalBlankStart at_) s = .next s := by
  have hexec : exec (.verticalBlankStart at_) s = execVerticalBlankStart at_ s := rfl
  unfold execVerticalBlankStart at hexec
  dsimp only at hexec
  rw [if_pos (by simp [h])] at hexec
  exact hexec

/-! ## The raster's timers -/

theorem State.elapse_isRoot (s : State) (t : Nat) : (s.elapse t).isRoot = s.isRoot := by
  have hboot : (s.elapse t).boot = s.boot := by simp
  have hras : (s.elapse t).ras = s.ras := by simp
  have htat : (s.elapse t).tat = s.tat := by simp
  simp only [State.isRoot, State.elapse_param, hboot, hras, htat]

theorem State.elapse_netTimed (s : State) (t : Nat) : (s.elapse t).netTimed = s.netTimed := by
  have hboot : (s.elapse t).boot = s.boot := by simp
  have htat : (s.elapse t).tat = s.tat := by simp
  simp only [State.netTimed, State.isFollower, State.elapse_isRoot, State.elapse_param, hboot, htat]

theorem State.elapse_ladderRuns (s : State) (t : Nat) : (s.elapse t).ladderRuns = s.ladderRuns := by
  have hras : (s.elapse t).ras = s.ras := by simp
  simp only [State.ladderRuns, hras, State.elapse_netTimed, State.elapse_param]

theorem State.elapse_ladderSteps (s : State) (t : Nat) (m : Mode) : (s.elapse t).ladderSteps m = s.ladderSteps m := by
  have hras : (s.elapse t).ras = s.ras := by simp
  have htat : (s.elapse t).tat = s.tat := by simp
  have hthm : (s.elapse t).thm = s.thm := by simp
  have hscaled : (s.elapse t).scaled = s.scaled := by simp only [State.scaled, hthm]
  have hrate : (s.elapse t).rate = s.rate := funext fun r => by simp only [State.rate, State.elapse_param, hscaled]
  have hmin : (s.elapse t).vrrMin = s.vrrMin := by simp only [State.vrrMin, State.elapse_param, hrate]
  have hmax : (s.elapse t).vrrMax = s.vrrMax := by simp only [State.vrrMax, State.elapse_param, hrate]
  have hfixed : (s.elapse t).fixedRate = s.fixedRate := by simp only [State.fixedRate, State.elapse_param, hrate, hmin, hmax]
  have hbase : (s.elapse t).basePeriod m = s.basePeriod m := by
    simp only [State.basePeriod, State.elapse_netTimed, State.elapse_isRoot, hscaled, hfixed, hras, htat]
  have hrates : (s.elapse t).ladderRates = s.ladderRates := by simp only [State.ladderRates, State.elapse_param]
  have hfloor : (s.elapse t).ladderFloor m = s.ladderFloor m := by simp only [State.ladderFloor, State.elapse_param, hrate, hmin]
  simp only [State.ladderSteps, hrates, hrate, hbase, hfloor]

theorem ladderDwell_exec {at_ : Nat} {s : State} (hrun : s.ras.running = true) (hruns : s.ladderRuns = true) (htrans : s.ras.transition = none)
    (hsteps : s.ras.ladderStep < (s.ladderSteps s.ras.active).length) : exec (.ladderDwellExpiry at_) s = .next (
      if max s.now at_ < s.ras.dwellFrom + ms (s.param 0x280A) then s.elapse at_
      else { s.elapse at_ with ras := { s.ras with ladderStep := s.ras.ladderStep + 1, dwellFrom := max s.now at_ } }) := by
  have hexec : exec (.ladderDwellExpiry at_) s = execLadderDwellExpiry at_ s := rfl
  have hras : (s.elapse at_).ras = s.ras := by simp
  rw [hexec, execLadderDwellExpiry]
  dsimp only
  rw [State.elapse_ladderRuns, State.elapse_ladderSteps, hras, State.elapse_now, State.elapse_param]
  by_cases hdwell : max s.now at_ < s.ras.dwellFrom + ms (s.param 0x280A)
  · rw [if_pos (by simp [hdwell]), if_pos hdwell]
  · rw [if_neg (by simp [hrun, hruns, htrans, hdwell, hsteps]), if_neg hdwell]

theorem State.clipWatch_delayOver (s : State) : s.clipWatch.ras.delayOver = s.ras.delayOver := by
  unfold State.clipWatch
  dsimp only
  split
  · rfl
  split
  · rfl
  · rfl

theorem continuityDelay_exec {at_ f : Nat} {s : State} (habsent : s.ras.absentFrom = some f) : exec (.continuityDelayExpiry at_) s = .next (
      if f + ms (s.param 0x2810) ≤ max s.now at_ then ({ s.elapse at_ with ras := { (s.elapse at_).ras with delayOver := true } }).clipWatch
      else s.elapse at_) := by
  have hexec : exec (.continuityDelayExpiry at_) s = execContinuityDelayExpiry at_ s := rfl
  have hras : (s.elapse at_).ras = s.ras := by simp
  rw [hexec, execContinuityDelayExpiry]
  dsimp only
  rw [hras, State.elapse_now, State.elapse_param, habsent]
  by_cases hover : f + ms (s.param 0x2810) ≤ max s.now at_
  · rw [if_pos (by simpa using hover), if_pos hover]
  · rw [if_neg (by simpa using hover), if_neg hover]

theorem clipStep_exec {at_ : Nat} {c : ClipPlay} {s : State} (hclip : s.apq.clip = some c) : exec (.clipStepDue at_) s = .next (
      if clipStepAt (s.table (0x700 + c.inst)).bytes (max s.now at_ - c.time0) = c.step then s.elapse at_ else (s.elapse at_).ladderChange) := by
  have hexec : exec (.clipStepDue at_) s = execClipStepDue at_ s := rfl
  have hapq : (s.elapse at_).apq = s.apq := by simp
  have htable : (s.elapse at_).table (0x700 + c.inst) = s.table (0x700 + c.inst) := by simp [State.table]
  rw [hexec, execClipStepDue]
  rw [hapq, hclip]
  dsimp only
  rw [htable, State.elapse_now]
  split
  · rfl
  · rfl

/-- Settles O49: what a row slot sends and where a blank ends are each followed through the work of the slot or blank by the fields they turn on. -/
theorem rowsBlanksAndTimersFollow : Obligations.RowsBlanksAndTimersFollow := by
  unfold Obligations.RowsBlanksAndTimersFollow
  refine ⟨⟨?_, ?_, ?_, ?_⟩, ?_, ?_, ?_⟩
  · intro at_ bursts fail next s hrun hblank hrow hdue habort hleft hright
    exact rowSlot_row hrun hblank hrow hdue habort bursts fail next hleft hright
  · intro at_ bursts fail next i s hrun hblank hrow hdue habort hmissing hpolicy
    exact rowSlot_aborts hrun hblank bursts fail next hrow hdue habort hmissing hpolicy
  · intro at_ s hrun hblank hrow hdue blank
    obtain ⟨t, hexec, hend⟩ := verticalBlank_begins hrun hblank hrow hdue
    exact ⟨t, hexec, congrArg Ending.inBlank hend, congrArg Ending.blankAt hend, congrArg Ending.frame hend, congrArg Ending.earliest hend,
      congrArg Ending.consecAborts hend⟩
  · exact fun at_ bursts fail next s => ⟨rowSlot_early bursts fail next, verticalBlank_early⟩
  · intro at_ s hrun hruns htrans hsteps
    have hexec := ladderDwell_exec (at_ := at_) hrun hruns htrans hsteps
    constructor
    · intro hover
      rw [if_neg (by omega)] at hexec
      exact ⟨_, hexec, s.elapse_now at_, rfl⟩
    · intro hdwell
      rw [if_pos hdwell] at hexec
      exact ⟨_, hexec, s.elapse_now at_, by simp⟩
  · intro at_ f s habsent
    have hexec := continuityDelay_exec (at_ := at_) habsent
    constructor
    · intro hover
      rw [if_pos hover] at hexec
      exact ⟨_, hexec, State.clipWatch_delayOver _, (congrArg Scan.now (State.clipWatch_scan _)).trans (s.elapse_now at_)⟩
    · intro hwait
      rw [if_neg (by omega)] at hexec
      exact ⟨_, hexec, by simp, s.elapse_now at_⟩
  · intro at_ c s hclip step
    have hexec := clipStep_exec (at_ := at_) hclip
    have hras : (s.elapse at_).ras = s.ras := by simp
    constructor
    · intro hstep
      rw [if_neg hstep] at hexec
      refine ⟨_, hexec, ?_, by simp⟩
      rw [State.ladderChange, hras, State.elapse_now]
    · intro hstep
      rw [if_pos hstep] at hexec
      exact ⟨_, hexec, hras, by simp⟩

end Sys2Proof.Machine
end

section
/-! CLAIM O50. GDDR7 sleep and exit, residence, and the overdrive copy. -/

namespace Sys2Proof.Machine

/-! ## Bursts -/

@[simp] theorem State.traffic_slot (s : State) (write : Bool) (n : Nat) : (s.traffic write n).slot = s.slot := by
  unfold State.traffic
  dsimp only
  split
  · exact (State.count_slot _ _ _).trans rfl
  · exact (State.count_slot _ _ _).trans rfl

theorem State.setFetch_slot (s : State) (i : Side) (c : MemClient) (f : Fetch) : (({ s with mem := s.mem.setFetch i c f } : State)).slot = s.slot := by
  cases i
  · rfl
  · rfl

/-- A burst moves data; it does not touch the frame being scanned, the settings, residence or the sleep of GDDR7. -/
@[simp] theorem State.serveTask_slot (s : State) (t : MemTask) (b : Burst) : (s.serveTask t b).slot = s.slot := by
  cases t with
  | row i c =>
    have hstress (u : State) (n : Nat) (p : Prop) [Decidable p] : (if p then u.traffic true n else u).slot = u.slot := by
      split
      · exact u.traffic_slot true n
      · rfl
    simp only [State.serveTask]
    rw [State.setFetch_slot, hstress, State.traffic_slot]
  | rest i =>
    simp only [State.serveTask]
    split
    · exact s.traffic_slot false _
    · cases i
      · exact s.traffic_slot false _
      · exact s.traffic_slot false _
  | ask low =>
    simp only [State.serveTask]
    split
    · rfl
    · split
      · exact s.traffic_slot _ _
      · exact s.traffic_slot _ _

@[simp] theorem State.grantBursts_slot (s : State) (bursts : List Burst) : (s.grantBursts bursts).slot = s.slot := by
  refine List.foldlRecOn (motive := fun t : State => t.slot = s.slot) _ _ rfl fun t ht b _ => Eq.trans ?_ ht
  unfold State.grantBurst
  split
  · rfl
  split
  · rfl
  · exact t.serveTask_slot _ b

/-! ## Sleep of GDDR7 -/

/-- The state that an entry or an exit judges: the instant reached and the bursts before it granted. -/
def State.bursted (s : State) (at_ : Nat) (bursts : List Burst) : State := (s.elapse at_).grantBursts bursts

theorem State.bursted_param (s : State) (at_ : Nat) (bursts : List Burst) (id : Nat) : (s.bursted at_ bursts).param id = s.param id := by
  have hpar : (s.bursted at_ bursts).par = s.par := by simp [State.bursted]
  simp only [State.param, hpar]

theorem State.bursted_domOn (s : State) (at_ : Nat) (bursts : List Burst) (d : Fin 19) : (s.bursted at_ bursts).domOn d = s.domOn d := by
  have hpwr : (s.bursted at_ bursts).pwr = (s.elapse at_).pwr := by simp [State.bursted]
  rw [← s.elapse_domOn at_ d, State.domOn, hpwr, ← State.domOn]

theorem State.bursted_sleep (s : State) (at_ : Nat) (bursts : List Burst) : (s.bursted at_ bursts).mem.sleep = s.mem.sleep := by
  refine (congrArg Slot.sleep ((s.elapse at_).grantBursts_slot bursts)).trans ?_
  exact congrArg Mem.sleep (by simp)

/-- Whether the least published tolerance is above `n` (R278). -/
def State.tolAbove (s : State) (n : Nat) : Bool := s.tolMin.elim true fun t => n < t

theorem State.tolAbove_iff (s : State) (n : Nat) : s.tolAbove n = true ↔ ∀ w, w ∈ s.tolMin → n < w := by
  cases h : s.tolMin <;> simp [State.tolAbove, h]

theorem memSleepEntry_exec (at_ : Nat) (bursts : List Burst) (s : State) : exec (.memSleepEntry at_ bursts) s = .next (
    let u := s.bursted at_ bursts
    if !s.domOn dMem || u.memQueued || u.mem.sleep = .selfRefresh then u
    else if s.param 0x2C00 = 2 && u.tolAbove (3000 + s.param 0x2C01 + 1000 * s.param 0x2C02) then { u with mem := { u.mem with sleep := .selfRefresh } }
    else if u.mem.sleep = .active && 1 ≤ s.param 0x2C00 && u.tolAbove (40 + s.param 0x2C01) then { u with mem := { u.mem with sleep := .powerDown } }
    else u) := by
  have hexec : exec (.memSleepEntry at_ bursts) s = execMemSleepEntry at_ bursts s := rfl
  unfold execMemSleepEntry at hexec
  change _ = (let u := s.bursted at_ bursts
    let above (n : Nat) : Bool := u.tolAbove n
    if !u.domOn dMem || u.memQueued || u.mem.sleep = .selfRefresh then Host.Outcome.next u
    else if u.param 0x2C00 = 2 && above (3000 + u.param 0x2C01 + 1000 * u.param 0x2C02) then .next { u with mem := { u.mem with sleep := .selfRefresh } }
    else if u.mem.sleep = .active && 1 ≤ u.param 0x2C00 && above (40 + u.param 0x2C01) then .next { u with mem := { u.mem with sleep := .powerDown } }
    else .next u) at hexec
  dsimp only at hexec
  rw [hexec]
  simp only [State.bursted_param, State.bursted_domOn]
  split
  · rfl
  split
  · rfl
  split
  · rfl
  · rfl

theorem memSleepExit_exec (at_ : Nat) (bursts : List Burst) (s : State) : exec (.memSleepExit at_ bursts) s = .next (
    let u := s.bursted at_ bursts
    if !u.mem.asks.isEmpty || !u.tolAbove (s.mem.sleep.exitNs + s.param 0x2C01) then { u with mem := { u.mem with sleep := .active } } else u) := by
  have hexec : exec (.memSleepExit at_ bursts) s = execMemSleepExit at_ bursts s := rfl
  have hdue (u : State) (n : Nat) : (u.tolMin.elim false fun t => decide (t ≤ n)) = !u.tolAbove n := by
    unfold State.tolAbove
    cases u.tolMin with
    | none => rfl
    | some w => simp only [Option.elim_some, ← decide_not, Nat.not_lt]
  unfold execMemSleepExit at hexec
  dsimp only at hexec
  rw [show (s.elapse at_).grantBursts bursts = s.bursted at_ bursts from rfl, hdue, State.bursted_param, State.bursted_sleep] at hexec
  rw [hexec]
  dsimp only
  split
  · rfl
  · rfl

/-- GDDR7 enters self-refresh or power-down only above the exit time and margin (R278). -/
theorem memSleepEntry_acts (at_ : Nat) (bursts : List Burst) (s u : State) (hu : u = (s.elapse at_).grantBursts bursts) :
    (s.domOn dMem = true → u.memQueued = false → u.mem.sleep ≠ .selfRefresh → s.param 0x2C00 = 2 →
      (∀ w, w ∈ u.tolMin → 3000 + s.param 0x2C01 + 1000 * s.param 0x2C02 < w) →
      exec (.memSleepEntry at_ bursts) s = .next { u with mem := { u.mem with sleep := .selfRefresh } }) ∧
    (s.domOn dMem = true → u.memQueued = false → u.mem.sleep = .active → s.param 0x2C00 = 1 → (∀ w, w ∈ u.tolMin → 40 + s.param 0x2C01 < w) →
      exec (.memSleepEntry at_ bursts) s = .next { u with mem := { u.mem with sleep := .powerDown } }) ∧
    (s.param 0x2C00 = 0 ∨ u.memQueued = true → exec (.memSleepEntry at_ bursts) s = .next u) := by
  have hexec := memSleepEntry_exec at_ bursts s
  rw [show s.bursted at_ bursts = u from hu.symm] at hexec
  dsimp only at hexec
  refine ⟨?_, ?_, ?_⟩
  · intro hon hqueue hsleep hmode htol
    rw [if_neg (by simp [hon, hqueue, hsleep]), if_pos (by simp [hmode, (u.tolAbove_iff _).2 htol])] at hexec
    exact hexec
  · intro hon hqueue hsleep hmode htol
    rw [if_neg (by simp [hon, hqueue, hsleep]), if_neg (by simp [hmode]), if_pos (by simp [hsleep, hmode, (u.tolAbove_iff _).2 htol])] at hexec
    exact hexec
  · intro hnone
    rw [hexec]
    by_cases hqueue : u.memQueued = true
    · rw [if_pos (by simp [hqueue])]
    · have hoff : s.param 0x2C00 = 0 := hnone.resolve_right hqueue
      rw [if_neg (c := (decide (s.param 0x2C00 = 2) && _) = true) (by simp [hoff]), if_neg (c := (_ && decide (1 ≤ s.param 0x2C00) && _) = true) (by simp [hoff]),
        ite_self]

/-- GDDR7 leaves its sleep for a request of class 4 or 5, or for a tolerance fallen to the exit time and margin (R278). -/
theorem memSleepExit_acts (at_ : Nat) (bursts : List Burst) (s u : State) (hu : u = (s.elapse at_).grantBursts bursts) :
    let exit := match s.mem.sleep with | .active => 0 | .powerDown => 40 | .selfRefresh => 3000
    (u.mem.asks ≠ [] ∨ (∃ w, w ∈ u.tolMin ∧ w ≤ exit + s.param 0x2C01) →
      exec (.memSleepExit at_ bursts) s = .next { u with mem := { u.mem with sleep := .active } }) ∧
    (u.mem.asks = [] → (∀ w, w ∈ u.tolMin → exit + s.param 0x2C01 < w) → exec (.memSleepExit at_ bursts) s = .next u) := by
  intro exit
  have hexec := memSleepExit_exec at_ bursts s
  rw [show s.bursted at_ bursts = u from hu.symm, show s.mem.sleep.exitNs = exit from rfl] at hexec
  dsimp only at hexec
  constructor
  · intro hdue
    rw [if_pos] at hexec
    · exact hexec
    · rcases hdue with hasks | ⟨w, hw, hle⟩
      · simp [hasks]
      · have habove : u.tolAbove (exit + s.param 0x2C01) = false := by
          rw [Bool.eq_false_iff]
          exact fun h => absurd ((u.tolAbove_iff _).1 h w hw) (by omega)
        simp [habove]
  · intro hasks htol
    rw [if_neg (by simp [hasks, (u.tolAbove_iff _).2 htol])] at hexec
    exact hexec

/-! ## Residence -/

theorem State.residenceEvent_slot (s : State) (what : Nat) : (s.residenceEvent what).slot = s.slot := s.event_slot _ _ _ _ _

/-- The containers of the frame to be compressed (R280). -/
def State.residenceBlocks (s : State) : List (List Byte × Bool) :=
  let cs := chunks 65536 (s.param 0x2801 * s.param 0x2802 / 16384 + 1) s.markedBytes
  (List.range cs.length).map fun k => container s.mem.resLevel (k + 1 == cs.length) false k (cs.getD k [])

theorem foldl_length_sum (l : List (List Byte × Bool)) : (l.foldl (fun a b => a + b.1.length) 0 : Nat) = (l.map (·.1.length)).sum := by
  rw [List.sum_eq_foldl, List.foldl_map]

theorem residenceCompress_done {s : State} (h : s.mem.residence = .compressing) :
    let blocks := s.residenceBlocks
    let total := (blocks.map (·.1.length)).sum
    ∃ t, exec .residenceCompressDone s = .next t ∧ t.mem = { s.mem with
      resBytes := min total 23986176
      residence := if (∃ b, b ∈ blocks ∧ b.2 = true) ∨ 23986176 < total then .refused else .ready
      resBlocks := if (∃ b, b ∈ blocks ∧ b.2 = true) ∨ 23986176 < total then s.mem.resBlocks else blocks.map (·.1) } := by
  intro blocks total
  have hexec : exec .residenceCompressDone s = execResidenceCompressDone s := rfl
  unfold execResidenceCompressDone at hexec
  have hblocks : ((List.range (chunks 65536 (s.param 0x2801 * s.param 0x2802 / 16384 + 1) s.markedBytes).length).map fun i =>
      container s.mem.resLevel (i + 1 == (chunks 65536 (s.param 0x2801 * s.param 0x2802 / 16384 + 1) s.markedBytes).length) false i
        ((chunks 65536 (s.param 0x2801 * s.param 0x2802 / 16384 + 1) s.markedBytes).getD i [])) = blocks := rfl
  dsimp only at hexec
  rw [if_neg (by simp [h]), hblocks] at hexec
  rw [foldl_length_sum] at hexec
  have hstored : (∃ b, b ∈ blocks ∧ b.2 = true) ↔ blocks.any (·.2) = true := by simp
  have hmem (t : State) (n : Nat) : (((t.count 718 1).residenceEvent n)).mem = t.mem := by simp [State.residenceEvent]
  by_cases hany : blocks.any (·.2) = true
  · have hrefused : (∃ b, b ∈ blocks ∧ b.2 = true) ∨ 23986176 < total := .inl (hstored.2 hany)
    rw [if_pos hany] at hexec
    obtain ⟨p, hp⟩ := done_eq _
    refine ⟨_, hexec.trans hp, (hmem _ 2).trans ?_⟩
    rw [if_pos hrefused, if_pos hrefused]
  by_cases hbig : 23986176 < total
  · have hrefused : (∃ b, b ∈ blocks ∧ b.2 = true) ∨ 23986176 < total := .inr hbig
    rw [if_neg hany, if_pos hbig] at hexec
    obtain ⟨p, hp⟩ := done_eq _
    refine ⟨_, hexec.trans hp, (hmem _ 3).trans ?_⟩
    rw [if_pos hrefused, if_pos hrefused]
  · have hready : ¬((∃ b, b ∈ blocks ∧ b.2 = true) ∨ 23986176 < total) := fun h => h.elim (fun h => hany (hstored.1 h)) hbig
    rw [if_neg hany, if_neg hbig] at hexec
    obtain ⟨p, hp⟩ := done_eq _
    refine ⟨_, hexec.trans hp, ?_⟩
    rw [if_neg hready, if_neg hready]

theorem State.residentFail_slot {s : State} (hres : s.mem.residence = .resident) (hkind : s.ras.kind = .hoop) :
    s.residentFail.slot = { s.slot with sleep := .active, fails := s.mem.resFails + 1, failed := true } := by
  unfold State.residentFail
  rw [if_pos (by simp [hres, hkind]), State.residenceEvent_slot, State.count_slot, State.askRest_slot, State.askRest_slot]
  rfl

/-- A resident block that fails its check while the frame is scanned (R281). -/
theorem rowSlot_residentFail {at_ : Nat} {bursts : List Burst} {fail : Bool} {s : State} (hrun : s.ras.running = true) (hblank : s.ras.inBlank = false)
    (hrow : s.ras.rowsStarted < s.ras.rowEnd) (hdue : s.ras.start + s.ras.rowsStarted * s.ras.rowTime ≤ at_) (habort : s.ras.abortAt = none)
    (hleft : (s.slotState bursts).missing .left s.ras.rowsStarted = []) (hright : (s.slotState bursts).missing .right s.ras.rowsStarted = [])
    (hres : s.mem.residence = .resident) (hkind : s.ras.kind = .hoop) :
    ∃ t, exec (.rowSlotStart at_ bursts fail (!fail)) s = .next t ∧ t.slot.scan.rowsStarted = s.ras.rowsStarted + 1 ∧
      t.slot.failed = true ∧ t.slot.fails = s.mem.resFails + 1 ∧ t.slot.sleep = .active ∧ t.slot.residence = .resident := by
  obtain ⟨t, hexec, hgo⟩ := rowSlot_sends hrun hblank hrow hdue habort bursts fail (!fail) hleft hright
  have hslot := s.grantBursts_slot bursts
  have hmem : (s.slotState bursts).mem = (s.grantBursts bursts).mem := by simp [State.slotState]
  have hras : (s.slotState bursts).ras = s.ras := by simp [State.slotState]
  have hres' : (s.slotState bursts).mem.residence = .resident := by
    rw [hmem]
    exact (congrArg Slot.residence hslot).trans hres
  have hfails : (s.slotState bursts).mem.resFails = s.mem.resFails := by
    rw [hmem]
    exact congrArg Slot.fails hslot
  have hone : (if (!fail) = true then (if fail = true then (s.slotState bursts).residentFail else s.slotState bursts).residentFail
      else if fail = true then (s.slotState bursts).residentFail else s.slotState bursts) = (s.slotState bursts).residentFail := by
    cases fail
    · rfl
    · rfl
  obtain ⟨codes, hrowed⟩ := State.rowGo_slot (s.slotState bursts).residentFail s.ras.rowsStarted
  rw [hone, hrowed, State.residentFail_slot hres' (by rw [hras, hkind]), hfails] at hgo
  exact ⟨t, hexec, congrArg (fun x => x.scan.rowsStarted) hgo, congrArg Slot.failed hgo, congrArg Slot.fails hgo, congrArg Slot.sleep hgo,
    (congrArg Slot.residence hgo).trans hres'⟩

/-- Residence is over: no frame of the hoop is resident. -/
def State.residenceOver (s : State) : State :=
  let t : State := { s with mem := { s.mem with
    residence := .none, resBlocks := [], h0 := { s.mem.h0 with resident := false }, h1 := { s.mem.h1 with resident := false } } }
  { t.residenceEvent 5 with mem := { t.mem with resOver := false } }

theorem State.residenceFrame_over {s : State} (moved timing : Bool) (hres : s.mem.residence = .resident) (hover : s.mem.resOver = true)
    (hhold : s.ras.active = .hold) : (s.residenceFrame false moved timing).mem =
      (if s.mem.resFails < 2 then s.residenceOver.residenceTry
       else { s.residenceOver with mem := { s.residenceOver.mem with residence := .refused } }).mem := by
  have hcount (t : State) (k n : Nat) : (t.count k n).mem = t.mem := by simp
  have hevent (t : State) : (t.residenceEvent 5).mem = t.mem := by simp [State.residenceEvent]
  have hover' : (s.mem.residence == .compressing && (!s.ras.active == .hold || moved || false) ||
      (s.mem.residence == .resident || s.mem.residence == .ready) &&
        (!s.ras.active == .hold || moved || false || timing || s.mem.resOver || !s.residencePace)) = true := by simp [hres, hover]
  have hagain : (s.ras.active == .hold && (false || moved || s.mem.resOver)) = true := by simp [hhold, hover]
  unfold State.residenceFrame
  dsimp only
  rw [hcount, if_pos hagain, if_pos hover', if_pos (c := (s.mem.residence == .resident) = true) (by simp [hres]),
    if_neg (c := false = true) (by decide)]
  simp only [hevent]
  rfl

theorem State.residenceOver_may (s : State) : s.residenceOver.residenceMay = s.residenceMay := by
  have hpar : s.residenceOver.par = s.par := by simp [State.residenceOver]
  have hras : s.residenceOver.ras = s.ras := by simp [State.residenceOver]
  have hpwr : s.residenceOver.pwr = s.pwr := by simp [State.residenceOver]
  have hthm : s.residenceOver.thm = s.thm := by simp [State.residenceOver]
  have hparam (id : Nat) : s.residenceOver.param id = s.param id := by rw [State.param, hpar, ← State.param]
  have hfailed (d : Fin 19) : s.residenceOver.domFailed d = s.domFailed d := by rw [State.domFailed, hpwr, ← State.domFailed]
  simp only [State.residenceMay, State.residencePace, hparam, hfailed, hras, hpwr, hthm]

/-- Residence ends at the next frame start, and a HOLD goes on with a second compression or with none (R281, R283). -/
theorem State.residenceFrame_failed {s : State} (moved timing : Bool) (hres : s.mem.residence = .resident) (hover : s.mem.resOver = true)
    (hhold : s.ras.active = .hold) :
    let t := s.residenceFrame false moved timing
    t.mem.resOver = false ∧ t.mem.resFails = s.mem.resFails ∧ t.mem.h0.resident = false ∧ t.mem.h1.resident = false ∧
    (2 ≤ s.mem.resFails → t.mem.residence = .refused) ∧
    (s.mem.resFails < 2 → s.residenceMay = true → t.mem.residence = .compressing) ∧
    (s.mem.resFails < 2 → s.residenceMay = false → t.mem.residence = .none) := by
  intro t
  have hmem := State.residenceFrame_over moved timing hres hover hhold
  change t.mem = _ at hmem
  rw [hmem]
  by_cases hfew : s.mem.resFails < 2
  · rw [if_pos hfew]
    unfold State.residenceTry
    rw [State.residenceOver_may]
    cases hmay : s.residenceMay with
    | true => exact ⟨rfl, rfl, rfl, rfl, fun h => absurd hfew (by omega), fun _ _ => rfl, fun _ h => absurd h (by decide)⟩
    | false => exact ⟨rfl, rfl, rfl, rfl, fun h => absurd hfew (by omega), fun _ h => absurd h (by decide), fun _ _ => rfl⟩
  · rw [if_neg hfew]
    exact ⟨rfl, rfl, rfl, rfl, fun _ => rfl, fun h => absurd h hfew, fun h => absurd h hfew⟩

/-- The end of the overdrive copy (R305). -/
theorem odTableCopy_done (s : State) :
    (s.domFailed dMem = false → exec .odTableCopyDone s = .next { s with pipe := { s.pipe with
      copyDue := false, sramSet := some (s.param 0x3802), sramOd := (odIds (s.param 0x3802)).map fun id => (s.table id).bytes,
      sramTile := (s.table (0x300 + s.param 0x3C01)).bytes } }) ∧
    (s.domFailed dMem = true → exec .odTableCopyDone s = .next { s with pipe := { s.pipe with copyDue := false } }) := by
  have hexec : exec .odTableCopyDone s = .next s.sramCopied := rfl
  constructor
  · intro hdom
    rw [hexec, State.sramCopied, if_neg (by simp [hdom])]
  · intro hdom
    rw [hexec, State.sramCopied, if_pos hdom]

/-- Settles O50: a burst leaves the sleep and residence of GDDR7 alone, so that each command is followed from its own branches. -/
theorem memorySleepsAndCompresses : Obligations.MemorySleepsAndCompresses := by
  unfold Obligations.MemorySleepsAndCompresses
  refine ⟨memSleepEntry_acts, memSleepExit_acts, ?_, ?_, ?_, ?_, odTableCopy_done⟩
  · intro s hcomp cs blocks total
    obtain ⟨t, hexec, hmem⟩ := residenceCompress_done hcomp
    have hres := congrArg Mem.residence hmem
    have hblocks := congrArg Mem.resBlocks hmem
    refine ⟨t, hexec, congrArg Mem.resBytes hmem, (congrArg Mem.cells hmem).trans rfl, hres, fun hready => hblocks.trans (if_neg ?_)⟩
    intro hrefused
    rw [hready] at hres
    exact absurd (hres.trans (if_pos hrefused)) (by decide)
  · intro s hres
    exact if_pos hres
  · intro at_ bursts fail s hrun hblank hrow hdue habort hleft hright hres hkind
    exact rowSlot_residentFail hrun hblank hrow hdue habort hleft hright hres hkind
  · exact fun moved timing s hres hover hhold => State.residenceFrame_failed moved timing hres hover hhold

end Sys2Proof.Machine
end

section
/-! SUPPORT. The Tatting net's messages: what sending one leaves of the ports and of the rest of the net. -/

namespace Sys2Proof.Machine

/-! ## Ports -/

@[simp] theorem Tatting.port_setPort_self (t : Tatting) (p : TatPort) (v : TatPortState) : (t.setPort p v).port p = v := by
  cases p <;> rfl

theorem Tatting.port_setPort_other (t : Tatting) {p q : TatPort} (v : TatPortState) (h : q ≠ p) : (t.setPort p v).port q = t.port q := by
  cases p with
  | up =>
    cases q with
    | up => exact absurd rfl h
    | dn0 => rfl
    | dn1 => rfl
  | dn0 =>
    cases q with
    | up => rfl
    | dn0 => exact absurd rfl h
    | dn1 => rfl
  | dn1 =>
    cases q with
    | up => rfl
    | dn0 => rfl
    | dn1 => exact absurd rfl h

/-- The net without its ports. -/
def Tatting.core (t : Tatting) : Tatting := { t with up := TatPortState.initial, dn0 := TatPortState.initial, dn1 := TatPortState.initial }

@[simp] theorem Tatting.setPort_core (t : Tatting) (p : TatPort) (v : TatPortState) : (t.setPort p v).core = t.core := by
  cases p <;> rfl

/-! ## A message is queued -/

/-- What stands in a port's queue once a message is sent there (R411, R47). -/
def State.queued (s : State) (p : TatPort) (m : TatMsg) : List TatMsg :=
  if (s.tat.port p).st ≠ .down ∧ s.tatDriven = true then tatInsert m (s.tat.port p).tx else (s.tat.port p).tx

theorem State.tatSend_eq (s : State) (p : TatPort) (k : Nat) (b : List Byte) :
    s.tatSend p k b = { s with tat := s.tat.setPort p { s.tat.port p with tx := s.queued p { kind := k, payload := b } } } := by
  unfold State.tatSend State.queued
  dsimp only
  by_cases hopen : (s.tat.port p).st ≠ .down ∧ s.tatDriven = true
  · rw [if_pos hopen, if_pos hopen]
  · rw [if_neg hopen, if_neg hopen]
    cases p <;> rfl

@[simp] theorem State.tatSend_core (s : State) (p : TatPort) (k : Nat) (b : List Byte) : (s.tatSend p k b).tat.core = s.tat.core := by
  rw [State.tatSend_eq]
  exact s.tat.setPort_core p _

theorem State.tatSend_self (s : State) (p : TatPort) (k : Nat) (b : List Byte) :
    (s.tatSend p k b).tat.port p = { s.tat.port p with tx := s.queued p { kind := k, payload := b } } := by
  rw [State.tatSend_eq]
  exact s.tat.port_setPort_self p _

theorem State.tatSend_other (s : State) {p q : TatPort} (k : Nat) (b : List Byte) (h : q ≠ p) : (s.tatSend p k b).tat.port q = s.tat.port q := by
  rw [State.tatSend_eq]
  exact s.tat.port_setPort_other _ h

theorem State.queued_open {s : State} {p : TatPort} (m : TatMsg) (hup : (s.tat.port p).st ≠ .down) (hdriven : s.tatDriven = true) :
    s.queued p m = tatInsert m (s.tat.port p).tx := if_pos ⟨hup, hdriven⟩

theorem State.tatSend_tx {s : State} {p : TatPort} (k : Nat) (b : List Byte) (hup : (s.tat.port p).st ≠ .down) (hdriven : s.tatDriven = true) :
    ((s.tatSend p k b).tat.port p).tx = tatInsert { kind := k, payload := b } (s.tat.port p).tx := by
  rw [State.tatSend_self, State.queued_open _ hup hdriven]

theorem State.tatSend_tatDriven (s : State) (p : TatPort) (k : Nat) (b : List Byte) : (s.tatSend p k b).tatDriven = s.tatDriven := by
  simp [State.tatDriven, State.domOn]

end Sys2Proof.Machine
end

section
/-! CLAIM O51. The epoch commands of the root. -/

namespace Sys2Proof.Machine

/-! ## A request taken leaves the net alone -/

theorem State.taken_tat (s : State) (i : Mb) : (s.taken i).tat = s.tat := by
  obtain ⟨b, w, h⟩ := s.taken_eq i
  rw [h]

theorem State.settle_tat (s : State) : s.settle.tat = s.tat := by simp

theorem State.taken_isRoot (s : State) (i : Mb) : (s.taken i).isRoot = s.isRoot := by
  obtain ⟨b, w, h⟩ := s.taken_eq i
  rw [h]
  rfl

theorem State.taken_epochOpen (s : State) (i : Mb) : (s.taken i).epochOpen = s.epochOpen := by
  rw [State.epochOpen, State.taken_tat, ← State.epochOpen]

theorem State.taken_epochOld (s : State) (i : Mb) (e : Nat) : (s.taken i).epochOld e = s.epochOld e := by
  obtain ⟨b, w, h⟩ := s.taken_eq i
  rw [h]
  rfl

theorem State.taken_epochRec (s : State) (i : Mb) (e : Nat) : (s.taken i).epochRec e = s.epochRec e := by
  obtain ⟨b, w, h⟩ := s.taken_eq i
  rw [h]
  rfl

theorem State.taken_counts (s : State) (i : Mb) (e : Nat) : (s.taken i).counts e = s.counts e := by
  obtain ⟨b, w, h⟩ := s.taken_eq i
  rw [h]
  rfl

theorem State.taken_countBytes (s : State) (i : Mb) (e : Nat) : (s.taken i).countBytes e = s.countBytes e := by
  obtain ⟨b, w, h⟩ := s.taken_eq i
  rw [h]
  rfl

/-! ## The commands that need TAT -/

section
variable {s t : State} {i : Mb} {c : Cmd} {run : List Byte → State → Reply} {p : List Byte} (hserved : s.served i c = true)
include hserved

theorem State.serve_tatFailed (run : List Byte → State → Reply) (h : s.domFailed dTat = true) :
    s.serve i c (fun p t => t.needing dTat (run p t)) = (s.taken i).answered i stDomainFailed [] :=
  State.serve_reply hserved (State.needing_failed (by rw [State.taken_domFailed, h]) _)

theorem State.serve_tat {st : Nat} (h : s.domFailed dTat = false) (hr : run (s.reqBody i) (s.taken i) = .reply st p t) :
    s.serve i c (fun p t => t.needing dTat (run p t)) = t.answered i st p :=
  State.serve_reply hserved ((State.needing_sound (by rw [State.taken_domFailed, h]) _).trans hr)

theorem State.serve_tatAccept {after : State → State} {k : Nat} (hk : c.code = k) (h : s.domFailed dTat = false)
    (hr : run (s.reqBody i) (s.taken i) = .accept p t after) :
    s.serve i c (fun p t => t.needing dTat (run p t)) = .next (after (t.withJob i k (s.mb i).tag p)).settle :=
  State.serve_accept hk hserved ((State.needing_sound (by rw [State.taken_domFailed, h]) _).trans hr)

end

/-- A response posted on a mailbox of the window sends nothing over the net (R117, R437). -/
theorem State.post_tat (s : State) {i : Mb} (st : Nat) (p : List Byte) (hi : i ≠ .mb3) : (s.post i st p).tat = s.tat := by
  have hanswer (t : State) (b : List Byte) : (t.answer i b).tat = t.tat := by
    unfold State.answer
    cases i with
    | mb3 => exact absurd rfl hi
    | mb0 | mb1 | mb2 =>
      dsimp only
      split
      · split
        · split
          · simp
          · simp
        · simp
      · simp
  unfold State.post State.postWith
  dsimp only
  split
  · rw [hanswer]
    rfl
  · rw [hanswer]
    rfl

theorem State.withJob_pwr (t : State) (i : Mb) (code : Nat) (tag : BitVec 16) (p : List Byte) : (t.withJob i code tag p).pwr = t.pwr :=
  State.post_pwr _ _ _ _

theorem State.withJob_tat (t : State) {i : Mb} (code : Nat) (tag : BitVec 16) (p : List Byte) (hi : i ≠ .mb3) :
    (t.withJob i code tag p).tat = t.tat := State.post_tat _ _ _ hi

/-! ## TAT_ENUMERATE -/

theorem exec_tatEnumerate (i : Mb) (s : State) : exec (.tatEnumerate i) s = s.serve i (.bare 0x00C0) fun p t => t.needing dTat (runTatEnumerate p t) := rfl

/-- MB3 does not take TAT_ENUMERATE (R128). -/
theorem served_enumerate_box {s : State} {i : Mb} (h : s.served i (.bare 0x00C0) = true) : i ≠ .mb3 := by
  rintro rfl
  simp [State.served, State.allowed, permits, Cmd.bare] at h

/-- The net as an enumeration finds it: what the last one left is forgotten (R414, R415). -/
def State.enumCleared (s : State) : State :=
  let clear (v : TatPortState) : TatPortState := { v with topology := false, rejoin := false }
  { s with tat := { s.tat with topoChanged := false, dn0 := clear s.tat.dn0, dn1 := clear s.tat.dn1, enum_ := none } }

theorem State.enumStart_root (s : State) : s.enumStart 1 16383 0 =
    ({ s.enumCleared with tat := { s.enumCleared.tat with id := 1, depth := 0 } }).enumPorts
      { next := 2, limit := 16383, depth := 0, dmax := 0, err := 0, port := .dn0 } dnPorts := rfl

theorem State.isRoot_congr {s t : State} (hpar : t.par = s.par) (hboot : t.boot = s.boot) (hras : t.ras = s.ras) (hrole : t.tat.role = s.tat.role) :
    t.isRoot = s.isRoot := by
  simp only [State.isRoot, State.param, hpar, hboot, hras, hrole]

/-- The end of an enumeration at the root (R414). -/
theorem State.enumEnd_root {s : State} (hroot : s.isRoot = true) (r : EnumRun) :
    (s.enumEnd r).tat = { s.tat with enum_ := none, netSize := r.next - 1, netDepth := r.dmax } ∧
    (s.enumEnd r).box.jobs.all (·.code != 0x00C0) = true := by
  unfold State.enumEnd
  dsimp only
  rw [if_pos hroot]
  refine ⟨by simp, ?_⟩
  rw [State.endJob_jobs, List.all_filter]
  simp

theorem tatEnumerate_refused {i : Mb} {s : State} (hserved : s.served i (.bare 0x00C0) = true) (hdom : s.domFailed dTat = false) :
    (s.isRoot = false → exec (.tatEnumerate i) s = (s.taken i).answered i stDenied []) ∧
    (s.isRoot = true → s.epochOpen = true → exec (.tatEnumerate i) s = (s.taken i).answered i stBusy []) := by
  constructor
  · intro hroot
    refine (exec_tatEnumerate i s).trans (State.serve_tat hserved hdom ?_)
    rw [runTatEnumerate, State.taken_isRoot, if_pos (by simp [hroot])]
    rfl
  · intro hroot hopen
    refine (exec_tatEnumerate i s).trans (State.serve_tat hserved hdom ?_)
    rw [runTatEnumerate, State.taken_isRoot, State.taken_epochOpen, if_neg (by simp [hroot]), if_pos hopen]
    rfl

/-- An enumeration that the root accepts starts with its own number (R414). -/
theorem tatEnumerate_accepted {i : Mb} {s : State} (hserved : s.served i (.bare 0x00C0) = true) (hdom : s.domFailed dTat = false)
    (hroot : s.isRoot = true) (hopen : s.epochOpen = false) :
    ∃ u : State, exec (.tatEnumerate i) s = .next (u.enumStart 1 16383 0).settle ∧ u.tat = s.tat ∧ u.isRoot = true ∧ u.tatDriven = s.tatDriven ∧
      u.box.jobs.any (·.code == 0x00C0) = true := by
  have hrun : runTatEnumerate (s.reqBody i) (s.taken i) = .accept [] (s.taken i) fun t => t.enumStart 1 16383 0 := by
    rw [runTatEnumerate, State.taken_isRoot, State.taken_epochOpen, if_neg (by simp [hroot]), if_neg (by simp [hopen])]
  have hexec := (exec_tatEnumerate i s).trans (State.serve_tatAccept (k := 0x00C0) hserved rfl hdom hrun)
  have htat := (State.withJob_tat (s.taken i) 0x00C0 (s.mb i).tag [] (served_enumerate_box hserved)).trans (s.taken_tat i)
  obtain ⟨hpar, -, hras, -, hboot, -⟩ := (s.taken i).withJob_frame i 0x00C0 (s.mb i).tag []
  rw [State.taken_par] at hpar
  rw [State.taken_ras] at hras
  rw [State.taken_boot] at hboot
  have hpwr := (State.withJob_pwr (s.taken i) i 0x00C0 (s.mb i).tag []).trans (s.taken_pwr i)
  have hjobs := (s.taken i).withJob_jobs i 0x00C0 (s.mb i).tag []
  generalize (s.taken i).withJob i 0x00C0 (s.mb i).tag [] = u at hexec htat hpar hras hboot hpwr hjobs
  refine ⟨u, hexec, htat, ?_, ?_, ?_⟩
  · rw [← hroot]
    exact State.isRoot_congr hpar hboot hras (by rw [htat])
  · simp only [State.tatDriven, State.domOn, hpwr, hboot]
  · rw [hjobs]
    simp

/-- With no device below, the root is the whole net (R414). -/
theorem State.enumStart_alone {u : State} (hroot : u.isRoot = true) (h0 : u.tat.dn0.st ≠ .up) (h1 : u.tat.dn1.st ≠ .up) :
    (u.enumStart 1 16383 0).tat = { u.enumCleared.tat with id := 1, depth := 0, netSize := 1, netDepth := 0 } ∧
    (u.enumStart 1 16383 0).box.jobs.all (·.code != 0x00C0) = true := by
  rw [State.enumStart_root]
  have hport0 : ¬(({ u.enumCleared with tat := { u.enumCleared.tat with id := 1, depth := 0 } } : State).tat.port .dn0).st = .up := h0
  have hport1 : ¬(({ u.enumCleared with tat := { u.enumCleared.tat with id := 1, depth := 0 } } : State).tat.port .dn1).st = .up := h1
  rw [dnPorts, State.enumPorts, if_neg hport0, State.enumPorts, if_neg hport1, State.enumPorts]
  exact State.enumEnd_root (s := { u.enumCleared with tat := { u.enumCleared.tat with id := 1, depth := 0 } }) hroot _

/-- With a device on DN0, ENUM goes to it first (R414). -/
theorem State.enumStart_down {u : State} (h0 : u.tat.dn0.st = .up) :
    u.enumStart 1 16383 0 = ({ u.enumCleared with tat := { u.enumCleared.tat with
      id := 1, depth := 0, enum_ := some { next := 2, limit := 16383, depth := 0, dmax := 0, err := 0, port := .dn0 } } }).tatSend .dn0 0x20
        (toLe 2 2 ++ toLe 2 16383 ++ [Byte.of 1] ++ zeros 3) := by
  rw [State.enumStart_root]
  have hport0 : (({ u.enumCleared with tat := { u.enumCleared.tat with id := 1, depth := 0 } } : State).tat.port .dn0).st = .up := h0
  rw [dnPorts, State.enumPorts, if_pos hport0]

theorem tatEnumerate_alone {i : Mb} {s : State} (hserved : s.served i (.bare 0x00C0) = true) (hdom : s.domFailed dTat = false)
    (hroot : s.isRoot = true) (hopen : s.epochOpen = false) (h0 : s.tat.dn0.st ≠ .up) (h1 : s.tat.dn1.st ≠ .up) :
    ∃ t, exec (.tatEnumerate i) s = .next t ∧ t.tat.id = 1 ∧ t.tat.netSize = 1 ∧ t.tat.netDepth = 0 ∧ t.tat.enum_ = none ∧
      t.tat.topoChanged = false ∧ t.box.jobs.all (·.code != 0x00C0) = true := by
  obtain ⟨u, hexec, htat, hroot', -, -⟩ := tatEnumerate_accepted hserved hdom hroot hopen
  obtain ⟨hend, hjobs⟩ := State.enumStart_alone hroot' (by rw [htat]; exact h0) (by rw [htat]; exact h1)
  have hset : ((u.enumStart 1 16383 0).settle).tat = (u.enumStart 1 16383 0).tat := by simp
  rw [← hset] at hend
  exact ⟨_, hexec, congrArg Tatting.id hend, congrArg Tatting.netSize hend, congrArg Tatting.netDepth hend, congrArg Tatting.enum_ hend,
    congrArg Tatting.topoChanged hend, by rw [State.settle_box]; exact hjobs⟩

theorem tatEnumerate_down {i : Mb} {s : State} (hserved : s.served i (.bare 0x00C0) = true) (hdom : s.domFailed dTat = false)
    (hroot : s.isRoot = true) (hopen : s.epochOpen = false) (h0 : s.tat.dn0.st = .up) (hdriven : s.tatDriven = true) :
    ∃ t, exec (.tatEnumerate i) s = .next t ∧ t.tat.id = 1 ∧
      t.tat.enum_ = some { next := 2, limit := 16383, depth := 0, dmax := 0, err := 0, port := .dn0 } ∧
      t.tat.dn0.tx = tatInsert { kind := 0x20, payload := toLe 2 2 ++ toLe 2 16383 ++ [1] ++ zeros 3 } s.tat.dn0.tx ∧
      t.box.jobs.any (·.code == 0x00C0) = true := by
  obtain ⟨u, hexec, htat, -, hdriven', hjobs⟩ := tatEnumerate_accepted hserved hdom hroot hopen
  have hstart := State.enumStart_down (u := u) (by rw [htat]; exact h0)
  generalize hv : ({ u.enumCleared with tat := { u.enumCleared.tat with
    id := 1, depth := 0, enum_ := some { next := 2, limit := 16383, depth := 0, dmax := 0, err := 0, port := .dn0 } } } : State) = v at hstart
  have hcore : v.tat.id = 1 ∧ v.tat.enum_ = some { next := 2, limit := 16383, depth := 0, dmax := 0, err := 0, port := .dn0 } := by
    rw [← hv]
    exact ⟨rfl, rfl⟩
  have hport : (v.tat.port .dn0).st = .up ∧ (v.tat.port .dn0).tx = s.tat.dn0.tx := by
    rw [← hv, ← htat]
    exact ⟨(congrArg (fun x => x.dn0.st) htat).trans h0, rfl⟩
  have hvdriven : v.tatDriven = true := by
    rw [← hv]
    exact hdriven'.trans hdriven
  have hbox : v.box = u.box := by rw [← hv]; rfl
  have hsent := State.tatSend_core v .dn0 0x20 (toLe 2 2 ++ toLe 2 16383 ++ [Byte.of 1] ++ zeros 3)
  have htx := State.tatSend_tx (p := .dn0) 0x20 (toLe 2 2 ++ toLe 2 16383 ++ [Byte.of 1] ++ zeros 3) (by rw [hport.1]; decide) hvdriven
  rw [← hstart] at hsent htx
  have hset : ((u.enumStart 1 16383 0).settle).tat = (u.enumStart 1 16383 0).tat := by simp
  rw [← hset] at hsent htx
  refine ⟨_, hexec, (congrArg Tatting.id hsent).trans hcore.1, (congrArg Tatting.enum_ hsent).trans hcore.2, htx.trans ?_, ?_⟩
  · rw [hport.2]
    rfl
  · rw [State.settle_box, hstart, ← hjobs, ← hbox]
    simp

/-! ## TAT_STAGE -/

theorem exec_tatStage (i : Mb) (s : State) : exec (.tatStage i) s = s.serve i cmdTatStage fun p t => t.needing dTat (runTatStage i p t) := rfl

theorem tatStage_refused {i : Mb} {s : State} (hserved : s.served i cmdTatStage = true) (hi : i ≠ .mb3) (hdom : s.domFailed dTat = false) :
    (s.isRoot = false → exec (.tatStage i) s = (s.taken i).answered i stDenied []) ∧
    (s.isRoot = true → s.epochOld (le4 (s.reqBody i) 0) = true → exec (.tatStage i) s = (s.taken i).answered i stOutOfRange []) := by
  have hnot : (i == Mb.mb3) = false := by simpa using hi
  constructor
  · intro hroot
    refine (exec_tatStage i s).trans (State.serve_tat hserved hdom ?_)
    rw [runTatStage, State.taken_isRoot, if_pos (by simp [hi, hroot])]
    rfl
  · intro hroot hold
    refine (exec_tatStage i s).trans (State.serve_tat hserved hdom ?_)
    rw [runTatStage, State.taken_isRoot, State.taken_epochOld, if_neg (by simp [hroot]), if_pos (by simp [hold, hnot])]
    rfl

/-- The epoch that a first fragment begins (R425). -/
def Epoch.begun (e : Nat) (b : List Byte) : Epoch := { e := e, bytes := b, nextOff := b.length, st := .staging, f := 0 }

/-- A first fragment begins its set anew (R425). -/
theorem runTatStage_first {i : Mb} {p : List Byte} {f : Frag} {s : State} (hroot : s.isRoot = true) (hf : fragAt p 4 = f)
    (hold : s.epochOld (le4 p 0) = false) (harmed : ∀ x, s.tat.staged = some x → x.st ≠ .armed) (hfirst : f.first = true) (hoff : f.offset = 0)
    (hlen : f.data.length ≤ 16384) : runTatStage i p s =
      (let u : State := { s with tat := { s.tat with staged := some (Epoch.begun (le4 p 0) f.data) } }
       if f.last then .accept [] u fun t => t.stageDone (i != .mb3) else .reply stOk [] u) := by
  have hnone : (s.tat.staged.any fun x => x.st == .armed) = false := by
    cases hs : s.tat.staged with
    | none => rfl
    | some x => simpa using harmed x hs
  have hcur : (s.tat.staged.bind fun x => if x.e = le4 p 0 && x.st = .staging && !f.first then some x else none) = none := by
    simp [hfirst]
  unfold runTatStage
  dsimp only
  rw [hf, if_neg (by simp [hroot]), if_neg (by simp [hold]), if_neg (by simp [hnone]), hcur]
  have hroom : ¬16384 < f.data.length := by omega
  refine (if_neg fun h => ?_).trans rfl
  rw [Bool.or_eq_true] at h
  rcases h with h | h
  · simp [hfirst, hoff] at h
  · exact hroom (of_decide_eq_true h)

theorem State.soon_congr {s t : State} (h : t.par = s.par) : t.soon = s.soon := by
  funext id
  have hwait : t.waitVal? id = s.waitVal? id := by simp only [State.waitVal?, h]
  rw [State.soon, State.soon, hwait, State.param_congr (congrArg Params.active h)]

theorem State.over_congr {s t : State} (h : t.par = s.par) (vs : List (Nat × Word)) : t.over vs = s.over vs := by
  funext id
  simp only [State.over, State.soon_congr h]

/-- The check of a set turns on the settings, the tables and this device's ID (R425). -/
theorem State.epochOk_congr {s t : State} (hpar : t.par = s.par) (htab : t.tab = s.tab) (hid : t.tat.id = s.tat.id) (b : List Byte) :
    t.epochOk b = s.epochOk b := by
  have hparam : t.param = s.param := funext (State.param_congr (congrArg Params.active hpar))
  have hrules (vs : List (Nat × Word)) : (((List.range 13).map (· + 1)).all fun k =>
      !(vs.any fun t => (setReads k).1.contains t.1 || (setReads k).2.contains t.1) || t.setRule true (t.over vs) k) =
      ((List.range 13).map (· + 1)).all fun k =>
        !(vs.any fun t => (setReads k).1.contains t.1 || (setReads k).2.contains t.1) || s.setRule true (s.over vs) k := by
    rw [Bool.eq_iff_iff, List.all_eq_true, List.all_eq_true]
    exact forall₂_congr fun k hk => by rw [State.over_congr hpar, setRule_congr true htab (fun _ _ => rfl) hk]
  have hentries (vs : List (Nat × Word)) : t.epochEntriesOk vs = s.epochEntriesOk vs := by
    unfold State.epochEntriesOk
    rw [hparam]
    exact congrArg _ (hrules vs)
  rw [State.epochOk, State.epochOk, hid, hentries]

theorem Tatting.staged_of_core {t u : Tatting} (h : t.core = u.core) : t.staged = u.staged := by
  have hstaged := congrArg Tatting.staged h
  exact hstaged

theorem State.skewWatch_staged (s : State) : s.skewWatch.tat.staged = s.tat.staged := by
  have hevent (t : State) (c e : Nat) : (t.epochEvent c e).tat = t.tat := by simp
  unfold State.skewWatch
  dsimp only
  split
  · rw [hevent]
  split
  · rw [hevent]
  · rfl

/-- A count that changes leaves the record of the staged set alone. -/
theorem State.countsChanged_staged (s : State) : s.countsChanged.tat.staged = s.tat.staged := by
  have hend (t : State) (b : Bool) : (t.stageEnd b).tat = t.tat := by simp
  unfold State.countsChanged
  split
  · rw [State.skewWatch_staged, hend]
  split
  · rfl
  · unfold State.sendCounts
    split
    · rfl
    · exact Tatting.staged_of_core (s.tatSend_core _ _ _)

theorem State.sendSet_core (s : State) (p : TatPort) (e : Nat) (b : List Byte) : (s.sendSet p e b).tat.core = s.tat.core :=
  List.foldlRecOn (motive := fun t : State => t.tat.core = s.tat.core) _ _ rfl fun t ht _ _ => (t.tatSend_core _ _ _).trans ht

theorem State.tatDown_core (s : State) (k : Nat) (b : List Byte) : (s.tatDown k b).tat.core = s.tat.core :=
  List.foldlRecOn (motive := fun t : State => t.tat.core = s.tat.core) _ _ rfl fun t ht _ _ => (t.tatSend_core _ _ _).trans ht

/-- A set that has come whole is checked, and at the root sent on (R425). -/
theorem State.stageDone_staged {s : State} {ep : Epoch} (h : s.tat.staged = some ep) :
    (s.stageDone true).tat.staged = some { ep with st := if s.epochOk ep.bytes then .staged else .failed } := by
  have hend (t : State) (b : Bool) : (t.stageEnd b).tat = t.tat := by simp
  have hevent (t : State) (c e : Nat) : (t.epochEvent c e).tat = t.tat := by simp
  have hsets (t : State) : (dnPorts.foldl (fun t p => t.sendSet p ep.e ep.bytes) t).tat.core = t.tat.core :=
    List.foldlRecOn (motive := fun u : State => u.tat.core = t.tat.core) _ _ rfl fun u hu _ _ => (u.sendSet_core _ _ _).trans hu
  have hsent (t : State) : (dnPorts.foldl (fun t p => t.sendSet p ep.e ep.bytes) t).tat.staged = t.tat.staged :=
    Tatting.staged_of_core (hsets t)
  unfold State.stageDone
  rw [h]
  dsimp only
  rw [if_pos rfl, State.skewWatch_staged, hend, hsent, hevent, State.onStaged, h]
  rfl

theorem fragAt_data_length (p : List Byte) (o : Nat) : (fragAt p o).data.length ≤ p.length := by
  simp [fragAt]

theorem maxPayload_le (i : Mb) : maxPayload i ≤ 504 := by
  cases i <;> decide

/-- TAT_STAGE of a first fragment at the root (R425). -/
theorem tatStage_first {i : Mb} {f : Frag} {s : State} (hserved : s.served i cmdTatStage = true) (hi : i ≠ .mb3) (hdom : s.domFailed dTat = false)
    (hroot : s.isRoot = true) (hf : fragAt (s.reqBody i) 4 = f) (hold : s.epochOld (le4 (s.reqBody i) 0) = false)
    (harmed : ∀ x, s.tat.staged = some x → x.st ≠ .armed) (hfirst : f.first = true) (hoff : f.offset = 0) :
    let e := le4 (s.reqBody i) 0
    (f.last = false →
      exec (.tatStage i) s = ({ s.taken i with tat := { s.tat with staged := some (Epoch.begun e f.data) } }).answered i stOk []) ∧
    (f.last = true →
      ∃ t, exec (.tatStage i) s = .next t ∧ t.tat.staged = some { Epoch.begun e f.data with st := if s.epochOk f.data then .staged else .failed }) := by
  intro e
  have hlen : f.data.length ≤ 16384 := by
    have hbody := State.served_length hserved
    have hdata := fragAt_data_length (s.reqBody i) 4
    have hmax := maxPayload_le i
    rw [hf] at hdata
    omega
  have hrun := runTatStage_first (i := i) (s := s.taken i) (by rw [State.taken_isRoot, hroot]) hf (by rw [State.taken_epochOld, hold])
    (by rw [State.taken_tat]; exact harmed) hfirst hoff hlen
  rw [State.taken_tat] at hrun
  dsimp only at hrun
  constructor
  · intro hlast
    rw [if_neg (by simp [hlast])] at hrun
    exact (exec_tatStage i s).trans (State.serve_tat hserved hdom hrun)
  · intro hlast
    rw [if_pos hlast] at hrun
    have hexec := (exec_tatStage i s).trans (State.serve_tatAccept (k := 0x00C1) hserved rfl hdom hrun)
    have hnot : (i != Mb.mb3) = true := by simpa using hi
    rw [hnot] at hexec
    have htat := State.withJob_tat { s.taken i with tat := { s.tat with staged := some (Epoch.begun e f.data) } } 0x00C1 (s.mb i).tag [] hi
    have hpar := (State.withJob_frame { s.taken i with tat := { s.tat with staged := some (Epoch.begun e f.data) } } i 0x00C1 (s.mb i).tag []).1
    obtain ⟨-, -, -, htab, -⟩ := State.withJob_frame { s.taken i with tat := { s.tat with staged := some (Epoch.begun e f.data) } } i 0x00C1 (s.mb i).tag []
    generalize State.withJob { s.taken i with tat := { s.tat with staged := some (Epoch.begun e f.data) } } i 0x00C1 (s.mb i).tag [] = u at hexec htat hpar htab
    have hok : u.epochOk f.data = s.epochOk f.data :=
      State.epochOk_congr (hpar.trans (s.taken_par i)) (htab.trans (s.taken_tab i)) (by rw [htat]) _
    have hdone := State.stageDone_staged (s := u) (ep := Epoch.begun e f.data) (by rw [htat])
    refine ⟨_, hexec, ?_⟩
    rw [← hok]
    exact (congrArg Tatting.staged (State.settle_tat _)).trans hdone

/-! ## TAT_ARM -/

theorem exec_tatArm (i : Mb) (s : State) : exec (.tatArm i) s = s.serve i (.fixed 0x00C2 8 fun _ => true) fun p t => t.needing dTat (runTatArm p t) := rfl

/-- The state once the root has armed an epoch for a frame (R427). -/
def State.armed (s : State) (ep : Epoch) (f : Nat) : State :=
  { s with tat := { s.tat with staged := some { ep with st := .armed, f := f }, armE := ep.e, armF := f, armTiming := some (s.nextTiming ep.bytes) } }

theorem tatArm_answers {i : Mb} {ep : Epoch} {s : State} (hserved : s.served i (.fixed 0x00C2 8 fun _ => true) = true) (hdom : s.domFailed dTat = false)
    (hstaged : s.tat.staged = some ep) :
    (s.isRoot = false → exec (.tatArm i) s = (s.taken i).answered i stDenied []) ∧
    (s.isRoot = true → ep.st = .armed → exec (.tatArm i) s = (s.taken i).answered i stBusy []) ∧
    (s.isRoot = true → ep.st ≠ .armed → (ep.e ≠ le4 (s.reqBody i) 0 ∨ ep.st ≠ .staged) →
      exec (.tatArm i) s = (s.taken i).answered i stNotStaged []) ∧
    (s.isRoot = true → ep.st = .staged → ep.e = le4 (s.reqBody i) 0 → le4 (s.reqBody i) 4 = 0 →
      exec (.tatArm i) s = ((s.taken i).armed ep (s.ras.frame + BitVec.ofNat 32 (2 * s.tat.netDepth + s.param 0x5004)).toNat).answered i stOk
        (toLe 4 (s.ras.frame + BitVec.ofNat 32 (2 * s.tat.netDepth + s.param 0x5004)).toNat)) := by
  have hstaged' : (s.taken i).tat.staged = some ep := by rw [State.taken_tat, hstaged]
  have hroot' := s.taken_isRoot i
  refine ⟨fun hroot => ?_, fun hroot harmed => ?_, fun hroot hnot hwhy => ?_, fun hroot hst he hf => ?_⟩
  all_goals
    refine (exec_tatArm i s).trans (State.serve_tat hserved hdom ?_)
    unfold runTatArm
    dsimp only
    rw [hstaged', hroot', hroot]
    dsimp only
  · rfl
  · rw [if_neg (c := (!true) = true) (by decide), if_pos harmed]
    rfl
  · rw [if_neg (c := (!true) = true) (by decide), if_neg hnot, if_pos (by simpa using hwhy)]
    rfl
  · have hst' : ep.st ≠ .armed := by rw [hst]; decide
    have hframe : ((s.taken i).ras.frame + BitVec.ofNat 32 (2 * (s.taken i).tat.netDepth + (s.taken i).param 0x5004)).toNat =
        (s.ras.frame + BitVec.ofNat 32 (2 * s.tat.netDepth + s.param 0x5004)).toNat := by
      rw [State.taken_ras, State.taken_tat, State.taken_param]
    rw [if_neg (c := (!true) = true) (by decide), if_neg hst', if_neg (by simp [hst, he]), if_pos hf, hframe, if_neg (by simp), ← he]
    rfl

/-! ## TAT_ABORT -/

theorem exec_tatAbort (i : Mb) (s : State) : exec (.tatAbort i) s = s.serve i (.fixed 0x00C3 4 fun _ => true) fun p t => t.needing dTat (runTatAbort p t) := rfl

theorem tatAbort_refused {i : Mb} {s : State} (hserved : s.served i (.fixed 0x00C3 4 fun _ => true) = true) (hdom : s.domFailed dTat = false) :
    (s.isRoot = false → exec (.tatAbort i) s = (s.taken i).answered i stDenied []) ∧
    (s.isRoot = true → s.epochRec (le4 (s.reqBody i) 0) = none → exec (.tatAbort i) s = (s.taken i).answered i stNotStaged []) := by
  constructor
  · intro hroot
    refine (exec_tatAbort i s).trans (State.serve_tat hserved hdom ?_)
    rw [runTatAbort, State.taken_isRoot, if_pos (by simp [hroot])]
    rfl
  · intro hroot hnone
    refine (exec_tatAbort i s).trans (State.serve_tat hserved hdom ?_)
    rw [runTatAbort, State.taken_isRoot, if_neg (by simp [hroot]), State.taken_epochRec, hnone]
    rfl

/-- A staged or armed epoch that is discarded (R430). -/
theorem State.epochDrop_staged {s : State} {ep : Epoch} (h : s.tat.staged = some ep) (hst : ep.st ≠ .aborted) :
    (s.epochDrop ep.e).tat.staged = some { ep with st := .aborted, bytes := [] } ∧ (s.epochDrop ep.e).par = s.par := by
  have hevent (t : State) (c e : Nat) : (t.epochEvent c e).tat = t.tat := by simp
  refine ⟨?_, by simp⟩
  unfold State.epochDrop
  rw [if_pos (by simp [h, hst])]
  dsimp only
  rw [State.countsChanged_staged, hevent, State.onStaged, h]
  rfl

theorem State.epochRec_staged {s : State} {ep : Epoch} (h : s.tat.staged = some ep) : s.epochRec ep.e = some ep := by
  unfold State.epochRec
  rw [h]
  cases s.tat.applied with
  | none => exact if_pos rfl
  | some y => exact if_pos rfl

/-- TAT_ABORT of an epoch that no beacon has started (R430). -/
theorem tatAbort_drops {i : Mb} {ep : Epoch} {s : State} (hserved : s.served i (.fixed 0x00C3 4 fun _ => true) = true) (hdom : s.domFailed dTat = false)
    (hroot : s.isRoot = true) (hstaged : s.tat.staged = some ep) (he : ep.e = le4 (s.reqBody i) 0) (hst : ep.st = .staging ∨ ep.st = .staged) :
    ∃ t : State, exec (.tatAbort i) s = t.answered i stOk [] ∧ t.tat.staged = some { ep with st := .aborted, bytes := [] } ∧ t.par = s.par := by
  have hstaged' : (s.taken i).tat.staged = some ep := by rw [State.taken_tat, hstaged]
  have hrun : runTatAbort (s.reqBody i) (s.taken i) = .reply stOk [] (((s.taken i).epochDrop ep.e).tatDown 0x33 (toLe 4 ep.e ++ zeros 4)) := by
    unfold runTatAbort
    dsimp only
    rw [State.taken_isRoot, if_neg (by simp [hroot]), ← he, State.epochRec_staged hstaged']
    dsimp only
    rcases hst with hst | hst
    · rw [if_neg (by simp [hst]), if_neg (by simp [hst])]
    · rw [if_neg (by simp [hst]), if_neg (by simp [hst])]
  have hnot : ep.st ≠ .aborted := by rcases hst with hst | hst <;> rw [hst] <;> decide
  obtain ⟨hdrop, hpar⟩ := State.epochDrop_staged hstaged' hnot
  refine ⟨_, (exec_tatAbort i s).trans (State.serve_tat hserved hdom hrun), ?_, ?_⟩
  · exact (Tatting.staged_of_core (State.tatDown_core _ _ _)).trans hdrop
  · have hsent (t : State) (k : Nat) (b : List Byte) : (t.tatDown k b).par = t.par := by simp
    rw [hsent, hpar, State.taken_par]

/-! ## TAT_STATUS -/

theorem tatStatus_answers {i : Mb} {s : State} (hserved : s.served i (.fixed 0x00C4 4 fun _ => true) = true) :
    let e := le4 (s.reqBody i) 0
    ((s.epochRec e).isSome = true ∨ (e = s.tat.wantE ∧ e ≠ 0) →
      exec (.tatStatus i) s = (s.taken i).answered i (if 0 < (s.counts e).skewed then stSkew else stOk) (s.countBytes e)) ∧
    (s.epochRec e = none → e ≠ s.tat.wantE → exec (.tatStatus i) s = (s.taken i).answered i stNotStaged []) := by
  intro e
  have hexec : exec (.tatStatus i) s = s.serve i (.fixed 0x00C4 4 fun _ => true) runTatStatus := rfl
  have hrun : runTatStatus (s.reqBody i) (s.taken i) =
      if !((s.epochRec e).isSome || (e == s.tat.wantE && e != 0)) then .refuse stNotStaged (s.taken i)
      else .reply (if 0 < (s.counts e).skewed then stSkew else stOk) (s.countBytes e) (s.taken i) := by
    unfold runTatStatus
    dsimp only
    rw [State.taken_epochRec, State.taken_tat, State.taken_counts, State.taken_countBytes]
  constructor
  · intro hknown
    have hyes : ((s.epochRec e).isSome || (e == s.tat.wantE && e != 0)) = true := by simpa using hknown
    rw [hyes, if_neg (by decide)] at hrun
    exact hexec.trans (State.serve_reply hserved hrun)
  · intro hnone hother
    rw [if_pos (by simp [hnone, hother])] at hrun
    exact hexec.trans (State.serve_reply hserved hrun)

/-- Settles O51: each command is followed through its checks to the record of the staged set or the enumeration it begins. -/
theorem tattingCommandsAct : Obligations.TattingCommandsAct := by
  unfold Obligations.TattingCommandsAct
  refine ⟨?_, ?_, ?_, ?_, ?_, ?_, ?_⟩
  · intro i s hserved
    refine ⟨fun hdom => (exec_tatEnumerate i s).trans (State.serve_tatFailed hserved _ hdom), fun hdom => ?_⟩
    obtain ⟨hdenied, hbusy⟩ := tatEnumerate_refused hserved hdom
    exact ⟨hdenied, hbusy, fun hroot hopen h0 h1 => tatEnumerate_alone hserved hdom hroot hopen h0 h1,
      fun hroot hopen h0 hdriven => tatEnumerate_down hserved hdom hroot hopen h0 hdriven⟩
  · intro i f s hserved hi hdom hroot hf e hold harmed hfirst hoff
    exact tatStage_first hserved hi hdom hroot hf hold harmed hfirst hoff
  · exact fun i s hserved hi hdom => tatStage_refused hserved hi hdom
  · intro i ep s hserved hdom hstaged
    obtain ⟨hdenied, hbusy, hnot, harm⟩ := tatArm_answers hserved hdom hstaged
    refine ⟨hdenied, hbusy, hnot, fun hroot hst he hf => ⟨_, harm hroot hst he hf, rfl, rfl, rfl, s.taken_par i, s.taken_ras i⟩⟩
  · intro i ep s hserved hdom hroot hstaged he hst
    exact tatAbort_drops hserved hdom hroot hstaged he hst
  · exact fun i s hserved hdom => tatAbort_refused hserved hdom
  · exact fun i s hserved => tatStatus_answers hserved

end Sys2Proof.Machine
end

section
/-! CLAIM O52. Tatting ports come up, go down and measure their hop. -/

namespace Sys2Proof.Machine

/-! ## Messages heard -/

theorem State.tatTake_none {s : State} {p : TatPort} {codes : List (BitVec 10)} (kind : Nat) (f : List Byte → State → Out)
    (hup : (s.tat.port p).st ≠ .down) (h : tatHear codes = none) : s.tatTake p kind codes f = .next (s.count 1286 1) := by
  rw [State.tatTake, if_neg hup, h]

theorem State.tatTake_heard {s : State} {p : TatPort} {codes : List (BitVec 10)} {kind : Nat} {m : List Byte} (f : List Byte → State → Out)
    (hup : (s.tat.port p).st ≠ .down) (h : tatHear codes = some (kind, m)) : s.tatTake p kind codes f = f m s := by
  rw [State.tatTake, if_neg hup, h]
  exact if_pos rfl

/-! ## Ports -/

theorem State.portEvent_tat (s : State) (p : TatPort) (cause : Nat) : (s.portEvent p cause).tat = s.tat := by simp

/-- A port on which what a rejoining device lacks is sent again stays UP (R415). -/
theorem State.rejoin_st (s : State) (p : TatPort) : ((s.rejoin p).tat.port p).st = (s.tat.port p).st := by
  unfold State.rejoin
  dsimp only
  split
  · rfl
  · rw [State.tatSend_self, Tatting.port_setPort_self]

theorem tatPortUp_comesUp {p : TatPort} {s : State} (hst : (s.tat.port p).st = .down) (hon : s.portOn p = true) (hdom : s.domOn dTat = true) :
    ∃ t, exec (.tatPortUp p) s = .next t ∧ (t.tat.port p).st = if p = .up then .measuring else .up := by
  have hexec : exec (.tatPortUp p) s = execTatPortUp p s := rfl
  unfold execTatPortUp at hexec
  dsimp only at hexec
  rw [if_neg (by simp [hst, hon, hdom])] at hexec
  by_cases hup : p = .up
  · rw [if_pos hup] at hexec
    obtain ⟨q, hq⟩ := done_eq _
    refine ⟨_, hexec.trans hq, ?_⟩
    rw [if_pos hup]
    exact congrArg TatPortState.st (Tatting.port_setPort_self _ _ _)
  · rw [if_neg hup] at hexec
    obtain ⟨q, hq⟩ := done_eq _
    refine ⟨_, hexec.trans hq, ?_⟩
    rw [if_neg hup]
    refine (State.rejoin_st _ p).trans ?_
    rw [State.portEvent_tat]
    exact congrArg TatPortState.st (Tatting.port_setPort_self _ _ _)

/-- A port that goes down drops what waits on it, and no other port is touched (R411). -/
theorem State.portDown_ports {s : State} {p : TatPort} (h : (s.tat.port p).st ≠ .down) :
    ((s.portDown p).tat.port p).st = .down ∧ ((s.portDown p).tat.port p).tx = [] ∧ ∀ q, q ≠ p → (s.portDown p).tat.port q = s.tat.port q := by
  have hcut (t : Tatting) (c : Prop) [Decidable c] (q : TatPort) : (if c then { t with reqAt := none, hops := [] } else t).port q = t.port q := by
    split
    · cases q <;> rfl
    · rfl
  unfold State.portDown
  dsimp only
  rw [if_neg h, State.portEvent_tat]
  dsimp only
  rw [hcut, Tatting.port_setPort_self]
  refine ⟨rfl, rfl, fun q hq => ?_⟩
  rw [hcut, Tatting.port_setPort_other _ _ hq]

/-- A code error joins those of the last millisecond (R411). -/
theorem tatCodeError_counts {p : TatPort} (at_ : Nat) {s : State} {recent : List Nat} (hst : (s.tat.port p).st ≠ .down)
    (hrecent : ((s.tat.port p).errs.filter fun e => max s.now at_ < e + ms 1) = recent) :
    (recent.length + 1 < 16 →
      ∃ t, exec (.tatCodeError p at_) s = .next t ∧ (t.tat.port p).st = (s.tat.port p).st ∧ (t.tat.port p).errs = recent ++ [max s.now at_]) ∧
    (16 ≤ recent.length + 1 →
      ∃ t, exec (.tatCodeError p at_) s = .next t ∧ (t.tat.port p).st = .down ∧ (t.tat.port p).tx = []) := by
  have hexec : exec (.tatCodeError p at_) s = execTatCodeError p at_ s := rfl
  have htat : ((s.elapse at_).count 1285 1).tat = s.tat := by simp
  have hnow : ((s.elapse at_).count 1285 1).now = max s.now at_ := by simp
  unfold execTatCodeError at hexec
  dsimp only at hexec
  rw [if_neg hst] at hexec
  generalize (s.elapse at_).count 1285 1 = v at hexec htat hnow
  have herrs : ((s.tat.port p).errs.filter fun e => v.now < e + ms 1) ++ [v.now] = recent ++ [max s.now at_] := by rw [hnow, hrecent]
  rw [herrs] at hexec
  generalize hu : ({ v with tat := v.tat.setPort p { v.tat.port p with errs := recent ++ [max s.now at_] } } : State) = u at hexec
  have hport : u.tat.port p = { s.tat.port p with errs := recent ++ [max s.now at_] } := by
    rw [← hu, ← htat]
    exact Tatting.port_setPort_self _ _ _
  have hlen : (recent ++ [max s.now at_]).length = recent.length + 1 := by simp
  constructor
  · intro hfew
    rw [if_neg (by rw [hlen]; omega)] at hexec
    obtain ⟨q, hq⟩ := done_eq u
    exact ⟨_, hexec.trans hq, (congrArg TatPortState.st hport).trans rfl, congrArg TatPortState.errs hport⟩
  · intro hmany
    rw [if_pos (by rw [hlen]; exact hmany)] at hexec
    obtain ⟨q, hq⟩ := done_eq (u.portDown p)
    obtain ⟨hdown, htx, -⟩ := State.portDown_ports (s := u) (p := p) (by rw [hport]; exact hst)
    exact ⟨_, hexec.trans hq, hdown, htx⟩

theorem tatPortSilence_drops {p : TatPort} {s : State} (hst : (s.tat.port p).st ≠ .down) :
    ∃ t, exec (.tatPortSilence p) s = .next t ∧ (t.tat.port p).st = .down ∧ (t.tat.port p).tx = [] ∧ ∀ q, q ≠ p → t.tat.port q = s.tat.port q := by
  obtain ⟨q, hq⟩ := done_eq (s.portDown p)
  obtain ⟨hdown, htx, hother⟩ := State.portDown_ports hst
  exact ⟨_, hq, hdown, htx, hother⟩

/-- A message that does not decode, fails its CRC-16 or has an unknown TYPE is counted, whatever command brings it (R411). -/
theorem tatMessage_discarded {p : TatPort} {codes : List (BitVec 10)} {s : State} (hst : (s.tat.port p).st ≠ .down) (h : tatHear codes = none) (a b : Nat)
    {c : Instr} (hc : c ∈ [Instr.tatMsgCrcFail (p, codes), .delayReq p a b codes, .beacon p a b b codes, .enumerate p codes, .enumDone p codes,
      .stageFragment p codes, .countUp p codes, .setReq p codes, .abortEpoch p codes, .peer p codes, .pairEvent p codes]) :
    exec c s = .next (s.count 1286 1) := by
  simp only [List.mem_cons, List.not_mem_nil, or_false] at hc
  rcases hc with rfl | rfl | rfl | rfl | rfl | rfl | rfl | rfl | rfl | rfl | rfl
  all_goals exact State.tatTake_none _ _ hst h

/-! ## Hop delay -/

theorem delayReqTimer_sends (sent : Nat) {s : State} (hroot : s.isRoot = false) (hst : s.tat.up.st ≠ .down) (hdriven : s.tatDriven = true) :
    ∃ t, exec (.delayReqTimer sent) s = .next t ∧ t.tat.seq = (s.tat.seq + 1) % 65536 ∧ t.tat.reqAt = some sent ∧
      t.tat.up.tx = tatInsert { kind := 0x11, payload := toLe 2 ((s.tat.seq + 1) % 65536) ++ zeros 14 } s.tat.up.tx := by
  have hexec : exec (.delayReqTimer sent) s = execDelayReqTimer sent s := rfl
  unfold execDelayReqTimer at hexec
  dsimp only at hexec
  rw [if_neg (by simp [hroot, hst])] at hexec
  have hcore := State.tatSend_core { s with tat := { s.tat with seq := (s.tat.seq + 1) % 65536, reqAt := some sent } } .up 0x11
    (toLe 2 ((s.tat.seq + 1) % 65536) ++ zeros 14)
  have htx := State.tatSend_tx (s := { s with tat := { s.tat with seq := (s.tat.seq + 1) % 65536, reqAt := some sent } }) (p := .up) 0x11
    (toLe 2 ((s.tat.seq + 1) % 65536) ++ zeros 14) hst hdriven
  exact ⟨_, hexec, (congrArg Tatting.seq hcore).trans rfl, (congrArg Tatting.reqAt hcore).trans rfl, htx⟩

theorem delayReq_answers {p : TatPort} (a b : Nat) {codes : List (BitVec 10)} {m : List Byte} {s : State} (hm : tatHear codes = some (0x11, m))
    (hp : p ≠ .up) (hlen : m.length = 16) (hst : (s.tat.port p).st ≠ .down) (hdriven : s.tatDriven = true) :
    ∃ t, exec (.delayReq p a b codes) s = .next t ∧
      (t.tat.port p).tx = tatInsert { kind := 0x12, payload := slice m 0 2 ++ zeros 2 ++ toLe 4 (b - a) ++ zeros 8 } (s.tat.port p).tx ∧
      ∀ q, q ≠ p → t.tat.port q = s.tat.port q := by
  have hexec : exec (.delayReq p a b codes) s = runDelayReq p a b m s := State.tatTake_heard _ hst hm
  rw [runDelayReq, if_neg (by simp [hp, hlen])] at hexec
  exact ⟨_, hexec, State.tatSend_tx _ _ hst hdriven, fun q hq => State.tatSend_other _ _ _ hq⟩

/-- The hop delays after one more: the newest sixteen (R416). -/
theorem hops_length {l : List Nat} (d : Nat) (h : l.length ≤ 16) : ((l ++ [d]).drop (l.length - 15)).length = min 16 (l.length + 1) := by
  rw [List.length_drop, List.length_append, List.length_singleton]
  omega

theorem hops_getLast? {l : List Nat} (d : Nat) : ((l ++ [d]).drop (l.length - 15)).getLast? = some d := by
  rw [List.drop_append_of_le_length (by omega), List.getLast?_append]
  rfl

theorem delayResp_measures (a : Nat) {t1 : Nat} {codes : List (BitVec 10)} {m : List Byte} {s : State} (hm : tatHear codes = some (0x12, m))
    (hreq : s.tat.reqAt = some t1) (hlen : m.length = 16) (hseq : le2 m 0 = s.tat.seq) (hst : s.tat.up.st ≠ .down) (hhops : s.tat.hops.length ≤ 16) :
    ∃ t, exec (.delayResp a codes) s = .next t ∧ t.tat.reqAt = none ∧ t.tat.hops.getLast? = some ((a - t1 - le4 m 4) / 2) ∧
      t.tat.hopDelay = median t.tat.hops ∧ t.tat.hops.length = min 16 (s.tat.hops.length + 1) ∧
      t.tat.up.st = if s.tat.up.st = .measuring ∧ 15 ≤ s.tat.hops.length then .up else s.tat.up.st := by
  have hexec : exec (.delayResp a codes) s = runDelayResp a m s := State.tatTake_heard (p := .up) _ hst hm
  unfold runDelayResp at hexec
  rw [hreq] at hexec
  dsimp only at hexec
  rw [if_neg (by simp [hlen, hseq, hst])] at hexec
  generalize hhop : (s.tat.hops ++ [(a - t1 - le4 m 4) / 2]).drop (s.tat.hops.length - 15) = hops at hexec
  have hlast : hops.getLast? = some ((a - t1 - le4 m 4) / 2) := by rw [← hhop, hops_getLast?]
  have hcount : hops.length = min 16 (s.tat.hops.length + 1) := by rw [← hhop, hops_length _ hhops]
  by_cases hready : s.tat.up.st = .measuring ∧ 15 ≤ s.tat.hops.length
  · have hfull : 16 ≤ hops.length := by omega
    rw [if_pos (by simp [hready.1, hfull])] at hexec
    obtain ⟨q, hq⟩ := done_eq _
    rw [hq] at hexec
    refine ⟨_, hexec, ?_⟩
    rw [if_pos hready, State.portEvent_tat]
    exact ⟨rfl, hlast, rfl, hcount, rfl⟩
  · have hnot : ¬(s.tat.up.st = .measuring ∧ 16 ≤ hops.length) := fun h => hready ⟨h.1, by omega⟩
    rw [if_neg (by simpa using hnot)] at hexec
    obtain ⟨q, hq⟩ := done_eq _
    refine ⟨_, hexec.trans hq, ?_⟩
    rw [if_neg hready]
    exact ⟨rfl, hlast, rfl, hcount, rfl⟩

/-- Settles O52 (log entry 59): each command is followed through its checks to the port or the hop delays it changes. -/
theorem portsComeUpAndMeasure : Obligations.PortsComeUpAndMeasure := by
  unfold Obligations.PortsComeUpAndMeasure
  refine ⟨fun p s hst hon hdom => tatPortUp_comesUp hst hon hdom, fun p at_ s hst => tatCodeError_counts at_ hst rfl, fun p s hst => ?_,
    fun sent s hroot hst hdriven => delayReqTimer_sends sent hroot hst hdriven,
    fun p a b codes m s hm hp hlen hst hdriven => delayReq_answers a b hm hp hlen hst hdriven,
    fun a t1 codes m s hm hreq hlen hseq hst hhops => delayResp_measures a hm hreq hlen hseq hst hhops, fun s => rfl⟩
  exact ⟨tatPortSilence_drops hst, fun codes a b c hnone hc => tatMessage_discarded hst hnone a b hc⟩

end Sys2Proof.Machine
end

section
/-! CLAIM O53. Beacons sent, accepted, late and missing. -/

namespace Sys2Proof.Machine

/-! ## Messages on the DN ports -/

/-- A message for every DN port joins the queue of each that is open (R412). -/
theorem State.tatDown_tx (s : State) (k : Nat) (b : List Byte) {p : TatPort} (hp : p ≠ .up) (hst : (s.tat.port p).st ≠ .down) (hdriven : s.tatDriven = true) :
    ((s.tatDown k b).tat.port p).tx = tatInsert { kind := k, payload := b } (s.tat.port p).tx := by
  have hboth : s.tatDown k b = (s.tatSend .dn0 k b).tatSend .dn1 k b := rfl
  rw [hboth]
  cases p with
  | up => exact absurd rfl hp
  | dn0 =>
    rw [State.tatSend_other _ _ _ (by decide), State.tatSend_tx k b hst hdriven]
  | dn1 =>
    have hkept : (s.tatSend .dn0 k b).tat.port .dn1 = s.tat.port .dn1 := State.tatSend_other _ _ _ (by decide)
    rw [State.tatSend_tx k b (by rw [hkept]; exact hst) (by rw [State.tatSend_tatDriven]; exact hdriven), hkept]

/-! ## A beacon's payload -/

theorem beaconBytes_length (frame : Nat) (offset : Int) (periodNs rowTime depth flags armedE applyF appliedE nextPeriod nextRow : Nat) :
    (beaconBytes frame offset periodNs rowTime depth flags armedE applyF appliedE nextPeriod nextRow).length = 48 := by
  simp [beaconBytes, zeros]

theorem beaconBytes_depth (frame : Nat) (offset : Int) (periodNs rowTime depth flags armedE applyF appliedE nextPeriod nextRow : Nat) :
    byteAt (beaconBytes frame offset periodNs rowTime depth flags armedE applyF appliedE nextPeriod nextRow) 14 = Byte.of depth := by
  simp [beaconBytes, byteAt, toLe]

theorem beaconBytes_flags (frame : Nat) (offset : Int) (periodNs rowTime depth flags armedE applyF appliedE nextPeriod nextRow : Nat) :
    byteAt (beaconBytes frame offset periodNs rowTime depth flags armedE applyF appliedE nextPeriod nextRow) 15 = Byte.of flags := by
  simp [beaconBytes, byteAt, toLe]

theorem beaconBytes_frame (frame : BitVec 32) (offset : Int) (periodNs rowTime depth flags armedE applyF appliedE nextPeriod nextRow : Nat) :
    le4 (beaconBytes frame.toNat offset periodNs rowTime depth flags armedE applyF appliedE nextPeriod nextRow) 0 = frame.toNat := by
  have hhead : le4 (beaconBytes frame.toNat offset periodNs rowTime depth flags armedE applyF appliedE nextPeriod nextRow) 0 =
      leAt (toLe 4 frame.toNat) 0 4 := by
    refine leAt_congr fun k hk => ?_
    simp only [beaconBytes, List.append_assoc]
    exact byteAt_append_left (by simpa using hk)
  rw [hhead, leAt_toLe, Nat.mod_eq_of_lt (by have := frame.isLt; omega)]

theorem beaconSend_root {s : State} (hrun : s.ras.running = true) (hroot : s.isRoot = true) (hmode : s.ras.active = .lattice) (hst : s.tat.dn0.st ≠ .down)
    (hdriven : s.tatDriven = true) (harm : s.tat.armE = 0) :
    ∃ t b, exec .beaconSend s = .next t ∧ t.tat.dn0.tx = tatInsert { kind := 0x10, payload := b } s.tat.dn0.tx ∧ b.length = 48 ∧
      le4 b 0 = (s.ras.frame + 1).toNat ∧ byteAt b 14 = 0 ∧ byteAt b 15 = 0 ∧ t.ras = s.ras := by
  have hexec : exec .beaconSend s = .next s.rootBeacon := by
    have hdef : exec .beaconSend s = execBeaconSend s := rfl
    rw [hdef, execBeaconSend, if_neg (by simp [hrun]), if_pos hroot, if_pos hmode]
  obtain ⟨x, b, hbeacon, hlen, hframe, hdepth, hflags⟩ : ∃ (x : BeaconTiming) (b : List Byte),
      s.rootBeacon = ({ s with tat := { s.tat with last := some x } }).tatDown 0x10 b ∧ b.length = 48 ∧ le4 b 0 = (s.ras.frame + 1).toNat ∧
      byteAt b 14 = 0 ∧ byteAt b 15 = 0 := by
    refine ⟨_, _, rfl, beaconBytes_length _ _ _ _ _ _ _ _ _ _ _, beaconBytes_frame _ _ _ _ _ _ _ _ _ _ _, beaconBytes_depth _ _ _ _ _ _ _ _ _ _ _, ?_⟩
    refine (beaconBytes_flags _ _ _ _ _ _ _ _ _ _ _).trans ?_
    rw [harm]
    rfl
  refine ⟨_, b, hexec, ?_, hlen, hframe, hdepth, hflags, ?_⟩
  · rw [hbeacon]
    exact State.tatDown_tx _ _ _ (p := .dn0) (by decide) hst hdriven
  · rw [hbeacon]
    simp

/-! ## A beacon received -/

theorem exec_beacon (a s0 s1 : Nat) {codes : List (BitVec 10)} {p : List Byte} {s : State} (hm : tatHear codes = some (0x10, p)) (hst : s.tat.up.st = .up)
    (hlen : p.length = 48) (hdepth : (byteAt p 14).toNat ≤ 15) : exec (.beacon .up a s0 s1 codes) s =
      if !(s.beaconTiming a p).2 then done (s.count 1282 1) else done (s.beaconAccept (s.beaconTiming a p).1 p a s0 s1) := by
  have hup : (s.tat.port .up).st ≠ .down := by
    rw [show s.tat.port .up = s.tat.up from rfl, hst]
    decide
  have hexec : exec (.beacon .up a s0 s1 codes) s = runBeacon .up a s0 s1 p s := State.tatTake_heard _ hup hm
  have hfits : ¬15 < (byteAt p 14).toNat := by omega
  rw [hexec, runBeacon, if_neg hup, if_neg (by simp), if_neg (by simp [hlen, hst, hfits])]

theorem State.beaconTiming_says (s : State) (a : Nat) (p : List Byte) : (s.beaconTiming a p).1.flags = (byteAt p 15).toNat ∧
    (s.beaconTiming a p).1.appliedE = le4 p 24 := ⟨rfl, rfl⟩

/-- A beacon that says nothing of epochs leaves them alone (R428, R429). -/
theorem State.hearEpochs_none {s : State} {b : BeaconTiming} (p : List Byte) (hflags : b.flags = 0) (harm : s.tat.armE = 0) (happlied : b.appliedE ≤ s.appliedE) :
    s.hearEpochs b p = s := by
  unfold State.hearEpochs
  rw [if_neg (by rw [hflags]; decide), hflags, if_neg (by decide)]
  dsimp only
  rw [State.hearNoArming, if_pos harm, State.hearApplied]
  exact if_pos (by simp [happlied])

theorem State.forwardBeacon_core (s : State) (p : List Byte) (a s0 s1 : Nat) : (s.forwardBeacon p a s0 s1).tat.core = s.tat.core := by
  unfold State.forwardBeacon
  rw [State.tatSend_core, State.tatSend_core]

/-- A timing that fits locks a device that is not islanded (R420). -/
theorem State.beaconTimes_locks {s : State} (b : BeaconTiming) (prev : Option BeaconTiming) (hlock : s.tat.lock ≠ .islanded) :
    ∃ r, s.beaconTimes b prev true = { s with tat := { s.tat with lock := .locked, next := some b }, ras := r } := by
  unfold State.beaconTimes
  dsimp only
  rw [if_neg (by decide), if_neg hlock]
  exact ⟨_, rfl⟩

/-- What an accepted beacon leaves of the net (R420). -/
theorem State.beaconAccept_locks {s : State} {b : BeaconTiming} {p : List Byte} (a s0 s1 : Nat) (hfollow : s.isFollower = false)
    (hfits : s.timingFits b.periodNs b.rowTime = true) (hlock : s.tat.lock ≠ .islanded) (hflags : b.flags = 0) (harm : s.tat.armE = 0)
    (hunfit : s.tat.armUnfit = false) (happlied : b.appliedE ≤ s.appliedE) :
    let t := s.beaconAccept b p a s0 s1
    t.tat.lock = .locked ∧ t.tat.next = some b ∧ t.tat.last = some b ∧ t.tat.missed = 0 ∧ t.tat.depth = (byteAt p 14).toNat + 1 ∧ t.par = s.par := by
  unfold State.beaconAccept
  extract_lets prev ratio rhos fits s1' net s2 s3 s4 t
  have hfits' : fits = true := by simp [fits, hfits, hunfit]
  have h1 : s1'.tat = s.tat := by simp [s1']
  have h2 : s2.tat = { s.tat with depth := (byteAt p 14).toNat + 1, missed := 0, last := some b, rhos := rhos } := by
    simp only [s2, net, h1, hfits', if_true]
  have h3 : s3.tat.core = s2.tat.core := s2.forwardBeacon_core p a s0 s1
  rw [h2] at h3
  have hpar3 : s3.par = s.par := by simp [s3, s2, s1']
  have hlock3 : s3.tat.lock = s.tat.lock := (congrArg Tatting.lock h3 :)
  obtain ⟨r, h4⟩ := State.beaconTimes_locks (s := s3) b prev (by rw [hlock3]; exact hlock)
  have hs4 : s4 = { s3 with tat := { s3.tat with lock := .locked, next := some b }, ras := r } := by
    rw [← h4, ← hfits']
    exact if_neg (by simp [hfollow])
  clear_value s4 s3
  subst hs4
  have harm3 : s3.tat.armE = 0 := (congrArg Tatting.armE h3 :).trans harm
  have happlied3 : b.appliedE ≤ s3.appliedE := by
    have happ : s3.tat.applied = s.tat.applied := (congrArg Tatting.applied h3 :)
    rw [State.appliedE, happ]
    exact happlied
  have ht : t = _ := State.hearEpochs_none p hflags harm3 happlied3
  rw [ht]
  exact ⟨rfl, rfl, (congrArg Tatting.last h3 :), (congrArg Tatting.missed h3 :), (congrArg Tatting.depth h3 :), hpar3⟩

/-! ## A beacon that is missing -/

theorem State.holdoverBeacon_core (s : State) (b : BeaconTiming) : (s.holdoverBeacon b).tat.core = s.tat.core := State.tatDown_core _ _ _

theorem beaconMissing_holds {q : BeaconTiming} {s : State} (hfollow : s.isFollower = false) (hroot : s.isRoot = false) (hlast : s.tat.last = some q)
    (hlock : s.tat.lock ≠ .islanded) (hnet : s.onNet = true) (hnext : s.tat.next = none) (hunfit : s.tat.armUnfit = false) (hmissed : s.tat.missed < 255) :
    ∃ t, exec .beaconMissing s = .next t ∧ t.tat.lock = .holdover ∧ t.tat.missed = s.tat.missed + 1 ∧
      t.tat.next = some (s.predict q) ∧ t.tat.last = some (s.predict q) ∧
      t.ras = { s.ras with heldChange := if s.param 0x5002 ≤ s.tat.missed + 1 then some .island else s.ras.heldChange } := by
  have hexec : exec .beaconMissing s = execBeaconMissing s := rfl
  have hbase : s.netBase = some q := by
    rw [State.netBase, if_pos (by simp [hfollow]), hlast]
  have hsat : sat 255 (s.tat.missed + 1) = s.tat.missed + 1 := Nat.min_eq_right (by omega)
  have hcount : (s.count 1281 1).tat = s.tat := by simp
  unfold execBeaconMissing at hexec
  rw [hbase] at hexec
  dsimp only at hexec
  rw [if_neg (by simp [hroot, hnext]), if_neg hlock, hsat, if_neg (by simp [hnet]), if_neg (by simp [hunfit]), hfollow] at hexec
  simp only [Bool.false_eq_true, if_false] at hexec
  generalize hb : s.predict q = b at hexec ⊢
  generalize hu : ({ s.count 1281 1 with tat := { (s.count 1281 1).tat with missed := s.tat.missed + 1, lock := .holdover, last := some b } } : State) = u
    at hexec
  have hutat : u.tat = { s.tat with missed := s.tat.missed + 1, lock := .holdover, last := some b } := by rw [← hu, ← hcount]
  have huras : u.ras = s.ras := by rw [← hu]; simp
  have hcore := u.holdoverBeacon_core b
  have hras : (u.holdoverBeacon b).ras = s.ras := by
    rw [← huras]
    simp
  rw [hutat] at hcore
  generalize u.holdoverBeacon b = v at hexec hcore hras
  have hvlock : v.tat.lock = .holdover := (congrArg Tatting.lock hcore :)
  have hvmissed : v.tat.missed = s.tat.missed + 1 := (congrArg Tatting.missed hcore :)
  have hvlast : v.tat.last = some b := (congrArg Tatting.last hcore :)
  by_cases hout : s.param 0x5002 ≤ s.tat.missed + 1
  · rw [if_pos (by simpa using hout)] at hexec
    obtain ⟨x, hx⟩ := done_eq (v.islandNext 1 b)
    rw [if_pos hout]
    exact ⟨_, hexec.trans hx, hvlock, hvmissed, rfl, hvlast, by rw [State.islandNext, hras]⟩
  · rw [if_neg (by simpa using hout)] at hexec
    obtain ⟨x, hx⟩ := done_eq { v with tat := { v.tat with next := some b } }
    rw [if_neg hout]
    exact ⟨_, hexec.trans hx, hvlock, hvmissed, rfl, hvlast, hras⟩

/-- Settles O53: what a beacon says is read off its payload, and what it leaves of the net is followed field by field. -/
theorem beaconsTimeFrames : Obligations.BeaconsTimeFrames := by
  unfold Obligations.BeaconsTimeFrames
  refine ⟨fun s hrun hroot hmode hst hdriven harm => beaconSend_root hrun hroot hmode hst hdriven harm, ?_, ?_,
    fun q s hfollow hroot hlast hlock hnet hnext hunfit hmissed => beaconMissing_holds hfollow hroot hlast hlock hnet hnext hunfit hmissed⟩
  · intro a s0 s1 codes p b s hm hst hlen hdepth htiming hfollow hfits hlock hflags harm hunfit happlied
    have hexec := exec_beacon a s0 s1 hm hst hlen hdepth
    obtain ⟨hsays, happ⟩ := s.beaconTiming_says a p
    rw [htiming] at hexec hsays happ
    rw [if_neg (by simp)] at hexec
    have hlocks := State.beaconAccept_locks (p := p) a s0 s1 hfollow hfits hlock (by rw [hsays, hflags]; rfl) harm hunfit (by rw [happ]; exact happlied)
    dsimp only at hexec hlocks
    generalize s.beaconAccept b p a s0 s1 = u at hexec hlocks
    obtain ⟨q, hq⟩ := done_eq u
    exact ⟨_, hexec.trans hq, hlocks⟩
  · intro a s0 s1 codes p b s hm hst hlen hdepth htiming
    have hexec := exec_beacon a s0 s1 hm hst hlen hdepth
    rw [htiming, if_pos (by simp)] at hexec
    obtain ⟨q, hq⟩ := done_eq (s.count 1282 1)
    exact ⟨q, hexec.trans hq⟩

end Sys2Proof.Machine
end

section
/-! CLAIM O54. Enumeration gives IDs and ends with totals or an error. -/

namespace Sys2Proof.Machine

/-- The end of an enumeration below the root answers the parent (R414). -/
theorem State.enumEnd_child {s : State} (hroot : s.isRoot = false) (r : EnumRun) : s.enumEnd r =
    ({ s with tat := { s.tat with enum_ := none } }).tatSend .up 0x21 (toLe 2 r.next ++ [Byte.of r.dmax, Byte.of r.err] ++ zeros 4) := by
  unfold State.enumEnd
  dsimp only
  rw [if_neg (by simp [hroot])]

/-- A device takes the ID it is offered, and with nothing below it that is all (R414). -/
theorem State.enumStart_leaf {s : State} {n limit depth : Nat} (hroot : s.isRoot = false) (hdepth : depth ≤ 16) (hlimit : n ≤ limit)
    (h0 : s.tat.dn0.st ≠ .up) (h1 : s.tat.dn1.st ≠ .up) : s.enumStart n limit depth =
      ({ s.enumCleared with tat := { s.enumCleared.tat with id := n, depth := depth } }).tatSend .up 0x21
        (toLe 2 (n + 1) ++ [Byte.of depth, Byte.of 0] ++ zeros 4) := by
  have hstart : s.enumStart n limit depth = ({ s.enumCleared with tat := { s.enumCleared.tat with id := n, depth := depth } }).enumPorts
      { next := n + 1, limit := limit, depth := depth, dmax := depth, err := 0, port := .dn0 } dnPorts :=
    if_neg (by simp; omega)
  have hport0 : ¬(({ s.enumCleared with tat := { s.enumCleared.tat with id := n, depth := depth } } : State).tat.port .dn0).st = .up := h0
  have hport1 : ¬(({ s.enumCleared with tat := { s.enumCleared.tat with id := n, depth := depth } } : State).tat.port .dn1).st = .up := h1
  rw [hstart, dnPorts, State.enumPorts, if_neg hport0, State.enumPorts, if_neg hport1, State.enumPorts]
  exact State.enumEnd_child (s := { s.enumCleared with tat := { s.enumCleared.tat with id := n, depth := depth } }) hroot _

theorem enumerate_leaf {codes : List (BitVec 10)} {m : List Byte} {s : State} (hm : tatHear codes = some (0x20, m)) (hdriven : s.tatDriven = true)
    (hlen : m.length = 8) (hroot : s.isRoot = false) (hdepth : (byteAt m 4).toNat ≤ 16) (hlimit : le2 m 0 ≤ le2 m 2) (hup : s.tat.up.st ≠ .down)
    (h0 : s.tat.dn0.st ≠ .up) (h1 : s.tat.dn1.st ≠ .up) :
    ∃ t, exec (.enumerate .up codes) s = .next t ∧ t.tat.id = le2 m 0 ∧ t.tat.depth = (byteAt m 4).toNat ∧ t.tat.enum_ = none ∧
      t.tat.topoChanged = false ∧
      t.tat.up.tx = tatInsert { kind := 0x21, payload := toLe 2 (le2 m 0 + 1) ++ [Byte.of (byteAt m 4).toNat, Byte.of 0] ++ zeros 4 } s.tat.up.tx := by
  have hexec : exec (.enumerate .up codes) s = runEnumerate .up m s := State.tatTake_heard (p := .up) _ hup hm
  rw [runEnumerate, if_neg (by simp [hlen, hroot]), State.enumStart_leaf hroot hdepth hlimit h0 h1] at hexec
  generalize hu : ({ s.enumCleared with tat := { s.enumCleared.tat with id := le2 m 0, depth := (byteAt m 4).toNat } } : State) = u at hexec
  have hcore := u.tatSend_core .up 0x21 (toLe 2 (le2 m 0 + 1) ++ [Byte.of (byteAt m 4).toNat, Byte.of 0] ++ zeros 4)
  have hopen : (u.tat.port .up).st ≠ .down ∧ (u.tat.port .up).tx = s.tat.up.tx := by
    rw [← hu]
    exact ⟨hup, rfl⟩
  have htx := State.tatSend_tx (s := u) 0x21 (toLe 2 (le2 m 0 + 1) ++ [Byte.of (byteAt m 4).toNat, Byte.of 0] ++ zeros 4) hopen.1
    (by rw [← hu]; exact hdriven)
  rw [hopen.2] at htx
  generalize u.tatSend .up 0x21 (toLe 2 (le2 m 0 + 1) ++ [Byte.of (byteAt m 4).toNat, Byte.of 0] ++ zeros 4) = v at hexec hcore htx
  obtain ⟨q, hq⟩ := done_eq v
  rw [← hu] at hcore
  exact ⟨_, hexec.trans hq, (congrArg Tatting.id hcore :), (congrArg Tatting.depth hcore :), (congrArg Tatting.enum_ hcore :),
    (congrArg Tatting.topoChanged hcore :), htx⟩

/-- The answer of the last child ends the root's enumeration (R414). -/
theorem enumDone_last {codes : List (BitVec 10)} {m : List Byte} {r : EnumRun} {s : State} (hm : tatHear codes = some (0x21, m))
    (hst : s.tat.dn1.st ≠ .down) (hlen : m.length = 8) (hroot : s.isRoot = true) (hrun : s.tat.enum_ = some r) (hport : r.port = .dn1) :
    ∃ t, exec (.enumDone .dn1 codes) s = .next t ∧ t.tat.enum_ = none ∧ t.tat.dn1.first = r.next ∧ t.tat.dn1.last = le2 m 0 - 1 ∧
      t.tat.netSize = le2 m 0 - 1 ∧ t.tat.netDepth = max r.dmax (byteAt m 2).toNat ∧ t.box.jobs.all (·.code != 0x00C0) = true := by
  have hexec : exec (.enumDone .dn1 codes) s = runEnumDone .dn1 m s := State.tatTake_heard (p := .dn1) _ hst hm
  unfold runEnumDone at hexec
  rw [if_neg (by simp [hlen])] at hexec
  dsimp only at hexec
  rw [hrun] at hexec
  dsimp only at hexec
  rw [if_neg (by simp [hport]), show portsAfter .dn1 = [] from rfl, State.enumPorts] at hexec
  obtain ⟨htat, hjobs⟩ := State.enumEnd_root (s := { s with tat := s.tat.setPort .dn1 { s.tat.port .dn1 with first := r.next, last := le2 m 0 - 1 } }) hroot
    { r with next := le2 m 0, dmax := max r.dmax (byteAt m 2).toNat, err := r.err ||| (byteAt m 3).toNat }
  generalize State.enumEnd { s with tat := s.tat.setPort .dn1 { s.tat.port .dn1 with first := r.next, last := le2 m 0 - 1 } }
    { r with next := le2 m 0, dmax := max r.dmax (byteAt m 2).toNat, err := r.err ||| (byteAt m 3).toNat } = u at hexec htat hjobs
  obtain ⟨q, hq⟩ := done_eq u
  exact ⟨_, hexec.trans hq, (congrArg Tatting.enum_ htat :), (congrArg (fun x => x.dn1.first) htat :), (congrArg (fun x => x.dn1.last) htat :),
    (congrArg Tatting.netSize htat :), (congrArg Tatting.netDepth htat :), hjobs⟩

/-- A child that does not answer ends the root's enumeration (R414). -/
theorem enumTimeout_last {r : EnumRun} {s : State} (hroot : s.isRoot = true) (hrun : s.tat.enum_ = some r) (hport : r.port = .dn1) :
    ∃ t, exec (.enumTimeout .dn1) s = .next t ∧ t.tat.enum_ = none ∧ t.tat.netSize = r.next - 1 ∧ t.tat.netDepth = r.dmax ∧
      t.box.jobs.all (·.code != 0x00C0) = true := by
  have hexec : exec (.enumTimeout .dn1) s = execEnumTimeout .dn1 s := rfl
  unfold execEnumTimeout at hexec
  dsimp only at hexec
  rw [hrun] at hexec
  dsimp only at hexec
  rw [if_neg (by simp [hport]), show portsAfter .dn1 = [] from rfl, State.enumPorts] at hexec
  obtain ⟨htat, hjobs⟩ := State.enumEnd_root hroot { r with err := r.err ||| 2 }
  generalize s.enumEnd { r with err := r.err ||| 2 } = u at hexec htat hjobs
  obtain ⟨q, hq⟩ := done_eq u
  exact ⟨_, hexec.trans hq, (congrArg Tatting.enum_ htat :), (congrArg Tatting.netSize htat :), (congrArg Tatting.netDepth htat :), hjobs⟩

/-- Settles O54 (log entry 60): with no further port to go to, each step of an enumeration is its end. -/
theorem enumerationGivesIds : Obligations.EnumerationGivesIds := by
  unfold Obligations.EnumerationGivesIds
  exact ⟨fun codes m s hm hdriven hlen hroot hdepth hlimit hup h0 h1 => enumerate_leaf hm hdriven hlen hroot hdepth hlimit hup h0 h1,
    fun codes m r s hm hst hlen hroot hrun hport => enumDone_last hm hst hlen hroot hrun hport,
    fun r s hroot hrun hport => enumTimeout_last hroot hrun hport⟩

end Sys2Proof.Machine
end

section
/-! CLAIM O55. Epoch sets, counts, aborts and PEER messages on the net. -/

namespace Sys2Proof.Machine

/-! ## Requests from the net for MB3 -/

/-- MB3 joins the order behind every request rung before it (R129). -/
theorem placeRing_mb3 (same : Mb → Bool) (l : List Mb) : placeRing same .mb3 l = l ++ [.mb3] := by
  induction l with
  | nil => rfl
  | cons j l ih =>
    have hrank : ¬mbRank .mb3 < mbRank j := by
      cases j <;> decide
    rw [placeRing, if_neg (by simp [hrank]), ih]
    rfl

/-- The one request that waits for MB3 is taken while MB3 is IDLE (R437). -/
theorem State.loadPeer_takes {s : State} {r : PeerReq} (hidle : s.box.mb3.st = .idle) (hpeers : s.box.peers = [r]) (hcomplete : r.complete = true) :
    s.loadPeer.box.mb3.st = .pending ∧ s.loadPeer.box.mb3.origin = .peer ∧ s.loadPeer.box.mb3.req = padBuf r.body ∧
    s.loadPeer.box.order = s.box.order ++ [.mb3] ∧ s.loadPeer.tat = s.tat := by
  have hfind : s.box.peers.find? (·.complete) = some r := by simp [hpeers, hcomplete]
  unfold State.loadPeer
  rw [if_pos hidle, hfind]
  dsimp only
  generalize padBuf r.body = b
  generalize BitVec.ofNat 16 (reqTag r.body) = tag
  exact ⟨rfl, rfl, rfl, placeRing_mb3 _ _, rfl⟩

/-! ## Epoch sets -/

theorem stageFragment_goesOn {codes : List (BitVec 10)} {m body : List Byte} {s : State} (hm : tatHear codes = some (0x30, m)) (hup : s.tat.up.st ≠ .down)
    (hlow : 8 ≤ m.length) (hhigh : m.length ≤ 256) (hroot : s.isRoot = false) (hdriven : s.tatDriven = true) (hpeers : s.box.peers = [])
    (hidle : s.box.mb3.st = .idle)
    (hbody : slice m 0 4 ++ toLe 2 (2 * b2n ((byteAt m 6).toNat.testBit 0) + b2n (le2 m 4 == 0)) ++ zeros 2 ++ toLe 4 (le2 m 4) ++ m.drop 8 = body) :
    ∃ t, exec (.stageFragment .up codes) s = .next t ∧ t.box.mb3.st = .pending ∧ t.box.mb3.origin = .peer ∧ t.box.order = s.box.order ++ [.mb3] ∧
      t.box.mb3.req = padBuf (toLe 2 0x00C1 ++ toLe 2 body.length ++ zeros 4 ++ body) ∧
      (s.tat.dn0.st ≠ .down → t.tat.dn0.tx = tatInsert { kind := 0x30, payload := m } s.tat.dn0.tx) ∧
      (s.tat.dn1.st ≠ .down → t.tat.dn1.tx = tatInsert { kind := 0x30, payload := m } s.tat.dn1.tx) := by
  have hexec : exec (.stageFragment .up codes) s = runStageFragment .up m s := State.tatTake_heard (p := .up) _ hup hm
  unfold runStageFragment at hexec
  rw [if_neg (by simp [hroot, hlow, hhigh])] at hexec
  dsimp only at hexec
  rw [bit, hbody] at hexec
  have hbox : (s.tatDown 0x30 m).box = s.box := by simp
  have h0 := State.tatDown_tx s 0x30 m (p := .dn0) (by decide)
  have h1 := State.tatDown_tx s 0x30 m (p := .dn1) (by decide)
  generalize hr : ({ src := s.tat.id, body := toLe 2 0x00C1 ++ toLe 2 body.length ++ zeros 4 ++ body, complete := true, here := true } : PeerReq) = r at hexec
  have hreq' : r.body = toLe 2 0x00C1 ++ toLe 2 body.length ++ zeros 4 ++ body := by rw [← hr]
  generalize s.tatDown 0x30 m = v at hexec hbox h0 h1
  obtain ⟨hst, horigin, hreq, horder, htat⟩ := State.loadPeer_takes (s := { v with box := { v.box with peers := v.box.peers ++ [r] } }) (r := r)
    (by rw [hbox]; exact hidle) (by rw [hbox, hpeers]; rfl) (by rw [← hr])
  rw [hreq'] at hreq
  generalize State.loadPeer { v with box := { v.box with peers := v.box.peers ++ [r] } } = w at hexec hst horigin hreq horder htat
  obtain ⟨q, hq⟩ := done_eq w
  refine ⟨_, hexec.trans hq, hst, horigin, ?_, hreq, fun h => ?_, fun h => ?_⟩
  · rw [← hbox]
    exact horder
  · exact (congrArg (fun x => x.dn0.tx) htat).trans (h0 h hdriven)
  · exact (congrArg (fun x => x.dn1.tx) htat).trans (h1 h hdriven)

/-- What a count that changes sends goes up (R426). -/
theorem State.countsChanged_port (s : State) {p : TatPort} (hp : p ≠ .up) : s.countsChanged.tat.port p = s.tat.port p := by
  have hend (t : State) (b : Bool) : (t.stageEnd b).tat = t.tat := by simp
  have hevent (t : State) (c e : Nat) : (t.epochEvent c e).tat = t.tat := by simp
  have hseen (t : State) (b : Bool) : (({ t with tat := { t.tat with skewSeen := b } } : State)).tat.port p = t.tat.port p := by
    cases p <;> rfl
  have hdirty (t : State) : (({ t with tat := { t.tat with countsDirty := true } } : State)).tat.port p = t.tat.port p := by
    cases p <;> rfl
  have hwatch (t : State) : t.skewWatch.tat.port p = t.tat.port p := by
    unfold State.skewWatch
    dsimp only
    split
    · rw [hevent, hseen]
    split
    · rw [hevent, hseen]
    · rfl
  unfold State.countsChanged
  split
  · rw [hwatch, hend]
  split
  · exact hdirty s
  · unfold State.sendCounts
    split
    · rfl
    · exact State.tatSend_other _ _ _ hp

theorem countUp_keeps {p : TatPort} {codes : List (BitVec 10)} {m : List Byte} {s : State} (hm : tatHear codes = some (0x31, m))
    (hst : (s.tat.port p).st ≠ .down) (hp : p ≠ .up) (hlen : m.length = 28) :
    ∃ t, exec (.countUp p codes) s = .next t ∧ (t.tat.port p).topology = (byteAt m 5).toNat.testBit 0 ∧
      (t.tat.port p).counts = [le4 m 0, le2 m 12, le2 m 14, le2 m 16, le2 m 18, le2 m 20, le2 m 22, le2 m 24] := by
  have hexec : exec (.countUp p codes) s = runCountUp p m s := State.tatTake_heard _ hst hm
  unfold runCountUp at hexec
  rw [if_neg (by simp [hp, hlen])] at hexec
  dsimp only at hexec
  generalize hv : ({ s.tat.port p with counts := [le4 m 0, le2 m 12, le2 m 14, le2 m 16, le2 m 18, le2 m 20, le2 m 22, le2 m 24], topology := bit (byteAt m 5).toNat 0 } : TatPortState) = v at hexec
  have hsays : v.topology = (byteAt m 5).toNat.testBit 0 ∧
      v.counts = [le4 m 0, le2 m 12, le2 m 14, le2 m 16, le2 m 18, le2 m 20, le2 m 22, le2 m 24] := by
    rw [← hv]
    exact ⟨rfl, rfl⟩
  by_cases hsame : v = s.tat.port p
  · rw [if_pos hsame] at hexec
    rw [hsame] at hsays
    exact ⟨s, hexec, hsays⟩
  · rw [if_neg hsame] at hexec
    have hport := State.countsChanged_port { s with tat := s.tat.setPort p v } hp
    rw [Tatting.port_setPort_self] at hport
    generalize State.countsChanged { s with tat := s.tat.setPort p v } = u at hexec hport
    obtain ⟨q, hq⟩ := done_eq u
    rw [← hport] at hsays
    exact ⟨_, hexec.trans hq, hsays⟩

theorem tatStageTimeout_ends {s : State} (hroot : s.isRoot = true) :
    ∃ t, exec .tatStageTimeout s = .next t ∧ t.box.jobs.all (·.code != 0x00C1) = true ∧ t.tat = s.tat := by
  have hexec : exec .tatStageTimeout s = execTatStageTimeout s := rfl
  rw [execTatStageTimeout, if_pos hroot] at hexec
  have htat : (s.stageEnd true).tat = s.tat := by simp
  have hjobs : (s.stageEnd true).box.jobs.all (·.code != 0x00C1) = true := by
    unfold State.stageEnd
    dsimp only
    rw [if_pos (.inr rfl), State.endJob_jobs, List.all_filter]
    simp
  obtain ⟨q, hq⟩ := done_eq (s.stageEnd true)
  exact ⟨_, hexec.trans hq, hjobs, htat⟩

theorem slice_whole (b : List Byte) : slice b 0 b.length = b := by
  refine List.ext_getElem (by simp) fun k h1 h2 => ?_
  simp [slice, byteAt, h2]

/-- A set of at most one fragment goes out as one STAGE message (R425). -/
theorem State.sendSet_one {s : State} {p : TatPort} {e : Nat} {b : List Byte} (hlow : 0 < b.length) (hhigh : b.length ≤ 248) :
    s.sendSet p e b = s.tatSend p 0x30 (toLe 4 e ++ toLe 2 0 ++ [1, 0] ++ b) := by
  have hcount : (b.length + 247) / 248 = 1 := by omega
  have hwhole : slice b 0 (min 248 b.length) = b := by rw [Nat.min_eq_right hhigh, slice_whole]
  unfold State.sendSet
  dsimp only
  rw [hcount]
  simp only [List.range_one, List.foldl_cons, List.foldl_nil, Nat.mul_zero, Nat.sub_zero, hwhole]
  rfl

theorem setReq_sends {p : TatPort} {codes : List (BitVec 10)} {m : List Byte} {x : Epoch} {s : State} (hm : tatHear codes = some (0x32, m))
    (hdriven : s.tatDriven = true) (hp : p ≠ .up) (hlen : m.length = 8) (hrec : s.epochRec (le4 m 0) = some x) (hheld : x.held = true)
    (hst : (s.tat.port p).st ≠ .down) (hlow : 0 < x.bytes.length) (hhigh : x.bytes.length ≤ 248) :
    ∃ t, exec (.setReq p codes) s = .next t ∧ (∀ q, q ≠ p → t.tat.port q = s.tat.port q) ∧
      (t.tat.port p).tx = tatInsert { kind := 0x30, payload := toLe 4 (le4 m 0) ++ toLe 2 0 ++ [1, 0] ++ x.bytes } (s.tat.port p).tx := by
  have hexec : exec (.setReq p codes) s = runSetReq p m s := State.tatTake_heard _ hst hm
  unfold runSetReq at hexec
  rw [if_neg (by simp [hp, hlen])] at hexec
  dsimp only at hexec
  rw [hrec] at hexec
  dsimp only at hexec
  rw [if_pos hheld, State.sendSet_one hlow hhigh] at hexec
  have hother (q : TatPort) (hq : q ≠ p) := State.tatSend_other s 0x30 (toLe 4 (le4 m 0) ++ toLe 2 0 ++ [1, 0] ++ x.bytes) hq
  have htx := State.tatSend_tx 0x30 (toLe 4 (le4 m 0) ++ toLe 2 0 ++ [1, 0] ++ x.bytes) hst hdriven
  obtain ⟨q, hq⟩ := done_eq (s.tatSend p 0x30 (toLe 4 (le4 m 0) ++ toLe 2 0 ++ [1, 0] ++ x.bytes))
  exact ⟨_, hexec.trans hq, hother, htx⟩

theorem abortEpoch_drops {codes : List (BitVec 10)} {m : List Byte} {x : Epoch} {s : State} (hm : tatHear codes = some (0x33, m))
    (hup : s.tat.up.st ≠ .down) (hlen : m.length = 8) (hroot : s.isRoot = false) (hstaged : s.tat.staged = some x) (he : x.e = le4 m 0)
    (hst : x.st ≠ .aborted) :
    ∃ t, exec (.abortEpoch .up codes) s = .next t ∧ t.tat.staged = some { x with st := .aborted, bytes := [] } ∧ t.par = s.par := by
  have hexec : exec (.abortEpoch .up codes) s = runAbortEpoch .up m s := State.tatTake_heard (p := .up) _ hup hm
  rw [runAbortEpoch, if_neg (by simp [hlen, hroot]), ← he] at hexec
  have hpar : (s.tatDown 0x33 m).par = s.par := by simp
  have hkept : (s.tatDown 0x33 m).tat.staged = some x := (Tatting.staged_of_core (s.tatDown_core 0x33 m)).trans hstaged
  obtain ⟨hdrop, hpar'⟩ := State.epochDrop_staged hkept hst
  obtain ⟨q, hq⟩ := done_eq ((s.tatDown 0x33 m).epochDrop x.e)
  exact ⟨_, hexec.trans hq, hdrop, hpar'.trans hpar⟩

/-! ## PEER -/

theorem exec_peer {p : TatPort} {codes : List (BitVec 10)} {m : List Byte} {s : State} (hm : tatHear codes = some (0x40, m))
    (hst : (s.tat.port p).st ≠ .down) (hlow : 8 ≤ m.length) (hhigh : m.length ≤ 256) : exec (.peer p codes) s =
      if le2 m 0 = s.tat.id && le2 m 0 ≠ 0 then done ((s.count 1290 1).peerGather m)
      else match (s.count 1290 1).peerRoute (le2 m 0) with
        | some p => done ((s.count 1290 1).tatSend p 0x40 m)
        | none => done (s.count 1290 1).peerRefuse := by
  have hexec : exec (.peer p codes) s = runPeer p m s := State.tatTake_heard _ hst hm
  rw [hexec, runPeer, if_neg (by simp [hst, hlow, hhigh])] <;> rfl

theorem peer_routed {p : TatPort} {codes : List (BitVec 10)} {m : List Byte} {s : State} (hm : tatHear codes = some (0x40, m))
    (hst : (s.tat.port p).st ≠ .down) (hlow : 8 ≤ m.length) (hhigh : m.length ≤ 256) (hid : le2 m 0 ≠ s.tat.id) (hfirst : s.tat.dn0.first ≤ le2 m 0)
    (hlast : le2 m 0 ≤ s.tat.dn0.last) (h0 : s.tat.dn0.st ≠ .down) (hdriven : s.tatDriven = true) :
    ∃ t, exec (.peer p codes) s = .next t ∧ t.tat.dn0.tx = tatInsert { kind := 0x40, payload := m } s.tat.dn0.tx ∧ t.box = s.box := by
  have hexec := exec_peer hm hst hlow hhigh
  rw [if_neg (by simp [hid])] at hexec
  have htat : (s.count 1290 1).tat = s.tat := by simp
  have hbox : (s.count 1290 1).box = s.box := by simp
  have hdriven' : (s.count 1290 1).tatDriven = true := by
    rw [← hdriven]
    simp [State.tatDriven, State.domOn]
  generalize s.count 1290 1 = u at hexec htat hbox hdriven'
  have hroute : u.peerRoute (le2 m 0) = some .dn0 := by
    rw [State.peerRoute, htat, if_pos (by simp [TatPortState.hasId, hfirst, hlast])]
  rw [hroute] at hexec
  dsimp only at hexec
  have htx := State.tatSend_tx (s := u) (p := .dn0) 0x40 m (by rw [htat]; exact h0) hdriven'
  rw [htat] at htx
  have hkept : (u.tatSend .dn0 0x40 m).box = u.box := by simp
  obtain ⟨q, hq⟩ := done_eq (u.tatSend .dn0 0x40 m)
  exact ⟨_, hexec.trans hq, htx, hkept.trans hbox⟩

theorem peer_mine {p : TatPort} {codes : List (BitVec 10)} {m : List Byte} {s : State} (hm : tatHear codes = some (0x40, m))
    (hst : (s.tat.port p).st ≠ .down) (hlow : 8 ≤ m.length) (hhigh : m.length ≤ 256) (hid : le2 m 0 = s.tat.id) (hsome : le2 m 0 ≠ 0)
    (hpeers : s.box.peers = []) (hidle : s.box.mb3.st = .idle) (hfrag : (byteAt m 4).toNat % 4 = 3) (hoff : le2 m 6 = 0) :
    ∃ t, exec (.peer p codes) s = .next t ∧ t.box.mb3.st = .pending ∧ t.box.mb3.req = padBuf (m.drop 8) ∧ t.box.order = s.box.order ++ [.mb3] := by
  have hexec := exec_peer hm hst hlow hhigh
  rw [if_pos (by simp [← hid, hsome])] at hexec
  have hbox : (s.count 1290 1).box = s.box := by simp
  have hbit0 : bit (byteAt m 4).toNat 0 = true := by
    simp [bit, Nat.testBit, Nat.shiftRight_eq_div_pow]
    omega
  have hbit1 : bit (byteAt m 4).toNat 1 = true := by
    simp [bit, Nat.testBit, Nat.shiftRight_eq_div_pow]
    omega
  generalize s.count 1290 1 = u at hexec hbox
  unfold State.peerGather at hexec
  dsimp only at hexec
  rw [hbox, hpeers, hbit0, hbit1, if_pos rfl, if_pos hoff] at hexec
  obtain ⟨hst', -, hreq, horder, -⟩ := State.loadPeer_takes (s := { u with box := { s.box with
      peers := [{ src := le2 m 2, body := m.drop 8, complete := true, here := false }] } })
    (r := { src := le2 m 2, body := m.drop 8, complete := true, here := false }) hidle rfl rfl
  obtain ⟨q, hq⟩ := done_eq (State.loadPeer { u with box := { s.box with
    peers := [{ src := le2 m 2, body := m.drop 8, complete := true, here := false }] } })
  exact ⟨_, hexec.trans hq, hst', hreq, horder⟩

/-- Settles O55: each message is followed to the queue, the mailbox or the record that it changes. -/
theorem epochTrafficIsCarried : Obligations.EpochTrafficIsCarried := by
  unfold Obligations.EpochTrafficIsCarried
  refine ⟨?_, fun p codes m s hm hst hp hlen => countUp_keeps hm hst hp hlen, fun s hroot => tatStageTimeout_ends hroot, ?_, ?_, ?_⟩
  · intro codes m s hm hup hlow hhigh hroot hdriven hpeers hidle
    exact stageFragment_goesOn hm hup hlow hhigh hroot hdriven hpeers hidle rfl
  · intro p codes m x s hm hdriven hp hlen hrec hheld hst hlow hhigh
    exact setReq_sends hm hdriven hp hlen hrec hheld hst hlow hhigh
  · intro codes m x s hm hup hlen hroot hstaged he hst
    exact abortEpoch_drops hm hup hlen hroot hstaged he hst
  · intro p codes m s hm hst hlow hhigh
    refine ⟨fun hid hfirst hlast h0 hdriven => peer_routed hm hst hlow hhigh hid hfirst hlast h0 hdriven, ?_⟩
    intro hid hsome hpeers hidle hfrag hoff
    exact peer_mine hm hst hlow hhigh hid hsome hpeers hidle hfrag hoff

end Sys2Proof.Machine
end

section
/-! CLAIM O56. PAIR_FRAME, PAIR_STROBE and PAIR_EVENT between the two panels of a pair. -/

namespace Sys2Proof.Machine

/-! ## The master is heard -/

/-- What the master's messages leave of the net and the frame before they give a start. -/
theorem State.pairHeard_says (s : State) : s.pairHeard.tat = { s.tat with lock := .follower, missed := 0 } ∧ s.pairHeard.ras.frame = s.ras.frame ∧
    s.pairHeard.thm = s.thm ∧ s.pairHeard.pipe = s.pipe := by
  have hback (c : Prop) [Decidable c] (a b : Nat) (x : Severity) (y : Bool) (z : Nat) : (if c then s.event a x y z b else s).tat = s.tat ∧
      (if c then s.event a x y z b else s).ras = s.ras ∧ (if c then s.event a x y z b else s).thm = s.thm ∧
      (if c then s.event a x y z b else s).pipe = s.pipe := by
    split
    · simp
    · exact ⟨rfl, rfl, rfl, rfl⟩
  unfold State.pairHeard
  dsimp only
  obtain ⟨htat, hras, hthm, hpipe⟩ := hback (s.tat.lock = .islanded) 0x5001 (4 * 2 ^ 24 + 1) .info true 3
  rw [htat, hras, hthm, hpipe]
  exact ⟨rfl, rfl, rfl, rfl⟩

theorem State.pairMode_says (s : State) (m : Nat) : (s.pairMode m).tat = s.tat ∧ (s.pairMode m).ras.frame = s.ras.frame ∧ (s.pairMode m).pipe = s.pipe := by
  refine ⟨by simp, ?_, by simp⟩
  unfold State.pairMode
  split
  · rfl
  split
  · rfl
  · exact congrArg Scan.frame (State.setActive_scan _ _ _)

/-- The frame start that the master gave, as the follower keeps it (R267). -/
theorem State.pairStart_says (s : State) (frame : BitVec 32) (t : Int) (d extra rowTime : Nat) (hoopOnly : Bool) :
    ∃ b, (s.pairStart frame t d extra rowTime hoopOnly).tat = { s.tat with next := some b } ∧
      (s.pairStart frame t d extra rowTime hoopOnly).pipe = s.pipe ∧ b.frame = frame ∧ b.rowTime = rowTime ∧ b.start = roundDiv (3 * t) (40 * d) + extra :=
  ⟨_, rfl, rfl, rfl, rfl, rfl⟩

/-- What PAIR_FRAME makes of the state before it gives a start or the facts of one (R435). -/
def State.pairTold (s : State) (m : List Byte) : State :=
  let t := ((s.pairHeard).pairMode (byteAt m 10).toNat).pairScale (byteAt m 10).toNat (le2 m 8)
  if bit (byteAt m 11).toNat 2 then { t with tat := { t.tat with pairTrans := some (BitVec.ofNat 32 (le4 m 0)) } } else t

theorem State.pairTold_says (s : State) (m : List Byte) : (s.pairTold m).ras.frame = s.ras.frame ∧ (s.pairTold m).pipe = s.pipe ∧
    ∃ x, (s.pairTold m).tat = { s.tat with lock := .follower, missed := 0, pairTrans := x } := by
  obtain ⟨htat, hframe, -, hpipe⟩ := s.pairHeard_says
  obtain ⟨htat', hframe', hpipe'⟩ := s.pairHeard.pairMode_says (byteAt m 10).toNat
  have hscale (t : State) (a b : Nat) : (t.pairScale a b).tat = t.tat ∧ (t.pairScale a b).ras = t.ras ∧ (t.pairScale a b).pipe = t.pipe := ⟨rfl, rfl, rfl⟩
  obtain ⟨h1, h2, h3⟩ := hscale (s.pairHeard.pairMode (byteAt m 10).toNat) (byteAt m 10).toNat (le2 m 8)
  unfold State.pairTold
  dsimp only
  split
  · refine ⟨?_, ?_, some (BitVec.ofNat 32 (le4 m 0)), ?_⟩
    · rw [h2, hframe', hframe]
    · rw [h3, hpipe', hpipe]
    · rw [h1, htat', htat]
  · refine ⟨?_, ?_, s.tat.pairTrans, ?_⟩
    · rw [h2, hframe', hframe]
    · rw [h3, hpipe', hpipe]
    · rw [h1, htat', htat]

theorem State.pairOpen_up {s : State} {p : TatPort} (h : s.pairOpen p = true) : (s.tat.port p).st ≠ .down := by
  simp only [State.pairOpen, Bool.and_eq_true, beq_iff_eq] at h
  rw [h.2]
  decide

/-- The state with a row of the pair's dither sequence given (R435). -/
def State.pairPhase (s : State) (m : List Byte) : State :=
  let q := if s.pipe.suspended || s.param 0x3C02 = 0 then s.pipe.phaseUsed else byteAt m 12
  { s with pipe := { s.pipe with phase := byteAt m 12, phaseUsed := q } }

/-- The state with the start of the master's next frame still to be placed (R435). -/
def State.pairAhead (s : State) (m : List Byte) : State :=
  { s with tat := { s.tat with pairHoop := some (bit (byteAt m 11).toNat 0) }, pipe := { s.pipe with phase := byteAt m 12 - 1 } }

section
variable {arrived : Nat} {codes : List (BitVec 10)} {m : List Byte} {s : State} (hm : tatHear codes = some (0x50, m)) (hfollow : s.isFollower = true)
  (hopen : s.pairOpen .up = true) (hlen : m.length = 16)

include hm hfollow hopen hlen

theorem exec_pairFrame : exec (.pairFrame arrived codes) s =
    (let u := s.pairTold m
     let hoop := bit (byteAt m 11).toNat 0
     if BitVec.ofNat 32 (le4 m 0) = u.ras.frame then done ((u.pairPhase m).count 649 (b2n (u.ras.running && hoop == (u.ras.kind == .live))))
     else done ((u.pairAhead m).pairStart (BitVec.ofNat 32 (le4 m 0)) ((arrived + u.tat.hopDelay) * u.tat.rho.2 + signed 32 (le4 m 4) * u.tat.rho.1)
       u.tat.rho.2 0 (le2 m 8) (bit (byteAt m 11).toNat 2 || (byteAt m 10).toNat == 1 || (byteAt m 10).toNat == 3))) := by
  have hexec : exec (.pairFrame arrived codes) s = runPairFrame arrived m s := State.tatTake_heard _ (State.pairOpen_up hopen) hm
  rw [hexec, runPairFrame, if_neg (by simp [hfollow, hopen, hlen])]
  rfl

/-- PAIR_FRAME for the frame being displayed brings its facts (R435). -/
theorem pairFrame_same (hframe : BitVec.ofNat 32 (le4 m 0) = s.ras.frame) :
    ∃ t, exec (.pairFrame arrived codes) s = .next t ∧ t.pipe.phase = byteAt m 12 ∧ t.tat.next = s.tat.next ∧ t.tat.lock = .follower ∧ t.tat.missed = 0 := by
  have hexec := exec_pairFrame (arrived := arrived) hm hfollow hopen hlen
  obtain ⟨hsame, -, x, htat⟩ := s.pairTold_says m
  dsimp only at hexec
  rw [if_pos (by rw [hsame, hframe])] at hexec
  generalize s.pairTold m = u at hexec htat
  generalize b2n (u.ras.running && bit (byteAt m 11).toNat 0 == (u.ras.kind == .live)) = n at hexec
  have hpipe : ((u.pairPhase m).count 649 n).pipe.phase = byteAt m 12 := by simp [State.pairPhase]
  have htat' : ((u.pairPhase m).count 649 n).tat = u.tat := by simp [State.pairPhase]
  rw [htat] at htat'
  generalize (u.pairPhase m).count 649 n = v at hexec hpipe htat'
  obtain ⟨q, hq⟩ := done_eq v
  exact ⟨_, hexec.trans hq, hpipe, (congrArg Tatting.next htat' :), (congrArg Tatting.lock htat' :), (congrArg Tatting.missed htat' :)⟩

/-- PAIR_FRAME for another frame gives the follower its next start (R267, R435). -/
theorem pairFrame_next (hframe : BitVec.ofNat 32 (le4 m 0) ≠ s.ras.frame) :
    ∃ t b, exec (.pairFrame arrived codes) s = .next t ∧ t.tat.next = some b ∧ b.frame = BitVec.ofNat 32 (le4 m 0) ∧ b.rowTime = le2 m 8 ∧
      b.start = roundDiv (3 * (((arrived + s.tat.hopDelay : Nat) : Int) * s.tat.rho.2 + signed 32 (le4 m 4) * s.tat.rho.1)) (40 * s.tat.rho.2) ∧
      t.tat.lock = .follower ∧ t.tat.missed = 0 ∧ t.tat.pairHoop = some ((byteAt m 11).toNat.testBit 0) ∧ t.pipe.phase + 1 = byteAt m 12 := by
  have hexec := exec_pairFrame (arrived := arrived) hm hfollow hopen hlen
  obtain ⟨hsame, -, x, htat⟩ := s.pairTold_says m
  dsimp only at hexec
  rw [if_neg (by rw [hsame]; exact hframe)] at hexec
  generalize s.pairTold m = u at hexec htat
  have hrho : u.tat.rho = s.tat.rho := by rw [htat]; rfl
  have hhop : u.tat.hopDelay = s.tat.hopDelay := by rw [htat]
  rw [hrho, hhop, ← Int.natCast_add] at hexec
  generalize (bit (byteAt m 11).toNat 2 || (byteAt m 10).toNat == 1 || (byteAt m 10).toNat == 3) = only at hexec
  obtain ⟨b, hnext, hpipe, hbframe, hbrow, hbstart⟩ := (u.pairAhead m).pairStart_says (BitVec.ofNat 32 (le4 m 0))
    (((arrived + s.tat.hopDelay : Nat) : Int) * s.tat.rho.2 + signed 32 (le4 m 4) * s.tat.rho.1) s.tat.rho.2 0 (le2 m 8) only
  generalize (u.pairAhead m).pairStart (BitVec.ofNat 32 (le4 m 0))
    (((arrived + s.tat.hopDelay : Nat) : Int) * s.tat.rho.2 + signed 32 (le4 m 4) * s.tat.rho.1) s.tat.rho.2 0 (le2 m 8) only = v at hexec hnext hpipe
  obtain ⟨q, hq⟩ := done_eq v
  have hphase : v.pipe.phase + 1 = byteAt m 12 := by
    rw [hpipe]
    exact BitVec.sub_add_cancel _ _
  have hahead : (u.pairAhead m).tat = { u.tat with pairHoop := some (bit (byteAt m 11).toNat 0) } := rfl
  rw [hahead, htat] at hnext
  exact ⟨_, b, hexec.trans hq, (congrArg Tatting.next hnext :), hbframe, hbrow, hbstart, (congrArg Tatting.lock hnext :), (congrArg Tatting.missed hnext :),
    (congrArg Tatting.pairHoop hnext :), hphase⟩

end

/-- The strobe gives the follower the start of its master's live frame (R435). -/
theorem pairStrobe_next (arrived : Nat) {s : State} (hfollow : s.isFollower = true) (hopen : s.pairOpen .up = true) :
    ∃ t b, exec (.pairStrobe arrived) s = .next t ∧ t.tat.next = some b ∧ b.frame = s.ras.frame + 1 ∧
      b.start = roundDiv (3 * ((arrived : Int) - s.tat.hopDelay)) 40 + (if s.scaled then 360 else 180) ∧
      t.tat.lock = .follower ∧ t.tat.pairHoop = some false := by
  have hexec : exec (.pairStrobe arrived) s = execPairStrobe arrived s := rfl
  unfold execPairStrobe at hexec
  rw [if_neg (by simp [hfollow, hopen])] at hexec
  dsimp only at hexec
  obtain ⟨htat, hframe, hthm, -⟩ := s.pairHeard_says
  generalize s.pairHeard = u at hexec htat hframe hthm
  obtain ⟨b, hnext, -, hbframe, -, hbstart⟩ := State.pairStart_says { u with tat := { u.tat with pairHoop := some false } } (u.ras.frame + 1)
    ((arrived : Int) - u.tat.hopDelay) 1 (State.slotDelay { u with tat := { u.tat with pairHoop := some false } }) u.ras.rowTime false
  generalize State.pairStart { u with tat := { u.tat with pairHoop := some false } } (u.ras.frame + 1)
    ((arrived : Int) - u.tat.hopDelay) 1 (State.slotDelay { u with tat := { u.tat with pairHoop := some false } }) u.ras.rowTime false = v at hexec hnext
  obtain ⟨q, hq⟩ := done_eq v
  have hslot : State.slotDelay { u with tat := { u.tat with pairHoop := some false } } = if s.scaled then 360 else 180 := by
    have hscaled : State.scaled { u with tat := { u.tat with pairHoop := some false } } = s.scaled := by simp only [State.scaled, hthm]
    rw [State.slotDelay, hscaled]
  have hhop : u.tat.hopDelay = s.tat.hopDelay := by rw [htat]
  rw [hslot, hhop] at hbstart
  rw [hframe] at hbframe
  dsimp only at hnext
  rw [htat] at hnext
  exact ⟨_, b, hexec.trans hq, (congrArg Tatting.next hnext :), hbframe, hbstart, (congrArg Tatting.lock hnext :), (congrArg Tatting.pairHoop hnext :)⟩

/-! ## PAIR_EVENT -/

section
variable {p : TatPort} {codes : List (BitVec 10)} {m : List Byte} {s : State} (hm : tatHear codes = some (0x51, m)) (hopen : s.pairOpen p = true)
  (hlen : m.length = 16)

include hm hopen hlen

theorem exec_pairEvent : exec (.pairEvent p codes) s =
    if (byteAt m 4).toNat = 5 then
      if s.isFollower then .next s else done ({ s with tat := { s.tat with followerT4 := bit (le2 m 6) 0 } }).t4Check
    else if s.ras.running && !s.ras.inBlank && s.ras.frame.toNat = le4 m 0 then done (s.pairActs (byteAt m 4).toNat (le2 m 6))
    else if (byteAt m 4).toNat = 4 then done { s with ras := { s.ras with tagHold := true } }
    else .next s := by
  have hexec : exec (.pairEvent p codes) s = runPairEvent p m s := State.tatTake_heard _ (State.pairOpen_up hopen) hm
  rw [hexec, runPairEvent, if_neg (by simp [hopen, hlen])]

/-- An event of the frame being scanned acts on it (R436). -/
theorem pairEvent_acts {kind : Byte} (hkind : byteAt m 4 = kind) (hnot : kind ≠ 5) (hrun : s.ras.running = true) (hblank : s.ras.inBlank = false)
    (hframe : s.ras.frame.toNat = le4 m 0) : exec (.pairEvent p codes) s = done (s.pairActs kind.toNat (le2 m 6)) := by
  have hnat : ¬kind.toNat = 5 := fun h => hnot (BitVec.eq_of_toNat_eq h)
  have hexec := exec_pairEvent hm hopen hlen
  rw [hkind, if_neg hnat, if_pos (by simp [hrun, hblank, hframe])] at hexec
  exact hexec

theorem pairEvent_hold (hkind : byteAt m 4 = 4) : ∃ t, exec (.pairEvent p codes) s = .next t ∧ t.ras.tagHold = true := by
  have hexec := exec_pairEvent hm hopen hlen
  have hrows (t : State) (row : Nat) : (t.repeatRows row).ras.tagHold = t.ras.tagHold := by
    have hhoop (u : State) (b : Bool) (f : HoopFrame → HoopFrame) : (u.onHoop b f).ras = u.ras := by simp
    unfold State.repeatRows
    split
    · rw [hhoop]
    · rfl
  rw [hkind, if_neg (by decide)] at hexec
  split at hexec
  · have hacts : (s.pairActs (4 : Byte).toNat (le2 m 6)).ras.tagHold = true := hrows _ _
    generalize s.pairActs (4 : Byte).toNat (le2 m 6) = u at hexec hacts
    obtain ⟨q, hq⟩ := done_eq u
    exact ⟨_, hexec.trans hq, hacts⟩
  · rw [if_pos (by decide)] at hexec
    obtain ⟨q, hq⟩ := done_eq _
    exact ⟨_, hexec.trans hq, rfl⟩

theorem pairEvent_t4 (hkind : byteAt m 4 = 5) : (s.isFollower = true → exec (.pairEvent p codes) s = .next s) ∧
    (s.isFollower = false → s.ras.running = false →
      ∃ q, exec (.pairEvent p codes) s = .next { s with tat := { s.tat with followerT4 := (le2 m 6).testBit 0 }, pwr := q }) := by
  have hexec := exec_pairEvent hm hopen hlen
  rw [hkind, if_pos (by decide)] at hexec
  refine ⟨fun hfollow => ?_, fun hfollow hrun => ?_⟩
  · rw [if_pos hfollow] at hexec
    exact hexec
  · have hcheck : State.t4Check { s with tat := { s.tat with followerT4 := bit (le2 m 6) 0 } } = { s with tat := { s.tat with followerT4 := bit (le2 m 6) 0 } } :=
      if_pos (by simp [hrun])
    rw [if_neg (by simp [hfollow]), hcheck] at hexec
    obtain ⟨q, hq⟩ := done_eq _
    exact ⟨q, hexec.trans hq⟩

end

theorem State.pairActs_abort (s : State) (row : Nat) : s.pairActs (2 : Byte).toNat row =
    { s with ras := { s.ras with abortAt := some (match s.ras.abortAt with | some r => min row r | none => row) } } := by
  cases h : s.ras.abortAt <;> simp [State.pairActs, h]

theorem State.pairActs_repeat {s : State} (row : Nat) (hlive : s.ras.kind = .live) : (s.pairActs (3 : Byte).toNat row).ras =
    { s.ras with repeatFrom := some (match s.ras.repeatFrom with | some r => min row r | none => row) } := by
  cases h : s.ras.repeatFrom <;> simp [State.pairActs, State.repeatRows, hlive, h]

theorem State.pairActs_preempt {s : State} (row : Nat) (hfollow : s.isFollower = true) (hkind : s.ras.kind = .hoop) :
    (s.pairActs (1 : Byte).toNat row).ras = { s.ras with rowEnd := min s.ras.rowEnd (max row s.ras.rowsStarted) } := by
  simp [State.pairActs, hfollow, hkind]

/-- The follower repeats its report while the pair's timing does not match it (R436). -/
theorem pairEventRepeat_sends {s : State} (hfollow : s.isFollower = true) (hscaled : s.scaled ≠ s.tat.lastKind5) (hup : s.tat.up.st ≠ .down)
    (hdriven : s.tatDriven = true) :
    let m := toLe 4 s.ras.frame.toNat ++ [5, 0] ++ toLe 2 (b2n s.tat.lastKind5) ++ zeros 8
    ∃ t, exec .pairEventRepeat s = .next t ∧ t.tat.up.tx = tatInsert { kind := 0x51, payload := m } s.tat.up.tx := by
  intro m
  have hexec : exec .pairEventRepeat s = .next (s.pairEvent 5 (b2n s.tat.lastKind5)) := by
    have hdef : exec .pairEventRepeat s = execPairEventRepeat s := rfl
    rw [hdef, execPairEventRepeat, if_pos (by simp [hfollow, hscaled])]
    rfl
  have hrole : s.param 0x2807 = 1 ∧ s.boot.straps.pairRight = true := by simpa [State.isFollower] using hfollow
  have hport : s.pairPort = .up := if_pos hrole.2
  have hsent : s.pairEvent 5 (b2n s.tat.lastKind5) = s.tatSend .up 0x51 m := by
    rw [State.pairEvent, if_pos hrole.1, hport]
    rfl
  rw [hsent] at hexec
  exact ⟨_, hexec, State.tatSend_tx (p := .up) 0x51 m hup hdriven⟩

/-- Settles O56 (log entries 62 and 54): each message is followed to the start it gives or to the frame's field it changes. -/
theorem pairsRunTogether : Obligations.PairsRunTogether := by
  unfold Obligations.PairsRunTogether
  refine ⟨?_, fun arrived s hfollow hopen => pairStrobe_next arrived hfollow hopen, ?_,
    fun s hfollow hscaled hup hdriven => pairEventRepeat_sends hfollow hscaled hup hdriven, ?_⟩
  · intro arrived codes m s hm hfollow hopen hlen
    exact ⟨pairFrame_same hm hfollow hopen hlen, pairFrame_next hm hfollow hopen hlen⟩
  · intro p codes m s hm hopen hlen
    refine ⟨?_, ?_, ?_, fun hkind => pairEvent_hold hm hopen hlen hkind, ?_, fun hkind => (pairEvent_t4 hm hopen hlen hkind).1⟩
    · intro hkind hrun hblank hframe
      have hexec := pairEvent_acts hm hopen hlen hkind (by decide) hrun hblank hframe
      rw [State.pairActs_abort] at hexec
      obtain ⟨q, hq⟩ := done_eq _
      exact ⟨q, hexec.trans hq⟩
    · intro hkind hrun hblank hframe hlive
      have hexec := pairEvent_acts hm hopen hlen hkind (by decide) hrun hblank hframe
      have hacts := State.pairActs_repeat (le2 m 6) hlive
      obtain ⟨q, hq⟩ := done_eq (s.pairActs (3 : Byte).toNat (le2 m 6))
      exact ⟨_, hexec.trans hq, hacts⟩
    · intro hkind hfollow hrun hblank hframe hhoop
      have hexec := pairEvent_acts hm hopen hlen hkind (by decide) hrun hblank hframe
      have hacts := State.pairActs_preempt (le2 m 6) hfollow hhoop
      obtain ⟨q, hq⟩ := done_eq (s.pairActs (1 : Byte).toNat (le2 m 6))
      exact ⟨_, hexec.trans hq, hacts⟩
    · exact fun hkind => (pairEvent_t4 hm hopen hlen hkind).2
  · intro s hnot
    have hdef : exec .pairEventRepeat s = execPairEventRepeat s := rfl
    rw [hdef, execPairEventRepeat]
    rcases hnot with hfollow | hscaled
    · exact if_neg (by simp [hfollow])
    · exact if_neg (by simp [hscaled])

end Sys2Proof.Machine
end

end
